-- ==== Sys2Proof/Word.lean ====
section
/-! DEFINITION. The word types of the Choide and their plainest arithmetic (R4, R5, R43). -/

namespace Sys2Proof

/-- A general register, control register or frame dword: 64 bits (R159, R161). -/
abbrev Word := BitVec 64

/-- The smallest addressable unit (R5). -/
abbrev Byte := BitVec 8

/-- R178: a 64-bit value whose low 32 bits are sign-extended. -/
def sext32 (x : Word) : Word := (x.setWidth 32).signExtend 64

/-- A Bool as the integer 0 or 1. -/
def b2n (b : Bool) : Nat := if b then 1 else 0

end Sys2Proof
end

