-- ==== Sys2Proof/Config.lean ====
section
/-! DEFINITION. What is fixed for the part: the figures of R1 that other rules use, the defaults of the configuration
image (R440), and the free values, which have no body and of which nothing can be proved. -/

namespace Sys2Proof.Config

/-- R1, R80: bytes of a Sole core's scratchpad. -/
def soleSpad : Nat := 0x200000
/-- R1, R108: bytes of an Upper station's SRAM block. -/
def upperSram : Nat := 0x800000
/-- R1: bytes of a package's HBM that pages can use: 480 GB. -/
def hbmUsable : Nat := 480 * 10 ^ 9
/-- R1, R415: bytes of the Heel. -/
def heelBytes : Nat := 0x6000000
/-- R1: Sole tile cores of the package. -/
def soleCores : Nat := 192
/-- R1: Upper stations of the package. -/
def upperStations : Nat := 64
/-- R349, R351: reference ticks are 10 ns, and OP7 has 21 arithmetic cycles in one. -/
def slotsPerTick : Nat := 21
/-- R351: arithmetic cycles of one reference tick at an operating point, 0.7 GHz to 2.1 GHz. -/
def cyclesPerTick (op : Nat) : Nat := 7 + 2 * op
/-- R351: the voltage band of an operating point. -/
def band (op : Nat) : Nat := op / 2
/-- R333, R334: TCLK has 48 bits. -/
def tclkLimit : Nat := 2 ^ 48
/-- R350: the reset value of GRACE. -/
def graceReset : Nat := 100000
/-- R337: pending latches a context may hold. -/
def maxLatches : Nat := 32
/-- R344: entries of an engine's command queue. -/
def queueDepth : Nat := 4
/-- R99: control words on a claim list. -/
def maxClaims : Nat := 8
/-- R296: sequence slots of the Welt. -/
def weltSlots : Nat := 1024
/-- R301: PQCAP from boot. -/
def pqcapBoot : Nat := 16384
/-- R388: sessions that may be open. -/
def maxSessions : Nat := 64
/-- R398: headers a work queue holds. -/
def queueHeaders : Nat := 16
/-- R410: pieces a package's fault queue holds. -/
def faultQueue : Nat := 64
/-- R446: entries of the error log before it wraps. -/
def logEntries : Nat := 131071
/-- R424: the 19 default charges in pJ, in the table's order: S, M, B, Q, P acting; engine syllable acting; not
acting; V chunk; V chunk at quarter rate; X group at 4, 8, 16 bits; X block at 4, 8 bits; ACC row; C granule own
package, Lace, far, local. -/
def weights : List Nat :=
  [20, 30, 10, 40, 5, 10, 5, 240, 480, 2600, 4800, 9600, 5400, 10000, 300, 2000, 6000, 12000, 600]

/-- FREE VALUE. How many real cycles a piece spends in the fabric before its home accepts it. The spec bounds the
completion of a copy only by the traffic outside the context (R348), so any number is possible. -/
opaque fabricDelay : Nat → Nat
/-- FREE VALUE. Whether a target outside the model takes a piece: a far home (R413), or a scratchpad of another package,
whose grants only that package knows (R262). -/
opaque remoteAccepts : Nat → Bool
/-- FREE VALUE. Whether the rows of the Sole's grid count southwards and its columns eastwards: R162 numbers the cores by row
and column, and R400 names the links by N, E, S and W. -/
opaque rowsSouth : Bool
opaque columnsEast : Bool
/-- FREE VALUE. The router that the link of a direction (1 N, 2 E, 3 S, 4 W) leads to from an Upper station's router, and the
other end of a package's Lace port: the spec names both and does not lay them out (R400, R401). -/
opaque routerNeighbour : (unit dir : Nat) → Option Nat
opaque laceOtherEnd : (x y port : Nat) → Option (Nat × Nat × Nat)
/-- FREE VALUE. The reference ticks a switch of the operating point takes to settle; R352 bounds it and says no more. -/
opaque settleTicks : (tick unit : Nat) → Nat
/-- FREE VALUE. The reference ticks a targeted self-test takes; R444 bounds it by 50 microseconds and says no more. -/
opaque selfTestTicks : Nat → Nat
/-- FREE VALUE. Whether a targeted self-test passes (R444). -/
opaque selfTestPass : Nat → Bool
/-- FREE VALUE. The Vorrel root public key, of which the boot ROM holds the SHA-256 (R439). -/
opaque rootKey : Nat → BitVec 8
/-- FREE VALUE. The place of the package: its column (0), its row (1) and its domain (2). The spec names them (R162, R405)
and does not say where the package gets them. -/
opaque packagePlace : Nat → Nat
/-- FREE VALUE. An info word, or another value, that no rule states. -/
opaque freeWord : Nat → BitVec 64
/-- FREE VALUE. The temperature, in quarter degrees, that a sample of an island reads (R422). -/
opaque temperature : (tick island : Nat) → Nat
/-- FREE VALUE. The secret number of an ECDSA signature, by private key and digest (R388, R443): no rule gives it. -/
opaque signNonce : (priv digest : List (BitVec 8)) → Nat
/-- FREE VALUE. The shared secret with a public key that is no point of the curve (R388, R442): no rule gives it. -/
opaque badPoint : (priv peer : List (BitVec 8)) → List (BitVec 8)
/-- FREE VALUE. The device's ephemeral private key and nonce of an ACCEPT (R388): fresh random bytes. -/
opaque freshBytes : (counter len : Nat) → List (BitVec 8)
/-- FREE VALUE. The word of the BCH code of R442 nearest to a word of 255 bits: the rule names the code by its length and its 18
errors and gives no generator. -/
opaque bchWord : List Bool → List Bool
/-- FREE VALUE. The 32 bytes of a peer entry (R405) as the package has them at boot: no rule says where they come from. -/
opaque peerEntry : Nat → List (BitVec 8)
/-- FREE VALUE. The key of a TSSWRAP whose check fails (R442): no rule gives it. -/
opaque badWrap : (kek wrapped : List (BitVec 8)) → List (BitVec 8)
/-- FREE VALUE. The bytes a compressed page's frame expands to (R103, R412): the compression format is not given. -/
opaque decompress : (stored : List (BitVec 8)) → List (BitVec 8)

end Sys2Proof.Config
end

