-- ==== Sys2Proof/Machine/Sha.lean ====
section
/-! DEFINITION. SHA-256 and HMAC-SHA-256, the published algorithms that R363, R388 and R438 to R443 name. -/

namespace Sys2Proof.Machine

/-- Right rotation of a 32-bit word. -/
def rotr (x : BitVec 32) (n : Nat) : BitVec 32 := (x >>> n) ||| (x <<< (32 - n))

/-- The first 64 primes. -/
def shaPrimes : List Nat :=
  [2, 3, 5, 7, 11, 13, 17, 19, 23, 29, 31, 37, 41, 43, 47, 53, 59, 61, 67, 71, 73, 79, 83, 89, 97, 101, 103, 107, 109,
    113, 127, 131] ++
  [137, 139, 149, 151, 157, 163, 167, 173, 179, 181, 191, 193, 197, 199, 211, 223, 227, 229, 233, 239, 241, 251, 257,
    263, 269, 271, 277, 281, 283, 293, 307, 311]

/-- Integer root by bisection: the largest r with r ^ k ≤ n, from b bits down. -/
def rootGo (k n : Nat) : Nat → Nat → Nat
  | 0, r => r
  | b + 1, r => if (r + 2 ^ b) ^ k ≤ n then rootGo k n b (r + 2 ^ b) else rootGo k n b r

/-- The first 32 bits of the fractional part of a prime's square root (k = 2) or cube root (k = 3). -/
def rootBits (k p : Nat) : BitVec 32 := BitVec.ofNat 32 (rootGo k (p * 2 ^ (32 * k)) 40 0)

/-- The round constants. -/
def shaK : List (BitVec 32) := shaPrimes.map (rootBits 3)

/-- The initial hash value. -/
def shaInit : List (BitVec 32) := (shaPrimes.take 8).map (rootBits 2)

/-- A word from four bytes, most significant first. -/
def beWord (l : List Byte) : BitVec 32 := BitVec.ofNat 32 (l.foldl (fun a b => a * 256 + b.toNat) 0)

/-- Four bytes of a word, most significant first. -/
def beBytes (w : BitVec 32) : List Byte := [3, 2, 1, 0].map fun i => BitVec.ofNat 8 (w.toNat / 256 ^ i)

/-- The message schedule, newest word first, extended n times. -/
def shaExtend : Nat → List (BitVec 32) → List (BitVec 32)
  | 0, l => l
  | n + 1, l =>
    let w := fun i => l.getD (i - 1) 0
    let s0 := rotr (w 15) 7 ^^^ rotr (w 15) 18 ^^^ (w 15 >>> 3)
    let s1 := rotr (w 2) 17 ^^^ rotr (w 2) 19 ^^^ (w 2 >>> 10)
    shaExtend n ((w 16 + s0 + w 7 + s1) :: l)

/-- One round on the eight working words. -/
def shaRound (h : List (BitVec 32)) (kw : BitVec 32) : List (BitVec 32) :=
  match h with
  | [a, b, c, d, e, f, g, x] =>
    let s1 := rotr e 6 ^^^ rotr e 11 ^^^ rotr e 25
    let ch := (e &&& f) ^^^ (~~~e &&& g)
    let t1 := x + s1 + ch + kw
    let s0 := rotr a 2 ^^^ rotr a 13 ^^^ rotr a 22
    let mj := (a &&& b) ^^^ (a &&& c) ^^^ (b &&& c)
    [t1 + s0 + mj, a, b, c, d + t1, e, f, g]
  | l => l

/-- One block of 64 bytes. -/
def shaBlock (h : List (BitVec 32)) (bs : List Byte) : List (BitVec 32) :=
  let ws := (shaExtend 48 (((List.range 16).map fun i => beWord ((bs.drop (4 * i)).take 4)).reverse)).reverse
  let r := ((shaK.zip ws).map fun x => x.1 + x.2).foldl shaRound h
  (h.zip r).map fun x => x.1 + x.2

/-- The blocks of a padded message; the fuel is their number. -/
def shaGo : Nat → List (BitVec 32) → List Byte → List (BitVec 32)
  | 0, h, _ => h
  | n + 1, h, bs => shaGo n (shaBlock h (bs.take 64)) (bs.drop 64)

/-- SHA-256 of a message. -/
def sha256 (m : List Byte) : List Byte :=
  let n := m.length
  let z := (119 - n % 64) % 64
  let len := (List.range 8).map fun i => BitVec.ofNat 8 (8 * n / 256 ^ (7 - i))
  let p := m ++ [0x80] ++ List.replicate z 0 ++ len
  (shaGo (p.length / 64) shaInit p).flatMap beBytes

/-- HMAC-SHA-256 of a message under a key. -/
def hmac256 (key m : List Byte) : List Byte :=
  let k := if key.length > 64 then sha256 key else key
  let k := k ++ List.replicate (64 - k.length) 0
  sha256 ((k.map (· ^^^ 0x5C)) ++ sha256 ((k.map (· ^^^ 0x36)) ++ m))

/-- The bytes of an ASCII label. -/
def asciiBytes (t : String) : List Byte := t.toList.map fun c => BitVec.ofNat 8 c.toNat

end Sys2Proof.Machine
end

