-- ==== Sys2Proof/Machine/Crypto.lean ====
section
/-! DEFINITION. The published algorithms that R388, R438, R442 and R443 name beside SHA-256: ECDSA and ECDH on the curve
P-256, and AES key unwrap (RFC 3394). Keys, coordinates and signature halves are big-endian strings of 32 bytes. -/

namespace Sys2Proof.Machine

/-- A big-endian value. -/
def beNat (bs : List Byte) : Nat := bs.foldl (fun a b => 256 * a + b.toNat) 0

/-- A value as n big-endian bytes. -/
def beBytesOf (n v : Nat) : List Byte := (List.range n).map fun i => BitVec.ofNat 8 (v / 256 ^ (n - 1 - i))

/-! ## P-256 -/

/-- The prime of the field of P-256. -/
def p256Prime : Nat := 2 ^ 256 - 2 ^ 224 + 2 ^ 192 + 2 ^ 96 - 1
/-- The coefficient b of the curve; its a is −3. -/
def p256B : Nat := 0x5AC635D8AA3A93E7B3EBBD55769886BC651D06B0CC53B0F63BCE3C3E27D2604B
/-- The order of P-256. -/
def p256Order : Nat := 0xFFFFFFFF00000000FFFFFFFFFFFFFFFFBCE6FAADA7179E84F3B9CAC2FC632551
/-- The base point. -/
def p256Base : Nat × Nat :=
  (0x6B17D1F2E12C4247F8BCE6E563A440F277037D812DEB33A0F4A13945D898C296,
    0x4FE342E2FE1A7F9B8EE7EB4A7C0F9E162BCE33576B315ECECBB6406837BF51F5)

/-- Powers modulo m, bit by bit, n bits of the exponent. -/
def powModGo (m : Nat) : Nat → Nat → Nat → Nat → Nat
  | 0, _, _, r => r
  | n + 1, b, e, r => powModGo m n (b * b % m) (e / 2) (if e % 2 = 1 then r * b % m else r)

/-- The inverse modulo a prime below 2^256. -/
def invMod (m a : Nat) : Nat := powModGo m 256 (a % m) (m - 2) 1

/-- A point of the curve in homogeneous coordinates; the point at infinity has z = 0. -/
structure P256 where
  x : Nat
  y : Nat
  z : Nat
  deriving DecidableEq, Repr

/-- The sum of two points, by the formulas that hold for every pair of points of a curve of odd order. -/
def p256Add (p q : P256) : P256 :=
  let m := p256Prime
  let neg := fun t => m - t % m
  let xx := p.x * q.x % m
  let yy := p.y * q.y % m
  let zz := p.z * q.z % m
  let xy := (p.x * q.y + q.x * p.y) % m
  let xz := (p.x * q.z + q.x * p.z) % m
  let yz := (p.y * q.z + q.y * p.z) % m
  let t := (neg (3 * xz) + 3 * p256B * zz) % m
  let u := (neg (3 * xx) + 3 * p256B * xz + neg (9 * zz)) % m
  let v := (3 * xx + neg (3 * zz)) % m
  ⟨(xy * (yy + neg t) + neg (yz * u)) % m, (v * u + (yy + t) * (yy + neg t)) % m, (yz * (yy + t) + xy * v) % m⟩

/-- A multiple of a point, n bits of the factor from the lowest up. -/
def p256MulGo : Nat → Nat → P256 → P256 → P256
  | 0, _, _, r => r
  | n + 1, k, q, r => p256MulGo n (k / 2) (p256Add q q) (if k % 2 = 1 then p256Add r q else r)

/-- A multiple of a point of the plane. -/
def p256Mul (k : Nat) (q : Nat × Nat) : P256 := p256MulGo 256 k ⟨q.1, q.2, 1⟩ ⟨0, 1, 0⟩

/-- The coordinates of a point of the plane; none at infinity. -/
def P256.plane (p : P256) : Option (Nat × Nat) :=
  if p.z = 0 then none else some (p.x * invMod p256Prime p.z % p256Prime, p.y * invMod p256Prime p.z % p256Prime)

/-- The 64 bytes of a point, x then y. -/
def p256Bytes (q : Option (Nat × Nat)) : List Byte :=
  match q with
  | some (x, y) => beBytesOf 32 x ++ beBytesOf 32 y
  | none => List.replicate 64 0

/-- The point of 64 bytes, when it lies on the curve. -/
def p256Point (b : List Byte) : Option (Nat × Nat) :=
  let x := beNat (b.take 32)
  let y := beNat (b.drop 32)
  if b.length = 64 ∧ x < p256Prime ∧ y < p256Prime ∧
      y * y % p256Prime = (x * x * x + (p256Prime - 3) * x + p256B) % p256Prime then some (x, y)
  else none

/-- R388, R438: whether r then s is an ECDSA signature of a digest by a public key. -/
def ecdsaVerify (key digest sig : List Byte) : Bool :=
  let n := p256Order
  let r := beNat (sig.take 32)
  let s := beNat (sig.drop 32)
  match p256Point key with
  | none => false
  | some q =>
    if sig.length ≠ 64 ∨ r = 0 ∨ r ≥ n ∨ s = 0 ∨ s ≥ n then false
    else
      let w := invMod n s
      match (p256Add (p256Mul (beNat digest * w % n) p256Base) (p256Mul (r * w % n) q)).plane with
      | some (x, _) => x % n == r
      | none => false

/-- R388, R443: an ECDSA signature of a digest under a private key; its secret number is a free value. -/
def ecdsaSign (priv digest : List Byte) : List Byte :=
  let n := p256Order
  let k := Config.signNonce priv digest % (n - 1) + 1
  let r := ((p256Mul k p256Base).plane.map (·.1)).getD 0 % n
  beBytesOf 32 r ++ beBytesOf 32 (invMod n k * (beNat digest + r * beNat priv) % n)

/-- R388, R442: the public key of a private key. -/
def ecdhPublic (priv : List Byte) : List Byte := p256Bytes (p256Mul (beNat priv % p256Order) p256Base).plane

/-- R388, R442: the shared secret of a private key and a peer's public key: the x of their product; a peer that is no
point of the curve gives a free value. -/
def ecdhSecret (priv peer : List Byte) : List Byte :=
  match p256Point peer with
  | some q => (p256Bytes (p256Mul (beNat priv % p256Order) q).plane).take 32
  | none => Config.badPoint priv peer

/-! ## AES key unwrap (R442) -/

/-- A product in the field of AES, n bits of the second factor from the lowest up. -/
def gfMulGo : Nat → Nat → Nat → Nat → Nat
  | 0, _, _, r => r
  | n + 1, a, b, r =>
    gfMulGo n (if a ≥ 128 then (2 * a).xor 0x11B else 2 * a) (b / 2) (if b % 2 = 1 then r.xor a else r)

/-- A product in the field of AES. -/
def gfMul (a b : Nat) : Nat := gfMulGo 8 a b 0

/-- The S-box of AES: the inverse, then the affine map. -/
def aesSub (a : Nat) : Nat :=
  let sq := fun x => gfMul x x
  let a2 := sq a
  let a4 := sq a2
  let a8 := sq a4
  let a16 := sq a8
  let a32 := sq a16
  let a64 := sq a32
  let i := gfMul (gfMul (gfMul a2 a4) (gfMul a8 a16)) (gfMul (gfMul a32 a64) (sq a64))
  let rot := fun k => (i * 2 ^ k % 256) + i / 2 ^ (8 - k)
  ((((i.xor (rot 1)).xor (rot 2)).xor (rot 3)).xor (rot 4)).xor 0x63

/-- The S-box and its inverse as tables. -/
def aesBox : List Nat := (List.range 256).map aesSub
def aesUnbox : List Nat := (List.range 256).map fun y => ((List.range 256).find? fun x => aesBox.getD x 0 == y).getD 0

/-- The key schedule of AES-256, newest word first, n words more. -/
def aesExpand (box : List Nat) : Nat → List (List Nat) → List (List Nat)
  | 0, ws => ws
  | n + 1, ws =>
    let i := ws.length
    let t := ws.headD []
    let t := if i % 8 = 0 then
        ((t.drop 1 ++ t.take 1).map fun x => box.getD x 0).zipWith Nat.xor [2 ^ (i / 8 - 1), 0, 0, 0]
      else if i % 8 = 4 then t.map fun x => box.getD x 0 else t
    aesExpand box n ((ws.getD 7 []).zipWith Nat.xor t :: ws)

/-- The round keys of a 32-byte key, 16 bytes each, in order. -/
def aesKeys (key : List Byte) : List (List Nat) :=
  let ws := (aesExpand aesBox 52 ((List.range 8).map fun i => ((key.drop (4 * i)).take 4).map (·.toNat)).reverse).reverse
  (List.range 15).map fun r => ((ws.drop (4 * r)).take 4).flatMap id

/-- The inverse of the column mix. -/
def aesUnmix (b : List Nat) : List Nat :=
  (List.range 16).map fun i =>
    let at_ := fun k => b.getD (i / 4 * 4 + (i + k) % 4) 0
    (((gfMul (at_ 0) 14).xor (gfMul (at_ 1) 11)).xor (gfMul (at_ 2) 13)).xor (gfMul (at_ 3) 9)

/-- One block of 16 bytes decrypted. -/
def aesDecrypt (keys : List (List Nat)) (b : List Nat) : List Nat :=
  let shift := fun b : List Nat => (List.range 16).map fun i => aesUnbox.getD (b.getD ((i + 16 - i % 4 * 4) % 16) 0) 0
  let xorKey := fun (b : List Nat) r => b.zipWith Nat.xor (keys.getD r [])
  let b := (List.range 13).foldl (fun b k => aesUnmix (xorKey (shift b) (13 - k))) (xorKey b 14)
  xorKey (shift b) 0

/-- One step of the unwrap: the check half and the blocks, for step t of the count down. -/
def unwrapStep (keys : List (List Nat)) (n : Nat) (x : List Nat × List (List Nat)) (t : Nat) : List Nat × List (List Nat) :=
  let i := (t - 1) % n
  let tb := (beBytesOf 8 t).map (·.toNat)
  let b := aesDecrypt keys (x.1.zipWith Nat.xor tb ++ x.2.getD i [])
  (b.take 8, x.2.set i (b.drop 8))

/-- R442: AES key unwrap: the key, when the check half is what RFC 3394 gives; otherwise a free value. -/
def aesUnwrap (kek wrapped : List Byte) : List Byte :=
  let n := wrapped.length / 8 - 1
  let blk := fun k => ((wrapped.drop (8 * k)).take 8).map (·.toNat)
  let (a, r) := ((List.range (6 * n)).map fun k => 6 * n - k).foldl (unwrapStep (aesKeys kek) n)
    (blk 0, (List.range n).map fun k => blk (k + 1))
  if a = List.replicate 8 0xA6 then (r.flatMap id).map (BitVec.ofNat 8) else Config.badWrap kek wrapped

end Sys2Proof.Machine
end

