-- ==== Sys2Proof/Machine/Float.lean ====
section
/-! DEFINITION. Number formats and rounding (R42 to R67): format codes, the values their codes denote, exact dyadic
arithmetic, the rounding of an exact or bracketed value to a format under a mode with its flags, conversions,
comparison, and the random words of stochastic rounding (R59). -/

namespace Sys2Proof.Machine

/-- R42: bits of an element of a format code; 0 for a reserved code. -/
def fmtBits : Nat → Nat
  | 0 => 8 | 1 => 8 | 2 => 4 | 3 => 4 | 4 => 16 | 5 => 16 | 6 => 32 | 7 => 32 | 8 => 64 | 9 => 64
  | 10 => 64 | 11 => 32 | 12 => 16 | 13 => 16 | 14 => 8 | 15 => 8 | 16 => 4 | 17 => 8 | 18 => 48 | 19 => 48 | 20 => 1
  | _ => 0

/-- R42: INT4 to NAT64 and INT48. -/
def fmtIsInt (f : Nat) : Bool := f ≤ 9 || f == 19
/-- R42: signed integer formats. -/
def fmtSigned (f : Nat) : Bool := (f ≤ 9 && f % 2 == 0) || f == 19
/-- R215 group F: FP64, FP32, FP16, BF16. -/
def fmtF (f : Nat) : Bool := 10 ≤ f && f ≤ 13
/-- R215 group E: E4M3, E5M2, E2M1. -/
def fmtE (f : Nat) : Bool := 14 ≤ f && f ≤ 16
/-- R215 group I8: integer formats of 8 bits and wider. -/
def fmtI8 (f : Nat) : Bool := f ≤ 9 && f != 2 && f != 3
/-- R215 group W. -/
def fmtW (f : Nat) : Bool := 6 ≤ f && f ≤ 9
/-- R42: floating formats, NM8 and FX48 among them. -/
def fmtIsFloat (f : Nat) : Bool := 10 ≤ f && f ≤ 18

/-- R46, R51, R52, R56: exponent bits, fraction bits and bias of a floating format with a sign bit on top. -/
def fpParams : Nat → Nat × Nat × Nat
  | 10 => (11, 52, 1023)
  | 11 => (8, 23, 127)
  | 12 => (5, 10, 15)
  | 13 => (8, 7, 127)
  | 14 => (4, 3, 7)
  | 15 => (5, 2, 15)
  | 16 => (2, 1, 1)
  | 18 => (8, 39, 127)
  | _ => (8, 23, 127)

/-- R46, R51: the format's top exponent code holds infinities and NaNs. -/
def fpHasInf (f : Nat) : Bool := f != 14 && f != 16

/-- R48, R51, R53: the canonical NaN of a floating format; E2M1 has none and takes 0 (R67). -/
def canonNaN : Nat → Nat
  | 10 => 0x7FF8000000000000
  | 11 => 0x7FC00000
  | 12 => 0x7E00
  | 13 => 0x7FC0
  | 14 => 0x7F
  | 15 => 0x7E
  | 17 => 0x80
  | 18 => 0x7FC000000000
  | _ => 0

/-- The value of a code: a NaN (signalling, or NaR of NM8), an infinity, or sign, integer significand and exponent. -/
inductive Val where
  | nan (sig nar : Bool)
  | inf (neg : Bool)
  | fin (neg : Bool) (m : Nat) (e : Int)
  deriving DecidableEq, Repr

/-- R53: an NM8 code below 0x80 as an integer multiple of 2^−12. -/
def nm8Scaled (c : Nat) : Nat :=
  if c = 0 then 0
  else
    let m := Nat.log2 c
    let sb := if m ≥ 2 then 2 else m
    let fb := m - sb
    let sel := (c - 2 ^ m) / 2 ^ fb
    let f := c % 2 ^ fb
    let e12 : Nat :=
      if m = 0 then 0
      else if m = 1 then (if sel = 0 then 1 else 22)
      else
        let lo := 2 * (m - 2)
        match sel with
        | 0 => 2 + lo
        | 1 => 3 + lo
        | 2 => 20 - lo
        | _ => 21 - lo
    2 ^ e12 + f * 2 ^ e12 / 2 ^ fb

/-- R46 to R53, R56: the value a format's bits denote. -/
def fpDecode (f bits : Nat) : Val :=
  if f = 17 then
    if bits % 256 = 128 then .nan false true
    else .fin (bits / 128 % 2 == 1) (nm8Scaled (bits % 128)) (-12)
  else
    let (eb, fb, bias) := fpParams f
    let frac := bits % 2 ^ fb
    let ex := bits / 2 ^ fb % 2 ^ eb
    let neg := bits / 2 ^ (fb + eb) % 2 == 1
    if ex = 2 ^ eb - 1 ∧ fpHasInf f then
      if frac = 0 then .inf neg else .nan (frac < 2 ^ (fb - 1)) false
    else if f = 14 ∧ ex = 15 ∧ frac = 7 then .nan false false
    else if ex = 0 then .fin neg frac (1 - (bias : Int) - fb)
    else .fin neg (2 ^ fb + frac) ((ex : Int) - bias - fb)

/-- R43: the integer that the bits of an integer format denote. -/
def intDecode (f bits : Nat) : Int :=
  let w := fmtBits f
  let b := bits % 2 ^ w
  if fmtSigned f ∧ b ≥ 2 ^ (w - 1) then (b : Int) - 2 ^ w else b

/-- The bits of an integer modulo 2^w. -/
def wrapBits (w : Nat) (v : Int) : Nat := (v % (2 ^ w : Int)).toNat

/-- R62: flag masks in the FLG layout. -/
def flNX : Nat := 1
def flUF : Nat := 2
def flOF : Nat := 4
def flDZ : Nat := 8
def flNV : Nat := 16
def flIS : Nat := 32

/-- What an operation on elements answers: the bits, the flags raised, whether the result was tiny (R65) and whether a
signalling NaN was read (R49). -/
structure Res where
  bits : Nat
  fl : Nat
  tiny : Bool
  sn : Bool
  deriving DecidableEq, Repr

/-- A result without flags. -/
def Res.plain (b : Nat) : Res := ⟨b, 0, false, false⟩

/-- R43, R61: SAT(F, v): the clamped integer and whether it clamped. -/
def satInt (f : Nat) (v : Int) : Int × Bool :=
  let w := fmtBits f
  let lo : Int := if fmtSigned f then -(2 ^ (w - 1) : Int) else 0
  let hi : Int := if fmtSigned f then (2 ^ (w - 1) : Int) - 1 else (2 ^ w : Int) - 1
  if v < lo then (lo, true) else if v > hi then (hi, true) else (v, false)

/-- R61: SAT to an integer format as a result, IS raised when it clamps. -/
def satRes (f : Nat) (v : Int) : Res :=
  let (x, c) := satInt f v
  ⟨wrapBits (fmtBits f) x, if c then flIS else 0, false, false⟩

/-- R58: a rounding mode with the random word that SR compares (R59). -/
structure Mode where
  code : Nat
  u : Nat
  deriving DecidableEq, Repr

/-- R58: whether the magnitude k + rem / 2^s (plus less than one unit of rem when sticky) rounds away from k. -/
def roundUp (md : Mode) (neg : Bool) (k rem s : Nat) (sticky : Bool) : Bool :=
  if rem = 0 ∧ !sticky then false
  else
    match md.code with
    | 0 => 2 * rem > 2 ^ s || (2 * rem == 2 ^ s && (sticky || k % 2 == 1))
    | 1 => false
    | 2 => !neg
    | 3 => neg
    | 4 => 2 * rem ≥ 2 ^ s
    | 5 => md.u < rem * 2 ^ 32 / 2 ^ s
    | _ => false

/-- A nonzero magnitude m × 2^e, or strictly between it and (m + 1) × 2^e when sticky. -/
structure Mag where
  m : Nat
  e : Int
  sticky : Bool
  deriving DecidableEq, Repr

/-- The magnitude rounded to a multiple of 2^q: quotient and whether the rounding changed the value. -/
def roundAt (md : Mode) (neg : Bool) (v : Mag) (q : Int) : Nat × Bool :=
  if q ≤ v.e then (v.m * 2 ^ (v.e - q).toNat, v.sticky)
  else
    let s := (q - v.e).toNat
    let k := v.m / 2 ^ s
    let rem := v.m % 2 ^ s
    (if roundUp md neg k rem s v.sticky then k + 1 else k, rem != 0 || v.sticky)

/-- R53, R54: the code of 0 to 127 whose value is nearest to a magnitude, ties by c[0] and then by magnitude. -/
def nm8Nearest (v : Mag) : Nat :=
  let sh := (-(v.e + 12)).toNat
  let x := v.m * 2 ^ (v.e + 12).toNat
  let dist (c : Nat) : Nat := let y := nm8Scaled c * 2 ^ sh; if x ≥ y then x - y else y - x
  (List.range 128).foldl (fun best c =>
    let db := dist best
    let dc := dist c
    if dc < db then c
    else if dc = db ∧ c ≠ best then
      if best % 2 = c % 2 then (if nm8Scaled c < nm8Scaled best then c else best)
      else if c % 2 = 0 then c else best
    else best) 0

/-- R54, R55: rounding to NM8. -/
def roundNm8 (neg : Bool) (v : Mag) : Res :=
  let sgn := if neg then 128 else 0
  if v.m = 0 ∧ !v.sticky then .plain 0
  else
    let sh := (-(v.e + 12)).toNat
    let x := v.m * 2 ^ (v.e + 12).toNat
    if x > 2 ^ 22 * 2 ^ sh then ⟨sgn + 3, flOF + flNX, false, false⟩
    else
      let c := nm8Nearest v
      let tiny := x < 2 ^ sh
      let nx := v.sticky || nm8Scaled c * 2 ^ sh != x
      ⟨if c = 0 then 0 else sgn + c, (if nx then flNX else 0) + (if nx && tiny then flUF else 0), tiny, false⟩

/-- R67: the overflowed result of a format other than NM8 under a mode. -/
def overflowBits (f : Nat) (md : Nat) (neg : Bool) : Nat :=
  let (eb, fb, _) := fpParams f
  let sgn := if neg then 2 ^ (eb + fb) else 0
  let infB := (2 ^ eb - 1) * 2 ^ fb
  if f = 14 then sgn + 0x7E
  else if f = 16 then sgn + 7
  else
    match md with
    | 1 => sgn + infB - 1
    | 2 => if neg then sgn + infB - 1 else infB
    | 3 => if neg then sgn + infB else infB - 1
    | _ => sgn + infB

/-- The largest finite magnitude of a format, as a multiple of 2^q for its exponent q. -/
def maxFinite (f : Nat) : Nat × Int :=
  let (eb, fb, bias) := fpParams f
  if f = 14 then (14, 5)
  else if f = 16 then (3, 1)
  else (2 ^ (fb + 1) - 1, (2 ^ eb - 2 : Int) - bias - fb)

/-- Comparison of a × 2^x with b × 2^y. -/
def cmpDy (a : Nat) (x : Int) (b : Nat) (y : Int) : Ordering :=
  if x ≤ y then compare a (b * 2 ^ (y - x).toNat) else compare (a * 2 ^ (x - y).toNat) b

/-- R58, R61, R63, R67: RND of a magnitude with a sign to a floating format. -/
def roundTo (f : Nat) (md : Mode) (neg : Bool) (v : Mag) : Res :=
  if f = 17 then roundNm8 neg v
  else
    let (eb, fb, bias) := fpParams f
    let sgn := if neg then 2 ^ (eb + fb) else 0
    if v.m = 0 ∧ !v.sticky then .plain sgn
    else
      let top : Int := v.e + Nat.log2 v.m
      let (mf, qf) := maxFinite f
      let md := if md.code = 5 ∧ cmpDy v.m v.e mf qf == .gt then ⟨0, 0⟩ else md
      let qmin : Int := 1 - (bias : Int) - fb
      let qu : Int := top - fb
      let q := if qu < qmin then qmin else qu
      let (k, nx) := roundAt md neg v q
      if cmpDy k q mf qf == .gt then ⟨overflowBits f md.code neg, flOF + flNX, false, false⟩
      else
        let (ku, _) := roundAt md neg v qu
        let tiny := v.m != 0 && cmpDy ku qu 1 (1 - (bias : Int)) == .lt || v.m == 0
        let bits :=
          if k < 2 ^ fb then k
          else if k < 2 ^ (fb + 1) then (q - qmin).toNat * 2 ^ fb + k
          else ((q - qmin).toNat + 1) * 2 ^ fb + k / 2
        ⟨sgn + bits, (if nx then flNX else 0) + (if nx && tiny then flUF else 0), tiny, false⟩

/-- R48, R67: a NaN delivered to a format. -/
def nanRes (f : Nat) (fl : Nat) (sn : Bool) : Res :=
  ⟨canonNaN f, if f = 16 then fl ||| flNV else fl, false, sn⟩

/-- R55, R67: an infinity delivered to a format. -/
def infRes (f : Nat) (neg : Bool) : Res :=
  let (eb, fb, _) := fpParams f
  if f = 17 then ⟨(if neg then 128 else 0) + 3, flNV, false, false⟩
  else if f = 14 ∨ f = 16 then ⟨overflowBits f 0 neg, flNV, false, false⟩
  else .plain ((if neg then 2 ^ (eb + fb) else 0) + (2 ^ eb - 1) * 2 ^ fb)

/-- A signed exact value rounded to a format; `zneg` is the sign of an exact zero. -/
def roundExact (f : Nat) (md : Mode) (num : Int) (e : Int) (zneg : Bool) : Res :=
  if num = 0 then roundTo f md zneg ⟨0, 0, false⟩ else roundTo f md (num < 0) ⟨num.natAbs, e, false⟩

/-- The significand of a finite value as an integer. -/
def sInt (neg : Bool) (m : Nat) : Int := if neg then -(m : Int) else m

/-- R49, R55: flags and signalling mark of operands that are NaNs. -/
def nanFlags (vs : List Val) : Nat × Bool :=
  vs.foldl (fun (fl, sn) v =>
    match v with
    | .nan s r => (if s || r then fl ||| flNV else fl, sn || s)
    | _ => (fl, sn)) (0, false)

/-- Some operand is a NaN. -/
def anyNan (vs : List Val) : Bool := vs.any fun | .nan _ _ => true | _ => false

/-- Exact a × 2^x + b × 2^y. -/
def addDy (a : Int) (x : Int) (b : Int) (y : Int) : Int × Int :=
  if x ≤ y then (a + b * 2 ^ (y - x).toNat, x) else (a * 2 ^ (x - y).toNat + b, y)

/-- IEEE 754-2019: the sign of an exact zero sum of terms with signs n1 and n2. -/
def zeroSign (md : Mode) (n1 n2 : Bool) : Bool := if n1 == n2 then n1 else md.code == 3

/-- R61: RND(F, m, EXACT(a + b)). -/
def fpAdd (f : Nat) (md : Mode) (a b : Val) : Res :=
  let (nf, sn) := nanFlags [a, b]
  match a, b with
  | .nan _ _, _ => nanRes f nf sn
  | _, .nan _ _ => nanRes f nf sn
  | .inf n1, .inf n2 => if n1 == n2 then infRes f n1 else nanRes f flNV false
  | .inf n1, .fin .. => infRes f n1
  | .fin .., .inf n2 => infRes f n2
  | .fin n1 m1 e1, .fin n2 m2 e2 =>
    let (s, e) := addDy (sInt n1 m1) e1 (sInt n2 m2) e2
    roundExact f md s e (zeroSign md n1 n2)

/-- The value with its sign inverted. -/
def Val.negate : Val → Val
  | .nan s r => .nan s r
  | .inf n => .inf (!n)
  | .fin n m e => .fin (!n) m e

/-- EXACT(a × b) as a value, with the flag of ∞ × 0. -/
def mulVal (a b : Val) : Val × Nat :=
  match a, b with
  | .nan s r, _ => (.nan s r, 0)
  | _, .nan s r => (.nan s r, 0)
  | .inf n1, .inf n2 => (.inf (n1 != n2), 0)
  | .inf n1, .fin n2 m2 _ => if m2 = 0 then (.nan false false, flNV) else (.inf (n1 != n2), 0)
  | .fin n1 m1 _, .inf n2 => if m1 = 0 then (.nan false false, flNV) else (.inf (n1 != n2), 0)
  | .fin n1 m1 e1, .fin n2 m2 e2 => (.fin (n1 != n2) (m1 * m2) (e1 + e2), 0)

/-- An exact value delivered to a format. -/
def deliver (f : Nat) (md : Mode) (v : Val) (fl : Nat) (sn : Bool) : Res :=
  match v with
  | .nan _ _ => nanRes f fl sn
  | .inf n => let r := infRes f n; { r with fl := r.fl ||| fl }
  | .fin n m e => let r := roundTo f md n ⟨m, e, false⟩; { r with fl := r.fl ||| fl, sn := sn }

/-- R61: RND(F, m, EXACT(a × b)). -/
def fpMul (f : Nat) (md : Mode) (a b : Val) : Res :=
  let (nf, sn) := nanFlags [a, b]
  let (v, fl) := mulVal a b
  deliver f md v (fl ||| nf) sn

/-- R61, R185: RND(F, m, EXACT(a × b + c)), once rounded; ∞ × 0 is invalid even beside a quiet NaN. -/
def fpFma (f : Nat) (md : Mode) (a b c : Val) : Res :=
  let (nf, sn) := nanFlags [a, b, c]
  let (p, fl) := mulVal a b
  if anyNan [p, c] then nanRes f (fl ||| nf) sn else fpAdd f md p c

/-- The floor of the square root: bit by bit from bit k. -/
def isqrtGo (n : Nat) : Nat → Nat → Nat
  | 0, acc => acc
  | k + 1, acc => let t := acc + 2 ^ k; isqrtGo n k (if t * t ≤ n then t else acc)

/-- The floor of the square root of n. -/
def isqrt (n : Nat) : Nat := isqrtGo n (Nat.log2 n / 2 + 1) 0

/-- Bits that a bracketed quotient or root carries below any rounding position. -/
def guardBits : Nat := 200

/-- R73: RND(F, m, a / b), IEEE division. -/
def fpDiv (f : Nat) (md : Mode) (a b : Val) : Res :=
  let (nf, sn) := nanFlags [a, b]
  match a, b with
  | .nan _ _, _ => nanRes f nf sn
  | _, .nan _ _ => nanRes f nf sn
  | .inf n1, .fin n2 _ _ => infRes f (n1 != n2)
  | .inf _, .inf _ => nanRes f flNV false
  | .fin n1 _ _, .inf n2 => roundTo f md (n1 != n2) ⟨0, 0, false⟩
  | .fin n1 m1 e1, .fin n2 m2 e2 =>
    if m2 = 0 then
      if m1 = 0 then nanRes f flNV false else let r := infRes f (n1 != n2); { r with fl := r.fl ||| flDZ }
    else
      let k := guardBits + Nat.log2 m2
      let q := m1 * 2 ^ k / m2
      roundTo f md (n1 != n2) ⟨q, e1 - e2 - k, m1 * 2 ^ k % m2 != 0⟩

/-- R73, R74: the rounded square root. -/
def fpSqrt (f : Nat) (md : Mode) (a : Val) : Res :=
  let (nf, sn) := nanFlags [a]
  match a with
  | .nan _ _ => nanRes f nf sn
  | .inf n => if n then nanRes f flNV false else infRes f false
  | .fin n m e =>
    if m = 0 then roundTo f md n ⟨0, 0, false⟩
    else if n then nanRes f flNV false
    else
      let odd := e % 2 != 0
      let m' := (if odd then 2 * m else m) * 2 ^ (2 * guardBits)
      let e' := (if odd then e - 1 else e) / 2 - guardBits
      let r := isqrt m'
      roundTo f md false ⟨r, e', r * r != m'⟩

/-- R58, R61: RINT(m, v) of a finite value: the integer and whether it differs from v. -/
def rint (md : Mode) (neg : Bool) (m : Nat) (e : Int) : Int × Bool :=
  let (k, nx) := roundAt md neg ⟨m, e, false⟩ 0
  (sInt neg k, nx)

/-- R66: a floating value to an integer format. Under SR the value is rounded among all integers and clamped afterwards: that
R58's clause on values beyond the largest does not reach integers is the model's choice (DESIGN CHOICE, log 122). -/
def fpToInt (f : Nat) (md : Mode) (v : Val) : Res :=
  let w := fmtBits f
  let (nf, sn) := nanFlags [v]
  match v with
  | .nan _ _ => ⟨0, nf ||| flNV, false, sn⟩
  | .inf n => ⟨wrapBits w (satInt f (if n then -(2 ^ 70 : Int) else 2 ^ 70)).1, flNV, false, false⟩
  | .fin n m e =>
    let (i, nx) := rint md n m e
    let (x, c) := satInt f i
    ⟨wrapBits w x, if c then flNV else if nx then flNX else 0, false, false⟩

/-- R66, R67: the conversion of an element from one format to another. A value of a contained format is delivered exactly,
and its tininess counts for R65 all the same. -/
def convert (src dst : Nat) (md : Mode) (bits : Nat) : Res :=
  if fmtIsInt src then
    let v := intDecode src bits
    if fmtIsInt dst then satRes dst v else roundExact dst md v 0 false
  else
    let v := fpDecode src bits
    if fmtIsInt dst then fpToInt dst md v
    else
      let (nf, sn) := nanFlags [v]
      deliver dst md v nf sn

/-- R45, R222: the order of two finite or infinite values, −0 equal to +0; none when one is a NaN. -/
def fpCompare (a b : Val) : Option Ordering :=
  match a, b with
  | .nan _ _, _ => none
  | _, .nan _ _ => none
  | .inf n1, .inf n2 => some (if n1 == n2 then .eq else if n1 then .lt else .gt)
  | .inf n1, .fin .. => some (if n1 then .lt else .gt)
  | .fin .., .inf n2 => some (if n2 then .gt else .lt)
  | .fin n1 m1 e1, .fin n2 m2 e2 =>
    let (d, _) := addDy (sInt n1 m1) e1 (-(sInt n2 m2)) e2
    some (compare d 0)

/-- The sign bit of a value. -/
def Val.neg : Val → Bool
  | .nan _ _ => false
  | .inf n => n
  | .fin n _ _ => n

/-- R50: minimumNumber or maximumNumber, −0 below +0. -/
def fpMinMax (f : Nat) (max : Bool) (x y : Nat) : Res :=
  let a := fpDecode f x
  let b := fpDecode f y
  let (nf, sn) := nanFlags [a, b]
  match a, b with
  | .nan _ _, .nan _ _ => nanRes f nf sn
  | .nan _ _, _ => ⟨y, nf, false, sn⟩
  | _, .nan _ _ => ⟨x, nf, false, sn⟩
  | _, _ =>
    let less := match fpCompare a b with
      | some .lt => true
      | some .eq => a.neg && !b.neg
      | _ => false
    .plain (if less != max then x else y)

/-- R186: the class mask of a value of an IEEE format. -/
def fpClass (f bits : Nat) : Nat :=
  let (_, fb, _) := fpParams f
  match fpDecode f bits with
  | .nan s _ => if s then 256 else 512
  | .inf n => if n then 1 else 128
  | .fin n m _ =>
    if m = 0 then (if n then 8 else 16)
    else if m < 2 ^ fb then (if n then 4 else 32)
    else if n then 2 else 64

/-- One round of Philox4x32. -/
def philoxRound (k0 k1 : Nat) (c : Nat × Nat × Nat × Nat) : Nat × Nat × Nat × Nat :=
  let (c0, c1, c2, c3) := c
  let p0 := 0xD2511F53 * c0
  let p1 := 0xCD9E8D57 * c2
  ((p1 / 2 ^ 32).xor c1 |>.xor k0, p1 % 2 ^ 32, (p0 / 2 ^ 32).xor c3 |>.xor k1, p0 % 2 ^ 32)

/-- Rounds of Philox4x32 with the key increments of R59. -/
def philoxGo : Nat → Nat → Nat → Nat × Nat × Nat × Nat → Nat × Nat × Nat × Nat
  | 0, _, _, c => c
  | n + 1, k0, k1, c => philoxGo n ((k0 + 0x9E3779B9) % 2 ^ 32) ((k1 + 0xBB67AE85) % 2 ^ 32) (philoxRound k0 k1 c)

/-- R59, R303: output word 0 of Philox4x32-10. -/
def philox (k0 k1 c0 c1 c2 c3 : Nat) : Nat := (philoxGo 10 k0 k1 (c0, c1, c2, c3)).1

/-- R65: some raised flag, or tininess, is enabled in FEN. -/
def fpTraps (fen : BitVec 6) (r : Res) : Bool :=
  ((r.fl ||| (if r.tiny then flUF else 0)) &&& (fen.toNat % 32)) != 0

end Sys2Proof.Machine
end

