-- ==== Sys2Proof/Syntax.lean ====
section
/-! DEFINITION. The syntax of the Choide: ONE inductive whose constructors are the rows of the opcode table.
The first 275 constructors are the operations of the 32-bit syllables of R137 to R154 with the operand fields that are
their own, in the table's order (a one-bit field is a Bool, a two-, three- or five-bit number a Fin, an immediate a
BitVec); the last 91 are the part's other indivisible steps (events and operations of the sequencer, the engines, the
fabric, the Welt, the Cobbler and the host transport), with the data each of them carries. The fields every syllable of
a format shares (stop bit, guard, SW, TIMED and the start register) stand once, in the structure Syl. Constructors
without a field of their own come after those with fields. The type Event repeats the 91 steps for the list of pending
steps that a state holds. -/

namespace Sys2Proof

/-- R195, R296, R313: what a REGISTER_WRITE writes: a control register of the context at hand, a word of a slot's record, or
the seed of a launch. -/
inductive RegTarget where
  | ctl (c : BitVec 12)
  | slot (n word : Nat)
  | seed (launch : Nat)
  deriving DecidableEq, Repr

/-- One row of the opcode table: a syllable's operation with its own operand fields, or an event with its data. -/
inductive Instr where
  /-- R178: Writes the 64-bit sum of ga and gb, wrapped modulo 2^64, to gd. -/
  | add (d : Fin 32) (a : Fin 32) (b : Fin 32)
  /-- R178: Writes ga minus gb, wrapped modulo 2^64, to gd. -/
  | sub (d : Fin 32) (a : Fin 32) (b : Fin 32)
  /-- R178: Adds the low 32 bits of ga and gb and writes the result sign-extended to 64 bits. -/
  | addw (d : Fin 32) (a : Fin 32) (b : Fin 32)
  /-- R178: Subtracts the low 32 bits of gb from those of ga and writes the result sign-extended. -/
  | subw (d : Fin 32) (a : Fin 32) (b : Fin 32)
  /-- R178: Writes the bitwise AND of ga and gb. -/
  | and (d : Fin 32) (a : Fin 32) (b : Fin 32)
  /-- R178: Writes the bitwise OR of ga and gb. -/
  | or (d : Fin 32) (a : Fin 32) (b : Fin 32)
  /-- R178: Writes the bitwise XOR of ga and gb. -/
  | xor (d : Fin 32) (a : Fin 32) (b : Fin 32)
  /-- R178: Writes ga AND NOT gb. -/
  | andn (d : Fin 32) (a : Fin 32) (b : Fin 32)
  /-- R178: Writes ga OR NOT gb. -/
  | orn (d : Fin 32) (a : Fin 32) (b : Fin 32)
  /-- R178: Shifts ga left by gb[5:0] bits, wrapped modulo 2^64. -/
  | shl (d : Fin 32) (a : Fin 32) (b : Fin 32)
  /-- R178: Shifts ga right by gb[5:0] bits, shifting in zeros. -/
  | shr (d : Fin 32) (a : Fin 32) (b : Fin 32)
  /-- R178: Shifts ga right by gb[5:0] bits, shifting in copies of the sign bit. -/
  | sar (d : Fin 32) (a : Fin 32) (b : Fin 32)
  /-- R178: Rotates ga left by gb[5:0] bits. -/
  | rotl (d : Fin 32) (a : Fin 32) (b : Fin 32)
  /-- R178: Writes the signed minimum of ga and gb. -/
  | min (d : Fin 32) (a : Fin 32) (b : Fin 32)
  /-- R178: Writes the signed maximum of ga and gb. -/
  | max (d : Fin 32) (a : Fin 32) (b : Fin 32)
  /-- R178: Writes the unsigned minimum of ga and gb. -/
  | minn (d : Fin 32) (a : Fin 32) (b : Fin 32)
  /-- R178: Writes the unsigned maximum of ga and gb. -/
  | maxn (d : Fin 32) (a : Fin 32) (b : Fin 32)
  /-- R178: Sign-extends ga[7:0] to 64 bits. -/
  | sextB (d : Fin 32) (a : Fin 32)
  /-- R178: Sign-extends ga[15:0] to 64 bits. -/
  | sextH (d : Fin 32) (a : Fin 32)
  /-- R178: Sign-extends ga[31:0] to 64 bits. -/
  | sextW (d : Fin 32) (a : Fin 32)
  /-- R178: Zero-extends ga[7:0] to 64 bits. -/
  | zextB (d : Fin 32) (a : Fin 32)
  /-- R178: Zero-extends ga[15:0] to 64 bits. -/
  | zextH (d : Fin 32) (a : Fin 32)
  /-- R178: Zero-extends ga[31:0] to 64 bits. -/
  | zextW (d : Fin 32) (a : Fin 32)
  /-- R179: Adds the sign-extended 16-bit immediate to ga. -/
  | addi (d : Fin 32) (a : Fin 32) (im : BitVec 16)
  /-- R179: ANDs ga with the sign-extended 14-bit immediate. -/
  | andi (d : Fin 32) (a : Fin 32) (im : BitVec 14)
  /-- R179: ORs ga with the zero-extended 14-bit immediate. -/
  | ori (d : Fin 32) (a : Fin 32) (im : BitVec 14)
  /-- R179: XORs ga with the zero-extended 14-bit immediate. -/
  | xori (d : Fin 32) (a : Fin 32) (im : BitVec 14)
  /-- R179: Shifts ga left by the immediate count n. -/
  | shli (d : Fin 32) (a : Fin 32) (n : BitVec 6)
  /-- R179: Shifts ga right logically by the immediate count n. -/
  | shri (d : Fin 32) (a : Fin 32) (n : BitVec 6)
  /-- R179: Shifts ga right arithmetically by the immediate count n. -/
  | sari (d : Fin 32) (a : Fin 32) (n : BitVec 6)
  /-- R179: Rotates ga left by the immediate count n. -/
  | rotli (d : Fin 32) (a : Fin 32) (n : BitVec 6)
  /-- R180: Writes the sign-extended immediate shifted left by 16 times HW to gd. -/
  | movi (d : Fin 32) (h : Fin 4) (im : BitVec 16)
  /-- R180: Replaces the 16-bit half-word HW of gd with the immediate, keeping other bits. -/
  | movk (d : Fin 32) (h : Fin 4) (im : BitVec 16)
  /-- R181: Sets predicate pd to ga = gb. -/
  | cmpeq (pd : Fin 8) (a : Fin 32) (b : Fin 32)
  /-- R181: Sets predicate pd to ga ≠ gb. -/
  | cmpne (pd : Fin 8) (a : Fin 32) (b : Fin 32)
  /-- R181: Sets pd to ga < gb signed. -/
  | cmplt (pd : Fin 8) (a : Fin 32) (b : Fin 32)
  /-- R181: Sets pd to ga ≤ gb signed. -/
  | cmple (pd : Fin 8) (a : Fin 32) (b : Fin 32)
  /-- R181: Sets pd to ga < gb unsigned. -/
  | cmpltn (pd : Fin 8) (a : Fin 32) (b : Fin 32)
  /-- R181: Sets pd to ga ≤ gb unsigned. -/
  | cmplen (pd : Fin 8) (a : Fin 32) (b : Fin 32)
  /-- R181: Sets pd to ga equal to the sign-extended immediate. -/
  | cmpeqi (pd : Fin 8) (a : Fin 32) (im : BitVec 16)
  /-- R181: Sets pd to ga not equal to the sign-extended immediate. -/
  | cmpnei (pd : Fin 8) (a : Fin 32) (im : BitVec 16)
  /-- R181: Sets pd to ga below the sign-extended immediate, signed. -/
  | cmplti (pd : Fin 8) (a : Fin 32) (im : BitVec 16)
  /-- R181: Sets pd to ga below the zero-extended immediate, unsigned. -/
  | cmpltni (pd : Fin 8) (a : Fin 32) (im : BitVec 16)
  /-- R183: Sets pd to pa AND pb. -/
  | pand (d : Fin 8) (a : Fin 8) (b : Fin 8)
  /-- R183: Sets pd to pa OR pb. -/
  | por (d : Fin 8) (a : Fin 8) (b : Fin 8)
  /-- R183: Sets pd to pa XOR pb. -/
  | pxor (d : Fin 8) (a : Fin 8) (b : Fin 8)
  /-- R183: Sets pd to pa AND NOT pb. -/
  | pandn (d : Fin 8) (a : Fin 8) (b : Fin 8)
  /-- R183: Sets pd false. -/
  | psetFalse (d : Fin 8)
  /-- R183: Sets pd true. -/
  | psetTrue (d : Fin 8)
  /-- R183: Copies predicate pa to pd. -/
  | pmovPred (d : Fin 8) (a : Fin 8)
  /-- R183: Sets pd to ga ≠ 0. -/
  | pmovFromReg (d : Fin 8) (a : Fin 32)
  /-- R183: Writes ga to gd when predicate pk holds, otherwise gb. -/
  | sel (d : Fin 32) (a : Fin 32) (b : Fin 32) (k : Fin 8)
  /-- R183: Writes 1 to gd when pa holds, otherwise 0. -/
  | pmovToReg (d : Fin 32) (a : Fin 8)
  /-- R184: Adds two FP32 or FP64 operands with one rounding under the mode. -/
  | fadd (d : Fin 32) (a : Fin 32) (b : Fin 32) (f : Bool) (m : Fin 8)
  /-- R184: Subtracts floating operands with one rounding. -/
  | fsub (d : Fin 32) (a : Fin 32) (b : Fin 32) (f : Bool) (m : Fin 8)
  /-- R184: Multiplies floating operands with one rounding. -/
  | fmul (d : Fin 32) (a : Fin 32) (b : Fin 32) (f : Bool) (m : Fin 8)
  /-- R184: Fused multiply-add gd + ga × gb with one rounding. -/
  | ffma (d : Fin 32) (a : Fin 32) (b : Fin 32) (f : Bool) (m : Fin 8)
  /-- R184: Fused multiply-subtract gd − ga × gb with one rounding. -/
  | ffms (d : Fin 32) (a : Fin 32) (b : Fin 32) (f : Bool) (m : Fin 8)
  /-- R184: Correctly rounded floating division. -/
  | fdiv (d : Fin 32) (a : Fin 32) (b : Fin 32) (f : Bool) (m : Fin 8)
  /-- R184: Correctly rounded floating square root. -/
  | fsqrt (d : Fin 32) (a : Fin 32) (f : Bool) (m : Fin 8)
  /-- R184: Floating minimumNumber of ga and gb. -/
  | fmin (d : Fin 32) (a : Fin 32) (b : Fin 32) (f : Bool)
  /-- R184: Floating maximumNumber of ga and gb. -/
  | fmax (d : Fin 32) (a : Fin 32) (b : Fin 32) (f : Bool)
  /-- R185: Sets pd to ga = gb as floating values. -/
  | fcmpeq (pd : Fin 8) (a : Fin 32) (b : Fin 32) (f : Bool)
  /-- R185: Sets pd to ga < gb as floating values. -/
  | fcmplt (pd : Fin 8) (a : Fin 32) (b : Fin 32) (f : Bool)
  /-- R185: Sets pd to ga ≤ gb as floating values. -/
  | fcmple (pd : Fin 8) (a : Fin 32) (b : Fin 32) (f : Bool)
  /-- R185: Sets pd when either operand is a NaN. -/
  | fcmpun (pd : Fin 8) (a : Fin 32) (b : Fin 32) (f : Bool)
  /-- R186: Writes a one-hot class mask of ga. -/
  | fclass (d : Fin 32) (a : Fin 32) (f : Bool)
  /-- R184: Converts between FP32 and FP64. -/
  | fcvtFloat (d : Fin 32) (a : Fin 32) (f : Bool) (m : Fin 8)
  /-- R184: Converts a floating value to a signed 64-bit integer. -/
  | fcvtToI64 (d : Fin 32) (a : Fin 32) (f : Bool) (m : Fin 8)
  /-- R184: Converts a floating value to an unsigned 64-bit integer. -/
  | fcvtToN64 (d : Fin 32) (a : Fin 32) (f : Bool) (m : Fin 8)
  /-- R184: Converts a floating value to a signed 32-bit integer, sign-extended. -/
  | fcvtToI32 (d : Fin 32) (a : Fin 32) (f : Bool) (m : Fin 8)
  /-- R184: Converts a floating value to an unsigned 32-bit integer, zero-extended. -/
  | fcvtToN32 (d : Fin 32) (a : Fin 32) (f : Bool) (m : Fin 8)
  /-- R184: Converts a signed 64-bit integer to floating format D. -/
  | fcvtFromI64 (d : Fin 32) (a : Fin 32) (f : Bool) (m : Fin 8)
  /-- R184: Converts an unsigned 64-bit integer to floating format D. -/
  | fcvtFromN64 (d : Fin 32) (a : Fin 32) (f : Bool) (m : Fin 8)
  /-- R184: Converts a signed 32-bit integer to floating format D. -/
  | fcvtFromI32 (d : Fin 32) (a : Fin 32) (f : Bool) (m : Fin 8)
  /-- R184: Converts an unsigned 32-bit integer to floating format D. -/
  | fcvtFromN32 (d : Fin 32) (a : Fin 32) (f : Bool) (m : Fin 8)
  /-- R187: Counts leading zero bits of ga. -/
  | clz (d : Fin 32) (a : Fin 32)
  /-- R187: Counts trailing zero bits of ga. -/
  | ctz (d : Fin 32) (a : Fin 32)
  /-- R187: Counts set bits of ga. -/
  | popc (d : Fin 32) (a : Fin 32)
  /-- R187: Reverses the bits of ga. -/
  | brev (d : Fin 32) (a : Fin 32)
  /-- R187: Finds the set bit of ga with exactly gb set bits below it. -/
  | fns (d : Fin 32) (a : Fin 32) (b : Fin 32)
  /-- R187: Extracts a sign-extended bit field described by gb. -/
  | bfx (d : Fin 32) (a : Fin 32) (b : Fin 32)
  /-- R187: Extracts a zero-extended bit field described by gb. -/
  | bfxn (d : Fin 32) (a : Fin 32) (b : Fin 32)
  /-- R187: Inserts the low bits of ga into a field of gd. -/
  | bfi (d : Fin 32) (a : Fin 32) (b : Fin 32)
  /-- R187: Funnel-shifts gd:ga left and keeps the high 64 bits. -/
  | fshl (d : Fin 32) (a : Fin 32) (b : Fin 32)
  /-- R187: Funnel-shifts ga:gd right and keeps the low 64 bits. -/
  | fshr (d : Fin 32) (a : Fin 32) (b : Fin 32)
  /-- R188: Writes the low 64 bits of ga × gb. -/
  | mul (d : Fin 32) (a : Fin 32) (b : Fin 32)
  /-- R188: Writes the high 64 bits of the signed product. -/
  | mulh (d : Fin 32) (a : Fin 32) (b : Fin 32)
  /-- R188: Writes the high 64 bits of the unsigned product. -/
  | mulhn (d : Fin 32) (a : Fin 32) (b : Fin 32)
  /-- R188: Signed division truncated toward zero, with fixed results for zero and overflow. -/
  | div (d : Fin 32) (a : Fin 32) (b : Fin 32)
  /-- R188: Unsigned division. -/
  | divn (d : Fin 32) (a : Fin 32) (b : Fin 32)
  /-- R188: Signed remainder. -/
  | rem (d : Fin 32) (a : Fin 32) (b : Fin 32)
  /-- R188: Unsigned remainder. -/
  | remn (d : Fin 32) (a : Fin 32) (b : Fin 32)
  /-- R189: Loads one scratchpad byte sign-extended, with the address formed per INC. -/
  | ldB (v : Fin 32) (b : Fin 32) (im : Fin 4) (o : BitVec 7)
  /-- R189: Loads one byte zero-extended. -/
  | ldBn (v : Fin 32) (b : Fin 32) (im : Fin 4) (o : BitVec 7)
  /-- R189: Loads two bytes sign-extended. -/
  | ldH (v : Fin 32) (b : Fin 32) (im : Fin 4) (o : BitVec 7)
  /-- R189: Loads two bytes zero-extended. -/
  | ldHn (v : Fin 32) (b : Fin 32) (im : Fin 4) (o : BitVec 7)
  /-- R189: Loads four bytes sign-extended. -/
  | ldW (v : Fin 32) (b : Fin 32) (im : Fin 4) (o : BitVec 7)
  /-- R189: Loads four bytes zero-extended. -/
  | ldWn (v : Fin 32) (b : Fin 32) (im : Fin 4) (o : BitVec 7)
  /-- R189: Loads eight bytes. -/
  | ldD (v : Fin 32) (b : Fin 32) (im : Fin 4) (o : BitVec 7)
  /-- R192: Stores the low byte of a register into scratchpad at +1. -/
  | stB (v : Fin 32) (b : Fin 32) (im : Fin 4) (o : BitVec 7)
  /-- R192: Stores the low two bytes of a register. -/
  | stH (v : Fin 32) (b : Fin 32) (im : Fin 4) (o : BitVec 7)
  /-- R192: Stores the low four bytes of a register. -/
  | stW (v : Fin 32) (b : Fin 32) (im : Fin 4) (o : BitVec 7)
  /-- R192: Stores the eight bytes of a register. -/
  | stD (v : Fin 32) (b : Fin 32) (im : Fin 4) (o : BitVec 7)
  /-- R190: Stores a quarantined register into a scratchpad profiling range. -/
  | stq (q : Fin 4) (b : Fin 32) (im : Fin 4) (o : BitVec 7)
  /-- R194: Writes one field of a shadow shape register at +1. -/
  | shw (v : Fin 32) (e : Fin 4) (r : Fin 4) (f : BitVec 4)
  /-- R193: Reads one field of an active or shadow shape register. -/
  | shg (v : Fin 32) (e : Fin 4) (r : Fin 4) (f : BitVec 4) (h : Bool)
  /-- R195: Reads a control register into a general register, with DET_READ in deterministic mode. -/
  | ctlr (v : Fin 32) (c : BitVec 12)
  /-- R195: Reads a control register into a quarantined register without DET_READ. -/
  | ctlrQ (q : Fin 4) (c : BitVec 12)
  /-- R195: Writes a general register into a control register per its access. -/
  | ctlw (v : Fin 32) (c : BitVec 12)
  /-- R197: Relative branch to a fetch block after two delay bundles. -/
  | br (d : BitVec 20)
  /-- R197: Branches when gc is nonzero. -/
  | brcNz (c : Fin 32) (d : BitVec 14)
  /-- R197: Branches when gc is zero. -/
  | brcZ (c : Fin 32) (d : BitVec 14)
  /-- R198: Branches and writes the block-aligned return address to g30. -/
  | call (d : BitVec 20)
  /-- R198: Jumps to the address in ga after two delay bundles. -/
  | jmp (a : Fin 32)
  /-- R201: Enters a hardware loop level with the count in gc. -/
  | loop (l : Fin 8) (c : Fin 32) (e : BitVec 12)
  /-- R201: Enters a hardware loop level with an immediate count. -/
  | loopi (l : Fin 8) (k : BitVec 9) (e : BitVec 8)
  /-- R203: Sets a stride entry of a loop level for a shape register's BASE. -/
  | lstr (l : Fin 8) (k : Fin 4) (e : Fin 4) (r : Fin 4) (g : Fin 32)
  /-- R209: Raises TRAP to TVEC after its bundle. -/
  | trap (im : BitVec 15)
  /-- R209: Raises TRAP to the Cobbler after its bundle. -/
  | svc (im : BitVec 15)
  /-- R204: Leaves loop level L and deeper levels after two delay bundles. -/
  | lbrk (l : Fin 8)
  /-- R205: Delays the next bundle until TCLK reaches the value in ga. -/
  | waittAbs (a : Fin 32)
  /-- R205: Delays the next bundle by n task cycles. -/
  | waittRel (n : BitVec 19)
  /-- R206: Delays the next bundle until the promise in pmN is reached and its copies are complete. -/
  | waitp (k : Fin 8)
  /-- R127: Publishes, waits for the tasks of its level, then acquires at its scope. -/
  | bar (l : Fin 8)
  /-- R144: Prefix setting scope, operating-point request and first/last gating of the bundle. -/
  | pfx (sc : Fin 8) (opv : Bool) (op : Fin 8) (fst : BitVec 8) (lst : BitVec 8) (lv : Fin 8)
  /-- R220: Element-wise add of vd1 and vd2 into vd0. -/
  | vadd (x : Fin 8)
  /-- R220: Element-wise add of vd1 and the scalar ga. -/
  | vaddS (a : Fin 32) (x : Fin 8)
  /-- R220: Element-wise subtract. -/
  | vsub (x : Fin 8)
  /-- R220: Element-wise subtract of the scalar ga. -/
  | vsubS (a : Fin 32) (x : Fin 8)
  /-- R220: Element-wise multiply. -/
  | vmul (x : Fin 8)
  /-- R220: Element-wise multiply by the scalar ga. -/
  | vmulS (a : Fin 32) (x : Fin 8)
  /-- R220: High half of integer products with the scalar ga. -/
  | vmulhS (a : Fin 32)
  /-- R220: Element-wise fused multiply-add a × b + c. -/
  | vfma (x : Fin 8)
  /-- R220: Fused multiply-add with the scalar ga as b. -/
  | vfmaS (a : Fin 32) (x : Fin 8)
  /-- R220: Element-wise fused c − a × b. -/
  | vfms (x : Fin 8)
  /-- R220: Fused c − a × b with the scalar ga as b. -/
  | vfmsS (a : Fin 32) (x : Fin 8)
  /-- R220: Element-wise minimum with the scalar ga. -/
  | vminS (a : Fin 32)
  /-- R220: Element-wise maximum with the scalar ga. -/
  | vmaxS (a : Fin 32)
  /-- R220: Element-wise absolute value. -/
  | vabs (x : Fin 8)
  /-- R220: Element-wise negation. -/
  | vneg (x : Fin 8)
  /-- R220: Element-wise correctly rounded division. -/
  | vdiv (x : Fin 8)
  /-- R220: Element-wise division by the scalar ga. -/
  | vdivS (a : Fin 32) (x : Fin 8)
  /-- R220: Element-wise correctly rounded square root. -/
  | vsqrt (x : Fin 8)
  /-- R220: Fills vd0 with the scalar ga. -/
  | vfill (a : Fin 32)
  /-- R221: Element-wise AND with the scalar ga. -/
  | vandS (a : Fin 32)
  /-- R221: Element-wise OR with the scalar ga. -/
  | vorS (a : Fin 32)
  /-- R221: Element-wise XOR with the scalar ga. -/
  | vxorS (a : Fin 32)
  /-- R221: Element-wise AND NOT with the scalar ga. -/
  | vandnS (a : Fin 32)
  /-- R221: Element-wise left shift by the scalar ga. -/
  | vshlS (a : Fin 32)
  /-- R221: Element-wise logical right shift by the scalar ga. -/
  | vshrS (a : Fin 32)
  /-- R221: Element-wise arithmetic right shift by the scalar ga. -/
  | vsarS (a : Fin 32)
  /-- R222: Element-wise compare writing a BIT mask. -/
  | vcmp (r : Fin 8)
  /-- R222: Element-wise compare against the scalar ga. -/
  | vcmpS (a : Fin 32) (r : Fin 8)
  /-- R221: Selects vd1 or the scalar ga per the BIT mask vd3. -/
  | vselS (a : Fin 32)
  /-- R223: Finds the nth set bit with n from the scalar ga. -/
  | vfnsS (a : Fin 32)
  /-- R223: Extracts a bit field described by the scalar ga. -/
  | vbfxS (a : Fin 32)
  /-- R223: Inserts a bit field described by the scalar ga. -/
  | vbfiS (a : Fin 32)
  /-- R223: Funnel shift left by the scalar ga. -/
  | vfshLS (a : Fin 32)
  /-- R223: Funnel shift right by the scalar ga. -/
  | vfshRS (a : Fin 32)
  /-- R225: Converts each element of vd1 to vd0's format by R66. -/
  | vcvt (x : Fin 8)
  /-- R226: Cuts FP64 rows into INT8 slice tiles with row exponents and flags. -/
  | vsplit (a : Fin 32)
  /-- R228: Sums the whole tile on the fixed tree. -/
  | vredsumAll (x : Fin 8)
  /-- R228: Sums each row on the fixed tree. -/
  | vredsumRow (x : Fin 8)
  /-- R228: Sums each column on the fixed tree. -/
  | vredsumCol (x : Fin 8)
  /-- R229: Value-index pair of the maximum over the tile, index offset by ga. -/
  | vargmaxAll (a : Fin 32)
  /-- R229: Value-index pair of the maximum of each row. -/
  | vargmaxRow (a : Fin 32)
  /-- R229: Value-index pair of the maximum of each column. -/
  | vargmaxCol (a : Fin 32)
  /-- R235: Running sums along each row. -/
  | vscan (x : Fin 8)
  /-- R237: Appends masked elements of vd1 to a scratchpad queue, chunk by chunk. -/
  | vpush (a : Fin 32)
  /-- R238: Pops up to the tile capacity from a queue into vd0 and returns the count. -/
  | vpop (a : Fin 32) (b : Fin 32)
  /-- R238: Returns the element count of a queue. -/
  | vqcnt (a : Fin 32) (b : Fin 32)
  /-- R240: Runs a stored chain of up to eight element-wise operations. -/
  | vchain (a : Fin 32) (c : Fin 4)
  /-- R253: Converts an accumulator window into a scratchpad tile. -/
  | accn (a : Fin 32) (x : Fin 8)
  /-- R257: Adds weighted INT48 cells into an FP64 tile for slice products. -/
  | accx (a : Fin 32) (b : Fin 32)
  /-- R258: Saves an accumulator tile with codes to the Heel. -/
  | accst (a : Fin 32)
  /-- R258: Restores an accumulator tile from the Heel without checking. -/
  | accld (a : Fin 32)
  /-- R270: Copies global memory into a scratchpad tile under a promise. -/
  | cpg (a : Fin 32) (k : Fin 8)
  /-- R271: Indexed copy of global rows into a tile. -/
  | cpgX (a : Fin 32) (k : Fin 8)
  /-- R270: Copies a scratchpad tile to global memory or a remote scratchpad. -/
  | cps (a : Fin 32) (k : Fin 8)
  /-- R271: Indexed copy of tile rows to global rows. -/
  | cpsX (a : Fin 32) (k : Fin 8)
  /-- R272: Copies global to global or remote scratchpad. -/
  | cpy (a : Fin 32) (b : Fin 32) (k : Fin 8)
  /-- R274: Binds a scratchpad region to a global range as a window. -/
  | wmap (a : Fin 32) (k : Fin 8)
  /-- R275: Fills a bound window from global memory. -/
  | wfill (g : Fin 8) (k : Fin 8)
  /-- R275: Writes back the dirty sectors of a window. -/
  | wback (g : Fin 8) (k : Fin 8)
  /-- R275: Writes back a window and releases its binding. -/
  | wunmap (g : Fin 8) (k : Fin 8)
  /-- R276: Translates a VA for read and writes a status, surviving a page fault. -/
  | probeR (a : Fin 32) (b : Fin 32)
  /-- R276: Translates a VA for write and writes a status. -/
  | probeW (a : Fin 32) (b : Fin 32)
  /-- R278: Atomic add at the home, returning the old value. -/
  | atomAdd (a : Fin 32) (k : Fin 8)
  /-- R278: Atomic minimum, returning the old value. -/
  | atomMin (a : Fin 32) (k : Fin 8)
  /-- R278: Atomic maximum, returning the old value. -/
  | atomMax (a : Fin 32) (k : Fin 8)
  /-- R278: Atomic AND, returning the old value. -/
  | atomAnd (a : Fin 32) (k : Fin 8)
  /-- R278: Atomic OR, returning the old value. -/
  | atomOr (a : Fin 32) (k : Fin 8)
  /-- R278: Atomic XOR, returning the old value. -/
  | atomXor (a : Fin 32) (k : Fin 8)
  /-- R278: Atomic exchange, returning the old value. -/
  | atomXchg (a : Fin 32) (k : Fin 8)
  /-- R278: Atomic compare-and-swap over the whole range, returning the old value. -/
  | atomCas (a : Fin 32) (k : Fin 8)
  /-- R278: Atomic add without return. -/
  | atomAddNr (a : Fin 32) (k : Fin 8)
  /-- R278: Atomic minimum without return. -/
  | atomMinNr (a : Fin 32) (k : Fin 8)
  /-- R278: Atomic maximum without return. -/
  | atomMaxNr (a : Fin 32) (k : Fin 8)
  /-- R278: Atomic AND without return. -/
  | atomAndNr (a : Fin 32) (k : Fin 8)
  /-- R278: Atomic OR without return. -/
  | atomOrNr (a : Fin 32) (k : Fin 8)
  /-- R278: Atomic XOR without return. -/
  | atomXorNr (a : Fin 32) (k : Fin 8)
  /-- R278: Atomic exchange without return. -/
  | atomXchgNr (a : Fin 32) (k : Fin 8)
  /-- R278: Atomic compare-and-swap without return. -/
  | atomCasNr (a : Fin 32) (k : Fin 8)
  /-- R279: Writes a tile to every replica address of a list. -/
  | mcast (k : Fin 8)
  /-- R281: Sums contributions of all participants on a fixed tree. -/
  | collSum (a : Fin 32) (k : Fin 8)
  /-- R281: Maximum of the participants' contributions. -/
  | collMax (a : Fin 32) (k : Fin 8)
  /-- R281: Winning value-index pair across participants. -/
  | collArgmax (a : Fin 32) (k : Fin 8)
  /-- R281: Broadcasts the root's contribution to every participant. -/
  | collBcast (a : Fin 32) (k : Fin 8)
  /-- R283: Publishes and offers a launch header from scratchpad to a work queue. -/
  | qlnch (a : Fin 32) (b : Fin 32)
  /-- R286: Waits until the slot's previous round is final and returns the next depth. -/
  | wdepth (a : Fin 32) (b : Fin 32)
  /-- R286: Returns the latest rollback record of a slot. -/
  | wrbk (a : Fin 32) (b : Fin 32)
  /-- R287: Stalls until the round holds all proposals, then lands them. -/
  | wtake (a : Fin 32) (b : Fin 32)
  /-- R303: Judges the proposals against target probabilities and returns j*. -/
  | wjudge (a : Fin 32) (b : Fin 32)
  /-- R287: Passes the drawn token of a round to the Welt. -/
  | wfinal (a : Fin 32) (b : Fin 32)
  /-- R287: Returns a slot's rate, depth, live and fault marks. -/
  | wstat (a : Fin 32) (b : Fin 32)
  /-- R288: Writes one format-table entry. -/
  | ftset (a : Fin 32)
  /-- R288: Writes eight scale-table entries. -/
  | scld (a : Fin 32) (b : Fin 32) (h : Bool) (t : Bool)
  /-- R288: Writes a chain of the chain table. -/
  | chset (a : Fin 32) (b : Fin 32) (j : Fin 4)
  /-- R290: Loads an engine's declared ranges from a record. -/
  | decl (a : Fin 32)
  /-- R291: Requests a power level and stalls until granted. -/
  | pwra (a : Fin 32)
  /-- R292: Writes a queue control word and clears its claims. -/
  | qinit (a : Fin 32) (b : Fin 32)
  /-- R294: Puts tile rows on a clockwise ring lane. -/
  | lnputCw (a : Fin 32) (b : Fin 32) (l : Fin 8)
  /-- R294: Puts tile rows on an anticlockwise ring lane. -/
  | lnputAw (a : Fin 32) (b : Fin 32) (l : Fin 8)
  /-- R294: Captures rows passing on a clockwise lane. -/
  | lntapCw (a : Fin 32) (b : Fin 32) (l : Fin 8)
  /-- R294: Captures rows passing on an anticlockwise lane. -/
  | lntapAw (a : Fin 32) (b : Fin 32) (l : Fin 8)
  /-- R141: Does nothing for one task cycle. -/
  | nop 
  /-- R375: Returns from the trap being handled after two delay bundles, reloading the frame. -/
  | rte 
  /-- R23: Waits for latches, commands and promises, then publishes and retires the task. -/
  | endTask 
  /-- R210: Parks the context after its bundle if a pre-emption request is pending. -/
  | yld 
  /-- R210: In supervisor state, stops the context until resumed or released. -/
  | halt 
  /-- R117: Closes the open phase and starts its publication. -/
  | phaseP 
  /-- R121: Takes a new snapshot at its scope and holds until deliveries have landed. -/
  | phaseA 
  /-- R121: Performs PHASE.p then PHASE.a. -/
  | phasePa 
  /-- R220: High half of element-wise integer products. -/
  | vmulh 
  /-- R220: Element-wise minimum. -/
  | vmin 
  /-- R220: Element-wise maximum. -/
  | vmax 
  /-- R220: Copies vd1 into vd0 bit for bit. -/
  | vmov 
  /-- R221: Element-wise AND. -/
  | vand 
  /-- R221: Element-wise OR. -/
  | vor 
  /-- R221: Element-wise XOR. -/
  | vxor 
  /-- R221: Element-wise AND NOT. -/
  | vandn 
  /-- R221: Element-wise NOT. -/
  | vnot 
  /-- R221: Element-wise left shift. -/
  | vshl 
  /-- R221: Element-wise logical right shift. -/
  | vshr 
  /-- R221: Element-wise arithmetic right shift. -/
  | vsar 
  /-- R221: Selects vd1 or vd2 per the BIT mask vd3. -/
  | vsel 
  /-- R224: Counts set bits per element, or per row of a BIT tile. -/
  | vpopc 
  /-- R223: Counts leading zero bits per element. -/
  | vclz 
  /-- R223: Reverses bits per element. -/
  | vbrev 
  /-- R223: Finds the nth set bit per element. -/
  | vfns 
  /-- R223: Extracts a bit field per element. -/
  | vbfx 
  /-- R223: Inserts a bit field per element. -/
  | vbfi 
  /-- R223: Funnel shift left per element. -/
  | vfshL 
  /-- R223: Funnel shift right per element. -/
  | vfshR 
  /-- R225: FP32 2^x per element. -/
  | vexp2 
  /-- R225: FP32 log2 per element. -/
  | vlog2 
  /-- R225: FP32 reciprocal per element. -/
  | vrcp 
  /-- R225: FP32 reciprocal square root per element. -/
  | vrsqrt 
  /-- R228: Maximum over the whole tile. -/
  | vredmaxAll 
  /-- R228: Maximum of each row. -/
  | vredmaxRow 
  /-- R228: Maximum of each column. -/
  | vredmaxCol 
  /-- R228: Minimum over the whole tile. -/
  | vredminAll 
  /-- R228: Minimum of each row. -/
  | vredminRow 
  /-- R228: Minimum of each column. -/
  | vredminCol 
  /-- R230: Gathers elements of vd1 by the index tile vd2. -/
  | vgath 
  /-- R231: Scatters elements of vd1 into vd0 by the index tile vd2. -/
  | vscat 
  /-- R232: Writes the transpose of vd1 into vd0. -/
  | vtran 
  /-- R246: Accumulates the product of A and B into an accumulator window. -/
  | mma 
  /-- R246: Zeroes the window, then accumulates the product of A and B. -/
  | mmaZ 
  /-- R247: Block-scaled product accumulated in FX48. -/
  | mmas 
  /-- R247: Block-scaled product into a zeroed window. -/
  | mmasZ 
  /-- R254: Zeroes an accumulator window. -/
  | accz 
  /-- R286: Pushes proposal records from the Upper to the Welt's queue. -/
  | wprop 
  /-- R291: Releases the held power level. -/
  | pwrr 
  /-- R202: At the end of a loop's end block the sequencer applies strides, decrements or leaves levels and sets the PC. -/
  | iterationBoundary 
  /-- R336: Latches tagged with the current TCLK write their destinations, OR flags and check codes. -/
  | resultLatchCommit 
  /-- R345: A queued engine command starts at its nominal start or when the previous occupancy ends. -/
  | commandStart (e : Fin 4)
  /-- R217: A unit or k-group of a running command writes its results at its stated offset and charges energy. -/
  | unitWriteCommit (e : Fin 4)
  /-- R367: At a bundle boundary the first present trap, interrupt or pre-emption is taken and the frame written. -/
  | takingATrap 
  /-- R41: When all trapping stations have resumed, all 64 stations resume at the same common TCLK. -/
  | ringResume 
  /-- R342: After 64 blocked cycles the trail issues and the lead is held. -/
  | trailForcedIssue (core : Nat)
  /-- R205: TCLK reaches a WAITT target and the next bundle issues. -/
  | waittExpiry 
  /-- R267: A promised command becomes complete and releases a WAITP waiting on it. -/
  | copyCompletion (cid : Nat) (cmd : Nat)
  /-- R349: A WAITP frozen past its promise exceeds GRACE in throughput mode. -/
  | promiseMissed (cid : Nat)
  /-- R410: Every KWP ticks the home notifies requesters of parked pieces, resetting their grace counts. -/
  | keepWaitingNotice (cid : Nat) (cmd : Nat)
  /-- R87: Data arriving from outside the core lands through the fill port. -/
  | fillArrival (pc : Nat)
  /-- R126: An ATOM is performed at its home in one step of the home order. -/
  | atomAtHome (pc : Nat)
  /-- R117: A closed phase's writes have all reached their homes and the phase is published. -/
  | publicationCompletion (src : Nat)
  /-- R124: A scratchpad delivery lands at its receiving contexts when its publication completes. -/
  | deliveryLanding (pc : Nat)
  /-- R127: All participants of a barrier have arrived and published, and the barrier acquires. -/
  | barRelease (cid : Nat)
  /-- R282: Once all contributions are read the collective combines them and lands results. -/
  | collCombine (cid : Nat)
  /-- R98: A VPUSH stalled on a full queue resumes when the count allows its chunk. -/
  | vpushStallRelease (cid : Nat)
  /-- R283: A QLNCH stalled on a full work queue offers its header when room appears. -/
  | qlnchQueueRoom (cid : Nat)
  /-- R346: In deterministic mode a frozen command or M access proceeds once its operands are complete. -/
  | missedOperandRelease (cid : Nat)
  /-- R23: END's waits complete, the context publishes, releases claims and retires. -/
  | taskRetirement (cid : Nat)
  /-- R128: After all final publications the completion record and digest leave for the host. -/
  | launchCompletion (lid : Nat)
  /-- R399: At an admission opportunity the arbiter admits a gang whole onto cores. -/
  | gangAdmission 
  /-- R399: A waiting queue rises one level after AGE microseconds. -/
  | queueAgeing (q : Nat)
  /-- R401: Routers and Lace ports switch to new slot tables at frame boundaries. -/
  | routerTableSwitch 
  /-- R300: A checked proposal record enters the queue when there is room, or is flushed or refused. -/
  | proposalRecordIntake (cid : Nat) (rec : List (BitVec 8))
  /-- R287: A stalled WTAKE lands the round's records once all d proposals are queued. -/
  | wtakeRelease (cid : Nat)
  /-- R308: A WDEPTH released by its round becoming final installs the rollback record. -/
  | wdepthRelease (cid : Nat)
  /-- R305: After earlier publications the Welt commits tokens, updates rate and depth and opens the next round. -/
  | wfinalPerformed (cid : Nat)
  /-- R312: A logit task reaches LBUDGET or traps and is ended with its slot faulted. -/
  | logitFault (cid : Nat)
  /-- R376: The reference timer reaches PERIOD and TIMER becomes pending. -/
  | timerExpiry (cid : Nat)
  /-- R428: A parked context's wait count reaches SLICE and a pre-emption request is made. -/
  | sliceExpiry (cid : Nat)
  /-- R381: The iteration bound expires after a pre-emption request and the context is parked by force. -/
  | preemptLate (cid : Nat)
  /-- R420: The power manager grants a queued level request. -/
  | pwraGrant (upper : Bool)
  /-- R425: Each reference tick a core's static energy is charged to its issuing contexts. -/
  | staticChargeTick (unit : Nat)
  /-- R422: Every 10 µs island temperatures are sampled and throttling changed or TCRIT acted on. -/
  | thermalSample (temps : List (Nat × Nat))
  /-- R352: At the quiesce point the core freezes and moves to the pending operating point. -/
  | opSwitchQuiesce (unit : Nat)
  /-- R352: The settling latency ends and the core's contexts resume. -/
  | opSwitchSettled (unit : Nat)
  /-- R423: A context's hang watchdog reaches HANGT and raises FATAL_CONTEXT. -/
  | hangWatchdogExpiry (cid : Nat)
  /-- R423: A declared wait reaches DWAIT and raises FATAL_CONTEXT. -/
  | waitWatchdogExpiry (cid : Nat)
  /-- R444: A fenced unit's self-test ends, classifying errors as transient or retiring the unit. -/
  | selfTestEnd (test : Nat) (pass : Bool)
  /-- R430: The Cobbler sets ENERGY from the frame's g1 at the next tick edge. -/
  | svcSetEnergy (cid : Nat)
  /-- R430: The Cobbler clears ENERGY's saturation flag at the next tick edge. -/
  | svcClearEnergyFlag (cid : Nat)
  /-- R417: The Cobbler parks, halts and copies a partition to the HBM swap region. -/
  | partitionSwapOut (units : List Nat)
  /-- R417: The Cobbler restores a swapped partition and resumes its contexts. -/
  | partitionSwapIn (units : List Nat)
  /-- R418: Resumes a halted context. -/
  | ctxcmdResume (cid : Nat)
  /-- R418: Ends a context's task with FATAL_CONTEXT. -/
  | ctxcmdEndTask (cid : Nat)
  /-- R418: Parks a context. -/
  | ctxcmdPark (cid : Nat)
  /-- R374: Reads the frame dword at FIDX and advances FIDX. -/
  | fdatRead (v : Fin 32)
  /-- R374: Writes the frame dword at FIDX if RW, with codes, and advances FIDX. -/
  | fdatWrite (val : BitVec 64)
  /-- R376: Writing TMR arms or disarms the reference timer and restarts its count. -/
  | tmrWrite (val : BitVec 64)
  /-- R196: Writing a level's COUNT changes the iterations taken at its next boundary. -/
  | lcntWrite (l : Fin 8) (val : BitVec 64)
  /-- R419: Writing an island's OPCAP or THOP changes its effective operating point. -/
  | islctlWrite (isl : Nat) (val : BitVec 64)
  /-- R195: A write to a control register with no behaviour of its own. -/
  | registerWrite (r : RegTarget) (val : BitVec 64)
  /-- R387: A malformed or unauthenticated datagram is discarded and counted. -/
  | vctDatagramDiscard (dg : List (BitVec 8))
  /-- R388: A host opens a session, answered by ACCEPT or REFUSE. -/
  | openSession (body : List (BitVec 8))
  /-- R390: A session closes, discarding queued launches and cancelling its requests. -/
  | closeSession (sid : Nat)
  /-- R389: The host acknowledges a device packet, ending its retransmission. -/
  | ack (sid : Nat) (sq : Nat)
  /-- R389: An unacknowledged device packet is sent again every 100 µs, closing the session after 64 sends. -/
  | retransmit (sid : Nat) (sq : Nat)
  /-- R398: A launch header arrives and is checked into a work queue. -/
  | launch (sid : Nat) (sq : Nat) (q : Nat) (hdr : List (BitVec 8))
  /-- R391: Host data is written to global memory as one published phase. -/
  | hostcopyIn (sid : Nat) (sq : Nat) (va : BitVec 64) (dat : List (BitVec 8))
  /-- R391: Global memory is read under a system snapshot and returned in DATA. -/
  | hostcopyOut (sid : Nat) (sq : Nat) (va : BitVec 64) (n : Nat)
  /-- R392: Raises HOST_SIGNAL on a task's context. -/
  | signalTask (sid : Nat) (sq : Nat) (tag : BitVec 64) (wid : BitVec 64) (val : BitVec 64)
  /-- R392: Opens a Welt sequence slot from a request record. -/
  | signalOpenSlot (sid : Nat) (sq : Nat) (slot : Nat) (rec : List (BitVec 8))
  /-- R392: Ends a request by host cancel and raises WELT_NOTICE. -/
  | signalCancel (sid : Nat) (sq : Nat) (slot : Nat) (req : BitVec 32)
  /-- R392: Releases an ended slot. -/
  | signalRelease (sid : Nat) (sq : Nat) (slot : Nat) (req : BitVec 32)
  /-- R391: Starts polling a dword until a relation holds or a timeout. -/
  | waitval (sid : Nat) (sq : Nat) (va : BitVec 64) (msk : BitVec 64) (val : BitVec 64) (rel : Nat) (tmo : Nat)
  /-- R391: Every microsecond the dword is read under a fresh snapshot and compared, or the timeout expires. -/
  | waitvalPoll (sid : Nat) (sq : Nat)
  /-- R449: Returns management register dwords. -/
  | queryManagement (sid : Nat) (sq : Nat) (idx : Nat) (off : Nat) (cnt : Nat)
  /-- R450: Returns dwords of a slot record read in one tick. -/
  | querySlotRecord (sid : Nat) (sq : Nat) (idx : Nat) (off : Nat) (cnt : Nat)
  /-- R450: Returns a context's trap frame as last written. -/
  | queryTrapFrame (sid : Nat) (sq : Nat) (idx : Nat) (off : Nat) (cnt : Nat)
  /-- R450: Returns a work queue's state dwords. -/
  | queryQueueState (sid : Nat) (sq : Nat) (idx : Nat) (off : Nat) (cnt : Nat)
  /-- R391: Returns the loaded slot tables. -/
  | querySlotTables (sid : Nat) (sq : Nat) (idx : Nat) (off : Nat) (cnt : Nat)
  /-- R446: Returns dwords of the error log. -/
  | queryErrorLog (sid : Nat) (sq : Nat) (idx : Nat) (off : Nat) (cnt : Nat)
  /-- R443: Builds or reads the signed attestation report. -/
  | queryAttestation (sid : Nat) (sq : Nat) (idx : Nat) (off : Nat) (cnt : Nat)
  /-- R411: A page answer reporting mapped completes the PROBE or releases parked pieces. -/
  | pageansMapped (sid : Nat) (sq : Nat) (rseq : Nat)
  /-- R411: A page answer reporting failure completes a PROBE with status 2 or refuses parked pieces. -/
  | pageansFailure (sid : Nat) (sq : Nat) (rseq : Nat)
  /-- R411: PAGEANS OP 1 writes a page entry. -/
  | pageEntryWrite (sid : Nat) (sq : Nat) (num : Nat) (va : BitVec 64) (val : BitVec 64)
  /-- R411: PAGEANS OP 2 writes or inserts a segment entry. -/
  | segmentEntryWrite (sid : Nat) (sq : Nat) (num : Nat) (va : BitVec 64) (w0 : BitVec 64) (w1 : BitVec 64)
  /-- R411: PAGEANS OP 3 starts a migration of a page. -/
  | pageMigrate (sid : Nat) (sq : Nat) (num : Nat) (va : BitVec 64) (val : BitVec 64)
  /-- R411: PAGEANS OP 4 invalidates cached entries of a segment. -/
  | mapCacheInvalidate (sid : Nat) (sq : Nat) (num : Nat) (va : BitVec 64)
  /-- R411: PAGEANS OP 5 appends a frame to the free-frame list. -/
  | freeFrameAppend (sid : Nat) (sq : Nat) (num : Nat) (val : BitVec 64)
  /-- R411: PAGEANS OP 6 supplies words 2 and 3 of the preceding segment entry. -/
  | segmentWordsWrite (sid : Nat) (sq : Nat) (num : Nat) (va : BitVec 64) (w2 : BitVec 64) (w3 : BitVec 64)
  /-- R407: A MIGRATE page's ACNT reaches MTHR and a migration is requested. -/
  | migrateTrigger (cid : Nat) (va : BitVec 64)
  /-- R409: Once BUSY reaches zero the home copies the page, rewrites its entry and notifies the owner. -/
  | migrationCopy (va : BitVec 64)
  /-- R409: A piece reaching its home enters service, waits on HOLD, parks on a fault or is refused. -/
  | pieceAtHome (pc : Nat)
  /-- R413: A far piece not accepted within 64 retransmissions is refused. -/
  | farPieceRefusal (pc : Nat)
  /-- R441: At power-on the Cobbler verifies images, rebuilds identity, self-tests, clears memory and opens ports. -/
  | boot (puf : List (BitVec 8)) (helper : List (BitVec 8)) (fw : List (BitVec 8)) (cfg : List (BitVec 8)) (failed : List (Nat × Nat × Nat))
  /-- R262: A target's refusal of a remote piece or atomic arrives back at the requester, which raises FATAL_CONTEXT or CHECK_MISMATCH at its next boundary. -/
  | targetRefusal (pc : Nat)
  /-- R444: A bank or link error detected on a unit makes the Cobbler fence that unit and start its self-test. -/
  | linkError (ukind : Nat) (unit : Nat) (idx : Nat)
  /-- R297: The Cobbler writes one of the Welt's eight threshold tables, refusing a table whose entries decrease. -/
  | thresholdTableWrite (t : Fin 8) (es : List Nat)
  deriving DecidableEq, Repr

/-- A syllable of R137: the operation and the fields its format shares with every other syllable of that format.
`stop` is bit [31]; `p` and `ng` are the guard (R164; p0 and false where the format has none, so that it always acts);
`sw` and `tm` are SW and TIMED (R153), and `b` is the start register of an engine syllable that may be timed. -/
structure Syl where
  stop : Bool
  p : Fin 8
  ng : Bool
  sw : Bool
  tm : Bool
  b : Fin 32
  op : Instr
  deriving DecidableEq, Repr

/-- A step that is due without being a syllable: the data of the 91 event rows of Instr, as a state lists it. -/
inductive Event where
  | iterationBoundary 
  | resultLatchCommit 
  | commandStart (e : Fin 4)
  | unitWriteCommit (e : Fin 4)
  | takingATrap 
  | ringResume 
  | trailForcedIssue (core : Nat)
  | waittExpiry 
  | copyCompletion (cid : Nat) (cmd : Nat)
  | promiseMissed (cid : Nat)
  | keepWaitingNotice (cid : Nat) (cmd : Nat)
  | fillArrival (pc : Nat)
  | atomAtHome (pc : Nat)
  | publicationCompletion (src : Nat)
  | deliveryLanding (pc : Nat)
  | barRelease (cid : Nat)
  | collCombine (cid : Nat)
  | vpushStallRelease (cid : Nat)
  | qlnchQueueRoom (cid : Nat)
  | missedOperandRelease (cid : Nat)
  | taskRetirement (cid : Nat)
  | launchCompletion (lid : Nat)
  | gangAdmission 
  | queueAgeing (q : Nat)
  | routerTableSwitch 
  | proposalRecordIntake (cid : Nat) (rec : List (BitVec 8))
  | wtakeRelease (cid : Nat)
  | wdepthRelease (cid : Nat)
  | wfinalPerformed (cid : Nat)
  | logitFault (cid : Nat)
  | timerExpiry (cid : Nat)
  | sliceExpiry (cid : Nat)
  | preemptLate (cid : Nat)
  | pwraGrant (upper : Bool)
  | staticChargeTick (unit : Nat)
  | thermalSample (temps : List (Nat × Nat))
  | opSwitchQuiesce (unit : Nat)
  | opSwitchSettled (unit : Nat)
  | hangWatchdogExpiry (cid : Nat)
  | waitWatchdogExpiry (cid : Nat)
  | selfTestEnd (test : Nat) (pass : Bool)
  | svcSetEnergy (cid : Nat)
  | svcClearEnergyFlag (cid : Nat)
  | partitionSwapOut (units : List Nat)
  | partitionSwapIn (units : List Nat)
  | ctxcmdResume (cid : Nat)
  | ctxcmdEndTask (cid : Nat)
  | ctxcmdPark (cid : Nat)
  | fdatRead (v : Fin 32)
  | fdatWrite (val : BitVec 64)
  | tmrWrite (val : BitVec 64)
  | lcntWrite (l : Fin 8) (val : BitVec 64)
  | islctlWrite (isl : Nat) (val : BitVec 64)
  | registerWrite (r : RegTarget) (val : BitVec 64)
  | vctDatagramDiscard (dg : List (BitVec 8))
  | openSession (body : List (BitVec 8))
  | closeSession (sid : Nat)
  | ack (sid : Nat) (sq : Nat)
  | retransmit (sid : Nat) (sq : Nat)
  | launch (sid : Nat) (sq : Nat) (q : Nat) (hdr : List (BitVec 8))
  | hostcopyIn (sid : Nat) (sq : Nat) (va : BitVec 64) (dat : List (BitVec 8))
  | hostcopyOut (sid : Nat) (sq : Nat) (va : BitVec 64) (n : Nat)
  | signalTask (sid : Nat) (sq : Nat) (tag : BitVec 64) (wid : BitVec 64) (val : BitVec 64)
  | signalOpenSlot (sid : Nat) (sq : Nat) (slot : Nat) (rec : List (BitVec 8))
  | signalCancel (sid : Nat) (sq : Nat) (slot : Nat) (req : BitVec 32)
  | signalRelease (sid : Nat) (sq : Nat) (slot : Nat) (req : BitVec 32)
  | waitval (sid : Nat) (sq : Nat) (va : BitVec 64) (msk : BitVec 64) (val : BitVec 64) (rel : Nat) (tmo : Nat)
  | waitvalPoll (sid : Nat) (sq : Nat)
  | queryManagement (sid : Nat) (sq : Nat) (idx : Nat) (off : Nat) (cnt : Nat)
  | querySlotRecord (sid : Nat) (sq : Nat) (idx : Nat) (off : Nat) (cnt : Nat)
  | queryTrapFrame (sid : Nat) (sq : Nat) (idx : Nat) (off : Nat) (cnt : Nat)
  | queryQueueState (sid : Nat) (sq : Nat) (idx : Nat) (off : Nat) (cnt : Nat)
  | querySlotTables (sid : Nat) (sq : Nat) (idx : Nat) (off : Nat) (cnt : Nat)
  | queryErrorLog (sid : Nat) (sq : Nat) (idx : Nat) (off : Nat) (cnt : Nat)
  | queryAttestation (sid : Nat) (sq : Nat) (idx : Nat) (off : Nat) (cnt : Nat)
  | pageansMapped (sid : Nat) (sq : Nat) (rseq : Nat)
  | pageansFailure (sid : Nat) (sq : Nat) (rseq : Nat)
  | pageEntryWrite (sid : Nat) (sq : Nat) (num : Nat) (va : BitVec 64) (val : BitVec 64)
  | segmentEntryWrite (sid : Nat) (sq : Nat) (num : Nat) (va : BitVec 64) (w0 : BitVec 64) (w1 : BitVec 64)
  | pageMigrate (sid : Nat) (sq : Nat) (num : Nat) (va : BitVec 64) (val : BitVec 64)
  | mapCacheInvalidate (sid : Nat) (sq : Nat) (num : Nat) (va : BitVec 64)
  | freeFrameAppend (sid : Nat) (sq : Nat) (num : Nat) (val : BitVec 64)
  | segmentWordsWrite (sid : Nat) (sq : Nat) (num : Nat) (va : BitVec 64) (w2 : BitVec 64) (w3 : BitVec 64)
  | migrateTrigger (cid : Nat) (va : BitVec 64)
  | migrationCopy (va : BitVec 64)
  | pieceAtHome (pc : Nat)
  | farPieceRefusal (pc : Nat)
  | boot (puf : List (BitVec 8)) (helper : List (BitVec 8)) (fw : List (BitVec 8)) (cfg : List (BitVec 8)) (failed : List (Nat × Nat × Nat))
  | targetRefusal (pc : Nat)
  | linkError (ukind : Nat) (unit : Nat) (idx : Nat)
  | thresholdTableWrite (t : Fin 8) (es : List Nat)
  deriving DecidableEq, Repr

end Sys2Proof
end

