-- ==== Sys2Proof/WellFormed.lean ====
section
/-! DEFINITION. Which syllables have an encoding: the conditions of R145, R156, R193, R200, R203, R213 and R222 on
fields taken alone. An ill-formed syllable is one that no word of the opcode map stands for. -/

namespace Sys2Proof

/-- R161, R374, R418: the control register numbers that exist. Reason 25 of R156 covers every other number. The
entries 0x040 to 0x06F and 0x080 to 0x097 all count as present (R161), and so do 0xF00 to 0xFFF. -/
def ctlAllocated (n : Nat) : Bool :=
  decide (n ≤ 0x005) || decide (0x008 ≤ n ∧ n ≤ 0x00C) || decide (0x010 ≤ n ∧ n ≤ 0x015) ||
  decide (0x020 ≤ n ∧ n ≤ 0x023) || decide (0x030 ≤ n ∧ n ≤ 0x032) || decide (0x040 ≤ n ∧ n ≤ 0x06F) ||
  decide (0x080 ≤ n ∧ n ≤ 0x097) || decide (0x100 ≤ n ∧ n ≤ 0x117) || decide (0x120 ≤ n ∧ n ≤ 0x127) ||
  decide (0xF00 ≤ n ∧ n ≤ 0xFFF)

/-- R145 but for its last condition, which needs the bundle: the field values a prefix may hold. -/
def pfxFieldsOk (sc : Nat) (opv : Bool) (op fst lst lv : Nat) : Bool :=
  decide (sc < 5) && decide (lv < 6) && !(fst == 0 && lst == 0 && lv != 0) && (opv || op == 0)

/-- The formats of R144 and R148 to R154, by the shared fields they have: the prefix; the S formats, which have only the
stop bit; the guarded M, MC, B and Q formats; and the E format, with or without TIMED. -/
inductive Format where
  | pfx | scalar | guarded | untimed | timed | none
  deriving DecidableEq, Repr

/-- Which shared fields an operation's format has (R144, R148 to R154). -/
def format : Instr → Format
  | .add _ _ _ => .scalar
  | .sub _ _ _ => .scalar
  | .addw _ _ _ => .scalar
  | .subw _ _ _ => .scalar
  | .and _ _ _ => .scalar
  | .or _ _ _ => .scalar
  | .xor _ _ _ => .scalar
  | .andn _ _ _ => .scalar
  | .orn _ _ _ => .scalar
  | .shl _ _ _ => .scalar
  | .shr _ _ _ => .scalar
  | .sar _ _ _ => .scalar
  | .rotl _ _ _ => .scalar
  | .min _ _ _ => .scalar
  | .max _ _ _ => .scalar
  | .minn _ _ _ => .scalar
  | .maxn _ _ _ => .scalar
  | .sextB _ _ => .scalar
  | .sextH _ _ => .scalar
  | .sextW _ _ => .scalar
  | .zextB _ _ => .scalar
  | .zextH _ _ => .scalar
  | .zextW _ _ => .scalar
  | .addi _ _ _ => .scalar
  | .andi _ _ _ => .scalar
  | .ori _ _ _ => .scalar
  | .xori _ _ _ => .scalar
  | .shli _ _ _ => .scalar
  | .shri _ _ _ => .scalar
  | .sari _ _ _ => .scalar
  | .rotli _ _ _ => .scalar
  | .movi _ _ _ => .scalar
  | .movk _ _ _ => .scalar
  | .cmpeq _ _ _ => .scalar
  | .cmpne _ _ _ => .scalar
  | .cmplt _ _ _ => .scalar
  | .cmple _ _ _ => .scalar
  | .cmpltn _ _ _ => .scalar
  | .cmplen _ _ _ => .scalar
  | .cmpeqi _ _ _ => .scalar
  | .cmpnei _ _ _ => .scalar
  | .cmplti _ _ _ => .scalar
  | .cmpltni _ _ _ => .scalar
  | .pand _ _ _ => .scalar
  | .por _ _ _ => .scalar
  | .pxor _ _ _ => .scalar
  | .pandn _ _ _ => .scalar
  | .psetFalse _ => .scalar
  | .psetTrue _ => .scalar
  | .pmovPred _ _ => .scalar
  | .pmovFromReg _ _ => .scalar
  | .sel _ _ _ _ => .scalar
  | .pmovToReg _ _ => .scalar
  | .fadd _ _ _ _ _ => .scalar
  | .fsub _ _ _ _ _ => .scalar
  | .fmul _ _ _ _ _ => .scalar
  | .ffma _ _ _ _ _ => .scalar
  | .ffms _ _ _ _ _ => .scalar
  | .fdiv _ _ _ _ _ => .scalar
  | .fsqrt _ _ _ _ => .scalar
  | .fmin _ _ _ _ => .scalar
  | .fmax _ _ _ _ => .scalar
  | .fcmpeq _ _ _ _ => .scalar
  | .fcmplt _ _ _ _ => .scalar
  | .fcmple _ _ _ _ => .scalar
  | .fcmpun _ _ _ _ => .scalar
  | .fclass _ _ _ => .scalar
  | .fcvtFloat _ _ _ _ => .scalar
  | .fcvtToI64 _ _ _ _ => .scalar
  | .fcvtToN64 _ _ _ _ => .scalar
  | .fcvtToI32 _ _ _ _ => .scalar
  | .fcvtToN32 _ _ _ _ => .scalar
  | .fcvtFromI64 _ _ _ _ => .scalar
  | .fcvtFromN64 _ _ _ _ => .scalar
  | .fcvtFromI32 _ _ _ _ => .scalar
  | .fcvtFromN32 _ _ _ _ => .scalar
  | .clz _ _ => .scalar
  | .ctz _ _ => .scalar
  | .popc _ _ => .scalar
  | .brev _ _ => .scalar
  | .fns _ _ _ => .scalar
  | .bfx _ _ _ => .scalar
  | .bfxn _ _ _ => .scalar
  | .bfi _ _ _ => .scalar
  | .fshl _ _ _ => .scalar
  | .fshr _ _ _ => .scalar
  | .mul _ _ _ => .scalar
  | .mulh _ _ _ => .scalar
  | .mulhn _ _ _ => .scalar
  | .div _ _ _ => .scalar
  | .divn _ _ _ => .scalar
  | .rem _ _ _ => .scalar
  | .remn _ _ _ => .scalar
  | .ldB _ _ _ _ => .guarded
  | .ldBn _ _ _ _ => .guarded
  | .ldH _ _ _ _ => .guarded
  | .ldHn _ _ _ _ => .guarded
  | .ldW _ _ _ _ => .guarded
  | .ldWn _ _ _ _ => .guarded
  | .ldD _ _ _ _ => .guarded
  | .stB _ _ _ _ => .guarded
  | .stH _ _ _ _ => .guarded
  | .stW _ _ _ _ => .guarded
  | .stD _ _ _ _ => .guarded
  | .stq _ _ _ _ => .guarded
  | .shw _ _ _ _ => .guarded
  | .shg _ _ _ _ _ => .guarded
  | .ctlr _ _ => .guarded
  | .ctlrQ _ _ => .guarded
  | .ctlw _ _ => .guarded
  | .br _ => .guarded
  | .brcNz _ _ => .guarded
  | .brcZ _ _ => .guarded
  | .call _ => .guarded
  | .jmp _ => .guarded
  | .loop _ _ _ => .guarded
  | .loopi _ _ _ => .guarded
  | .lstr _ _ _ _ _ => .guarded
  | .trap _ => .guarded
  | .svc _ => .guarded
  | .lbrk _ => .guarded
  | .waittAbs _ => .guarded
  | .waittRel _ => .guarded
  | .waitp _ => .guarded
  | .bar _ => .guarded
  | .pfx _ _ _ _ _ _ => .pfx
  | .vadd _ => .timed
  | .vaddS _ _ => .timed
  | .vsub _ => .timed
  | .vsubS _ _ => .timed
  | .vmul _ => .timed
  | .vmulS _ _ => .timed
  | .vmulhS _ => .timed
  | .vfma _ => .timed
  | .vfmaS _ _ => .timed
  | .vfms _ => .timed
  | .vfmsS _ _ => .timed
  | .vminS _ => .timed
  | .vmaxS _ => .timed
  | .vabs _ => .timed
  | .vneg _ => .timed
  | .vdiv _ => .timed
  | .vdivS _ _ => .timed
  | .vsqrt _ => .timed
  | .vfill _ => .timed
  | .vandS _ => .timed
  | .vorS _ => .timed
  | .vxorS _ => .timed
  | .vandnS _ => .timed
  | .vshlS _ => .timed
  | .vshrS _ => .timed
  | .vsarS _ => .timed
  | .vcmp _ => .timed
  | .vcmpS _ _ => .timed
  | .vselS _ => .timed
  | .vfnsS _ => .timed
  | .vbfxS _ => .timed
  | .vbfiS _ => .timed
  | .vfshLS _ => .timed
  | .vfshRS _ => .timed
  | .vcvt _ => .timed
  | .vsplit _ => .timed
  | .vredsumAll _ => .timed
  | .vredsumRow _ => .timed
  | .vredsumCol _ => .timed
  | .vargmaxAll _ => .timed
  | .vargmaxRow _ => .timed
  | .vargmaxCol _ => .timed
  | .vscan _ => .timed
  | .vpush _ => .timed
  | .vpop _ _ => .untimed
  | .vqcnt _ _ => .untimed
  | .vchain _ _ => .timed
  | .accn _ _ => .timed
  | .accx _ _ => .untimed
  | .accst _ => .timed
  | .accld _ => .timed
  | .cpg _ _ => .timed
  | .cpgX _ _ => .timed
  | .cps _ _ => .timed
  | .cpsX _ _ => .timed
  | .cpy _ _ _ => .untimed
  | .wmap _ _ => .timed
  | .wfill _ _ => .timed
  | .wback _ _ => .timed
  | .wunmap _ _ => .timed
  | .probeR _ _ => .untimed
  | .probeW _ _ => .untimed
  | .atomAdd _ _ => .timed
  | .atomMin _ _ => .timed
  | .atomMax _ _ => .timed
  | .atomAnd _ _ => .timed
  | .atomOr _ _ => .timed
  | .atomXor _ _ => .timed
  | .atomXchg _ _ => .timed
  | .atomCas _ _ => .timed
  | .atomAddNr _ _ => .timed
  | .atomMinNr _ _ => .timed
  | .atomMaxNr _ _ => .timed
  | .atomAndNr _ _ => .timed
  | .atomOrNr _ _ => .timed
  | .atomXorNr _ _ => .timed
  | .atomXchgNr _ _ => .timed
  | .atomCasNr _ _ => .timed
  | .mcast _ => .timed
  | .collSum _ _ => .timed
  | .collMax _ _ => .timed
  | .collArgmax _ _ => .timed
  | .collBcast _ _ => .timed
  | .qlnch _ _ => .untimed
  | .wdepth _ _ => .untimed
  | .wrbk _ _ => .untimed
  | .wtake _ _ => .untimed
  | .wjudge _ _ => .untimed
  | .wfinal _ _ => .untimed
  | .wstat _ _ => .untimed
  | .ftset _ => .guarded
  | .scld _ _ _ _ => .guarded
  | .chset _ _ _ => .guarded
  | .decl _ => .guarded
  | .pwra _ => .guarded
  | .qinit _ _ => .guarded
  | .lnputCw _ _ _ => .guarded
  | .lnputAw _ _ _ => .guarded
  | .lntapCw _ _ _ => .guarded
  | .lntapAw _ _ _ => .guarded
  | .nop => .guarded
  | .rte => .guarded
  | .endTask => .guarded
  | .yld => .guarded
  | .halt => .guarded
  | .phaseP => .guarded
  | .phaseA => .guarded
  | .phasePa => .guarded
  | .vmulh => .timed
  | .vmin => .timed
  | .vmax => .timed
  | .vmov => .timed
  | .vand => .timed
  | .vor => .timed
  | .vxor => .timed
  | .vandn => .timed
  | .vnot => .timed
  | .vshl => .timed
  | .vshr => .timed
  | .vsar => .timed
  | .vsel => .timed
  | .vpopc => .timed
  | .vclz => .timed
  | .vbrev => .timed
  | .vfns => .timed
  | .vbfx => .timed
  | .vbfi => .timed
  | .vfshL => .timed
  | .vfshR => .timed
  | .vexp2 => .timed
  | .vlog2 => .timed
  | .vrcp => .timed
  | .vrsqrt => .timed
  | .vredmaxAll => .timed
  | .vredmaxRow => .timed
  | .vredmaxCol => .timed
  | .vredminAll => .timed
  | .vredminRow => .timed
  | .vredminCol => .timed
  | .vgath => .timed
  | .vscat => .timed
  | .vtran => .timed
  | .mma => .timed
  | .mmaZ => .timed
  | .mmas => .timed
  | .mmasZ => .timed
  | .accz => .timed
  | .wprop => .timed
  | .pwrr => .guarded
  | .iterationBoundary => .none
  | .resultLatchCommit => .none
  | .commandStart _ => .none
  | .unitWriteCommit _ => .none
  | .takingATrap => .none
  | .ringResume => .none
  | .trailForcedIssue _ => .none
  | .waittExpiry => .none
  | .copyCompletion _ _ => .none
  | .promiseMissed _ => .none
  | .keepWaitingNotice _ _ => .none
  | .fillArrival _ => .none
  | .atomAtHome _ => .none
  | .publicationCompletion _ => .none
  | .deliveryLanding _ => .none
  | .barRelease _ => .none
  | .collCombine _ => .none
  | .vpushStallRelease _ => .none
  | .qlnchQueueRoom _ => .none
  | .missedOperandRelease _ => .none
  | .taskRetirement _ => .none
  | .launchCompletion _ => .none
  | .gangAdmission => .none
  | .queueAgeing _ => .none
  | .routerTableSwitch => .none
  | .proposalRecordIntake _ _ => .none
  | .wtakeRelease _ => .none
  | .wdepthRelease _ => .none
  | .wfinalPerformed _ => .none
  | .logitFault _ => .none
  | .timerExpiry _ => .none
  | .sliceExpiry _ => .none
  | .preemptLate _ => .none
  | .pwraGrant _ => .none
  | .staticChargeTick _ => .none
  | .thermalSample _ => .none
  | .opSwitchQuiesce _ => .none
  | .opSwitchSettled _ => .none
  | .hangWatchdogExpiry _ => .none
  | .waitWatchdogExpiry _ => .none
  | .selfTestEnd _ _ => .none
  | .svcSetEnergy _ => .none
  | .svcClearEnergyFlag _ => .none
  | .partitionSwapOut _ => .none
  | .partitionSwapIn _ => .none
  | .ctxcmdResume _ => .none
  | .ctxcmdEndTask _ => .none
  | .ctxcmdPark _ => .none
  | .fdatRead _ => .none
  | .fdatWrite _ => .none
  | .tmrWrite _ => .none
  | .lcntWrite _ _ => .none
  | .islctlWrite _ _ => .none
  | .registerWrite _ _ => .none
  | .vctDatagramDiscard _ => .none
  | .openSession _ => .none
  | .closeSession _ => .none
  | .ack _ _ => .none
  | .retransmit _ _ => .none
  | .launch _ _ _ _ => .none
  | .hostcopyIn _ _ _ _ => .none
  | .hostcopyOut _ _ _ _ => .none
  | .signalTask _ _ _ _ _ => .none
  | .signalOpenSlot _ _ _ _ => .none
  | .signalCancel _ _ _ _ => .none
  | .signalRelease _ _ _ _ => .none
  | .waitval _ _ _ _ _ _ _ => .none
  | .waitvalPoll _ _ => .none
  | .queryManagement _ _ _ _ _ => .none
  | .querySlotRecord _ _ _ _ _ => .none
  | .queryTrapFrame _ _ _ _ _ => .none
  | .queryQueueState _ _ _ _ _ => .none
  | .querySlotTables _ _ _ _ _ => .none
  | .queryErrorLog _ _ _ _ _ => .none
  | .queryAttestation _ _ _ _ _ => .none
  | .pageansMapped _ _ _ => .none
  | .pageansFailure _ _ _ => .none
  | .pageEntryWrite _ _ _ _ _ => .none
  | .segmentEntryWrite _ _ _ _ _ _ => .none
  | .pageMigrate _ _ _ _ _ => .none
  | .mapCacheInvalidate _ _ _ _ => .none
  | .freeFrameAppend _ _ _ _ => .none
  | .segmentWordsWrite _ _ _ _ _ _ => .none
  | .migrateTrigger _ _ => .none
  | .migrationCopy _ => .none
  | .pieceAtHome _ => .none
  | .farPieceRefusal _ => .none
  | .boot _ _ _ _ _ => .none
  | .targetRefusal _ => .none
  | .linkError _ _ _ => .none
  | .thresholdTableWrite _ _ => .none

/-- The conditions on an operation's own fields under which a word stands for it. -/
def opWellFormed : Instr → Bool
  | .add _ _ _ => true
  | .sub _ _ _ => true
  | .addw _ _ _ => true
  | .subw _ _ _ => true
  | .and _ _ _ => true
  | .or _ _ _ => true
  | .xor _ _ _ => true
  | .andn _ _ _ => true
  | .orn _ _ _ => true
  | .shl _ _ _ => true
  | .shr _ _ _ => true
  | .sar _ _ _ => true
  | .rotl _ _ _ => true
  | .min _ _ _ => true
  | .max _ _ _ => true
  | .minn _ _ _ => true
  | .maxn _ _ _ => true
  | .sextB _ _ => true
  | .sextH _ _ => true
  | .sextW _ _ => true
  | .zextB _ _ => true
  | .zextH _ _ => true
  | .zextW _ _ => true
  | .addi _ _ _ => true
  | .andi _ _ _ => true
  | .ori _ _ _ => true
  | .xori _ _ _ => true
  | .shli _ _ _ => true
  | .shri _ _ _ => true
  | .sari _ _ _ => true
  | .rotli _ _ _ => true
  | .movi _ _ _ => true
  | .movk _ _ _ => true
  | .cmpeq _ _ _ => true
  | .cmpne _ _ _ => true
  | .cmplt _ _ _ => true
  | .cmple _ _ _ => true
  | .cmpltn _ _ _ => true
  | .cmplen _ _ _ => true
  | .cmpeqi _ _ _ => true
  | .cmpnei _ _ _ => true
  | .cmplti _ _ _ => true
  | .cmpltni _ _ _ => true
  | .pand _ _ _ => true
  | .por _ _ _ => true
  | .pxor _ _ _ => true
  | .pandn _ _ _ => true
  | .psetFalse _ => true
  | .psetTrue _ => true
  | .pmovPred _ _ => true
  | .pmovFromReg _ _ => true
  | .sel _ _ _ _ => true
  | .pmovToReg _ _ => true
  | .fadd _ _ _ _ m => decide (m.val < 7)
  | .fsub _ _ _ _ m => decide (m.val < 7)
  | .fmul _ _ _ _ m => decide (m.val < 7)
  | .ffma _ _ _ _ m => decide (m.val < 7)
  | .ffms _ _ _ _ m => decide (m.val < 7)
  | .fdiv _ _ _ _ m => decide (m.val < 7)
  | .fsqrt _ _ _ m => decide (m.val < 7)
  | .fmin _ _ _ _ => true
  | .fmax _ _ _ _ => true
  | .fcmpeq _ _ _ _ => true
  | .fcmplt _ _ _ _ => true
  | .fcmple _ _ _ _ => true
  | .fcmpun _ _ _ _ => true
  | .fclass _ _ _ => true
  | .fcvtFloat _ _ _ m => decide (m.val < 7)
  | .fcvtToI64 _ _ _ m => decide (m.val < 7)
  | .fcvtToN64 _ _ _ m => decide (m.val < 7)
  | .fcvtToI32 _ _ _ m => decide (m.val < 7)
  | .fcvtToN32 _ _ _ m => decide (m.val < 7)
  | .fcvtFromI64 _ _ _ m => decide (m.val < 7)
  | .fcvtFromN64 _ _ _ m => decide (m.val < 7)
  | .fcvtFromI32 _ _ _ m => decide (m.val < 7)
  | .fcvtFromN32 _ _ _ m => decide (m.val < 7)
  | .clz _ _ => true
  | .ctz _ _ => true
  | .popc _ _ => true
  | .brev _ _ => true
  | .fns _ _ _ => true
  | .bfx _ _ _ => true
  | .bfxn _ _ _ => true
  | .bfi _ _ _ => true
  | .fshl _ _ _ => true
  | .fshr _ _ _ => true
  | .mul _ _ _ => true
  | .mulh _ _ _ => true
  | .mulhn _ _ _ => true
  | .div _ _ _ => true
  | .divn _ _ _ => true
  | .rem _ _ _ => true
  | .remn _ _ _ => true
  | .ldB _ _ _ _ => true
  | .ldBn _ _ _ _ => true
  | .ldH _ _ _ _ => true
  | .ldHn _ _ _ _ => true
  | .ldW _ _ _ _ => true
  | .ldWn _ _ _ _ => true
  | .ldD _ _ _ _ => true
  | .stB _ _ _ _ => true
  | .stH _ _ _ _ => true
  | .stW _ _ _ _ => true
  | .stD _ _ _ _ => true
  | .stq _ _ _ _ => true
  | .shw _ e _ f => decide (f.toNat < 10) && decide (e.val < 3)
  | .shg _ e _ f _ => decide (f.toNat < 10) && decide (e.val < 3)
  | .ctlr _ c => ctlAllocated c.toNat
  | .ctlrQ _ c => ctlAllocated c.toNat
  | .ctlw _ c => ctlAllocated c.toNat
  | .br _ => true
  | .brcNz _ _ => true
  | .brcZ _ _ => true
  | .call _ => true
  | .jmp _ => true
  | .loop l _ e => decide (l.val < 6) && decide (e ≠ 0)
  | .loopi l _ e => decide (l.val < 6) && decide (e ≠ 0)
  | .lstr l _ e _ _ => decide (l.val < 6) && decide (e.val < 3)
  | .trap _ => true
  | .svc _ => true
  | .lbrk _ => true
  | .waittAbs _ => true
  | .waittRel _ => true
  | .waitp _ => true
  | .bar _ => true
  | .pfx sc opv op fst lst lv => pfxFieldsOk sc.val opv op.val fst.toNat lst.toNat lv.val
  | .vadd x => decide (x.val < 7)
  | .vaddS _ x => decide (x.val < 7)
  | .vsub x => decide (x.val < 7)
  | .vsubS _ x => decide (x.val < 7)
  | .vmul x => decide (x.val < 7)
  | .vmulS _ x => decide (x.val < 7)
  | .vmulhS _ => true
  | .vfma x => decide (x.val < 7)
  | .vfmaS _ x => decide (x.val < 7)
  | .vfms x => decide (x.val < 7)
  | .vfmsS _ x => decide (x.val < 7)
  | .vminS _ => true
  | .vmaxS _ => true
  | .vabs x => decide (x.val < 7)
  | .vneg x => decide (x.val < 7)
  | .vdiv x => decide (x.val < 7)
  | .vdivS _ x => decide (x.val < 7)
  | .vsqrt x => decide (x.val < 7)
  | .vfill _ => true
  | .vandS _ => true
  | .vorS _ => true
  | .vxorS _ => true
  | .vandnS _ => true
  | .vshlS _ => true
  | .vshrS _ => true
  | .vsarS _ => true
  | .vcmp r => decide (r.val < 7)
  | .vcmpS _ r => decide (r.val < 7)
  | .vselS _ => true
  | .vfnsS _ => true
  | .vbfxS _ => true
  | .vbfiS _ => true
  | .vfshLS _ => true
  | .vfshRS _ => true
  | .vcvt x => decide (x.val < 7)
  | .vsplit _ => true
  | .vredsumAll x => decide (x.val < 7)
  | .vredsumRow x => decide (x.val < 7)
  | .vredsumCol x => decide (x.val < 7)
  | .vargmaxAll _ => true
  | .vargmaxRow _ => true
  | .vargmaxCol _ => true
  | .vscan x => decide (x.val < 7)
  | .vpush _ => true
  | .vpop _ _ => true
  | .vqcnt _ _ => true
  | .vchain _ _ => true
  | .accn _ x => decide (x.val < 7)
  | .accx _ _ => true
  | .accst _ => true
  | .accld _ => true
  | .cpg _ _ => true
  | .cpgX _ _ => true
  | .cps _ _ => true
  | .cpsX _ _ => true
  | .cpy _ _ _ => true
  | .wmap _ _ => true
  | .wfill _ _ => true
  | .wback _ _ => true
  | .wunmap _ _ => true
  | .probeR _ _ => true
  | .probeW _ _ => true
  | .atomAdd _ _ => true
  | .atomMin _ _ => true
  | .atomMax _ _ => true
  | .atomAnd _ _ => true
  | .atomOr _ _ => true
  | .atomXor _ _ => true
  | .atomXchg _ _ => true
  | .atomCas _ _ => true
  | .atomAddNr _ _ => true
  | .atomMinNr _ _ => true
  | .atomMaxNr _ _ => true
  | .atomAndNr _ _ => true
  | .atomOrNr _ _ => true
  | .atomXorNr _ _ => true
  | .atomXchgNr _ _ => true
  | .atomCasNr _ _ => true
  | .mcast _ => true
  | .collSum _ _ => true
  | .collMax _ _ => true
  | .collArgmax _ _ => true
  | .collBcast _ _ => true
  | .qlnch _ _ => true
  | .wdepth _ _ => true
  | .wrbk _ _ => true
  | .wtake _ _ => true
  | .wjudge _ _ => true
  | .wfinal _ _ => true
  | .wstat _ _ => true
  | .ftset _ => true
  | .scld _ _ _ _ => true
  | .chset _ _ _ => true
  | .decl _ => true
  | .pwra _ => true
  | .qinit _ _ => true
  | .lnputCw _ _ _ => true
  | .lnputAw _ _ _ => true
  | .lntapCw _ _ _ => true
  | .lntapAw _ _ _ => true
  | .nop => true
  | .rte => true
  | .endTask => true
  | .yld => true
  | .halt => true
  | .phaseP => true
  | .phaseA => true
  | .phasePa => true
  | .vmulh => true
  | .vmin => true
  | .vmax => true
  | .vmov => true
  | .vand => true
  | .vor => true
  | .vxor => true
  | .vandn => true
  | .vnot => true
  | .vshl => true
  | .vshr => true
  | .vsar => true
  | .vsel => true
  | .vpopc => true
  | .vclz => true
  | .vbrev => true
  | .vfns => true
  | .vbfx => true
  | .vbfi => true
  | .vfshL => true
  | .vfshR => true
  | .vexp2 => true
  | .vlog2 => true
  | .vrcp => true
  | .vrsqrt => true
  | .vredmaxAll => true
  | .vredmaxRow => true
  | .vredmaxCol => true
  | .vredminAll => true
  | .vredminRow => true
  | .vredminCol => true
  | .vgath => true
  | .vscat => true
  | .vtran => true
  | .mma => true
  | .mmaZ => true
  | .mmas => true
  | .mmasZ => true
  | .accz => true
  | .wprop => true
  | .pwrr => true
  | .iterationBoundary => false
  | .resultLatchCommit => false
  | .commandStart _ => false
  | .unitWriteCommit _ => false
  | .takingATrap => false
  | .ringResume => false
  | .trailForcedIssue _ => false
  | .waittExpiry => false
  | .copyCompletion _ _ => false
  | .promiseMissed _ => false
  | .keepWaitingNotice _ _ => false
  | .fillArrival _ => false
  | .atomAtHome _ => false
  | .publicationCompletion _ => false
  | .deliveryLanding _ => false
  | .barRelease _ => false
  | .collCombine _ => false
  | .vpushStallRelease _ => false
  | .qlnchQueueRoom _ => false
  | .missedOperandRelease _ => false
  | .taskRetirement _ => false
  | .launchCompletion _ => false
  | .gangAdmission => false
  | .queueAgeing _ => false
  | .routerTableSwitch => false
  | .proposalRecordIntake _ _ => false
  | .wtakeRelease _ => false
  | .wdepthRelease _ => false
  | .wfinalPerformed _ => false
  | .logitFault _ => false
  | .timerExpiry _ => false
  | .sliceExpiry _ => false
  | .preemptLate _ => false
  | .pwraGrant _ => false
  | .staticChargeTick _ => false
  | .thermalSample _ => false
  | .opSwitchQuiesce _ => false
  | .opSwitchSettled _ => false
  | .hangWatchdogExpiry _ => false
  | .waitWatchdogExpiry _ => false
  | .selfTestEnd _ _ => false
  | .svcSetEnergy _ => false
  | .svcClearEnergyFlag _ => false
  | .partitionSwapOut _ => false
  | .partitionSwapIn _ => false
  | .ctxcmdResume _ => false
  | .ctxcmdEndTask _ => false
  | .ctxcmdPark _ => false
  | .fdatRead _ => false
  | .fdatWrite _ => false
  | .tmrWrite _ => false
  | .lcntWrite _ _ => false
  | .islctlWrite _ _ => false
  | .registerWrite _ _ => false
  | .vctDatagramDiscard _ => false
  | .openSession _ => false
  | .closeSession _ => false
  | .ack _ _ => false
  | .retransmit _ _ => false
  | .launch _ _ _ _ => false
  | .hostcopyIn _ _ _ _ => false
  | .hostcopyOut _ _ _ _ => false
  | .signalTask _ _ _ _ _ => false
  | .signalOpenSlot _ _ _ _ => false
  | .signalCancel _ _ _ _ => false
  | .signalRelease _ _ _ _ => false
  | .waitval _ _ _ _ _ _ _ => false
  | .waitvalPoll _ _ => false
  | .queryManagement _ _ _ _ _ => false
  | .querySlotRecord _ _ _ _ _ => false
  | .queryTrapFrame _ _ _ _ _ => false
  | .queryQueueState _ _ _ _ _ => false
  | .querySlotTables _ _ _ _ _ => false
  | .queryErrorLog _ _ _ _ _ => false
  | .queryAttestation _ _ _ _ _ => false
  | .pageansMapped _ _ _ => false
  | .pageansFailure _ _ _ => false
  | .pageEntryWrite _ _ _ _ _ => false
  | .segmentEntryWrite _ _ _ _ _ _ => false
  | .pageMigrate _ _ _ _ _ => false
  | .mapCacheInvalidate _ _ _ _ => false
  | .freeFrameAppend _ _ _ _ => false
  | .segmentWordsWrite _ _ _ _ _ _ => false
  | .migrateTrigger _ _ => false
  | .migrationCopy _ => false
  | .pieceAtHome _ => false
  | .farPieceRefusal _ => false
  | .boot _ _ _ _ _ => false
  | .targetRefusal _ => false
  | .linkError _ _ _ => false
  | .thresholdTableWrite _ _ => false

/-- A syllable that a word stands for: its operation's fields are in range, and each shared field its format lacks holds
the value that means nothing. An event is no syllable. -/
def wellFormed (y : Syl) : Bool :=
  opWellFormed y.op && match format y.op with
    | .pfx => !y.stop && y.p == 0 && !y.ng && !y.sw && !y.tm && y.b == 0
    | .scalar => y.p == 0 && !y.ng && !y.sw && !y.tm && y.b == 0
    | .guarded => !y.sw && !y.tm && y.b == 0
    | .untimed => !y.tm && y.b == 0
    | .timed => y.tm || y.b == 0
    | .none => false

end Sys2Proof
end

