-- ==== Sys2Proof/Decode.lean ====
section
/-! DEFINITION. The decoder of R137 to R156 on one 32-bit word (reading its fields once), the encoder written from
the same layouts, and the host's reading of a table row. Reasons that depend on the die, the grant, the mode or the
bundle (19's last condition, 20 to 23) are added where the bundle is decoded (Machine/Fetch.lean). -/

namespace Sys2Proof

/-- R4: bits [hi:lo] of a word. -/
def fld (w hi lo : Nat) : Nat := w / 2 ^ lo % 2 ^ (hi + 1 - lo)

/-- R4: bit [n] of a word. -/
def bit (w n : Nat) : Bool := fld w n n == 1

/-- A syllable of an S format (R148, R149), which has no guard. -/
def sylS (w : Nat) (op : Instr) : Syl := ⟨bit w 31, 0, false, false, false, 0, op⟩
/-- The prefix (R144): its stop bit must be clear and R140 looks at it with the bundle. -/
def sylP (_ : Nat) (op : Instr) : Syl := ⟨false, 0, false, false, false, 0, op⟩
/-- A guarded syllable (R150 to R152, R154). -/
def sylG (w : Nat) (op : Instr) : Syl := ⟨bit w 31, Fin.ofNat 8 (fld w 25 23), bit w 22, false, false, 0, op⟩
/-- An engine syllable that reads or writes gb itself (R153). -/
def sylU (w : Nat) (op : Instr) : Syl := ⟨bit w 31, Fin.ofNat 8 (fld w 25 23), bit w 22, bit w 21, false, 0, op⟩
/-- An engine syllable that may be timed (R153). -/
def sylE (w : Nat) (op : Instr) : Syl :=
  ⟨bit w 31, Fin.ofNat 8 (fld w 25 23), bit w 22, bit w 21, bit w 20, Fin.ofNat 32 (fld w 7 3), op⟩

/-- R145 on the prefix word's own fields. -/
def pfxOk (w : Nat) : Bool :=
  pfxFieldsOk (fld w 25 23) (bit w 22) (fld w 21 19) (fld w 18 11) (fld w 10 3) (fld w 2 0)

/-- Major 0x00 of R155. -/
def decodeMaj00 (w : Nat) : Except Nat Syl :=
  match fld w 10 0 with
  | 0 => .ok (sylS w (.add (Fin.ofNat 32 (fld w 25 21)) (Fin.ofNat 32 (fld w 20 16)) (Fin.ofNat 32 (fld w 15 11))))
  | 1 => .ok (sylS w (.sub (Fin.ofNat 32 (fld w 25 21)) (Fin.ofNat 32 (fld w 20 16)) (Fin.ofNat 32 (fld w 15 11))))
  | 2 => .ok (sylS w (.addw (Fin.ofNat 32 (fld w 25 21)) (Fin.ofNat 32 (fld w 20 16)) (Fin.ofNat 32 (fld w 15 11))))
  | 3 => .ok (sylS w (.subw (Fin.ofNat 32 (fld w 25 21)) (Fin.ofNat 32 (fld w 20 16)) (Fin.ofNat 32 (fld w 15 11))))
  | 4 => .ok (sylS w (.and (Fin.ofNat 32 (fld w 25 21)) (Fin.ofNat 32 (fld w 20 16)) (Fin.ofNat 32 (fld w 15 11))))
  | 5 => .ok (sylS w (.or (Fin.ofNat 32 (fld w 25 21)) (Fin.ofNat 32 (fld w 20 16)) (Fin.ofNat 32 (fld w 15 11))))
  | 6 => .ok (sylS w (.xor (Fin.ofNat 32 (fld w 25 21)) (Fin.ofNat 32 (fld w 20 16)) (Fin.ofNat 32 (fld w 15 11))))
  | 7 => .ok (sylS w (.andn (Fin.ofNat 32 (fld w 25 21)) (Fin.ofNat 32 (fld w 20 16)) (Fin.ofNat 32 (fld w 15 11))))
  | 8 => .ok (sylS w (.orn (Fin.ofNat 32 (fld w 25 21)) (Fin.ofNat 32 (fld w 20 16)) (Fin.ofNat 32 (fld w 15 11))))
  | 9 => .ok (sylS w (.shl (Fin.ofNat 32 (fld w 25 21)) (Fin.ofNat 32 (fld w 20 16)) (Fin.ofNat 32 (fld w 15 11))))
  | 10 => .ok (sylS w (.shr (Fin.ofNat 32 (fld w 25 21)) (Fin.ofNat 32 (fld w 20 16)) (Fin.ofNat 32 (fld w 15 11))))
  | 11 => .ok (sylS w (.sar (Fin.ofNat 32 (fld w 25 21)) (Fin.ofNat 32 (fld w 20 16)) (Fin.ofNat 32 (fld w 15 11))))
  | 12 => .ok (sylS w (.rotl (Fin.ofNat 32 (fld w 25 21)) (Fin.ofNat 32 (fld w 20 16)) (Fin.ofNat 32 (fld w 15 11))))
  | 13 => .ok (sylS w (.min (Fin.ofNat 32 (fld w 25 21)) (Fin.ofNat 32 (fld w 20 16)) (Fin.ofNat 32 (fld w 15 11))))
  | 14 => .ok (sylS w (.max (Fin.ofNat 32 (fld w 25 21)) (Fin.ofNat 32 (fld w 20 16)) (Fin.ofNat 32 (fld w 15 11))))
  | 15 => .ok (sylS w (.minn (Fin.ofNat 32 (fld w 25 21)) (Fin.ofNat 32 (fld w 20 16)) (Fin.ofNat 32 (fld w 15 11))))
  | 16 => .ok (sylS w (.maxn (Fin.ofNat 32 (fld w 25 21)) (Fin.ofNat 32 (fld w 20 16)) (Fin.ofNat 32 (fld w 15 11))))
  | 17 => if ¬ (fld w 15 11 = 0) then .error 18 else .ok (sylS w (.sextB (Fin.ofNat 32 (fld w 25 21)) (Fin.ofNat 32 (fld w 20 16))))
  | 18 => if ¬ (fld w 15 11 = 0) then .error 18 else .ok (sylS w (.sextH (Fin.ofNat 32 (fld w 25 21)) (Fin.ofNat 32 (fld w 20 16))))
  | 19 => if ¬ (fld w 15 11 = 0) then .error 18 else .ok (sylS w (.sextW (Fin.ofNat 32 (fld w 25 21)) (Fin.ofNat 32 (fld w 20 16))))
  | 20 => if ¬ (fld w 15 11 = 0) then .error 18 else .ok (sylS w (.zextB (Fin.ofNat 32 (fld w 25 21)) (Fin.ofNat 32 (fld w 20 16))))
  | 21 => if ¬ (fld w 15 11 = 0) then .error 18 else .ok (sylS w (.zextH (Fin.ofNat 32 (fld w 25 21)) (Fin.ofNat 32 (fld w 20 16))))
  | 22 => if ¬ (fld w 15 11 = 0) then .error 18 else .ok (sylS w (.zextW (Fin.ofNat 32 (fld w 25 21)) (Fin.ofNat 32 (fld w 20 16))))
  | _ => .error 17

/-- Major 0x01 of R155. -/
def decodeMaj01 (w : Nat) : Except Nat Syl :=
  .ok (sylS w (.addi (Fin.ofNat 32 (fld w 25 21)) (Fin.ofNat 32 (fld w 20 16)) (BitVec.ofNat 16 (fld w 15 0))))

/-- Major 0x02 of R155. -/
def decodeMaj02 (w : Nat) : Except Nat Syl :=
  match fld w 15 14 with
  | 0 => .ok (sylS w (.andi (Fin.ofNat 32 (fld w 25 21)) (Fin.ofNat 32 (fld w 20 16)) (BitVec.ofNat 14 (fld w 13 0))))
  | 1 => .ok (sylS w (.ori (Fin.ofNat 32 (fld w 25 21)) (Fin.ofNat 32 (fld w 20 16)) (BitVec.ofNat 14 (fld w 13 0))))
  | 2 => .ok (sylS w (.xori (Fin.ofNat 32 (fld w 25 21)) (Fin.ofNat 32 (fld w 20 16)) (BitVec.ofNat 14 (fld w 13 0))))
  | _ => .error 17

/-- Major 0x03 of R155. -/
def decodeMaj03 (w : Nat) : Except Nat Syl :=
  match fld w 7 6 with
  | 0 => if ¬ (fld w 15 8 = 0) then .error 18 else .ok (sylS w (.shli (Fin.ofNat 32 (fld w 25 21)) (Fin.ofNat 32 (fld w 20 16)) (BitVec.ofNat 6 (fld w 5 0))))
  | 1 => if ¬ (fld w 15 8 = 0) then .error 18 else .ok (sylS w (.shri (Fin.ofNat 32 (fld w 25 21)) (Fin.ofNat 32 (fld w 20 16)) (BitVec.ofNat 6 (fld w 5 0))))
  | 2 => if ¬ (fld w 15 8 = 0) then .error 18 else .ok (sylS w (.sari (Fin.ofNat 32 (fld w 25 21)) (Fin.ofNat 32 (fld w 20 16)) (BitVec.ofNat 6 (fld w 5 0))))
  | _ => if ¬ (fld w 15 8 = 0) then .error 18 else .ok (sylS w (.rotli (Fin.ofNat 32 (fld w 25 21)) (Fin.ofNat 32 (fld w 20 16)) (BitVec.ofNat 6 (fld w 5 0))))

/-- Major 0x04 of R155. -/
def decodeMaj04 (w : Nat) : Except Nat Syl :=
  match fld w 18 18 with
  | 0 => if ¬ (fld w 17 16 = 0) then .error 18 else .ok (sylS w (.movi (Fin.ofNat 32 (fld w 25 21)) (Fin.ofNat 4 (fld w 20 19)) (BitVec.ofNat 16 (fld w 15 0))))
  | _ => if ¬ (fld w 17 16 = 0) then .error 18 else .ok (sylS w (.movk (Fin.ofNat 32 (fld w 25 21)) (Fin.ofNat 4 (fld w 20 19)) (BitVec.ofNat 16 (fld w 15 0))))

/-- Major 0x05 of R155. -/
def decodeMaj05 (w : Nat) : Except Nat Syl :=
  match fld w 10 0 with
  | 0 => if ¬ (fld w 22 21 = 0) then .error 18 else .ok (sylS w (.cmpeq (Fin.ofNat 8 (fld w 25 23)) (Fin.ofNat 32 (fld w 20 16)) (Fin.ofNat 32 (fld w 15 11))))
  | 1 => if ¬ (fld w 22 21 = 0) then .error 18 else .ok (sylS w (.cmpne (Fin.ofNat 8 (fld w 25 23)) (Fin.ofNat 32 (fld w 20 16)) (Fin.ofNat 32 (fld w 15 11))))
  | 2 => if ¬ (fld w 22 21 = 0) then .error 18 else .ok (sylS w (.cmplt (Fin.ofNat 8 (fld w 25 23)) (Fin.ofNat 32 (fld w 20 16)) (Fin.ofNat 32 (fld w 15 11))))
  | 3 => if ¬ (fld w 22 21 = 0) then .error 18 else .ok (sylS w (.cmple (Fin.ofNat 8 (fld w 25 23)) (Fin.ofNat 32 (fld w 20 16)) (Fin.ofNat 32 (fld w 15 11))))
  | 4 => if ¬ (fld w 22 21 = 0) then .error 18 else .ok (sylS w (.cmpltn (Fin.ofNat 8 (fld w 25 23)) (Fin.ofNat 32 (fld w 20 16)) (Fin.ofNat 32 (fld w 15 11))))
  | 5 => if ¬ (fld w 22 21 = 0) then .error 18 else .ok (sylS w (.cmplen (Fin.ofNat 8 (fld w 25 23)) (Fin.ofNat 32 (fld w 20 16)) (Fin.ofNat 32 (fld w 15 11))))
  | _ => .error 17

/-- Major 0x06 of R155. -/
def decodeMaj06 (w : Nat) : Except Nat Syl :=
  match fld w 22 21 with
  | 0 => .ok (sylS w (.cmpeqi (Fin.ofNat 8 (fld w 25 23)) (Fin.ofNat 32 (fld w 20 16)) (BitVec.ofNat 16 (fld w 15 0))))
  | 1 => .ok (sylS w (.cmpnei (Fin.ofNat 8 (fld w 25 23)) (Fin.ofNat 32 (fld w 20 16)) (BitVec.ofNat 16 (fld w 15 0))))
  | 2 => .ok (sylS w (.cmplti (Fin.ofNat 8 (fld w 25 23)) (Fin.ofNat 32 (fld w 20 16)) (BitVec.ofNat 16 (fld w 15 0))))
  | _ => .ok (sylS w (.cmpltni (Fin.ofNat 8 (fld w 25 23)) (Fin.ofNat 32 (fld w 20 16)) (BitVec.ofNat 16 (fld w 15 0))))

/-- Major 0x07 of R155. -/
def decodeMaj07 (w : Nat) : Except Nat Syl :=
  if 8 ≤ fld w 10 0 ∧ fld w 10 0 < 16 then .ok (sylS w (.sel (Fin.ofNat 32 (fld w 25 21)) (Fin.ofNat 32 (fld w 20 16)) (Fin.ofNat 32 (fld w 15 11)) (Fin.ofNat 8 (fld w 2 0))))
  else match fld w 10 0 with
  | 0 => if ¬ (fld w 12 11 = 0 ∧ fld w 17 16 = 0 ∧ fld w 22 21 = 0) then .error 18 else .ok (sylS w (.pand (Fin.ofNat 8 (fld w 25 23)) (Fin.ofNat 8 (fld w 20 18)) (Fin.ofNat 8 (fld w 15 13))))
  | 1 => if ¬ (fld w 12 11 = 0 ∧ fld w 17 16 = 0 ∧ fld w 22 21 = 0) then .error 18 else .ok (sylS w (.por (Fin.ofNat 8 (fld w 25 23)) (Fin.ofNat 8 (fld w 20 18)) (Fin.ofNat 8 (fld w 15 13))))
  | 2 => if ¬ (fld w 12 11 = 0 ∧ fld w 17 16 = 0 ∧ fld w 22 21 = 0) then .error 18 else .ok (sylS w (.pxor (Fin.ofNat 8 (fld w 25 23)) (Fin.ofNat 8 (fld w 20 18)) (Fin.ofNat 8 (fld w 15 13))))
  | 3 => if ¬ (fld w 12 11 = 0 ∧ fld w 17 16 = 0 ∧ fld w 22 21 = 0) then .error 18 else .ok (sylS w (.pandn (Fin.ofNat 8 (fld w 25 23)) (Fin.ofNat 8 (fld w 20 18)) (Fin.ofNat 8 (fld w 15 13))))
  | 4 => if ¬ (fld w 22 11 = 0) then .error 18 else .ok (sylS w (.psetFalse (Fin.ofNat 8 (fld w 25 23))))
  | 5 => if ¬ (fld w 22 11 = 0) then .error 18 else .ok (sylS w (.psetTrue (Fin.ofNat 8 (fld w 25 23))))
  | 6 => if ¬ (fld w 17 11 = 0 ∧ fld w 22 21 = 0) then .error 18 else .ok (sylS w (.pmovPred (Fin.ofNat 8 (fld w 25 23)) (Fin.ofNat 8 (fld w 20 18))))
  | 7 => if ¬ (fld w 15 11 = 0 ∧ fld w 22 21 = 0) then .error 18 else .ok (sylS w (.pmovFromReg (Fin.ofNat 8 (fld w 25 23)) (Fin.ofNat 32 (fld w 20 16))))
  | 16 => if ¬ (fld w 17 11 = 0) then .error 18 else .ok (sylS w (.pmovToReg (Fin.ofNat 32 (fld w 25 21)) (Fin.ofNat 8 (fld w 20 18))))
  | _ => .error 17

/-- Major 0x08 of R155. -/
def decodeMaj08 (w : Nat) : Except Nat Syl :=
  match fld w 6 0 with
  | 0 => if ¬ (fld w 9 7 < 7) then .error 26 else .ok (sylS w (.fadd (Fin.ofNat 32 (fld w 25 21)) (Fin.ofNat 32 (fld w 20 16)) (Fin.ofNat 32 (fld w 15 11)) (bit w 10) (Fin.ofNat 8 (fld w 9 7))))
  | 1 => if ¬ (fld w 9 7 < 7) then .error 26 else .ok (sylS w (.fsub (Fin.ofNat 32 (fld w 25 21)) (Fin.ofNat 32 (fld w 20 16)) (Fin.ofNat 32 (fld w 15 11)) (bit w 10) (Fin.ofNat 8 (fld w 9 7))))
  | 2 => if ¬ (fld w 9 7 < 7) then .error 26 else .ok (sylS w (.fmul (Fin.ofNat 32 (fld w 25 21)) (Fin.ofNat 32 (fld w 20 16)) (Fin.ofNat 32 (fld w 15 11)) (bit w 10) (Fin.ofNat 8 (fld w 9 7))))
  | 3 => if ¬ (fld w 9 7 < 7) then .error 26 else .ok (sylS w (.ffma (Fin.ofNat 32 (fld w 25 21)) (Fin.ofNat 32 (fld w 20 16)) (Fin.ofNat 32 (fld w 15 11)) (bit w 10) (Fin.ofNat 8 (fld w 9 7))))
  | 4 => if ¬ (fld w 9 7 < 7) then .error 26 else .ok (sylS w (.ffms (Fin.ofNat 32 (fld w 25 21)) (Fin.ofNat 32 (fld w 20 16)) (Fin.ofNat 32 (fld w 15 11)) (bit w 10) (Fin.ofNat 8 (fld w 9 7))))
  | 5 => if ¬ (fld w 9 7 < 7) then .error 26 else .ok (sylS w (.fdiv (Fin.ofNat 32 (fld w 25 21)) (Fin.ofNat 32 (fld w 20 16)) (Fin.ofNat 32 (fld w 15 11)) (bit w 10) (Fin.ofNat 8 (fld w 9 7))))
  | 6 => if ¬ (fld w 15 11 = 0) then .error 18 else if ¬ (fld w 9 7 < 7) then .error 26 else .ok (sylS w (.fsqrt (Fin.ofNat 32 (fld w 25 21)) (Fin.ofNat 32 (fld w 20 16)) (bit w 10) (Fin.ofNat 8 (fld w 9 7))))
  | 7 => if ¬ (fld w 9 7 = 0) then .error 18 else .ok (sylS w (.fmin (Fin.ofNat 32 (fld w 25 21)) (Fin.ofNat 32 (fld w 20 16)) (Fin.ofNat 32 (fld w 15 11)) (bit w 10)))
  | 8 => if ¬ (fld w 9 7 = 0) then .error 18 else .ok (sylS w (.fmax (Fin.ofNat 32 (fld w 25 21)) (Fin.ofNat 32 (fld w 20 16)) (Fin.ofNat 32 (fld w 15 11)) (bit w 10)))
  | 9 => if ¬ (fld w 9 7 = 0 ∧ fld w 22 21 = 0) then .error 18 else .ok (sylS w (.fcmpeq (Fin.ofNat 8 (fld w 25 23)) (Fin.ofNat 32 (fld w 20 16)) (Fin.ofNat 32 (fld w 15 11)) (bit w 10)))
  | 10 => if ¬ (fld w 9 7 = 0 ∧ fld w 22 21 = 0) then .error 18 else .ok (sylS w (.fcmplt (Fin.ofNat 8 (fld w 25 23)) (Fin.ofNat 32 (fld w 20 16)) (Fin.ofNat 32 (fld w 15 11)) (bit w 10)))
  | 11 => if ¬ (fld w 9 7 = 0 ∧ fld w 22 21 = 0) then .error 18 else .ok (sylS w (.fcmple (Fin.ofNat 8 (fld w 25 23)) (Fin.ofNat 32 (fld w 20 16)) (Fin.ofNat 32 (fld w 15 11)) (bit w 10)))
  | 12 => if ¬ (fld w 9 7 = 0 ∧ fld w 22 21 = 0) then .error 18 else .ok (sylS w (.fcmpun (Fin.ofNat 8 (fld w 25 23)) (Fin.ofNat 32 (fld w 20 16)) (Fin.ofNat 32 (fld w 15 11)) (bit w 10)))
  | 13 => if ¬ (fld w 9 7 = 0 ∧ fld w 15 11 = 0) then .error 18 else .ok (sylS w (.fclass (Fin.ofNat 32 (fld w 25 21)) (Fin.ofNat 32 (fld w 20 16)) (bit w 10)))
  | 16 => if ¬ (fld w 15 11 = 0) then .error 18 else if ¬ (fld w 9 7 < 7) then .error 26 else .ok (sylS w (.fcvtFloat (Fin.ofNat 32 (fld w 25 21)) (Fin.ofNat 32 (fld w 20 16)) (bit w 10) (Fin.ofNat 8 (fld w 9 7))))
  | 17 => if ¬ (fld w 15 11 = 0) then .error 18 else if ¬ (fld w 9 7 < 7) then .error 26 else .ok (sylS w (.fcvtToI64 (Fin.ofNat 32 (fld w 25 21)) (Fin.ofNat 32 (fld w 20 16)) (bit w 10) (Fin.ofNat 8 (fld w 9 7))))
  | 18 => if ¬ (fld w 15 11 = 0) then .error 18 else if ¬ (fld w 9 7 < 7) then .error 26 else .ok (sylS w (.fcvtToN64 (Fin.ofNat 32 (fld w 25 21)) (Fin.ofNat 32 (fld w 20 16)) (bit w 10) (Fin.ofNat 8 (fld w 9 7))))
  | 19 => if ¬ (fld w 15 11 = 0) then .error 18 else if ¬ (fld w 9 7 < 7) then .error 26 else .ok (sylS w (.fcvtToI32 (Fin.ofNat 32 (fld w 25 21)) (Fin.ofNat 32 (fld w 20 16)) (bit w 10) (Fin.ofNat 8 (fld w 9 7))))
  | 20 => if ¬ (fld w 15 11 = 0) then .error 18 else if ¬ (fld w 9 7 < 7) then .error 26 else .ok (sylS w (.fcvtToN32 (Fin.ofNat 32 (fld w 25 21)) (Fin.ofNat 32 (fld w 20 16)) (bit w 10) (Fin.ofNat 8 (fld w 9 7))))
  | 24 => if ¬ (fld w 15 11 = 0) then .error 18 else if ¬ (fld w 9 7 < 7) then .error 26 else .ok (sylS w (.fcvtFromI64 (Fin.ofNat 32 (fld w 25 21)) (Fin.ofNat 32 (fld w 20 16)) (bit w 10) (Fin.ofNat 8 (fld w 9 7))))
  | 25 => if ¬ (fld w 15 11 = 0) then .error 18 else if ¬ (fld w 9 7 < 7) then .error 26 else .ok (sylS w (.fcvtFromN64 (Fin.ofNat 32 (fld w 25 21)) (Fin.ofNat 32 (fld w 20 16)) (bit w 10) (Fin.ofNat 8 (fld w 9 7))))
  | 26 => if ¬ (fld w 15 11 = 0) then .error 18 else if ¬ (fld w 9 7 < 7) then .error 26 else .ok (sylS w (.fcvtFromI32 (Fin.ofNat 32 (fld w 25 21)) (Fin.ofNat 32 (fld w 20 16)) (bit w 10) (Fin.ofNat 8 (fld w 9 7))))
  | 27 => if ¬ (fld w 15 11 = 0) then .error 18 else if ¬ (fld w 9 7 < 7) then .error 26 else .ok (sylS w (.fcvtFromN32 (Fin.ofNat 32 (fld w 25 21)) (Fin.ofNat 32 (fld w 20 16)) (bit w 10) (Fin.ofNat 8 (fld w 9 7))))
  | _ => .error 17

/-- Major 0x09 of R155. -/
def decodeMaj09 (w : Nat) : Except Nat Syl :=
  match fld w 10 0 with
  | 0 => if ¬ (fld w 15 11 = 0) then .error 18 else .ok (sylS w (.clz (Fin.ofNat 32 (fld w 25 21)) (Fin.ofNat 32 (fld w 20 16))))
  | 1 => if ¬ (fld w 15 11 = 0) then .error 18 else .ok (sylS w (.ctz (Fin.ofNat 32 (fld w 25 21)) (Fin.ofNat 32 (fld w 20 16))))
  | 2 => if ¬ (fld w 15 11 = 0) then .error 18 else .ok (sylS w (.popc (Fin.ofNat 32 (fld w 25 21)) (Fin.ofNat 32 (fld w 20 16))))
  | 3 => if ¬ (fld w 15 11 = 0) then .error 18 else .ok (sylS w (.brev (Fin.ofNat 32 (fld w 25 21)) (Fin.ofNat 32 (fld w 20 16))))
  | 4 => .ok (sylS w (.fns (Fin.ofNat 32 (fld w 25 21)) (Fin.ofNat 32 (fld w 20 16)) (Fin.ofNat 32 (fld w 15 11))))
  | 5 => .ok (sylS w (.bfx (Fin.ofNat 32 (fld w 25 21)) (Fin.ofNat 32 (fld w 20 16)) (Fin.ofNat 32 (fld w 15 11))))
  | 6 => .ok (sylS w (.bfxn (Fin.ofNat 32 (fld w 25 21)) (Fin.ofNat 32 (fld w 20 16)) (Fin.ofNat 32 (fld w 15 11))))
  | 7 => .ok (sylS w (.bfi (Fin.ofNat 32 (fld w 25 21)) (Fin.ofNat 32 (fld w 20 16)) (Fin.ofNat 32 (fld w 15 11))))
  | 8 => .ok (sylS w (.fshl (Fin.ofNat 32 (fld w 25 21)) (Fin.ofNat 32 (fld w 20 16)) (Fin.ofNat 32 (fld w 15 11))))
  | 9 => .ok (sylS w (.fshr (Fin.ofNat 32 (fld w 25 21)) (Fin.ofNat 32 (fld w 20 16)) (Fin.ofNat 32 (fld w 15 11))))
  | _ => .error 17

/-- Major 0x0A of R155. -/
def decodeMaj0A (w : Nat) : Except Nat Syl :=
  match fld w 10 0 with
  | 0 => .ok (sylS w (.mul (Fin.ofNat 32 (fld w 25 21)) (Fin.ofNat 32 (fld w 20 16)) (Fin.ofNat 32 (fld w 15 11))))
  | 1 => .ok (sylS w (.mulh (Fin.ofNat 32 (fld w 25 21)) (Fin.ofNat 32 (fld w 20 16)) (Fin.ofNat 32 (fld w 15 11))))
  | 2 => .ok (sylS w (.mulhn (Fin.ofNat 32 (fld w 25 21)) (Fin.ofNat 32 (fld w 20 16)) (Fin.ofNat 32 (fld w 15 11))))
  | 3 => .ok (sylS w (.div (Fin.ofNat 32 (fld w 25 21)) (Fin.ofNat 32 (fld w 20 16)) (Fin.ofNat 32 (fld w 15 11))))
  | 4 => .ok (sylS w (.divn (Fin.ofNat 32 (fld w 25 21)) (Fin.ofNat 32 (fld w 20 16)) (Fin.ofNat 32 (fld w 15 11))))
  | 5 => .ok (sylS w (.rem (Fin.ofNat 32 (fld w 25 21)) (Fin.ofNat 32 (fld w 20 16)) (Fin.ofNat 32 (fld w 15 11))))
  | 6 => .ok (sylS w (.remn (Fin.ofNat 32 (fld w 25 21)) (Fin.ofNat 32 (fld w 20 16)) (Fin.ofNat 32 (fld w 15 11))))
  | _ => .error 17

/-- Major 0x0B of R155. -/
def decodeMaj0B (w : Nat) : Except Nat Syl :=
  match 2 * fld w 11 10 + fld w 7 7 with
  | 0 => .ok (sylG w (.ldB (Fin.ofNat 32 (fld w 21 17)) (Fin.ofNat 32 (fld w 16 12)) (Fin.ofNat 4 (fld w 9 8)) (BitVec.ofNat 7 (fld w 6 0))))
  | 1 => .ok (sylG w (.ldBn (Fin.ofNat 32 (fld w 21 17)) (Fin.ofNat 32 (fld w 16 12)) (Fin.ofNat 4 (fld w 9 8)) (BitVec.ofNat 7 (fld w 6 0))))
  | 2 => .ok (sylG w (.ldH (Fin.ofNat 32 (fld w 21 17)) (Fin.ofNat 32 (fld w 16 12)) (Fin.ofNat 4 (fld w 9 8)) (BitVec.ofNat 7 (fld w 6 0))))
  | 3 => .ok (sylG w (.ldHn (Fin.ofNat 32 (fld w 21 17)) (Fin.ofNat 32 (fld w 16 12)) (Fin.ofNat 4 (fld w 9 8)) (BitVec.ofNat 7 (fld w 6 0))))
  | 4 => .ok (sylG w (.ldW (Fin.ofNat 32 (fld w 21 17)) (Fin.ofNat 32 (fld w 16 12)) (Fin.ofNat 4 (fld w 9 8)) (BitVec.ofNat 7 (fld w 6 0))))
  | 5 => .ok (sylG w (.ldWn (Fin.ofNat 32 (fld w 21 17)) (Fin.ofNat 32 (fld w 16 12)) (Fin.ofNat 4 (fld w 9 8)) (BitVec.ofNat 7 (fld w 6 0))))
  | 6 => .ok (sylG w (.ldD (Fin.ofNat 32 (fld w 21 17)) (Fin.ofNat 32 (fld w 16 12)) (Fin.ofNat 4 (fld w 9 8)) (BitVec.ofNat 7 (fld w 6 0))))
  | _ => .error 18

/-- Major 0x0C of R155. -/
def decodeMaj0C (w : Nat) : Except Nat Syl :=
  if fld w 7 7 = 1 then if ¬ (fld w 11 10 = 3 ∧ fld w 21 19 = 0) then .error 18 else .ok (sylG w (.stq (Fin.ofNat 4 (fld w 18 17)) (Fin.ofNat 32 (fld w 16 12)) (Fin.ofNat 4 (fld w 9 8)) (BitVec.ofNat 7 (fld w 6 0))))
  else match fld w 11 10 with
  | 0 => .ok (sylG w (.stB (Fin.ofNat 32 (fld w 21 17)) (Fin.ofNat 32 (fld w 16 12)) (Fin.ofNat 4 (fld w 9 8)) (BitVec.ofNat 7 (fld w 6 0))))
  | 1 => .ok (sylG w (.stH (Fin.ofNat 32 (fld w 21 17)) (Fin.ofNat 32 (fld w 16 12)) (Fin.ofNat 4 (fld w 9 8)) (BitVec.ofNat 7 (fld w 6 0))))
  | 2 => .ok (sylG w (.stW (Fin.ofNat 32 (fld w 21 17)) (Fin.ofNat 32 (fld w 16 12)) (Fin.ofNat 4 (fld w 9 8)) (BitVec.ofNat 7 (fld w 6 0))))
  | _ => .ok (sylG w (.stD (Fin.ofNat 32 (fld w 21 17)) (Fin.ofNat 32 (fld w 16 12)) (Fin.ofNat 4 (fld w 9 8)) (BitVec.ofNat 7 (fld w 6 0))))

/-- Major 0x0D of R155. -/
def decodeMaj0D (w : Nat) : Except Nat Syl :=
  match fld w 16 12 with
  | 0 => if ¬ (fld w 7 4 < 10) then .error 17 else if ¬ (fld w 3 0 = 0) then .error 18 else if ¬ (fld w 11 10 < 3) then .error 25 else .ok (sylG w (.shw (Fin.ofNat 32 (fld w 21 17)) (Fin.ofNat 4 (fld w 11 10)) (Fin.ofNat 4 (fld w 9 8)) (BitVec.ofNat 4 (fld w 7 4))))
  | 1 => if ¬ (fld w 7 4 < 10) then .error 17 else if ¬ (fld w 2 0 = 0) then .error 18 else if ¬ (fld w 11 10 < 3) then .error 25 else .ok (sylG w (.shg (Fin.ofNat 32 (fld w 21 17)) (Fin.ofNat 4 (fld w 11 10)) (Fin.ofNat 4 (fld w 9 8)) (BitVec.ofNat 4 (fld w 7 4)) (bit w 3)))
  | 2 => if ¬ (ctlAllocated (fld w 11 0) = true) then .error 25 else .ok (sylG w (.ctlr (Fin.ofNat 32 (fld w 21 17)) (BitVec.ofNat 12 (fld w 11 0))))
  | 3 => if ¬ (fld w 21 19 = 0) then .error 18 else if ¬ (ctlAllocated (fld w 11 0) = true) then .error 25 else .ok (sylG w (.ctlrQ (Fin.ofNat 4 (fld w 18 17)) (BitVec.ofNat 12 (fld w 11 0))))
  | 4 => if ¬ (ctlAllocated (fld w 11 0) = true) then .error 25 else .ok (sylG w (.ctlw (Fin.ofNat 32 (fld w 21 17)) (BitVec.ofNat 12 (fld w 11 0))))
  | _ => .error 17

/-- Major 0x0E of R155. -/
def decodeMaj0E (w : Nat) : Except Nat Syl :=
  match fld w 21 20 with
  | 0 => .ok (sylG w (.br (BitVec.ofNat 20 (fld w 19 0))))
  | 1 => if fld w 14 14 = 0 then .ok (sylG w (.brcNz (Fin.ofNat 32 (fld w 19 15)) (BitVec.ofNat 14 (fld w 13 0))))
    else .ok (sylG w (.brcZ (Fin.ofNat 32 (fld w 19 15)) (BitVec.ofNat 14 (fld w 13 0))))
  | 2 => .ok (sylG w (.call (BitVec.ofNat 20 (fld w 19 0))))
  | _ => .error 17

/-- Major 0x0F of R155. -/
def decodeMaj0F (w : Nat) : Except Nat Syl :=
  match fld w 21 20 with
  | 0 => if ¬ (fld w 14 0 = 0) then .error 18 else .ok (sylG w (.jmp (Fin.ofNat 32 (fld w 19 15))))
  | 1 => if ¬ (fld w 19 17 < 6 ∧ fld w 11 0 ≠ 0) then .error 17 else .ok (sylG w (.loop (Fin.ofNat 8 (fld w 19 17)) (Fin.ofNat 32 (fld w 16 12)) (BitVec.ofNat 12 (fld w 11 0))))
  | 2 => if ¬ (fld w 19 17 < 6 ∧ fld w 7 0 ≠ 0) then .error 17 else .ok (sylG w (.loopi (Fin.ofNat 8 (fld w 19 17)) (BitVec.ofNat 9 (fld w 16 8)) (BitVec.ofNat 8 (fld w 7 0))))
  | _ => if ¬ (fld w 19 17 < 6 ∧ fld w 14 13 < 3) then .error 17 else if ¬ (fld w 5 0 = 0) then .error 18 else .ok (sylG w (.lstr (Fin.ofNat 8 (fld w 19 17)) (Fin.ofNat 4 (fld w 16 15)) (Fin.ofNat 4 (fld w 14 13)) (Fin.ofNat 4 (fld w 12 11)) (Fin.ofNat 32 (fld w 10 6))))

/-- Major 0x10, KIND 0: the system operations of R208. -/
def decodeSys (w : Nat) : Except Nat Syl :=
  match fld w 19 15 with
  | 0 => if ¬ (fld w 14 0 = 0) then .error 18 else .ok (sylG w (.nop))
  | 1 => .ok (sylG w (.trap (BitVec.ofNat 15 (fld w 14 0))))
  | 2 => .ok (sylG w (.svc (BitVec.ofNat 15 (fld w 14 0))))
  | 3 => if ¬ (fld w 14 0 = 0) then .error 18 else .ok (sylG w (.rte))
  | 4 => if ¬ (fld w 14 0 = 0) then .error 18 else .ok (sylG w (.endTask))
  | 5 => if ¬ (fld w 14 0 = 0) then .error 18 else .ok (sylG w (.yld))
  | 6 => if ¬ (fld w 14 0 = 0) then .error 18 else .ok (sylG w (.halt))
  | 7 => if ¬ (fld w 11 0 = 0) then .error 18 else .ok (sylG w (.lbrk (Fin.ofNat 8 (fld w 14 12))))
  | _ => .error 17

/-- Major 0x10, KIND 3: BAR and PHASE of R205. -/
def decodeBarPhase (w : Nat) : Except Nat Syl :=
  match fld w 19 18 with
  | 0 => if ¬ (fld w 14 0 = 0) then .error 18 else .ok (sylG w (.bar (Fin.ofNat 8 (fld w 17 15))))
  | 1 => match fld w 17 16 with
    | 1 => if ¬ (fld w 15 0 = 0) then .error 18 else .ok (sylG w (.phaseP))
    | 2 => if ¬ (fld w 15 0 = 0) then .error 18 else .ok (sylG w (.phaseA))
    | 3 => if ¬ (fld w 15 0 = 0) then .error 18 else .ok (sylG w (.phasePa))
    | _ => .error 17
  | _ => .error 17

/-- Major 0x10 of R155. -/
def decodeMaj10 (w : Nat) : Except Nat Syl :=
  match fld w 21 20 with
  | 0 => decodeSys w
  | 1 => if fld w 19 19 = 1 then if ¬ (fld w 13 0 = 0) then .error 18 else .ok (sylG w (.waittAbs (Fin.ofNat 32 (fld w 18 14))))
    else .ok (sylG w (.waittRel (BitVec.ofNat 19 (fld w 18 0))))
  | 2 => if ¬ (fld w 16 0 = 0) then .error 18 else .ok (sylG w (.waitp (Fin.ofNat 8 (fld w 19 17))))
  | _ => decodeBarPhase w

/-- Major 0x11 of R155. -/
def decodeMaj11 (w : Nat) : Except Nat Syl :=
  match fld w 19 13 with
  | 0 => if ¬ (fld w 12 8 = 0 ∧ (fld w 20 20 = 1 ∨ fld w 7 3 = 0)) then .error 18 else if ¬ (fld w 2 0 < 7) then .error 26 else .ok (sylE w (.vadd (Fin.ofNat 8 (fld w 2 0))))
  | 64 => if ¬ ((fld w 20 20 = 1 ∨ fld w 7 3 = 0)) then .error 18 else if ¬ (fld w 2 0 < 7) then .error 26 else .ok (sylE w (.vaddS (Fin.ofNat 32 (fld w 12 8)) (Fin.ofNat 8 (fld w 2 0))))
  | 1 => if ¬ (fld w 12 8 = 0 ∧ (fld w 20 20 = 1 ∨ fld w 7 3 = 0)) then .error 18 else if ¬ (fld w 2 0 < 7) then .error 26 else .ok (sylE w (.vsub (Fin.ofNat 8 (fld w 2 0))))
  | 65 => if ¬ ((fld w 20 20 = 1 ∨ fld w 7 3 = 0)) then .error 18 else if ¬ (fld w 2 0 < 7) then .error 26 else .ok (sylE w (.vsubS (Fin.ofNat 32 (fld w 12 8)) (Fin.ofNat 8 (fld w 2 0))))
  | 2 => if ¬ (fld w 12 8 = 0 ∧ (fld w 20 20 = 1 ∨ fld w 7 3 = 0)) then .error 18 else if ¬ (fld w 2 0 < 7) then .error 26 else .ok (sylE w (.vmul (Fin.ofNat 8 (fld w 2 0))))
  | 66 => if ¬ ((fld w 20 20 = 1 ∨ fld w 7 3 = 0)) then .error 18 else if ¬ (fld w 2 0 < 7) then .error 26 else .ok (sylE w (.vmulS (Fin.ofNat 32 (fld w 12 8)) (Fin.ofNat 8 (fld w 2 0))))
  | 3 => if ¬ (fld w 2 0 = 0 ∧ fld w 12 8 = 0 ∧ (fld w 20 20 = 1 ∨ fld w 7 3 = 0)) then .error 18 else .ok (sylE w (.vmulh))
  | 67 => if ¬ (fld w 2 0 = 0 ∧ (fld w 20 20 = 1 ∨ fld w 7 3 = 0)) then .error 18 else .ok (sylE w (.vmulhS (Fin.ofNat 32 (fld w 12 8))))
  | 4 => if ¬ (fld w 12 8 = 0 ∧ (fld w 20 20 = 1 ∨ fld w 7 3 = 0)) then .error 18 else if ¬ (fld w 2 0 < 7) then .error 26 else .ok (sylE w (.vfma (Fin.ofNat 8 (fld w 2 0))))
  | 68 => if ¬ ((fld w 20 20 = 1 ∨ fld w 7 3 = 0)) then .error 18 else if ¬ (fld w 2 0 < 7) then .error 26 else .ok (sylE w (.vfmaS (Fin.ofNat 32 (fld w 12 8)) (Fin.ofNat 8 (fld w 2 0))))
  | 5 => if ¬ (fld w 12 8 = 0 ∧ (fld w 20 20 = 1 ∨ fld w 7 3 = 0)) then .error 18 else if ¬ (fld w 2 0 < 7) then .error 26 else .ok (sylE w (.vfms (Fin.ofNat 8 (fld w 2 0))))
  | 69 => if ¬ ((fld w 20 20 = 1 ∨ fld w 7 3 = 0)) then .error 18 else if ¬ (fld w 2 0 < 7) then .error 26 else .ok (sylE w (.vfmsS (Fin.ofNat 32 (fld w 12 8)) (Fin.ofNat 8 (fld w 2 0))))
  | 6 => if ¬ (fld w 2 0 = 0 ∧ fld w 12 8 = 0 ∧ (fld w 20 20 = 1 ∨ fld w 7 3 = 0)) then .error 18 else .ok (sylE w (.vmin))
  | 70 => if ¬ (fld w 2 0 = 0 ∧ (fld w 20 20 = 1 ∨ fld w 7 3 = 0)) then .error 18 else .ok (sylE w (.vminS (Fin.ofNat 32 (fld w 12 8))))
  | 7 => if ¬ (fld w 2 0 = 0 ∧ fld w 12 8 = 0 ∧ (fld w 20 20 = 1 ∨ fld w 7 3 = 0)) then .error 18 else .ok (sylE w (.vmax))
  | 71 => if ¬ (fld w 2 0 = 0 ∧ (fld w 20 20 = 1 ∨ fld w 7 3 = 0)) then .error 18 else .ok (sylE w (.vmaxS (Fin.ofNat 32 (fld w 12 8))))
  | 8 => if ¬ (fld w 12 8 = 0 ∧ (fld w 20 20 = 1 ∨ fld w 7 3 = 0)) then .error 18 else if ¬ (fld w 2 0 < 7) then .error 26 else .ok (sylE w (.vabs (Fin.ofNat 8 (fld w 2 0))))
  | 9 => if ¬ (fld w 12 8 = 0 ∧ (fld w 20 20 = 1 ∨ fld w 7 3 = 0)) then .error 18 else if ¬ (fld w 2 0 < 7) then .error 26 else .ok (sylE w (.vneg (Fin.ofNat 8 (fld w 2 0))))
  | 10 => if ¬ (fld w 12 8 = 0 ∧ (fld w 20 20 = 1 ∨ fld w 7 3 = 0)) then .error 18 else if ¬ (fld w 2 0 < 7) then .error 26 else .ok (sylE w (.vdiv (Fin.ofNat 8 (fld w 2 0))))
  | 74 => if ¬ ((fld w 20 20 = 1 ∨ fld w 7 3 = 0)) then .error 18 else if ¬ (fld w 2 0 < 7) then .error 26 else .ok (sylE w (.vdivS (Fin.ofNat 32 (fld w 12 8)) (Fin.ofNat 8 (fld w 2 0))))
  | 11 => if ¬ (fld w 12 8 = 0 ∧ (fld w 20 20 = 1 ∨ fld w 7 3 = 0)) then .error 18 else if ¬ (fld w 2 0 < 7) then .error 26 else .ok (sylE w (.vsqrt (Fin.ofNat 8 (fld w 2 0))))
  | 12 => if ¬ (fld w 2 0 = 0 ∧ fld w 12 8 = 0 ∧ (fld w 20 20 = 1 ∨ fld w 7 3 = 0)) then .error 18 else .ok (sylE w (.vmov))
  | 77 => if ¬ (fld w 2 0 = 0 ∧ (fld w 20 20 = 1 ∨ fld w 7 3 = 0)) then .error 18 else .ok (sylE w (.vfill (Fin.ofNat 32 (fld w 12 8))))
  | _ => .error 17

/-- Major 0x12 of R155. -/
def decodeMaj12 (w : Nat) : Except Nat Syl :=
  match fld w 19 13 with
  | 0 => if ¬ (fld w 2 0 = 0 ∧ fld w 12 8 = 0 ∧ (fld w 20 20 = 1 ∨ fld w 7 3 = 0)) then .error 18 else .ok (sylE w (.vand))
  | 64 => if ¬ (fld w 2 0 = 0 ∧ (fld w 20 20 = 1 ∨ fld w 7 3 = 0)) then .error 18 else .ok (sylE w (.vandS (Fin.ofNat 32 (fld w 12 8))))
  | 1 => if ¬ (fld w 2 0 = 0 ∧ fld w 12 8 = 0 ∧ (fld w 20 20 = 1 ∨ fld w 7 3 = 0)) then .error 18 else .ok (sylE w (.vor))
  | 65 => if ¬ (fld w 2 0 = 0 ∧ (fld w 20 20 = 1 ∨ fld w 7 3 = 0)) then .error 18 else .ok (sylE w (.vorS (Fin.ofNat 32 (fld w 12 8))))
  | 2 => if ¬ (fld w 2 0 = 0 ∧ fld w 12 8 = 0 ∧ (fld w 20 20 = 1 ∨ fld w 7 3 = 0)) then .error 18 else .ok (sylE w (.vxor))
  | 66 => if ¬ (fld w 2 0 = 0 ∧ (fld w 20 20 = 1 ∨ fld w 7 3 = 0)) then .error 18 else .ok (sylE w (.vxorS (Fin.ofNat 32 (fld w 12 8))))
  | 3 => if ¬ (fld w 2 0 = 0 ∧ fld w 12 8 = 0 ∧ (fld w 20 20 = 1 ∨ fld w 7 3 = 0)) then .error 18 else .ok (sylE w (.vandn))
  | 67 => if ¬ (fld w 2 0 = 0 ∧ (fld w 20 20 = 1 ∨ fld w 7 3 = 0)) then .error 18 else .ok (sylE w (.vandnS (Fin.ofNat 32 (fld w 12 8))))
  | 4 => if ¬ (fld w 2 0 = 0 ∧ fld w 12 8 = 0 ∧ (fld w 20 20 = 1 ∨ fld w 7 3 = 0)) then .error 18 else .ok (sylE w (.vnot))
  | 5 => if ¬ (fld w 2 0 = 0 ∧ fld w 12 8 = 0 ∧ (fld w 20 20 = 1 ∨ fld w 7 3 = 0)) then .error 18 else .ok (sylE w (.vshl))
  | 69 => if ¬ (fld w 2 0 = 0 ∧ (fld w 20 20 = 1 ∨ fld w 7 3 = 0)) then .error 18 else .ok (sylE w (.vshlS (Fin.ofNat 32 (fld w 12 8))))
  | 6 => if ¬ (fld w 2 0 = 0 ∧ fld w 12 8 = 0 ∧ (fld w 20 20 = 1 ∨ fld w 7 3 = 0)) then .error 18 else .ok (sylE w (.vshr))
  | 70 => if ¬ (fld w 2 0 = 0 ∧ (fld w 20 20 = 1 ∨ fld w 7 3 = 0)) then .error 18 else .ok (sylE w (.vshrS (Fin.ofNat 32 (fld w 12 8))))
  | 7 => if ¬ (fld w 2 0 = 0 ∧ fld w 12 8 = 0 ∧ (fld w 20 20 = 1 ∨ fld w 7 3 = 0)) then .error 18 else .ok (sylE w (.vsar))
  | 71 => if ¬ (fld w 2 0 = 0 ∧ (fld w 20 20 = 1 ∨ fld w 7 3 = 0)) then .error 18 else .ok (sylE w (.vsarS (Fin.ofNat 32 (fld w 12 8))))
  | 8 => if ¬ (fld w 2 0 < 7) then .error 17 else if ¬ (fld w 12 8 = 0 ∧ (fld w 20 20 = 1 ∨ fld w 7 3 = 0)) then .error 18 else .ok (sylE w (.vcmp (Fin.ofNat 8 (fld w 2 0))))
  | 72 => if ¬ (fld w 2 0 < 7) then .error 17 else if ¬ ((fld w 20 20 = 1 ∨ fld w 7 3 = 0)) then .error 18 else .ok (sylE w (.vcmpS (Fin.ofNat 32 (fld w 12 8)) (Fin.ofNat 8 (fld w 2 0))))
  | 9 => if ¬ (fld w 2 0 = 0 ∧ fld w 12 8 = 0 ∧ (fld w 20 20 = 1 ∨ fld w 7 3 = 0)) then .error 18 else .ok (sylE w (.vsel))
  | 73 => if ¬ (fld w 2 0 = 0 ∧ (fld w 20 20 = 1 ∨ fld w 7 3 = 0)) then .error 18 else .ok (sylE w (.vselS (Fin.ofNat 32 (fld w 12 8))))
  | _ => .error 17

/-- Major 0x13 of R155. -/
def decodeMaj13 (w : Nat) : Except Nat Syl :=
  match fld w 19 13 with
  | 0 => if ¬ (fld w 2 0 = 0 ∧ fld w 12 8 = 0 ∧ (fld w 20 20 = 1 ∨ fld w 7 3 = 0)) then .error 18 else .ok (sylE w (.vpopc))
  | 1 => if ¬ (fld w 2 0 = 0 ∧ fld w 12 8 = 0 ∧ (fld w 20 20 = 1 ∨ fld w 7 3 = 0)) then .error 18 else .ok (sylE w (.vclz))
  | 2 => if ¬ (fld w 2 0 = 0 ∧ fld w 12 8 = 0 ∧ (fld w 20 20 = 1 ∨ fld w 7 3 = 0)) then .error 18 else .ok (sylE w (.vbrev))
  | 3 => if ¬ (fld w 2 0 = 0 ∧ fld w 12 8 = 0 ∧ (fld w 20 20 = 1 ∨ fld w 7 3 = 0)) then .error 18 else .ok (sylE w (.vfns))
  | 67 => if ¬ (fld w 2 0 = 0 ∧ (fld w 20 20 = 1 ∨ fld w 7 3 = 0)) then .error 18 else .ok (sylE w (.vfnsS (Fin.ofNat 32 (fld w 12 8))))
  | 4 => if ¬ (fld w 2 0 = 0 ∧ fld w 12 8 = 0 ∧ (fld w 20 20 = 1 ∨ fld w 7 3 = 0)) then .error 18 else .ok (sylE w (.vbfx))
  | 68 => if ¬ (fld w 2 0 = 0 ∧ (fld w 20 20 = 1 ∨ fld w 7 3 = 0)) then .error 18 else .ok (sylE w (.vbfxS (Fin.ofNat 32 (fld w 12 8))))
  | 5 => if ¬ (fld w 2 0 = 0 ∧ fld w 12 8 = 0 ∧ (fld w 20 20 = 1 ∨ fld w 7 3 = 0)) then .error 18 else .ok (sylE w (.vbfi))
  | 69 => if ¬ (fld w 2 0 = 0 ∧ (fld w 20 20 = 1 ∨ fld w 7 3 = 0)) then .error 18 else .ok (sylE w (.vbfiS (Fin.ofNat 32 (fld w 12 8))))
  | 6 => match fld w 0 0 with
    | 0 => if ¬ (fld w 2 1 = 0 ∧ fld w 12 8 = 0 ∧ (fld w 20 20 = 1 ∨ fld w 7 3 = 0)) then .error 18 else .ok (sylE w (.vfshL))
    | _ => if ¬ (fld w 2 1 = 0 ∧ fld w 12 8 = 0 ∧ (fld w 20 20 = 1 ∨ fld w 7 3 = 0)) then .error 18 else .ok (sylE w (.vfshR))
  | 70 => match fld w 0 0 with
    | 0 => if ¬ (fld w 2 1 = 0 ∧ (fld w 20 20 = 1 ∨ fld w 7 3 = 0)) then .error 18 else .ok (sylE w (.vfshLS (Fin.ofNat 32 (fld w 12 8))))
    | _ => if ¬ (fld w 2 1 = 0 ∧ (fld w 20 20 = 1 ∨ fld w 7 3 = 0)) then .error 18 else .ok (sylE w (.vfshRS (Fin.ofNat 32 (fld w 12 8))))
  | _ => .error 17

/-- Major 0x14 of R155. -/
def decodeMaj14 (w : Nat) : Except Nat Syl :=
  match fld w 19 13 with
  | 0 => if ¬ (fld w 12 8 = 0 ∧ (fld w 20 20 = 1 ∨ fld w 7 3 = 0)) then .error 18 else if ¬ (fld w 2 0 < 7) then .error 26 else .ok (sylE w (.vcvt (Fin.ofNat 8 (fld w 2 0))))
  | 1 => if ¬ (fld w 2 0 = 0 ∧ fld w 12 8 = 0 ∧ (fld w 20 20 = 1 ∨ fld w 7 3 = 0)) then .error 18 else .ok (sylE w (.vexp2))
  | 2 => if ¬ (fld w 2 0 = 0 ∧ fld w 12 8 = 0 ∧ (fld w 20 20 = 1 ∨ fld w 7 3 = 0)) then .error 18 else .ok (sylE w (.vlog2))
  | 3 => if ¬ (fld w 2 0 = 0 ∧ fld w 12 8 = 0 ∧ (fld w 20 20 = 1 ∨ fld w 7 3 = 0)) then .error 18 else .ok (sylE w (.vrcp))
  | 4 => if ¬ (fld w 2 0 = 0 ∧ fld w 12 8 = 0 ∧ (fld w 20 20 = 1 ∨ fld w 7 3 = 0)) then .error 18 else .ok (sylE w (.vrsqrt))
  | 8 => if ¬ (fld w 2 0 = 0 ∧ (fld w 20 20 = 1 ∨ fld w 7 3 = 0)) then .error 18 else .ok (sylE w (.vsplit (Fin.ofNat 32 (fld w 12 8))))
  | _ => .error 17

/-- Major 0x15 of R155. -/
def decodeMaj15 (w : Nat) : Except Nat Syl :=
  match fld w 19 13 with
  | 0 => if ¬ (fld w 12 8 = 0 ∧ (fld w 20 20 = 1 ∨ fld w 7 3 = 0)) then .error 18 else if ¬ (fld w 2 0 < 7) then .error 26 else .ok (sylE w (.vredsumAll (Fin.ofNat 8 (fld w 2 0))))
  | 1 => if ¬ (fld w 12 8 = 0 ∧ (fld w 20 20 = 1 ∨ fld w 7 3 = 0)) then .error 18 else if ¬ (fld w 2 0 < 7) then .error 26 else .ok (sylE w (.vredsumRow (Fin.ofNat 8 (fld w 2 0))))
  | 2 => if ¬ (fld w 12 8 = 0 ∧ (fld w 20 20 = 1 ∨ fld w 7 3 = 0)) then .error 18 else if ¬ (fld w 2 0 < 7) then .error 26 else .ok (sylE w (.vredsumCol (Fin.ofNat 8 (fld w 2 0))))
  | 4 => if ¬ (fld w 2 0 = 0 ∧ fld w 12 8 = 0 ∧ (fld w 20 20 = 1 ∨ fld w 7 3 = 0)) then .error 18 else .ok (sylE w (.vredmaxAll))
  | 5 => if ¬ (fld w 2 0 = 0 ∧ fld w 12 8 = 0 ∧ (fld w 20 20 = 1 ∨ fld w 7 3 = 0)) then .error 18 else .ok (sylE w (.vredmaxRow))
  | 6 => if ¬ (fld w 2 0 = 0 ∧ fld w 12 8 = 0 ∧ (fld w 20 20 = 1 ∨ fld w 7 3 = 0)) then .error 18 else .ok (sylE w (.vredmaxCol))
  | 8 => if ¬ (fld w 2 0 = 0 ∧ fld w 12 8 = 0 ∧ (fld w 20 20 = 1 ∨ fld w 7 3 = 0)) then .error 18 else .ok (sylE w (.vredminAll))
  | 9 => if ¬ (fld w 2 0 = 0 ∧ fld w 12 8 = 0 ∧ (fld w 20 20 = 1 ∨ fld w 7 3 = 0)) then .error 18 else .ok (sylE w (.vredminRow))
  | 10 => if ¬ (fld w 2 0 = 0 ∧ fld w 12 8 = 0 ∧ (fld w 20 20 = 1 ∨ fld w 7 3 = 0)) then .error 18 else .ok (sylE w (.vredminCol))
  | 12 => if ¬ (fld w 2 0 = 0 ∧ (fld w 20 20 = 1 ∨ fld w 7 3 = 0)) then .error 18 else .ok (sylE w (.vargmaxAll (Fin.ofNat 32 (fld w 12 8))))
  | 13 => if ¬ (fld w 2 0 = 0 ∧ (fld w 20 20 = 1 ∨ fld w 7 3 = 0)) then .error 18 else .ok (sylE w (.vargmaxRow (Fin.ofNat 32 (fld w 12 8))))
  | 14 => if ¬ (fld w 2 0 = 0 ∧ (fld w 20 20 = 1 ∨ fld w 7 3 = 0)) then .error 18 else .ok (sylE w (.vargmaxCol (Fin.ofNat 32 (fld w 12 8))))
  | 16 => if ¬ (fld w 12 8 = 0 ∧ (fld w 20 20 = 1 ∨ fld w 7 3 = 0)) then .error 18 else if ¬ (fld w 2 0 < 7) then .error 26 else .ok (sylE w (.vscan (Fin.ofNat 8 (fld w 2 0))))
  | 20 => if ¬ (fld w 2 0 = 0 ∧ fld w 12 8 = 0 ∧ (fld w 20 20 = 1 ∨ fld w 7 3 = 0)) then .error 18 else .ok (sylE w (.vgath))
  | 21 => if ¬ (fld w 2 0 = 0 ∧ fld w 12 8 = 0 ∧ (fld w 20 20 = 1 ∨ fld w 7 3 = 0)) then .error 18 else .ok (sylE w (.vscat))
  | 24 => if ¬ (fld w 2 0 = 0 ∧ fld w 12 8 = 0 ∧ (fld w 20 20 = 1 ∨ fld w 7 3 = 0)) then .error 18 else .ok (sylE w (.vtran))
  | _ => .error 17

/-- Major 0x16 of R155. -/
def decodeMaj16 (w : Nat) : Except Nat Syl :=
  match fld w 19 13 with
  | 0 => if ¬ (fld w 2 0 = 0 ∧ (fld w 20 20 = 1 ∨ fld w 7 3 = 0)) then .error 18 else .ok (sylE w (.vpush (Fin.ofNat 32 (fld w 12 8))))
  | 1 => if ¬ (fld w 2 0 = 0) then .error 18 else if ¬ (fld w 20 20 = 0) then .error 24 else .ok (sylU w (.vpop (Fin.ofNat 32 (fld w 12 8)) (Fin.ofNat 32 (fld w 7 3))))
  | 2 => if ¬ (fld w 2 0 = 0) then .error 18 else if ¬ (fld w 20 20 = 0) then .error 24 else .ok (sylU w (.vqcnt (Fin.ofNat 32 (fld w 12 8)) (Fin.ofNat 32 (fld w 7 3))))
  | 8 => if ¬ (fld w 2 2 = 0 ∧ (fld w 20 20 = 1 ∨ fld w 7 3 = 0)) then .error 18 else .ok (sylE w (.vchain (Fin.ofNat 32 (fld w 12 8)) (Fin.ofNat 4 (fld w 1 0))))
  | _ => .error 17

/-- Major 0x17 of R155. -/
def decodeMaj17 (w : Nat) : Except Nat Syl :=
  match fld w 19 13 with
  | 0 => if ¬ (fld w 2 0 = 0 ∧ fld w 12 8 = 0 ∧ (fld w 20 20 = 1 ∨ fld w 7 3 = 0)) then .error 18 else .ok (sylE w (.mma))
  | 1 => if ¬ (fld w 2 0 = 0 ∧ fld w 12 8 = 0 ∧ (fld w 20 20 = 1 ∨ fld w 7 3 = 0)) then .error 18 else .ok (sylE w (.mmaZ))
  | 2 => if ¬ (fld w 2 0 = 0 ∧ fld w 12 8 = 0 ∧ (fld w 20 20 = 1 ∨ fld w 7 3 = 0)) then .error 18 else .ok (sylE w (.mmas))
  | 3 => if ¬ (fld w 2 0 = 0 ∧ fld w 12 8 = 0 ∧ (fld w 20 20 = 1 ∨ fld w 7 3 = 0)) then .error 18 else .ok (sylE w (.mmasZ))
  | 8 => if ¬ ((fld w 20 20 = 1 ∨ fld w 7 3 = 0)) then .error 18 else if ¬ (fld w 2 0 < 7) then .error 26 else .ok (sylE w (.accn (Fin.ofNat 32 (fld w 12 8)) (Fin.ofNat 8 (fld w 2 0))))
  | 9 => if ¬ (fld w 2 0 = 0) then .error 18 else if ¬ (fld w 20 20 = 0) then .error 24 else .ok (sylU w (.accx (Fin.ofNat 32 (fld w 12 8)) (Fin.ofNat 32 (fld w 7 3))))
  | 10 => if ¬ (fld w 2 0 = 0 ∧ fld w 12 8 = 0 ∧ (fld w 20 20 = 1 ∨ fld w 7 3 = 0)) then .error 18 else .ok (sylE w (.accz))
  | 16 => if ¬ (fld w 2 0 = 0 ∧ (fld w 20 20 = 1 ∨ fld w 7 3 = 0)) then .error 18 else .ok (sylE w (.accst (Fin.ofNat 32 (fld w 12 8))))
  | 17 => if ¬ (fld w 2 0 = 0 ∧ (fld w 20 20 = 1 ∨ fld w 7 3 = 0)) then .error 18 else .ok (sylE w (.accld (Fin.ofNat 32 (fld w 12 8))))
  | _ => .error 17

/-- Major 0x18 of R155. -/
def decodeMaj18 (w : Nat) : Except Nat Syl :=
  match fld w 19 13 with
  | 0 => if ¬ ((fld w 20 20 = 1 ∨ fld w 7 3 = 0)) then .error 18 else .ok (sylE w (.cpg (Fin.ofNat 32 (fld w 12 8)) (Fin.ofNat 8 (fld w 2 0))))
  | 1 => if ¬ ((fld w 20 20 = 1 ∨ fld w 7 3 = 0)) then .error 18 else .ok (sylE w (.cpgX (Fin.ofNat 32 (fld w 12 8)) (Fin.ofNat 8 (fld w 2 0))))
  | 2 => if ¬ ((fld w 20 20 = 1 ∨ fld w 7 3 = 0)) then .error 18 else .ok (sylE w (.cps (Fin.ofNat 32 (fld w 12 8)) (Fin.ofNat 8 (fld w 2 0))))
  | 3 => if ¬ ((fld w 20 20 = 1 ∨ fld w 7 3 = 0)) then .error 18 else .ok (sylE w (.cpsX (Fin.ofNat 32 (fld w 12 8)) (Fin.ofNat 8 (fld w 2 0))))
  | 4 => if ¬ (fld w 20 20 = 0) then .error 24 else .ok (sylU w (.cpy (Fin.ofNat 32 (fld w 12 8)) (Fin.ofNat 32 (fld w 7 3)) (Fin.ofNat 8 (fld w 2 0))))
  | 8 => if ¬ ((fld w 20 20 = 1 ∨ fld w 7 3 = 0)) then .error 18 else .ok (sylE w (.wmap (Fin.ofNat 32 (fld w 12 8)) (Fin.ofNat 8 (fld w 2 0))))
  | 9 => if ¬ (fld w 12 11 = 0 ∧ (fld w 20 20 = 1 ∨ fld w 7 3 = 0)) then .error 18 else .ok (sylE w (.wfill (Fin.ofNat 8 (fld w 10 8)) (Fin.ofNat 8 (fld w 2 0))))
  | 10 => if ¬ (fld w 12 11 = 0 ∧ (fld w 20 20 = 1 ∨ fld w 7 3 = 0)) then .error 18 else .ok (sylE w (.wback (Fin.ofNat 8 (fld w 10 8)) (Fin.ofNat 8 (fld w 2 0))))
  | 11 => if ¬ (fld w 12 11 = 0 ∧ (fld w 20 20 = 1 ∨ fld w 7 3 = 0)) then .error 18 else .ok (sylE w (.wunmap (Fin.ofNat 8 (fld w 10 8)) (Fin.ofNat 8 (fld w 2 0))))
  | 12 => match fld w 0 0 with
    | 0 => if ¬ (fld w 2 1 = 0) then .error 18 else if ¬ (fld w 20 20 = 0) then .error 24 else .ok (sylU w (.probeR (Fin.ofNat 32 (fld w 12 8)) (Fin.ofNat 32 (fld w 7 3))))
    | _ => if ¬ (fld w 2 1 = 0) then .error 18 else if ¬ (fld w 20 20 = 0) then .error 24 else .ok (sylU w (.probeW (Fin.ofNat 32 (fld w 12 8)) (Fin.ofNat 32 (fld w 7 3))))
  | _ => .error 17

/-- Major 0x19 of R155. -/
def decodeMaj19 (w : Nat) : Except Nat Syl :=
  match fld w 19 13 with
  | 0 => if ¬ ((fld w 20 20 = 1 ∨ fld w 7 3 = 0)) then .error 18 else .ok (sylE w (.atomAdd (Fin.ofNat 32 (fld w 12 8)) (Fin.ofNat 8 (fld w 2 0))))
  | 1 => if ¬ ((fld w 20 20 = 1 ∨ fld w 7 3 = 0)) then .error 18 else .ok (sylE w (.atomMin (Fin.ofNat 32 (fld w 12 8)) (Fin.ofNat 8 (fld w 2 0))))
  | 2 => if ¬ ((fld w 20 20 = 1 ∨ fld w 7 3 = 0)) then .error 18 else .ok (sylE w (.atomMax (Fin.ofNat 32 (fld w 12 8)) (Fin.ofNat 8 (fld w 2 0))))
  | 3 => if ¬ ((fld w 20 20 = 1 ∨ fld w 7 3 = 0)) then .error 18 else .ok (sylE w (.atomAnd (Fin.ofNat 32 (fld w 12 8)) (Fin.ofNat 8 (fld w 2 0))))
  | 4 => if ¬ ((fld w 20 20 = 1 ∨ fld w 7 3 = 0)) then .error 18 else .ok (sylE w (.atomOr (Fin.ofNat 32 (fld w 12 8)) (Fin.ofNat 8 (fld w 2 0))))
  | 5 => if ¬ ((fld w 20 20 = 1 ∨ fld w 7 3 = 0)) then .error 18 else .ok (sylE w (.atomXor (Fin.ofNat 32 (fld w 12 8)) (Fin.ofNat 8 (fld w 2 0))))
  | 6 => if ¬ ((fld w 20 20 = 1 ∨ fld w 7 3 = 0)) then .error 18 else .ok (sylE w (.atomXchg (Fin.ofNat 32 (fld w 12 8)) (Fin.ofNat 8 (fld w 2 0))))
  | 7 => if ¬ ((fld w 20 20 = 1 ∨ fld w 7 3 = 0)) then .error 18 else .ok (sylE w (.atomCas (Fin.ofNat 32 (fld w 12 8)) (Fin.ofNat 8 (fld w 2 0))))
  | 8 => if ¬ ((fld w 20 20 = 1 ∨ fld w 7 3 = 0)) then .error 18 else .ok (sylE w (.atomAddNr (Fin.ofNat 32 (fld w 12 8)) (Fin.ofNat 8 (fld w 2 0))))
  | 9 => if ¬ ((fld w 20 20 = 1 ∨ fld w 7 3 = 0)) then .error 18 else .ok (sylE w (.atomMinNr (Fin.ofNat 32 (fld w 12 8)) (Fin.ofNat 8 (fld w 2 0))))
  | 10 => if ¬ ((fld w 20 20 = 1 ∨ fld w 7 3 = 0)) then .error 18 else .ok (sylE w (.atomMaxNr (Fin.ofNat 32 (fld w 12 8)) (Fin.ofNat 8 (fld w 2 0))))
  | 11 => if ¬ ((fld w 20 20 = 1 ∨ fld w 7 3 = 0)) then .error 18 else .ok (sylE w (.atomAndNr (Fin.ofNat 32 (fld w 12 8)) (Fin.ofNat 8 (fld w 2 0))))
  | 12 => if ¬ ((fld w 20 20 = 1 ∨ fld w 7 3 = 0)) then .error 18 else .ok (sylE w (.atomOrNr (Fin.ofNat 32 (fld w 12 8)) (Fin.ofNat 8 (fld w 2 0))))
  | 13 => if ¬ ((fld w 20 20 = 1 ∨ fld w 7 3 = 0)) then .error 18 else .ok (sylE w (.atomXorNr (Fin.ofNat 32 (fld w 12 8)) (Fin.ofNat 8 (fld w 2 0))))
  | 14 => if ¬ ((fld w 20 20 = 1 ∨ fld w 7 3 = 0)) then .error 18 else .ok (sylE w (.atomXchgNr (Fin.ofNat 32 (fld w 12 8)) (Fin.ofNat 8 (fld w 2 0))))
  | 15 => if ¬ ((fld w 20 20 = 1 ∨ fld w 7 3 = 0)) then .error 18 else .ok (sylE w (.atomCasNr (Fin.ofNat 32 (fld w 12 8)) (Fin.ofNat 8 (fld w 2 0))))
  | 16 => if ¬ (fld w 12 8 = 0 ∧ (fld w 20 20 = 1 ∨ fld w 7 3 = 0)) then .error 18 else .ok (sylE w (.mcast (Fin.ofNat 8 (fld w 2 0))))
  | 24 => if ¬ ((fld w 20 20 = 1 ∨ fld w 7 3 = 0)) then .error 18 else .ok (sylE w (.collSum (Fin.ofNat 32 (fld w 12 8)) (Fin.ofNat 8 (fld w 2 0))))
  | 25 => if ¬ ((fld w 20 20 = 1 ∨ fld w 7 3 = 0)) then .error 18 else .ok (sylE w (.collMax (Fin.ofNat 32 (fld w 12 8)) (Fin.ofNat 8 (fld w 2 0))))
  | 26 => if ¬ ((fld w 20 20 = 1 ∨ fld w 7 3 = 0)) then .error 18 else .ok (sylE w (.collArgmax (Fin.ofNat 32 (fld w 12 8)) (Fin.ofNat 8 (fld w 2 0))))
  | 27 => if ¬ ((fld w 20 20 = 1 ∨ fld w 7 3 = 0)) then .error 18 else .ok (sylE w (.collBcast (Fin.ofNat 32 (fld w 12 8)) (Fin.ofNat 8 (fld w 2 0))))
  | 32 => if ¬ (fld w 2 0 = 0) then .error 18 else if ¬ (fld w 20 20 = 0) then .error 24 else .ok (sylU w (.qlnch (Fin.ofNat 32 (fld w 12 8)) (Fin.ofNat 32 (fld w 7 3))))
  | _ => .error 17

/-- Major 0x1A of R155. -/
def decodeMaj1A (w : Nat) : Except Nat Syl :=
  match fld w 19 13 with
  | 0 => if ¬ (fld w 2 0 = 0 ∧ fld w 12 8 = 0 ∧ (fld w 20 20 = 1 ∨ fld w 7 3 = 0)) then .error 18 else .ok (sylE w (.wprop))
  | 1 => if ¬ (fld w 2 0 = 0) then .error 18 else if ¬ (fld w 20 20 = 0) then .error 24 else .ok (sylU w (.wdepth (Fin.ofNat 32 (fld w 12 8)) (Fin.ofNat 32 (fld w 7 3))))
  | 2 => if ¬ (fld w 2 0 = 0) then .error 18 else if ¬ (fld w 20 20 = 0) then .error 24 else .ok (sylU w (.wrbk (Fin.ofNat 32 (fld w 12 8)) (Fin.ofNat 32 (fld w 7 3))))
  | 8 => if ¬ (fld w 2 0 = 0) then .error 18 else if ¬ (fld w 20 20 = 0) then .error 24 else .ok (sylU w (.wtake (Fin.ofNat 32 (fld w 12 8)) (Fin.ofNat 32 (fld w 7 3))))
  | 9 => if ¬ (fld w 2 0 = 0) then .error 18 else if ¬ (fld w 20 20 = 0) then .error 24 else .ok (sylU w (.wjudge (Fin.ofNat 32 (fld w 12 8)) (Fin.ofNat 32 (fld w 7 3))))
  | 10 => if ¬ (fld w 2 0 = 0) then .error 18 else if ¬ (fld w 20 20 = 0) then .error 24 else .ok (sylU w (.wfinal (Fin.ofNat 32 (fld w 12 8)) (Fin.ofNat 32 (fld w 7 3))))
  | 11 => if ¬ (fld w 2 0 = 0) then .error 18 else if ¬ (fld w 20 20 = 0) then .error 24 else .ok (sylU w (.wstat (Fin.ofNat 32 (fld w 12 8)) (Fin.ofNat 32 (fld w 7 3))))
  | _ => .error 17

/-- Major 0x1B of R155. -/
def decodeMaj1B (w : Nat) : Except Nat Syl :=
  match fld w 19 13 with
  | 0 => if ¬ (fld w 7 0 = 0 ∧ fld w 21 20 = 0) then .error 18 else .ok (sylG w (.ftset (Fin.ofNat 32 (fld w 12 8))))
  | 1 => if ¬ (fld w 2 2 = 0 ∧ fld w 21 20 = 0) then .error 18 else .ok (sylG w (.scld (Fin.ofNat 32 (fld w 12 8)) (Fin.ofNat 32 (fld w 7 3)) (bit w 1) (bit w 0)))
  | 2 => if ¬ (fld w 2 2 = 0 ∧ fld w 21 20 = 0) then .error 18 else .ok (sylG w (.chset (Fin.ofNat 32 (fld w 12 8)) (Fin.ofNat 32 (fld w 7 3)) (Fin.ofNat 4 (fld w 1 0))))
  | 3 => if ¬ (fld w 7 0 = 0 ∧ fld w 21 20 = 0) then .error 18 else .ok (sylG w (.decl (Fin.ofNat 32 (fld w 12 8))))
  | 4 => if ¬ (fld w 7 0 = 0 ∧ fld w 21 20 = 0) then .error 18 else .ok (sylG w (.pwra (Fin.ofNat 32 (fld w 12 8))))
  | 5 => if ¬ (fld w 12 0 = 0 ∧ fld w 21 20 = 0) then .error 18 else .ok (sylG w (.pwrr))
  | 6 => if ¬ (fld w 2 0 = 0 ∧ fld w 21 20 = 0) then .error 18 else .ok (sylG w (.qinit (Fin.ofNat 32 (fld w 12 8)) (Fin.ofNat 32 (fld w 7 3))))
  | _ => .error 17

/-- Major 0x1C of R155. -/
def decodeMaj1C (w : Nat) : Except Nat Syl :=
  match fld w 19 13 with
  | 0 => if ¬ (fld w 21 20 = 0) then .error 18 else .ok (sylG w (.lnputCw (Fin.ofNat 32 (fld w 12 8)) (Fin.ofNat 32 (fld w 7 3)) (Fin.ofNat 8 (fld w 2 0))))
  | 1 => if ¬ (fld w 21 20 = 0) then .error 18 else .ok (sylG w (.lnputAw (Fin.ofNat 32 (fld w 12 8)) (Fin.ofNat 32 (fld w 7 3)) (Fin.ofNat 8 (fld w 2 0))))
  | 2 => if ¬ (fld w 21 20 = 0) then .error 18 else .ok (sylG w (.lntapCw (Fin.ofNat 32 (fld w 12 8)) (Fin.ofNat 32 (fld w 7 3)) (Fin.ofNat 8 (fld w 2 0))))
  | 3 => if ¬ (fld w 21 20 = 0) then .error 18 else .ok (sylG w (.lntapAw (Fin.ofNat 32 (fld w 12 8)) (Fin.ofNat 32 (fld w 7 3)) (Fin.ofNat 8 (fld w 2 0))))
  | _ => .error 17

/-- Major 0x1F of R155. -/
def decodeMaj1F (w : Nat) : Except Nat Syl :=
  if ¬ (pfxOk w = true) then .error 19 else .ok (sylP w (.pfx (Fin.ofNat 8 (fld w 25 23)) (bit w 22) (Fin.ofNat 8 (fld w 21 19)) (BitVec.ofNat 8 (fld w 18 11)) (BitVec.ofNat 8 (fld w 10 3)) (Fin.ofNat 8 (fld w 2 0))))

/-- R155, R156: the syllable a 32-bit word encodes, or the lowest reason number of R156 that its bits alone give. -/
def decodeWord (w : Nat) : Except Nat Syl :=
  match fld w 30 26 with
  | 0 => decodeMaj00 w
  | 1 => decodeMaj01 w
  | 2 => decodeMaj02 w
  | 3 => decodeMaj03 w
  | 4 => decodeMaj04 w
  | 5 => decodeMaj05 w
  | 6 => decodeMaj06 w
  | 7 => decodeMaj07 w
  | 8 => decodeMaj08 w
  | 9 => decodeMaj09 w
  | 10 => decodeMaj0A w
  | 11 => decodeMaj0B w
  | 12 => decodeMaj0C w
  | 13 => decodeMaj0D w
  | 14 => decodeMaj0E w
  | 15 => decodeMaj0F w
  | 16 => decodeMaj10 w
  | 17 => decodeMaj11 w
  | 18 => decodeMaj12 w
  | 19 => decodeMaj13 w
  | 20 => decodeMaj14 w
  | 21 => decodeMaj15 w
  | 22 => decodeMaj16 w
  | 23 => decodeMaj17 w
  | 24 => decodeMaj18 w
  | 25 => decodeMaj19 w
  | 26 => decodeMaj1A w
  | 27 => decodeMaj1B w
  | 28 => decodeMaj1C w
  | 31 => decodeMaj1F w
  | _ => .error 16

/-- The bits of a syllable that are its operation and its own fields (R144, R148 to R154); 0 for an event. -/
def opBits : Instr → Nat
  | .add d a b => 0x00000000 + d.val * 2097152 + a.val * 65536 + b.val * 2048
  | .sub d a b => 0x00000001 + d.val * 2097152 + a.val * 65536 + b.val * 2048
  | .addw d a b => 0x00000002 + d.val * 2097152 + a.val * 65536 + b.val * 2048
  | .subw d a b => 0x00000003 + d.val * 2097152 + a.val * 65536 + b.val * 2048
  | .and d a b => 0x00000004 + d.val * 2097152 + a.val * 65536 + b.val * 2048
  | .or d a b => 0x00000005 + d.val * 2097152 + a.val * 65536 + b.val * 2048
  | .xor d a b => 0x00000006 + d.val * 2097152 + a.val * 65536 + b.val * 2048
  | .andn d a b => 0x00000007 + d.val * 2097152 + a.val * 65536 + b.val * 2048
  | .orn d a b => 0x00000008 + d.val * 2097152 + a.val * 65536 + b.val * 2048
  | .shl d a b => 0x00000009 + d.val * 2097152 + a.val * 65536 + b.val * 2048
  | .shr d a b => 0x0000000A + d.val * 2097152 + a.val * 65536 + b.val * 2048
  | .sar d a b => 0x0000000B + d.val * 2097152 + a.val * 65536 + b.val * 2048
  | .rotl d a b => 0x0000000C + d.val * 2097152 + a.val * 65536 + b.val * 2048
  | .min d a b => 0x0000000D + d.val * 2097152 + a.val * 65536 + b.val * 2048
  | .max d a b => 0x0000000E + d.val * 2097152 + a.val * 65536 + b.val * 2048
  | .minn d a b => 0x0000000F + d.val * 2097152 + a.val * 65536 + b.val * 2048
  | .maxn d a b => 0x00000010 + d.val * 2097152 + a.val * 65536 + b.val * 2048
  | .sextB d a => 0x00000011 + d.val * 2097152 + a.val * 65536
  | .sextH d a => 0x00000012 + d.val * 2097152 + a.val * 65536
  | .sextW d a => 0x00000013 + d.val * 2097152 + a.val * 65536
  | .zextB d a => 0x00000014 + d.val * 2097152 + a.val * 65536
  | .zextH d a => 0x00000015 + d.val * 2097152 + a.val * 65536
  | .zextW d a => 0x00000016 + d.val * 2097152 + a.val * 65536
  | .addi d a im => 0x04000000 + d.val * 2097152 + a.val * 65536 + im.toNat
  | .andi d a im => 0x08000000 + d.val * 2097152 + a.val * 65536 + im.toNat
  | .ori d a im => 0x08004000 + d.val * 2097152 + a.val * 65536 + im.toNat
  | .xori d a im => 0x08008000 + d.val * 2097152 + a.val * 65536 + im.toNat
  | .shli d a n => 0x0C000000 + d.val * 2097152 + a.val * 65536 + n.toNat
  | .shri d a n => 0x0C000040 + d.val * 2097152 + a.val * 65536 + n.toNat
  | .sari d a n => 0x0C000080 + d.val * 2097152 + a.val * 65536 + n.toNat
  | .rotli d a n => 0x0C0000C0 + d.val * 2097152 + a.val * 65536 + n.toNat
  | .movi d h im => 0x10000000 + d.val * 2097152 + h.val * 524288 + im.toNat
  | .movk d h im => 0x10040000 + d.val * 2097152 + h.val * 524288 + im.toNat
  | .cmpeq pd a b => 0x14000000 + pd.val * 8388608 + a.val * 65536 + b.val * 2048
  | .cmpne pd a b => 0x14000001 + pd.val * 8388608 + a.val * 65536 + b.val * 2048
  | .cmplt pd a b => 0x14000002 + pd.val * 8388608 + a.val * 65536 + b.val * 2048
  | .cmple pd a b => 0x14000003 + pd.val * 8388608 + a.val * 65536 + b.val * 2048
  | .cmpltn pd a b => 0x14000004 + pd.val * 8388608 + a.val * 65536 + b.val * 2048
  | .cmplen pd a b => 0x14000005 + pd.val * 8388608 + a.val * 65536 + b.val * 2048
  | .cmpeqi pd a im => 0x18000000 + pd.val * 8388608 + a.val * 65536 + im.toNat
  | .cmpnei pd a im => 0x18200000 + pd.val * 8388608 + a.val * 65536 + im.toNat
  | .cmplti pd a im => 0x18400000 + pd.val * 8388608 + a.val * 65536 + im.toNat
  | .cmpltni pd a im => 0x18600000 + pd.val * 8388608 + a.val * 65536 + im.toNat
  | .pand d a b => 0x1C000000 + d.val * 8388608 + a.val * 262144 + b.val * 8192
  | .por d a b => 0x1C000001 + d.val * 8388608 + a.val * 262144 + b.val * 8192
  | .pxor d a b => 0x1C000002 + d.val * 8388608 + a.val * 262144 + b.val * 8192
  | .pandn d a b => 0x1C000003 + d.val * 8388608 + a.val * 262144 + b.val * 8192
  | .psetFalse d => 0x1C000004 + d.val * 8388608
  | .psetTrue d => 0x1C000005 + d.val * 8388608
  | .pmovPred d a => 0x1C000006 + d.val * 8388608 + a.val * 262144
  | .pmovFromReg d a => 0x1C000007 + d.val * 8388608 + a.val * 65536
  | .sel d a b k => 0x1C000008 + d.val * 2097152 + a.val * 65536 + b.val * 2048 + k.val
  | .pmovToReg d a => 0x1C000010 + d.val * 2097152 + a.val * 262144
  | .fadd d a b f m => 0x20000000 + d.val * 2097152 + a.val * 65536 + b.val * 2048 + f.toNat * 1024 + m.val * 128
  | .fsub d a b f m => 0x20000001 + d.val * 2097152 + a.val * 65536 + b.val * 2048 + f.toNat * 1024 + m.val * 128
  | .fmul d a b f m => 0x20000002 + d.val * 2097152 + a.val * 65536 + b.val * 2048 + f.toNat * 1024 + m.val * 128
  | .ffma d a b f m => 0x20000003 + d.val * 2097152 + a.val * 65536 + b.val * 2048 + f.toNat * 1024 + m.val * 128
  | .ffms d a b f m => 0x20000004 + d.val * 2097152 + a.val * 65536 + b.val * 2048 + f.toNat * 1024 + m.val * 128
  | .fdiv d a b f m => 0x20000005 + d.val * 2097152 + a.val * 65536 + b.val * 2048 + f.toNat * 1024 + m.val * 128
  | .fsqrt d a f m => 0x20000006 + d.val * 2097152 + a.val * 65536 + f.toNat * 1024 + m.val * 128
  | .fmin d a b f => 0x20000007 + d.val * 2097152 + a.val * 65536 + b.val * 2048 + f.toNat * 1024
  | .fmax d a b f => 0x20000008 + d.val * 2097152 + a.val * 65536 + b.val * 2048 + f.toNat * 1024
  | .fcmpeq pd a b f => 0x20000009 + pd.val * 8388608 + a.val * 65536 + b.val * 2048 + f.toNat * 1024
  | .fcmplt pd a b f => 0x2000000A + pd.val * 8388608 + a.val * 65536 + b.val * 2048 + f.toNat * 1024
  | .fcmple pd a b f => 0x2000000B + pd.val * 8388608 + a.val * 65536 + b.val * 2048 + f.toNat * 1024
  | .fcmpun pd a b f => 0x2000000C + pd.val * 8388608 + a.val * 65536 + b.val * 2048 + f.toNat * 1024
  | .fclass d a f => 0x2000000D + d.val * 2097152 + a.val * 65536 + f.toNat * 1024
  | .fcvtFloat d a f m => 0x20000010 + d.val * 2097152 + a.val * 65536 + f.toNat * 1024 + m.val * 128
  | .fcvtToI64 d a f m => 0x20000011 + d.val * 2097152 + a.val * 65536 + f.toNat * 1024 + m.val * 128
  | .fcvtToN64 d a f m => 0x20000012 + d.val * 2097152 + a.val * 65536 + f.toNat * 1024 + m.val * 128
  | .fcvtToI32 d a f m => 0x20000013 + d.val * 2097152 + a.val * 65536 + f.toNat * 1024 + m.val * 128
  | .fcvtToN32 d a f m => 0x20000014 + d.val * 2097152 + a.val * 65536 + f.toNat * 1024 + m.val * 128
  | .fcvtFromI64 d a f m => 0x20000018 + d.val * 2097152 + a.val * 65536 + f.toNat * 1024 + m.val * 128
  | .fcvtFromN64 d a f m => 0x20000019 + d.val * 2097152 + a.val * 65536 + f.toNat * 1024 + m.val * 128
  | .fcvtFromI32 d a f m => 0x2000001A + d.val * 2097152 + a.val * 65536 + f.toNat * 1024 + m.val * 128
  | .fcvtFromN32 d a f m => 0x2000001B + d.val * 2097152 + a.val * 65536 + f.toNat * 1024 + m.val * 128
  | .clz d a => 0x24000000 + d.val * 2097152 + a.val * 65536
  | .ctz d a => 0x24000001 + d.val * 2097152 + a.val * 65536
  | .popc d a => 0x24000002 + d.val * 2097152 + a.val * 65536
  | .brev d a => 0x24000003 + d.val * 2097152 + a.val * 65536
  | .fns d a b => 0x24000004 + d.val * 2097152 + a.val * 65536 + b.val * 2048
  | .bfx d a b => 0x24000005 + d.val * 2097152 + a.val * 65536 + b.val * 2048
  | .bfxn d a b => 0x24000006 + d.val * 2097152 + a.val * 65536 + b.val * 2048
  | .bfi d a b => 0x24000007 + d.val * 2097152 + a.val * 65536 + b.val * 2048
  | .fshl d a b => 0x24000008 + d.val * 2097152 + a.val * 65536 + b.val * 2048
  | .fshr d a b => 0x24000009 + d.val * 2097152 + a.val * 65536 + b.val * 2048
  | .mul d a b => 0x28000000 + d.val * 2097152 + a.val * 65536 + b.val * 2048
  | .mulh d a b => 0x28000001 + d.val * 2097152 + a.val * 65536 + b.val * 2048
  | .mulhn d a b => 0x28000002 + d.val * 2097152 + a.val * 65536 + b.val * 2048
  | .div d a b => 0x28000003 + d.val * 2097152 + a.val * 65536 + b.val * 2048
  | .divn d a b => 0x28000004 + d.val * 2097152 + a.val * 65536 + b.val * 2048
  | .rem d a b => 0x28000005 + d.val * 2097152 + a.val * 65536 + b.val * 2048
  | .remn d a b => 0x28000006 + d.val * 2097152 + a.val * 65536 + b.val * 2048
  | .ldB v b im o => 0x2C000000 + v.val * 131072 + b.val * 4096 + im.val * 256 + o.toNat
  | .ldBn v b im o => 0x2C000080 + v.val * 131072 + b.val * 4096 + im.val * 256 + o.toNat
  | .ldH v b im o => 0x2C000400 + v.val * 131072 + b.val * 4096 + im.val * 256 + o.toNat
  | .ldHn v b im o => 0x2C000480 + v.val * 131072 + b.val * 4096 + im.val * 256 + o.toNat
  | .ldW v b im o => 0x2C000800 + v.val * 131072 + b.val * 4096 + im.val * 256 + o.toNat
  | .ldWn v b im o => 0x2C000880 + v.val * 131072 + b.val * 4096 + im.val * 256 + o.toNat
  | .ldD v b im o => 0x2C000C00 + v.val * 131072 + b.val * 4096 + im.val * 256 + o.toNat
  | .stB v b im o => 0x30000000 + v.val * 131072 + b.val * 4096 + im.val * 256 + o.toNat
  | .stH v b im o => 0x30000400 + v.val * 131072 + b.val * 4096 + im.val * 256 + o.toNat
  | .stW v b im o => 0x30000800 + v.val * 131072 + b.val * 4096 + im.val * 256 + o.toNat
  | .stD v b im o => 0x30000C00 + v.val * 131072 + b.val * 4096 + im.val * 256 + o.toNat
  | .stq q b im o => 0x30000C80 + q.val * 131072 + b.val * 4096 + im.val * 256 + o.toNat
  | .shw v e r f => 0x34000000 + v.val * 131072 + e.val * 1024 + r.val * 256 + f.toNat * 16
  | .shg v e r f h => 0x34001000 + v.val * 131072 + e.val * 1024 + r.val * 256 + f.toNat * 16 + h.toNat * 8
  | .ctlr v c => 0x34002000 + v.val * 131072 + c.toNat
  | .ctlrQ q c => 0x34003000 + q.val * 131072 + c.toNat
  | .ctlw v c => 0x34004000 + v.val * 131072 + c.toNat
  | .br d => 0x38000000 + d.toNat
  | .brcNz c d => 0x38100000 + c.val * 32768 + d.toNat
  | .brcZ c d => 0x38104000 + c.val * 32768 + d.toNat
  | .call d => 0x38200000 + d.toNat
  | .jmp a => 0x3C000000 + a.val * 32768
  | .loop l c e => 0x3C100000 + l.val * 131072 + c.val * 4096 + e.toNat
  | .loopi l k e => 0x3C200000 + l.val * 131072 + k.toNat * 256 + e.toNat
  | .lstr l k e r g => 0x3C300000 + l.val * 131072 + k.val * 32768 + e.val * 8192 + r.val * 2048 + g.val * 64
  | .trap im => 0x40008000 + im.toNat
  | .svc im => 0x40010000 + im.toNat
  | .lbrk l => 0x40038000 + l.val * 4096
  | .waittAbs a => 0x40180000 + a.val * 16384
  | .waittRel n => 0x40100000 + n.toNat
  | .waitp k => 0x40200000 + k.val * 131072
  | .bar l => 0x40300000 + l.val * 32768
  | .pfx sc opv op fst lst lv => 0x7C000000 + sc.val * 8388608 + opv.toNat * 4194304 + op.val * 524288 + fst.toNat * 2048 + lst.toNat * 8 + lv.val
  | .vadd x => 0x44000000 + x.val
  | .vaddS a x => 0x44080000 + a.val * 256 + x.val
  | .vsub x => 0x44002000 + x.val
  | .vsubS a x => 0x44082000 + a.val * 256 + x.val
  | .vmul x => 0x44004000 + x.val
  | .vmulS a x => 0x44084000 + a.val * 256 + x.val
  | .vmulhS a => 0x44086000 + a.val * 256
  | .vfma x => 0x44008000 + x.val
  | .vfmaS a x => 0x44088000 + a.val * 256 + x.val
  | .vfms x => 0x4400A000 + x.val
  | .vfmsS a x => 0x4408A000 + a.val * 256 + x.val
  | .vminS a => 0x4408C000 + a.val * 256
  | .vmaxS a => 0x4408E000 + a.val * 256
  | .vabs x => 0x44010000 + x.val
  | .vneg x => 0x44012000 + x.val
  | .vdiv x => 0x44014000 + x.val
  | .vdivS a x => 0x44094000 + a.val * 256 + x.val
  | .vsqrt x => 0x44016000 + x.val
  | .vfill a => 0x4409A000 + a.val * 256
  | .vandS a => 0x48080000 + a.val * 256
  | .vorS a => 0x48082000 + a.val * 256
  | .vxorS a => 0x48084000 + a.val * 256
  | .vandnS a => 0x48086000 + a.val * 256
  | .vshlS a => 0x4808A000 + a.val * 256
  | .vshrS a => 0x4808C000 + a.val * 256
  | .vsarS a => 0x4808E000 + a.val * 256
  | .vcmp r => 0x48010000 + r.val
  | .vcmpS a r => 0x48090000 + a.val * 256 + r.val
  | .vselS a => 0x48092000 + a.val * 256
  | .vfnsS a => 0x4C086000 + a.val * 256
  | .vbfxS a => 0x4C088000 + a.val * 256
  | .vbfiS a => 0x4C08A000 + a.val * 256
  | .vfshLS a => 0x4C08C000 + a.val * 256
  | .vfshRS a => 0x4C08C001 + a.val * 256
  | .vcvt x => 0x50000000 + x.val
  | .vsplit a => 0x50010000 + a.val * 256
  | .vredsumAll x => 0x54000000 + x.val
  | .vredsumRow x => 0x54002000 + x.val
  | .vredsumCol x => 0x54004000 + x.val
  | .vargmaxAll a => 0x54018000 + a.val * 256
  | .vargmaxRow a => 0x5401A000 + a.val * 256
  | .vargmaxCol a => 0x5401C000 + a.val * 256
  | .vscan x => 0x54020000 + x.val
  | .vpush a => 0x58000000 + a.val * 256
  | .vpop a b => 0x58002000 + a.val * 256 + b.val * 8
  | .vqcnt a b => 0x58004000 + a.val * 256 + b.val * 8
  | .vchain a c => 0x58010000 + a.val * 256 + c.val
  | .accn a x => 0x5C010000 + a.val * 256 + x.val
  | .accx a b => 0x5C012000 + a.val * 256 + b.val * 8
  | .accst a => 0x5C020000 + a.val * 256
  | .accld a => 0x5C022000 + a.val * 256
  | .cpg a k => 0x60000000 + a.val * 256 + k.val
  | .cpgX a k => 0x60002000 + a.val * 256 + k.val
  | .cps a k => 0x60004000 + a.val * 256 + k.val
  | .cpsX a k => 0x60006000 + a.val * 256 + k.val
  | .cpy a b k => 0x60008000 + a.val * 256 + b.val * 8 + k.val
  | .wmap a k => 0x60010000 + a.val * 256 + k.val
  | .wfill g k => 0x60012000 + g.val * 256 + k.val
  | .wback g k => 0x60014000 + g.val * 256 + k.val
  | .wunmap g k => 0x60016000 + g.val * 256 + k.val
  | .probeR a b => 0x60018000 + a.val * 256 + b.val * 8
  | .probeW a b => 0x60018001 + a.val * 256 + b.val * 8
  | .atomAdd a k => 0x64000000 + a.val * 256 + k.val
  | .atomMin a k => 0x64002000 + a.val * 256 + k.val
  | .atomMax a k => 0x64004000 + a.val * 256 + k.val
  | .atomAnd a k => 0x64006000 + a.val * 256 + k.val
  | .atomOr a k => 0x64008000 + a.val * 256 + k.val
  | .atomXor a k => 0x6400A000 + a.val * 256 + k.val
  | .atomXchg a k => 0x6400C000 + a.val * 256 + k.val
  | .atomCas a k => 0x6400E000 + a.val * 256 + k.val
  | .atomAddNr a k => 0x64010000 + a.val * 256 + k.val
  | .atomMinNr a k => 0x64012000 + a.val * 256 + k.val
  | .atomMaxNr a k => 0x64014000 + a.val * 256 + k.val
  | .atomAndNr a k => 0x64016000 + a.val * 256 + k.val
  | .atomOrNr a k => 0x64018000 + a.val * 256 + k.val
  | .atomXorNr a k => 0x6401A000 + a.val * 256 + k.val
  | .atomXchgNr a k => 0x6401C000 + a.val * 256 + k.val
  | .atomCasNr a k => 0x6401E000 + a.val * 256 + k.val
  | .mcast k => 0x64020000 + k.val
  | .collSum a k => 0x64030000 + a.val * 256 + k.val
  | .collMax a k => 0x64032000 + a.val * 256 + k.val
  | .collArgmax a k => 0x64034000 + a.val * 256 + k.val
  | .collBcast a k => 0x64036000 + a.val * 256 + k.val
  | .qlnch a b => 0x64040000 + a.val * 256 + b.val * 8
  | .wdepth a b => 0x68002000 + a.val * 256 + b.val * 8
  | .wrbk a b => 0x68004000 + a.val * 256 + b.val * 8
  | .wtake a b => 0x68010000 + a.val * 256 + b.val * 8
  | .wjudge a b => 0x68012000 + a.val * 256 + b.val * 8
  | .wfinal a b => 0x68014000 + a.val * 256 + b.val * 8
  | .wstat a b => 0x68016000 + a.val * 256 + b.val * 8
  | .ftset a => 0x6C000000 + a.val * 256
  | .scld a b h t => 0x6C002000 + a.val * 256 + b.val * 8 + h.toNat * 2 + t.toNat
  | .chset a b j => 0x6C004000 + a.val * 256 + b.val * 8 + j.val
  | .decl a => 0x6C006000 + a.val * 256
  | .pwra a => 0x6C008000 + a.val * 256
  | .qinit a b => 0x6C00C000 + a.val * 256 + b.val * 8
  | .lnputCw a b l => 0x70000000 + a.val * 256 + b.val * 8 + l.val
  | .lnputAw a b l => 0x70002000 + a.val * 256 + b.val * 8 + l.val
  | .lntapCw a b l => 0x70004000 + a.val * 256 + b.val * 8 + l.val
  | .lntapAw a b l => 0x70006000 + a.val * 256 + b.val * 8 + l.val
  | .nop => 0x40000000
  | .rte => 0x40018000
  | .endTask => 0x40020000
  | .yld => 0x40028000
  | .halt => 0x40030000
  | .phaseP => 0x40350000
  | .phaseA => 0x40360000
  | .phasePa => 0x40370000
  | .vmulh => 0x44006000
  | .vmin => 0x4400C000
  | .vmax => 0x4400E000
  | .vmov => 0x44018000
  | .vand => 0x48000000
  | .vor => 0x48002000
  | .vxor => 0x48004000
  | .vandn => 0x48006000
  | .vnot => 0x48008000
  | .vshl => 0x4800A000
  | .vshr => 0x4800C000
  | .vsar => 0x4800E000
  | .vsel => 0x48012000
  | .vpopc => 0x4C000000
  | .vclz => 0x4C002000
  | .vbrev => 0x4C004000
  | .vfns => 0x4C006000
  | .vbfx => 0x4C008000
  | .vbfi => 0x4C00A000
  | .vfshL => 0x4C00C000
  | .vfshR => 0x4C00C001
  | .vexp2 => 0x50002000
  | .vlog2 => 0x50004000
  | .vrcp => 0x50006000
  | .vrsqrt => 0x50008000
  | .vredmaxAll => 0x54008000
  | .vredmaxRow => 0x5400A000
  | .vredmaxCol => 0x5400C000
  | .vredminAll => 0x54010000
  | .vredminRow => 0x54012000
  | .vredminCol => 0x54014000
  | .vgath => 0x54028000
  | .vscat => 0x5402A000
  | .vtran => 0x54030000
  | .mma => 0x5C000000
  | .mmaZ => 0x5C002000
  | .mmas => 0x5C004000
  | .mmasZ => 0x5C006000
  | .accz => 0x5C014000
  | .wprop => 0x68000000
  | .pwrr => 0x6C00A000
  | .iterationBoundary => 0
  | .resultLatchCommit => 0
  | .commandStart _ => 0
  | .unitWriteCommit _ => 0
  | .takingATrap => 0
  | .ringResume => 0
  | .trailForcedIssue _ => 0
  | .waittExpiry => 0
  | .copyCompletion _ _ => 0
  | .promiseMissed _ => 0
  | .keepWaitingNotice _ _ => 0
  | .fillArrival _ => 0
  | .atomAtHome _ => 0
  | .publicationCompletion _ => 0
  | .deliveryLanding _ => 0
  | .barRelease _ => 0
  | .collCombine _ => 0
  | .vpushStallRelease _ => 0
  | .qlnchQueueRoom _ => 0
  | .missedOperandRelease _ => 0
  | .taskRetirement _ => 0
  | .launchCompletion _ => 0
  | .gangAdmission => 0
  | .queueAgeing _ => 0
  | .routerTableSwitch => 0
  | .proposalRecordIntake _ _ => 0
  | .wtakeRelease _ => 0
  | .wdepthRelease _ => 0
  | .wfinalPerformed _ => 0
  | .logitFault _ => 0
  | .timerExpiry _ => 0
  | .sliceExpiry _ => 0
  | .preemptLate _ => 0
  | .pwraGrant _ => 0
  | .staticChargeTick _ => 0
  | .thermalSample _ => 0
  | .opSwitchQuiesce _ => 0
  | .opSwitchSettled _ => 0
  | .hangWatchdogExpiry _ => 0
  | .waitWatchdogExpiry _ => 0
  | .selfTestEnd _ _ => 0
  | .svcSetEnergy _ => 0
  | .svcClearEnergyFlag _ => 0
  | .partitionSwapOut _ => 0
  | .partitionSwapIn _ => 0
  | .ctxcmdResume _ => 0
  | .ctxcmdEndTask _ => 0
  | .ctxcmdPark _ => 0
  | .fdatRead _ => 0
  | .fdatWrite _ => 0
  | .tmrWrite _ => 0
  | .lcntWrite _ _ => 0
  | .islctlWrite _ _ => 0
  | .registerWrite _ _ => 0
  | .vctDatagramDiscard _ => 0
  | .openSession _ => 0
  | .closeSession _ => 0
  | .ack _ _ => 0
  | .retransmit _ _ => 0
  | .launch _ _ _ _ => 0
  | .hostcopyIn _ _ _ _ => 0
  | .hostcopyOut _ _ _ _ => 0
  | .signalTask _ _ _ _ _ => 0
  | .signalOpenSlot _ _ _ _ => 0
  | .signalCancel _ _ _ _ => 0
  | .signalRelease _ _ _ _ => 0
  | .waitval _ _ _ _ _ _ _ => 0
  | .waitvalPoll _ _ => 0
  | .queryManagement _ _ _ _ _ => 0
  | .querySlotRecord _ _ _ _ _ => 0
  | .queryTrapFrame _ _ _ _ _ => 0
  | .queryQueueState _ _ _ _ _ => 0
  | .querySlotTables _ _ _ _ _ => 0
  | .queryErrorLog _ _ _ _ _ => 0
  | .queryAttestation _ _ _ _ _ => 0
  | .pageansMapped _ _ _ => 0
  | .pageansFailure _ _ _ => 0
  | .pageEntryWrite _ _ _ _ _ => 0
  | .segmentEntryWrite _ _ _ _ _ _ => 0
  | .pageMigrate _ _ _ _ _ => 0
  | .mapCacheInvalidate _ _ _ _ => 0
  | .freeFrameAppend _ _ _ _ => 0
  | .segmentWordsWrite _ _ _ _ _ _ => 0
  | .migrateTrigger _ _ => 0
  | .migrationCopy _ => 0
  | .pieceAtHome _ => 0
  | .farPieceRefusal _ => 0
  | .boot _ _ _ _ _ => 0
  | .targetRefusal _ => 0
  | .linkError _ _ _ => 0
  | .thresholdTableWrite _ _ => 0

/-- R148 to R154: the word of a syllable, its shared fields beside its operation's bits. -/
def encode (y : Syl) : Nat :=
  opBits y.op + b2n y.stop * 2147483648 + y.p.val * 8388608 + b2n y.ng * 4194304 + b2n y.sw * 2097152 +
    b2n y.tm * 1048576 + y.b.val * 8

/-- R5, R137: the 32-bit word four bytes hold, least significant first. -/
def wordOfBytes : List (BitVec 8) → Nat
  | [] => 0
  | b :: bs => b.toNat + 256 * wordOfBytes bs

/-- The syllable at the head of a byte string and the bytes after it, or the reason it is none (99: fewer than four
bytes). Total on any bytes. -/
def decodeBytes (bs : List (BitVec 8)) : Except Nat (Syl × List (BitVec 8)) :=
  if bs.length < 4 then .error 99
  else (decodeWord (wordOfBytes (bs.take 4))).map (fun i => (i, bs.drop 4))

/-- The little-endian bytes of a 32-bit word (R5). -/
def bytesOfWord (w : Nat) : List (BitVec 8) :=
  [BitVec.ofNat 8 w, BitVec.ofNat 8 (w / 256), BitVec.ofNat 8 (w / 65536), BitVec.ofNat 8 (w / 16777216)]

/-- The table's reading of a row: the word `w` laid out as memory holds it and given to the decoder. -/
def decodeTableWord (nbits w : Nat) : Option Instr :=
  if nbits = 0 then none
  else match decodeBytes (bytesOfWord w) with
    | .ok (y, _) => some y.op
    | .error _ => none

end Sys2Proof
end

