-- ==== Sys2Proof/Machine/State.lean ====
section
/-! DEFINITION. The state of the part as plain data: contexts (R13, R14), engines and their commands (R338, R372),
scratchpads, SRAM blocks, Heel and HBM as one canonical list of bytes, check codes as syndromes, phases and home orders
(R116 to R126), launches, work queues and sessions (R387 to R399), the Welt (R296 to R301), the map unit (R402 to R412),
power, heat and errors (R414 to R446); the two ways a step can stop; and the state right after reset. -/

namespace Sys2Proof.Machine

/-- A step that stops with a fault. No rule of the spec stops the part: its faults are traps that a context takes, and
an input that names nothing is discarded as its rule says. -/
inductive Fault where
  /-- Raised by no step: every step answers a next state. Safe: nothing is claimed of it. -/
  | badState (what : String)
  deriving DecidableEq, Repr

/-- An instruction that is turned away. -/
inductive Refusal where
  /-- Raised by exec for an instruction that has no meaning yet. Safe: nothing is claimed of it. -/
  | notModelled (mnemonic : String)
  deriving DecidableEq, Repr

/-- What a step answers. -/
abbrev Outcome (σ : Type) := Host.Outcome σ Fault Refusal

/-- R5, R80, R108, R402, R415: bytes by key, strictly rising, no zero byte listed (R441 step 6 writes zeros). -/
abbrev Memory := List Host.Cell

/-- R26: a shape register. -/
structure Shape where
  base : BitVec 24
  pitch : BitVec 24
  rows : BitVec 16
  cols : BitVec 16
  off : BitVec 16
  coff : BitVec 16
  fmt : BitVec 5
  t : Bool
  edge : BitVec 2
  acc : BitVec 2
  deriving DecidableEq, Repr

/-- R26: every field zero. -/
def Shape.zero : Shape := ⟨0, 0, 0, 0, 0, 0, 0, false, 0, 0⟩

/-- R196: a stride entry. -/
structure Stride where
  en : Bool
  eng : Fin 4
  reg : Fin 4
  by_ : BitVec 24
  deriving DecidableEq, Repr

/-- R202: stride entries with EN cleared. -/
def clearStrides (v : Vector Stride 4) : Vector Stride 4 := Vector.ofFn fun k => { v[k] with en := false }

/-- R196: one level of the loop stack; `hs` and `he` are a held LSTART and LEND. -/
structure Loop where
  active : Bool
  cnt : BitVec 48
  idx : BitVec 48
  start : Word
  stop : Word
  hs : Option Word
  he : Option Word
  strd : Vector Stride 4
  deriving DecidableEq, Repr

/-- R174: a level at task start. -/
def Loop.zero : Loop := ⟨false, 0, 0, 0, 0, none, none, Vector.replicate 4 ⟨false, 0, 0, 0⟩⟩

/-- R365, R366: a cause with its info words. -/
structure Trap where
  cause : Nat
  i0 : Word
  i1 : Word
  i2 : Word
  i3 : Word
  deriving DecidableEq, Repr

/-- R371: what a latch writes. -/
inductive Dest where
  | g (n : Fin 32)
  | p (n : Fin 8)
  | pm (n : Fin 8)
  | q (n : Fin 4)
  deriving DecidableEq, Repr

/-- R191: a load whose read is still to come. -/
structure LoadInfo where
  addr : Nat
  size : Nat
  signed : Bool
  deriving DecidableEq, Repr

/-- R336: a result latch. `syn` is its carried code xor the code of its value (R91); `bad` is a trap that its commit
raises and `fp` the flags, tininess and signalling mark it is judged by again (R65); `cmd` is the copy command that a
promise latch registers (R267); `slot` is the slot that R86 reports; `frm` is the Heel address from which it was
reloaded and `valid` is clear in a record that failed (R384). -/
structure Latch where
  due : Nat
  issue : Nat
  pos : Nat
  pc : Word
  dest : Dest
  val : Word
  syn : BitVec 16
  flags : BitVec 6
  bad : Option Trap
  ld : Option LoadInfo
  cmd : Option Nat
  slot : Nat
  fp : Option (BitVec 6 × Bool × Bool)
  frm : Option Nat
  valid : Bool
  deriving DecidableEq, Repr

/-- R456 step 2: a write that is not a latch. -/
inductive DAct where
  | ctl (c : BitVec 12) (v : Word)
  | shadow (e r : Fin 4) (f : BitVec 4) (v : Word)
  | stride (l : Fin 8) (k : Fin 4) (s : Stride)
  | ft (i : Fin 16) (v : BitVec 32)
  | st (t h : Bool) (lo hi : Word)
  | cht (j : Fin 4) (lo hi : Word)
  | dset (e : Fin 4) (ws : List Word)
  | store (addr n : Nat) (v : Word)
  | qinit (addr : Nat) (v : Word)
  | pwrlvl (v : Nat)
  /-- R91, R192: a mismatch that surfaces at this boundary. -/
  | raise (t : Trap)
  deriving DecidableEq, Repr

/-- R456: a write due at a task cycle. -/
structure DWrite where
  due : Nat
  issue : Nat
  pos : Nat
  pc : Word
  act : DAct
  deriving DecidableEq, Repr

/-- R220 to R223, R239: element operations of V. -/
inductive EOp where
  | add | sub | mul | mulh | fma | fms | min | max | abs | neg | div | sqrt | mov | fill
  | and | or | xor | andn | not | shl | shr | sar | cmp (r : Nat) | sel
  | popc | clz | brev | fns | bfx | bfi | fshl | fshr
  | cvt | exp2 | log2 | rcp | rsqrt | tran
  deriving DecidableEq, Repr

/-- R227: the group of a reduction. -/
inductive Axis where
  | all | row | col
  deriving DecidableEq, Repr

/-- R239: a chain word, decoded. -/
structure ChainOp where
  op : EOp
  src : Nat
  aux : Nat
  deriving DecidableEq, Repr

/-- What an engine command does: V (R211 to R240), X (R241 to R259), C (R261 to R287). `sc` marks a .s form. -/
inductive CmdOp where
  | elem (op : EOp) (sc : Bool)
  | split
  | redSum (ax : Axis)
  | redMax (ax : Axis)
  | redMin (ax : Axis)
  | argmax (ax : Axis)
  | popcBit
  | scan
  | gath
  | scat
  | push
  | pop
  | qcnt
  | chain (ops : List ChainOp)
  | mma (z : Bool)
  | mmas (z : Bool)
  | accn
  | accx
  | accz
  | accst
  | accld
  | cpg (x : Bool)
  | cps (x : Bool)
  | cpy
  | wmap
  | wfill
  | wback
  | wunmap
  | probe (w : Bool)
  | atom (op : Fin 8) (nr : Bool)
  | mcast
  | coll (op : Fin 4)
  | qlnch
  | wprop
  | wdepth
  | wrbk
  | wtake
  | wjudge
  | wfinal
  | wstat
  deriving DecidableEq, Repr

/-- R372: the state of a command record. -/
inductive CmdState where
  | queued | running | trapped | done
  deriving DecidableEq, Repr

/-- R338, R344, R372: an engine command. `base` is the task cycle from which unit offsets count (R340), `rp` the first
unit whose read has not begun, `buf` what the unit or group at hand has read so far, `note` a cause, with its flags, that
waits for the end of its unit's reads (R37, R251), `reqs` a count of what it
requests, or one more than the elements that a VPOP takes (R238) or than the place in the order of requests of an ATOM that
is to be sent again (R115), `paid` the units charged at their reads, with the power window of
the charge (R421, R424), `began` its first start
(R372), `stamps` and `own` what its context had acquired and published at its issue (R122), `prom` the promise of R267, and
`left` one while requests remain to be made plus the number of pieces that are not yet complete. -/
structure Cmd where
  id : Nat
  op : CmdOp
  sr : Vector Shape 4
  ga : Word
  gb : Word
  aux : Nat
  cmdw : Word
  pos : Nat
  pc : Word
  issue : Nat
  nominal : Nat
  base : Nat
  state : CmdState
  rp : Nat
  buf : List (List Nat)
  note : Option (Nat × Trap × Nat)
  paid : List (Nat × Nat × Nat)
  began : Option Nat
  fen : BitVec 6
  mode : Nat
  st : List (BitVec 16)
  dst : Fin 32
  scope : Nat
  prom : Nat
  left : Nat
  reqs : Nat
  stamps : List Nat
  own : Nat
  phase : Nat
  regs : List (Fin 8)
  freed : Bool
  deriving DecidableEq, Repr

/-- R338: what a performed unit has still to write: elements of a tile as (row, column, bits); those of several tiles
written together, of which the last that names a byte writes it (VSPLIT); cells of a window row
(tile, row and first column, 48-bit values); a whole accumulator row with its codes (R259); a Heel row of a tile image;
a scalar result; the sums of a chunk of VSCAN (row, first column, elements); the elements of a chunk of VPUSH; the HEAD
of VPOP; the additions of a k-group from its captured operands. -/
inductive UAct where
  | elems (h : Shape) (l : List (Nat × Nat × Nat))
  | tiles (l : List (Shape × List (Nat × Nat × Nat)))
  | cells (tile row col : Nat) (vs : List Nat)
  | accRow (tile row : Nat) (vs : List Nat) (codes : List Nat)
  | heel (row : Nat) (vs : List Nat) (codes : List Nat)
  | gb (d : Fin 32) (v : Word)
  | scan (row lo : Nat) (xs : List Nat)
  | push (es : List Nat)
  | head (n : Nat)
  | group (buf : List (List Nat))
  deriving DecidableEq, Repr

/-- R338: a write of a unit at a task cycle, with the flags and the energy that go with its commit (R64, R424). -/
structure UWrite where
  eng : Fin 3
  cmd : Nat
  unit : Nat
  due : Nat
  opnd : Nat
  act : UAct
  flags : Nat
  charge : Nat
  deriving DecidableEq, Repr

/-- R83, R84, R289: an access of the M slot or of a Q syllable in the task cycle at hand: its slot number (R86), its
syllable, the operand and the bytes; of QINIT's write, which is made at the boundary before (R456), what stood before it:
the bytes, their syndrome and the contexts that held a claim. -/
structure Touch where
  slot : Nat
  pos : Nat
  pc : Word
  opnd : Nat
  addr : Nat
  len : Nat
  undo : Option (List Byte × BitVec 16 × List Nat)
  deriving DecidableEq, Repr

/-- R370: a pending wait. `stall` and `hold` are WAITK 6: in a stall (R98, R268) the bundle of the task cycle has issued
and its engine accesses are still to be made; in a hold (R346, R352, R358, R294, R445) nothing of the task cycle has
been done; `cycle` is a stall whose cause has cleared. A WAITP keeps the address of its bundle. -/
inductive Wait where
  | none
  | waitt (target : Nat)
  | waitp (n : Fin 8) (target : Nat) (cmds : List Nat) (grace : Nat) (pc : Nat) (ticks : Nat)
  | bar (level scope m : Nat)
  | phaseA (scope : Nat) (upto : Nat)
  | probe (va : Word) (cmd : Nat)
  | stall (k : Nat)
  | hold (k : Nat)
  | cycle
  | ending
  deriving DecidableEq, Repr

/-- R199, R204: a branch on its way through its delay bundles; an RTE keeps the address of its bundle (R366). -/
inductive Pend where
  | none
  | branch (target : Word)
  | lbrk (l : Fin 8)
  | rte (pc : Word)
  deriving DecidableEq, Repr

/-- R373, R375: what the sequencer and the engines keep of a trapped or parked context beside its frame (R368): `held`
tells which levels hold an LSTART and an LEND (R370), `after` a YLD or HALT whose boundary was taken by another event
(R210), `pc` and `next` where the sequencer stood and the first word of the bundle to come (R369), and `missed` what was
not taken of R367's item 4 and of the traps that arrive from outside (R278, R359). -/
structure Saved where
  latches : List Latch
  dws : List DWrite
  redo : List Latch
  order : List (Fin 8)
  wait : Wait
  grant : List Bool
  pc : Word
  next : Word
  fin : Option Word
  held : List (Bool × Bool)
  after : Nat
  missed : List (Nat × Nat × Trap × Nat)
  t : Nat
  cause : Trap
  deriving DecidableEq, Repr

/-- R15: the role of a context on its core. -/
inductive Role where
  | lead | trail | parked
  deriving DecidableEq, Repr

/-- What a context is doing: issuing its program, running its handler (R373), trapped and in the Cobbler's hands
(R377), stopped with the ring (R41), halted (R210), or gone. -/
inductive Status where
  | vacant | running | handler | trapped | ringStop | halted | retired
  deriving DecidableEq, Repr

/-- R395: the fields of a launch header. -/
structure Hdr where
  queue : Nat
  prio : Nat
  det : Bool
  filler : Bool
  upper : Bool
  tmen : Bool
  tag : Word
  seed : Word
  prog : Nat
  codelen : Nat
  imglen : Nat
  entry : Nat
  quota : Nat
  gbase : Nat
  ibound : Nat
  period : Nat
  pqcap : Nat
  logit : Option Nat
  engines : List Bool
  nf : Nat
  gang : Nat
  place : List Bool
  cyclic : Bool
  extents : List Nat
  widths : List Nat
  rect : List Nat
  cmask : List Bool
  cmva : Nat
  slots : Nat
  ft : List (BitVec 32)
  st : List (BitVec 16)
  profs : List (Nat × Nat)
  profg : List (Nat × Nat)
  result : List (Nat × Nat)
  deriving DecidableEq, Repr

/-- A header with every field zero. -/
def Hdr.zero : Hdr :=
  ⟨0, 0, false, false, false, false, 0, 0, 0, 0, 0, 0, 0, 0, 0, 0, 0, none, [false, false, false], 1, 0, [], false, [],
    [], [0, 0, 1, 1], [], 0, 0, List.replicate 16 0, List.replicate 32 0, [], [], []⟩

/-- R144, R147: the prefix of the bundle at issue: scope, FIRST and LAST masks and their level. -/
structure Pfx where
  scope : Nat
  fst : BitVec 8
  lst : BitVec 8
  lv : Fin 8
  deriving DecidableEq, Repr

/-- R147: a bundle without a prefix. -/
def Pfx.none : Pfx := ⟨0, 0, 0, 0⟩

/-- What the bundle at issue gives the syllable at issue: its position and word, the bundle's first word, the guard, SW,
TIMED and the start register, which S slot it takes; and whether it has trapped. -/
structure Issue where
  pos : Nat
  pc : Word
  word : BitVec 32
  p : Fin 8
  ng : Bool
  sw : Bool
  tm : Bool
  b : Fin 32
  sslot : Nat
  trapped : Bool
  deriving DecidableEq, Repr

/-- The attributes of a syllable that stands alone, without a prefix and with guard p0. -/
def Issue.alone : Issue := ⟨1, 0, 0, 0, false, false, false, 0, 0, false⟩

/-- R104: a window binding. -/
structure Win where
  idx : Fin 8
  base : Nat
  len : Nat
  va : Nat
  fromT : Nat
  deriving DecidableEq, Repr

/-- R13: registers and control state that a bundle can name (R159, R161). Codes are held as syndromes: the code stored
with a register xor the code of its value. -/
structure Regs where
  g : Vector Word 32
  gsyn : Vector (BitVec 16) 32
  p : Vector Bool 8
  pm : Vector (BitVec 48) 8
  q : Vector Word 4
  sh : Vector Shape 12
  sd : Vector Shape 12
  loops : Vector Loop 6
  order : List (Fin 8)
  ft : Vector (BitVec 32) 16
  st : Vector (BitVec 16) 32
  cht : Vector Word 8
  dset : Vector Word 18
  flg : BitVec 6
  fen : BitVec 6
  rmode : BitVec 3
  ftbase : BitVec 4
  ftlevel : BitVec 3
  grace : BitVec 32
  tvec : Word
  deriving DecidableEq, Repr

/-- R174: the registers at task start. -/
def Regs.zero : Regs :=
  ⟨Vector.replicate 32 0, Vector.replicate 32 0, Vector.replicate 8 false, Vector.replicate 8 0, Vector.replicate 4 0,
    Vector.replicate 12 Shape.zero, Vector.replicate 12 Shape.zero, Vector.replicate 6 Loop.zero, [],
    Vector.replicate 16 0, Vector.replicate 32 0, Vector.replicate 8 0, Vector.replicate 18 0,
    0, 0, 0, 0, 7, 100000, 0⟩

/-- R13, R14: a context. `owed` holds while the bundle of the task cycle has issued and the accesses of that task cycle
are still to be made (R98, R268, R291); `started` once it has taken a role and `begun` once its first bundle has issued
(R120, R376); `haltH` while it stands halted in its handler (R210); `powOver` is the draw of a closed power window that
exceeded its allowance (R421); `fileAt` tells where its accumulator file lies: 0 its engine, 1 the core's accumulator area,
2 its file slot (R416). -/
structure Ctx where
  cid : Nat
  src : Nat
  lid : Nat
  wid : Word
  core : Word
  unit : Nat
  ctxno : Nat
  upper : Bool
  role : Role
  status : Status
  sv : Bool
  cobbler : Bool
  r : Regs
  pc : Word
  npc : Word
  fin : Option Word
  flNow : BitVec 6
  redo : List Latch
  tclk : Nat
  hclk : Nat
  hdr : Hdr
  code : List Byte
  grant : List Bool
  iss : Issue
  pfx : Pfx
  latches : List Latch
  dws : List DWrite
  vq : List Cmd
  xq : List Cmd
  cq : List Cmd
  uws : List UWrite
  touch : List Touch
  wait : Wait
  pend : Pend
  dly : Nat
  swt : Option (Nat × Bool)
  swtPc : Word
  cands : List (Nat × Nat × Trap × Nat)
  fatal : Option Trap
  tcause : Nat
  tinfo : Vector Word 4
  saved : Option Saved
  detval : Option Word
  fidx : BitVec 9
  tmr : BitVec 33
  tmrCnt : Nat
  tmrPend : Nat
  signals : List Word
  notices : List Nat
  preReq : Bool
  preCnt : Nat
  preLate : Bool
  slice : Nat
  ended : Bool
  energy : Nat
  energySat : Bool
  draw : Nat
  powOver : Option Nat
  overDone : Bool
  rcyc : Nat
  blkc : Nat
  blocked : Nat
  parkedAt : Nat
  openPh : Nat
  pubd : Nat
  closing : List (Nat × Nat)
  stamps : Vector Nat 5
  bars : List (Nat × Nat)
  colls : List (Nat × Nat)
  after : Nat
  wins : List Win
  claims : List Nat
  pwrlvl : Nat
  pwrWait : Bool
  hang : Nat
  dwait : Nat
  lanes : Nat
  frozen : Bool
  owed : Bool
  swapped : Bool
  started : Bool
  begun : Bool
  haltH : Bool
  fileAt : Nat
  collides : Bool
  deriving DecidableEq, Repr

/-- A place that holds no context. -/
def Ctx.vacant : Ctx where
  cid := 0
  src := 0
  lid := 0
  wid := 0
  core := 0
  unit := 0
  ctxno := 0
  upper := false
  role := .parked
  status := .vacant
  sv := false
  cobbler := false
  r := Regs.zero
  pc := 0
  npc := 0
  fin := none
  flNow := 0
  redo := []
  tclk := 0
  hclk := 0
  hdr := Hdr.zero
  code := []
  grant := [false, false, false]
  iss := Issue.alone
  pfx := Pfx.none
  latches := []
  dws := []
  vq := []
  xq := []
  cq := []
  uws := []
  touch := []
  wait := .none
  pend := .none
  dly := 0
  swt := none
  swtPc := 0
  cands := []
  fatal := none
  tcause := 0
  tinfo := Vector.replicate 4 0
  saved := none
  detval := none
  fidx := 0
  tmr := 0
  tmrCnt := 0
  tmrPend := 0
  signals := []
  notices := []
  preReq := false
  preCnt := 0
  preLate := false
  slice := 0
  ended := false
  energy := 0
  energySat := false
  draw := 0
  powOver := none
  overDone := false
  rcyc := 0
  blkc := 0
  blocked := 0
  parkedAt := 0
  openPh := 0
  pubd := 0
  closing := []
  stamps := Vector.replicate 5 0
  bars := []
  colls := []
  after := 0
  wins := []
  claims := []
  pwrlvl := 0
  pwrWait := false
  hang := 0
  dwait := 0
  lanes := 0
  frozen := false
  owed := false
  swapped := false
  started := false
  begun := false
  haltH := false
  fileAt := 0
  collides := false

/-- R115, R122, R125: a write on its way to, or in, the home order: its source and phase, the home key of its first byte
and its bytes. -/
structure HEntry where
  src : Nat
  unit : Nat
  phase : Nat
  atom : Bool
  key : Nat
  bytes : List Byte
  deriving DecidableEq, Repr

/-- R117, R118: a completed publication. -/
structure Pub where
  src : Nat
  unit : Nat
  phase : Nat
  scope : Nat
  deriving DecidableEq, Repr

/-- R265, R102: what a piece does at its home. -/
inductive PieceKind where
  /-- A read of global bytes that land at `dst` (CPG, WFILL, the source side of CPY). -/
  | read
  /-- A plain write of `data`. -/
  | write
  /-- An atomic: operation, element format, operand and comparison value, with or without return. -/
  | atom (op : Fin 8) (fmt : Nat) (cmp : List Byte) (ret : Bool)
  /-- A delivery into another scratchpad (R124). -/
  | deliver
  deriving DecidableEq, Repr

/-- R115, R409, R410: where a piece stands. -/
inductive PieceState where
  | flight | atHome | parked | refused | done
  deriving DecidableEq, Repr

/-- R102, R265: one granule request of a context or a host session; `fee` is the charge of its granule (R424), which is
made at its completion; `stamps` and `own` are what its context had acquired and published at its issue (R122); `comp` is
one more than the CUNITS of a compressed page it was translated to, or zero, and `comp2` the same of the page that a copy
between global ranges writes (R411); `span` is the whole granule of a
delivery in its target (R359); `direct` marks a copy into the own scratchpad, which is not phased (R124); `codes` are
the codes of the first sector of an ATOM's operands that fails (R92, R278); and `gran` is one number for the parts of a
granule, of which the last to be complete is charged (R424). -/
structure Piece where
  id : Nat
  kind : PieceKind
  src : Nat
  cid : Nat
  cmd : Nat
  seq : Nat
  phase : Nat
  va : Word
  home : Nat
  key : Nat
  peer : Nat
  dst : Nat
  dstUnit : Nat
  len : Nat
  data : List Byte
  syn : List (BitVec 16)
  stamps : List Nat
  own : Nat
  adm : Nat
  issueT : Nat
  due : Nat
  state : PieceState
  rect : List Nat
  second : Option (Nat × Nat)
  fee : Nat
  comp : Nat
  comp2 : Nat
  span : Nat × Nat
  direct : Bool
  codes : Nat
  gran : Nat
  deriving DecidableEq, Repr

/-- R18 to R23: a launch in a queue or resident; its tasks may issue from the subdivision `readySub` of tick `readyAt` on
(R452); `sigs` are the signals for its tasks that have no context yet (R392), `early` tells that a task of it ended with
LOGIT_FAULT (R363), and `after` is the source and phase that its QLNCH closed, whose publication its tasks await (R131). -/
structure Launch where
  lid : Nat
  hdr : Hdr
  raw : List Byte
  code : List Byte
  recs : List (Nat × List Byte)
  sid : Nat
  sq : Nat
  gangsDone : Nat
  started : List Nat
  retired : Nat
  failed : Option (Nat × Word × Vector Word 4)
  ending : Bool
  adm : Nat
  routed : Bool
  readyAt : Nat
  readySub : Nat
  sigs : List (Word × Word)
  early : Bool
  after : Option (Nat × Nat)
  deriving DecidableEq, Repr

/-- R398, R399, R450: a work queue; `took` is one more than the fabric cycle in which it last took a header. -/
structure WorkQueue where
  q : Nat
  sid : Nat
  heads : List Nat
  level : Nat
  waited : Nat
  intake : Nat
  doneN : Nat
  last : List Byte
  took : Nat
  deriving DecidableEq, Repr

/-- R387: a packet the device sends, with its TAG; `due` and `sends` count its sends until an ACK (R389). -/
structure OutPkt where
  sid : Nat
  sq : Nat
  type : Nat
  body : List Byte
  tag : List Byte
  due : Nat
  sends : Nat
  deriving DecidableEq, Repr

/-- R388, R389: a session. -/
structure Session where
  sid : Nat
  src : Nat
  hkey : List Byte
  nonce : List Byte
  khd : List Byte
  kdh : List Byte
  qfirst : Nat
  qcount : Nat
  high : Nat
  seen : List Nat
  acks : List (Nat × Nat)
  next : Nat
  report : List Byte
  openPh : Nat
  deriving DecidableEq, Repr

/-- R391: a WAITVAL in progress. -/
structure WaitVal where
  sid : Nat
  sq : Nat
  va : Word
  msk : Word
  val : Word
  rel : Nat
  until_ : Nat
  next : Nat
  deriving DecidableEq, Repr

/-- R379, R410, R411: an open page request. -/
structure PageReq where
  rseq : Nat
  sid : Nat
  va : Word
  kind : Nat
  intent : Nat
  cid : Nat
  src : Nat
  deriving DecidableEq, Repr

/-- R285, R296, R298: a sequence slot that is live, with its queued records, its hold buffer and its flush counter; `slens` are
SLENk and `stops` the 16 tokens of each stop sequence, those at and beyond SLENk included. -/
structure Slot where
  n : Nat
  sid : Nat
  req : BitVec 32
  epoch : Nat
  depth : Nat
  replay : Bool
  fault : Bool
  done : Bool
  ksh : Nat
  ttab : Fin 8
  slen : Nat
  vlen : Nat
  round : Nat
  arate : Nat
  dmin : Nat
  dmax : Nat
  h : Nat
  st : Nat
  maxlen : Nat
  rseed : Word
  roundSeed : Word
  vocab : Nat
  lbudget : Nat
  kvbase : Nat
  kvstride : Nat
  rrounds : Nat
  rply : Nat
  slens : List Nat
  stops : List (List Nat)
  recs : List (List Byte)
  hold : List Nat
  committed : List Nat
  released : Nat
  jstar : Nat
  flushed : Nat
  taker : Option Nat
  rbVlen : Nat
  rbEpoch : Nat
  deriving DecidableEq, Repr

/-- R286, R305: a WFINAL that waits for its context's publications. -/
structure FinalReq where
  cid : Nat
  src : Nat
  slot : Nat
  token : Nat
  phase : Nat
  deriving DecidableEq, Repr

/-- R308: a rollback record installed on the ring at common TCLK t. -/
structure Install where
  t : Nat
  slot : Nat
  epoch : Nat
  vlen : Nat
  deriving DecidableEq, Repr

/-- R109, R294: a lane command of a station: BASE, ROWS, hops, start cycle, lane 0 to 7, direction and its issue; of a tap,
the rows it has captured (none where there was nothing to write) and how many of them it has written. -/
structure LaneCmd where
  put : Bool
  aw : Bool
  lane : Nat
  station : Nat
  base : Nat
  rows : Nat
  hops : Nat
  t : Nat
  pos : Nat
  pc : Word
  issue : Nat
  got : List (Option (List Byte))
  wrote : Nat
  deriving DecidableEq, Repr

/-- R109: a row on a lane: the station whose outgoing hop it took at cycle `t`, and how many hops remain. -/
structure LaneRow where
  aw : Bool
  lane : Nat
  at_ : Nat
  t : Nat
  left : Nat
  data : List Byte
  syn : List (BitVec 16)
  deriving DecidableEq, Repr

/-- R101, R352, R418, R419, R422, R444: what a core, station or uncore island keeps; `freedAt` are the ticks in which
its issuing roles were last freed (R429), `bubble` the tick since which a role has been vacant while no gang waits for the core
(R314), `loaded` the launches whose records stand in its scratchpad (R396), `file` the context
whose accumulator file lies in its accumulator area (R416). -/
structure Island where
  n : Nat
  lreq : BitVec 48
  rreq : BitVec 48
  opc : Fin 8
  req : Fin 8
  pendOp : Option (Fin 8)
  settle : Option Nat
  opcap : Fin 8
  thop : Fin 8
  hyst : Nat
  temp : Nat
  thr : Bool
  thrAt : Option Nat
  thrN : Nat
  eisl : Nat
  disabled : Bool
  spares : List Nat
  freedAt : List Nat
  bubble : Option Nat
  loaded : List Nat
  file : Option Nat
  deriving DecidableEq, Repr

/-- R101, R418, R440: an island right after boot. -/
def Island.fresh (n : Nat) : Island :=
  ⟨n, 0, 0, 0, 0, none, none, 7, 3, 3, 0, false, none, 0, 0, false, [], [], some 0, [], none⟩

/-- R403: a segment entry; BUSY of word 1 is what `busyPieces` counts. -/
structure Seg where
  w0 : Word
  w1 : Word
  w2 : Word
  w3 : Word
  deriving DecidableEq, Repr

/-- R405: a peer entry. -/
structure Peer where
  n : Nat
  kind : Nat
  port : Nat
  domain : Nat
  x : Nat
  y : Nat
  fep : Nat
  addr : List Byte
  deriving DecidableEq, Repr

/-- R409: a migration on its way: the home that makes it, and what it moves where. -/
structure Migration where
  home : Nat
  va : Word
  peer : Nat
  frame : Nat
  cap : Nat
  sid : Nat
  deriving DecidableEq, Repr

/-- R20, R127, R282: what a task on another package has reported to this one: its launch and work identifier, and its
arrival at the `nth` BAR of a level or its contribution to the `nth` COLL there. -/
structure Mate where
  lid : Nat
  wid : Word
  level : Nat
  nth : Nat
  coll : Option Cmd
  deriving DecidableEq, Repr

/-- R409: an old frame that redirects to a new home. -/
structure Forward where
  peer : Nat
  frame : Nat
  toPeer : Nat
  toFrame : Nat
  deriving DecidableEq, Repr

/-- R445: a context that waited at a fence until its task cycle, and the class of the test. -/
structure Classified where
  cid : Nat
  ukind : Nat
  idx : Nat
  tclk : Nat
  pass : Bool
  deriving DecidableEq, Repr

/-- R444, R446: a self-test that runs on a fenced unit: the tick in which its first error was detected, and the contexts on
which errors were, each with its own tick. -/
structure SelfTest where
  n : Nat
  ukind : Nat
  unit : Nat
  idx : Nat
  addr : Word
  tick : Nat
  cids : List (Nat × Nat)
  ends : Nat
  deriving DecidableEq, Repr

/-- R420: a power request in the manager's queue. -/
structure PwrReq where
  cid : Nat
  level : Nat
  deriving DecidableEq, Repr

/-- R440: the values of the configuration image in force. -/
structure Image where
  keys : List (List Byte)
  route : List Nat
  kwp : Nat
  slice : Nat
  lvmax : Nat
  deflvl : Nat
  solebud : Nat
  upbud : Nat
  thresh : Nat
  tcrit : Nat
  hangt : Nat
  dwait : Nat
  pstat : Nat
  weights : List Nat
  swapBase : Nat
  swapLen : Nat
  age : List Nat
  fwver : Nat
  cfgver : Nat
  fwhash : List Byte
  cfghash : List Byte
  idpub : List Byte
  idpriv : List Byte
  tss : List Byte
  px : Nat
  py : Nat
  domain : Nat
  deriving DecidableEq, Repr

/-- R440: the defaults, which stand until a configuration image is accepted. -/
def Image.default : Image where
  keys := []
  route := List.replicate 71 0
  kwp := 10000
  slice := 1000
  lvmax := 480
  deflvl := 260
  solebud := 44000
  upbud := 7200
  thresh := 95
  tcrit := 110
  hangt := 10000000
  dwait := 1000000000
  pstat := 800
  weights := Config.weights
  swapBase := 0
  swapLen := 0
  age := List.replicate 8 1000
  fwver := 0
  cfgver := 0
  fwhash := []
  cfghash := []
  idpub := []
  idpriv := []
  tss := []
  px := 0
  py := 0
  domain := 0

/-- R400, R401: a loaded slot-table record: launch, kind, x, y, die, unit or port, words. -/
structure TableRec where
  lid : Nat
  kind : Nat
  x : Nat
  y : Nat
  upper : Bool
  unit : Nat
  words : List Nat
  deriving DecidableEq, Repr

/-- The Welt (R296, R297, R301). -/
structure WeltState where
  slots : List Slot
  thr : Vector (List Nat) 8
  pqcap : Nat
  finals : List FinalReq
  installs : List Install
  deriving DecidableEq, Repr

/-- Fabric and homes (R115 to R126, R402 to R413). `ptes` are the page entries by their address in the region that no
virtual address maps (R402, R403), `inServ` the pieces in service at a home: source, command, home and segment
(R409), `mates` what tasks on other packages have reported to those of this one (R127, R282), and `plainAt` the frames of
compressed pages, by their keys, that their homes store uncompressed since a short write landed there (R412). -/
structure NetState where
  pieces : List Piece
  hist : List HEntry
  pubs : List Pub
  segs : List Seg
  ptes : List (Nat × Word)
  peers : List Peer
  frames : List Nat
  migs : List Migration
  fwds : List Forward
  lastOp2 : Option Nat
  cache : List (Nat × Nat)
  inServ : List (Nat × Nat × Nat × Nat)
  mates : List Mate
  plainAt : List Nat
  deriving DecidableEq, Repr

/-- Host transport (R387 to R399); `ansFails` keeps the first failing record of a PAGEANS: session, number, status and
record (R411), and `sigs` the signals for tasks that came in this reference tick: session, number, TAG, WID and VALUE (R392). -/
structure HostState where
  sessions : List Session
  queues : List WorkQueue
  launches : List Launch
  out : List OutPkt
  waits : List WaitVal
  preqs : List PageReq
  discards : Nat
  served : List Nat
  ansFails : List (Nat × Nat × Nat × Nat)
  sigs : List (Nat × Nat × Word × Word × Word)
  deriving DecidableEq, Repr

/-- The Cobbler (R418, R420, R444, R446); `dropped` lists the Lace ports that have lost a lane,
`classified` the contexts that waited at the fence of a test that has ended (R445), and `gone` is the draw, of the Sole and
of the Upper, of contexts that have left the part in the power window at hand (R449). -/
structure CobState where
  ctxsel : BitVec 12
  islsel : BitVec 9
  tests : List SelfTest
  total : Nat
  retired : Nat
  pwr : List PwrReq
  held : List (Nat × Nat)
  swaps : List (List Nat)
  windows : List (Nat × Nat)
  tables : List TableRec
  pendTables : List TableRec
  dropped : List Nat
  classified : List Classified
  gone : Nat × Nat
  deriving DecidableEq, Repr

/-- The machine. `ctx` is the context at hand and `others` the rest; `agenda` lists the steps that are due before any
context issues; `rota` the contexts still to take their turn in this sub-slot of a reference tick; `edge` the steps of a
tick edge that the boundaries of the cycle it falls in do not see yet (R383); `qprev` the queue control words written
in this real cycle, each with its key, its writer and the bytes that stood before (R236). -/
structure State where
  ctx : Ctx
  others : List Ctx
  agenda : List Event
  rota : List Nat
  edge : List Event
  tick : Nat
  sub : Nat
  cycle : Nat
  fresh : Nat
  free : Nat
  mem : Memory
  synd : List (Nat × BitVec 16)
  dirty : List Nat
  acc : List ((Nat × Nat × Nat × Nat) × BitVec 48)
  asyn : List (Nat × BitVec 16)
  qprev : List (Nat × Nat × List Byte)
  lanes : List LaneCmd
  rows : List LaneRow
  units : List Island
  net : NetState
  host : HostState
  welt : WeltState
  cob : CobState
  img : Image
  booted : Bool
  recovery : Bool
  deriving DecidableEq, Repr

/-- The machine at power-on, before BOOT (R441): no context, no session, nothing mapped, the configuration image's
defaults in force and PQCAP at its value from boot (R301). -/
def State.reset : State where
  ctx := Ctx.vacant
  others := []
  agenda := []
  rota := []
  edge := []
  tick := 0
  sub := 0
  cycle := 0
  fresh := 1
  free := 0
  mem := []
  synd := []
  dirty := []
  acc := []
  asyn := []
  qprev := []
  lanes := []
  rows := []
  units := []
  net := ⟨[], [], [], [], [], [], [], [], [], none, [], [], [], []⟩
  host := ⟨[], [], [], [], [], [], 0, [], [], []⟩
  welt := ⟨[], Vector.replicate 8 (List.replicate 16 0), Config.pqcapBoot, [], []⟩
  cob := ⟨0, 0, [], 0, 0, [], [], [], [], [], [], [], [], (0, 0)⟩
  img := Image.default
  booted := false
  recovery := false

end Sys2Proof.Machine
end

