-- ==== Sys2Proof/Machine/Ops.lean ====
section
/-! DEFINITION. The named operations over memory, check codes, registers, latches and energy, and taking a trap,
returning from one and the trap frame (R80 to R92, R159 to R165, R336 to R339, R365 to R375, R424, R426). -/

namespace Sys2Proof.Machine

/-! ## Lists -/

/-- An element put before the first that it may precede. -/
def insertBy {α : Type} (le : α → α → Bool) (x : α) : List α → List α
  | [] => [x]
  | y :: t => if le x y then x :: y :: t else y :: insertBy le x t

/-- A list in order; equal elements keep their order. -/
def sortBy {α : Type} (le : α → α → Bool) (l : List α) : List α := l.foldr (insertBy le) []

/-- Numbers without repeats, in order of first appearance. -/
def dedup (l : List Nat) : List Nat := (l.foldl (fun acc x => if acc.contains x then acc else x :: acc) []).reverse

/-- The bytes of an access. -/
def byteRange (a n : Nat) : List Nat := (List.range n).map (a + ·)

/-- The fetch block of an address. -/
def blockOf (a : Word) : Word := BitVec.ofNat 64 (a.toNat / 64 * 64)

/-! ## Memory -/

/-- The byte at a key; an unlisted byte is zero (R441). -/
def memGet : Memory → Nat → Byte
  | [], _ => 0
  | (a, b) :: t, k => if a = k then b else memGet t k

/-- The nonzero bytes of a block, with their keys. -/
def blockCells : Nat → List Byte → Memory
  | _, [] => []
  | k, b :: bs => if b = 0 then blockCells (k + 1) bs else (k, b) :: blockCells (k + 1) bs

/-- Memory with the bytes from key k onward replaced: cells below, the block, cells above. -/
def memPut (m : Memory) (k : Nat) (bs : List Byte) : Memory :=
  m.filter (fun c => c.1 < k) ++ blockCells k bs ++ m.filter (fun c => k + bs.length ≤ c.1)

/-- n bytes from key k on. -/
def memRead (m : Memory) (k n : Nat) : List Byte := (List.range n).map fun i => memGet m (k + i)

/-- Keys rise strictly and no listed byte is zero. -/
def Memory.wfFrom : Nat → Memory → Bool
  | _, [] => true
  | lo, (a, b) :: t => decide (lo ≤ a) && b != 0 && Memory.wfFrom (a + 1) t

/-- The canonical form of a memory. -/
def Memory.wf (m : Memory) : Bool := Memory.wfFrom 0 m

/-- R5: the value of bytes, little-endian. -/
def leNat : List Byte → Nat
  | [] => 0
  | b :: bs => b.toNat + 256 * leNat bs

/-- R5: n bytes of a value, little-endian. -/
def leBytes : Nat → Nat → List Byte
  | 0, _ => []
  | n + 1, v => BitVec.ofNat 8 v :: leBytes n (v / 256)

/-- A list of keyed codes with one entry changed; a zero entry is not listed. -/
def synSet (l : List (Nat × BitVec 16)) (k : Nat) (v : BitVec 16) : List (Nat × BitVec 16) :=
  let r := l.filter fun c => c.1 != k
  if v = 0 then r else (k, v) :: r

/-- The code kept under a key. -/
def synGet (l : List (Nat × BitVec 16)) (k : Nat) : BitVec 16 := ((l.find? fun c => c.1 == k).map (·.2)).getD 0

/-- One bit of the CRC of R88. -/
def crcBit (r : Nat) : Nat := if r / 2 ^ 15 % 2 = 1 then (r * 2 % 2 ^ 16).xor 0x8BB7 else r * 2 % 2 ^ 16

/-- One byte of the CRC of R88, most significant bit first. -/
def crcByte (r : Nat) (b : Byte) : Nat :=
  crcBit (crcBit (crcBit (crcBit (crcBit (crcBit (crcBit (crcBit (r.xor (b.toNat * 256)))))))))

/-- R88: CRC-16 under T10-DIF. -/
def crc16 (bs : List Byte) : BitVec 16 := BitVec.ofNat 16 (bs.foldl crcByte 0)

/-- R91: the code of a register value. -/
def wordCode (v : Word) : BitVec 16 := crc16 (leBytes 8 v.toNat)

/-! ## Places -/

/-- The number of a core or station among all units: stations follow the cores (R418). -/
def Ctx.gunit (c : Ctx) : Nat := if c.upper then 192 + c.unit else c.unit

/-- R80, R108: the key of a scratchpad or SRAM byte. -/
def spadKey (u a : Nat) : Nat := u * 2 ^ 24 + a
/-- R415: the key of a Heel byte. -/
def heelKey (a : Nat) : Nat := 2 ^ 33 + a
/-- R402: the key of an HBM byte of a peer. -/
def hbmKey (p a : Nat) : Nat := 2 ^ 40 + p * 2 ^ 40 + a

/-- R415: the trap frame of a context. -/
def frameAddr (c : Ctx) : Nat :=
  if c.upper then 0x5A00000 + 0x2000 * c.unit else 0x78000 * c.unit + 0x1000 * c.ctxno

/-- R415: the engine image of a context. -/
def imageAddr (c : Ctx) : Nat :=
  if c.upper then 0x5A01000 + 0x2000 * c.unit else 0x78000 * c.unit + 0x8000 + 0x1000 * c.ctxno

/-- R446: the number under which QUERY, the log and CTXSEL name a context. -/
def cidOf (upper : Bool) (unit ctxno : Nat) : Nat := if upper then 1536 + unit else unit * 8 + ctxno

/-- Bytes of the context's scratchpad. -/
def Ctx.spadBytes (c : Ctx) : Nat := if c.upper then Config.upperSram else Config.soleSpad

/-- R81: the byte range lies inside the grant. -/
def Ctx.inGrant (c : Ctx) (a n : Nat) : Bool := c.hdr.gbase ≤ a && a + n ≤ c.hdr.gbase + c.hdr.quota

/-- The context's local byte. -/
def spadByte (s : State) (a : Nat) : Byte := memGet s.mem (spadKey s.ctx.gunit a)

/-- n local bytes of the context. -/
def spadRead (s : State) (a n : Nat) : List Byte := memRead s.mem (spadKey s.ctx.gunit a) n

/-- The syndrome of the sector of a local byte: its stored code xor the code of its bytes. -/
def spadSyn (s : State) (a : Nat) : BitVec 16 := synGet s.synd (spadKey s.ctx.gunit a / 32)

/-- R80, R108: the bank of a local byte, GROUP × banks + BANK. -/
def bankOf (upper : Bool) (a : Nat) : Nat :=
  if upper then a / 2 ^ 21 % 4 * 64 + a / 32 % 64 else a / 2 ^ 19 % 4 * 16 + a / 32 % 16

/-! ## The context at hand -/

/-- The state with its context changed. -/
def State.up (s : State) (f : Ctx → Ctx) : State := { s with ctx := f s.ctx }

/-- The state with its context's registers changed. -/
def State.upR (s : State) (f : Regs → Regs) : State := { s with ctx := { s.ctx with r := f s.ctx.r } }

/-- The clock in force: the handler clock in handler state (R373), TCLK otherwise. -/
def Ctx.now (c : Ctx) : Nat := if c.status = .handler then c.hclk else c.tclk

/-- R159: a general register; g0 reads zero. -/
def rdG (s : State) (n : Fin 32) : Word := if n = 0 then 0 else s.ctx.r.g[n]

/-- R159: a predicate; p0 reads true. -/
def rdP (s : State) (n : Fin 8) : Bool := n == 0 || s.ctx.r.p[n]

/-- R146: the prefix's masks gate the syllable at issue out. -/
def gated (s : State) : Bool :=
  let x := s.ctx.pfx
  let l := s.ctx.r.loops.toList.getD x.lv.val Loop.zero
  let k := s.ctx.iss.pos - 1
  let f := x.fst.getLsbD k
  let z := x.lst.getLsbD k
  l.active && (f || z) && !((f && l.idx == 0) || (z && l.cnt == 0))

/-- R164, R165: the syllable at issue acts. -/
def acts (s : State) : Bool := !gated s && (rdP s s.ctx.iss.p != s.ctx.iss.ng)

/-! ## Traps: records -/

/-- A word no rule states. -/
def fw (s : State) (k : Nat) : Word := Config.freeWord (4 * s.free + k)

/-- R365, R366: a cause of the syllable at issue; a word no rule states is free. -/
def mkTrap (s : State) (cause : Nat) (i0 i1 i2 : Option Word) : Trap :=
  ⟨cause, i0.getD (fw s 0), i1.getD (fw s 1), i2.getD (fw s 2), s.ctx.iss.pc⟩

/-- R86: a requester: SLOT, POS, OPND and the role. -/
def requester (c : Ctx) (slot pos opnd : Nat) : Word :=
  BitVec.ofNat 64 (slot * 2 ^ 12 + pos * 2 ^ 8 + opnd * 2 ^ 4 + (if c.role = .trail then 1 else 0))

/-- R157: the info words of a decode trap, which R195 gives to reason 28 and R337 to reason 27 in part. -/
def encTrap (s : State) (cause pos reason : Nat) : Trap :=
  mkTrap s cause (some (BitVec.ofNat 64 (reason * 256 + pos)))
    (some (if pos = 15 then 0 else (s.ctx.iss.word.setWidth 64))) (some s.ctx.iss.pc)

/-- R28, R214, R243, R263: ILLEGAL_FORMAT (or the cause given) of check k on register r. -/
def shapeTrap (s : State) (cause k r : Nat) (i1 : Option Word := none) : Trap :=
  mkTrap s cause (some (BitVec.ofNat 64 (k * 16 + r))) i1 none

/-- R81: FATAL_CONTEXT raised by the syllable at issue. -/
def fatalTrap (s : State) (i0 i1 : Option Word) : Trap := mkTrap s 0x21 i0 i1 none

/-- R91, R92: a register read by the syllable at issue fails its code. -/
def regTrap (s : State) (slot : Nat) (n : Fin 32) : Trap :=
  let v := rdG s n
  let comp := wordCode v
  mkTrap s 0x16 none (some (BitVec.ofNat 64 (comp.toNat * 2 ^ 16 + (comp ^^^ s.ctx.r.gsyn[n]).toNat)))
    (some (requester s.ctx slot s.ctx.iss.pos 5 + BitVec.ofNat 64 (n.val * 2 ^ 32)))

/-- R91: the first of the registers whose code fails. -/
def badReg (s : State) (slot : Nat) (ns : List (Fin 32)) : Option Trap :=
  (ns.find? fun n => n != 0 && s.ctx.r.gsyn[n] != 0).map (regTrap s slot)

/-! ## Latches, deferred writes, energy -/

/-- R336: a result latch of the syllable at issue. -/
def newLatch (s : State) (lat : Nat) (d : Dest) (v : Word) (flags : Nat) (bad : Option Trap) : Latch :=
  let c := s.ctx
  { due := c.now + lat, issue := c.now, pos := c.iss.pos, pc := c.iss.pc, dest := d, val := v, syn := 0,
    flags := BitVec.ofNat 6 flags, bad := bad, ld := none, cmd := none, slot := c.iss.sslot, fp := none, frm := none,
    valid := true }

/-- R336: one more pending latch. -/
def putLatch (s : State) (l : Latch) : State := s.up fun x => { x with latches := x.latches ++ [l] }

/-- R336: one more pending latch of the syllable at issue. -/
def addLatch (s : State) (lat : Nat) (d : Dest) (v : Word) (flags : Nat) (bad : Option Trap) : State :=
  putLatch s (newLatch s lat d v flags bad)

/-- R456: one more write due at +lat. -/
def addDW (s : State) (lat : Nat) (a : DAct) : State :=
  let c := s.ctx
  s.up fun x => { x with dws := x.dws ++ [⟨c.now + lat, c.now, c.iss.pos, c.iss.pc, a⟩] }

/-- R424, R426: a charge to ENERGY, dynamic charges counting in the draw of R421. -/
def Ctx.charge (c : Ctx) (pj : Nat) (dyn : Bool) : Ctx :=
  let c := if dyn then { c with draw := c.draw + pj } else c
  if c.energySat then c
  else if c.energy + pj ≥ 2 ^ 48 then { c with energy := 2 ^ 48 - 1, energySat := true }
  else { c with energy := c.energy + pj }

/-- R449: pJ charged to contexts of an island. -/
def updIsland (us : List Island) (n : Nat) (f : Island → Island) : List Island :=
  if us.any (fun u => u.n == n) then us.map fun u => if u.n == n then f u else u else us ++ [f (Island.fresh n)]

/-- The island of a unit. -/
def getIsland (s : State) (n : Nat) : Island := (s.units.find? fun u => u.n == n).getD (Island.fresh n)

/-- R352: the island whose operating point a context runs at; the Upper's is that of station 0. -/
def Ctx.vf (c : Ctx) : Nat := if c.upper then 192 else c.unit

/-- R419: the effective point of an island. -/
def Island.point (u : Island) : Fin 8 :=
  let p := if u.opcap < u.req then u.opcap else u.req
  if u.thr ∧ u.thop < p then u.thop else p

/-- R352, R419: the pending point of an island whose effective point has changed. A change during the settling follows
when it has ended, and the Upper's stations follow station 0. -/
def Island.repoint (u : Island) : Island :=
  if u.settle.isSome ∨ (192 < u.n ∧ u.n < 256) then u
  else { u with pendOp := if u.point = u.opc then none else some u.point }

/-- R368, R421, R424: a dynamic charge taken back, of units that a trap unwinds, and what of it the power window at hand has
counted. -/
def Ctx.refund (c : Ctx) (pj drawn : Nat) : Ctx :=
  { c with draw := c.draw - drawn, energy := if c.energySat then c.energy else c.energy - pj }

/-- R424, R449: a dynamic charge to the context at hand and its island. -/
def charge (s : State) (pj : Nat) : State :=
  { s.up (fun c => c.charge pj true) with
    units := updIsland s.units s.ctx.gunit fun u => { u with eisl := (u.eisl + pj) % 2 ^ 64 } }

/-- R368, R424: the charges of unwound units taken back from the context at hand and its island. -/
def refund (s : State) (pj drawn : Nat) : State :=
  { s.up (fun c => c.refund pj drawn) with units := updIsland s.units s.ctx.gunit fun u => { u with eisl := u.eisl - pj } }

/-- R424: the charge at a place of the table in force. -/
def weight (s : State) (i : Nat) : Nat := s.img.weights.getD i 0

/-! ## Other contexts -/

/-- Some context with this number is not vacant and not retired. -/
def Ctx.live (c : Ctx) : Bool := c.status != .vacant && c.status != .retired

/-- Every context of the machine, the one at hand first. -/
def allCtx (s : State) : List Ctx := s.ctx :: s.others

/-- The live context with a number. -/
def findCtx (s : State) (cid : Nat) : Option Ctx := (allCtx s).find? fun c => c.live && c.cid == cid

/-- The contexts, with the live one of a number changed. -/
def updCtx (s : State) (cid : Nat) (f : Ctx → Ctx) : State :=
  let g := fun c : Ctx => if c.live && c.cid == cid then f c else c
  { s with ctx := g s.ctx, others := s.others.map g }

/-- The contexts, each changed. -/
def mapCtx (s : State) (f : Ctx → Ctx) : State := { s with ctx := f s.ctx, others := s.others.map f }

/-- The state whose context at hand is the live one of a number. -/
def focus (s : State) (cid : Nat) : State :=
  if s.ctx.live && s.ctx.cid == cid then s
  else
    match s.others.find? fun c => c.live && c.cid == cid with
    | none => s
    | some c =>
      { s with
        ctx := c
        others := (if s.ctx.status = .vacant then [] else [s.ctx]) ++
          s.others.filter fun x => !(x.live && x.cid == cid) }

/-- One more step that is due. -/
def post (s : State) (e : Event) : State := { s with agenda := s.agenda ++ [e] }

/-- The launch of a number. -/
def findLaunch (s : State) (lid : Nat) : Option Launch := s.host.launches.find? fun l => l.lid == lid

/-- The launches, with one changed. -/
def updLaunch (s : State) (lid : Nat) (f : Launch → Launch) : State :=
  { s with host := { s.host with launches := s.host.launches.map fun l => if l.lid == lid then f l else l } }

/-- R15, R429: a context leaves its issuing role; a trail that remains becomes the lead. -/
def leaveRole (s : State) (cid : Nat) : State :=
  match findCtx s cid with
  | none => s
  | some c =>
    if c.role = .parked then s
    else
      let s := updCtx s cid fun x => { x with role := .parked, parkedAt := s.tick, slice := 0, blocked := 0, lanes := 0 }
      let s := mapCtx s fun x => if x.live && x.gunit == c.gunit && x.role == .trail then
        { x with role := .lead, blocked := 0 } else x
      let one := ((allCtx s).filter fun x => x.live && x.gunit == c.gunit && x.role != .parked).length == 1
      { s with units := updIsland s.units c.gunit fun u =>
        { u with freedAt := s.tick :: u.freedAt.filter fun k => s.tick < k + 2, bubble := if one then some s.tick else u.bubble } }

/-- R444, R445: an error on a unit, detected now on some contexts, starts its self-test, or joins the one that runs. -/
def startTest (s : State) (ukind unit idx : Nat) (addr : Word) (on : List Nat) : State :=
  let cids := on.map fun c => (c, s.tick)
  if s.cob.tests.any fun x => x.ukind == ukind && x.unit == unit && x.idx == idx then
    { s with cob := { s.cob with tests := s.cob.tests.map fun x =>
      if x.ukind == ukind && x.unit == unit && x.idx == idx then { x with cids := x.cids ++ cids } else x } }
  else
    let n := s.fresh
    { s with
      fresh := n + 1
      cob := { s.cob with tests := s.cob.tests ++
        [⟨n, ukind, unit, idx, addr, s.tick, cids, s.tick + 1 + Config.selfTestTicks n % 4999⟩] } }

/-! ## The sequencer's walk over fetch blocks (R139, R202) -/

/-- R139: the pad word. -/
def padWord : Nat := 0x40000000

/-- R198: the address lies in the launch's code image. -/
def Ctx.inCode (c : Ctx) (a : Word) : Bool := c.hdr.prog ≤ a.toNat && a.toNat + 4 ≤ c.hdr.prog + c.hdr.codelen

/-- R137: the word at an address of the code image. -/
def codeWord (c : Ctx) (a : Word) : Nat :=
  let o := a.toNat - c.hdr.prog
  leNat ((c.code.drop o).take 4)

/-- The words from an address to the end of its fetch block. -/
def blockWords (c : Ctx) (a : Word) : List Nat :=
  (List.range ((64 - a.toNat % 64) / 4)).map fun i => codeWord c (a + BitVec.ofNat 64 (4 * i))

/-- R139: whole blocks of pad words are passed over; the fuel is the number of blocks of the image. -/
def skipPads (c : Ctx) : Nat → Word → Word
  | 0, a => a
  | n + 1, a =>
    if a.toNat % 64 = 0 ∧ c.inCode a ∧ (blockWords c a).all (· == padWord) then skipPads c n (a + 64) else a

/-- R196: a level of the loop stack. -/
def Regs.level (r : Regs) (l : Fin 8) : Loop := r.loops.toList.getD l.val Loop.zero

/-- R202: the levels whose end block the sequencer has finished, most recently entered first; an LBRK on its way leaves its
level and the inner ones without a boundary (R204). -/
def endingLevels (c : Ctx) : List (Fin 8) :=
  match c.fin with
  | none => []
  | some b =>
    let skip : List (Fin 8) := match c.pend with
      | .lbrk l => l :: c.r.order.takeWhile (· != l)
      | _ => []
    c.r.order.filter fun l => (c.r.level l).active && (c.r.level l).stop == b && !(skip.contains l)

/-- R202: the level whose end block the sequencer has finished, most recently entered first. -/
def endingLevel (c : Ctx) : Option (Fin 8) := (endingLevels c).head?

/-- R38, R196: the remaining count of a level at the boundary at hand, with a CTLW that takes effect there. -/
def dueCount (c : Ctx) (l : Fin 8) : BitVec 48 :=
  (c.dws.filterMap fun w => match w.act with
    | .ctl n v => if n.toNat = 0x040 + 8 * l.val ∧ w.due ≤ c.tclk then some (v.setWidth 48) else none
    | _ => none).getLastD (c.r.level l).cnt

/-- R139, R202, R369: the first word of the bundle to issue, past the iteration boundaries and pad words that stand before
it. -/
def resumePc (c : Ctx) : Word :=
  skipPads c (c.hdr.codelen / 64) (match (endingLevels c).find? fun l => dueCount c l != 0 with
    | some l => (c.r.level l).start
    | none => c.pc)

/-! ## The trap frame -/

/-- A field placed at a bit. -/
def at' (v lo : Nat) : Nat := v * 2 ^ lo

/-- R26: the 128 bits of a shape register. -/
def Shape.toNat (h : Shape) : Nat :=
  at' h.base.toNat 104 + at' h.pitch.toNat 80 + at' h.rows.toNat 64 + at' h.cols.toNat 48 + at' h.off.toNat 32 +
    at' h.coff.toNat 16 + at' h.fmt.toNat 11 + at' (b2n h.t) 10 + at' h.edge.toNat 8 + at' h.acc.toNat 6

/-- R26: the shape register of 128 bits. -/
def Shape.ofNat (v : Nat) : Shape :=
  ⟨BitVec.ofNat 24 (v / 2 ^ 104), BitVec.ofNat 24 (v / 2 ^ 80), BitVec.ofNat 16 (v / 2 ^ 64), BitVec.ofNat 16 (v / 2 ^ 48),
    BitVec.ofNat 16 (v / 2 ^ 32), BitVec.ofNat 16 (v / 2 ^ 16), BitVec.ofNat 5 (v / 2 ^ 11), v / 2 ^ 10 % 2 == 1,
    BitVec.ofNat 2 (v / 2 ^ 8), BitVec.ofNat 2 (v / 2 ^ 6)⟩

/-- R196: the LSTRD layout. -/
def Stride.toWord (x : Stride) : Word :=
  BitVec.ofNat 64 (at' (b2n x.en) 63 + at' x.eng.val 26 + at' x.reg.val 24 + x.by_.toNat)

/-- R196: the stride entry of an LSTRD value. -/
def Stride.ofWord (w : Word) : Stride :=
  ⟨w.toNat / 2 ^ 63 == 1, Fin.ofNat 4 (w.toNat / 2 ^ 26), Fin.ofNat 4 (w.toNat / 2 ^ 24), BitVec.ofNat 24 w.toNat⟩

/-- R71: FTCTL as a register. -/
def Regs.ftctl (r : Regs) : Word := BitVec.ofNat 64 (r.ftlevel.toNat * 16 + r.ftbase.toNat)

/-- R26: a shape as two dwords, low first. -/
def shapeWords (h : Shape) : List Nat := [h.toNat % 2 ^ 64, h.toNat / 2 ^ 64]

/-- Dwords of narrower fields, the first lowest. -/
def packWords (w per : Nat) (l : List Nat) (n : Nat) : List Nat :=
  (List.range n).map fun i => (List.range per).foldl (fun a k => a + at' (l.getD (i * per + k) 0) (w * k)) 0

/-- R196, R369: the eight dwords of a level. -/
def loopWords (l : Loop) : List Nat :=
  [l.cnt.toNat, l.idx.toNat, l.start.toNat, l.stop.toNat] ++ l.strd.toList.map fun x => x.toWord.toNat

/-- R370: WAITK and WAITW; the freezes of R352 and R445 are no pending waits. -/
def waitWords : Wait → Nat × Nat
  | .none => (0, 0)
  | .waitt t => (1, t)
  | .waitp n _ _ _ _ _ => (2, n.val)
  | .bar l sc _ => (3, l + 8 * sc)
  | .phaseA sc _ => (4, sc)
  | .probe va _ => (5, va.toNat)
  | .stall k => (if k = 5 then 0 else 6, 0)
  | .hold k => (if k = 1 ∨ k = 4 then 0 else 6, 0)
  | .cycle => (6, 0)
  | .ending => (7, 0)

/-- R371: what a record's DEST names. -/
def Dest.code : Dest → Nat
  | .g n => n.val
  | .p n => 32 + n.val
  | .pm n => 40 + n.val
  | .q n => 48 + n.val

/-- R371: a latch record; `t` is T, and an unread load has RD = 1 with VALUE and CODE zero. -/
def latchWords (t : Nat) (l : Latch) : List Nat :=
  let rd := l.ld.isSome
  [at' (b2n l.valid) 63 + at' (b2n rd) 62 + at' l.dest.code 48 + at' l.flags.toNat 42 +
      at' (if rd then 0 else (wordCode l.val ^^^ l.syn).toNat) 20 + (l.due - t),
    if rd then 0 else l.val.toNat]

/-- R372: a command record: PEND counts units, each once however many writes it leaves, and START is its first start. -/
def cmdWords (t : Nat) (us : List UWrite) (c : Cmd) : List Nat :=
  let mine := us.filter fun u => u.cmd == c.id
  let rem := mine.foldl (fun m u => min m (u.due - t)) (2 ^ 32 - 1)
  let st := match c.state with | .queued => if c.began.isSome then 2 else 1 | .running => 2 | .trapped => 3 | .done => 0
  c.sr.toList.flatMap shapeWords ++
    [c.ga.toNat, c.gb.toNat, c.cmdw.toNat + at' st 10, c.issue, c.began.getD c.nominal, c.rp,
      (dedup (mine.map (·.unit))).length + at' (if mine.isEmpty then 0 else rem) 32, 0]

/-- R338, R372: the four records of an engine: its entries, and as far as there is room the commands whose occupancy has
ended while writes of their units are pending. -/
def engineWords (t : Nat) (us : List UWrite) (q : List Cmd) : List Nat :=
  let old := q.filter fun c => c.freed && us.any fun u => u.cmd == c.id
  let room := 4 - (q.filter fun c => !c.freed).length
  let keep := (old.drop (old.length - room)).map (·.id)
  let live := (q.filter fun c => !c.freed || keep.contains c.id).take 4
  live.flatMap (cmdWords t us) ++ List.replicate (64 - 16 * live.length) 0

/-- R369, R370: the 512 dwords of the frame of an event taken at T with cause `t`. -/
def frameWords (c : Ctx) (t : Trap) : List Nat :=
  let r := c.r
  let (wk, ww) := waitWords c.wait
  let lact := (List.range 6).foldl (fun a i => a + at' (b2n ((r.loops.toList.getD i Loop.zero).active)) i) 0
  let lhld := (List.range 6).foldl (fun a i =>
    let l := r.loops.toList.getD i Loop.zero
    a + at' (b2n (l.hs.isSome || l.he.isSome)) i) 0
  let (brk, lbl, brt) : Nat × Nat × Nat := match c.pend with
    | .none => (0, 0, 0)
    | .branch x => (1, 0, x.toNat)
    | .lbrk l => (2, l.val, ((r.loops.toList.getD l.val Loop.zero).stop + 64).toNat)
    | .rte _ => (1, 0, 0)
  let lats := c.latches.take 32
  let fstat := at' wk 60 + at' lact 54 + at' lhld 48 + at' c.dly 46 + at' brk 44 + at' lbl 41 +
    at' lats.length 35 + at' (b2n c.swt.isSome) 34
  let swtw := match c.swt with | none => 0 | some (imm, svc) => imm + at' (b2n svc) 16
  [fstat, t.cause, t.i0.toNat, t.i1.toNat, t.i2.toNat, t.i3.toNat, (resumePc c).toNat, brt, c.tclk, 0, ww,
    r.flg.toNat, r.fen.toNat, r.rmode.toNat, r.ftctl.toNat, r.grace.toNat, c.energy + at' (b2n c.energySat) 63,
    (List.range 8).foldl (fun a i => a + (if i = 0 then 0 else at' (b2n (r.p.toList.getD i false)) i)) 0,
    0, swtw] ++ List.replicate 12 0 ++
  (r.g.toList.map fun x => x.toNat) ++
  packWords 16 4 ((List.range 32).map fun i => (wordCode (r.g.toList.getD i 0) ^^^ r.gsyn.toList.getD i 0).toNat) 8 ++
  (r.pm.toList.map fun x => x.toNat) ++ (r.q.toList.map fun x => x.toNat) ++ List.replicate 12 0 ++
  r.loops.toList.flatMap loopWords ++
  r.loops.toList.flatMap (fun l => [(l.hs.getD 0).toNat, (l.he.getD 0).toNat]) ++ List.replicate 4 0 ++
  r.sh.toList.flatMap shapeWords ++ r.sd.toList.flatMap shapeWords ++
  packWords 32 2 (r.ft.toList.map fun x => x.toNat) 8 ++ packWords 16 4 (r.st.toList.map fun x => x.toNat) 8 ++
  (r.cht.toList.map fun x => x.toNat) ++ (r.dset.toList.map fun x => x.toNat) ++ List.replicate 6 0 ++
  lats.flatMap (latchWords c.tclk) ++ List.replicate (64 - 2 * lats.length) 0 ++
  engineWords c.tclk c.uws c.vq ++ engineWords c.tclk c.uws c.xq ++ engineWords c.tclk c.uws c.cq

/-- A dword of the frame of the context at hand, as the Heel holds it. -/
def frameDword (s : State) (i : Nat) : Word :=
  BitVec.ofNat 64 (leNat (memRead s.mem (heelKey (frameAddr s.ctx + 8 * i)) 8))

/-- A dword of the frame of the context at hand, written. -/
def setFrameDword (s : State) (i : Nat) (v : Word) : State :=
  { s with mem := memPut s.mem (heelKey (frameAddr s.ctx + 8 * i)) (leBytes 8 v.toNat) }

/-- R365, R373: the cause and its info words put into a frame that stands already. -/
def writeCause (s : State) (t : Trap) : State :=
  { s with
    mem := memPut s.mem (heelKey (frameAddr s.ctx + 8))
      ([BitVec.ofNat 64 t.cause, t.i0, t.i1, t.i2, t.i3].flatMap fun w => leBytes 8 w.toNat) }

/-- R369: the frame written to the Heel. -/
def writeFrame (s : State) (t : Trap) : State :=
  { s with mem := memPut s.mem (heelKey (frameAddr s.ctx)) ((frameWords s.ctx t).flatMap (leBytes 8)) }

/-! ## Taking a trap -/

/-- R365: the causes whose first destination is the Cobbler. -/
def toCobbler (cause : Nat) (svc : Bool) : Bool :=
  cause == 0x16 || (0x20 ≤ cause && cause ≤ 0x25) || (cause == 0x10 && svc)

/-- R378: the launch of the context at hand ends; its record keeps the first failing task. The contexts of the launch
that are not issuing are at a boundary already, the others end at their next one (Step). -/
def failLaunch (s : State) (t : Trap) : State :=
  let c := s.ctx
  let s := updLaunch s c.lid fun l =>
    { l with ending := true, failed := l.failed.or (some (t.cause, c.wid, #v[t.i0, t.i1, t.i2, t.i3])) }
  { s with
    ctx := { c with status := .trapped, tcause := t.cause, tinfo := #v[t.i0, t.i1, t.i2, t.i3] }
    agenda := s.agenda ++ [.taskRetirement c.cid] }

/-- R368, R369, R456: the context's state put away at T: the frame written, the pending latches and deferred writes kept
by the sequencer, the engines frozen where they stand. A PROMISE_MISSED that was not taken stays pending (R367). -/
def saveFrame (s : State) (t : Trap) : State :=
  let c := s.ctx
  let s := writeFrame s t
  s.up fun x => { x with
    saved := some {
      latches := c.latches, dws := c.dws, redo := c.redo, order := c.r.order, wait := c.wait, grant := c.grant
      pc := c.pc, next := resumePc c, fin := c.fin, held := c.r.loops.toList.map fun l => (l.hs.isSome, l.he.isSome), after := c.after
      missed := c.cands.filter fun k => (k.2.1 == 9 || k.2.1 == 6) && k.2.2.1 != t
      t := c.tclk, cause := t }
    redo := []
    cands := []
    after := 0
    tcause := t.cause
    tinfo := #v[t.i0, t.i1, t.i2, t.i3]
    latches := []
    dws := [] }

/-- R383, R386: TVEC as an event at T finds it: with the CTLW that takes effect at T, whose write itself is made after
the resumption (R456; log 126). -/
def tvecDue (tvec : Word) (dws : List DWrite) (t : Nat) : Word :=
  (dws.filterMap fun w => match w.act with
    | .ctl n x => if n = 0x010 ∧ w.due ≤ t then some (blockOf x) else none
    | _ => none).getLastD tvec

/-- R383: TVEC for a cause delivered now, by the deferred writes that the event at T put away. -/
def tvecAt (c : Ctx) : Word :=
  match c.saved with
  | none => c.r.tvec
  | some v => tvecDue c.r.tvec v.dws v.t

/-- R373: entry to the handler at TVEC, the frame standing already. -/
def enterHandler (s : State) : State :=
  s.up fun c => { c with
    status := .handler
    sv := true
    hclk := 0
    pc := tvecAt c
    fin := none
    grant := [false, false, false]
    wait := .none
    pend := .none
    dly := 0
    swt := none }

/-- R373, R377: a cause delivered to TVEC with the frame unchanged; FATAL_CONTEXT when TVEC is 0. -/
def deliverTvec (s : State) (t : Trap) : State :=
  if tvecAt s.ctx = 0 then failLaunch s { t with cause := 0x21 } else enterHandler s

/-- R312: the slot of a logit task, from the field of its work identifier that its header names. -/
def logitSlot (c : Ctx) : Option Nat :=
  c.hdr.logit.map fun i =>
    let lo := (c.hdr.widths.take i).foldl (· + ·) 0
    c.wid.toNat / 2 ^ lo % 2 ^ (c.hdr.widths.getD i 0)

/-- R115, R278: an ATOM that its home has refused for its codes, whose command holds the key of its target. -/
def refusedAtom (c : Ctx) (t : Trap) : Option Cmd :=
  c.cq.find? fun k => (match k.op with | .atom .. => true | _ => false) && k.reqs != 0 && k.state == .trapped &&
    k.ga.toNat % 2 ^ 56 == t.i0.toNat

/-- R95, R377, R384, R444: the unit that a CHECK_MISMATCH implicates: the HBM frame of an ATOM's target; the core, for a run of
its accumulators; the Heel bank of a latch that came from a frame; the M-slot lane for another register or latch check; else
the local bank. A latch that failed its code stands among the latches with V clear, whatever register it names. Heel banks
are numbered from 1,024, and an HBM frame by its key (log 143). -/
def implicated (c : Ctx) (t : Trap) : Nat × Nat :=
  let a := t.i0.toNat
  match refusedAtom c t with
  | some k => (4, (k.buf.headD []).headD 0 / 65536)
  | none =>
  if a / 2 ^ 31 = 1 ∧ t.i2.toNat / 2 ^ 12 % 16 = 3 then (2, a % 2 ^ 31)
  else
  let f := frameAddr c + 0x800
  let latch := (c.saved.map (·.latches)).getD c.latches |>.any fun l => !l.valid && l.bad.all fun x => x.cause != 0x16
  if t.i2.toNat / 2 ^ 4 % 16 = 5 ∧ (latch ∨ t.i2.toNat / 2 ^ 32 % 256 ≠ 0) then
    if f ≤ a ∧ a < f + 512 then (0, 1024 + a / 32 % 64) else (1, 5)
  else (0, bankOf c.upper a)

/-- R377, R378: FATAL_CONTEXT of the context at hand: its frame is written, or the cause is put into the frame that stands
already, and its launch ends. -/
def fatalNow (s : State) (t : Trap) : State :=
  failLaunch (if s.ctx.saved.isSome then writeCause (s.up fun c => { c with cands := [] }) t else saveFrame s t) t

/-- R312, R365, R377: a logit task is in the Cobbler's hands with LOGIT_FAULT, its frame written or, when it fails in its
handler, standing already. -/
def takeLogitFault (s : State) (pc : Word) : State :=
  let t : Trap := ⟨0x24, fw s 0, fw s 1, fw s 2, pc⟩
  let s := if s.ctx.saved.isSome then
      (writeCause s t).up fun c => { c with cands := [], tcause := t.cause, tinfo := #v[t.i0, t.i1, t.i2, t.i3] }
    else saveFrame s t
  post (s.up fun c => { c with status := .trapped }) (.logitFault s.ctx.cid)

/-- R446: one entry of the log, for what was detected at a tick, written whole before TOTAL rises. -/
def logEntry (s : State) (tick cause cls ukind unit : Nat) (addr : Word) (ctx : Nat) : State :=
  let k := s.cob.total
  let bs := leBytes 8 tick ++ leBytes 2 cause ++ leBytes 1 cls ++ leBytes 1 ukind ++ leBytes 4 unit ++
    leBytes 8 addr.toNat ++ leBytes 2 ctx ++ leBytes 6 0
  let m := memPut s.mem (heelKey (0x5C00020 + 32 * (k % Config.logEntries))) bs
  { s with mem := memPut m (heelKey 0x5C00000) (leBytes 8 (k + 1)), cob := { s.cob with total := k + 1 } }

/-- R446: the UNIT of an entry: the island, and the bank, lane or port; an HBM frame has none of them. -/
def unitField (ukind unit idx : Nat) : Nat := if ukind = 4 then 0 else unit + 2 ^ 16 * (idx % 256)

/-- R377, R445: the context at hand receives the class of the test that its CHECK_MISMATCH, detected at a tick, joined. -/
def takeClass (s : State) (tick : Nat) (t : Trap) (ukind unit idx : Nat) (pass : Bool) : State :=
  let s := logEntry s tick 0x16 (b2n !pass) ukind (unitField ukind unit idx) t.i0 s.ctx.cid
  if pass then deliverTvec s t else fatalNow s { t with cause := 0x21 }

/-- R444, R445: the test of the unit that a CHECK_MISMATCH of the context at hand implicates starts, or is joined. -/
def testMismatch (s : State) (t : Trap) : State :=
  let c := s.ctx
  let (k, b) := implicated c t
  startTest s k (if k = 4 then 0 else c.gunit) b t.i0 [c.cid]

/-- R377, R444, R445: a CHECK_MISMATCH of the context at hand, whose frame stands, in the Cobbler's hands: classified already by
the test at whose fence the context waited, or to be tested. -/
def takeMismatch (s : State) (t : Trap) : State :=
  let c := s.ctx
  let (k, b) := implicated c t
  match s.cob.classified.find? fun x => x.cid == c.cid && x.ukind == k && x.idx == b && c.tclk ≤ x.tclk + 1 with
  | some x =>
    takeClass { s with cob := { s.cob with classified := s.cob.classified.filter fun y => y != x } } s.tick t k
      (if k = 4 then 0 else c.gunit) b x.pass
  | none => testMismatch s t

/-- R365 to R369, R373, R377, R444: the context at hand takes an event at its boundary at T. A logit task is ended by any trap
(R312), and a mismatch is tested there too. In handler state every other trap is FATAL_CONTEXT, whose cause goes into the frame that stands. Otherwise the
frame is written, and the cause goes to TVEC or to the Cobbler, whose action is posted. -/
def takeTrap (s : State) (t : Trap) : State :=
  let s := { s with free := s.free + 1 }
  let s := s.up fun c => { c with iss := { c.iss with trapped := true } }
  let c := s.ctx
  let svc := t.cause == 0x10 && t.i1 == 1
  let interrupt := t.cause == 0x30 || t.cause == 0x31 || t.cause == 0x33 || t.cause == 0x23
  let tested := fun s : State => if t.cause = 0x16 then testMismatch s t else s
  if (logitSlot c).isSome ∧ !interrupt then takeLogitFault (tested s) t.i3
  else if c.status = .handler then fatalNow (tested s) { t with cause := 0x21 }
  else if t.cause = 0x21 ∨ t.cause = 0x25 then fatalNow s t
  else
    let s := saveFrame s t
    if toCobbler t.cause svc then
      let s := s.up fun c => { c with status := .trapped }
      match t.cause with
      | 0x16 => takeMismatch s t
      | 0x10 =>
        if t.i0 = 0x0E01 ∨ t.i0 = 0x0E02 then s else deliverTvec s t
      | 0x22 => deliverTvec s t
      | 0x23 => leaveRole (s.up fun c => { c with status := .running, preLate := false, preReq := false, preCnt := 0 }) c.cid
      | _ => s
    else deliverTvec s t

/-! ## Returning -/

/-- R371, R375, R385: a saved latch as its record now stands: discarded when V is 0, with the record's VALUE, CODE and
flags, due at T + REM. A mismatch that its commit surfaces stays with it until a handler writes VALUE (writeFdat). -/
def reloadLatch (s : State) (t i : Nat) (l : Latch) : Option Latch :=
  let w0 := (frameDword s (256 + 2 * i)).toNat
  let w1 := frameDword s (257 + 2 * i)
  if w0 / 2 ^ 63 = 0 then none
  else
    let l := { l with
      due := t + w0 % 2 ^ 20
      flags := BitVec.ofNat 6 (w0 / 2 ^ 42)
      frm := some (frameAddr s.ctx + 0x808 + 16 * i)
      valid := true }
    if l.ld.isSome then some l
    else some { l with val := w1, syn := BitVec.ofNat 16 (w0 / 2 ^ 20) ^^^ wordCode w1 }

/-- The latches of the frame. -/
def reloadLatches (s : State) (t : Nat) (ls : List Latch) : List Latch :=
  ((List.range ls.length).zip ls).filterMap fun (i, l) => reloadLatch s t i l

/-- Dwords i to i + n − 1 of the frame. -/
def frameRange (s : State) (i n : Nat) : List Nat := (List.range n).map fun k => (frameDword s (i + k)).toNat

/-- A list as a vector, padded. -/
def vec {α : Type} (n : Nat) (d : α) (l : List α) : Vector α n := Vector.ofFn fun i => l.getD i.val d

/-- R369, R375: the registers of the frame; g0 and p0 take nothing (R159), and `held` says which levels hold an LSTART and an
LEND. -/
def reloadRegs (s : State) (order : List (Fin 8)) (held : List (Bool × Bool)) : Regs :=
  let f := fun i => frameDword s i
  let n := fun i => (frameDword s i).toNat
  let fs := n 0
  let gs := (List.range 32).map fun i => if i = 0 then 0 else f (32 + i)
  let ws := fun i => frameRange s i 24
  let sh := fun i => (List.range 12).map fun k =>
    Shape.ofNat ((ws i).getD (2 * k) 0 + 2 ^ 64 * (ws i).getD (2 * k + 1) 0)
  { g := vec 32 0 gs
    gsyn := vec 32 0 ((List.range 32).map fun i => if i = 0 then 0 else
      BitVec.ofNat 16 (n (64 + i / 4) / 2 ^ (16 * (i % 4))) ^^^ wordCode (gs.getD i 0))
    p := vec 8 false ((List.range 8).map fun i => i != 0 && n 17 / 2 ^ i % 2 == 1)
    pm := vec 8 0 ((List.range 8).map fun i => (f (72 + i)).setWidth 48)
    q := vec 4 0 ((List.range 4).map fun i => f (80 + i))
    sh := vec 12 Shape.zero (sh 160)
    sd := vec 12 Shape.zero (sh 184)
    loops := vec 6 Loop.zero ((List.range 6).map fun l =>
      let b := 96 + 8 * l
      let (hs, he) := held.getD l (false, false)
      let h := fun b i => if b then some (f i) else none
      ⟨fs / 2 ^ (54 + l) % 2 == 1, BitVec.ofNat 48 (n b), BitVec.ofNat 48 (n (b + 1)), f (b + 2), f (b + 3),
        h hs (144 + 2 * l), h he (145 + 2 * l), vec 4 ⟨false, 0, 0, 0⟩ ((List.range 4).map fun k => Stride.ofWord (f (b + 4 + k)))⟩)
    order := order
    ft := vec 16 0 ((List.range 16).map fun i => BitVec.ofNat 32 (n (208 + i / 2) / 2 ^ (32 * (i % 2))))
    st := vec 32 0 ((List.range 32).map fun i => BitVec.ofNat 16 (n (216 + i / 4) / 2 ^ (16 * (i % 4))))
    cht := vec 8 0 ((List.range 8).map fun i => f (224 + i))
    dset := vec 18 0 ((List.range 18).map fun i => f (232 + i))
    flg := BitVec.ofNat 6 (n 11)
    fen := BitVec.ofNat 6 (n 12)
    rmode := BitVec.ofNat 3 (n 13)
    ftbase := BitVec.ofNat 4 (n 14)
    ftlevel := BitVec.ofNat 3 (n 14 / 16)
    grace := BitVec.ofNat 32 (n 15)
    tvec := s.ctx.r.tvec }

/-- R349, R375: a wait as it resumes: a WAITP counts from 0 under the frame's GRACE. -/
def resumeWait (w : Wait) (grace : Nat) : Wait :=
  match w with
  | .waitp n t cs _ pc _ => .waitp n t cs grace pc 0
  | w => w

/-- R65: a scalar unit that trapped is performed again at T under the FEN of the frame. -/
def redoLatch (s : State) (t : Nat) (fen : BitVec 6) (l : Latch) : Latch :=
  match l.fp with
  | none => l
  | some (fl, tiny, sn) =>
    let i1 := BitVec.setWidth 64 fl
    let mk := fun c => ⟨c, fw s 0, i1, fw s 2, l.pc⟩
    { l with
      due := t
      bad := if sn ∧ fen.getLsbD 5 then some (mk 0x12)
        else if ((fl.toNat ||| (if tiny then 2 else 0)) &&& (fen.toNat % 32)) != 0 then some (mk 0x11) else none }

/-- R375: the causes that a context meets at the boundary at which it resumes: those not taken, and those that arrived while
its frame stood; a handler's own PROMISE_MISSED is gone with it. -/
def resumeCands (c : Ctx) (v : Saved) : List (Nat × Nat × Trap × Nat) :=
  v.missed ++ (c.cands.filter fun k => k.2.1 != 9).map fun k => (v.t, k.2)

/-- R202, R369, R375: where the sequencer stands as it resumes, and the end block whose boundary is still to come: as it stood,
unless a handler has written PC; control then goes there, and a boundary that was pending is gone (DEDUCED, log 22). -/
def resumeAt (v : Saved) (pc : Word) : Word × Option Word :=
  let a : Word := BitVec.ofNat 64 (pc.toNat / 4 * 4)
  if a = BitVec.ofNat 64 (v.next.toNat / 4 * 4) then (v.pc, v.fin) else (a, none)

/-- R339, R340, R375: the context at hand resumes at T from its frame. -/
def resume (s : State) : State :=
  match s.ctx.saved with
  | none => s
  | some v =>
    let f := fun i => frameDword s i
    let r := reloadRegs s v.order v.held
    let lats := reloadLatches s v.t v.latches
    let fs := (f 0).toNat
    let pend := match fs / 2 ^ 44 % 4 with
      | 1 => Pend.branch (f 7)
      | 2 => Pend.lbrk (Fin.ofNat 8 (fs / 2 ^ 41))
      | _ => Pend.none
    s.up fun c => { c with
      status := .running
      sv := c.cobbler
      r := r
      pc := (resumeAt v (f 6)).1
      tclk := v.t
      fin := (resumeAt v (f 6)).2
      latches := lats ++ v.redo.map (redoLatch s v.t r.fen)
      dws := v.dws
      grant := v.grant
      after := v.after
      cands := resumeCands c v
      wait := resumeWait v.wait r.grace.toNat
      pend := pend
      dly := fs / 2 ^ 46 % 4
      swt := if fs / 2 ^ 34 % 2 = 1 then some ((f 19).toNat % 2 ^ 16, (f 19).toNat / 2 ^ 16 % 2 == 1) else none
      detval := if fs / 2 ^ 63 = 1 then some (f 9) else none
      energy := (f 16).toNat % 2 ^ 48
      energySat := (f 16).toNat / 2 ^ 63 == 1
      saved := none }

/-- R375: the RW fields of the frame are checked as a CTLW would check them; the failing field's offset. -/
def rteCheck (s : State) : Option Word :=
  if (frameDword s 13).toNat % 8 ≥ 6 then some 0x068
  else if (frameDword s 14).toNat / 16 % 8 = 6 then some 0x070
  else none

/-- R366, R375: the return from the trap being handled; `pc` is the bundle of the RTE. -/
def returnFromTrap (s : State) (pc : Word) : State :=
  match rteCheck s with
  | some o => takeTrap s { mkTrap s 0x01 (some o) none none with i3 := pc }
  | none => resume s

end Sys2Proof.Machine
end

