-- ==== Sys2Proof/Machine/Operands.lean ====
section
/-! DEFINITION. Operand forms: shape registers with their swap, format resolution and checks 1 to 8 (R26 to R34, R71,
R72), tiles and their elements (R27), chunks (R36), C addresses (R262), queue control words (R96, R97), declared ranges
(R355) and the mode and random word of a rounding (R58, R59). -/

namespace Sys2Proof.Machine

/-! ## Shape registers -/

/-- R25: the place of a shape register among the twelve: V 0 to 3, X 4 to 7, C 8 to 11. -/
def shIdx (e r : Fin 4) : Nat := e.val * 4 + r.val

/-- An active shape register. -/
def getSh (r : Regs) (e n : Fin 4) : Shape := r.sh.toList.getD (shIdx e n) Shape.zero

/-- A shadow shape register. -/
def getSd (r : Regs) (e n : Fin 4) : Shape := r.sd.toList.getD (shIdx e n) Shape.zero

/-- A vector entry changed, when the index is in range. -/
def vset {α : Type} {n : Nat} (v : Vector α n) (i : Nat) (x : α) : Vector α n :=
  Vector.ofFn fun k => if k.val = i then x else v[k]

/-- R29: the four registers of an engine exchanged with their shadows. -/
def swapRegs (r : Regs) (e : Fin 4) : Regs :=
  { r with
    sh := Vector.ofFn fun k => if k.val / 4 = e.val then r.sd[k] else r.sh[k]
    sd := Vector.ofFn fun k => if k.val / 4 = e.val then r.sh[k] else r.sd[k] }

/-- R29: the swap of the syllable at issue, when its SW is set. -/
def doSwap (s : State) (e : Fin 4) : State := if s.ctx.iss.sw then s.upR fun r => swapRegs r e else s

/-- R194: the value of a field of a shape register, by field code. -/
def Shape.field (h : Shape) (f : Nat) : Nat :=
  match f with
  | 0 => h.base.toNat | 1 => h.pitch.toNat | 2 => h.rows.toNat | 3 => h.cols.toNat | 4 => h.off.toNat
  | 5 => h.coff.toNat | 6 => h.fmt.toNat | 7 => b2n h.t | 8 => h.edge.toNat | _ => h.acc.toNat

/-- R193, R194: a shape register with one field written from the low bits of a value. -/
def Shape.setField (h : Shape) (f : Nat) (v : Word) : Shape :=
  match f with
  | 0 => { h with base := v.setWidth 24 }
  | 1 => { h with pitch := v.setWidth 24 }
  | 2 => { h with rows := v.setWidth 16 }
  | 3 => { h with cols := v.setWidth 16 }
  | 4 => { h with off := v.setWidth 16 }
  | 5 => { h with coff := v.setWidth 16 }
  | 6 => { h with fmt := v.setWidth 5 }
  | 7 => { h with t := v.getLsbD 0 }
  | 8 => { h with edge := v.setWidth 2 }
  | 9 => { h with acc := v.setWidth 2 }
  | _ => h

/-! ## Formats from the table -/

/-- R71: the active format-table entry. -/
def activeFt (r : Regs) : BitVec 32 :=
  let lv := r.ftlevel.toNat
  let l := r.loops.toList.getD lv Loop.zero
  let x := if lv < 6 ∧ l.active then l.idx.toNat else 0
  r.ft.toList.getD ((r.ftbase.toNat + x) % 16) 0

/-- R71, R72: the field of the active entry for a register's role; none where the role has none. -/
def roleFmt (ft : BitVec 32) (e n : Fin 4) : Option Nat :=
  let f := fun hi => some (ft.toNat / 2 ^ hi % 32)
  match e.val, n.val with
  | 0, 0 => f 12
  | 0, _ => f 7
  | 1, 0 => f 17
  | 1, 1 => f 27
  | 1, 2 => f 22
  | 2, 0 => f 2
  | _, _ => none

/-- R72: a shape register with FMT = 0x1F resolved; a role without a field keeps 0x1F. -/
def resolve (s : State) (e n : Fin 4) : Shape :=
  let h := getSh s.ctx.r e n
  if h.fmt = 31 then
    match roleFmt (activeFt s.ctx.r) e n with
    | some f => { h with fmt := BitVec.ofNat 5 f }
    | none => h
  else h

/-! ## Tiles -/

/-- R27: bytes that n elements of a format span. -/
def rowBytes (f n : Nat) : Nat := (n * fmtBits f + 7) / 8

/-- R27: the format code of a tile. -/
def Shape.f (h : Shape) : Nat := h.fmt.toNat

/-- R27: bytes of a stored row. -/
def Shape.rowLen (h : Shape) : Nat := rowBytes h.f h.cols.toNat

/-- R27: logical rows. -/
def Shape.lr (h : Shape) : Nat := if h.t then h.cols.toNat else h.rows.toNat
/-- R27: logical columns. -/
def Shape.lc (h : Shape) : Nat := if h.t then h.rows.toNat else h.cols.toNat

/-- R27: byte address and bit within the byte of logical element (r, c). -/
def Shape.elemAt (h : Shape) (r c : Nat) : Nat × Nat :=
  let (sr, sc) := if h.t then (c, r) else (r, c)
  let bit := sc * fmtBits h.f
  (h.base.toNat + sr * h.pitch.toNat + bit / 8, bit % 8)

/-- R27: the bits of logical element (r, c), read through a byte reader. -/
def elemBits (rd : Nat → Byte) (h : Shape) (r c : Nat) : Nat :=
  let (a, b) := h.elemAt r c
  let w := fmtBits h.f
  if w < 8 then (rd a).toNat / 2 ^ b % 2 ^ w else leNat ((List.range (w / 8)).map fun i => rd (a + i))

/-- R27: bytes with the element at (r, c) replaced, as writes of whole bytes; `cur` gives a byte as it now stands. -/
def elemBytes (cur : Nat → Byte) (h : Shape) (r c v : Nat) : List (Nat × Byte) :=
  let (a, b) := h.elemAt r c
  let w := fmtBits h.f
  if w < 8 then
    let old := (cur a).toNat
    let cleared := old - old / 2 ^ b % 2 ^ w * 2 ^ b
    [(a, BitVec.ofNat 8 (cleared + v % 2 ^ w * 2 ^ b))]
  else (List.range (w / 8)).map fun i => (a + i, BitVec.ofNat 8 (v / 2 ^ (8 * i)))

/-- The sectors of a byte range, by number. -/
def sectorsOf (a n : Nat) : List Nat := if n = 0 then [] else (List.range ((a + n - 1) / 32 - a / 32 + 1)).map (a / 32 + ·)

/-- The sectors that hold the elements of row r, columns lo to hi − 1 of a logical tile. -/
def spanSectors (h : Shape) (r lo hi : Nat) : List Nat :=
  if h.t then dedup ((List.range (hi - lo)).map fun k => (h.elemAt r (lo + k)).1 / 32)
  else if lo < hi then
    let a := (h.elemAt r lo).1
    let z := (h.elemAt r (hi - 1)).1 + max 1 (fmtBits h.f / 8)
    sectorsOf a (z - a)
  else []

/-- R36: chunks of 128 bytes over one row of n elements of a format. -/
def chunksPerRow (f n : Nat) : Nat := (rowBytes f n + 127) / 128

/-- R36: row, first and last-plus-one column of chunk i over an extent of `cols` columns. -/
def chunkSpan (f cols i : Nat) : Nat × Nat × Nat :=
  let cpr := chunksPerRow f cols
  let per := 1024 / fmtBits f
  let k := i % cpr
  (i / cpr, k * per, min cols ((k + 1) * per))

/-- R217: the part of a chunk that lane j of 32 bytes holds. -/
def laneSpan (f lo hi j : Nat) : Nat × Nat :=
  let per := 256 / fmtBits f
  (min hi (lo + j * per), min hi (lo + (j + 1) * per))

/-! ## Checks 1 to 8 -/

/-- A use of a shape register: its number, whether it is a destination, the formats accepted. -/
structure Use where
  reg : Fin 4
  dst : Bool
  ok : List Nat

/-- R42: every format that is not accumulator-only or reserved. -/
def fmtsAll : List Nat := List.range 18 ++ [20]

/-- R236, R264, R278: the formats of 8 bits and wider. -/
def wideFmts : List Nat := fmtsAll.filter fun f => fmtBits f ≥ 8

/-- R28: bytes from a tile's first to just past its last. -/
def Shape.spanBytes (h : Shape) : Nat := (h.rows.toNat - 1) * h.pitch.toNat + h.rowLen

/-- R28: whether check k fails on one resolved register of engine e. A destination with PITCH = 0 and one row passes check 7
(DESIGN CHOICE, log 120). -/
def checkFails (c : Ctx) (e : Fin 4) (u : Use) (h : Shape) (k : Nat) : Bool :=
  match k with
  | 1 => !(u.ok.contains h.f)
  | 2 => h.rows == 0 || h.cols == 0
  | 3 => h.edge == 3
  | 4 => u.dst && h.t
  | 5 => e == 0 && h.rows.toNat * h.cols.toNat > 65535
  | 6 => let m := if e = 0 then 128 else 32; h.base.toNat % m != 0 || h.pitch.toNat % m != 0
  | 7 => if h.pitch = 0 then u.dst && h.rows.toNat > 1 else h.pitch.toNat < h.rowLen
  | _ => !(c.inGrant h.base.toNat h.spanBytes)

/-- R28: the cause of a failure of check k. -/
def checkCause (k : Nat) : Nat := if k ≤ 5 then 0x02 else if k ≤ 7 then 0x06 else 0x21

/-- R28: the first failure of the checks ks, check by check, in ascending register number. -/
def firstCheck (s : State) (e : Fin 4) (us : List Use) (hs : List Shape) (ks : List Nat) : Option Trap :=
  ks.findSome? fun k =>
    (us.zip hs).findSome? fun (u, h) =>
      if checkFails s.ctx e u h k then some (shapeTrap s (checkCause k) k u.reg.val) else none

/-- R28: all eight. -/
def checks18 : List Nat := [1, 2, 3, 4, 5, 6, 7, 8]

/-! ## C addresses -/

/-- R262: KIND 1. -/
def isRemote (a : Word) : Bool := a.getLsbD 63

/-- R262: the unit among all units that a remote scratchpad address names, and its byte address. -/
def remoteUnit (a : Word) : Nat :=
  let u := a.toNat / 2 ^ 34 % 256
  if a.toNat / 2 ^ 42 % 2 = 1 then 192 + u else u

/-- R262: the package that a remote scratchpad address names: domain, column, row. -/
def remotePkg (a : Word) : Nat × Nat × Nat :=
  (a.toNat / 2 ^ 53 % 1024, a.toNat / 2 ^ 48 % 32, a.toNat / 2 ^ 43 % 32)

/-- R262: the bytes a C address is short of: a VA or a scratchpad address. -/
def cAddr (a : Word) : Nat := if isRemote a then a.toNat % 2 ^ 24 else a.toNat % 2 ^ 56

/-- R262: fields outside the table. -/
def badCAddr (a : Word) : Bool :=
  if isRemote a then a.toNat / 2 ^ 24 % 2 ^ 10 != 0 || a.toNat / 2 ^ 53 % 1024 > 767
  else a.toNat / 2 ^ 56 != 0

/-! ## Queue control words -/

/-- R96: a queue control word. -/
structure QWord where
  tail : Nat
  head : Nat
  base : Nat
  depth : Nat
  esize : Nat
  pctx : Nat
  cctx : Nat
  resv : Nat
  deriving DecidableEq, Repr

/-- R96: the control word that a 256-bit value holds. -/
def QWord.ofNat (v : Nat) : QWord :=
  ⟨v / 2 ^ 96 % 2 ^ 32, v / 2 ^ 64 % 2 ^ 32, v / 2 ^ 40 % 2 ^ 24, v / 2 ^ 24 % 2 ^ 16, v / 2 ^ 21 % 8, v / 2 ^ 17 % 16,
    v / 2 ^ 13 % 16, v / 2 ^ 128 + v % 2 ^ 13⟩

/-- R96: the value of a control word whose reserved fields are zero. -/
def QWord.toNat (q : QWord) : Nat :=
  at' q.tail 96 + at' q.head 64 + at' q.base 40 + at' q.depth 24 + at' q.esize 21 + at' q.pctx 17 + at' q.cctx 13

/-- R96: the elements a queue holds. -/
def QWord.count (q : QWord) : Nat := (q.tail + 2 ^ 32 - q.head) % 2 ^ 32

/-- R236: the bytes of a control word as the context at hand reads them: another context's write of this real cycle is not
seen. -/
def queueBytes (s : State) (a : Nat) : List Byte :=
  match s.qprev.find? fun x => x.1 == spadKey s.ctx.gunit a && x.2.1 != s.ctx.src with
  | some x => x.2.2
  | none => spadRead s a 32

/-- The control word at a local address. -/
def readQ (s : State) (a : Nat) : QWord := QWord.ofNat (leNat (queueBytes s a))

/-- R236: the control word at an address is about to be written by the context at hand. -/
def noteQ (s : State) (a : Nat) : State :=
  { s with qprev := s.qprev ++ [(spadKey s.ctx.gunit a, s.ctx.src, spadRead s a 32)] }

/-- R96, R99: bytes 1 and 2 of a control word, which hold the claims, with a claim of a side replaced. -/
def claimBytes (s : State) (a : Nat) (push : Bool) (n : Nat) : List Byte :=
  let v := leNat (spadRead s (a + 1) 2)
  let lo := if push then 9 else 5
  leBytes 2 (v - v / 2 ^ lo % 16 * 2 ^ lo + n * 2 ^ lo)

/-- R96: the address of element j, taken modulo 2^32 first (DEDUCED, log 153). -/
def QWord.slot (q : QWord) (j : Nat) : Nat := q.base + j % 2 ^ 32 % q.depth * 2 ^ q.esize

/-- R97: the number of the first condition that fails; `fmt` is the tile's format, `push` the side (none for VQCNT). -/
def queueFault (c : Ctx) (q : QWord) (fmt : Option Nat) (push : Option Bool) : Option Nat :=
  let other := fun x => x != 15 && x != c.ctxno
  if q.resv ≠ 0 ∨ q.esize = 7 ∨ q.depth = 0 then some 1
  else if (8 ≤ q.pctx ∧ q.pctx ≤ 14) ∨ (8 ≤ q.cctx ∧ q.cctx ≤ 14) then some 2
  else if q.base % 2 ^ q.esize ≠ 0 then some 3
  else if !(c.inGrant q.base (q.depth * 2 ^ q.esize)) then some 4
  else if (fmt.any fun f => fmtBits f ≥ 8 && fmtBits f != 8 * 2 ^ q.esize) then some 5
  else if (fmt.any fun f => fmtBits f < 8) then some 6
  else if push.any (fun p => other (if p then q.pctx else q.cctx)) then some 7
  else if c.hdr.det ∧ (other q.pctx ∨ other q.cctx) then some 8
  else none

/-! ## Declared ranges (R355) -/

/-- R355: the ranges k of an engine, as (base, length). -/
def declRanges (r : Regs) (e : Nat) (lo n : Nat) : List (Nat × Nat) :=
  (List.range n).filterMap fun k =>
    let w := (r.dset.toList.getD (6 * e + lo + k) 0).toNat
    if w / 2 ^ 24 % 2 ^ 24 = 0 then none else some (w % 2 ^ 24, w / 2 ^ 24 % 2 ^ 24)

/-- A byte lies in one of some ranges. -/
def inRanges (rs : List (Nat × Nat)) (a : Nat) : Bool := rs.any fun (b, l) => b ≤ a && a < b + l

/-- R356: the lowest byte of an access of engine e that its declarations do not allow. -/
def declEscape (c : Ctx) (e : Nat) (w : Bool) (bytes : List Nat) : Option Nat :=
  if !c.hdr.det then none
  else
    let rs := declRanges c.r e 4 2 ++ (if w then [] else declRanges c.r e 0 4)
    (bytes.filter fun a => !(inRanges rs a)).min?

/-! ## Modes and random words -/

/-- R58: a mode field resolved against RMODE. -/
def resolveMode (s : State) (code : Nat) : Nat := if code = 6 then s.ctx.r.rmode.toNat else code

/-- R59: the random word of an element of an operation issued at TCLK `t` in slot `slot`. -/
def srWord (c : Ctx) (elem t slot : Nat) : Nat :=
  philox (c.hdr.seed.toNat % 2 ^ 32) (c.hdr.seed.toNat / 2 ^ 32) elem (t % 2 ^ 32)
    (slot * 2 ^ 28 + t / 2 ^ 32) ((c.wid.toNat % 2 ^ 32).xor (c.wid.toNat / 2 ^ 32))

/-- R58, R59: the mode of one rounding, its word drawn only under SR. -/
def modeOf (c : Ctx) (code elem t slot : Nat) : Mode := ⟨code, if code = 5 then srWord c elem t slot else 0⟩

end Sys2Proof.Machine
end

