-- ==== Sys2Proof/Machine/Scalar.lean ====
section
/-! DEFINITION. The S class without floating point: integer register operations (R178), immediates (R179,
R180), scalar bit operations (R187) and multiply and divide (R188). Each places its result in a latch (R175). -/

namespace Sys2Proof.Machine

/-- R165, R424: a syllable that does not act charges the charge of one that does not act. -/
def idle (s : State) : State := charge s (weight s 6)

/-- R175, R336: an S syllable: when it acts, its charge and one result latch at +lat, which carries the flags, the trap
that its commit raises, or the mismatch of a register it read (R91). -/
def sOp (s : State) (lat : Nat) (d : Dest) (srcs : List (Fin 32)) (v : Word) (fl : Nat) (bad : Option Trap) :
    Outcome State :=
  if acts s then
    .next (addLatch (charge s (weight s 0)) lat d v fl ((badReg s s.ctx.iss.sslot srcs).or bad))
  else .next (idle s)

/-- R175: an S syllable with an integer result. -/
def sInt1 (s : State) (lat : Nat) (d : Fin 32) (srcs : List (Fin 32)) (v : Word) : Outcome State :=
  sOp s lat (.g d) srcs v 0 none

/-- R179: a 16-bit immediate, sign-extended. -/
def imS (im : BitVec 16) : Word := im.signExtend 64

/-- R188: bits [127:64] of a product of integers. -/
def hiWord (p : Int) : Word := BitVec.ofInt 64 (p / 2 ^ 64)

/-- R188: the signed quotient. -/
def divS (a b : Word) : Word := if b = 0 then -1 else a.sdiv b

/-- R188: the signed remainder. -/
def remS (a b : Word) : Word := if b = 0 then a else a.srem b

/-- R187: offset and effective width of a field descriptor. -/
def fieldDesc (b : Word) : Nat × Nat :=
  let o := b.toNat % 64
  (o, min (min (b.toNat / 256 % 128) 64) (64 - o))

/-- R187: the number of set bits. -/
def popNat (w v : Nat) : Nat := (List.range w).foldl (fun a i => a + v / 2 ^ i % 2) 0

/-- R187: leading zero bits of a w-bit value. -/
def clzNat (w v : Nat) : Nat := if v = 0 then w else w - 1 - Nat.log2 v

/-- R187: trailing zero bits of a w-bit value. -/
def ctzNat (w v : Nat) : Nat := ((List.range w).find? fun i => v / 2 ^ i % 2 == 1).getD w

/-- R187: bit i of a w-bit value moved to bit w − 1 − i. -/
def brevNat (w v : Nat) : Nat := (List.range w).foldl (fun a i => a + v / 2 ^ i % 2 * 2 ^ (w - 1 - i)) 0

/-- R187: the index of the set bit with exactly n set bits below it; w when there is none. -/
def fnsNat (w v n : Nat) : Nat :=
  ((List.range w).find? fun i => v / 2 ^ i % 2 == 1 && popNat i v == n).getD w

/-- R187, R223: a field taken out of a value, zero-extended or sign-extended to w bits. -/
def bfxNat (w v o n : Nat) (sgn : Bool) : Nat :=
  if n = 0 then 0
  else
    let x := v / 2 ^ o % 2 ^ n
    if sgn ∧ x ≥ 2 ^ (n - 1) then x + 2 ^ w - 2 ^ n else x

/-- R187, R223: a field of c replaced by the low bits of a. -/
def bfiNat (c a o n : Nat) : Nat := c - c / 2 ^ o % 2 ^ n * 2 ^ o + a % 2 ^ n * 2 ^ o

/-- R178: ADD. -/
def execAdd (d a b : Fin 32) (s : State) : Outcome State :=
  sInt1 s 1 d [a, b] (rdG s a + rdG s b)

/-- R178: SUB. -/
def execSub (d a b : Fin 32) (s : State) : Outcome State :=
  sInt1 s 1 d [a, b] (rdG s a - rdG s b)

/-- R178: ADDW. -/
def execAddw (d a b : Fin 32) (s : State) : Outcome State :=
  sInt1 s 1 d [a, b] (sext32 (rdG s a + rdG s b))

/-- R178: SUBW. -/
def execSubw (d a b : Fin 32) (s : State) : Outcome State :=
  sInt1 s 1 d [a, b] (sext32 (rdG s a - rdG s b))

/-- R178: AND. -/
def execAnd (d a b : Fin 32) (s : State) : Outcome State :=
  sInt1 s 1 d [a, b] (rdG s a &&& rdG s b)

/-- R178: OR. -/
def execOr (d a b : Fin 32) (s : State) : Outcome State :=
  sInt1 s 1 d [a, b] (rdG s a ||| rdG s b)

/-- R178: XOR. -/
def execXor (d a b : Fin 32) (s : State) : Outcome State :=
  sInt1 s 1 d [a, b] (rdG s a ^^^ rdG s b)

/-- R178: ANDN. -/
def execAndn (d a b : Fin 32) (s : State) : Outcome State :=
  sInt1 s 1 d [a, b] (rdG s a &&& ~~~rdG s b)

/-- R178: ORN. -/
def execOrn (d a b : Fin 32) (s : State) : Outcome State :=
  sInt1 s 1 d [a, b] (rdG s a ||| ~~~rdG s b)

/-- R178: SHL. -/
def execShl (d a b : Fin 32) (s : State) : Outcome State :=
  sInt1 s 1 d [a, b] (rdG s a <<< ((rdG s b).toNat % 64))

/-- R178: SHR. -/
def execShr (d a b : Fin 32) (s : State) : Outcome State :=
  sInt1 s 1 d [a, b] (rdG s a >>> ((rdG s b).toNat % 64))

/-- R178: SAR. -/
def execSar (d a b : Fin 32) (s : State) : Outcome State :=
  sInt1 s 1 d [a, b] ((rdG s a).sshiftRight ((rdG s b).toNat % 64))

/-- R178: ROTL. -/
def execRotl (d a b : Fin 32) (s : State) : Outcome State :=
  sInt1 s 1 d [a, b] ((rdG s a).rotateLeft ((rdG s b).toNat % 64))

/-- R178: MIN. -/
def execMin (d a b : Fin 32) (s : State) : Outcome State :=
  sInt1 s 1 d [a, b] (if (rdG s b).slt (rdG s a) then rdG s b else rdG s a)

/-- R178: MAX. -/
def execMax (d a b : Fin 32) (s : State) : Outcome State :=
  sInt1 s 1 d [a, b] (if (rdG s a).slt (rdG s b) then rdG s b else rdG s a)

/-- R178: MINN. -/
def execMinn (d a b : Fin 32) (s : State) : Outcome State :=
  sInt1 s 1 d [a, b] (if (rdG s b).ult (rdG s a) then rdG s b else rdG s a)

/-- R178: MAXN. -/
def execMaxn (d a b : Fin 32) (s : State) : Outcome State :=
  sInt1 s 1 d [a, b] (if (rdG s a).ult (rdG s b) then rdG s b else rdG s a)

/-- R178: SEXT.b. -/
def execSextB (d a : Fin 32) (s : State) : Outcome State :=
  sInt1 s 1 d [a] (((rdG s a).setWidth 8).signExtend 64)

/-- R178: SEXT.h. -/
def execSextH (d a : Fin 32) (s : State) : Outcome State :=
  sInt1 s 1 d [a] (((rdG s a).setWidth 16).signExtend 64)

/-- R178: SEXT.w. -/
def execSextW (d a : Fin 32) (s : State) : Outcome State :=
  sInt1 s 1 d [a] (((rdG s a).setWidth 32).signExtend 64)

/-- R178: ZEXT.b. -/
def execZextB (d a : Fin 32) (s : State) : Outcome State :=
  sInt1 s 1 d [a] (((rdG s a).setWidth 8).setWidth 64)

/-- R178: ZEXT.h. -/
def execZextH (d a : Fin 32) (s : State) : Outcome State :=
  sInt1 s 1 d [a] (((rdG s a).setWidth 16).setWidth 64)

/-- R178: ZEXT.w. -/
def execZextW (d a : Fin 32) (s : State) : Outcome State :=
  sInt1 s 1 d [a] (((rdG s a).setWidth 32).setWidth 64)

/-- R179: ADDI. -/
def execAddi (d a : Fin 32) (im : BitVec 16) (s : State) : Outcome State :=
  sInt1 s 1 d [a] (rdG s a + imS im)

/-- R179: ANDI, its immediate sign-extended. -/
def execAndi (d a : Fin 32) (im : BitVec 14) (s : State) : Outcome State :=
  sInt1 s 1 d [a] (rdG s a &&& im.signExtend 64)

/-- R179: ORI, its immediate zero-extended. -/
def execOri (d a : Fin 32) (im : BitVec 14) (s : State) : Outcome State :=
  sInt1 s 1 d [a] (rdG s a ||| im.setWidth 64)

/-- R179: XORI, its immediate zero-extended. -/
def execXori (d a : Fin 32) (im : BitVec 14) (s : State) : Outcome State :=
  sInt1 s 1 d [a] (rdG s a ^^^ im.setWidth 64)

/-- R179: SHLI. -/
def execShli (d a : Fin 32) (n : BitVec 6) (s : State) : Outcome State :=
  sInt1 s 1 d [a] (rdG s a <<< n.toNat)

/-- R179: SHRI. -/
def execShri (d a : Fin 32) (n : BitVec 6) (s : State) : Outcome State :=
  sInt1 s 1 d [a] (rdG s a >>> n.toNat)

/-- R179: SARI. -/
def execSari (d a : Fin 32) (n : BitVec 6) (s : State) : Outcome State :=
  sInt1 s 1 d [a] ((rdG s a).sshiftRight n.toNat)

/-- R179: ROTLI. -/
def execRotli (d a : Fin 32) (n : BitVec 6) (s : State) : Outcome State :=
  sInt1 s 1 d [a] ((rdG s a).rotateLeft n.toNat)

/-- R180: MOVI. -/
def execMovi (d : Fin 32) (h : Fin 4) (im : BitVec 16) (s : State) : Outcome State :=
  sInt1 s 1 d [] (imS im <<< (16 * h.val))

/-- R180: MOVK, which reads gd. -/
def execMovk (d : Fin 32) (h : Fin 4) (im : BitVec 16) (s : State) : Outcome State :=
  let m : Word := 0xFFFF#64 <<< (16 * h.val)
  sInt1 s 1 d [d] (rdG s d &&& ~~~m ||| im.setWidth 64 <<< (16 * h.val))

/-- R187: CLZ. -/
def execClz (d a : Fin 32) (s : State) : Outcome State :=
  sInt1 s 1 d [a] (BitVec.ofNat 64 (clzNat 64 (rdG s a).toNat))

/-- R187: CTZ. -/
def execCtz (d a : Fin 32) (s : State) : Outcome State :=
  sInt1 s 1 d [a] (BitVec.ofNat 64 (ctzNat 64 (rdG s a).toNat))

/-- R187: POPC. -/
def execPopc (d a : Fin 32) (s : State) : Outcome State :=
  sInt1 s 1 d [a] (BitVec.ofNat 64 (popNat 64 (rdG s a).toNat))

/-- R187: BREV. -/
def execBrev (d a : Fin 32) (s : State) : Outcome State :=
  sInt1 s 1 d [a] (BitVec.ofNat 64 (brevNat 64 (rdG s a).toNat))

/-- R187: FNS. -/
def execFns (d a b : Fin 32) (s : State) : Outcome State :=
  sInt1 s 1 d [a, b] (BitVec.ofNat 64 (fnsNat 64 (rdG s a).toNat (rdG s b).toNat))

/-- R187: BFX. -/
def execBfx (d a b : Fin 32) (s : State) : Outcome State :=
  let (o, n) := fieldDesc (rdG s b)
  sInt1 s 1 d [a, b] (BitVec.ofNat 64 (bfxNat 64 (rdG s a).toNat o n true))

/-- R187: BFXN. -/
def execBfxn (d a b : Fin 32) (s : State) : Outcome State :=
  let (o, n) := fieldDesc (rdG s b)
  sInt1 s 1 d [a, b] (BitVec.ofNat 64 (bfxNat 64 (rdG s a).toNat o n false))

/-- R187: BFI, which reads gd. -/
def execBfi (d a b : Fin 32) (s : State) : Outcome State :=
  let (o, n) := fieldDesc (rdG s b)
  sInt1 s 1 d [a, b, d] (BitVec.ofNat 64 (bfiNat (rdG s d).toNat (rdG s a).toNat o n))

/-- R187: FSHL, which reads gd. -/
def execFshl (d a b : Fin 32) (s : State) : Outcome State :=
  let x := ((rdG s d).toNat * 2 ^ 64 + (rdG s a).toNat) * 2 ^ ((rdG s b).toNat % 64)
  sInt1 s 1 d [a, b, d] (BitVec.ofNat 64 (x / 2 ^ 64))

/-- R187: FSHR, which reads gd. -/
def execFshr (d a b : Fin 32) (s : State) : Outcome State :=
  let x := (rdG s a).toNat * 2 ^ 64 + (rdG s d).toNat
  sInt1 s 1 d [a, b, d] (BitVec.ofNat 64 (x / 2 ^ ((rdG s b).toNat % 64)))

/-- R188: MUL. -/
def execMul (d a b : Fin 32) (s : State) : Outcome State :=
  sInt1 s 3 d [a, b] (rdG s a * rdG s b)

/-- R188: MULH. -/
def execMulh (d a b : Fin 32) (s : State) : Outcome State :=
  sInt1 s 3 d [a, b] (hiWord ((rdG s a).toInt * (rdG s b).toInt))

/-- R188: MULHN. -/
def execMulhn (d a b : Fin 32) (s : State) : Outcome State :=
  sInt1 s 3 d [a, b] (hiWord ((rdG s a).toNat * (rdG s b).toNat))

/-- R188: DIV. -/
def execDiv (d a b : Fin 32) (s : State) : Outcome State :=
  sInt1 s 20 d [a, b] (divS (rdG s a) (rdG s b))

/-- R188: DIVN. -/
def execDivn (d a b : Fin 32) (s : State) : Outcome State :=
  sInt1 s 20 d [a, b] (if rdG s b = 0 then BitVec.allOnes 64 else rdG s a / rdG s b)

/-- R188: REM. -/
def execRem (d a b : Fin 32) (s : State) : Outcome State :=
  sInt1 s 20 d [a, b] (remS (rdG s a) (rdG s b))

/-- R188: REMN. -/
def execRemn (d a b : Fin 32) (s : State) : Outcome State :=
  sInt1 s 20 d [a, b] (if rdG s b = 0 then rdG s a else rdG s a % rdG s b)

end Sys2Proof.Machine
end

