-- ==== Sys2Proof/Machine/Units.lean ====
section
/-! DEFINITION. The units of engine commands (R35, R36, R216, R217, R246 to R250, R260, R265, R266): how many a command
has, when each is read, how long the command occupies its engine, and which scratchpad bytes it may touch. -/

namespace Sys2Proof.Machine

/-- The engine of a command: 0 V, 1 X, 2 C. -/
def CmdOp.eng : CmdOp → Fin 3
  | .elem .. | .split | .redSum _ | .redMax _ | .redMin _ | .argmax _ | .popcBit | .scan | .gath | .scat | .push | .pop
  | .qcnt | .chain _ => 0
  | .mma _ | .mmas _ | .accn | .accx | .accz | .accst | .accld => 1
  | _ => 2

/-- The slot number of R86 of an engine. -/
def slotOf (e : Fin 3) : Nat := 2 + e.val

/-- A captured shape register. -/
def Cmd.sh (c : Cmd) (i : Fin 4) : Shape := c.sr[i]

/-! ## V -/

/-- R217: the instructions that read a lane at a time. -/
def CmdOp.quad : CmdOp → Bool
  | .elem op _ => op == .div || op == .sqrt || op == .exp2 || op == .log2 || op == .rcp || op == .rsqrt
  | .scan | .gath | .scat => true
  | _ => false

/-- R36, R216: format of the chunk tile, rows and columns over which chunks lie. -/
def Cmd.chunkGeo (c : Cmd) : Nat × Nat × Nat :=
  let d := c.sh 0
  let x := c.sh 1
  match c.op with
  | .elem (.cmp _) _ => (x.f, d.lr, d.lc)
  | .elem .cvt _ => (if fmtBits d.f < fmtBits x.f then x.f else d.f, d.lr, d.lc)
  | .split | .redSum _ | .redMax _ | .redMin _ | .argmax _ | .popcBit | .scat | .push => (x.f, x.lr, x.lc)
  | _ => (d.f, d.lr, d.lc)

/-- R36: chunks of a row, and of the whole extent. -/
def Cmd.cpr (c : Cmd) : Nat := let (f, _, cols) := c.chunkGeo; chunksPerRow f cols

/-- R36: chunks of the extent. -/
def Cmd.chunks (c : Cmd) : Nat := c.chunkGeo.2.1 * c.cpr

/-- R36: row and columns of chunk i. -/
def Cmd.span (c : Cmd) (i : Nat) : Nat × Nat × Nat := let (f, _, cols) := c.chunkGeo; chunkSpan f cols i

/-! ## X -/

/-- Division rounded up. -/
def cdiv (a b : Nat) : Nat := (a + b - 1) / b

/-- R245: the width class of a matrix format: 4, 8 or 16 bits; 0 outside the classes. -/
def mmaClass (f : Nat) : Nat :=
  if f = 2 ∨ f = 3 ∨ f = 16 then 4
  else if f = 0 ∨ f = 1 ∨ f = 14 ∨ f = 15 ∨ f = 17 then 8
  else if f = 4 ∨ f = 5 ∨ f = 12 ∨ f = 13 then 16
  else 0

/-- R246: M, N, K and KB of a product. -/
def Cmd.mnk (c : Cmd) : Nat × Nat × Nat × Nat :=
  let a := c.sh 1
  let b := c.sh 2
  (a.lr, b.lc, a.lc, b.lr)

/-- R246, R247: the size of a k-group. -/
def CmdOp.kStep : CmdOp → Nat
  | .mmas _ => 32
  | _ => 16

/-- R249, R260: the task cycles of one k-group. -/
def Cmd.gLen (c : Cmd) (upper : Bool) : Nat :=
  let (m, n, _, _) := c.mnk
  let h := if upper then cdiv m 64 * cdiv n 32 else cdiv n 64
  let g := match mmaClass (c.sh 1).f with
    | 4 => 8 * h
    | 16 => 32 * h
    | _ => 16 * h
  match c.op with
  | .mmas _ => 2 * g
  | _ => g

/-- R250: the length of a read window. -/
def Cmd.gWin (c : Cmd) (upper : Bool) : Nat := min (c.gLen upper) 16

/-- R249: the k-groups of a product. -/
def Cmd.groups (c : Cmd) : Nat := let (_, _, k, _) := c.mnk; cdiv k c.op.kStep

/-! ## C -/

/-- R265: granules of a row of a data tile. -/
def granPerRow (h : Shape) : Nat := cdiv h.rowLen 64

/-- R265: granules of a data tile. -/
def granules (h : Shape) : Nat := h.rows.toNat * granPerRow h

/-- R265: row and bytes of granule i of a data tile. -/
def granSpan (h : Shape) (i : Nat) : Nat × Nat × Nat :=
  let g := granPerRow h
  let k := i % g
  (i / g, 64 * k, min h.rowLen (64 * k + 64))

/-- R266: the task cycles in which MCAST reads its replica list. -/
def Cmd.listLen (c : Cmd) : Nat :=
  let l := c.sh 1
  cdiv (8 * (l.rows.toNat * l.cols.toNat)) 64

/-- R265: the granule count of a C command: of its data tile, of its window's region, or of its header. -/
def Cmd.cCount (c : Cmd) : Nat :=
  match c.op with
  | .cpy => granules (c.sh 2)
  | .wfill | .wback | .wunmap | .qlnch => c.reqs
  | .cpg _ | .cps _ | .mcast | .coll _ | .wprop | .wtake | .wjudge => granules (c.sh 0)
  | _ => 1

/-! ## Every engine -/

/-- R35: the units of a command. -/
def Cmd.units (c : Cmd) : Nat :=
  match c.op with
  | .split => 2 * c.chunks
  | .qcnt => 1
  | .mma _ | .mmas _ => c.groups
  | .accn | .accx => (c.sh 1).lr
  | .accz => (c.sh 0).rows.toNat
  | .accst | .accld => 128
  | op => if op.eng = 0 then c.chunks else c.cCount

/-- R217, R249, R266: the task cycles a command occupies its engine. -/
def Cmd.occ (c : Cmd) (upper : Bool) : Nat :=
  match c.op with
  | .split => 2 * c.chunks + 6
  | .qcnt => 1
  | .mma _ | .mmas _ => c.groups * c.gLen upper
  | .accn => (c.sh 1).lr
  | .accx => (c.sh 1).lr + 1
  | .accz => (c.sh 0).rows.toNat
  | .accst | .accld => 256
  | .atom op _ => if op = 7 then 2 else 1
  | .mcast => c.listLen + c.cCount
  | .wtake => 8 + c.cCount
  | op => if op.eng = 0 then (if op.quad then 4 * c.chunks else c.chunks) else c.cCount

/-- R217, R249, R266: the task cycle, from the start, in which unit u is first read. -/
def Cmd.readOff (c : Cmd) (upper : Bool) (u : Nat) : Nat :=
  match c.op with
  | .split => if u < c.chunks then u else u + 6
  | .pop | .qcnt => 0
  | .mma _ | .mmas _ => u * c.gLen upper
  | .accx => u + 1
  | .accst | .accld => 2 * u
  | .mcast => c.listLen + u
  | .wtake => 8 + u
  | op => if op.quad then 4 * u else u

/-- R251, R340: how far before the resumption a command's start is placed when unit u is read again at it; ACCX reads
its B-side information first. -/
def Cmd.restartOff (c : Cmd) (upper : Bool) (u : Nat) : Nat :=
  match c.op with
  | .accx => u
  | _ => c.readOff upper u

/-! ## Operand regions (R346) -/

/-- The byte ranges of a tile's stored rows. -/
def rowRanges (h : Shape) : List (Nat × Nat) :=
  (List.range h.rows.toNat).map fun r => (h.base.toNat + r * h.pitch.toNat, h.rowLen)

/-- The ranges of a queue: its control word and its ring. -/
def queueRanges (s : State) (a : Nat) : List (Nat × Nat) :=
  let q := readQ s a
  [(a, 32), (q.base, q.depth * 2 ^ q.esize)]

/-- The region of window k of the context. -/
def winRange (c : Ctx) (k : Nat) : List (Nat × Nat) :=
  (c.wins.filter fun w => w.idx.val == k).map fun w => (w.base, w.len)

/-- R275: the region that WFILL, WBACK or WUNMAP captured at its issue. -/
def Cmd.region (c : Cmd) : Nat × Nat := ((c.buf.headD []).headD 0, 64 * c.reqs)

/-- R256: the information blocks of ACCX from INFO to the flags' end. -/
def infoRanges (g : Word) (n : Nat) : List (Nat × Nat) :=
  let v := g.toNat
  let info := v / 2 ^ 40
  let rc := v / 2 ^ 24 % 2 ^ 16
  let i0 := v / 2 ^ 8 % 2 ^ 16
  let f := cdiv (2 * rc) 128 * 128
  [(info + 2 * i0, 2 * n), (info + f + i0 / 8, (i0 + n - 1) / 8 - i0 / 8 + 1)]

/-- R226: the slice tiles and the information block of VSPLIT. -/
def splitRanges (c : Cmd) : List (Nat × Nat) :=
  let v := c.ga.toNat
  let d := c.sh 0
  let s := v / 2 ^ 24 % 16
  let r := (c.sh 1).lr
  (List.range s).flatMap (fun k => (rowRanges d).map fun x => (x.1 + k * (v % 2 ^ 24), x.2)) ++
    [(v / 2 ^ 40, 2 * r), (v / 2 ^ 40 + cdiv (2 * r) 128 * 128, cdiv r 8)]

/-- R346, R266: every scratchpad byte that a command reads or writes. -/
def cmdRegion (s : State) (c : Cmd) : List (Nat × Nat) :=
  let t := fun l : List (Fin 4) => l.flatMap fun i => rowRanges (c.sh i)
  match c.op with
  | .elem op sc =>
    match op with
    | .fill => t [0]
    | .abs | .neg | .mov | .not | .popc | .clz | .brev | .sqrt | .cvt | .exp2 | .log2 | .rcp | .rsqrt | .tran => t [0, 1]
    | .fma | .fms | .sel | .bfi | .fshl | .fshr => if sc then t [0, 1, 3] else t [0, 1, 2, 3]
    | _ => if sc then t [0, 1] else t [0, 1, 2]
  | .split => t [1] ++ splitRanges c
  | .redSum _ | .redMax _ | .redMin _ | .argmax _ | .popcBit | .scan => t [0, 1]
  | .gath | .scat => t [0, 1, 2]
  | .push => t [1, 2] ++ queueRanges s c.ga.toNat
  | .pop => t [0] ++ queueRanges s c.ga.toNat
  | .qcnt => [(c.ga.toNat, 32)]
  | .chain ops => t ([0, 1] ++ (if ops.any (·.src == 1) then [2] else []) ++ if ops.any (·.src == 2) then [3] else [])
  | .mma _ => t [1, 2]
  | .mmas _ => t [1, 2, 3]
  | .accn => t [1]
  | .accx => t [1, 2] ++ infoRanges c.ga (c.sh 1).lr ++ infoRanges c.gb (c.sh 1).lc
  | .accz | .accst | .accld => []
  | .cpg x | .cps x => t (if x then [0, 1] else [0])
  | .wfill | .wback | .wunmap => [c.region]
  | .atom op _ => t (if op = 7 then [0, 2] else [0])
  | .mcast => t [0, 1]
  | .coll _ => t [0, 2]
  | .qlnch => [(c.ga.toNat, 64 * c.reqs)]
  | .wprop | .wtake | .wjudge => t [0]
  | _ => []

/-- R346: the bytes that a command has still to receive: its own arrivals, and its deliveries into the context's own
scratchpad. -/
def cmdDest (s : State) (c : Cmd) : List (Nat × Nat) :=
  if c.left = 0 then []
  else
    let home := fun a : Word => isRemote a && remoteUnit a == s.ctx.gunit
    let away := fun (a : Word) (h d : Shape) => if home a then
        (List.range h.rows.toNat).map fun r =>
          (a.toNat % 2 ^ 24 + r * (if d.pitch = 0 then h.rowLen else d.pitch.toNat), h.rowLen) else []
    match c.op with
    | .cpg _ => rowRanges (c.sh 0)
    | .wfill => [c.region]
    | .atom _ nr => if nr then [] else rowRanges (c.sh 0)
    | .coll _ => rowRanges (c.sh 2)
    | .cps _ => away c.ga (c.sh 0) (c.sh 2)
    | .cpy => away c.ga (c.sh 2) (c.sh 2)
    | .mcast => c.buf.flatten.flatMap fun a => away (BitVec.ofNat 64 a) (c.sh 0) (c.sh 2)
    | _ => []

/-- The lowest byte that two lists of ranges share. -/
def overlap (a b : List (Nat × Nat)) : Option Nat :=
  (a.flatMap fun (x, n) => b.filterMap fun (y, m) =>
    if max x y < min (x + n) (y + m) then some (max x y) else none).min?

/-- R346: the lowest byte of a command's region that an incomplete command of the context has still to write. -/
def missed (s : State) (c : Cmd) : Option Nat :=
  overlap (cmdRegion s c) ((s.ctx.cq.filter fun x => x.id != c.id).flatMap (cmdDest s))

end Sys2Proof.Machine
end

