-- ==== Sys2Proof/Machine/Command.lean ====
section
/-! DEFINITION. Engine command queues and the issue of an engine syllable (R214, R243, R263, R344 to R347). -/

namespace Sys2Proof.Machine

/-- R344: the command queue of an engine. -/
def Ctx.queue (c : Ctx) (e : Fin 3) : List Cmd :=
  match e with
  | 0 => c.vq
  | 1 => c.xq
  | 2 => c.cq

/-- The queue of an engine, replaced. -/
def Ctx.setQueue (c : Ctx) (e : Fin 3) (q : List Cmd) : Ctx :=
  match e with
  | 0 => { c with vq := q }
  | 1 => { c with xq := q }
  | 2 => { c with cq := q }

/-- One command of an engine changed. -/
def updCmd (c : Ctx) (e : Fin 3) (id : Nat) (f : Cmd → Cmd) : Ctx :=
  c.setQueue e ((c.queue e).map fun x => if x.id == id then f x else x)

/-- R344: commands that hold an entry. -/
def Ctx.entries (c : Ctx) (e : Fin 3) : List Cmd := (c.queue e).filter fun x => !x.freed

/-- R217, R249, R266: the task cycle at which the engine has finished with every command it holds; of one that has begun
and stopped, what is left of its occupancy counts (R340). -/
def freeAt (c : Ctx) (e : Fin 3) : Nat :=
  (c.entries e).foldl (fun t x =>
    match x.state with
    | .queued => max t x.nominal + (x.occ c.upper - if x.began.isSome then x.restartOff c.upper x.rp else 0)
    | .trapped => max t (c.now - x.restartOff c.upper x.rp + x.occ c.upper)
    | _ => max t (x.base + x.occ c.upper)) 0

/-- R347: TIMING_FAULT of the syllable at issue. -/
def timingTrap (s : State) (e : Fin 3) (reason start addr : Nat) : Trap :=
  mkTrap s 0x14 (some (BitVec.ofNat 64 (at' (slotOf e) 12 + at' s.ctx.iss.pos 8 + reason)))
    (some (BitVec.ofNat 64 start)) (some (BitVec.ofNat 64 addr))

/-- R214, R243, R263: check 10, with the offending register's number or 15. -/
def limitTrap (s : State) (r : Nat) (i1 : Option Word := none) : Trap := shapeTrap s 0x02 10 r i1

/-- R345: the nominal start of the syllable at issue. -/
def nominalStart (s : State) : Nat := if s.ctx.iss.tm then (rdG s s.ctx.iss.b).toNat % 2 ^ 48 else s.ctx.now

/-- R345: gb[63:48] of a timed command is nonzero. -/
def startForm (s : State) : Option Trap :=
  if s.ctx.iss.tm ∧ (rdG s s.ctx.iss.b).toNat / 2 ^ 48 ≠ 0 then some (limitTrap s 15) else none

/-- R91: the scalar registers that the syllable reads, its start register among them when it is timed. -/
def scalarCheck (s : State) (e : Fin 3) (rs : List (Fin 32)) : Option Trap :=
  badReg s (slotOf e) (rs ++ if s.ctx.iss.tm then [s.ctx.iss.b] else [])

/-- R344, R345: a full queue, then a start below the issue. -/
def queueCheck (s : State) (e : Fin 3) : Option Trap :=
  if (s.ctx.entries e).length ≥ Config.queueDepth then some (timingTrap s e 3 s.ctx.now 0)
  else if nominalStart s < s.ctx.now then some (timingTrap s e 2 (nominalStart s) 0)
  else none

/-- R346, R352, R294, R445: the bundle at issue is held at its task cycle, for a missed operand (0), a switch of the
operating point (1), a fifth lane command (2) or a fenced Heel bank (4). -/
def holdBundle (s : State) (k : Nat) : State := s.up fun c => { c with wait := .hold k, iss := { c.iss with trapped := true } }

/-- R352: a switch of the core's operating point is pending. -/
def switchPending (s : State) : Bool :=
  let u := getIsland s s.ctx.vf
  u.pendOp.isSome || u.settle.isSome

/-- R31: the command record of the syllable at issue. -/
def newCmd (s : State) (op : CmdOp) (sh : Fin 4 → Shape) (ga gb : Word) (aux mode : Nat) (dst : Fin 32) : Cmd :=
  let c := s.ctx
  let w := c.iss.word.toNat
  { id := s.fresh, op := op, sr := Vector.ofFn sh, ga := ga, gb := gb, aux := aux
    cmdw := BitVec.ofNat 64 (at' (w / 2 ^ 26 % 32) 27 + at' (w / 2 ^ 13 % 128) 20 + at' (w % 8) 17 +
      at' c.iss.pos 13 + at' (b2n c.iss.tm) 12)
    pos := c.iss.pos, pc := c.iss.pc, issue := c.now, nominal := nominalStart s, base := 0, state := .queued, rp := 0
    buf := [], note := none, paid := [], began := none, fen := c.r.fen, mode := mode, st := [], dst := dst, scope := c.pfx.scope, prom := 0
    left := 1, reqs := 0, stamps := c.stamps.toList, own := c.pubd, phase := c.openPh, regs := [], freed := false }

/-- R72: the four shape registers of an engine as the syllable at issue captures them. -/
def captured (s : State) (e : Fin 3) (i : Fin 4) : Shape := resolve s e.castSucc i

/-- R29, R214 step 1: the state after the exchange of the shape registers that the syllable's w asks for. -/
def swapped (s : State) (e : Fin 3) : State := doSwap s e.castSucc

/-- R28, R214 steps 2 and 3: the first failure of checks 1 to 8, each over the registers that take it. -/
def shapeCheck (s : State) (e : Fin 3) (sh : Fin 4 → Shape) (us : List Use) (ks : Use → List Nat) : Option Trap :=
  checks18.findSome? fun k =>
    firstCheck s e.castSucc (us.filter fun u => (ks u).contains k)
      ((us.filter fun u => (ks u).contains k).map fun u => sh u.reg) [k]

/-- R72, R243, R263: step 2: FMT = 0x1F in a register that takes no format of its engine's: xd3, and cd1 to cd3 as
tiles or as global descriptors (log 121). -/
def unresolved (s : State) (e : Fin 3) (sh : Fin 4 → Shape) (us : List Use) : Option Trap :=
  ((List.finRange 4).find? fun r => (us.any fun u => u.reg == r) && (sh r).f == 0x1F &&
    ((e == 1 && r == 3) || (e == 2 && r != 0))).map fun r => shapeTrap s 0x02 1 r.val

/-- R214, R243, R263, R344, R345: what the issue of an engine syllable raises: checks 1 to 8, the checks of the
instruction after them, a full queue, a start below the issue. -/
def issueTrap (s : State) (e : Fin 3) (uses : (Fin 4 → Shape) → List Use) (ks : Use → List Nat)
    (lim : State → (Fin 4 → Shape) → Option Trap) : Option Trap :=
  let s1 := swapped s e
  let sh := captured s1 e
  (((unresolved s1 e sh (uses sh)).or (shapeCheck s1 e sh (uses sh) ks)).or (lim s1 sh)).or (queueCheck s1 e)

/-- R31, R72: the record of the syllable at issue, completed by `fin`, and the state that goes with it. -/
def issueCmd (s : State) (op : CmdOp) (ga gb : Word) (aux mode : Nat) (dst : Fin 32) (fin : State → Cmd → State × Cmd) :
    State × Cmd :=
  let s1 := swapped s op.eng
  fin { s1 with fresh := s1.fresh + 1 } (newCmd s1 op (captured s1 op.eng) ga gb aux mode dst)

/-- R345: the command would start at its issue. -/
def startsNow (s : State) (cmd : Cmd) : Bool := max cmd.nominal (freeAt s.ctx cmd.op.eng) == s.ctx.now

/-- R346: the lowest byte that a command starting at its issue would miss. -/
def issueMissed (s : State) (cmd : Cmd) : Option Nat :=
  let s1 := swapped s cmd.op.eng
  if startsNow s1 cmd then missed s1 cmd else none

/-- R352: a C command that would start at its issue waits for a pending switch of the operating point. -/
def issueSwitch (s : State) (cmd : Cmd) : Bool :=
  startsNow (swapped s cmd.op.eng) cmd && cmd.op.eng == 2 && switchPending s

/-- R344, R424: the command takes its entry, and the syllable its charge. -/
def enqueueCmd (s : State) (cmd : Cmd) : State :=
  (charge s (weight s 5)).up fun c => c.setQueue cmd.op.eng (c.queue cmd.op.eng ++ [cmd])

/-- R214 steps 1 to 3 with checks ks: the swap, the resolution, and checks 1 to 8; then the checks of the instruction
after them; then R344 to R346; then the capture. `fin` completes the record and the state. -/
def engineOp (s : State) (op : CmdOp) (uses : (Fin 4 → Shape) → List Use) (ks : Use → List Nat) (ga gb : Word) (aux mode : Nat) (dst : Fin 32)
    (lim : State → (Fin 4 → Shape) → Option Trap) (fin : State → Cmd → State × Cmd) : Outcome State :=
  if acts s then
    match issueTrap s op.eng uses ks lim with
    | some t => .next (takeTrap s t)
    | none =>
      let x := issueCmd s op ga gb aux mode dst fin
      match issueMissed s x.2 with
      | some a =>
        if s.ctx.hdr.det then .next (holdBundle s 0)
        else .next (takeTrap s (timingTrap (swapped s op.eng) op.eng 1 x.2.nominal a))
      | none => if issueSwitch s x.2 then .next (holdBundle s 1) else .next (enqueueCmd x.1 x.2)
  else .next (idle s)

/-- R28: every check on every register. -/
def allChecks (_ : Use) : List Nat := checks18

/-- A capture that adds nothing. -/
def plainCapture (s : State) (c : Cmd) : State × Cmd := (s, c)

/-- R366, R86: the requester of a command's unit. -/
def Cmd.requester (c : Cmd) (x : Ctx) (opnd : Nat) : Word := Machine.requester x (slotOf c.op.eng) c.pos opnd

/-- R366: a trap of a unit of a command; words that no rule states are free. -/
def unitTrap (s : State) (c : Cmd) (cause : Nat) (i0 i1 i2 : Option Word) : Trap :=
  ⟨cause, i0.getD (fw s 0), i1.getD (fw s 1), i2.getD (fw s 2), c.pc⟩

end Sys2Proof.Machine
end

