-- ==== Sys2Proof/Machine/Special.lean ====
section
/-! DEFINITION. The special functions of R73 and R74 (2^x, log2, reciprocal, reciprocal root of FP32), rounded once from
a bracket of the exact value that is narrower than any rounding boundary can resolve. -/

namespace Sys2Proof.Machine

/-- Bits of the fixed-point values of this file. -/
def spBits : Nat := 320

/-- The product of 2^(2^−i) over the set bits of a fraction f of w bits, highest first, at spBits bits: `root` is the
current 2^(2^−i). -/
def exp2Go (f : Nat) : Nat → Nat → Nat → Nat
  | 0, _, acc => acc
  | w + 1, root, acc =>
    let r := isqrt (root * 2 ^ spBits)
    exp2Go f w r (if f / 2 ^ w % 2 = 1 then acc * r / 2 ^ spBits else acc)

/-- R73, R74: VEXP2 of an FP32 element. -/
def spExp2 (bits : Nat) : Res :=
  match fpDecode 11 bits with
  | .nan s r => nanRes 11 (if s || r then flNV else 0) s
  | .inf n => if n then .plain 0 else infRes 11 false
  | .fin n m e =>
    if m = 0 then .plain 0x3F800000
    else if cmpDy m e 1 11 != .lt then roundTo 11 ⟨0, 0⟩ false ⟨1, if n then -400 else 400, n⟩
    else
      let w := (-e).toNat
      let x := sInt n m * 2 ^ e.toNat
      let i := x / (2 ^ w : Int)
      let f := (x % (2 ^ w : Int)).toNat
      if f = 0 then roundTo 11 ⟨0, 0⟩ false ⟨1, i, false⟩
      else roundTo 11 ⟨0, 0⟩ false ⟨exp2Go f w (2 * 2 ^ spBits) (2 ^ spBits), i - spBits, true⟩

/-- The first bits of log2 of x / 2^spBits in [1, 2), by repeated squaring. -/
def log2Go : Nat → Nat → Nat → Nat
  | 0, _, acc => acc
  | n + 1, x, acc =>
    let y := x * x / 2 ^ spBits
    if y ≥ 2 * 2 ^ spBits then log2Go n (y / 2) (2 * acc + 1) else log2Go n y (2 * acc)

/-- R73, R74: VLOG2 of an FP32 element. -/
def spLog2 (bits : Nat) : Res :=
  match fpDecode 11 bits with
  | .nan s r => nanRes 11 (if s || r then flNV else 0) s
  | .inf n => if n then nanRes 11 flNV false else infRes 11 false
  | .fin n m e =>
    if m = 0 then let r := infRes 11 true; { r with fl := flDZ }
    else if n then nanRes 11 flNV false
    else
      let k := Nat.log2 m
      let top : Int := e + k
      if m = 2 ^ k then roundExact 11 ⟨0, 0⟩ top 0 false
      else
        let b := log2Go 120 (m * 2 ^ spBits / 2 ^ k) 0
        let v : Int := top * 2 ^ 120 + b
        if v < 0 then roundTo 11 ⟨0, 0⟩ true ⟨v.natAbs - 1, -120, true⟩
        else roundTo 11 ⟨0, 0⟩ false ⟨v.natAbs, -120, true⟩

/-- R73, R74: VRCP of an FP32 element. -/
def spRcp (bits : Nat) : Res := fpDiv 11 ⟨0, 0⟩ (.fin false 1 0) (fpDecode 11 bits)

/-- R73, R74: VRSQRT of an FP32 element. -/
def spRsqrt (bits : Nat) : Res :=
  match fpDecode 11 bits with
  | .nan s r => nanRes 11 (if s || r then flNV else 0) s
  | .inf n => if n then nanRes 11 flNV false else .plain 0
  | .fin n m e =>
    if m = 0 then let r := infRes 11 n; { r with fl := flDZ }
    else if n then nanRes 11 flNV false
    else
      let odd := e % 2 != 0
      let m' := if odd then 2 * m else m
      let e' := (if odd then e - 1 else e) / 2
      let y := isqrt (2 ^ 600 / m')
      roundTo 11 ⟨0, 0⟩ false ⟨y, -300 - e', y * y * m' != 2 ^ 600⟩

end Sys2Proof.Machine
end

