-- ==== Sys2Proof/Machine/Elem.lean ====
section
/-! DEFINITION. The element operations of V (R73 to R77, R220 to R223, R228, R229, R235): what one element, one
reduction group or one digit string of VSPLIT comes to, with its flags. -/

namespace Sys2Proof.Machine

/-- R213, R220: an integer result that wraps, or saturates when the modifier is 1. -/
def intRes (f mode : Nat) (v : Int) : Res := if mode = 1 then satRes f v else .plain (wrapBits (fmtBits f) v)

/-- R222: the relation on two elements, with invalid where R222 raises it. -/
def cmpElem (r f a b : Nat) : Res :=
  if fmtIsInt f then
    let o := compare (intDecode f a) (intDecode f b)
    let t := match r with
      | 0 => o == .eq | 1 => o != .eq | 2 => o == .lt | 3 => o != .gt | 4 => o == .gt | 5 => o != .lt | _ => false
    .plain (b2n t)
  else
    let x := fpDecode f a
    let y := fpDecode f b
    let (nf, sn) := nanFlags [x, y]
    let o := fpCompare x y
    let t := match r with
      | 0 => o == some .eq
      | 1 => o != some .eq
      | 2 => o == some .lt
      | 3 => o == some .lt || o == some .eq
      | 4 => o == some .gt
      | 5 => o == some .gt || o == some .eq
      | _ => o == none
    let ordered := 2 ≤ r && r ≤ 5
    ⟨b2n t, nf ||| (if ordered && o.isNone then flNV else 0), false, sn⟩

/-- R223: offset and effective width of a descriptor for elements of w bits. -/
def descOf (w d : Nat) : Nat × Nat :=
  let o := d % w
  (o, min (min (d / 2 ^ 8 % 128) w) (w - o))

/-- R220 to R225: one element: `f` is the source format, `g` the destination's, `mode` 1 for saturation, `md` the
rounding mode. -/
def elemOp (op : EOp) (f g mode : Nat) (md : Mode) (a b d : Nat) : Res :=
  let w := fmtBits f
  let int := fmtIsInt f
  let ia := intDecode f a
  let ib := intDecode f b
  let ic := intDecode f d
  let va := fpDecode f a
  let vb := fpDecode f b
  let vd := fpDecode f d
  match op with
  | .add => if int then intRes f mode (ia + ib) else fpAdd f md va vb
  | .sub => if int then intRes f mode (ia - ib) else fpAdd f md va vb.negate
  | .mul => if int then intRes f mode (ia * ib) else fpMul f md va vb
  | .mulh => .plain (wrapBits w (ia * ib / 2 ^ w))
  | .fma => if int then intRes f mode (ia * ib + ic) else fpFma f md va vb vd
  | .fms => if int then intRes f mode (ic - ia * ib) else fpFma f md va.negate vb vd
  | .min => if int then .plain (if ib < ia then b else a) else fpMinMax f false a b
  | .max => if int then .plain (if ia < ib then b else a) else fpMinMax f true a b
  | .abs => if int then (if fmtSigned f then intRes f mode ia.natAbs else .plain a) else .plain (a % 2 ^ (w - 1))
  | .neg => if int then intRes f mode (-ia) else .plain (a.xor (2 ^ (w - 1)))
  | .div => fpDiv f md va vb
  | .sqrt => fpSqrt f md va
  | .mov | .tran | .fill => .plain a
  | .and => .plain (a &&& b)
  | .or => .plain (a ||| b)
  | .xor => .plain (a.xor b)
  | .andn => .plain (a &&& (b.xor (2 ^ w - 1)))
  | .not => .plain (a.xor (2 ^ w - 1))
  | .shl => .plain (a * 2 ^ (b % w) % 2 ^ w)
  | .shr => .plain (a / 2 ^ (b % w))
  | .sar =>
    let sa : Int := if a ≥ 2 ^ (w - 1) then (a : Int) - 2 ^ w else a
    .plain (wrapBits w (sa / 2 ^ (b % w)))
  | .cmp r => cmpElem r f a b
  | .sel => .plain (if d ≠ 0 then a else b)
  | .popc => .plain (popNat w a)
  | .clz => .plain (clzNat w a)
  | .brev => .plain (brevNat w a)
  | .fns => .plain (fnsNat w a b)
  | .bfx => let (o, n) := descOf w b; .plain (bfxNat w a o n (fmtSigned f))
  | .bfi => let (o, n) := descOf w b; .plain (bfiNat d a o n)
  | .fshl => .plain ((a * 2 ^ w + d) * 2 ^ (b % w) / 2 ^ w % 2 ^ w)
  | .fshr => .plain ((a * 2 ^ w + d) / 2 ^ (b % w) % 2 ^ w)
  | .cvt => convert f g md a
  | .exp2 => spExp2 a
  | .log2 => spLog2 a
  | .rcp => spRcp a
  | .rsqrt => spRsqrt a

/-! ## Groups -/

/-- The place, flags and info of a trapping result: a rank of R37, an element index and flags. -/
structure Hit where
  rank : Nat
  idx : Nat
  fl : Nat
  deriving DecidableEq, Repr

/-- R75: one level of the tree, pair by pair: results with the lowest index that feeds each, flags, roundings so far and
the first node whose flags trap. -/
def treeLevel (add : Nat → Nat → Nat → Res) (fen : BitVec 6) :
    List (Nat × Nat) → Nat → List (Nat × Nat) × Nat × Nat × Option Hit
  | (a, i) :: (b, j) :: t, k =>
    let r := add k a b
    let (l, fl, k', h) := treeLevel add fen t (k + 1)
    ((r.bits, min i j) :: l, fl ||| r.fl, k', if fpTraps fen r then some ⟨5, min i j, r.fl⟩ else h)
  | l, k => (l, 0, k, none)

/-- R75: the levels of the tree; the fuel is its depth. -/
def treeGo (add : Nat → Nat → Nat → Res) (fen : BitVec 6) :
    Nat → List (Nat × Nat) → Nat → Nat → Option Hit → Nat × Nat × Option Hit
  | 0, l, _, fl, h => ((l.headD (0, 0)).1, fl, h)
  | n + 1, l, k, fl, h =>
    let (l', fl', k', h') := treeLevel add fen l k
    treeGo add fen n l' k' (fl ||| fl') (h.or h')

/-- The depth of a tree over n values. -/
def depthOf (n : Nat) : Nat := if n ≤ 1 then 0 else Nat.log2 (n - 1) + 1

/-- R75, R228: the sum of a group (bits with their row-major indices): bits, flags and the node that traps. -/
def sumGroup (f : Nat) (mode : Nat → Mode) (fen : BitVec 6) (xs : List (Nat × Nat)) : Nat × Nat × Option Hit :=
  if fmtIsInt f then
    (wrapBits (fmtBits f) (xs.foldl (fun (a : Int) x => a + intDecode f x.1) 0), 0, none)
  else
    match xs with
    | [] => (0, 0, none)
    | [(x, i)] =>
      match fpDecode f x with
      | .nan s _ =>
        let r := nanRes f (if s then flNV else 0) s
        (r.bits, r.fl, if fpTraps fen r then some ⟨5, i, r.fl⟩ else none)
      | _ => (x, 0, none)
    | xs =>
      let d := depthOf xs.length
      let pad := xs ++ List.replicate (2 ^ d - xs.length) (0, 2 ^ 64)
      treeGo (fun k a b => fpAdd f (mode k) (fpDecode f a) (fpDecode f b)) fen d pad 0 0 none

/-- R50, R228: the extreme of a group: bits, flags and the element that traps. -/
def extremeGroup (max : Bool) (f : Nat) (fen : BitVec 6) (xs : List (Nat × Nat)) : Nat × Nat × Option Hit :=
  match xs with
  | [] => (0, 0, none)
  | (x, i) :: t =>
    if fmtIsInt f then
      (t.foldl (fun a y => if max == decide (intDecode f a < intDecode f y.1) && intDecode f a != intDecode f y.1
        then y.1 else a) x, 0, none)
    else
      let one := match fpDecode f x with
        | .nan s _ => nanRes f (if s then flNV else 0) s
        | _ => Res.plain x
      t.foldl (fun (acc : Nat × Nat × Option Hit) y =>
        let sn := match fpDecode f y.1 with | .nan s _ => s | _ => false
        let r := fpMinMax f max acc.1 y.1
        (r.bits, acc.2.1 ||| r.fl, acc.2.2.or (if sn && fen.getLsbD 4 then some ⟨5, y.2, flNV⟩ else none)))
        (one.bits, one.fl, if fpTraps fen one then some ⟨5, i, one.fl⟩ else none)

/-- R229: whether value x ranks above value y. -/
def ranksAbove (f x y : Nat) : Ordering :=
  if fmtIsInt f then compare (intDecode f x) (intDecode f y)
  else
    match fpDecode f x, fpDecode f y with
    | .nan .., .nan .. => .eq
    | .nan .., _ => .lt
    | _, .nan .. => .gt
    | a, b =>
      match fpCompare a b with
      | some .eq => if a.neg == b.neg then .eq else if a.neg then .lt else .gt
      | some o => o
      | none => .eq

/-- R229: the winner of a group: its bits and its position in the group. -/
def argmaxGroup (f : Nat) (xs : List Nat) : Nat × Nat :=
  ((List.range xs.length).zip xs).foldl (fun (best : Nat × Nat) (i, x) =>
    if i = 0 ∨ ranksAbove f x best.1 == .gt then (x, i) else best) (0, 0)

/-! ## VSPLIT (R77) -/

/-- R77: the smallest e with |a| < 2^e for a nonzero finite FP64 element; none for zero, infinities and NaNs. -/
def splitExp (a : Nat) : Option Int :=
  match fpDecode 10 a with
  | .fin _ m e => if m = 0 then none else some (e + Nat.log2 m + 1)
  | _ => none

/-- R77: the element is a NaN or an infinity. -/
def splitSpecial (a : Nat) : Bool := match fpDecode 10 a with | .fin .. => false | _ => true

/-- R77: ea of a row. -/
def splitEa (xs : List Nat) : Int :=
  let top := (xs.filterMap splitExp).foldl
    (fun (b : Option Int) e => some (match b with | none => e | some x => max x e)) none
  2 + top.getD (-1073)

/-- R77: the digits of N from d_s down to d_1. -/
def splitGo : Nat → Int → List Nat
  | 0, _ => []
  | k + 1, n =>
    let d := (n + 64) % 128 - 64
    wrapBits 8 d :: splitGo k ((n - d) / 128)

/-- R77: the digits d_1 to d_s of an element and whether it is represented exactly. -/
def splitDigits (s : Nat) (ea : Int) (a : Nat) : List Nat × Bool :=
  match fpDecode 10 a with
  | .fin neg m e =>
    let (n, nx) := rint ⟨0, 0⟩ neg m (e + 7 * s - ea)
    ((splitGo s n).reverse, nx)
  | _ => (List.replicate s 0, false)

end Sys2Proof.Machine
end

