-- ==== Sys2Proof/Machine/Packets.lean ====
section
/-! DEFINITION. Packets that the device sends to a session (R387, R389, R391, R393). -/

namespace Sys2Proof.Machine

/-- The session of a number. -/
def findSession (s : State) (sid : Nat) : Option Session := s.host.sessions.find? fun x => x.sid == sid

/-- The sessions, with one changed. -/
def updSession (s : State) (sid : Nat) (f : Session → Session) : State :=
  { s with host := { s.host with sessions := s.host.sessions.map fun x => if x.sid == sid then f x else x } }

/-- R387: the header of a packet. -/
def packetHeader (sid sq type : Nat) (body : List Byte) : List Byte :=
  leBytes 2 0x5643 ++ leBytes 1 1 ++ leBytes 1 type ++ leBytes 4 sid ++ leBytes 8 sq ++ leBytes 2 0 ++ leBytes 2 body.length ++
    leBytes 4 0

/-- R388: the TAG of a packet that the device sends. -/
def packetTag (x : Session) (sq type : Nat) (body : List Byte) : List Byte :=
  (hmac256 x.kdh (packetHeader x.sid sq type body ++ body)).take 16

/-- R387: the bytes of a packet, which leave from UDP port 7,523. -/
def OutPkt.wire (p : OutPkt) : List Byte := packetHeader p.sid p.sq p.type p.body ++ p.body ++ p.tag

/-- R387, R388: a packet in the sequence of a session, with its TAG; it is due again and has been sent as told. -/
def sessionPkt (s : State) (x : Session) (type : Nat) (body : List Byte) (due sends : Nat) : State :=
  let s := updSession s x.sid fun y => { y with next := y.next + 1 }
  { s with host := { s.host with
    out := s.host.out ++ [⟨x.sid, x.next, type, body, packetTag x x.next type body, due, sends⟩] } }

/-- R389: a packet sent to a session, to be sent again every 100 µs until it is acknowledged; nothing when the session
is closed. -/
def sendPkt (s : State) (sid type : Nat) (body : List Byte) : State :=
  match findSession s sid with
  | none => s
  | some x => sessionPkt s x type body (s.tick + 10000) 1

/-- R387: the ACK of a command, which needs no answer and whose status is kept for a copy of the command (R389). -/
def sendAck (s : State) (sid sq status : Nat) : State :=
  let s := updSession s sid fun x => { x with acks := (sq, status) :: x.acks.filter fun a => a.1 != sq }
  match findSession s sid with
  | none => s
  | some x => sessionPkt s x 0x80 (leBytes 8 sq ++ leBytes 2 status) 0 0

/-- R393: COMPLETE of a command. -/
def completeCmd (s : State) (sid sq status value : Nat) : State :=
  sendPkt s sid 0x81 (leBytes 8 0 ++ leBytes 8 sq ++ leBytes 2 status ++ leBytes 6 0 ++ leBytes 8 value)

/-- R391: DATA of a command. -/
def sendData (s : State) (sid sq status : Nat) (bytes : List Byte) : State :=
  sendPkt s sid 0x82 (leBytes 8 sq ++ leBytes 2 status ++ leBytes 6 0 ++ bytes)

/-- R391: DATA that holds dwords. -/
def sendDwords (s : State) (sid sq : Nat) (ws : List Nat) : State := sendData s sid sq 0 (ws.flatMap (leBytes 8))

end Sys2Proof.Machine
end

