-- ==== Sys2Proof/Machine/Phase.lean ====
section
/-! DEFINITION. Phases, publications, snapshots and global reads (R111 to R127). -/

namespace Sys2Proof.Machine

/-- R111: the unit number that stands for a host session, which has no place on a die. -/
def hostUnit : Nat := 1000

/-- R111, R112: the unit number that stands for the Cobbler, whose place is the Sole die. -/
def cobblerUnit : Nat := 999

/-- R112: a unit on the Sole die. -/
def onSole (u : Nat) : Bool := u < 192 || u == cobblerUnit

/-- R112: the narrowest scope at which two sources cover each other, by their units. -/
def scopeBetween (u v : Nat) : Nat :=
  if u ≥ hostUnit ∨ v ≥ hostUnit then 4
  else if u = v then 0
  else if onSole u = onSole v then 1
  else 2

/-- R117: PHASE.p: the open phase is closed at a scope and the next one opens. -/
def closePhase (s : State) (scope : Nat) : State :=
  s.up fun c => { c with closing := c.closing ++ [(c.openPh, scope)], openPh := c.openPh + 1 }

/-- R14, R121: an acquire at a scope moves the stamps of that scope and the narrower ones to the present. -/
def acquire (s : State) (scope : Nat) : State :=
  s.up fun c => { c with stamps := Vector.ofFn fun k => if k.val ≤ scope then s.net.pubs.length else c.stamps[k] }

/-- R14, R119, R120, R122: phase n of a source is in the snapshot of a reader at an issue. Its own entry there was `own`,
which decides on its own atomics; its own plain writes that are placed are always read. Of another source it is a
publication of that phase or a later one, at a scope that covers the reader, at or before the stamp. -/
def included (pubs : List Pub) (c : Ctx) (own : Nat) (stamps : List Nat) (src unit n : Nat) (atom : Bool) : Bool :=
  if src = c.src then n < (if atom then own else c.pubd)
  else
    let k := scopeBetween unit c.gunit
    (pubs.take (stamps.getD k 0)).any fun p => p.src == src && p.phase ≥ n && p.scope ≥ k

/-- R121, R124: a delivery into the scratchpad of the context at hand, of a phase its snapshot includes, has not
landed. -/
def deliveriesPending (s : State) : Bool :=
  let c := s.ctx
  s.net.pieces.any fun p =>
    (match p.kind with | .deliver => true | _ => false) && p.state != .done && p.state != .refused &&
      p.dstUnit == c.gunit && c.inGrant p.dst p.len &&
      included s.net.pubs c c.pubd c.stamps.toList p.src (match (allCtx s).find? fun x => x.src == p.src with
        | some x => x.gunit | none => hostUnit) p.phase false

/-- The byte that an entry gives a key, if it covers it. -/
def HEntry.byteAt (e : HEntry) (k : Nat) : Option Byte :=
  if e.key ≤ k ∧ k < e.key + e.bytes.length then e.bytes[k - e.key]? else none

/-- R409: a home and key, redirected by the forwards that stand. -/
def forwarded (s : State) (home key : Nat) : Nat × Nat :=
  s.net.fwds.foldl (fun (h, k) f =>
    let base := hbmKey f.peer (f.frame * 4096)
    if h = f.peer ∧ base ≤ k ∧ k < base + 65536 then (f.toPeer, hbmKey f.toPeer (f.toFrame * 4096) + (k - base)) else (h, k))
    (home, key)

/-- R115, R409: where the bytes of a piece lie: its key, as the forwards that stand redirect it. -/
def Piece.place (s : State) (p : Piece) : Nat := (forwarded s p.home p.key).2

/-- R122 step 1: the latest own write to a home byte that is not yet placed, wherever its page has moved (R111). -/
def ownWrite (s : State) (src k : Nat) : Option Byte :=
  let mine := s.net.pieces.filter fun p => p.src == src && (match p.kind with | .write => true | _ => false) &&
    p.state != .done && p.state != .refused && p.place s ≤ k && k < p.place s + p.data.length
  let top := mine.foldl (fun (b : Option Piece) p => match b with
    | none => some p
    | some q => if p.seq ≥ q.seq then some p else b) none
  top.bind fun p => p.data[k - p.place s]?

/-- R122 step 3, R125: the latest entry among the oldest n of a home order that covers a byte. -/
def byteAsOf (h : List HEntry) (n k : Nat) : Option Byte := (h.drop (h.length - n)).findSome? fun e => e.byteAt k

/-- R122: a home byte as a context reads it under the stamps and the own entry of an issue; `adm` is the length of the
home order when its launch was admitted. -/
def readHome (s : State) (c : Ctx) (own : Nat) (stamps : List Nat) (adm k : Nat) : Byte :=
  match ownWrite s c.src k with
  | some b => b
  | none =>
    match s.net.hist.findSome? fun e =>
      if included s.net.pubs c own stamps e.src e.unit e.phase e.atom then e.byteAt k else none with
    | some b => b
    | none => (byteAsOf s.net.hist adm k).getD (memGet s.mem k)

/-- R125: a home byte with every placed entry. -/
def readLatest (s : State) (k : Nat) : Byte := (byteAsOf s.net.hist s.net.hist.length k).getD (memGet s.mem k)

/-- R112, R120: a home byte under a snapshot acquired now by a reader of a unit. -/
def readAs (s : State) (unit k : Nat) : Byte :=
  match s.net.hist.findSome? fun e =>
    if (s.net.pubs.any fun p => p.src == e.src && p.phase ≥ e.phase && p.scope ≥ scopeBetween e.unit unit) then e.byteAt k
    else none with
  | some b => b
  | none => memGet s.mem k

/-- R129: a home byte as a host session reads it. -/
def readSystem (s : State) (k : Nat) : Byte := readAs s hostUnit k

/-- R111, R112: a home byte as the Cobbler reads it: headers' masks, images, slot tables and digests. -/
def readCobbler (s : State) (k : Nat) : Byte := readAs s cobblerUnit k

/-- R131: the machine as its readers find it once the phases of a source up to n are published at system scope: a state to
read from. -/
def asPublished (s : State) (src unit n : Nat) : State :=
  let mine := s.net.pieces.filter fun p => p.src == src && p.phase ≤ n && (match p.kind with | .write => true | _ => false) &&
    p.state != .done && p.state != .refused
  { s with net := { s.net with
    hist := mine.foldl (fun h p => ⟨p.src, unit, p.phase, false, p.place s, p.data⟩ :: h) s.net.hist
    pubs := s.net.pubs ++ [⟨src, unit, n, 4⟩] } }

/-- R131: a launch's source of its creation, with the phase that its QLNCH closed, is published. -/
def publishedFor (s : State) (after : Option (Nat × Nat)) : Bool :=
  after.all fun (src, n) => s.net.pubs.any fun p => p.src == src && p.phase ≥ n && p.scope ≥ 4

end Sys2Proof.Machine
end

