-- ==== Sys2Proof/Machine/Global.lean ====
section
/-! DEFINITION. Global addresses (R100 to R102, R402 to R407): translation, homes, route latencies and promises, and the
pieces of requests (R115, R265). -/

namespace Sys2Proof.Machine

/-! ## Homes -/

/-- A package of the domain as a home: column and row. -/
def pkgHome (x y : Nat) : Nat := x + 32 * y

/-- The own package. -/
def ownHome (s : State) : Nat := pkgHome s.img.px s.img.py

/-- R405: a peer entry; an entry not listed has KIND 0. -/
def peerOf (s : State) (n : Nat) : Option Peer := s.net.peers.find? fun p => p.n == n && p.kind != 0

/-- R405: the home a peer names: a package of the domain, or a far segment by its peer number. -/
def Peer.home (p : Peer) : Nat := if p.kind = 2 then 1024 + p.n else pkgHome p.x p.y

/-- R405: a far home. -/
def farHome (h : Nat) : Bool := h ≥ 1024

/-! ## Translation -/

/-- Intents of R406. -/
inductive Intent where
  | read | write | atomic
  deriving DecidableEq, Repr

/-- R403: BASE × 2^16 and the length of a segment. -/
def Seg.base (g : Seg) : Nat := g.w0.toNat / 2 ^ 16 % 2 ^ 40 * 2 ^ 16
/-- R403: NPAGES. -/
def Seg.pagesN (g : Seg) : Nat := g.w1.toNat % 2 ^ 32
/-- R403: V. -/
def Seg.valid (g : Seg) : Bool := g.w0.getLsbD 15
/-- R403: HOLD. -/
def Seg.hold (g : Seg) : Bool := g.w0.getLsbD 14
/-- R403: IRECT as x0, y0, width, height. -/
def Seg.irect (g : Seg) : List Nat := (List.range 4).map fun k => g.w3.toNat / 2 ^ (8 * k) % 256

/-- R406: the valid segment that holds an address. -/
def segOf (s : State) (va : Nat) : Option Seg :=
  s.net.segs.find? fun g => g.valid && g.base ≤ va && va < g.base + g.pagesN * 2 ^ 16

/-- R402, R403: where the page entry of an address lies: in the page table that PTP names. -/
def Seg.slot (g : Seg) (va : Nat) : Nat := g.w2.toNat + 8 * ((va - g.base) / 2 ^ 16)

/-- R402: the page entry at an address of the tables' region; one not written is 0. -/
def pteAt (s : State) (a : Nat) : Word := ((s.net.ptes.find? fun p => p.1 == a).map (·.2)).getD 0

/-- R402: a page entry written at an address of the tables' region. -/
def ptePut (s : State) (a : Nat) (e : Word) : State :=
  { s with net := { s.net with ptes := (s.net.ptes.filter fun p => p.1 != a) ++ [(a, e)] } }

/-- R404: the page entry of an address. -/
def entryAt (s : State) (g : Seg) (va : Nat) : Word := pteAt s (g.slot va)

/-- R404: fields of a page entry. -/
def peerField (e : Word) : Nat := e.toNat / 2 ^ 55 % 256
def modeField (e : Word) : Nat := e.toNat / 2 ^ 53 % 4
def ilvField (e : Word) : Bool := e.getLsbD 52
def compField (e : Word) : Bool := e.getLsbD 51
def acntField (e : Word) : Nat := e.toNat / 2 ^ 32 % 2 ^ 16
def cunitsField (e : Word) : Nat := e.toNat / 2 ^ 28 % 16
def frameField (e : Word) : Nat := e.toNat % 2 ^ 28

/-- R404: the entry breaks a limit. -/
def malformed (s : State) (e : Word) : Bool :=
  modeField e == 3 || (ilvField e && (compField e || modeField e != 0)) || (!compField e && cunitsField e != 0) ||
    frameField e % 16 != 0 || (peerOf s (peerField e)).isNone

/-- R406: the entry carries the permission of an intent. -/
def permits (e : Word) : Intent → Bool
  | .read => e.getLsbD 50
  | _ => e.getLsbD 49

/-- A power of two. -/
def isPow2 (n : Nat) : Bool := n != 0 && n == 2 ^ Nat.log2 n

/-- R1: a page at a frame lies within a package's usable HBM (DEDUCED, log 113). -/
def frameFits (frame : Nat) : Bool := frame * 4096 + 65536 ≤ Config.hbmUsable

/-- R406: where a page's byte lies: home and address there; `rect` is the rectangle of the requesting launch. -/
def locate (s : State) (rect : Option (List Nat)) (g : Seg) (e : Word) (va : Nat) : Option (Nat × Nat) :=
  let a := frameField e * 4096 + va % 65536
  if !(frameFits (frameField e)) then none
  else if ilvField e then
    let r := if g.irect.all (· == 0) then rect else some g.irect
    match r with
    | some [x0, y0, w, h] =>
      let n := w * h
      if isPow2 n then
        let k := ((va / 2 ^ 12).xor (va / 2 ^ 20)) % n
        some (pkgHome (x0 + k % w) (y0 + k / w), a)
      else none
    | _ => none
  else (peerOf s (peerField e)).map fun p => (p.home, a)

/-- R406: the translation of an address for an intent. -/
def translate (s : State) (rect : Option (List Nat)) (va : Nat) (i : Intent) : Option (Nat × Nat) :=
  match segOf s va with
  | none => none
  | some g =>
    let e := entryAt s g va
    if !(e.getLsbD 63) || malformed s e || !(permits e i) then none
    else
      match locate s rect g e va with
      | some (h, a) => if i = .atomic ∧ farHome h then none else some (h, hbmKey h a)
      | none => none

/-- R406: the requester's rectangle. -/
def Ctx.rect (c : Ctx) : Option (List Nat) := some c.hdr.rect

/-! ## Routes and promises (R267, R348, R400) -/

/-- R400: the words of the route record that governs a context, or the configuration image's defaults. -/
def routeWords (s : State) (c : Ctx) : List Nat :=
  let x := s.img.px - c.hdr.rect.getD 0 0
  let y := s.img.py - c.hdr.rect.getD 1 0
  let own := s.cob.tables.filter fun t => t.lid == c.lid
  if own.isEmpty then s.img.route
  else ((own.find? fun t => t.kind == 3 && t.x == x && t.y == y && t.upper == c.upper && t.unit == c.unit).map
    (·.words)).getD s.img.route

/-- R400: the word of a route to a home. -/
def routeIndex (s : State) (home : Nat) : Nat :=
  if farHome home then 63
  else
    let d := fun a b : Nat => if a ≥ b then a - b else b - a
    d (home % 32) s.img.px + d (home / 32) s.img.py

/-- R348: a latency in sixteenths of a nanosecond in task cycles at an operating point, rounded up. -/
def toTc (w op : Nat) : Nat := cdiv (w * Config.cyclesPerTick op) 160

/-- R267, R400: the route latency to a set of homes: that of the farthest, the one with the most hops; a far segment lies
farther than every package (DEDUCED, log 147). -/
def latencyTo (s : State) (homes : List Nat) : Nat :=
  if homes.isEmpty then 0
  else toTc ((routeWords s s.ctx).getD (homes.foldl (fun m h => max m (routeIndex s h)) 0) 0)
    (getIsland s s.ctx.gunit).opc.val

/-- R267: the route latency of a COLL at a level. -/
def latencyColl (s : State) (l : Nat) : Nat :=
  toTc ((routeWords s s.ctx).getD (64 + l) 0) (getIsland s s.ctx.gunit).opc.val

/-! ## Pieces -/

/-- R102, R133: a byte range cut at 64-byte granules: address, offset, length. -/
def cutGranules (va n : Nat) : List (Nat × Nat × Nat) :=
  let first := min n (64 - va % 64)
  if n = 0 then [] else
  (va, 0, first) :: (List.range (cdiv (n - first) 64)).map fun k => (va + first + 64 * k, first + 64 * k, min 64 (n - first - 64 * k))

/-- R265: the empty piece of a context. -/
def blankPiece (s : State) (c : Ctx) : Piece :=
  { id := s.fresh, kind := .read, src := c.src, cid := c.cid, cmd := 0, seq := s.fresh, phase := 0, va := 0, home := 0
    key := 0, peer := 0, dst := 0, dstUnit := c.gunit, len := 0, data := [], syn := [], stamps := c.stamps.toList
    own := c.pubd, adm := ((findLaunch s c.lid).map (·.adm)).getD 0, issueT := c.now
    due := s.cycle + 1 + Config.fabricDelay s.fresh, state := .flight, rect := c.hdr.rect, second := none, fee := 0
    comp := 0, comp2 := 0, span := (0, 0), direct := false, codes := 0, gran := 0 }

/-- A piece sent on its way: it takes the next number. -/
def addPiece (s : State) (p : Piece) : State :=
  { s with fresh := s.fresh + 1, net := { s.net with pieces := s.net.pieces ++ [p] } }

/-- R101: a request counted at its core, as local or remote. -/
def countPiece (s : State) (home : Nat) : State :=
  { s with units := updIsland s.units s.ctx.gunit fun u =>
      if home = ownHome s then { u with lreq := u.lreq + 1 } else { u with rreq := u.rreq + 1 } }

/-- R407: an access of a MIGRATE page whose home is another package, counted at this package for a context (or, with a
number that no context has, for a host session). -/
def countAccess (s : State) (cid home va : Nat) : State :=
  match segOf s va with
  | none => s
  | some g =>
    let e := entryAt s g va
    if home = ownHome s ∨ modeField e ≠ 2 ∨ acntField e ≥ 65535 then s
    else
      let s := ptePut s (g.slot va) (e + BitVec.ofNat 64 (2 ^ 32))
      let thr := g.w1.toNat / 2 ^ 48
      if thr ≠ 0 ∧ acntField e + 1 = thr then post s (.migrateTrigger cid (BitVec.ofNat 64 va)) else s

/-- R115, R278: an ATOM that its home has refused and that is sent again, or waits for it, keeps its place in the order of its
context's requests. -/
def Cmd.heldSeq (c : Cmd) : Option Nat :=
  match c.op with
  | .atom .. => if c.reqs = 0 then none else some (c.reqs - 1)
  | _ => none

/-- R116, R122: one more piece of a command of the context at hand: it joins the phase that was open at the command's
issue, reads under the snapshot held there, and its arrival has the tag of that issue (R308). -/
def sendPiece (s : State) (c : Cmd) (p : Piece) : State :=
  let s := addPiece s { p with
    id := s.fresh, seq := c.heldSeq.getD s.fresh, cmd := c.id, phase := c.phase, stamps := c.stamps, own := c.own
    issueT := c.issue }
  s.up fun x => { x with cq := x.cq.map fun k =>
    if k.id == c.id then { k with left := k.left + 1, reqs := if c.heldSeq.isSome then 0 else k.reqs } else k }

/-- R406: the map unit keeps the entry of a page that it has translated, as (segment base, page), up to 4,096. -/
def cachePage (s : State) (va : Nat) : State :=
  match segOf s va with
  | none => s
  | some g =>
    let e := (g.base, (va - g.base) / 2 ^ 16)
    if s.net.cache.contains e then s else { s with net := { s.net with cache := (e :: s.net.cache).take 4096 } }

/-- R101, R407: one granule request counted, by its homes and addresses: once at each home that it goes to, and once for
each page of another package that it names. -/
def countRequest (s : State) (l : List (Nat × Nat)) : State :=
  (List.range l.length).foldl (fun s j =>
    let (h, a) := l.getD j (0, 0)
    let before := l.take j
    let s := if before.any fun x => x.1 == h then s else countPiece s h
    cachePage (if before.any fun x => x.2 / 65536 == a / 65536 then s else countAccess s s.ctx.cid h a) a) s

/-- R411, R412: how the page of an address is stored when it is translated: one more than its CUNITS, or zero. -/
def pageForm (s : State) (va : Nat) : Nat :=
  match segOf s va with
  | some g => let e := entryAt s g va; if compField e then cunitsField e + 1 else 0
  | none => 0

/-- R402, R406: the own copy's entry of an address's page names a frame of a home, by its key. -/
def entryNames (s : State) (va home k : Nat) : Bool :=
  (segOf s va).any fun g => (locate s none g (entryAt s g va) (va / 65536 * 65536)).any fun x =>
    x.1 == home && hbmKey x.1 x.2 == k

/-- R103, R412: a byte of a page that stands compressed at its home in n units of 4 KiB. -/
def packedByte (s : State) (n va key : Nat) : Byte :=
  (Config.decompress (memRead s.mem (key - va % 65536) ((if n = 0 then 16 else n) * 4096))).getD (va % 65536) 0

/-- R412: how a page is stored at its home: as it was translated, or plain since a short write landed there. -/
def storedForm (s : State) (form va key : Nat) : Nat := if s.net.plainAt.contains (key - va % 65536) then 0 else form

/-- R412: the memory of the page of an address as a reader finds it at its home, on n bytes from a key on. -/
def plainView (s : State) (form va key n : Nat) : State :=
  match storedForm s form va key with
  | 0 => s
  | f + 1 => { s with mem := memPut s.mem key ((List.range n).map fun i => packedByte s f (va + i) (key + i)) }

/-- R406, R409, R412: a byte of a global address as a reader finds it, wherever its page has moved and however it is stored;
`i` is what the reader asks for and `rd` how it reads a home byte. None when the page does not translate. -/
def globalByte (s : State) (rect : Option (List Nat)) (i : Intent) (rd : State → Nat → Byte) (va : Nat) : Option Byte :=
  (translate s rect va i).map fun (h, k) =>
    let k := (forwarded s h k).2
    rd (plainView s (pageForm s va) va k 1) k

/-- R111, R363, R395, R396, R400: a byte as the Cobbler reads it: zero when its page does not translate. -/
def cobblerByte (s : State) (rect : Option (List Nat)) (va : Nat) : Option Byte := globalByte s rect .read readCobbler va

/-- R92, R88: the code of a sector of home bytes as it travels: its syndrome. -/
def homeSyn (s : State) (key n : Nat) : List (BitVec 16) := (sectorsOf key n).map fun k => synGet s.synd k

/-- R424: the charge of a granule by its home. -/
def granuleCharge (s : State) (home : Nat) : Nat :=
  if farHome home then weight s 17 else if home = ownHome s then weight s 15 else weight s 16

end Sys2Proof.Machine
end

