-- ==== Sys2Proof/Machine/Store.lean ====
section
/-! DEFINITION. Writes of scratchpad bytes: local writes with the merge of R90 and the dirty bits of windows (R106), and
writes through the fill port (R87, R273). -/

namespace Sys2Proof.Machine

/-- R106: the bytes lie in a bound window of the context. -/
def inWindow (c : Ctx) (a n : Nat) : Bool := c.wins.any fun w => (overlap [(a, n)] [(w.base, w.len)]).isSome

/-- R14, R106: the sectors of a unit's bound windows, whichever of its contexts bound them, that a write of n bytes touches
become dirty. -/
def markDirty (s : State) (a n : Nat) : State :=
  let u := s.ctx.gunit
  let k := spadKey u 0 / 32
  { s with dirty := (sectorsOf a n).foldl (fun d x =>
      if (allCtx s).any (fun c => c.live && c.gunit == u && inWindow c (32 * x) 32) ∧ !(d.contains (k + x)) then
        d ++ [k + x] else d) s.dirty }

/-- The bytes that writes of single bytes leave, the last write of a byte first. -/
def overlay (cells : List (Nat × Byte)) (rd : Nat → Byte) (a : Nat) : Byte :=
  ((cells.find? fun x => x.1 == a).map (·.2)).getD (rd a)

/-- The sectors of single bytes, in order of first appearance. -/
def cellSectors (cells : List (Nat × Byte)) : List Nat := dedup (cells.map fun x => x.1 / 32)

/-- R90: every byte of a sector is written. -/
def coversSector (cells : List (Nat × Byte)) (k : Nat) : Bool :=
  (List.range 32).all fun i => cells.any fun x => x.1 == 32 * k + i

/-- R90: the first sector, written in part, whose old code fails. -/
def badMerge (s : State) (cells : List (Nat × Byte)) : Option Nat :=
  (cellSectors cells).find? fun k => !(coversSector cells k) && spadSyn s (32 * k) != 0

/-- R88, R90, R106: local bytes written; a sector written whole gets a new code. -/
def putCells (s : State) (cells : List (Nat × Byte)) : State :=
  (cellSectors cells).foldl (fun s k =>
    let key := spadKey s.ctx.gunit (32 * k)
    let bs := (List.range 32).map fun i => overlay cells (spadByte s) (32 * k + i)
    markDirty { s with
      mem := memPut s.mem key bs
      synd := if coversSector cells k then synSet s.synd (key / 32) 0 else s.synd } (32 * k) 32) s

/-- Single bytes of a run, ready for putCells. -/
def runCells (a : Nat) (bs : List Byte) : List (Nat × Byte) :=
  ((List.range bs.length).map fun i => (a + i, bs.getD i 0)).reverse

/-- R92: the codes of a sector, expected and computed, from its bytes and its syndrome. -/
def codesOf (bs : List Byte) (syn : BitVec 16) : Nat := (crc16 bs).toNat * 2 ^ 16 + (crc16 bs ^^^ syn).toNat

/-- R91, R92: CHECK_MISMATCH of a local sector, found by a requester. -/
def sectorTrap (s : State) (a : Nat) (rq pc : Word) : Trap :=
  let a := a / 32 * 32
  ⟨0x16, BitVec.ofNat 64 a, BitVec.ofNat 64 (codesOf (spadRead s a 32) (spadSyn s a)), rq, pc⟩

/-- R27: elements of a tile as single bytes, packed elements joined. -/
def elemCells (s : State) (h : Shape) (l : List (Nat × Nat × Nat)) : List (Nat × Byte) :=
  l.foldl (fun cells (r, c, v) => (elemBytes (overlay cells (spadByte s)) h r c v).reverse ++ cells) []

/-- R87, R308: the sectors of an arrival that are written whole. -/
def wholeSectors (a n : Nat) (keep : Nat → Bool) : List Nat :=
  (sectorsOf a n).filter fun k => a ≤ 32 * k && 32 * k + 32 ≤ a + n && (List.range 32).all fun i => keep (32 * k + i)

/-- R87, R90: the first sector that an arrival writes in part and whose old code fails. -/
def fillBad (s : State) (unit a n : Nat) (keep : Nat → Bool) : Option Nat :=
  (sectorsOf a n).find? fun k => !((wholeSectors a n keep).contains k) && synGet s.synd (spadKey unit (32 * k) / 32) != 0

/-- R87, R89: bytes and the codes that travelled with their sectors, at a scratchpad address of a unit; `keep` says
which bytes the write port takes (R308). Sectors written in part are merged, and keep their bytes when their old code
fails. The windows of the contexts of that unit get their dirty bits, but a WFILL clears them (R273). -/
def fillPut (s : State) (unit a : Nat) (bs : List Byte) (syn : List (BitVec 16)) (fill : Bool) (keep : Nat → Bool) : State :=
  let whole := wholeSectors a bs.length keep
  let bad := fun k => !(whole.contains k) && synGet s.synd (spadKey unit (32 * k) / 32) != 0
  let new := (List.range bs.length).map fun i =>
    if keep (a + i) && !(bad ((a + i) / 32)) then bs.getD i 0 else memGet s.mem (spadKey unit (a + i))
  let ks := (sectorsOf a bs.length).map fun k => (k, spadKey unit (32 * k) / 32)
  { s with
    mem := memPut s.mem (spadKey unit a) new
    synd := whole.foldl (fun y k => synSet y (spadKey unit (32 * k) / 32) (syn.getD (k - a / 32) 0)) s.synd
    dirty :=
      if fill then s.dirty.filter fun d => !(ks.any fun x => x.2 == d)
      else ks.foldl (fun d x =>
        if (allCtx s).any (fun c => c.live && c.gunit == unit && inWindow c (32 * x.1) 32) ∧ !(d.contains x.2) then
          d ++ [x.2] else d) s.dirty }

end Sys2Proof.Machine
end

