-- ==== Sys2Proof/Machine/Welt.lean ====
section
/-! DEFINITION. The Welt (R285 to R287, R296 to R312, R457): sequence slots, the proposal queue, judging, the end of a
round, stop sequences, and the draft-state filter of the stations. -/

namespace Sys2Proof.Machine

/-! ## Slots -/

/-- R296: the live slot of a number. -/
def findSlot (s : State) (n : Nat) : Option Slot := s.welt.slots.find? fun x => x.n == n

/-- The slots, with one changed. -/
def updSlot (s : State) (n : Nat) (f : Slot → Slot) : State :=
  { s with welt := { s.welt with slots := s.welt.slots.map fun x => if x.n == n then f x else x } }

/-- R296, R310: the stop sequences of a slot. -/
def Slot.sequences (x : Slot) : List (List Nat) := (List.range 8).map fun k => (x.stops.getD k []).take (x.slens.getD k 0)

/-- R300: the age of an epoch. -/
def ageOf (now e : Nat) : Nat := (now + 2 ^ 16 - e % 2 ^ 16) % 2 ^ 16

/-- R301: the records in the proposal queue. -/
def queuedRecords (s : State) : Nat := (s.welt.slots.map fun x => x.recs.length).foldl (· + ·) 0

/-- R301: the proposal queue is full. -/
def proposalsFull (s : State) : Bool := queuedRecords s ≥ s.welt.pqcap

/-! ## Proposal records (R285, R300) -/

/-- An n-byte field of a record. -/
def recField (r : List Byte) (o n : Nat) : Nat := leNat ((r.drop o).take n)

/-- R285: the token ids and the draft probabilities of a record's valid pairs. -/
def recPairs (r : List Byte) : List (Nat × Nat) :=
  (List.range (min (recField r 12 1) 64)).map fun k => (recField r (64 + 8 * k) 4, recField r (68 + 8 * k) 4)

/-- R2, R285: the byte offset of the first field of a record that fails the Welt's checks, in their order: reserved bytes, NQ,
the pairs beyond it, TOKEN, SEQ. -/
def recFault (s : State) (r : List Byte) : Option Nat :=
  let nq := recField r 12 1
  match (List.range 51).find? fun i => recField r (13 + i) 1 != 0 with
  | some i => some (13 + i)
  | none =>
    if nq = 0 ∨ nq > 64 then some 12
    else
      match (List.range 128).find? fun i => i ≥ 2 * nq && recField r (64 + 4 * i) 4 != 0 with
      | some i => some (64 + 4 * i)
      | none =>
        if !((recPairs r).any fun p => p.1 == recField r 0 4) then some 0
        else if recField r 8 2 ≥ 1024 ∨ (findSlot s (recField r 8 2)).isNone then some 8
        else none

/-- R300: what comes of a record offered to the queue. -/
inductive Intake where
  | trap (off : Nat)
  | flush
  | full
  | queue
  deriving DecidableEq, Repr

/-- R285, R300, R301: the judgement of a record. -/
def judgeRecord (s : State) (r : List Byte) : Intake :=
  match recFault s r, findSlot s (recField r 8 2) with
  | some o, _ => .trap o
  | none, none => .trap 8
  | none, some x =>
    let a := ageOf x.epoch (recField r 10 2)
    if x.st = 0 ∨ (0 < a ∧ a < 32768) then .flush
    else if a ≠ 0 then .trap 10
    else if x.st ≠ 1 ∨ x.recs.length ≥ x.depth then .trap 12
    else if recField r 4 4 ≠ x.slen + x.recs.length then .trap 4
    else if proposalsFull s then .full
    else .queue

/-- R298, R300: a judged record takes its effect. -/
def takeRecord (s : State) (r : List Byte) : State :=
  match judgeRecord s r with
  | .flush => updSlot s (recField r 8 2) fun x => { x with flushed := x.flushed + 1 }
  | .queue => updSlot s (recField r 8 2) fun x =>
      { x with recs := x.recs ++ [r], st := if x.recs.length + 1 = x.depth then 2 else x.st }
  | _ => s

/-- R285, R366: the row and the bundle of a WPROP whose record comes as a step of its own: those of the oldest WPROP that the
context has in its queue (DEDUCED, log 63). -/
def weltRow (c : Ctx) : Nat × Word :=
  match c.cq.find? fun k => k.op == .wprop && !k.freed with
  | some k => ((k.rp / granPerRow (k.sh 0)), k.pc)
  | none => (0, 0)

/-- R285, R300: a checked proposal record enters the queue, or is flushed, or is refused with WELT_STATE. -/
def execProposalRecordIntake (cid : Nat) (rec : List (BitVec 8)) (s : State) : Outcome State :=
  match judgeRecord s rec with
  | .trap o =>
    .next (updCtx s cid fun c => { c with
      cands := c.cands ++ [(c.tclk, 6, ⟨0x25, BitVec.ofNat 64 (weltRow c).1, BitVec.ofNat 64 o, fw s 2, (weltRow c).2⟩, 0)] })
  | .full => .next s
  | _ => .next (takeRecord s rec)

/-! ## Streams and the end of a request (R310, R311) -/

/-- R393: a STREAM packet with the tokens released. -/
def streamOut (s : State) (x : Slot) (toks : List Nat) : State :=
  if toks.isEmpty then s
  else sendPkt s x.sid 0x83 (leBytes 2 x.n ++ leBytes 4 x.req.toNat ++ leBytes 4 x.released ++ leBytes 2 toks.length ++
    toks.flatMap (leBytes 4))

/-- R310: tokens released from the front of the hold buffer, `keep` of them staying there. -/
def release (s : State) (n keep : Nat) : State :=
  match findSlot s n with
  | none => s
  | some x =>
    let k := x.hold.length - keep
    let s := streamOut s x (x.hold.take k)
    updSlot s n fun y => { y with hold := x.hold.drop k, released := x.released + k }

/-- R311, R393: the request of a slot ends, with its cause; a stop match has taken what is left in the buffer. -/
def endRequest (s : State) (n cause : Nat) : State :=
  let s := if cause = 0 then s else release s n 0
  match findSlot s n with
  | none => s
  | some x =>
    let s := updSlot s n fun y => { y with done := true, st := 0, recs := [], hold := [] }
    sendPkt s x.sid 0x81 (leBytes 8 2 ++ leBytes 2 n ++ leBytes 2 0 ++ leBytes 4 x.req.toNat ++ leBytes 2 cause ++
      leBytes 2 0 ++ leBytes 4 x.slen)

/-- R310: the length of the stop match that the buffer's end completes: the one with the earliest first token. -/
def stopMatch (stops : List (List Nat)) (b : List Nat) : Option Nat :=
  ((stops.filter fun k => !k.isEmpty && k.length ≤ b.length && b.drop (b.length - k.length) == k).map
    (·.length)).max?

/-- R310: how many tokens the buffer keeps: from the earliest place that begins a proper prefix of a stop sequence. -/
def holdLength (stops : List (List Nat)) (b : List Nat) : Nat :=
  match (List.range b.length).find? fun i =>
    stops.any fun k => (b.drop i).length < k.length && k.take (b.length - i) == b.drop i with
  | some i => b.length - i
  | none => 0

/-- R310: one token committed, through the stop matcher. -/
def commitToken (s : State) (n tok : Nat) : State :=
  match findSlot s n with
  | none => s
  | some x =>
    if x.done then s
    else
      let b := x.hold ++ [tok]
      let s := updSlot s n fun y => { y with hold := b, slen := x.slen + 1, committed := x.committed ++ [tok] }
      match stopMatch x.sequences b with
      | some k => endRequest (release s n k) n 0
      | none =>
        let s := release s n (holdLength x.sequences b)
        if x.slen + 1 = x.maxlen then endRequest s n 1 else s

/-! ## Acceptance (R303) -/

/-- R303: the uniform of a word, as 24-bit numerator over 2^24. -/
def uniform (w : Nat) : Nat := 2 * (w / 2 ^ 9 % 2 ^ 23) + 1

/-- R303: the word of stream c and index i in the slot's round. -/
def weltWord (s : State) (x : Slot) (c i : Nat) : Nat :=
  if x.replay then
    let va := x.rply + 4 * (x.round * (16 + x.vocab) + if c = 0 then i - 1 else 16 + i)
    match translate s s.ctx.rect va .read with
    | some (_, k) => leNat ((List.range 4).map fun b => readSystem s (k + b))
    | none => (fw s 0).toNat % 2 ^ 32
  else
    philox (x.roundSeed.toNat % 2 ^ 32) (x.roundSeed.toNat / 2 ^ 32) i x.round x.req.toNat c

/-- R303: not (EXACT(u × q) ≤ p), with FP32 q and p. -/
def rejects (u q p : Nat) : Bool :=
  match fpDecode 11 q, fpDecode 11 p with
  | .fin nq mq eq, .fin np mp ep =>
    let (a, b) := (sInt nq (u * mq), sInt np mp)
    let ea := eq - 24
    let m := min ea ep
    a * 2 ^ (ea - m).toNat > b * 2 ^ (ep - m).toNat
  | .fin .., .inf n => n
  | .inf n, .fin .. => !n
  | .inf n, .inf m => !n && m
  | _, _ => true

/-- R303: j* from the p values. -/
def judge (s : State) (x : Slot) (ps : List Nat) : Nat :=
  if x.fault then 0
  else
    match (List.range x.depth).find? fun j =>
      let r := x.recs.getD j []
      let q := ((recPairs r).find? fun p => p.1 == recField r 0 4).map (·.2)
      rejects (uniform (weltWord s x 0 (j + 1))) (q.getD 0) (ps.getD j 0) with
    | some j => j + 1
    | none => x.depth + 1

/-- R287: a p value is negative or NaN. -/
def badProb (p : Nat) : Bool := match fpDecode 11 p with | .nan .. => true | .inf n => n | .fin n m _ => n && m != 0

/-- R457: TINFO0 and TINFO1 of the WELT_STATE that a WTAKE, WJUDGE or WFINAL raises on a slot. -/
def weltBad (s : State) (op : CmdOp) (n cols : Nat) (ps : List Nat) : Option (Nat × Nat) :=
  match findSlot s n with
  | none => some (n, 1)
  | some x =>
    if x.done then none
    else
      match op with
      | .wtake => if x.st = 1 ∧ proposalsFull s then some (n, 5) else none
      | .wjudge =>
        if x.st = 1 ∨ x.st = 2 then some (n, 2)
        else if x.st = 4 then some (n, 4)
        else if x.replay ∧ x.round ≥ x.rrounds then some (n, 6)
        else if cols < x.depth then some (cols, 7)
        else ((List.range x.depth).find? fun j => badProb (ps.getD j 0)).map fun j => (j, 8)
      | .wfinal => if x.st ≠ 4 then some (n, 3) else none
      | _ => none

/-- R287, R298: WTAKE waits for its round's proposals. -/
def takeWaits (s : State) (n : Nat) : Bool :=
  match findSlot s n with
  | some x => !x.done && x.st == 1
  | none => false

/-- R286: WDEPTH waits until the previous round of the slot is final. -/
def depthWaits (s : State) (n : Nat) : Bool :=
  match findSlot s n with
  | some x => !x.done && x.st != 1
  | none => false

/-- R286: the result of WDEPTH. -/
def depthWord (s : State) (n : Nat) : Nat :=
  match findSlot s n with
  | some x => if x.done then 2 ^ 8 + 2 ^ 9 else x.depth + 2 ^ 8
  | none => 0

/-- R286, R305: the latest rollback record of a slot. -/
def rollbackWord (s : State) (n : Nat) : Nat :=
  match findSlot s n with
  | some x => x.rbVlen + at' x.rbEpoch 32
  | none => 0

/-- R287: the result of WSTAT. -/
def statWord (s : State) (n : Nat) : Nat :=
  match findSlot s n with
  | some x => x.arate + at' x.depth 16 + at' 1 21 + at' (b2n x.fault) 22
  | none => 0

/-! ## The end of a round (R305, R306) -/

/-- R305: the rate after a round of depth d with a tokens accepted. -/
def nextRate (arate a d ksh : Nat) : Nat :=
  let t : Int := min (a * 65536 / d) 65535
  ((arate : Int) + (t - arate) / (2 ^ ksh : Nat)).toNat

/-- R306: the depth of the next round. -/
def nextDepth (thr : List Nat) (arate d dmin dmax h : Nat) : Nat :=
  if d < dmax ∧ arate ≥ thr.getD d 0 + h then d + 1
  else if d > dmin ∧ arate + h < thr.getD (d - 1) 0 then d - 1
  else d

/-- R305: the round of a slot ends with a token. -/
def finishRound (s : State) (n tok : Nat) : State :=
  match findSlot s n with
  | none => s
  | some x =>
    if x.done ∨ x.st ≠ 4 then s
    else if x.jstar = 0 ∨ x.fault then endRequest s n 0x24
    else
      let a := x.jstar - 1
      let toks := (x.recs.take a).map (fun r => recField r 0 4) ++ [tok]
      let s := toks.foldl (fun s t => commitToken s n t) s
      updSlot s n fun y =>
        let rate := nextRate y.arate a x.depth y.ksh
        { y with
          arate := rate
          depth := nextDepth (s.welt.thr.toList.getD y.ttab.val []) rate x.depth y.dmin y.dmax y.h
          vlen := x.slen + a
          epoch := (y.epoch + 1) % 2 ^ 16
          rbVlen := x.slen + a
          rbEpoch := (y.epoch + 1) % 2 ^ 16
          recs := []
          round := (y.round + 1) % 2 ^ 32
          roundSeed := y.rseed
          jstar := 0
          st := if y.done then 0 else 1 }

/-- R305: the publications that a WFINAL waits for have completed; the source may have retired. -/
def finalReady (s : State) (f : FinalReq) : Bool :=
  (s.net.pubs.any fun p => p.src == f.src && p.phase + 1 ≥ f.phase) || f.phase == 0

/-- R305: the first WFINAL of a context that can be performed is performed. -/
def execWfinalPerformed (cid : Nat) (s : State) : Outcome State :=
  match s.welt.finals.find? fun f => f.cid == cid && finalReady s f with
  | none => .next s
  | some f =>
    let s := { s with welt := { s.welt with finals := s.welt.finals.erase f } }
    .next (finishRound s f.slot f.token)

/-! ## The rollback filter (R308, R309) -/

/-- R308: the record installed for a slot that governs a task cycle: epoch and VLEN. -/
def installedAt (s : State) (n t : Nat) : Option (Nat × Nat) :=
  ((s.welt.installs.filter fun i => i.slot == n && i.t ≤ t).getLast?).map fun i => (i.epoch, i.vlen)

/-- R308: a byte that a write tagged at `issue` puts at an address at cycle t is dropped. -/
def dropsByte (s : State) (issue t a : Nat) : Bool :=
  s.welt.slots.any fun x =>
    if x.kvbase ≤ a ∧ a < x.kvbase + x.kvstride * x.maxlen then
      match installedAt s x.n t with
      | none => false
      | some (e, v) =>
        let tag := ((installedAt s x.n issue).map (·.1)).getD 0
        let age := ageOf e tag
        0 < age && age < 32768 && (a - x.kvbase) / x.kvstride ≥ v
    else false

/-- R308, R373: the issue by which a write of the context at hand is judged: in common TCLK, which stands still for a
handler. -/
def Ctx.tagTime (c : Ctx) (issue : Nat) : Nat := if c.status = .handler then c.tclk else issue

/-- R308: what is left of a local write of the context at hand. -/
def keepCells (s : State) (issue : Nat) (cells : List (Nat × Byte)) : List (Nat × Byte) :=
  if s.ctx.upper then cells.filter fun x => !(dropsByte s (s.ctx.tagTime issue) s.ctx.tclk x.1) else cells

/-- R308: what is left of the bytes of a write: a dropped part uses no bank and raises nothing. -/
def keptRanges (s : State) (issue : Nat) (rs : List (Nat × Nat)) : List (Nat × Nat) :=
  let kept := fun a : Nat => !(dropsByte s (s.ctx.tagTime issue) s.ctx.tclk a)
  if !s.ctx.upper ∨ rs.all fun x => (byteRange x.1 x.2).all kept then rs
  else (rs.flatMap fun x => (byteRange x.1 x.2).filter kept).map fun a => (a, 1)

/-- R308, R309: a WDEPTH that releases at task cycle t installs the slot's rollback record for t + 1 and later. -/
def installRecord (s : State) (n t : Nat) : State :=
  match findSlot s n with
  | some x =>
    if x.round = 0 ∨ x.done then s
    else { s with welt := { s.welt with installs := s.welt.installs ++ [⟨t + 1, n, x.rbEpoch, x.rbVlen⟩] } }
  | none => s

/-! ## Opening, cancelling and releasing slots (R296, R392) -/

/-- R296: the fields of a request record that are set at opening. -/
def slotOfRecord (n sid : Nat) (r : List Byte) : Slot :=
  let w := fun k => recField r (8 * k) 8
  let f := fun k hi lo : Nat => w k / 2 ^ lo % 2 ^ (hi + 1 - lo)
  let slen := f 1 63 32
  { n := n, sid := sid, req := BitVec.ofNat 32 (f 0 63 32), epoch := 0, depth := f 0 15 11, replay := f 0 10 10 == 1
    fault := false, done := false, ksh := f 0 6 4, ttab := Fin.ofNat 8 (f 0 2 0), slen := slen, vlen := slen, round := 0
    arate := f 2 31 16, dmin := f 2 15 11, dmax := f 2 10 6, h := f 3 63 48, st := 1, maxlen := f 3 31 0
    rseed := BitVec.ofNat 64 (w 4), roundSeed := BitVec.ofNat 64 (w 4), vocab := f 5 63 32, lbudget := f 5 31 0
    kvbase := f 6 63 40, kvstride := f 6 39 16, rrounds := f 7 63 56, rply := f 7 55 0
    slens := (List.range 8).map fun k => recField r (64 + k) 1
    stops := (List.range 8).map fun k => (List.range 16).map fun t => recField r (72 + 64 * k + 4 * t) 4
    recs := [], hold := [], committed := [], released := slen, jstar := 0, flushed := 0, taker := none
    rbVlen := slen, rbEpoch := 0 }

/-- R296: the Cobbler refuses to open the slot. -/
def slotRefused (s : State) (x : Slot) (lens : List Nat) : Bool :=
  let hi := x.kvbase + x.kvstride * x.maxlen
  x.n ≥ Config.weltSlots || (findSlot s x.n).isSome || x.dmin == 0 || x.dmin > 16 || x.dmax < x.dmin || x.dmax > 16 ||
    x.depth < x.dmin || x.depth > x.dmax || x.ksh == 0 || hi > Config.upperSram ||
    (s.welt.slots.any fun y => x.kvbase < y.kvbase + y.kvstride * y.maxlen && y.kvbase < hi) ||
    x.slen == 0 || x.slen ≥ x.maxlen || x.vocab < 2 || x.kvstride == 0 || x.kvstride % 32 != 0 ||
    (x.replay && x.rrounds == 0) || lens.any (· > 16)

/-- R296: the tokens of the stop sequences after a management write of word k of the record, which holds two of them. -/
def manageStops (ss : List (List Nat)) (k : Nat) (v : Word) : List (List Nat) :=
  let at_ := (k - 9) * 2
  (List.range 8).map fun i => ((List.range 16).zip (ss.getD i [])).map fun (t, x) =>
    if 16 * i + t = at_ then v.toNat % 2 ^ 32 else if 16 * i + t = at_ + 1 then v.toNat / 2 ^ 32 else x

/-- R296, R313: a management write of the SV fields of a word of a live slot's record. Of a write of RSEED the next round
that opens takes note. -/
def manageSlot (s : State) (n k : Nat) (v : Word) : State :=
  let f := fun hi lo : Nat => v.toNat / 2 ^ lo % 2 ^ (hi + 1 - lo)
  updSlot s n fun x =>
    match k with
    | 0 => { x with req := BitVec.ofNat 32 (f 63 32), replay := f 10 10 == 1, ksh := f 6 4, ttab := Fin.ofNat 8 (f 2 0) }
    | 1 => x
    | 2 => { x with dmin := f 15 11, dmax := f 10 6 }
    | 3 => { x with h := f 63 48, maxlen := f 31 0 }
    | 4 => { x with rseed := v }
    | 5 => { x with vocab := f 63 32, lbudget := f 31 0 }
    | 6 => { x with kvbase := f 63 40, kvstride := f 39 16 }
    | 7 => { x with rrounds := f 63 56, rply := f 55 0 }
    | 8 => { x with slens := (List.range 8).map fun i => v.toNat / 2 ^ (8 * i) % 2 ^ 8 }
    | k => if k < 73 then { x with stops := manageStops x.stops k v } else x

/-- R297: the Cobbler writes a threshold table; a decreasing one is refused. -/
def execThresholdTableWrite (t : Fin 8) (es : List Nat) (s : State) : Outcome State :=
  let ok := es.length == 16 && es.all (· < 2 ^ 16) && (List.range 15).all fun i => es.getD i 0 ≤ es.getD (i + 1) 0
  if ok then .next { s with welt := { s.welt with thr := Vector.ofFn fun k => if k = t then es else s.welt.thr[k] } }
  else .next s

/-- R392: a slot opened by SIGNAL. -/
def execSignalOpenSlot (sid sq slot : Nat) (rec : List (BitVec 8)) (s : State) : Outcome State :=
  let x := slotOfRecord slot sid rec
  if slotRefused s x ((List.range 8).map fun k => recField rec (64 + k) 1) then .next (completeCmd s sid sq 0x109 0)
  else
    let s := { s with welt := { s.welt with
      slots := s.welt.slots ++ [x], installs := s.welt.installs.filter fun i => i.slot != slot } }
    .next (completeCmd s sid sq 0 0)

/-- R311, R366: a host cancel, with WELT_NOTICE on the context that issued the slot's last WTAKE. -/
def cancelSlot (s : State) (x : Slot) : State :=
  let s := endRequest s x.n 2
  match x.taker with
  | some k => mapCtx s fun c => if c.live && c.src == k then { c with notices := c.notices ++ [x.n] } else c
  | none => s

/-- R392: a request cancelled by SIGNAL. -/
def execSignalCancel (sid sq slot : Nat) (req : BitVec 32) (s : State) : Outcome State :=
  match findSlot s slot with
  | some x =>
    if x.req = req ∧ !x.done then .next (completeCmd (cancelSlot s x) sid sq 0 0)
    else .next (completeCmd s sid sq 0x10A 0)
  | none => .next (completeCmd s sid sq 0x10A 0)

/-- R392: an ended slot released by SIGNAL. -/
def execSignalRelease (sid sq slot : Nat) (req : BitVec 32) (s : State) : Outcome State :=
  match findSlot s slot with
  | some x =>
    if x.req = req ∧ x.done then
      .next (completeCmd { s with welt := { s.welt with
        slots := s.welt.slots.filter (fun y => y.n != slot), installs := s.welt.installs.filter fun i => i.slot != slot } }
        sid sq 0 0)
    else .next (completeCmd s sid sq 0x10A 0)
  | none => .next (completeCmd s sid sq 0x10A 0)

end Sys2Proof.Machine
end

