-- ==== Sys2Proof/Machine/Copy.lean ====
section
/-! DEFINITION. The C class: the meaning of every instruction of majors 0x18 to 0x1A at its issue (R261 to R287). Its
granules are performed by CopyUnits, its pieces by Fabric, the Welt commands by Welt. -/

namespace Sys2Proof.Machine

/-- R345: gb[63:48] of a timed C command is nonzero: the last condition of check 10. -/
def startFormC (s : State) : Option Trap :=
  if s.ctx.iss.tm ∧ (rdG s s.ctx.iss.b).toNat / 2 ^ 48 ≠ 0 then
    some (limitTrap s 15 (some (BitVec.ofNat 64 s.ctx.iss.b.val))) else none

/-- R263: check 10 on a scalar register. -/
def scalarLimit (s : State) (r : Fin 32) : Option Trap := some (limitTrap s 15 (some (BitVec.ofNat 64 r.val)))

/-- R263 steps 4 and 5, then the checks `late` that an instruction makes after check 10. -/
def cLimits (regs : List (Fin 32)) (lim late : State → (Fin 4 → Shape) → Option Trap) (s : State) (sh : Fin 4 → Shape) :
    Option Trap :=
  (((scalarCheck s 2 regs).or (lim s sh)).or (startFormC s)).or (late s sh)

/-- R264: the row length of a data tile. -/
def rowLimit (s : State) (sh : Fin 4 → Shape) (r : Fin 4) : Option Trap :=
  if (sh r).rowLen % 32 ≠ 0 then some (limitTrap s r.val) else none

/-- R264: the pitch of a global descriptor. -/
def pitchLimit (s : State) (sh : Fin 4 → Shape) (r : Fin 4) : Option Trap :=
  if (sh r).pitch.toNat % 32 ≠ 0 then some (limitTrap s r.val) else none

/-- R262, R264: a C address operand: its fields, its kind and its alignment to m bytes. -/
def addrLimit (s : State) (r : Fin 32) (remote : Bool) (m : Nat) : Option Trap :=
  let a := rdG s r
  if badCAddr a ∨ (isRemote a ∧ !remote) ∨ cAddr a % m ≠ 0 then scalarLimit s r else none

/-- R264: the global pitch of a descriptor over rows of n bytes. -/
def globalPitch (d : Shape) (n : Nat) : Nat := if d.pitch = 0 then n else d.pitch.toNat

/-- R265: the global rows of a tile: address and length. -/
def globalRows (va pitch rows n : Nat) : List (Nat × Nat) :=
  (List.range rows).map fun r => ((va + r * pitch) % 2 ^ 56, n)

/-- R100: one address in each 4 KiB unit that a range touches. -/
def unitsOf (va n : Nat) : List Nat :=
  if n = 0 then [] else (List.range ((va + n - 1) / 4096 - va / 4096 + 1)).map fun k => if k = 0 then va else (va / 4096 + k) * 4096

/-- R105, R406: the homes of global ranges; none when a page does not translate. -/
def homesOf (s : State) (i : Intent) (rs : List (Nat × Nat)) : Option (List Nat) :=
  (rs.flatMap fun r => unitsOf r.1 r.2).mapM fun a => (translate s s.ctx.rect a i).map (·.1)

/-- R262: the home package of a remote scratchpad address: of the own domain by its place, of another domain far. -/
def remoteHome (s : State) (a : Word) : Nat :=
  let (d, x, y) := remotePkg a
  if d = s.img.domain then pkgHome x y else 1024

/-- The homes of the rows at a C address. -/
def homesAt (s : State) (i : Intent) (a : Word) (pitch rows n : Nat) : Option (List Nat) :=
  if isRemote a then some [remoteHome s a] else homesOf s i (globalRows (cAddr a) pitch rows n)

/-- R105: FATAL_CONTEXT when the homes are not known. -/
def homesCheck (s : State) (h : Option (List Nat)) : Option Trap := if h.isNone then some (fatalTrap s none none) else none

/-- R356: the local destination bytes of a command whose data arrive through the fill port, in deterministic mode. -/
def arrivalCheck (s : State) (r : Nat) (rs : List (Nat × Nat)) : Option Trap :=
  (declEscape s.ctx 2 true (if s.ctx.hdr.det then rs.flatMap fun x => (List.range x.2).map (x.1 + ·) else [])).map fun b =>
    mkTrap s 0x0D (some (BitVec.ofNat 64 b)) (some (requester s.ctx 4 s.ctx.iss.pos r)) (some 2)

/-- R267: the promise register of a command. -/
def Cmd.pm (c : Cmd) : Option (Fin 8) :=
  match c.op with
  | .cpg _ | .cps _ | .cpy | .atom .. | .mcast | .coll _ => some (Fin.ofNat 8 c.aux)
  | .wfill | .wback | .wunmap => some (Fin.ofNat 8 c.mode)
  | _ => none

/-- R267: a promised command: P from its start, its occupancy and its route, and the latch at issue + 2. -/
def promise (s : State) (c : Cmd) (latency : Nat) : State × Cmd :=
  match c.pm with
  | none => (s, { c with left := 0 })
  | some n =>
    let p := max c.nominal (freeAt s.ctx 2) + c.occ s.ctx.upper + latency
    let c := { c with prom := p }
    let top := (s.ctx.cq.filter fun x => x.pm == some n && x.left != 0).foldl (fun m x => max m x.prom) p
    (putLatch s { newLatch s 2 (.pm n) (BitVec.ofNat 64 (top % 2 ^ 48)) 0 none with slot := 4, cmd := some c.id }, c)

/-- A C command that names no promise register. -/
def unpromised (s : State) (c : Cmd) : State × Cmd := (s, { c with left := 0 })

/-! ## Copies (R269 to R273) -/

/-- R271: the values of an index tile, in row-major order. -/
def indexValues (s : State) (h : Shape) : List Nat :=
  (List.range h.lr).flatMap fun r => (List.range h.lc).map fun k => elemBits (spadByte s) h r k

/-- R271: the global rows that CPG.x and CPS.x name, as the index tile stands; EDGE ZERO uses row 0. -/
def indexedRows (s : State) (sh : Fin 4 → Shape) (va : Nat) : List (Nat × Nat) :=
  let n := (sh 0).rowLen
  let p := globalPitch (sh 2) n
  let xs := indexValues s (sh 1)
  let pad := if (sh 1).edge = 1 then List.replicate ((sh 0).rows.toNat - xs.length) 0 else []
  ((xs ++ pad).take (sh 0).rows.toNat).map fun x => ((va + x * p) % 2 ^ 56, n)

/-- The homes of a copy between cd0 and global rows. -/
def copyHomes (s : State) (sh : Fin 4 → Shape) (a : Word) (x : Bool) (i : Intent) : Option (List Nat) :=
  let n := (sh 0).rowLen
  if x then homesOf s i (indexedRows s sh (cAddr a)) else homesAt s i a (globalPitch (sh 2) n) (sh 0).rows.toNat n

/-- R72, R264: the use of a register as a global descriptor: it takes no check of R28, and FMT = 0x1F alone is refused in it
(log 121). -/
def globalUse (r : Fin 4) : Use := ⟨r, false, []⟩

/-- R263: the checks of a tile of a copy; a global descriptor takes none. -/
def copyChecks (ks : List Nat) (u : Use) : List Nat := if u.ok.isEmpty then [] else ks

/-- The uses of a copy between cd0 and global rows. -/
def copyUses (dst x : Bool) (_ : Fin 4 → Shape) : List Use :=
  [⟨0, dst, fmtsAll⟩, globalUse 2] ++ if x then [⟨1, false, [7, 9]⟩] else []

/-- R263, R269, R270, R271: CPG, CPG.x, CPS and CPS.x at issue. An indexed copy translates its rows when it reads their
indices; its promise takes the homes of the rows that the index tile names at issue. -/
def copyOp (s : State) (put x : Bool) (a : Fin 32) (k : Fin 8) : Outcome State :=
  let i := if put then Intent.write else Intent.read
  engineOp s (if put then .cps x else .cpg x) (copyUses (!put) x) (copyChecks [1, 2, 3, 4, 6, 7, 8]) (rdG s a) 0 k.val 0 0
    (cLimits [a]
      (fun s sh => ((rowLimit s sh 0).or (pitchLimit s sh 2)).or (addrLimit s a (put && !x) 32))
      (fun s sh => (if x then none else homesCheck s (copyHomes s sh (rdG s a) x i)).or
        (if put then none else arrivalCheck s 0 (rowRanges (sh 0)))))
    fun s c => promise s c (latencyTo s ((copyHomes s c.sh c.ga x i).getD []))

/-- R270: CPG. -/
def execCpg (a : Fin 32) (k : Fin 8) (s : State) : Outcome State := copyOp s false false a k

/-- R271: CPG.x. -/
def execCpgX (a : Fin 32) (k : Fin 8) (s : State) : Outcome State := copyOp s false true a k

/-- R270: CPS. -/
def execCps (a : Fin 32) (k : Fin 8) (s : State) : Outcome State := copyOp s true false a k

/-- R271: CPS.x. -/
def execCpsX (a : Fin 32) (k : Fin 8) (s : State) : Outcome State := copyOp s true true a k

/-- R272: the homes of both sides of a CPY. -/
def cpyHomes (s : State) (sh : Fin 4 → Shape) (a b : Word) : Option (List Nat) :=
  let n := (sh 2).rowLen
  let r := (sh 2).rows.toNat
  match homesAt s .read b (globalPitch (sh 3) n) r n, homesAt s .write a (globalPitch (sh 2) n) r n with
  | some x, some y => some (x ++ y)
  | _, _ => none

/-- R272: CPY: cd2 takes checks 1 to 3 alone. -/
def execCpy (a b : Fin 32) (k : Fin 8) (s : State) : Outcome State :=
  engineOp s .cpy (fun _ => [⟨2, false, fmtsAll⟩, globalUse 3]) (copyChecks [1, 2, 3]) (rdG s a) (rdG s b) k.val 0 0
    (cLimits [a, b]
      (fun s sh => ((((rowLimit s sh 2).or (pitchLimit s sh 2)).or (pitchLimit s sh 3)).or (addrLimit s a true 32)).or
        (addrLimit s b false 32))
      (fun s sh => homesCheck s (cpyHomes s sh (rdG s a) (rdG s b))))
    fun s c => promise s c (latencyTo s ((cpyHomes s c.sh c.ga c.gb).getD []))

/-! ## Windows (R104 to R106, R274, R275) -/

/-- R274: base and length of the region of cd0. -/
def regionOf (h : Shape) : Nat × Nat := (h.base.toNat, h.rows.toNat * h.pitch.toNat)

/-- R264, R274: check 10 of WMAP: whole sectors, multiples of 64, KIND 0, the window free, the region apart from every bound one. A WMAP
that is still queued counts as bound. -/
def wmapLimits (a : Fin 32) (k : Fin 8) (s : State) (sh : Fin 4 → Shape) : Option Trap :=
  let (b, n) := regionOf (sh 0)
  let q := s.ctx.cq.filter fun c => c.op == .wmap && !c.freed
  let held := (s.ctx.wins.map fun w => (w.idx, w.base, w.len)) ++ q.map fun c => (Fin.ofNat 8 c.aux, regionOf (c.sh 0))
  if (sh 0).rowLen % 32 ≠ 0 ∨ (sh 0).base.toNat % 64 ≠ 0 ∨ (sh 0).pitch.toNat % 64 ≠ 0 then some (limitTrap s 0)
  else
    (addrLimit s a false 64).or
      (if (held.any fun w => w.1 == k || (overlap [(b, n)] [w.2]).isSome) then
        some (mkTrap s 0x02 (some (BitVec.ofNat 64 k.val)) none none) else none)

/-- R105, R274: WMAP translates every page of its range at issue; its region lies inside the grant. -/
def wmapLate (a : Fin 32) (s : State) (sh : Fin 4 → Shape) : Option Trap :=
  let (b, n) := regionOf (sh 0)
  if !(s.ctx.inGrant b n) then some (fatalTrap s none none)
  else homesCheck s (homesOf s .read [(cAddr (rdG s a), n)])

/-- R274: WMAP. -/
def execWmap (a : Fin 32) (k : Fin 8) (s : State) : Outcome State :=
  engineOp s .wmap (fun _ => [⟨0, true, wideFmts⟩]) (fun _ => [1, 2, 3, 4, 6, 7, 8]) (rdG s a) 0 k.val 0 0
    (cLimits [a] (wmapLimits a k) (wmapLate a)) unpromised

/-- R275: the bound window of an index. -/
def boundWin (c : Ctx) (k : Nat) : Option Win := c.wins.find? fun w => w.idx.val == k && w.fromT ≤ c.now

/-- R275: WFILL, WBACK and WUNMAP at issue: an unbound window fails check 10. The region is captured. -/
def windowOp (s : State) (op : CmdOp) (g k : Fin 8) : Outcome State :=
  let i := if op = .wfill then Intent.read else Intent.write
  let w := boundWin s.ctx k.val
  let rs := (w.map fun w => (w.va, w.len)).toList
  engineOp s op (fun _ => []) (fun _ => []) 0 0 k.val g.val 0
    (cLimits [] (fun s _ => if w.isNone then some (limitTrap s 15 (some (BitVec.ofNat 64 k.val))) else none)
      (fun s _ => (homesCheck s (homesOf s i rs)).or
        (if op = .wfill then arrivalCheck s 0 (winRange s.ctx k.val) else none)))
    fun s c =>
      let v := w.getD ⟨0, 0, 0, 0, 0⟩
      promise s { c with buf := [[v.base, v.va]], reqs := v.len / 64 } (latencyTo s ((homesOf s i rs).getD []))

/-- R275: WFILL. -/
def execWfill (g k : Fin 8) (s : State) : Outcome State := windowOp s .wfill g k

/-- R275: WBACK. -/
def execWback (g k : Fin 8) (s : State) : Outcome State := windowOp s .wback g k

/-- R275: WUNMAP. -/
def execWunmap (g k : Fin 8) (s : State) : Outcome State := windowOp s .wunmap g k

/-- R107, R276: PROBE issues with no pending latch, no queued or running command and no unit write to come; what its own
bundle has issued is not judged (DEDUCED, log 146). -/
def probePlace (s : State) : Option Trap :=
  let c := s.ctx
  if (c.latches.any fun l => l.due > c.now && l.issue != c.now) ∨ !c.uws.isEmpty ∨
      ([c.vq, c.xq, c.cq].any fun q => q.any fun x => !x.freed && x.issue != c.now) then
    some (mkTrap s 0x0E none none none) else none

/-- R264, R276: check 10 of PROBE: a VA that is a multiple of 32. -/
def probeLimit (a : Fin 32) (s : State) : Option Trap := addrLimit s a false 32

/-- R276: PROBE.r and PROBE.w at issue. -/
def probeOp (s : State) (w : Bool) (a b : Fin 32) : Outcome State :=
  engineOp s (.probe w) (fun _ => []) (fun _ => []) (rdG s a) 0 (b2n w) 0 b
    (cLimits [a] (fun s _ => probeLimit a s) (fun s _ => probePlace s)) unpromised

/-- R276: PROBE.r. -/
def execProbeR (a b : Fin 32) (s : State) : Outcome State := probeOp s false a b

/-- R276: PROBE.w. -/
def execProbeW (a b : Fin 32) (s : State) : Outcome State := probeOp s true a b

/-! ## Atomics, multicast, collectives and launch (R277 to R283) -/

/-- R278: check 10 of ATOM. -/
def atomLimits (op : Fin 8) (a : Fin 32) (s : State) (sh : Fin 4 → Shape) : Option Trap :=
  let h := sh 0
  let n := h.rowLen
  let va := cAddr (rdG s a)
  let w := fmtBits h.f / 8
  if !(fmtIsInt h.f) ∨ h.rows ≠ 1 ∨ n = 0 ∨ n > 64 then some (limitTrap s 0)
  else if op = 7 ∧ ((sh 2).fmt ≠ h.fmt ∨ (sh 2).cols ≠ h.cols) then some (limitTrap s 2)
  else (addrLimit s a false w).or (if va / 64 ≠ (va + n - 1) / 64 then scalarLimit s a else none)

/-- R278: ATOM with or without return at issue. -/
def atomOp (s : State) (op : Fin 8) (nr : Bool) (a : Fin 32) (k : Fin 8) : Outcome State :=
  engineOp s (.atom op nr) (fun _ => [⟨0, !nr, wideFmts⟩] ++ if op = 7 then [⟨2, false, wideFmts⟩] else [])
    (fun _ => [1, 2, 3, 4, 6, 7, 8]) (rdG s a) 0 k.val 0 0
    (cLimits [a] (atomLimits op a)
      (fun s sh => (homesCheck s (homesOf s .atomic [(cAddr (rdG s a), (sh 0).rowLen)])).or
        (if nr then none else arrivalCheck s 0 (rowRanges (sh 0)))))
    fun s c => promise s c (latencyTo s ((homesOf s .atomic [(cAddr c.ga, (c.sh 0).rowLen)]).getD []))

/-- R278: ATOM.add. -/
def execAtomAdd (a : Fin 32) (k : Fin 8) (s : State) : Outcome State := atomOp s 0 false a k

/-- R278: ATOM.min. -/
def execAtomMin (a : Fin 32) (k : Fin 8) (s : State) : Outcome State := atomOp s 1 false a k

/-- R278: ATOM.max. -/
def execAtomMax (a : Fin 32) (k : Fin 8) (s : State) : Outcome State := atomOp s 2 false a k

/-- R278: ATOM.and. -/
def execAtomAnd (a : Fin 32) (k : Fin 8) (s : State) : Outcome State := atomOp s 3 false a k

/-- R278: ATOM.or. -/
def execAtomOr (a : Fin 32) (k : Fin 8) (s : State) : Outcome State := atomOp s 4 false a k

/-- R278: ATOM.xor. -/
def execAtomXor (a : Fin 32) (k : Fin 8) (s : State) : Outcome State := atomOp s 5 false a k

/-- R278: ATOM.xchg. -/
def execAtomXchg (a : Fin 32) (k : Fin 8) (s : State) : Outcome State := atomOp s 6 false a k

/-- R278: ATOM.cas. -/
def execAtomCas (a : Fin 32) (k : Fin 8) (s : State) : Outcome State := atomOp s 7 false a k

/-- R278: ATOM.add.nr. -/
def execAtomAddNr (a : Fin 32) (k : Fin 8) (s : State) : Outcome State := atomOp s 0 true a k

/-- R278: ATOM.min.nr. -/
def execAtomMinNr (a : Fin 32) (k : Fin 8) (s : State) : Outcome State := atomOp s 1 true a k

/-- R278: ATOM.max.nr. -/
def execAtomMaxNr (a : Fin 32) (k : Fin 8) (s : State) : Outcome State := atomOp s 2 true a k

/-- R278: ATOM.and.nr. -/
def execAtomAndNr (a : Fin 32) (k : Fin 8) (s : State) : Outcome State := atomOp s 3 true a k

/-- R278: ATOM.or.nr. -/
def execAtomOrNr (a : Fin 32) (k : Fin 8) (s : State) : Outcome State := atomOp s 4 true a k

/-- R278: ATOM.xor.nr. -/
def execAtomXorNr (a : Fin 32) (k : Fin 8) (s : State) : Outcome State := atomOp s 5 true a k

/-- R278: ATOM.xchg.nr. -/
def execAtomXchgNr (a : Fin 32) (k : Fin 8) (s : State) : Outcome State := atomOp s 6 true a k

/-- R278: ATOM.cas.nr. -/
def execAtomCasNr (a : Fin 32) (k : Fin 8) (s : State) : Outcome State := atomOp s 7 true a k

/-- R279: check 10 of MCAST. -/
def mcastLimits (s : State) (sh : Fin 4 → Shape) : Option Trap :=
  ((rowLimit s sh 0).or
    (if (sh 1).rows.toNat * (sh 1).cols.toNat > 64 then some (limitTrap s 1) else none)).or (pitchLimit s sh 2)

/-- R279, R262: the homes of an MCAST's replicas as the list stands. -/
def mcastHomes (s : State) (sh : Fin 4 → Shape) : List Nat :=
  let n := (sh 0).rowLen
  (indexValues s (sh 1)).flatMap fun v =>
    (homesAt s .write (BitVec.ofNat 64 v) (globalPitch (sh 2) n) (sh 0).rows.toNat n).getD []

/-- R279: MCAST. -/
def execMcast (k : Fin 8) (s : State) : Outcome State :=
  engineOp s .mcast (fun _ => [⟨0, false, fmtsAll⟩, ⟨1, false, [9]⟩, globalUse 2]) (copyChecks [1, 2, 3, 4, 6, 7, 8]) 0 0
    k.val 0 0
    (cLimits [] mcastLimits fun _ _ => none) fun s c => promise s c (latencyTo s (mcastHomes s c.sh))

/-- R281: the formats of a collective. -/
def collFmts (op : Fin 4) : List Nat :=
  match op with
  | 0 | 1 => [0, 1, 4, 5, 6, 7, 8, 9, 10, 11, 12, 13]
  | 2 => [9]
  | 3 => fmtsAll

/-- R280: check 10 of COLL. -/
def collLimits (op : Fin 4) (a : Fin 32) (s : State) (sh : Fin 4 → Shape) : Option Trap :=
  let v := (rdG s a).toNat
  let arg := v / 2 ^ 4 % 4
  ((rowLimit s sh 0).or (rowLimit s sh 2)).or
    (if v / 2 ^ 32 ≠ 0 ∨ v / 2 ^ 6 % 2 ^ 10 ≠ 0 ∨ v / 8 % 2 ≠ 0 ∨ arg = 3 ∨ (arg ≠ 0 ∧ op ≠ 2) ∨
        (v / 2 ^ 16 % 2 ^ 16 ≠ 0 ∧ op ≠ 3) then scalarLimit s a else none)

/-- R20, R280: COLL at a level without participants. -/
def collLevel (a : Fin 32) (s : State) : Option Trap :=
  let l := (rdG s a).toNat % 8
  if l > s.ctx.hdr.gang ∨ l > s.ctx.hdr.nf then some (mkTrap s 0x01 (some (BitVec.ofNat 64 l)) none none) else none

/-- R280, R281: COLL at issue; it keeps which COLL of its level it is. -/
def collOp (s : State) (op : Fin 4) (a : Fin 32) (k : Fin 8) : Outcome State :=
  let l := (rdG s a).toNat % 8
  engineOp s (.coll op) (fun sh => [⟨0, false, collFmts op⟩, ⟨2, true, (collFmts op).filter (· == (sh 0).f)⟩])
    (fun _ => [1, 2, 3, 4, 6, 7, 8]) (rdG s a) 0 k.val 0 0
    (cLimits [a] (collLimits op a) (fun s sh => (collLevel a s).or (arrivalCheck s 2 (rowRanges (sh 2)))))
    fun s c =>
      let m := ((s.ctx.colls.find? fun x => x.1 == l).map (·.2)).getD 0
      promise (s.up fun x => { x with colls := (l, m + 1) :: x.colls.filter fun y => y.1 != l }) { c with reqs := m }
        (latencyColl s l)

/-- R281: COLL.sum. -/
def execCollSum (a : Fin 32) (k : Fin 8) (s : State) : Outcome State := collOp s 0 a k

/-- R281: COLL.max. -/
def execCollMax (a : Fin 32) (k : Fin 8) (s : State) : Outcome State := collOp s 1 a k

/-- R281: COLL.argmax. -/
def execCollArgmax (a : Fin 32) (k : Fin 8) (s : State) : Outcome State := collOp s 2 a k

/-- R281: COLL.bcast. -/
def execCollBcast (a : Fin 32) (k : Fin 8) (s : State) : Outcome State := collOp s 3 a k

/-- R283, R81: QLNCH: the header's 512 bytes lie at a multiple of 64 inside the grant. -/
def execQlnch (a b : Fin 32) (s : State) : Outcome State :=
  engineOp s .qlnch (fun _ => []) (fun _ => []) (rdG s a) 0 0 0 b
    (cLimits [a] (fun s _ => if (rdG s a).toNat % 64 ≠ 0 then scalarLimit s a else none)
      (fun s _ => if s.ctx.inGrant (rdG s a).toNat 512 then none else some (fatalTrap s none none)))
    fun s c => unpromised s { c with reqs := 8 }

/-! ## Welt commands (R284 to R287) -/

/-- R284: a slot number. -/
def slotLimit (a : Fin 32) (s : State) : Option Trap := if (rdG s a).toNat ≥ 1024 then scalarLimit s a else none

/-- R286: WPROP. -/
def execWprop (s : State) : Outcome State :=
  engineOp s .wprop (fun _ => [⟨0, false, [1]⟩]) (fun _ => [1, 2, 3, 4, 6, 7, 8]) 0 0 0 0 0
    (cLimits [] (fun s sh => (rowLimit s sh 0).or
      (if (sh 0).cols ≠ 576 ∨ (sh 0).rows.toNat > 16 ∨ (sh 0).t then some (limitTrap s 0) else none)) fun _ _ => none)
    unpromised

/-- A Welt command without a tile. -/
def weltOp (s : State) (op : CmdOp) (regs : List (Fin 32)) (a : Fin 32) (gb : Word) (b : Fin 32) : Outcome State :=
  engineOp s op (fun _ => []) (fun _ => []) (rdG s a) gb 0 0 b (cLimits regs (fun s _ => slotLimit a s) fun _ _ => none)
    unpromised

/-- R286: WDEPTH. -/
def execWdepth (a b : Fin 32) (s : State) : Outcome State := weltOp s .wdepth [a] a 0 b

/-- R286: WRBK: the record is the latest at its issue. -/
def execWrbk (a b : Fin 32) (s : State) : Outcome State :=
  weltOp s .wrbk [a] a (BitVec.ofNat 64 (rollbackWord s (rdG s a).toNat)) b

/-- R287: check 10 of WTAKE: 576 columns, at least 16 rows, T clear. -/
def wtakeLimit (s : State) (sh : Fin 4 → Shape) : Option Trap :=
  if (sh 0).cols ≠ 576 ∨ (sh 0).rows.toNat < 16 ∨ (sh 0).t then some (limitTrap s 0) else none

/-- R287, R366: WTAKE; the slot keeps the context that issued its last one. -/
def execWtake (a b : Fin 32) (s : State) : Outcome State :=
  engineOp s .wtake (fun _ => [⟨0, true, [1]⟩]) (fun _ => [1, 2, 3, 6, 7, 8]) (rdG s a) 0 0 0 b
    (cLimits [a] (fun s sh => ((rowLimit s sh 0).or (wtakeLimit s sh)).or (slotLimit a s)) fun _ _ => none)
    fun s c => unpromised (updSlot s c.ga.toNat fun x => { x with taker := some s.ctx.src }) c

/-- R287: WJUDGE. -/
def execWjudge (a b : Fin 32) (s : State) : Outcome State :=
  engineOp s .wjudge (fun _ => [⟨0, false, [11]⟩]) (fun _ => [1, 2, 3, 4, 6, 7, 8]) (rdG s a) 0 0 0 b
    (cLimits [a] (fun s sh => ((rowLimit s sh 0).or (if (sh 0).t then some (limitTrap s 0) else none)).or (slotLimit a s))
      fun _ _ => none) unpromised

/-- R287: WFINAL. -/
def execWfinal (a b : Fin 32) (s : State) : Outcome State := weltOp s .wfinal [a, b] a (rdG s b) 0

/-- R287: WSTAT. -/
def execWstat (a b : Fin 32) (s : State) : Outcome State := weltOp s .wstat [a] a 0 b

end Sys2Proof.Machine
end

