-- ==== Sys2Proof/Machine/Header.lean ====
section
/-! DEFINITION. Launch headers and program images (R19 to R22, R39, R395 to R398): the header's fields, its checks in
their order, the placement of its tasks, and the work queues. -/

namespace Sys2Proof.Machine

/-! ## Fields -/

/-- Bit i of a header's field of n bytes at o. -/
def hdrBit (r : List Byte) (o i : Nat) : Bool := recField r (o + i / 8) 1 / 2 ^ (i % 8) % 2 == 1

/-- R71, R395: the fields of a launch header of 512 bytes; reserved bits [1:0] of an FT entry read as zero. -/
def parseHdr (r : List Byte) : Hdr :=
  let f := recField r
  let n := f 64 1
  { queue := f 4 2, prio := f 6 1 % 8, det := hdrBit r 7 0, filler := hdrBit r 7 1, upper := hdrBit r 7 2
    tmen := hdrBit r 7 3, tag := BitVec.ofNat 64 (f 8 8), seed := BitVec.ofNat 64 (f 16 8), prog := f 24 8
    codelen := f 32 4, imglen := f 36 4, entry := f 40 4, quota := f 44 4, gbase := f 48 4, ibound := f 52 4
    period := f 56 4, pqcap := f 60 2, logit := if hdrBit r 62 7 then some (f 62 1 % 8) else none
    engines := (List.range 3).map (hdrBit r 63), nf := n, gang := f 65 1, place := (List.range 6).map (hdrBit r 66)
    cyclic := f 67 1 == 1
    extents := (List.range (min n 6)).map fun i => f (72 + 8 * i) 4 + 1
    widths := (List.range (min n 6)).map fun i => f (76 + 8 * i) 1
    rect := (List.range 4).map fun i => f (128 + i) 1
    cmask := (List.range 192).map (hdrBit r 136), cmva := f 160 8, slots := f 168 8
    ft := (List.range 16).map fun k => BitVec.ofNat 32 (f (192 + 4 * k) 4 / 4 * 4)
    st := (List.range 32).map fun k => BitVec.ofNat 16 (f (256 + 2 * k) 2)
    profs := ((List.range 4).map fun k => (f (320 + 8 * k) 3, f (323 + 8 * k) 3)).filter fun x => x.2 != 0
    profg := ((List.range 4).map fun k => (f (384 + 16 * k) 8, f (392 + 16 * k) 8)).filter fun x => x.2 != 0
    result := ((List.range 4).map fun k => (f (448 + 16 * k) 8, f (456 + 16 * k) 8)).filter fun x => x.2 != 0 }

/-- A byte range of a header is zero. -/
def hdrZero (r : List Byte) (o n : Nat) : Bool := ((r.drop o).take n).all (· == 0)

/-- R394, R395: MAGIC, VER or H is wrong, or a reserved byte or bit is nonzero. -/
def badHeader (r : List Byte) : Bool :=
  let f := recField r
  let n := min (f 64 1) 6
  r.length != 512 || f 0 2 != 0x4C48 || f 2 1 != 1 || f 3 1 != 8 || f 6 1 ≥ 8 || f 7 1 ≥ 16 || f 62 1 / 8 % 16 != 0 ||
    f 63 1 ≥ 8 || f 66 1 ≥ 64 || !(hdrZero r 68 4) || !(hdrZero r (72 + 8 * n) (56 - 8 * n)) ||
    ((List.range n).any fun i => f (77 + 8 * i) 3 != 0) || !(hdrZero r 132 4) || !(hdrZero r 176 16) ||
    !(hdrZero r 352 32) || ((List.range 4).any fun k => f (326 + 8 * k) 2 != 0)

/-- R19, R394, R395: BAD_FIELDS. -/
def badFields (r : List Byte) (h : Hdr) : Bool :=
  h.nf == 0 || h.nf > 6 || ((h.widths.zip h.extents).any fun (w, e) => w == 0 || w > 32 || e > 2 ^ w) ||
    h.widths.foldl (· + ·) 0 > 64 || ((List.range 6).any fun i => h.place.getD i false && i ≥ h.nf) ||
    (h.logit.any (· ≥ h.nf)) || recField r 67 1 > 1 ||
    (if h.upper then h.pqcap == 0 || h.pqcap > 16384 else h.pqcap != 0)

/-! ## Tasks and placement (R19 to R22, R397) -/

/-- R19: the tasks of a launch. -/
def Hdr.tasks (h : Hdr) : Nat := h.extents.foldl (· * ·) 1

/-- R21: the tasks of a gang. -/
def Hdr.gangSize (h : Hdr) : Nat := (h.extents.take h.gang).foldl (· * ·) 1

/-- R19: the field values of the task that is number o in ascending order of work identifier. -/
def fieldVals : List Nat → Nat → List Nat
  | [], _ => []
  | e :: es, o => o % e :: fieldVals es (o / e)

/-- R19: the work identifier of field values. -/
def packWid : List Nat → List Nat → Nat
  | w :: ws, v :: vs => v + 2 ^ w * packWid ws vs
  | _, _ => 0

/-- R19: the field values of a work identifier. -/
def unpackWid : List Nat → Nat → List Nat
  | [], _ => []
  | w :: ws, x => x % 2 ^ w :: unpackWid ws (x / 2 ^ w)

/-- R19: the work identifier of task o. -/
def Hdr.widOf (h : Hdr) (o : Nat) : Nat := packWid h.widths (fieldVals h.extents o)

/-- R397: the placement ordinal, over the placement fields. -/
def ordinalGo : List Bool → List Nat → List Nat → Nat → Nat
  | true :: ps, e :: es, v :: vs, m => v * m + ordinalGo ps es vs (m * e)
  | false :: ps, _ :: es, _ :: vs, m => ordinalGo ps es vs m
  | _, _, _, _ => 0

/-- R397: NP. -/
def Hdr.places (h : Hdr) : Nat := ((h.place.zip h.extents).filter (·.1)).foldl (fun a x => a * x.2) 1

/-- R395, R397: the core mask of package k of the rectangle. -/
def maskOf (s : State) (h : Hdr) (k : Nat) : List Bool :=
  if h.cmva = 0 then h.cmask
  else
    let va := h.cmva + 24 * k
    (List.range 192).map fun i =>
      (cobblerByte s (some h.rect) (va + i / 8)).any fun b => b.getLsbD (i % 8)

/-- R397: the core list: package and unit, in rank order. -/
def coreList (s : State) (h : Hdr) : List (Nat × Nat) :=
  let g := fun i => h.rect.getD i 0
  (List.range (g 2 * g 3)).flatMap fun k =>
    let m := maskOf s h k
    ((List.range (if h.upper then 64 else 192)).filter fun u => m.getD u false).map fun u =>
      (pkgHome (g 0 + k % g 2) (g 1 + k / g 2), u)

/-- R397: the package and unit of a task by its field values. -/
def taskPlace (h : Hdr) (cores : List (Nat × Nat)) (vs : List Nat) : Nat × Nat :=
  let v := ordinalGo h.place h.extents vs 1
  let c := cores.length
  cores.getD (if h.cyclic then v % c else v * c / h.places) (0, 0)

/-- R39: a gang of the Upper puts one task on each of the 64 stations of one package. -/
def ringGang (h : Hdr) (g : Nat) : Bool :=
  let all := (List.range (h.rect.getD 2 0 * h.rect.getD 3 0)).flatMap fun k => (List.range 64).map fun u => (k, u)
  let ps := (List.range 64).map fun o => taskPlace h all (fieldVals h.extents (g * 64 + o))
  (List.range 64).all fun u => (ps.filter fun p => p.2 == u && p.1 == (ps.headD (0, 0)).1).length == 1

/-- R21, R39, R314: BAD_GANG. Without any core there is no place to count tasks at, and the fault is BAD_RECT (DEDUCED,
log 112). -/
def badGang (s : State) (h : Hdr) : Bool :=
  let gs := h.gangSize
  h.gang > h.nf || (h.filler && h.gang != 0) ||
    (if h.upper then
      gs != 64 || !((List.range h.gang).any fun i =>
        h.place.getD i false && h.widths.getD i 0 == 6 && h.extents.getD i 0 == 64) ||
        (h.rect.getD 2 0 * h.rect.getD 3 0 != 0 && (List.range (h.tasks / 64)).any fun g => !(ringGang h g))
    else
      let cores := coreList s h
      !cores.isEmpty && (List.range (h.tasks / gs)).any fun g =>
        let ps := (List.range gs).map fun o => taskPlace h cores (fieldVals h.extents (g * gs + o))
        ps.any fun p => (ps.filter (· == p)).length > 8)

/-- R394: BAD_RECT. -/
def badRect (s : State) (h : Hdr) : Bool :=
  let g := fun i => h.rect.getD i 0
  g 2 == 0 || g 3 == 0 || g 0 + g 2 > 32 || g 1 + g 3 > 32 ||
    (List.range (g 2 * g 3)).any fun k =>
      let m := maskOf s h k
      if h.upper then !((m.take 64).all id) || (m.drop 64).any id else !(m.any id)

/-! ## Program images (R396) -/

/-- R396: the bytes of the image; none when they are not readable. -/
def imageBytes (s : State) (h : Hdr) : Option (List Byte) :=
  if (unitsOf' h.prog h.imglen).all fun a => (translate s (some h.rect) a .read).isSome then
    some ((List.range h.imglen).map fun i => (cobblerByte s (some h.rect) (h.prog + i)).getD 0)
  else none
where
  unitsOf' (va n : Nat) : List Nat :=
    if n = 0 then [] else (List.range ((va + n - 1) / 4096 - va / 4096 + 1)).map fun k => if k = 0 then va else (va / 4096 + k) * 4096

/-- R396: the scratchpad records after the code; none when one, its padding included, runs past the image. The fuel is the
image's length. -/
def imageRecords : Nat → List Byte → Option (List (Nat × List Byte))
  | 0, _ => some []
  | n + 1, bs =>
    if bs.isEmpty then some []
    else
      let a := recField bs 0 3
      let l := recField bs 3 3
      if bs.length < 8 + (l + 7) / 8 * 8 then none
      else (imageRecords n (bs.drop (8 + (l + 7) / 8 * 8))).map ((a, (bs.drop 8).take l) :: ·)

/-- R172, R394, R396: the image, when it has no fault: its code and its records. -/
def goodImage (s : State) (h : Hdr) : Option (List Byte × List (Nat × List Byte)) :=
  let top := if h.upper then Config.upperSram else Config.soleSpad
  if h.prog % 64 ≠ 0 ∨ h.codelen % 64 ≠ 0 ∨ h.entry % 64 ≠ 0 ∨ h.gbase % 4096 ≠ 0 ∨ h.imglen < h.codelen ∨
      h.entry ≥ h.codelen ∨ h.quota % 4096 ≠ 0 ∨ h.quota > top ∨ h.gbase + h.quota > top then none
  else
    match imageBytes s h with
    | none => none
    | some bs =>
      match imageRecords h.imglen (bs.drop h.codelen) with
      | none => none
      | some rs =>
        if rs.all fun x => x.2.isEmpty || (h.gbase ≤ x.1 && x.1 + x.2.length ≤ h.gbase + h.quota) then
          some (bs.take h.codelen, rs)
        else none

/-! ## Work queues (R398) -/

/-- R398: the status of a header, without its queue's: the first failure, or 0. -/
def headerStatus (s : State) (r : List Byte) (q : Option Nat) : Nat :=
  let h := parseHdr r
  if badHeader r ∨ h.queue ≥ 4096 ∨ (q.any fun x => x != h.queue) then 0x105
  else if badFields r h then 0x101
  else if badGang s h then 0x102
  else if badRect s h then 0x103
  else if (goodImage s h).isNone then 0x104
  else 0

/-- A work queue. -/
def findQueue (s : State) (q : Nat) : Option WorkQueue := s.host.queues.find? fun x => x.q == q

/-- The queues, with one changed. -/
def updQueue (s : State) (q : Nat) (f : WorkQueue → WorkQueue) : State :=
  { s with host := { s.host with queues := s.host.queues.map fun x => if x.q == q then f x else x } }

/-- R398: a queue that holds 16 headers. -/
def queueFull (s : State) (q : Nat) : Bool := (findQueue s q).any fun x => x.heads.length ≥ Config.queueHeaders

/-- R1, R398: the fabric cycle at hand, plus one. -/
def fabricCycle (s : State) : Nat := s.tick * 16 + s.sub * 16 / 21 + 1

/-- R398: a queue that has taken a header in this fabric cycle already. -/
def queueTaken (s : State) (q : Nat) : Bool := (findQueue s q).any fun x => x.took ≥ fabricCycle s

/-- R131: what the header of a QLNCH that closed a phase is checked against. -/
def launchView (s : State) (after : Option (Nat × Nat)) : State :=
  match after with
  | some (src, n) => asPublished s src s.ctx.gunit n
  | none => s

/-- R398: a header without fault joins its queue, which takes one in a fabric cycle; those of one reference tick take
successive ones (DEDUCED, log 111). An admission opportunity follows. -/
def enqueue (s : State) (r : List Byte) (sid sq : Nat) (after : Option (Nat × Nat)) : State :=
  let h := parseHdr r
  match goodImage (launchView s after) h with
  | none => s
  | some (code, recs) =>
    let l : Launch := ⟨s.fresh, h, r, code, recs, sid, sq, 0, [], 0, none, false, 0, false, 0, 0, [], false, after⟩
    let s := if (findQueue s h.queue).isSome then s
      else { s with host := { s.host with queues := s.host.queues ++ [⟨h.queue, 0, [], h.prio, 0, 0, 0, [], 0⟩] } }
    let s := updQueue s h.queue fun x =>
      { x with
        heads := x.heads ++ [l.lid]
        intake := x.intake + 1
        level := if x.heads.isEmpty then h.prio else x.level
        waited := if x.heads.isEmpty then 0 else x.waited
        took := max (x.took + 1) (fabricCycle s) }
    post { s with fresh := s.fresh + 1, host := { s.host with launches := s.host.launches ++ [l] } } .gangAdmission

/-- R387, R389, R391, R398: a LAUNCH command at intake, with its ACK; a copy of one gets the same ACK. -/
def execLaunch (sid sq q : Nat) (hdr : List (BitVec 8)) (s : State) : Outcome State :=
  if (findSession s sid).isNone then .next s
  else
    let bound := (findQueue s q).any fun x => x.sid == sid
    let answered := (findSession s sid).bind fun x => x.acks.find? fun a => a.1 == sq
    let st := headerStatus s hdr (some q)
    if answered.isSome then .next (sendAck s sid sq ((answered.map (·.2)).getD 0))
    else if !bound then .next (sendAck s sid sq 0x108)
    else if st ≠ 0 then .next (sendAck s sid sq st)
    else if queueFull s q then .next (sendAck s sid sq 0x107)
    else .next (sendAck (enqueue s hdr sid sq none) sid sq 0)

end Sys2Proof.Machine
end

