-- ==== Sys2Proof/Machine/Local.lean ====
section
/-! DEFINITION. Loads and stores of the M class (R150, R189 to R192, R358, R362). -/

namespace Sys2Proof.Machine

/-- R150: the byte offset of an M syllable. -/
def memOff (o : BitVec 7) (size : Nat) : Word := BitVec.ofInt 64 (o.toInt * (2 ^ size : Nat))

/-- R150: the address that an INC mode forms. -/
def memAddr (base : Word) (inc : Fin 4) (o : BitVec 7) (size : Nat) : Word :=
  if inc = 0 ∨ inc = 3 then base + memOff o size else base

/-- R150: the base register after; none when it is unchanged. -/
def memBase (base : Word) (inc : Fin 4) (o : BitVec 7) (size : Nat) : Option Word :=
  match inc.val with
  | 0 => none
  | 1 => some (base + BitVec.ofNat 64 (2 ^ size))
  | _ => some (base + memOff o size)

/-- R150, R165: the update of the base register, which commits at +1 whether the syllable acts or not; one that does not act
makes no check-code check. -/
def baseUpdate (s : State) (b : Fin 32) (inc : Fin 4) (o : BitVec 7) (size : Nat) (act : Bool) : State :=
  match memBase (rdG s b) inc o size with
  | none => s
  | some v => putLatch s { newLatch s 1 (.g b) v 0 (if act then badReg s 5 [b] else none) with slot := 5 }

/-- R355, R290: the declared ranges in force at a task cycle: a DECL due by then counts. -/
def regsAt (c : Ctx) (t : Nat) : Regs :=
  c.dws.foldl (fun r w =>
    match w.act with
    | .dset e ws => if w.due ≤ t then
        { r with dset := Vector.ofFn fun k => if k.val / 6 = e.val then ws.getD (k.val % 6) 0 else r.dset[k] } else r
    | _ => r) c.r

/-- The lowest byte of an access that lies in some ranges. -/
def meets (rs : List (Nat × Nat)) (a n : Nat) : Option Nat := (byteRange a n).find? (inRanges rs)

/-- R190, R358: the issue checks of a memory syllable: grant, alignment, and in deterministic mode the C write ranges in
force at the access's task cycle and, for a load, the profiling ranges. -/
def memCheck (s : State) (a : Word) (n : Nat) (load quar : Bool) : Option Trap :=
  let c := s.ctx
  let rq := requester c 5 c.iss.pos 5
  if a.toNat ≥ 2 ^ 24 ∨ !(c.inGrant a.toNat n) then some (fatalTrap s none none)
  else if a.toNat % n ≠ 0 then some (mkTrap s 0x06 (some a) (some 1) none)
  else
    let esc := fun w : Nat => fun b : Nat =>
      mkTrap s 0x0D (some (BitVec.ofNat 64 b)) (some rq) (some (BitVec.ofNat 64 w))
    match (if quar then (byteRange a.toNat n).find? fun b => !(inRanges c.hdr.profs b) else none) with
    | some b => some (esc 1 b)
    | none =>
      if !c.hdr.det then none
      else
        match meets (declRanges (regsAt c (c.now + 1)) 2 4 2) a.toNat n with
        | some b => some (mkTrap s 0x0C (some (BitVec.ofNat 64 b)) (some rq) (some 2))
        | none => if load then (meets c.hdr.profs a.toNat n).map (esc 0) else none

/-- R189 to R191: a load of 2^size bytes into register v: read at +1, readable at +3. -/
def loadOp (s : State) (v b : Fin 32) (inc : Fin 4) (o : BitVec 7) (size : Nat) (signed : Bool) : Outcome State :=
  let a := memAddr (rdG s b) inc o size
  if acts s then
    match memCheck s a (2 ^ size) true false with
    | some t => .next (takeTrap s t)
    | none =>
      let s := baseUpdate (charge s (weight s 1)) b inc o size true
      .next (putLatch s { newLatch s 3 (.g v) 0 0 (badReg s 5 [b]) with
        slot := 5, ld := some ⟨a.toNat, 2 ^ size, signed⟩ })
  else .next (baseUpdate (idle s) b inc o size false)

/-- R189, R190, R192: a store of 2^size bytes at +1; a register that fails its code is reported there instead. -/
def storeOp (s : State) (val : Word) (srcs : List (Fin 32)) (b : Fin 32) (inc : Fin 4) (o : BitVec 7) (size : Nat)
    (quar : Bool) : Outcome State :=
  let a := memAddr (rdG s b) inc o size
  if acts s then
    match memCheck s a (2 ^ size) false quar with
    | some t => .next (takeTrap s t)
    | none =>
      let act := match badReg s 5 (b :: srcs) with
        | some t => DAct.raise t
        | none => DAct.store a.toNat (2 ^ size) val
      .next (addDW (baseUpdate (charge s (weight s 1)) b inc o size true) 1 act)
  else .next (baseUpdate (idle s) b inc o size false)

/-- R189: LD.b. -/
def execLdB (v b : Fin 32) (im : Fin 4) (o : BitVec 7) (s : State) : Outcome State :=
  loadOp s v b im o 0 true

/-- R189: LD.bn. -/
def execLdBn (v b : Fin 32) (im : Fin 4) (o : BitVec 7) (s : State) : Outcome State :=
  loadOp s v b im o 0 false

/-- R189: LD.h. -/
def execLdH (v b : Fin 32) (im : Fin 4) (o : BitVec 7) (s : State) : Outcome State :=
  loadOp s v b im o 1 true

/-- R189: LD.hn. -/
def execLdHn (v b : Fin 32) (im : Fin 4) (o : BitVec 7) (s : State) : Outcome State :=
  loadOp s v b im o 1 false

/-- R189: LD.w. -/
def execLdW (v b : Fin 32) (im : Fin 4) (o : BitVec 7) (s : State) : Outcome State :=
  loadOp s v b im o 2 true

/-- R189: LD.wn. -/
def execLdWn (v b : Fin 32) (im : Fin 4) (o : BitVec 7) (s : State) : Outcome State :=
  loadOp s v b im o 2 false

/-- R189: LD.d. -/
def execLdD (v b : Fin 32) (im : Fin 4) (o : BitVec 7) (s : State) : Outcome State :=
  loadOp s v b im o 3 true

/-- R189: ST.b. -/
def execStB (v b : Fin 32) (im : Fin 4) (o : BitVec 7) (s : State) : Outcome State :=
  storeOp s (rdG s v) [v] b im o 0 false

/-- R189: ST.h. -/
def execStH (v b : Fin 32) (im : Fin 4) (o : BitVec 7) (s : State) : Outcome State :=
  storeOp s (rdG s v) [v] b im o 1 false

/-- R189: ST.w. -/
def execStW (v b : Fin 32) (im : Fin 4) (o : BitVec 7) (s : State) : Outcome State :=
  storeOp s (rdG s v) [v] b im o 2 false

/-- R189: ST.d. -/
def execStD (v b : Fin 32) (im : Fin 4) (o : BitVec 7) (s : State) : Outcome State :=
  storeOp s (rdG s v) [v] b im o 3 false

/-- R189, R362: STQ. -/
def execStq (q : Fin 4) (b : Fin 32) (im : Fin 4) (o : BitVec 7) (s : State) : Outcome State :=
  storeOp s s.ctx.r.q[q] [] b im o 3 true

end Sys2Proof.Machine
end

