-- ==== Sys2Proof/Machine/Matrix.lean ====
section
/-! DEFINITION. The X class: the meaning of every instruction of major 0x17 at its issue (R241 to R260). Its units are
performed by MatrixUnits. -/

namespace Sys2Proof.Machine

/-- R245: the formats of a width class that MMA, or MMAS, accepts. -/
def classFmts (w : Nat) : List Nat := (List.range 18).filter fun f => mmaClass f == w && w != 0

/-- R93, R244: the formats of xd0, none of them for an accumulator that the die does not have. -/
def accFmts (s : State) (sh : Fin 4 → Shape) (fs : List Nat) : List Nat :=
  if s.ctx.upper && (sh 0).acc.toNat ≥ 2 then [] else fs

/-- R243 step 4: check 9 over a window of m rows and n columns. -/
def windowCheck (s : State) (sh : Fin 4 → Shape) (m n : Nat) : Option Trap :=
  if (sh 0).off.toNat + m > 128 ∨ (sh 0).coff.toNat + n > 128 then some (shapeTrap s 0x02 9 0) else none

/-- R85: the bank groups that a tile's bytes lie in. -/
def tileGroups (upper : Bool) (h : Shape) : List Nat :=
  let g := if upper then 2 ^ 21 else 2 ^ 19
  (List.range 4).filter fun k => (rowRanges h).any fun (a, n) => a / g ≤ k && k ≤ (a + n - 1) / g

/-- R85, R86: BANK_GROUP of a product whose tiles share a group. -/
def groupCheck (s : State) (sh : Fin 4 → Shape) : Option Trap :=
  let u := s.ctx.upper
  let gb := tileGroups u (sh 2)
  ((tileGroups u (sh 1)).find? fun g => gb.contains g).map fun g =>
    mkTrap s 0x08 (some (BitVec.ofNat 64 (g * (if u then 64 else 16)))) (some (requester s.ctx 3 s.ctx.iss.pos 1))
      (some (requester s.ctx 3 s.ctx.iss.pos 2))

/-- R244: the checks that an operation makes on a register: xd0 takes those it is allowed. -/
def xChecks (on0 : List Nat) (u : Use) : List Nat := if u.reg = 0 then on0 else checks18

/-- R243 steps 4 to 7 in their order. -/
def xLimits (m n : (Fin 4 → Shape) → Nat) (win : Bool) (lim : State → (Fin 4 → Shape) → Option Trap) (grp : Bool)
    (regs : List (Fin 32)) (s : State) (sh : Fin 4 → Shape) : Option Trap :=
  (((((if win then windowCheck s sh (m sh) (n sh) else none).or (lim s sh)).or (startForm s)).or
    (if grp then groupCheck s sh else none)).or (scalarCheck s 1 regs))

/-- R245 to R247: the uses of a product; xd3 in any format is left to check 10. -/
def mmaUses (s : State) (scaled : Bool) (sh : Fin 4 → Shape) : List Use :=
  let a := (sh 1).f
  let b := (sh 2).f
  let ok := if scaled then classFmts 4 ++ classFmts 8 else classFmts 4 ++ classFmts 8 ++ classFmts 16
  let need := if !scaled && fmtIsInt a && fmtIsInt b then 19 else 18
  [⟨0, true, accFmts s sh [need]⟩, ⟨1, false, ok⟩,
    ⟨2, false, if ok.contains a then classFmts (mmaClass a) else ok⟩] ++
    if scaled then [⟨3, false, fmtsAll ++ [18, 19]⟩] else []

/-- R246: M ≤ 128, N ≤ 128 and K ≤ 512. -/
def mmaLimits (s : State) (sh : Fin 4 → Shape) : Option Trap :=
  if (sh 1).lr > 128 ∨ (sh 1).lc > 512 then some (limitTrap s 1)
  else if (sh 2).lc > 128 then some (limitTrap s 2)
  else none

/-- R247: NAT4 scale indices with T clear, enough rows and enough columns. -/
def scaleLimits (s : State) (sh : Fin 4 → Shape) : Option Trap :=
  let x := sh 3
  (mmaLimits s sh).or
    (if x.f ≠ 3 ∨ x.t ∨ x.rows.toNat < (sh 1).lr + (sh 2).lc ∨ x.cols.toNat < cdiv (sh 1).lc 32 then
      some (limitTrap s 3) else none)

/-- R246, R247: MMA, MMA.z, MMAS and MMAS.z at issue. -/
def xProduct (s : State) (scaled z : Bool) : Outcome State :=
  engineOp s (if scaled then .mmas z else .mma z) (mmaUses s scaled) (fun u => xChecks [1, 4] u) 0 0 0 0 0
    (xLimits (fun sh => (sh 1).lr) (fun sh => (sh 2).lc) true (if scaled then scaleLimits else mmaLimits) true [])
    fun s c => (s, { c with st := if scaled then s.ctx.r.st.toList else [] })

/-- R246: MMA. -/
def execMma (s : State) : Outcome State := xProduct s false false

/-- R246: MMA.z. -/
def execMmaZ (s : State) : Outcome State := xProduct s false true

/-- R247: MMAS. -/
def execMmas (s : State) : Outcome State := xProduct s true false

/-- R247: MMAS.z. -/
def execMmasZ (s : State) : Outcome State := xProduct s true true

/-- R66, R253: the destinations that a format of xd0 converts to. -/
def accnFmts (f : Nat) : List Nat :=
  if f = 18 then [10, 11, 12, 13, 14, 15, 16, 17] else List.range 10 ++ [11, 12, 13]

/-- R253, R255: check 10 of ACCN. -/
def accnLimits (a : Fin 32) (s : State) (sh : Fin 4 → Shape) : Option Trap :=
  let d := sh 1
  if d.lr > 128 ∨ d.lc > 128 ∨ d.rowLen > 512 then some (limitTrap s 1)
  else if fmtIsInt d.f ∧ (rdG s a).toNat / 2 ^ 6 ≠ 0 then some (limitTrap s 15)
  else none

/-- R253: ACCN. -/
def execAccn (a : Fin 32) (x : Fin 8) (s : State) : Outcome State :=
  engineOp s .accn
    (fun sh => [⟨0, true, accFmts s sh [18, 19]⟩, ⟨1, true, accnFmts (sh 0).f⟩]) (fun u => xChecks [1, 4] u)
    (rdG s a) 0 x.val 0 0
    (xLimits (fun sh => (sh 1).lr) (fun sh => (sh 1).lc) true (accnLimits a) false [a])
    fun s c => (s, { c with mode := resolveMode s x.val, reqs := a.val })

/-- R256: one side's information word: reserved fields, alignment, RCNT, and the entries that n rows or columns need. -/
def infoBad (v n : Nat) (pq : Bool) : Bool :=
  v / 2 ^ 5 % 8 != 0 || (!pq && v % 32 != 0) || v / 2 ^ 40 % 128 != 0 || v / 2 ^ 24 % 2 ^ 16 == 0 ||
    v / 2 ^ 8 % 2 ^ 16 + n > v / 2 ^ 24 % 2 ^ 16

/-- R256: check 10 of ACCX, and its information bytes outside the grant. -/
def accxLimits (a b : Fin 32) (s : State) (sh : Fin 4 → Shape) : Option Trap :=
  let m := (sh 1).lr
  let n := (sh 1).lc
  let out := fun (g : Word) k => (infoRanges g k).any fun (x, l) => !(s.ctx.inGrant x l)
  if infoBad (rdG s a).toNat m true ∨ infoBad (rdG s b).toNat n false then some (limitTrap s 15)
  else if m > 128 ∨ n > 64 then some (limitTrap s 1)
  else if out (rdG s a) m ∨ out (rdG s b) n then some (fatalTrap s none none)
  else none

/-- R257: ACCX. -/
def execAccx (a b : Fin 32) (s : State) : Outcome State :=
  engineOp s .accx
    (fun sh => [⟨0, true, accFmts s sh [19]⟩, ⟨1, true, [10]⟩, ⟨2, false, [10]⟩]) (fun u => xChecks [1, 4] u)
    (rdG s a) (rdG s b) 0 0 0
    (xLimits (fun sh => (sh 1).lr) (fun sh => (sh 1).lc) true (accxLimits a b) false [a, b]) plainCapture

/-- R254: ACCZ. -/
def execAccz (s : State) : Outcome State :=
  engineOp s .accz (fun sh => [⟨0, true, accFmts s sh [18, 19]⟩]) (fun u => xChecks [1, 2, 3, 4] u) 0 0 0 0 0
    (xLimits (fun sh => (sh 0).rows.toNat) (fun sh => (sh 0).cols.toNat) true (fun _ _ => none) false []) plainCapture

/-- R259: check 10 of ACCST and ACCLD, and an image past the Heel, which comes first (DEDUCED, log 157). -/
def imageLimits (a : Fin 32) (s : State) (_ : Fin 4 → Shape) : Option Trap :=
  let v := (rdG s a).toNat
  if v / 2 ^ 27 ≠ 0 ∨ v % 2 ^ 10 ≠ 0 then some (limitTrap s 15)
  else if v + 100352 > Config.heelBytes then some (fatalTrap s none none)
  else none

/-- R258, R259: a move of a whole accumulator. -/
def accImage (s : State) (op : CmdOp) (a : Fin 32) : Outcome State :=
  engineOp s op (fun sh => [⟨0, true, accFmts s sh (List.range 32)⟩]) (fun u => xChecks [1] u) (rdG s a) 0 0 0 0
    (xLimits (fun _ => 0) (fun _ => 0) false (imageLimits a) false [a]) plainCapture

/-- R259: what ACCST and ACCLD raise at the issue of a trap handler, whose command enters no queue. -/
def imageTrap (s : State) (a : Fin 32) : Option Trap :=
  let s1 := swapped s 1
  let sh := captured s1 1
  (shapeCheck s1 1 sh [⟨0, true, accFmts s1 sh (List.range 32)⟩] fun u => xChecks [1] u).or
    (xLimits (fun _ => 0) (fun _ => 0) false (imageLimits a) false [a] s1 sh)

end Sys2Proof.Machine
end

