-- ==== Sys2Proof/Machine/VectorUnits.lean ====
section
/-! DEFINITION. The units of V commands (R216 to R240): which bytes each reads in a task cycle, what it computes from
them, and what it leaves to be written. -/

namespace Sys2Proof.Machine

/-- R84, R356: an access of a unit in one task cycle: the operand that R86 names and the bytes it touches. -/
structure Access where
  unit : Nat
  opnd : Nat
  rs : List (Nat × Nat)
  deriving DecidableEq, Repr

/-- What performing a unit in one task cycle comes to: its causes by R37's order (with flags), its writes to come, what
it keeps for its later cycles, and a charge at once. -/
structure Perf where
  unit : Nat
  causes : List (Nat × Trap × Nat)
  uws : List UWrite
  buf : List (List Nat)
  charge : Nat

/-- The source tiles of an element-wise operation, in the order of x[1], x[2], x[3] (R216). -/
def eReads (op : EOp) (sc : Bool) : List (Fin 4) :=
  match op with
  | .fill => []
  | .abs | .neg | .mov | .not | .popc | .clz | .brev | .sqrt | .cvt | .exp2 | .log2 | .rcp | .rsqrt | .tran => [1]
  | .fma | .fms | .sel | .bfi | .fshl | .fshr => if sc then [1, 3] else [1, 2, 3]
  | _ => if sc then [1] else [1, 2]

/-- The tiles a chain reads (R240). -/
def chainTiles (ops : List ChainOp) : List (Fin 4) :=
  [1] ++ (if ops.any (·.src == 1) then [2] else []) ++ if ops.any (·.src == 2) then [3] else []

/-- R232: the tile that VTRAN reads has its T inverted. -/
def Cmd.src (c : Cmd) (i : Fin 4) : Shape :=
  let h := c.sh i
  match c.op with
  | .elem .tran _ => if i = 1 then { h with t := !h.t } else h
  | _ => h

/-- R27, R32: the bytes of the elements of row r, columns lo to hi − 1, that lie in a tile. -/
def spanRanges (h : Shape) (r lo hi : Nat) : List (Nat × Nat) :=
  let hi := min hi h.lc
  if r ≥ h.lr ∨ lo ≥ hi then []
  else if h.t then dedup ((List.range (hi - lo)).map fun k => (h.elemAt r (lo + k)).1) |>.map fun a =>
    (a, max 1 (fmtBits h.f / 8))
  else
    let a := (h.elemAt r lo).1
    [(a, (h.elemAt r (hi - 1)).1 + max 1 (fmtBits h.f / 8) - a)]

/-- R216: position (r, c) lies beyond a tile. -/
def Shape.beyond (h : Shape) (r c : Nat) : Bool := r ≥ h.lr || c ≥ h.lc

/-- R33, R216: what a position gets from the sources: a trap on a register's edge, nothing, or their elements. -/
inductive Pos where
  | trap (reg : Nat)
  | skip
  | vals (l : List Nat)

/-- R33, R216: one position of the sources ks; EDGE_TRAP is that of the first register passed (DEDUCED, log 154). -/
def posVals (rd : Nat → Byte) (c : Cmd) (ks : List (Fin 4)) (r col : Nat) : Pos :=
  let out := ks.filter fun k => (c.src k).beyond r col
  match out.find? fun k => (c.src k).edge == 2 with
  | some k => .trap k.val
  | none =>
    if out.any fun k => (c.src k).edge == 0 then .skip
    else .vals (ks.map fun k => if (c.src k).beyond r col then 0 else elemBits rd (c.src k) r col)

/-- R219: an EDGE_TRAP at a position. -/
def edgeTrap (s : State) (c : Cmd) (reg idx : Nat) : Nat × Trap × Nat :=
  (3, unitTrap s c 0x09 (some (BitVec.ofNat 64 reg)) (some 0) (some (BitVec.ofNat 64 idx)), 0)

/-- R219: an SNAN_TRAP or FP_TRAP at a position, with flags. -/
def fpHit (s : State) (c : Cmd) (h : Hit) : Nat × Trap × Nat :=
  (h.rank, unitTrap s c (if h.rank = 4 then 0x12 else 0x11) (some (BitVec.ofNat 64 h.idx)) (some (BitVec.ofNat 64 h.fl))
    (some 0), h.fl)

/-- R49, R65: how a result at an index traps. -/
def resHit (fen : BitVec 6) (idx : Nat) (r : Res) : Option Hit :=
  if r.sn && fen.getLsbD 5 then some ⟨4, idx, r.fl⟩ else if fpTraps fen r then some ⟨5, idx, r.fl⟩ else none

/-- A signalling NaN in an element that is read. -/
def isSnan (f x : Nat) : Bool :=
  fmtIsFloat f && (match fpDecode f x with | .nan s _ => s | _ => false)

/-! ## Element-wise units -/

/-- What a run of positions has come to: elements written, flags, and the traps seen. -/
structure Run where
  out : List (Nat × Nat × Nat)
  fl : Nat
  edge : Option (Nat × Nat)
  hits : List Hit

/-- R220 to R225, R239: the result of one position from its elements. -/
def Cmd.compute (c : Cmd) (x : Ctx) (idx : Nat) (vs : List Nat) : Res :=
  let f := (c.sh 1).f
  let g := (c.sh 0).f
  let md := modeOf x c.mode idx c.issue 2
  match c.op with
  | .elem op sc =>
    let f := if op = .fill then g else f
    let k := c.ga.toNat % 2 ^ fmtBits f
    if op = .fill then .plain k
    else if sc then elemOp op f g c.mode md (vs.getD 0 0) k (vs.getD 1 0)
    else if op = .bfi ∨ op = .fshl ∨ op = .fshr ∨ op = .fma ∨ op = .fms ∨ op = .sel then
      elemOp op f g c.mode md (vs.getD 0 0) (vs.getD 1 0) (vs.getD 2 0)
    else elemOp op f g c.mode md (vs.getD 0 0) (vs.getD 1 0) 0
  | .chain ops =>
    let k := c.ga.toNat % 2 ^ fmtBits g
    let v2 := vs.getD 1 0
    let v3 := vs.getD (if ops.any (·.src == 1) then 2 else 1) 0
    ops.foldl (fun (a : Res) o =>
      let b := match o.src with | 1 => v2 | 2 => v3 | 3 => k | _ => 0
      let r := elemOp o.op g g o.aux (modeOf x o.aux idx c.issue 2) a.bits b 0
      ⟨r.bits, a.fl ||| r.fl, a.tiny || r.tiny, a.sn || r.sn⟩) (.plain (vs.getD 0 0))
  | _ => .plain (vs.getD 0 0)

/-- R216: what the positions of row r, columns lo to hi − 1, of an extent `cols` wide come to, one entry each: 0 with the
register whose edge traps and the index; 1 with index, column, bits, flags and the rank of its trap (0 for none). -/
def elemLane (s : State) (c : Cmd) (ks : List (Fin 4)) (cols r lo hi : Nat) : List (List Nat) :=
  (List.range (hi - lo)).filterMap fun i =>
    let col := lo + i
    let idx := r * cols + col
    match posVals (spadByte s) c ks r col with
    | .trap k => some [0, k, idx]
    | .skip => none
    | .vals vs =>
      let res := c.compute s.ctx idx vs
      some [1, idx, col, res.bits, res.fl, ((resHit c.fen idx res).map (·.rank)).getD 0]

/-- R36, R64: the run of a chunk of row r from the entries of its lanes. -/
def chunkRun (r : Nat) (es : List (List Nat)) : Run :=
  es.foldl (fun (a : Run) e =>
    match e with
    | [0, k, idx] => { a with edge := a.edge.or (some (k, idx)) }
    | [1, idx, col, bits, fl, rank] =>
      { a with
        out := a.out ++ [(r, col, bits)]
        fl := a.fl ||| fl
        hits := a.hits ++ if rank = 0 then [] else [⟨rank, idx, fl⟩] }
    | _ => a) ⟨[], 0, none, []⟩

/-- R37: the causes of a run. -/
def Run.causes (a : Run) (s : State) (c : Cmd) : List (Nat × Trap × Nat) :=
  (a.edge.map fun (k, i) => edgeTrap s c k i).toList ++
    (((a.hits.find? fun h => h.rank == 4).toList ++ (a.hits.find? fun h => h.rank == 5).toList).map fun h =>
      fpHit s c { h with fl := a.fl })

/-- A write of a unit at an offset. -/
def Cmd.uw (c : Cmd) (unit off opnd : Nat) (act : UAct) (flags charge : Nat) : UWrite :=
  ⟨c.op.eng, c.id, unit, c.base + off, opnd, act, flags, charge⟩

/-- A write names no byte. -/
def UAct.empty : UAct → Bool
  | .elems _ l => l.isEmpty
  | .tiles l => l.all fun x => x.2.isEmpty
  | .scan _ _ xs => xs.all (· == 0)
  | .push es => es.isEmpty
  | _ => false

/-- R424: what a unit leaves: its write, whose commit brings its flags and its charge, or, when it writes nothing and raises
no flag, its charge at this read. -/
def Cmd.leave (c : Cmd) (unit off opnd : Nat) (act : UAct) (flags charge : Nat) : List UWrite × Nat :=
  if act.empty then (if flags = 0 then [] else [c.uw unit off opnd act flags 0], charge)
  else ([c.uw unit off opnd act flags charge], 0)

/-- R217, R424: the charges of a V chunk. -/
def vCharge (s : State) (c : Cmd) : Nat := weight s (if c.op.quad then 8 else 7)

/-- The sources of an element-wise command or a chain. -/
def Cmd.reads (c : Cmd) : List (Fin 4) :=
  match c.op with
  | .elem op sc => eReads op sc
  | .chain ops => chainTiles ops
  | _ => []

/-- R217: the offset at which chunk i of an element-wise command is written. -/
def Cmd.writeOff (c : Cmd) (i : Nat) : Nat :=
  match c.op with
  | .chain ops => 4 + 2 * ops.length + i
  | op => if op.quad then 14 + 4 * i else 6 + i

/-- R37, R217: a chunk, or a lane of a chunk, of an element-wise command. A chunk read a lane at a time keeps what its lanes
come to and is judged and written as one unit. -/
def elemUnit (s : State) (c : Cmd) (i : Nat) (lane : Option Nat) : Perf :=
  let (f, _, cols) := c.chunkGeo
  let (r, lo, hi) := c.span i
  let (lo, hi) := match lane with | some j => laneSpan f lo hi j | none => (lo, hi)
  let es := (if lane.getD 0 = 0 then [] else c.buf) ++ elemLane s c c.reads cols r lo hi
  if lane.getD 3 = 3 then
    let a := chunkRun r es
    let (ws, e) := c.leave i (c.writeOff i) 0 (.elems (c.sh 0) a.out) a.fl (vCharge s c)
    ⟨i, a.causes s c, ws, [], e⟩
  else ⟨i, [], [], es, 0⟩

/-! ## Reductions (R227 to R229, R234) -/

/-- R227: the place of a group's result in vd0: its offset and the element, or vd0's edge. -/
def resultWrite (s : State) (c : Cmd) (off r col idx v : Nat) : List (Nat × Trap × Nat) × List (Nat × Nat × Nat × Nat) :=
  let d := c.sh 0
  if d.beyond r col then (if d.edge = 2 then [edgeTrap s c 0 idx] else [], []) else ([], [(off, r, col, v)])

/-- R227: the result of a group: bits, flags and the node that traps. -/
def groupResult (s : State) (c : Cmd) (g : Nat) (xs : List (Nat × Nat)) : Nat × Nat × Option Hit :=
  let f := (c.sh 1).f
  match c.op with
  | .redSum _ => sumGroup f (fun k => modeOf s.ctx c.mode (g * 2 ^ 16 + k) c.issue 2) c.fen xs
  | .redMax _ => extremeGroup true f c.fen xs
  | .redMin _ => extremeGroup false f c.fen xs
  | .argmax _ =>
    let (v, p) := argmaxGroup f (xs.map (·.1))
    let fl := if xs.any fun x => isSnan f x.1 then flNV else 0
    let hit := if fl ≠ 0 ∧ c.fen.getLsbD 4 then (xs.find? fun x => isSnan f x.1).map fun x => ⟨5, x.2, flNV⟩ else none
    (v * 2 ^ 32 + (c.ga.toNat + p) % 2 ^ 32, fl, hit)
  | _ => ((xs.filter fun x => x.1 != 0).length, 0, none)

/-- The axis of a reduction. -/
def CmdOp.axis : CmdOp → Axis
  | .redSum a | .redMax a | .redMin a | .argmax a => a
  | _ => .row

/-- R234: the first chunk of the group that holds chunk i. -/
def Cmd.groupStart (c : Cmd) (i : Nat) : Nat :=
  match c.op.axis with
  | .row => i / c.cpr * c.cpr
  | _ => 0

/-- R217, R227: the groups that chunk i completes: number, place, offset, and their elements with indices. -/
def groupsDone (c : Cmd) (i : Nat) (buf : List (List Nat)) : List (Nat × Nat × Nat × Nat × List (Nat × Nat)) :=
  let (_, rows, cols) := c.chunkGeo
  let n := c.chunks
  let xs := buf.flatten
  match c.op.axis with
  | .row =>
    if (i + 1) % c.cpr = 0 then
      let r := i / c.cpr
      let d := match c.op with | .popcBit => 0 | _ => depthOf cols
      [(r, r, 0, i + 2 * d + 8, xs.zip ((List.range cols).map (r * cols + ·)))]
    else []
  | .all =>
    if i + 1 = n then
      [(0, 0, 0, n - 1 + 2 * depthOf (rows * cols) + 8, xs.zip (List.range (rows * cols)))]
    else []
  | .col =>
    if i + 1 = n then
      (List.range cols).map fun g =>
        (g, 0, g, n - 1 + 2 * depthOf rows + 8 + g / (1024 / fmtBits (c.sh 0).f),
          (List.range rows).map fun r => (xs.getD (r * cols + g) 0, r * cols + g))
    else []

/-- R37, R65, R219: of the groups that a unit completes, the one that traps first: SNAN_TRAP before FP_TRAP, then the lowest
index; its node's flags go to TINFO1, and the unit's to FLG. -/
def groupHit (s : State) (c : Cmd) (fl : Nat) (hs : List Hit) : Option (Nat × Trap × Nat) :=
  (hs.foldl (fun (m : Option Hit) h => match m with
    | none => some h
    | some x => if h.rank < x.rank ∨ (h.rank = x.rank ∧ h.idx < x.idx) then some h else m) none).map fun h =>
      let (k, t, _) := fpHit s c h
      (k, t, fl)

/-- R234: a chunk of a reduction; the results of a group are written as its first chunk's, where a trap restarts. The flags
and the charge of the chunk go with its last write (R64, R424; DEDUCED, log 152). -/
def reduceUnit (s : State) (c : Cmd) (i : Nat) : Perf :=
  let h := c.sh 1
  let (_, _, cols) := c.chunkGeo
  let (r, lo, hi) := c.span i
  let xs := (List.range (hi - lo)).map fun k => elemBits (spadByte s) h r (lo + k)
  let st := c.groupStart i
  let buf := (if i = st then [] else c.buf) ++ [xs]
  let sn := if c.fen.getLsbD 5 then (List.range (hi - lo)).find? fun k => isSnan h.f (xs.getD k 0) else none
  let causes := (sn.map fun k => fpHit s c ⟨4, r * cols + lo + k, flNV⟩).toList
  let done := groupsDone c i buf
  let outs := done.map fun (g, rr, cc, off, vs) =>
    let (v, fl, hit) := groupResult s c g vs
    (resultWrite s c off rr cc ((vs.headD (0, 0)).2) v, fl, hit)
  let fl := outs.foldl (fun (a : Nat) x => a ||| x.2.1) 0
  let els := outs.flatMap (·.1.2)
  let last := (if els.isEmpty then done.map fun x => x.2.2.2.1 else els.map (·.1)).foldl max 0
  -- writes of one destination chunk go together
  let ws := (dedup (els.map (·.1))).filter (· != last) |>.map fun off =>
    c.uw st off 0 (.elems (c.sh 0) ((els.filter (·.1 == off)).map (·.2))) 0 0
  let (w, e) := c.leave st last 0 (.elems (c.sh 0) ((els.filter (·.1 == last)).map (·.2))) fl (vCharge s c)
  ⟨st, causes ++ outs.flatMap (·.1.1) ++ (groupHit s c fl (outs.filterMap (·.2.2))).toList, ws ++ w, buf,
    if done.isEmpty then vCharge s c else e⟩

/-! ## Scan, gather, scatter, split, queues -/

/-- R235: a lane of VSCAN: elements of vd1 at the positions of vd0, each plus one, or 0 where it is skipped. -/
def scanUnit (s : State) (c : Cmd) (i j : Nat) : Perf :=
  let (f, _, cols) := c.chunkGeo
  let (r, lo, hi) := c.span i
  let (l, z) := laneSpan f lo hi j
  let ps := (List.range (z - l)).map fun k => (l + k, posVals (spadByte s) c [1] r (l + k))
  let edge := ps.findSome? fun (col, p) => match p with | .trap k => some (edgeTrap s c k (r * cols + col)) | _ => none
  let vs := ps.map fun (_, p) => match p with | .vals v => v.headD 0 + 1 | _ => 0
  let sn := if c.fen.getLsbD 5 then
      ps.findSome? fun (col, p) => match p with
        | .vals v => if isSnan f (v.headD 0) then some (fpHit s c ⟨4, r * cols + col, flNV⟩) else none
        | _ => none
    else none
  let buf := (if j = 0 then [] else c.buf) ++ [vs]
  let (ws, e) := if j = 3 then c.leave i (14 + 4 * i) 0 (.scan r lo buf.flatten) 0 (vCharge s c) else ([], 0)
  ⟨i, edge.toList ++ sn.toList, ws, buf, e⟩

/-- R230: an index lane of VGATH: each index plus one, or 0 where a position is skipped. What it keeps is tagged 0; what its
chunk's data lanes have gathered so far is tagged 1. -/
def gatherIndex (s : State) (c : Cmd) (i j : Nat) : Perf :=
  let (f, _, cols) := c.chunkGeo
  let (r, lo, hi) := c.span i
  let (l, z) := laneSpan f lo hi j
  let ps := (List.range (z - l)).map fun k => (l + k, posVals (spadByte s) c [2] r (l + k))
  let edge := ps.findSome? fun (col, p) => match p with | .trap k => some (edgeTrap s c k (r * cols + col)) | _ => none
  ⟨i, edge.toList, [], [(0 :: i :: j :: ps.map fun (_, p) => match p with | .vals v => v.headD 0 + 1 | _ => 0)], 0⟩

/-- R230: the logical row and column of element k of a tile. -/
def rowMajor (h : Shape) (k : Nat) : Nat × Nat := (k / h.lc, k % h.lc)

/-- R230: the index lane of VGATH whose data are read a cycle later. -/
def Cmd.pendingLane (c : Cmd) : Option (List Nat) := (c.buf.find? fun e => e.headD 9 == 0).map (·.drop 1)

/-- R230: the data lane of VGATH one cycle after its indices; the chunk is written as one unit. -/
def gatherData (s : State) (c : Cmd) (ix : List Nat) : Perf :=
  let i := ix.getD 0 0
  let j := ix.getD 1 0
  let (f, _, cols) := c.chunkGeo
  let (r, lo, hi) := c.span i
  let (l, _) := laneSpan f lo hi j
  let h := c.sh 1
  let ks := (List.range (ix.length - 2)).zip (ix.drop 2)
  let n := h.lr * h.lc
  let edge := if h.edge = 2 then
      (ks.find? fun (_, x) => x > n).map fun (k, _) => edgeTrap s c 1 (r * cols + l + k)
    else none
  let out := ks.filterMap fun (k, x) =>
    if x = 0 then none
    else if x > n then (if h.edge = 1 then some (r, l + k, 0) else none)
    else let (er, ec) := rowMajor h (x - 1); some (r, l + k, elemBits (spadByte s) h er ec)
  let done := (if j = 0 then [] else c.buf.filter fun e => e.headD 9 == 1) ++ out.map fun (r, k, v) => [1, r, k, v]
  if j = 3 then
    let (ws, e) := c.leave i (14 + 4 * i) 0 (.elems (c.sh 0) (done.map fun e => (e.getD 1 0, e.getD 2 0, e.getD 3 0))) 0
      (vCharge s c)
    ⟨i, edge.toList, ws, [], e⟩
  else ⟨i, edge.toList, [], done, 0⟩

/-- R231: a lane of VSCAT; the chunk's targets are written together. -/
def scatterUnit (s : State) (c : Cmd) (i j : Nat) : Perf :=
  let (f, _, cols) := c.chunkGeo
  let d := c.sh 0
  let (r, lo, hi) := c.span i
  let (l, z) := laneSpan f lo hi j
  let ps := (List.range (z - l)).map fun k => (l + k, posVals (spadByte s) c [1, 2] r (l + k))
  let n := d.lr * d.lc
  let edge := ps.findSome? fun (col, p) =>
    match p with
    | .trap k => some (edgeTrap s c k (r * cols + col))
    | .vals v => if v.getD 1 0 ≥ n ∧ d.edge = 2 then some (edgeTrap s c 0 (r * cols + col)) else none
    | .skip => none
  let new := ps.filterMap fun (_, p) =>
    match p with
    | .vals v => if v.getD 1 0 < n then some [v.getD 1 0, v.getD 0 0] else none
    | _ => none
  let buf := (if j = 0 then [] else c.buf) ++ new
  let last := buf.reverse
  let keep := dedup (last.map fun e => e.getD 0 0)
  let out := keep.map fun k =>
    let v := (last.find? fun e => e.getD 0 0 == k).getD []
    let (rr, cc) := rowMajor d k
    (rr, cc, v.getD 1 0)
  let (ws, e) := if j = 3 then c.leave i (14 + 4 * i) 0 (.elems d out) 0 (vCharge s c) else ([], 0)
  ⟨i, edge.toList, ws, buf, e⟩

/-- R226: the fields of VSPLIT's ga: INFO, slice count, STRIDE, and the offset of the flags. -/
def splitArgs (c : Cmd) : Nat × Nat × Nat × Nat :=
  let v := c.ga.toNat
  (v / 2 ^ 40, v / 2 ^ 24 % 16, v % 2 ^ 24, cdiv (2 * (c.sh 1).lr) 128 * 128)

/-- A row of 16-bit entries or of bits at an address, as a tile (R226, R256). -/
def infoTile (base n fmt : Nat) : Shape :=
  { Shape.zero with base := BitVec.ofNat 24 base, rows := 1, cols := BitVec.ofNat 16 n, fmt := BitVec.ofNat 5 fmt }

/-- R77, R226: chunk i of the scan pass. -/
def splitScan (s : State) (c : Cmd) (i : Nat) : Perf :=
  let h := c.sh 1
  let (_, _, cols) := c.chunkGeo
  let (r, lo, hi) := c.span i
  let (info, _, _, fo) := splitArgs c
  let xs := (List.range (hi - lo)).map fun k => elemBits (spadByte s) h r (lo + k)
  let st := i / c.cpr * c.cpr
  let buf := (if i = st then [] else c.buf) ++ [xs]
  let k := (List.range (hi - lo)).find? fun k => isSnan 10 (xs.getD k 0)
  let fl := if (buf.flatten.any (isSnan 10)) then flNV else 0
  let hit := k.bind fun k => resHit c.fen (r * cols + lo + k) ⟨0, flNV, false, true⟩
  let (ws, e) := if (i + 1) % c.cpr = 0 then
      let row := buf.flatten
      c.leave st (6 + i) 5 (.tiles [(infoTile info h.lr 4, [(0, r, wrapBits 16 (splitEa row))]),
        (infoTile (info + fo) h.lr 20, [(0, r, b2n (row.any splitSpecial))])]) fl (vCharge s c)
    else ([], vCharge s c)
  ⟨st, (hit.map (fpHit s c)).toList, ws, buf, e⟩

/-- R226: the bytes that slices after slice k (counted from 0), and then the information block, write. -/
def splitLater (c : Cmd) (k : Nat) : List (Nat × Nat) :=
  let h := c.sh 1
  let d := c.sh 0
  let (info, sl, stride, fo) := splitArgs c
  let r := if d.t then min d.rows.toNat h.lc else min d.rows.toNat h.lr
  let n := if d.t then min d.cols.toNat h.lr else min d.cols.toNat h.lc
  ((List.range sl).filter (k < ·)).flatMap (fun j => (List.range r).map fun x =>
    (d.base.toNat + j * stride + x * d.pitch.toNat, n)) ++ [(info, 2 * h.lr), (info + fo, cdiv h.lr 8)]

/-- R77, R226: the cut of chunk i: its slice bytes are written as one unit, but not where a later slice or the information
block lies. -/
def splitCut (s : State) (c : Cmd) (i : Nat) : Perf :=
  let h := c.sh 1
  let d := c.sh 0
  let n := c.chunks
  let (_, _, cols) := c.chunkGeo
  let (r, lo, hi) := c.span i
  let (info, sl, stride, _) := splitArgs c
  let ea := intDecode 4 (elemBits (spadByte s) (infoTile info h.lr 4) 0 r)
  let ps := (List.range (hi - lo)).map fun k => (lo + k, splitDigits sl ea (elemBits (spadByte s) h r (lo + k)))
  let edge := if d.edge = 2 then (ps.find? fun (col, _) => d.beyond r col).map fun (col, _) => edgeTrap s c 0 (r * cols + col)
    else none
  let ins := ps.filter fun (col, _) => !(d.beyond r col)
  let nx := ins.find? fun (_, _, x) => x
  let fl := if nx.isSome then flNX else 0
  let hit := if c.fen.getLsbD 0 then nx.map fun (col, _) => fpHit s c ⟨5, r * cols + col, flNX⟩ else none
  let ts := (List.range sl).map fun k =>
    let t := { d with base := d.base + BitVec.ofNat 24 (k * stride) }
    let later := splitLater c k
    (t, (ins.filter fun (col, _, _) => !(inRanges later (t.elemAt r col).1)).map fun (col, ds, _) => (r, col, ds.getD k 0))
  let (ws, e) := c.leave (n + i) (n + 12 + i) 0 (.tiles ts) fl (vCharge s c)
  ⟨n + i, edge.toList ++ hit.toList, ws, [], e⟩

/-- R237: chunk i of VPUSH: the elements whose mask bit is 1; without one it writes nothing. -/
def pushUnit (s : State) (c : Cmd) (i : Nat) : Perf :=
  let (_, _, cols) := c.chunkGeo
  let (r, lo, hi) := c.span i
  let m := c.sh 2
  let at_ := fun col => if m.beyond r col then 0 else elemBits (spadByte s) m r col
  let cs := (List.range (hi - lo)).map (lo + ·)
  let edge := if m.edge = 2 then (cs.find? fun col => m.beyond r col).map fun col => edgeTrap s c 2 (r * cols + col)
    else none
  let es := (cs.filter fun col => at_ col == 1).map fun col => elemBits (spadByte s) (c.sh 1) r col
  let (ws, e) := c.leave i (6 + i) 4 (.push es) 0 (vCharge s c)
  ⟨i, edge.toList, ws, [], e⟩

/-- R238: how many elements VPOP takes, fixed when it first reads its control word. -/
def popCount (s : State) (c : Cmd) : Nat :=
  if c.reqs = 0 then min (readQ s c.ga.toNat).count ((c.sh 0).lr * (c.sh 0).lc) else c.reqs - 1

/-- R238: VPOP at +0: every chunk's elements, then HEAD and gb. A chunk that takes no element writes nothing; the last one
writes HEAD. -/
def popUnit (s : State) (c : Cmd) : Perf :=
  let q := readQ s c.ga.toNat
  let n := popCount s c
  let (_, _, cols) := c.chunkGeo
  let k := c.chunks
  let w := 2 ^ q.esize
  let elem := fun e => leNat (spadRead s (q.slot (q.head + e)) w)
  let chunk := fun i =>
    let (r, lo, hi) := c.span i
    let es := (List.range (hi - lo)).filterMap fun x =>
      let e := r * cols + lo + x
      if e < n then some (r, lo + x, elem e) else none
    c.leave i (6 + i) 0 (.elems (c.sh 0) es) 0 (if i + 1 = k then 0 else vCharge s c)
  let ws := ((List.range k).filter fun i => i ≥ c.rp).map chunk
  ⟨c.rp, [], ws.flatMap (·.1) ++
    [c.uw (k - 1) (5 + k) 4 (.head n) 0 (vCharge s c), c.uw (k - 1) (5 + k) 4 (.gb c.dst (BitVec.ofNat 64 n)) 0 0], [],
    ws.foldl (fun (a : Nat) x => a + x.2) 0⟩

/-- R238: VQCNT at +0. -/
def countUnit (s : State) (c : Cmd) : Perf :=
  ⟨0, [], [c.uw 0 2 4 (.gb c.dst (BitVec.ofNat 64 (readQ s c.ga.toNat).count)) 0 (vCharge s c)], [], 0⟩

/-! ## A task cycle of a V command -/

/-- R217: the units that a V command performs at an offset, each with its lane. -/
def vUnits (c : Cmd) (off : Nat) : List (Nat × Option Nat) :=
  let n := c.chunks
  match c.op with
  | .split => if off < n then [(off, none)] else if n + 6 ≤ off ∧ off < 2 * n + 6 then [(off - 6, none)] else []
  | .pop | .qcnt => if off = 0 ∧ c.rp < c.units then [(c.rp, none)] else []
  | op => if op.quad then (if off < 4 * n then [(off / 4, some (off % 4))] else []) else if off < n then [(off, none)] else []

/-- R33, R216: the part of row r, columns lo to hi − 1, at which the sources ks are read: no position that lies beyond one
whose EDGE is TRAP or MASK. -/
def readSpan (c : Cmd) (ks : List (Fin 4)) (r lo hi : Nat) : Nat × Nat :=
  ks.foldl (fun (x : Nat × Nat) k =>
    let h := c.src k
    if h.edge = 0 ∨ h.edge = 2 then (if r ≥ h.lr then (lo, lo) else (lo, min x.2 h.lc)) else x) (lo, hi)

/-- R83, R217, R218: the reads of a unit (or of its lane): the operand and the bytes. -/
def vAccess (s : State) (c : Cmd) (i : Nat) (lane : Option Nat) : List Access :=
  let (f, _, _) := c.chunkGeo
  let n := c.chunks
  let (r, lo, hi) := c.span (if i < n then i else i - n)
  let (lo, hi) := match lane with | some j => laneSpan f lo hi j | none => (lo, hi)
  let of := fun k : Fin 4 => Access.mk i k.val (spanRanges (c.src k) r lo hi)
  let all := fun ks : List (Fin 4) =>
    let (a, b) := readSpan c ks r lo hi
    ks.map fun k => Access.mk i k.val (spanRanges (c.src k) r a b)
  match c.op with
  | .elem op sc => all (eReads op sc)
  | .chain ops => all (chainTiles ops)
  | .split =>
    let (info, _, _, _) := splitArgs c
    [of 1] ++ if i ≥ n then [⟨i, 5, [(info + 2 * r, 2)]⟩] else []
  | .gath => [of 2]
  | .scat => all [1, 2]
  | .push => [of 1, of 2, ⟨i, 4, [(c.ga.toNat, 32)]⟩]
  | .pop =>
    let q := readQ s c.ga.toNat
    [⟨i, 4, (c.ga.toNat, 32) :: (List.range (popCount s c)).map fun e => (q.slot (q.head + e), 2 ^ q.esize)⟩]
  | .qcnt => [⟨i, 4, [(c.ga.toNat, 32)]⟩]
  | _ => [of 1]

/-- R230: the data reads of the indices that VGATH holds from the cycle before. -/
def gatherAccess (c : Cmd) : List Access :=
  match c.op with
  | .gath => (c.pendingLane.map fun ix =>
      let h := c.sh 1
      Access.mk (ix.getD 0 0) 1 ((ix.drop 2).filterMap fun x =>
        if x = 0 ∨ x > h.lr * h.lc then none
        else let (r, k) := rowMajor h (x - 1); some ((h.elemAt r k).1, max 1 (fmtBits h.f / 8)))).toList
  | _ => []

/-- One unit of a V command performed. -/
def vPerform (s : State) (c : Cmd) (i : Nat) (lane : Option Nat) : Perf :=
  let j := lane.getD 0
  match c.op with
  | .redSum _ | .redMax _ | .redMin _ | .argmax _ | .popcBit => reduceUnit s c i
  | .scan => scanUnit s c i j
  | .gath => gatherIndex s c i j
  | .scat => scatterUnit s c i j
  | .split => if i < c.chunks then splitScan s c i else splitCut s c (i - c.chunks)
  | .push => pushUnit s c i
  | .pop => popUnit s c
  | .qcnt => countUnit s c
  | _ => elemUnit s c i lane

/-! ## Writes that are decided at their commit -/

/-- R235: the sums of a chunk of VSCAN at its write, from the carry that stands before it. -/
def scanSums (s : State) (c : Cmd) (r lo : Nat) (xs : List Nat) : Run :=
  let d := c.sh 0
  let f := d.f
  let (_, _, cols) := c.chunkGeo
  let start : Option Nat := if lo = 0 then none else some (elemBits (spadByte s) d r (lo - 1))
  let go := ((List.range xs.length).zip xs).foldl (fun (a : Run × Option Nat) (k, x) =>
    if x = 0 then a
    else
      let v := x - 1
      let idx := r * cols + lo + k
      let res := match a.2 with
        | none => if fmtIsFloat f then
            (match fpDecode f v with | .nan s _ => nanRes f (if s then flNV else 0) s | _ => .plain v) else .plain v
        | some y => elemOp .add f f 0 (modeOf s.ctx c.mode idx c.issue 2) y v 0
      ({ a.1 with
          out := a.1.out ++ [(r, lo + k, res.bits)], fl := a.1.fl ||| res.fl
          hits := a.1.hits ++ (if fpTraps c.fen res then [⟨5, idx, res.fl⟩] else []) }, some res.bits))
    (⟨[], 0, none, []⟩, start)
  go.1

end Sys2Proof.Machine
end

