-- ==== Sys2Proof/Machine/MatrixUnits.lean ====
section
/-! DEFINITION. The accumulator file and the units of X commands (R93 to R95, R246 to R260). -/

namespace Sys2Proof.Machine

/-! ## The accumulator file -/

/-- R93: a cell of the accumulators of the context at hand. -/
def accGet (s : State) (tile row col : Nat) : Nat :=
  ((s.acc.find? fun x => x.1 == (s.ctx.src, tile, row, col)).map fun x => x.2.toNat).getD 0

/-- R93: a cell written; a zero cell is not listed. -/
def accSet (s : State) (tile row col v : Nat) : State :=
  let k := (s.ctx.src, tile, row, col)
  let r := s.acc.filter fun x => x.1 != k
  let v := BitVec.ofNat 48 v
  { s with acc := if v = 0 then r else (k, v) :: r }

/-- R95: the place of a run's code. -/
def runKey (s : State) (tile row run : Nat) : Nat := ((s.ctx.src * 4 + tile) * 128 + row) * 8 + run

/-- R95: the code of a run's bytes. -/
def runCode (s : State) (tile row run : Nat) : BitVec 16 :=
  crc16 ((List.range 16).flatMap fun k => leBytes 6 (accGet s tile row (16 * run + k)))

/-- R95: the syndrome of a run. -/
def runSyn (s : State) (tile row run : Nat) : BitVec 16 := synGet s.asyn (runKey s tile row run)

/-- R95: the runs that columns c to c + n − 1 touch. -/
def runsOf (c n : Nat) : List Nat := if n = 0 then [] else (List.range ((c + n - 1) / 16 - c / 16 + 1)).map (c / 16 + ·)

/-- R95: the first run of a row's columns whose code fails. -/
def badRun (s : State) (tile row col n : Nat) : Option Nat := (runsOf col n).find? fun k => runSyn s tile row k != 0

/-- R95, R92: CHECK_MISMATCH of a run. -/
def runTrap (s : State) (c : Cmd) (tile row run : Nat) : Nat × Trap × Nat :=
  let comp := runCode s tile row run
  (1, unitTrap s c 0x16 (some (BitVec.ofNat 64 (0x80000000 + (tile * 128 + row) * 8 + run)))
    (some (BitVec.ofNat 64 (comp.toNat * 2 ^ 16 + (comp ^^^ runSyn s tile row run).toNat))) (some (c.requester s.ctx 0)), 0)

/-- R95: consecutive cells of a row written, the codes of their runs formed anew. -/
def accPut (s : State) (tile row col : Nat) (vs : List Nat) : State :=
  let s := ((List.range vs.length).zip vs).foldl (fun s (k, v) => accSet s tile row (col + k) v) s
  { s with asyn := (runsOf col vs.length).foldl (fun l k => synSet l (runKey s tile row k) 0) s.asyn }

/-! ## Exact sums of products (R68, R69) -/

/-- A sum of exact products: not a number, infinite, or exact with the mark that every product is −0. -/
structure Sum where
  nan : Bool
  inf : Option Bool
  num : Int
  e : Int
  negz : Bool
  deriving DecidableEq, Repr

/-- R68: the value of an element entering a product; NaR enters as a quiet NaN. -/
def mmaVal (f x : Nat) : Val :=
  if fmtIsInt f then
    let v := intDecode f x
    .fin (v < 0) v.natAbs 0
  else
    match fpDecode f x with
    | .nan s nar => .nan (s && !nar) false
    | v => v

/-- R68: one more product. -/
def Sum.add (t : Sum) (p : Val) : Sum :=
  match p with
  | .nan .. => { t with nan := true, negz := false }
  | .inf n =>
    match t.inf with
    | some m => if m == n then { t with negz := false } else { t with nan := true, negz := false }
    | none => { t with inf := some n, negz := false }
  | .fin n m e =>
    let (a, x) := addDy t.num t.e (sInt n m) e
    { t with num := a, e := x, negz := t.negz && n && m == 0 }

/-- R68: the exact sum of products. -/
def sumProducts (ps : List (Val × Val)) : Sum :=
  ps.foldl (fun t (a, b) => t.add (mulVal a b).1) ⟨false, none, 0, 0, true⟩

/-- The value of a sum; a zero sum is −0 only when every product is. -/
def Sum.val (t : Sum) : Val :=
  if t.nan then .nan false false
  else
    match t.inf with
    | some n => .inf n
    | none => .fin (if t.num = 0 then t.negz else t.num < 0) t.num.natAbs t.e

/-- R68, R69: a cell plus a sum, rounded to FX48; a sum that is no number raises invalid. -/
def addToCell (cell : Nat) (v : Val) : Res :=
  match v with
  | .nan .. =>
    let (nf, sn) := nanFlags [fpDecode 18 cell]
    nanRes 18 (nf ||| flNV) sn
  | v => fpAdd 18 ⟨0, 0⟩ (fpDecode 18 cell) v

/-! ## Products (R246 to R251) -/

/-- R250: the stored rows of A (operand 1) or B (operand 2) that hold an element of group g. -/
def slabRows (c : Cmd) (opnd g : Nat) : List Nat :=
  let (m, n, k, kb) := c.mnk
  let st := c.op.kStep
  let lo := st * g
  let hi := min (lo + st) k
  if opnd = 1 then (if (c.sh 1).t then (List.range (hi - lo)).map (lo + ·) else List.range m)
  else
    let hb := min hi kb
    if (c.sh 2).t then (if lo < hb then List.range n else []) else (List.range (hb - lo)).map (lo + ·)

/-- R250: the logical elements of a stored row of the slab, as row, first and last-plus-one column of the stored tile. -/
def slabSpan (c : Cmd) (opnd g q : Nat) : Nat × Nat × Nat :=
  let (m, n, k, kb) := c.mnk
  let st := c.op.kStep
  let lo := st * g
  let hi := min (lo + st) k
  if opnd = 1 then (if (c.sh 1).t then (q, 0, m) else (q, lo, hi))
  else if (c.sh 2).t then (q, lo, min hi kb)
  else (q, 0, n)

/-- A tile without its T, to read stored rows. -/
def Shape.stored (h : Shape) : Shape := { h with t := false }

/-- R250: the places q of a slab of Q rows that are read at cycle `off` of a window of w cycles. -/
def rowsAt (q w off : Nat) : List Nat :=
  let rho := cdiv q w
  if rho = 0 then [] else (List.range q).filter fun k => k / rho == off

/-- R250: the rows that a product reads at an offset: operand, place q, stored row. -/
def mmaRows (c : Cmd) (upper : Bool) (off : Nat) : List (Nat × Nat × Nat) :=
  let g := off / c.gLen upper
  let o := off % c.gLen upper
  let w := c.gWin upper
  if g ≥ c.groups ∨ o ≥ w then []
  else
    let (m, n, _, _) := c.mnk
    let side := fun op => let l := slabRows c op g; (rowsAt l.length w o).map fun q => (op, q, l.getD q 0)
    let scale := match c.op with
      | .mmas _ => if (c.buf.filter fun e => e.getD 0 9 == 3).length < m + n then (rowsAt (m + n) 16 o).map fun q => (3, q, q) else []
      | _ => []
    side 1 ++ side 2 ++ scale

/-- R250: the accesses of a product at an offset. -/
def mmaAccess (c : Cmd) (upper : Bool) (off : Nat) : List Access :=
  let g := off / c.gLen upper
  (mmaRows c upper off).map fun (op, _, row) =>
    if op = 3 then ⟨g, 3, spanRanges (c.sh 3) row 0 (c.sh 3).lc⟩
    else
      let (r, lo, hi) := slabSpan c op g row
      ⟨g, op, spanRanges (c.sh (if op = 1 then 1 else 2)).stored r lo hi⟩

/-- What a product keeps of the rows it reads at an offset: operand, place, elements. -/
def mmaCapture (s : State) (c : Cmd) (off : Nat) : List (List Nat) :=
  let g := off / c.gLen s.ctx.upper
  (mmaRows c s.ctx.upper off).map fun (op, q, row) =>
    if op = 3 then 3 :: q :: (List.range (c.sh 3).lc).map fun k => elemBits (spadByte s) (c.sh 3) row k
    else
      let (r, lo, hi) := slabSpan c op g row
      let h := (c.sh (if op = 1 then 1 else 2)).stored
      op :: q :: (List.range (hi - lo)).map fun k => elemBits (spadByte s) h r (lo + k)

/-- The kept row of an operand. -/
def keptRow (buf : List (List Nat)) (op q : Nat) : List Nat :=
  ((buf.find? fun e => e.getD 0 9 == op && e.getD 1 0 == q).getD []).drop 2

/-- Element (i, kk) of A in the group at hand. -/
def aElem (c : Cmd) (buf : List (List Nat)) (i kk : Nat) : Nat :=
  if (c.sh 1).t then (keptRow buf 1 kk).getD i 0 else (keptRow buf 1 i).getD kk 0

/-- Element (kk, j) of B in the group at hand. -/
def bElem (c : Cmd) (buf : List (List Nat)) (kk j : Nat) : Nat :=
  if (c.sh 2).t then (keptRow buf 2 j).getD kk 0 else (keptRow buf 2 kk).getD j 0

/-- R246: the places kk of group g that form a product, and whether B supplies them. -/
def groupKs (c : Cmd) (g : Nat) : List (Nat × Bool) :=
  let (_, _, k, kb) := c.mnk
  let st := c.op.kStep
  let lo := st * g
  (List.range (min (lo + st) k - lo)).filterMap fun kk =>
    if lo + kk < kb then some (kk, true) else if (c.sh 2).edge = 1 then some (kk, false) else none

/-- R246: the group that holds k = KB when B's EDGE is TRAP. -/
def edgeGroup (c : Cmd) (g : Nat) : Bool :=
  let (_, _, k, kb) := c.mnk
  (c.sh 2).edge == 2 && kb < k && kb / c.op.kStep ≤ g

/-- R248, R252: the lowest cell index at which a group reads a signalling NaN: from A, from B, or
from a scale that it uses; a position of A that MASK omits is not read (DEDUCED, log 156). -/
def groupSnan (c : Cmd) (buf : List (List Nat)) (g : Nat) : Option Nat :=
  let (m, n, _, _) := c.mnk
  let ks := groupKs c g
  let fa := (c.sh 1).f
  let fb := (c.sh 2).f
  let ia := (List.range m).find? fun i => ks.any fun (kk, _) => isSnan fa (aElem c buf i kk)
  let jb := (List.range n).find? fun j => ks.any fun (kk, inb) => inb && isSnan fb (bElem c buf kk j)
  let isc := match c.op with
    | .mmas _ => (List.range m).find? fun i => !ks.isEmpty &&
        isSnan 13 ((c.st.getD ((keptRow buf 3 i).getD g 0) 0).toNat)
    | _ => none
  let jsc := match c.op with
    | .mmas _ => (List.range n).find? fun j => !ks.isEmpty &&
        isSnan 13 ((c.st.getD (16 + (keptRow buf 3 (m + j)).getD g 0) 0).toNat)
    | _ => none
  ([ia.map (· * 128), jb, isc.map (· * 128), jsc].filterMap id).min?

/-- R246, R247: a cell of the window after group g. -/
def groupCell (c : Cmd) (buf : List (List Nat)) (g i j old : Nat) : Res :=
  let (m, _, _, _) := c.mnk
  let fa := (c.sh 1).f
  let fb := (c.sh 2).f
  let ks := groupKs c g
  if ks.isEmpty then .plain old
  else if (c.sh 0).f = 19 then
    let sum := ks.foldl (fun (a : Int) (kk, inb) =>
      a + intDecode fa (aElem c buf i kk) * (if inb then intDecode fb (bElem c buf kk j) else 0)) 0
    satRes 19 (intDecode 19 old + sum)
  else
    let ps := ks.map fun (kk, inb) => (mmaVal fa (aElem c buf i kk), if inb then mmaVal fb (bElem c buf kk j) else
      Val.fin false 0 0)
    let sn := ks.any fun (kk, inb) => isSnan fa (aElem c buf i kk) || (inb && isSnan fb (bElem c buf kk j))
    let t := sumProducts ps
    match c.op with
    | .mmas _ =>
      let sa := fpDecode 13 (c.st.getD ((keptRow buf 3 i).getD g 0) 0).toNat
      let sb := fpDecode 13 (c.st.getD (16 + (keptRow buf 3 (m + j)).getD g 0) 0).toNat
      let (p, f1) := mulVal t.val sa
      let (q, f2) := mulVal p sb
      let (f3, _) := nanFlags [sa, sb]
      let r := match q with
        | .nan .. =>
          let (nf, so) := nanFlags [fpDecode 18 old]
          nanRes 18 (nf ||| f1 ||| f2 ||| f3 ||| (if t.nan then flNV else 0)) so
        | v => let r := fpAdd 18 ⟨0, 0⟩ (fpDecode 18 old) v; { r with fl := r.fl ||| f1 ||| f2 ||| f3 }
      if sn then { r with fl := r.fl ||| flNV } else r
    | _ => let r := addToCell old t.val; if sn then { r with fl := r.fl ||| flNV } else r

/-- R424: the energy of a k-group. -/
def groupCharge (s : State) (c : Cmd) : Nat :=
  let (m, n, _, _) := c.mnk
  let h := if s.ctx.upper then cdiv n 32 else cdiv n 64
  let w := match c.op, mmaClass (c.sh 1).f with
    | .mmas _, 4 => weight s 12
    | .mmas _, _ => weight s 13
    | _, 4 => weight s 9
    | _, 8 => weight s 10
    | _, _ => weight s 11
  let e := w * cdiv m 16 * h
  if s.ctx.upper then e / 4 else e

/-- R246 to R251: a product's read cycle: what it keeps and, in the last cycle of a read window, the traps of the group's
reads and the additions that its commit will make. -/
def mmaPerform (s : State) (c : Cmd) (off : Nat) : Perf :=
  let u := s.ctx.upper
  let gl := c.gLen u
  let g := off / gl
  let o := off % gl
  let buf := c.buf ++ mmaCapture s c off
  if g < c.groups ∧ o + 1 = c.gWin u then
    let (_, _, _, kb) := c.mnk
    let edge := if edgeGroup c g then [edgeTrap s c 2 kb] else []
    let sn := if c.fen.getLsbD 5 then ((groupSnan c buf g).map fun i => fpHit s c ⟨4, i, flNV⟩).toList else []
    ⟨g, edge ++ sn, [c.uw g (off - o + gl + 14) 0 (.group buf) 0 (groupCharge s c)],
      buf.filter fun e => e.getD 0 9 == 3, 0⟩
  else ⟨g, [], [], buf, 0⟩

/-- R246, R248, R252: the additions of group g at its commit: new cells with their places, flags, the first run that it
writes whose code fails (R95), and the lowest cell that traps: a signalling NaN that a cell holds raises SNAN_TRAP under SNE
(R49; DEDUCED, log 123), before FP_TRAP. A group whose products B's MASK omits altogether verifies its runs too (DEDUCED,
log 145). -/
def groupCommit (s : State) (c : Cmd) (g : Nat) (buf : List (List Nat)) :
    List (Nat × Nat × Nat) × Nat × Option (Nat × Nat) × Option Hit :=
  let (m, n, _, _) := c.mnk
  let h := c.sh 0
  let t := h.acc.toNat
  let r0 := h.off.toNat
  let c0 := h.coff.toNat
  let z := (match c.op with | .mma z | .mmas z => z | _ => false) && g == 0
  let bad := (List.range m).findSome? fun i =>
    (badRun s t (r0 + i) c0 n).map fun k => (r0 + i, k)
  let cells := (List.range m).flatMap fun i => (List.range n).map fun j =>
    (i, j, groupCell c buf g i j (if z then 0 else accGet s t (r0 + i) (c0 + j)))
  let fl := cells.foldl (fun a x => a ||| x.2.2.fl) 0
  let hits := cells.filterMap fun (i, j, r) => (resHit c.fen (i * 128 + j) r).map fun h => { h with fl := fl }
  let hit := (hits.find? fun h => h.rank == 4).or (hits.find? fun h => h.rank == 5)
  (cells.map fun (i, j, r) => (r0 + i, c0 + j, r.bits), fl, bad, hit)

/-! ## Moves (R253 to R259) -/

/-- R253, R255: one element of ACCN. -/
def accnElem (s : State) (c : Cmd) (i j cell : Nat) : Res :=
  let d := c.sh 1
  let md := modeOf s.ctx c.mode (i * d.lc + j) c.issue 3
  let src := (c.sh 0).f
  if fmtIsInt d.f then
    let n := if c.reqs = 0 then 0 else c.ga.toNat % 64
    let v := intDecode 19 cell
    let (k, nx) := rint md (v < 0) v.natAbs (-(n : Int))
    let (x, cl) := satInt d.f k
    ⟨wrapBits (fmtBits d.f) x, if cl then flIS else if nx then flNX else 0, false, false⟩
  else
    let sc := if c.reqs = 0 then Val.fin false 1 0 else fpDecode 11 (c.ga.toNat % 2 ^ 32)
    let v := if src = 19 then mmaVal 8 (wrapBits 64 (intDecode 19 cell)) else fpDecode 18 cell
    fpMul d.f md v sc

/-- R253: row i of ACCN. -/
def accnRow (s : State) (c : Cmd) (i : Nat) : Perf :=
  let h := c.sh 0
  let d := c.sh 1
  let t := h.acc.toNat
  let row := h.off.toNat + i
  let bad := (badRun s t row h.coff.toNat d.lc).map fun k => runTrap s c t row k
  let rs := (List.range d.lc).map fun j => (j, accnElem s c i j (accGet s t row (h.coff.toNat + j)))
  let fl := rs.foldl (fun a x => a ||| x.2.fl) 0
  let hits := rs.filterMap fun (j, r) => resHit c.fen (i * d.lc + j) r
  let pick := (hits.find? fun h => h.rank == 4).or (hits.find? fun h => h.rank == 5)
  ⟨i, bad.toList ++ (pick.map fun h => fpHit s c { h with fl := fl }).toList,
    [c.uw i (10 + i) 1 (.elems d (rs.map fun (j, r) => (i, j, r.bits))) fl (weight s 14)], [], 0⟩

/-- R256: the exponent and the flag of entry e of a block. -/
def infoEntry (s : State) (g : Word) (e : Nat) : Int × Nat :=
  let v := g.toNat
  let info := v / 2 ^ 40
  let fo := cdiv (2 * (v / 2 ^ 24 % 2 ^ 16)) 128 * 128
  let k := v / 2 ^ 8 % 2 ^ 16 + e
  (intDecode 4 (leNat (spadRead s (info + 2 * k) 2)), (spadByte s (info + fo + k / 8)).toNat / 2 ^ (k % 8) % 2)

/-- R257: one element of ACCX; `b` is the B side's exponent and flag, as kept. -/
def accxElem (c : Cmd) (ea : Int × Nat) (b : List Nat) (prior cell : Nat) : Res :=
  let eb := intDecode 4 (b.getD 0 0)
  if ea.2 = 1 ∨ b.getD 1 0 = 1 then nanRes 10 flNV false
  else
    let w := intDecode 19 cell
    let (nf, sn) := nanFlags [fpDecode 10 prior]
    match fpDecode 10 prior with
    | .nan .. => nanRes 10 nf sn
    | v => fpAdd 10 ⟨0, 0⟩ v (.fin (w < 0) w.natAbs (ea.1 + eb - 7 * (c.ga.toNat % 32)))

/-- R257: the first cycle of ACCX, in which it reads the B-side information. -/
def accxInfo (s : State) (c : Cmd) (i : Nat) : Perf :=
  ⟨i, [], [], (List.range (c.sh 1).lc).map fun j =>
    let (e, z) := infoEntry s c.gb j
    [wrapBits 16 e, z], 0⟩

/-- R257: row i of ACCX. -/
def accxRow (s : State) (c : Cmd) (i : Nat) : Perf :=
  let h := c.sh 0
  let d := c.sh 1
  let p := c.sh 2
  let t := h.acc.toNat
  let row := h.off.toNat + i
  let ea := infoEntry s c.ga i
  let bad := (badRun s t row h.coff.toNat d.lc).map fun k => runTrap s c t row k
  let edge := if p.edge = 2 then
      ((List.range d.lc).find? fun j => p.beyond i j).map fun j => edgeTrap s c 2 (i * d.lc + j)
    else none
  let rs := (List.range d.lc).filterMap fun j =>
    if p.beyond i j ∧ p.edge = 0 then none
    else
      let x := if p.beyond i j then 0 else elemBits (spadByte s) p i j
      some (j, accxElem c ea (c.buf.getD j []) x (accGet s t row (h.coff.toNat + j)))
  let fl := rs.foldl (fun a x => a ||| x.2.fl) 0
  let hits := rs.filterMap fun (j, r) => resHit c.fen (i * d.lc + j) r
  let pick := (hits.find? fun h => h.rank == 4).or (hits.find? fun h => h.rank == 5)
  ⟨i, bad.toList ++ edge.toList ++ (pick.map fun h => fpHit s c { h with fl := fl }).toList,
    [c.uw i (10 + i) 1 (.elems d (rs.map fun (j, r) => (i, j, r.bits))) fl (weight s 14)], c.buf, 0⟩

/-- R254: row i of ACCZ, written when it is due (DEDUCED, log 155). -/
def acczRow (s : State) (c : Cmd) (i : Nat) : Perf :=
  let h := c.sh 0
  ⟨i, [], [c.uw i (1 + i) 0
    (.cells h.acc.toNat (h.off.toNat + i) h.coff.toNat (List.replicate h.cols.toNat 0)) 0 (weight s 14)], [], 0⟩

/-- R95, R258: the cells of a row of a tile and its carried codes. -/
def tileRow (s : State) (tile row : Nat) : List Nat × List Nat :=
  ((List.range 128).map (accGet s tile row), (List.range 8).map fun k => (runCode s tile row k ^^^ runSyn s tile row k).toNat)

/-- R258: the cells of a row of the image at a Heel address and its codes. -/
def imageRow (s : State) (a row : Nat) : List Nat × List Nat :=
  let rd := fun x n => leNat (memRead s.mem (heelKey (a + x)) n)
  ((List.range 128).map fun k => rd (6 * (128 * row + k)) 6, (List.range 8).map fun k => rd (98304 + 2 * (8 * row + k)) 2)

/-- R95, R258: a row written to a tile with the codes that came with it. -/
def putTileRow (s : State) (tile row : Nat) (vs codes : List Nat) : State :=
  let s := ((List.range vs.length).zip vs).foldl (fun s (k, v) => accSet s tile row k v) s
  { s with asyn := (List.range 8).foldl (fun l k =>
      synSet l (runKey s tile row k) (BitVec.ofNat 16 (codes.getD k 0) ^^^ runCode s tile row k)) s.asyn }

/-- R258: a row written to the image at a Heel address. -/
def putImageRow (s : State) (a row : Nat) (vs codes : List Nat) : State :=
  let m := memPut s.mem (heelKey (a + 768 * row)) (vs.flatMap (leBytes 6))
  { s with mem := memPut m (heelKey (a + 98304 + 16 * row)) (codes.flatMap (leBytes 2)) }

/-- R258: row i of ACCST: cells and carried codes. -/
def accstRow (s : State) (c : Cmd) (i : Nat) : Perf :=
  let (vs, codes) := tileRow s (c.sh 0).acc.toNat i
  ⟨i, [], [c.uw i (2 * i + 2) 0 (.heel i vs codes) 0 0], [], 0⟩

/-- R258: row i of ACCLD, from the Heel image. -/
def accldRow (s : State) (c : Cmd) (i : Nat) : Perf :=
  let (vs, codes) := imageRow s c.ga.toNat i
  ⟨i, [], [c.uw i (2 * i + 4) 0 (.accRow (c.sh 0).acc.toNat i vs codes) 0 0], [], 0⟩

/-! ## A task cycle of an X command -/

/-- R250, R256: the scratchpad reads of an X command at an offset. -/
def xAccess (s : State) (c : Cmd) (off : Nat) : List Access :=
  match c.op with
  | .mma _ | .mmas _ => mmaAccess c s.ctx.upper off
  | .accx =>
    let m := (c.sh 1).lr
    if c.buf.isEmpty then (if off < m then [⟨off, 5, infoRanges c.gb (c.sh 1).lc⟩] else [])
    else
      let i := off - 1
      if i < m then
        [⟨i, 2, spanRanges (c.sh 2) i 0 (c.sh 1).lc⟩,
          ⟨i, 5, infoRanges (c.ga + BitVec.ofNat 64 (i * 2 ^ 8)) 1⟩]
      else []
  | _ => []

/-- R249: what an X command performs at an offset. -/
def xPerform (s : State) (c : Cmd) (off : Nat) : Option Perf :=
  match c.op with
  | .mma _ | .mmas _ => if off < c.occ s.ctx.upper then some (mmaPerform s c off) else none
  | .accn => if off < (c.sh 1).lr then some (accnRow s c off) else none
  | .accx =>
    let m := (c.sh 1).lr
    if c.buf.isEmpty then (if off < m then some (accxInfo s c off) else none)
    else if off - 1 < m then some (accxRow s c (off - 1)) else none
  | .accz => if off < (c.sh 0).rows.toNat then some (acczRow s c off) else none
  | .accst => if off % 2 = 0 ∧ off / 2 < 128 then some (accstRow s c (off / 2)) else none
  | .accld => if off % 2 = 0 ∧ off / 2 < 128 then some (accldRow s c (off / 2)) else none
  | _ => none

/-! ## ACCST and ACCLD (R258, R259) -/

/-- R259, R373: ACCST or ACCLD of a trap handler: it acts on the trapped context's file, whose engine stands still, row by
row at its issue. -/
def handlerImage (s : State) (a : Fin 32) (move : State → (tile at_ row : Nat) → State) : Outcome State :=
  if acts s then
    match imageTrap s a with
    | some t => .next (takeTrap s t)
    | none =>
      let tile := (captured (swapped s 1) 1 0).acc.toNat
      .next ((List.range 128).foldl (fun t i => move t tile (rdG s a).toNat i) (charge (swapped s 1) (weight s 5)))
  else .next (idle s)

/-- A row of a tile to the image. -/
def moveOut (s : State) (tile a row : Nat) : State := putImageRow s a row (tileRow s tile row).1 (tileRow s tile row).2

/-- A row of the image to a tile. -/
def moveIn (s : State) (tile a row : Nat) : State := putTileRow s tile row (imageRow s a row).1 (imageRow s a row).2

/-- R258, R259: ACCST. -/
def execAccst (a : Fin 32) (s : State) : Outcome State :=
  if s.ctx.status = .handler then handlerImage s a moveOut else accImage s .accst a

/-- R258, R259: ACCLD. -/
def execAccld (a : Fin 32) (s : State) : Outcome State :=
  if s.ctx.status = .handler then handlerImage s a moveIn else accImage s .accld a

end Sys2Proof.Machine
end

