-- ==== Sys2Proof/Machine/CopyUnits.lean ====
section
/-! DEFINITION. The granules of C commands (R262 to R287): which scratchpad bytes each reads in a task cycle, and what it
sends, binds, hands to the Welt or offers to a work queue. -/

namespace Sys2Proof.Machine

/-- What performing a granule comes to: the causes and writes of Perf, and its effect outside the scratchpad. -/
structure CPerf where
  perf : Perf
  eff : State → State

/-! ## Sending (R102, R115, R265, R406) -/

/-- R265, R406: a tile granule's global bytes, cut at the granules of global memory and translated. -/
def sendCuts (s : State) (i : Intent) (va len : Nat) : Option (List (Nat × Nat × Nat × Nat × Nat)) :=
  (cutGranules va len).mapM fun (a, o, n) =>
    (translate s s.ctx.rect (a % 2 ^ 56) i).map fun (h, k) => (a % 2 ^ 56, o, n, h, k)

/-- R101, R116, R424: the pieces of a tile granule, which is counted: each gets its place, and the granule's charge, by its
first home, for the last of them to be complete. -/
def sendAll (s : State) (c : Cmd) (cuts : List (Nat × Nat × Nat × Nat × Nat)) (f : Nat → Nat → Piece → Piece) : State :=
  let fee := granuleCharge s ((cuts.map fun (_, _, _, h, _) => h).headD 0)
  let gran := s.fresh
  cuts.foldl (fun s (a, o, n, h, k) =>
    sendPiece s c (f o n { blankPiece s s.ctx with
      va := BitVec.ofNat 64 a, home := h, key := k, len := n, comp := pageForm s a, fee := fee, gran := gran }))
    (countRequest s (cuts.map fun (a, _, _, h, _) => (h, a)))

/-- R89: the codes that travel with the sectors of local bytes. -/
def travelSyn (s : State) (a n : Nat) : List (BitVec 16) := (sectorsOf a n).map fun k => spadSyn s (32 * k)

/-- R122, R270: a read of global bytes that land at local address d. -/
def readInto (s : State) (c : Cmd) (va len d : Nat) : Option (State → State) :=
  (sendCuts s .read va len).map fun cuts s => sendAll s c cuts fun o _ p => { p with kind := .read, dst := d + o }

/-- R116, R270: a write of the local bytes at a to global memory. -/
def writeFrom (s : State) (c : Cmd) (va len a : Nat) : Option (State → State) :=
  (sendCuts s .write va len).map fun cuts s =>
    sendAll s c cuts fun o n p => { p with kind := .write, data := spadRead s (a + o) n, syn := travelSyn s (a + o) n }

/-- R124: a delivery that stays in the issuer's own scratchpad is not phased; the replicas of MCAST are. -/
def ownCopy (s : State) (c : Cmd) (tgt : Word) : Bool :=
  c.op != .mcast && remoteHome s tgt == ownHome s && remoteUnit tgt == s.ctx.gunit

/-- R124, R262: the delivery of the local bytes at a into the scratchpad that a C address names, `off` bytes on; R101
counts those of MCAST. -/
def deliverFrom (s : State) (c : Cmd) (tgt : Word) (off len a : Nat) (count : Bool) : State :=
  let h := remoteHome s tgt
  let s := if count then countPiece s h else s
  let d := (cAddr tgt + off) % 2 ^ 24
  sendPiece s c { blankPiece s s.ctx with
    kind := .deliver, va := tgt, home := h, len := len, dst := d, dstUnit := remoteUnit tgt, span := (d, len)
    data := spadRead s a len, syn := travelSyn s a len, fee := granuleCharge s h, direct := ownCopy s c tgt }

/-- R116, R262: local bytes written to a C address of either kind. -/
def putTo (s : State) (c : Cmd) (tgt : Word) (off len a : Nat) (count : Bool) : Option (State → State) :=
  if isRemote tgt then some fun s => deliverFrom s c tgt off len a count else writeFrom s c (cAddr tgt + off) len a

/-- R272: common cuts of a source and a destination range at their own granules. -/
def commonCuts (x y len : Nat) : List (Nat × Nat) :=
  let marks := (List.range len).filter fun i => i == 0 || (x + i) % 64 == 0 || (y + i) % 64 == 0
  ((List.range marks.length).map fun j => (marks.getD j 0, marks.getD (j + 1) len - marks.getD j 0))

/-- R272: a granule of CPY: every part reads its source and then writes, or is delivered. The granule is counted at its
sources and at its global destinations (R101). -/
def copyGlobal (s : State) (c : Cmd) (src len : Nat) (tgt : Word) (off : Nat) : Option (State → State) :=
  let far := isRemote tgt
  let to_ := fun o => (cAddr tgt + off + o) % 2 ^ 56
  let parts := (commonCuts src (cAddr tgt + off) len).mapM fun (o, n) =>
    match translate s s.ctx.rect ((src + o) % 2 ^ 56) .read with
    | none => none
    | some (h, k) =>
      if far then some (o, n, h, k, remoteHome s tgt, 0)
      else (translate s s.ctx.rect (to_ o) .write).map fun (h2, k2) => (o, n, h, k, h2, k2)
  parts.map fun ps s =>
    let s := countRequest s (ps.map fun (o, _, h, _, _, _) => (h, (src + o) % 2 ^ 56))
    let s := if far then s else countRequest s (ps.map fun (o, _, _, _, h2, _) => (h2, to_ o))
    let fee := granuleCharge s ((ps.map fun (_, _, _, _, h2, _) => h2).headD 0)
    let gran := s.fresh
    ps.foldl (fun s (o, n, h, k, h2, k2) =>
      sendPiece s c { blankPiece s s.ctx with
        kind := if far then .deliver else .write
        va := if far then tgt else BitVec.ofNat 64 (to_ o)
        home := h2, key := k2, len := n, dst := (cAddr tgt + off + o) % 2 ^ 24, dstUnit := remoteUnit tgt
        peer := (src + o) % 2 ^ 56, comp := pageForm s ((src + o) % 2 ^ 56)
        comp2 := if far then 0 else pageForm s (to_ o), span := ((cAddr tgt + off) % 2 ^ 24, len)
        direct := far && ownCopy s c tgt
        fee := fee, gran := gran, second := some (h, k) }) s

/-! ## Units and accesses -/

/-- R265: local address and length of granule i of a tile. -/
def granAddr (h : Shape) (i : Nat) : Nat × Nat :=
  let (r, lo, hi) := granSpan h i
  (h.base.toNat + r * h.pitch.toNat + lo, hi - lo)

/-- R271: the row of cd1 that names local row r: none beyond its elements. -/
def indexPlace (c : Cmd) (r : Nat) : Option (Nat × Nat) :=
  let h := c.sh 1
  if r < h.lr * h.lc then some (rowMajor h r) else none

/-- R271: an indexed copy. -/
def Cmd.indexed (c : Cmd) : Bool := match c.op with | .cpg x | .cps x => x | _ => false

/-- R271: local row r is skipped. -/
def Cmd.skips (c : Cmd) (r : Nat) : Bool := c.indexed && (indexPlace c r).isNone && (c.sh 1).edge == 0

/-- R106, R275: the dirty sectors of granule i of a window's region. -/
def dirtySectors (s : State) (c : Cmd) (i : Nat) : List Nat :=
  let k := spadKey s.ctx.gunit 0 / 32
  (sectorsOf (c.region.1 + 64 * i) 64).filter fun x => s.dirty.contains (k + x)

/-- R266: the granule that a command performs at an offset. -/
def cUnit (c : Cmd) (off : Nat) : Option Nat :=
  match c.op with
  | .mcast => if off < c.listLen + c.cCount then some (off - c.listLen) else none
  | .wtake => if off = 0 then some 0 else if 8 ≤ off ∧ off < 8 + c.cCount then some (off - 8) else none
  | .atom op _ => if off = 0 ∨ (op = 7 ∧ off = 1) then some 0 else none
  | _ => if off < c.cCount then some off else none

/-- R266, R83: the scratchpad reads of a C command at an offset. -/
def cAccess (s : State) (c : Cmd) (off : Nat) : List Access :=
  match cUnit c off with
  | none => []
  | some i =>
    let tile := fun (k : Fin 4) (j : Nat) => Access.mk i k.val [granAddr (c.sh k) j]
    let index := fun (_ : Unit) =>
      let (r, lo, _) := granSpan (c.sh 0) i
      if c.indexed ∧ lo = 0 then
        match indexPlace c r with
        | some (x, y) => [Access.mk i 1 (spanRanges (c.sh 1) x y (y + 1))]
        | none => []
      else []
    match c.op with
    | .cpg _ => index ()
    | .cps _ => if c.skips (granSpan (c.sh 0) i).1 then [] else tile 0 i :: index ()
    | .wback | .wunmap =>
      let ds := dirtySectors s c i
      if ds.isEmpty then [] else [⟨i, 5, ds.map fun x => (32 * x, 32)⟩]
    | .atom .. => if off = 0 then [⟨0, 0, [((c.sh 0).base.toNat, (c.sh 0).rowLen)]⟩]
        else [⟨0, 2, [((c.sh 2).base.toNat, (c.sh 2).rowLen)]⟩]
    | .mcast =>
      if off < c.listLen then
        let h := c.sh 1
        let n := h.lr * h.lc
        [⟨0, 1, ((List.range 8).filter fun k => 8 * off + k < n).map fun k =>
          let (x, y) := rowMajor h (8 * off + k); ((h.elemAt x y).1, 8)⟩]
      else [tile 0 i]
    | .coll _ | .wprop | .wjudge => [tile 0 i]
    | .qlnch => [⟨i, 5, [(c.ga.toNat + 64 * i, 64)]⟩]
    | _ => []

/-- R265: commands that consume what they read, and so check its codes. -/
def CmdOp.consumes : CmdOp → Bool
  | .coll _ | .qlnch | .wprop | .wjudge => true
  | _ => false

/-- R362: the destination of a CPS lies wholly in one global profiling range, so that it may read profiling bytes. -/
def profCopy (c : Ctx) (k : Cmd) : Bool :=
  match k.op with
  | .cps false =>
    let h := k.sh 0
    let p := globalPitch (k.sh 2) h.rowLen
    !(isRemote k.ga) && c.hdr.profg.any fun (b, l) =>
      (globalRows (cAddr k.ga) p h.rows.toNat h.rowLen).all fun (a, n) => b ≤ a && a + n ≤ b + l
  | _ => false

/-! ## Performing (R266, R270 to R287) -/

/-- R295: FATAL_CONTEXT of a C unit. -/
def cFatal (s : State) (c : Cmd) (i0 : Word) : Nat × Trap × Nat := (0, unitTrap s c 0x21 (some i0) (some 0) (some 0), 0)

/-- R287, R457: WELT_STATE of a Welt command. -/
def weltTrap (s : State) (c : Cmd) (x : Nat × Nat) : Nat × Trap × Nat :=
  (2, unitTrap s c 0x25 (some (BitVec.ofNat 64 x.1)) (some (BitVec.ofNat 64 x.2)) (some c.ga), 0)

/-- A granule that only acts outside the scratchpad. -/
def onlyEff (c : Cmd) (i : Nat) (f : State → State) : CPerf := ⟨⟨i, [], [], c.buf, 0⟩, f⟩

/-- A granule that has sent its pieces, or fails to translate. -/
def sent (s : State) (c : Cmd) (i : Nat) (buf : List (List Nat)) (f : Option (State → State)) : CPerf :=
  match f with
  | some g => ⟨⟨i, [], [], buf, 0⟩, g⟩
  | none => ⟨⟨i, [cFatal s c c.ga], [], c.buf, 0⟩, id⟩

/-- R270, R271: granule i of CPG, CPG.x, CPS and CPS.x. -/
def copyUnit (s : State) (c : Cmd) (put : Bool) (i : Nat) : CPerf :=
  let h := c.sh 0
  let (r, lo, _) := granSpan h i
  let (a, len) := granAddr h i
  let p := globalPitch (c.sh 2) h.rowLen
  let (skip, edge, row, buf) : Bool × Bool × Nat × List (List Nat) :=
    if !c.indexed then (false, false, r, [])
    else if lo ≠ 0 then ((c.buf.headD []).headD 0 == 0, false, (c.buf.headD []).getD 1 0, c.buf)
    else
      match indexPlace c r with
      | some (x, y) => let v := elemBits (spadByte s) (c.sh 1) x y; (false, false, v, [[1, v]])
      | none =>
        if (c.sh 1).edge = 1 then (false, false, 0, [[1, 0]])
        else if (c.sh 1).edge = 0 then (true, false, 0, [[0]])
        else (false, true, 0, c.buf)
  if edge then
    ⟨⟨i, [(3, unitTrap s c 0x09 (some 1) (some 0) (some (BitVec.ofNat 64 r)), 0)], [], c.buf, 0⟩, id⟩
  else if skip then ⟨⟨i, [], [], buf, 0⟩, id⟩
  else
    sent s c i buf
      (if put then (if c.indexed then writeFrom s c (cAddr c.ga + row * p + lo) len a else putTo s c c.ga (r * p + lo) len a false)
       else readInto s c (cAddr c.ga + row * p + lo) len a)

/-- R272: granule i of CPY. -/
def cpyUnit (s : State) (c : Cmd) (i : Nat) : CPerf :=
  let h := c.sh 2
  let (r, lo, hi) := granSpan h i
  sent s c i [] (copyGlobal s c (cAddr c.gb + r * globalPitch (c.sh 3) h.rowLen + lo) (hi - lo) c.ga
    (r * globalPitch h h.rowLen + lo))

/-- R274: WMAP binds its window from +1. -/
def wmapUnit (c : Cmd) : CPerf :=
  let (b, n) := regionOf (c.sh 0)
  onlyEff c 0 fun s => s.up fun x =>
    { x with wins := x.wins ++ [⟨Fin.ofNat 8 c.aux, b, n, cAddr c.ga, c.base + 1⟩] }

/-- R275: granule i of WFILL. -/
def wfillUnit (s : State) (c : Cmd) (i : Nat) : CPerf :=
  let va := (c.buf.headD []).getD 1 0
  sent s c i c.buf (readInto s c (va + 64 * i) 64 (c.region.1 + 64 * i))

/-- R106, R123, R275: granule i of WBACK and WUNMAP: dirty sectors are written back and their bits clear. -/
def wbackUnit (s : State) (c : Cmd) (i : Nat) : CPerf :=
  let va := (c.buf.headD []).getD 1 0
  let ds := dirtySectors s c i
  let k := spadKey s.ctx.gunit 0 / 32
  if ds.isEmpty then onlyEff c i id
  else
    let x := ds.foldl min (ds.headD 0)
    sent s c i c.buf ((writeFrom s c (va + (32 * x - c.region.1)) (32 * ds.length) (32 * x)).map fun f s =>
      let s := f s
      { s with dirty := s.dirty.filter fun d => !(ds.any fun x => k + x == d) })

/-- R276, R406: the status of a PROBE: a status word, or nothing when the page faults. -/
def probeWord (s : State) (va : Nat) (w : Bool) (st : Nat) : Option Word :=
  match segOf s va with
  | none => none
  | some g =>
    let e := entryAt s g va
    if !(e.getLsbD 63) || malformed s e || (locate s s.ctx.rect g e va).isNone then none
    else if !(permits e (if w then .write else .read)) then some 3
    else some (BitVec.ofNat 64 (at' (b2n (ilvField e)) 19 + at' (b2n (compField e)) 18 + at' (modeField e) 16 +
      at' (peerField e) 8 + st))

/-- R276, R379: PROBE. -/
def probeUnit (s : State) (c : Cmd) (w : Bool) : CPerf :=
  match probeWord s (cAddr c.ga) w 0 with
  | some v => ⟨⟨0, [], [c.uw 0 2 5 (.gb c.dst v) 0 0], [], 0⟩, id⟩
  | none => ⟨⟨0, [(1, unitTrap s c 0x20 (some c.ga) (some (BitVec.ofNat 64 (b2n w))) (some 0), 0)], [], [], 0⟩, id⟩

/-- R278: ATOM: the operand at +0 and, for CAS, the compared value at +1; then the request. -/
def atomUnit (s : State) (c : Cmd) (op : Fin 8) (nr : Bool) (off : Nat) : CPerf :=
  let h := c.sh 0
  let n := h.rowLen
  let rd := fun (t : Shape) => [(spadRead s t.base.toNat n).map (·.toNat), (travelSyn s t.base.toNat n).map (·.toNat),
    (sectorsOf t.base.toNat n).map fun k => codesOf (spadRead s (32 * k) 32) (spadSyn s (32 * k))]
  let buf := (if off = 0 then [] else c.buf) ++ rd (if off = 0 then h else c.sh 2)
  if op = 7 ∧ off = 0 then ⟨⟨0, [], [], buf, 0⟩, id⟩
  else
    let bytes := fun k => (buf.getD k []).map (BitVec.ofNat 8)
    let syn := (buf.getD 1 [] ++ buf.getD 4 []).map (BitVec.ofNat 16)
    let codes := ((syn.zip (buf.getD 2 [] ++ buf.getD 5 [])).find? fun x => x.1 != 0).map (·.2)
    sent s c 0 buf ((sendCuts s .atomic (cAddr c.ga) n).map fun cuts s =>
      sendAll s c cuts fun _ _ p => { p with
        kind := .atom op h.f (bytes 3) (!nr), data := bytes 0, syn := syn, dst := h.base.toNat, codes := codes.getD 0 })

/-- R112, R279: a replica at a home, or in a target core, lies inside a scope. -/
def inScope (s : State) (scope : Nat) (tgt : Word) (home : Nat) : Bool :=
  if farHome home then scope ≥ 4
  else if home ≠ ownHome s then scope ≥ 3
  else if isRemote tgt then scopeBetween (remoteUnit tgt) s.ctx.gunit ≤ scope
  else scope ≥ 2

/-- R279, R406: a replica of an MCAST cannot be reached; nor can one at a misaligned address (DEDUCED, log 158). -/
def replicaBad (s : State) (c : Cmd) (tgt : Word) : Bool :=
  let h := c.sh 0
  badCAddr tgt || cAddr tgt % 32 != 0 ||
    match homesAt s .write tgt (globalPitch (c.sh 2) h.rowLen) h.rows.toNat h.rowLen with
    | none => true
    | some hs => !(hs.all fun h => inScope s c.scope tgt h && (isRemote tgt || !(farHome h)))

/-- R279: MCAST: the list, its translation, then granules to every replica. -/
def mcastUnit (s : State) (c : Cmd) (off : Nat) : CPerf :=
  let h := c.sh 0
  let e := c.listLen
  if off < e then
    let l := c.sh 1
    let n := l.lr * l.lc
    let vs := ((List.range 8).filter fun k => 8 * off + k < n).map fun k =>
      let (x, y) := rowMajor l (8 * off + k); elemBits (spadByte s) l x y
    let buf := (if off = 0 then [] else c.buf) ++ [vs]
    let all := buf.flatten
    let bad := if off + 1 = e then (List.range all.length).find? fun j => replicaBad s c (BitVec.ofNat 64 (all.getD j 0)) else none
    ⟨⟨0, (bad.map fun j => cFatal s c (BitVec.ofNat 64 j)).toList, [], buf, 0⟩, id⟩
  else
    let i := off - e
    let (r, lo, _) := granSpan h i
    let (a, len) := granAddr h i
    let o := r * globalPitch (c.sh 2) h.rowLen + lo
    sent s c i c.buf ((c.buf.flatten.mapM fun v => putTo s c (BitVec.ofNat 64 v) o len a true).map fun l s =>
      l.foldl (fun s f => f s) s)

/-- R280, R281: granule i of a contribution, read and kept. -/
def collUnit (s : State) (c : Cmd) (i : Nat) : CPerf :=
  let (a, n) := granAddr (c.sh 0) i
  ⟨⟨i, [], [], c.buf ++ [(spadRead s a n).map (·.toNat)], weight s 18⟩, id⟩

/-- R131: the source and phase that a QLNCH closed before its header is read. -/
def qlnchAfter (s : State) (c : Cmd) : Option (Nat × Nat) := some (s.ctx.src, c.phase)

/-- R131, R283: granule i of a launch header; the last one offers it. The phase is closed in the task cycle of the first
granule (DESIGN CHOICE, log 106). -/
def qlnchUnit (s : State) (c : Cmd) (i : Nat) : CPerf :=
  let buf := (c.buf.take i) ++ [(spadRead s (c.ga.toNat + 64 * i) 64).map (·.toNat)]
  if i + 1 < c.cCount then
    ⟨⟨i, [], [], buf, weight s 18⟩, fun s =>
      if i = 0 ∧ c.buf.isEmpty then
        (closePhase s 4).up fun x => { x with cq := x.cq.map fun k => if k.id == c.id then { k with phase := s.ctx.openPh } else k }
      else s⟩
  else
    let raw := buf.flatten.map (BitVec.ofNat 8)
    let st := headerStatus (launchView s (qlnchAfter s c)) raw none
    let sid := ((findQueue s (recField raw 4 2)).map (·.sid)).getD 0
    ⟨⟨i, [], [c.uw i (i + 3) 5 (.gb c.dst (BitVec.ofNat 64 st)) 0 0], buf, weight s 18⟩,
      fun s => if st = 0 then enqueue s raw sid 0 (qlnchAfter s c) else s⟩

/-- R286, R300: granule i of WPROP; the last one of a row hands its record to the Welt. -/
def wpropUnit (s : State) (c : Cmd) (i : Nat) : CPerf :=
  let h := c.sh 0
  let (r, lo, _) := granSpan h i
  let (a, n) := granAddr h i
  let buf := (if lo = 0 then [] else c.buf) ++ [(spadRead s a n).map (·.toNat)]
  if (i + 1) % granPerRow h = 0 then
    let raw := buf.flatten.map (BitVec.ofNat 8)
    match judgeRecord s raw with
    | .trap o => ⟨⟨i, [(2, unitTrap s c 0x25 (some (BitVec.ofNat 64 r)) (some (BitVec.ofNat 64 o)) none, 0)], [], c.buf, 0⟩, id⟩
    | _ => ⟨⟨i, [], [], buf, weight s 18⟩, fun s => takeRecord s raw⟩
  else ⟨⟨i, [], [], buf, weight s 18⟩, id⟩

/-- R287, R298: WTAKE at its start, and granule i of the records as they land through the fill port. -/
def wtakeUnit (s : State) (c : Cmd) (off : Nat) : CPerf :=
  let n := c.ga.toNat
  if off = 0 then
    match weltBad s .wtake n 0 [] with
    | some x => ⟨⟨0, [weltTrap s c x], [], [], 0⟩, id⟩
    | none =>
      let recs := ((findSlot s n).map fun x => if x.done then [] else x.recs).getD []
      ⟨⟨0, [], [c.uw 0 8 5 (.gb c.dst (BitVec.ofNat 64 recs.length)) 0 0], recs.map fun r => r.map (·.toNat), 0⟩,
        fun s => updSlot s n fun x => if x.done then x else { x with st := if x.st = 2 then 3 else x.st }⟩
  else
    let i := off - 8
    let h := c.sh 0
    let (r, lo, hi) := granSpan h i
    let (a, _) := granAddr h i
    if r < c.buf.length then
      let bs := (((c.buf.getD r []).drop lo).take (hi - lo)).map (BitVec.ofNat 8)
      let bad := (declEscape s.ctx 2 true (if s.ctx.hdr.det then byteRange a bs.length else [])).map fun b =>
        (6, unitTrap s c 0x0D (some (BitVec.ofNat 64 b)) (some (c.requester s.ctx 0)) (some 1), 0)
      ⟨⟨i, bad.toList, [], c.buf, weight s 18⟩,
        fun s => fillPut s s.ctx.gunit a bs [] false fun _ => true⟩
    else ⟨⟨i, [], [], c.buf, 0⟩, id⟩

/-- R287, R303: granule i of WJUDGE; the last one judges. -/
def wjudgeUnit (s : State) (c : Cmd) (i : Nat) : CPerf :=
  let h := c.sh 0
  let n := c.ga.toNat
  let (a, l) := granAddr h i
  let buf := c.buf.take i ++ [(spadRead s a l).map (·.toNat)]
  if i + 1 < c.cCount then ⟨⟨i, [], [], buf, weight s 18⟩, id⟩
  else
    let row := (buf.take (granPerRow h)).flatten.map (BitVec.ofNat 8)
    let ps := (List.range h.cols.toNat).map fun j => recField row (4 * j) 4
    match weltBad s .wjudge n h.cols.toNat ps with
    | some x => ⟨⟨i, [weltTrap s c x], [], c.buf, 0⟩, id⟩
    | none =>
      let (live, j) := match findSlot s n with
        | some x => if x.done then (false, 0) else (true, judge s x ps)
        | none => (false, 0)
      ⟨⟨i, [], [c.uw i (i + 17) 5 (.gb c.dst (BitVec.ofNat 64 j)) 0 0], buf, weight s 18⟩,
        fun s => if live then updSlot s n fun x => { x with st := 4, jstar := j } else s⟩

/-- R287, R305: WFINAL joins the slot's requests, to be performed after the publications of its context's closed
phases. -/
def wfinalUnit (s : State) (c : Cmd) : CPerf :=
  let n := c.ga.toNat
  match weltBad s .wfinal n 0 [] with
  | some x => ⟨⟨0, [weltTrap s c x], [], [], 0⟩, id⟩
  | none => onlyEff c 0 fun s =>
      if (findSlot s n).any fun x => x.done then s
      else { s with welt := { s.welt with
        finals := s.welt.finals ++ [⟨s.ctx.cid, s.ctx.src, n, c.gb.toNat % 2 ^ 32, c.phase⟩] } }

/-- A Welt read, whose result commits at +8. -/
def weltRead (c : Cmd) (v : Nat) (f : State → State) : CPerf :=
  ⟨⟨0, [], [c.uw 0 8 5 (.gb c.dst (BitVec.ofNat 64 v)) 0 0], [], 0⟩, f⟩

/-- R266: what a C command performs at an offset. -/
def cPerform (s : State) (c : Cmd) (off : Nat) : Option CPerf :=
  (cUnit c off).map fun i =>
    match c.op with
    | .cpg _ => copyUnit s c false i
    | .cps _ => copyUnit s c true i
    | .cpy => cpyUnit s c i
    | .wmap => wmapUnit c
    | .wfill => wfillUnit s c i
    | .wback | .wunmap => wbackUnit s c i
    | .probe w => probeUnit s c w
    | .atom op nr => atomUnit s c op nr off
    | .mcast => mcastUnit s c off
    | .coll _ => collUnit s c i
    | .qlnch => qlnchUnit s c i
    | .wprop => wpropUnit s c i
    | .wtake => wtakeUnit s c off
    | .wjudge => wjudgeUnit s c i
    | .wfinal => wfinalUnit s c
    | .wdepth => weltRead c (depthWord s c.ga.toNat) fun s => installRecord s c.ga.toNat c.base
    | .wrbk => weltRead c c.gb.toNat id
    | _ => weltRead c (statWord s c.ga.toNat) id

/-! ## Stalls (R268, R301) -/

/-- R268: the stall that a C command meets at an offset: 1 a full work queue, 2 proposals, 3 a final round, 4 a full
proposal queue. -/
def cStall (s : State) (c : Cmd) (off : Nat) : Option Nat :=
  match cUnit c off with
  | none => none
  | some i =>
    match c.op with
    | .qlnch =>
      if i + 1 = c.cCount then
        let raw := ((c.buf.take i).flatten ++ (spadRead s (c.ga.toNat + 64 * i) 64).map (·.toNat)).map (BitVec.ofNat 8)
        let q := recField raw 4 2
        if headerStatus (launchView s (qlnchAfter s c)) raw none = 0 ∧ (queueFull s q ∨ queueTaken s q) then some 1 else none
      else none
    | .wtake => if off = 0 ∧ takeWaits s c.ga.toNat ∧ !(proposalsFull s) then some 2 else none
    | .wdepth => if depthWaits s c.ga.toNat then some 3 else none
    | .wprop =>
      let h := c.sh 0
      if (i + 1) % granPerRow h = 0 then
        let (a, n) := granAddr h i
        let raw := (c.buf.flatten ++ (spadRead s a n).map (·.toNat)).map (BitVec.ofNat 8)
        if judgeRecord s raw = .full then some 4 else none
      else none
    | _ => none

end Sys2Proof.Machine
end

