-- ==== Sys2Proof/Machine/Vector.lean ====
section
/-! DEFINITION. The V class: the meaning of every instruction of majors 0x11 to 0x16 at its issue (R211 to R240). Its
units are performed by VectorUnits. -/

namespace Sys2Proof.Machine

/-! ## Formats and modifier fields (R213, R215) -/

/-- R215: group I. -/
def grpI : List Nat := List.range 10
/-- R215: group I8. -/
def grpI8 : List Nat := [0, 1, 4, 5, 6, 7, 8, 9]
/-- R215: group W. -/
def grpW : List Nat := [6, 7, 8, 9]
/-- R215: group F. -/
def grpF : List Nat := [10, 11, 12, 13]
/-- R215: group E. -/
def grpE : List Nat := [14, 15, 16]
/-- Every format but BIT. -/
def grpNoBit : List Nat := List.range 18

/-- R213: how a modifier field is read. -/
inductive Field where
  | zero | r | s | rs
  deriving DecidableEq, Repr

/-- R213: a modifier that does not suit the format fails check 10. -/
def fieldBad (k : Field) (f aux : Nat) : Bool :=
  match k with
  | .zero | .r => false
  | .s | .rs => fmtIsInt f && 2 ≤ aux && aux ≤ 6

/-- R58, R213: the modifier as the command captures it: a rounding mode, or 1 for saturation. -/
def fieldMode (s : State) (k : Field) (f aux : Nat) : Nat :=
  match k with
  | .zero => 0
  | .r => resolveMode s aux
  | .s => aux
  | .rs => if fmtIsInt f then aux else resolveMode s aux

/-- R215: the uses of an instruction whose tiles all hold the format of vd0. -/
def sameFmt (fmts : List Nat) (reads : List (Fin 4)) (sh : Fin 4 → Shape) : List Use :=
  let f := (sh 0).f
  ⟨0, true, fmts⟩ :: reads.map fun i => ⟨i, false, if fmts.contains f then [f] else fmts⟩

/-- R214 steps 4 and 5 for a scalar operand and a modifier. -/
def vLimits (regs : List (Fin 32)) (bad : State → (Fin 4 → Shape) → Option Trap) (s : State) (sh : Fin 4 → Shape) :
    Option Trap :=
  ((scalarCheck s 0 regs).or (bad s sh)).or (startForm s)

/-- R212, R216: an element-wise instruction; `ga` is the scalar of a .s form. -/
def vElem (s : State) (op : EOp) (reads : List (Fin 4)) (fmts : List Nat) (k : Field) (aux : Nat)
    (ga : Option (Fin 32) := none) : Outcome State :=
  engineOp s (.elem op ga.isSome) (sameFmt fmts reads) allChecks (rdG s (ga.getD 0)) 0 aux 0 0
    (vLimits ga.toList fun s sh => if fieldBad k (sh 0).f aux then some (limitTrap s 15) else none)
    fun s c => (s, { c with mode := fieldMode s k (c.sh 0).f aux })

/-- R220: two sources, with a modifier R/S. -/
def vArith (s : State) (op : EOp) (aux : Fin 8) : Outcome State := vElem s op [1, 2] (grpI ++ grpF) .rs aux.val
/-- R220: its .s form. -/
def vArithS (s : State) (op : EOp) (a : Fin 32) (aux : Fin 8) : Outcome State :=
  vElem s op [1] (grpI ++ grpF) .rs aux.val (some a)
/-- R220: three sources, with a modifier R/S. -/
def vFused (s : State) (op : EOp) (aux : Fin 8) : Outcome State := vElem s op [1, 2, 3] (grpI ++ grpF) .rs aux.val
/-- R220: its .s form. -/
def vFusedS (s : State) (op : EOp) (a : Fin 32) (aux : Fin 8) : Outcome State :=
  vElem s op [1, 3] (grpI ++ grpF) .rs aux.val (some a)
/-- R220 to R223: two sources without a modifier. -/
def vTwo (s : State) (op : EOp) (fmts : List Nat) : Outcome State := vElem s op [1, 2] fmts .zero 0
/-- Its .s form. -/
def vTwoS (s : State) (op : EOp) (fmts : List Nat) (a : Fin 32) : Outcome State := vElem s op [1] fmts .zero 0 (some a)
/-- R220 to R225: one source without a modifier. -/
def vOne (s : State) (op : EOp) (fmts : List Nat) : Outcome State := vElem s op [1] fmts .zero 0
/-- R223: three sources without a modifier. -/
def vThree (s : State) (op : EOp) (fmts : List Nat) : Outcome State := vElem s op [1, 2, 3] fmts .zero 0
/-- Its .s form. -/
def vThreeS (s : State) (op : EOp) (fmts : List Nat) (a : Fin 32) : Outcome State :=
  vElem s op [1, 3] fmts .zero 0 (some a)

/-- R221, R222: VCMP: BIT destination, sources of one format; UN of an integer format fails check 10. -/
def vCompare (s : State) (r : Fin 8) (ga : Option (Fin 32)) : Outcome State :=
  engineOp s (.elem (.cmp r.val) ga.isSome)
    (fun sh => let f := (sh 1).f
      [⟨0, true, [20]⟩, ⟨1, false, grpI ++ grpF⟩] ++
        if ga.isSome then [] else [⟨2, false, if (grpI ++ grpF).contains f then [f] else grpI ++ grpF⟩])
    allChecks (rdG s (ga.getD 0)) 0 r.val 0 0
    (vLimits ga.toList fun s sh => if r = 6 ∧ fmtIsInt (sh 1).f then some (limitTrap s 15) else none) plainCapture

/-- R221: VSEL: BIT selector in vd3. -/
def vSelect (s : State) (ga : Option (Fin 32)) : Outcome State :=
  engineOp s (.elem .sel ga.isSome)
    (fun sh => sameFmt grpNoBit (if ga.isSome then [1] else [1, 2]) sh ++ [⟨3, false, [20]⟩])
    allChecks (rdG s (ga.getD 0)) 0 0 0 0 (vLimits ga.toList fun _ _ => none) plainCapture

/-- R227, R228: a reduction over vd1 into vd0. -/
def vReduce (s : State) (op : CmdOp) (k : Field) (aux : Nat) : Outcome State :=
  engineOp s op (sameFmt (grpI ++ grpF) [1]) allChecks 0 0 aux 0 0 (vLimits [] fun _ _ => none)
    fun s c => (s, { c with mode := fieldMode s k (c.sh 0).f aux })

/-- R227, R229: VARGMAX: FP32, INT32 or NAT32 into NAT64 pairs. -/
def vArgmax (s : State) (ax : Axis) (a : Fin 32) : Outcome State :=
  engineOp s (.argmax ax) (fun _ => [⟨0, true, [9]⟩, ⟨1, false, [11, 6, 7]⟩]) allChecks (rdG s a) 0 0 0 0
    (vLimits [a] fun _ _ => none) plainCapture

/-- R230, R231: the uses of VGATH and VSCAT. -/
def indexUses (sh : Fin 4 → Shape) : List Use :=
  sameFmt (grpI8 ++ grpF ++ grpE ++ [17]) [1] sh ++ [⟨2, false, [5, 7]⟩]

/-- R81, R90, R97, R99, R236: the queue checks, in R97's order, then the claim list, then the merge of a claim into the
control word's sector. -/
def queueCheckV (s : State) (a : Word) (fmt : Option Nat) (push : Option Bool) : Option Trap :=
  let t := fun n : Nat => some (mkTrap s 0x0B (some a) (some (BitVec.ofNat 64 n)) none)
  if a.toNat ≥ 2 ^ 24 ∨ !(s.ctx.inGrant a.toNat 32) then some (fatalTrap s none none)
  else
    let q := readQ s a.toNat
    match queueFault s.ctx q fmt push with
    | some n => t n
    | none =>
      let free := push.any fun p => (if p then q.pctx else q.cctx) == 15
      if free ∧ !(s.ctx.claims.contains a.toNat) ∧ s.ctx.claims.length ≥ Config.maxClaims then t 10
      else if free ∧ spadSyn s (a.toNat / 32 * 32) ≠ 0 then
        some (sectorTrap s a.toNat (requester s.ctx 2 s.ctx.iss.pos 4) s.ctx.iss.pc)
      else none

/-- R97, R99: an unclaimed side is claimed by the context. -/
def claimQ (s : State) (a : Nat) (push : Bool) : State :=
  let q := readQ s a
  if (if push then q.pctx else q.cctx) ≠ 15 then s
  else
    (putCells (noteQ s a) (runCells (a + 1) (claimBytes s a push s.ctx.ctxno))).up fun c =>
      if c.claims.contains a then c else { c with claims := c.claims ++ [a] }

/-! ## Chains (R239, R240) -/

/-- R239: the operation that MJ and OP name. -/
def chainOp (mj : Bool) (op : Nat) : Option EOp :=
  if mj then
    match op with
    | 0 => some .and | 1 => some .or | 2 => some .xor | 3 => some .andn | 4 => some .not | 5 => some .shl
    | 6 => some .shr | 7 => some .sar | _ => none
  else
    match op with
    | 0 => some .add | 1 => some .sub | 2 => some .mul | 3 => some .mulh | 6 => some .min | 7 => some .max
    | 8 => some .abs | 9 => some .neg | _ => none

/-- R213: the modifier field of a chain's operation. -/
def chainField : EOp → Field
  | .add | .sub | .mul => .rs
  | .abs | .neg => .s
  | _ => .zero

/-- R220, R221: the formats that a chain's operation accepts. -/
def chainFmts : EOp → List Nat
  | .mulh | .shl | .shr | .sar => grpI
  | .abs | .neg => grpI ++ grpF ++ grpE
  | .and | .or | .xor | .andn | .not => fmtsAll
  | _ => grpI ++ grpF

/-- R240: the operation of a chain word for tiles of a format, its modifier resolved; none when the word is at fault. -/
def chainWord (s : State) (f w : Nat) : Option ChainOp :=
  let aux := w / 8 % 8
  let src := w / 64 % 4
  match chainOp (w / 2 ^ 14 % 2 == 1) (w / 2 ^ 8 % 64) with
  | none => none
  | some op =>
    let unary := op == .abs || op == .neg || op == .not
    let k := chainField op
    if w % 8 ≠ 0 ∨ unary ≠ (src == 0) ∨ !((chainFmts op).contains f) ∨ aux = 7 ∨ (k = .zero ∧ aux ≠ 0) ∨ fieldBad k f aux
    then none
    else some ⟨op, src, fieldMode s k f aux⟩

/-- R239: the eight words of chain j. -/
def chainWords (r : Regs) (j : Nat) : List Nat :=
  (List.range 8).map fun w => (r.cht.toList.getD (2 * j + w / 4) 0).toNat / 2 ^ (16 * (w % 4)) % 2 ^ 16

/-- R240: the leading words with V = 1. -/
def chainLead (ws : List Nat) : List Nat := ws.takeWhile fun w => w / 2 ^ 15 == 1

/-- R240: the index of the first word at fault. -/
def chainFault (s : State) (f : Nat) (ws : List Nat) : Option Nat :=
  let k := (chainLead ws).length
  if k = 0 then some 0
  else
    ((List.range 8).zip ws).findSome? fun (i, w) =>
      if i < k then (if (chainWord s f w).isNone then some i else none) else if k < i ∧ w ≠ 0 then some i else none

/-- R240: the tiles that the leading words name beside vd0 and vd1. -/
def chainReads (ws : List Nat) : List (Fin 4) :=
  let srcs := (chainLead ws).map fun w => w / 64 % 4
  [1] ++ (if srcs.contains 1 then [2] else []) ++ if srcs.contains 2 then [3] else []

/-- R236, R240: VCHAIN. -/
def vChain (s : State) (a : Fin 32) (j : Fin 4) : Outcome State :=
  let ws := chainWords s.ctx.r j.val
  engineOp s (.chain []) (sameFmt fmtsAll (chainReads ws)) allChecks (rdG s a) 0 j.val 0 0
    (vLimits [a] fun s sh =>
      (chainFault s (sh 0).f ws).map fun i => limitTrap s 15 (some (BitVec.ofNat 64 i)))
    fun s c => (s, { c with op := .chain ((chainLead ws).filterMap (chainWord s (c.sh 0).f)) })

/-! ## VSPLIT (R226) -/

/-- R226: check 10 of VSPLIT, and its bytes outside the grant. -/
def splitLimits (a : Fin 32) (s : State) (sh : Fin 4 → Shape) : Option Trap :=
  let v := (rdG s a).toNat
  let n := v / 2 ^ 24 % 16
  let info := v / 2 ^ 40
  let stride := v % 2 ^ 24
  let r := (sh 1).lr
  let d := sh 0
  if n = 0 ∨ n > 9 ∨ v / 2 ^ 28 % 2 ^ 12 ≠ 0 ∨ info % 128 ≠ 0 ∨ stride % 128 ≠ 0 then some (limitTrap s 15)
  else if !(s.ctx.inGrant info (cdiv (2 * r) 128 * 128 + cdiv r 8)) ∨
      (List.range n).any (fun k => !(s.ctx.inGrant (d.base.toNat + k * stride) d.spanBytes)) then
    some (fatalTrap s none none)
  else none

/-! ## Meanings -/

/-- R220: VADD. -/
def execVadd (x : Fin 8) (s : State) : Outcome State :=
  vArith s .add x

/-- R220: VADD, .s form. -/
def execVaddS (a : Fin 32) (x : Fin 8) (s : State) : Outcome State :=
  vArithS s .add a x

/-- R220: VSUB. -/
def execVsub (x : Fin 8) (s : State) : Outcome State :=
  vArith s .sub x

/-- R220: VSUB, .s form. -/
def execVsubS (a : Fin 32) (x : Fin 8) (s : State) : Outcome State :=
  vArithS s .sub a x

/-- R220: VMUL. -/
def execVmul (x : Fin 8) (s : State) : Outcome State :=
  vArith s .mul x

/-- R220: VMUL, .s form. -/
def execVmulS (a : Fin 32) (x : Fin 8) (s : State) : Outcome State :=
  vArithS s .mul a x

/-- R220: VMULH. -/
def execVmulh (s : State) : Outcome State :=
  vTwo s .mulh grpI

/-- R220: VMULH, .s form. -/
def execVmulhS (a : Fin 32) (s : State) : Outcome State :=
  vTwoS s .mulh grpI a

/-- R220: VFMA. -/
def execVfma (x : Fin 8) (s : State) : Outcome State :=
  vFused s .fma x

/-- R220: VFMA, .s form. -/
def execVfmaS (a : Fin 32) (x : Fin 8) (s : State) : Outcome State :=
  vFusedS s .fma a x

/-- R220: VFMS. -/
def execVfms (x : Fin 8) (s : State) : Outcome State :=
  vFused s .fms x

/-- R220: VFMS, .s form. -/
def execVfmsS (a : Fin 32) (x : Fin 8) (s : State) : Outcome State :=
  vFusedS s .fms a x

/-- R50, R220: VMIN. -/
def execVmin (s : State) : Outcome State :=
  vTwo s .min (grpI ++ grpF)

/-- R50, R220: VMIN, .s form. -/
def execVminS (a : Fin 32) (s : State) : Outcome State :=
  vTwoS s .min (grpI ++ grpF) a

/-- R50, R220: VMAX. -/
def execVmax (s : State) : Outcome State :=
  vTwo s .max (grpI ++ grpF)

/-- R50, R220: VMAX, .s form. -/
def execVmaxS (a : Fin 32) (s : State) : Outcome State :=
  vTwoS s .max (grpI ++ grpF) a

/-- R220: VABS. -/
def execVabs (x : Fin 8) (s : State) : Outcome State :=
  vElem s .abs [1] (grpI ++ grpF ++ grpE) .s x.val

/-- R220: VNEG. -/
def execVneg (x : Fin 8) (s : State) : Outcome State :=
  vElem s .neg [1] (grpI ++ grpF ++ grpE) .s x.val

/-- R73, R220: VDIV. -/
def execVdiv (x : Fin 8) (s : State) : Outcome State :=
  vElem s .div [1, 2] [10, 11] .r x.val

/-- R73, R220: VDIV, .s form. -/
def execVdivS (a : Fin 32) (x : Fin 8) (s : State) : Outcome State :=
  vElem s .div [1] [10, 11] .r x.val (some a)

/-- R73, R74, R220: VSQRT. -/
def execVsqrt (x : Fin 8) (s : State) : Outcome State :=
  vElem s .sqrt [1] [10, 11] .r x.val

/-- R220: VMOV. -/
def execVmov (s : State) : Outcome State :=
  vOne s .mov grpNoBit

/-- R212, R220: VFILL. -/
def execVfill (a : Fin 32) (s : State) : Outcome State :=
  vElem s .fill [] grpNoBit .zero 0 (some a)

/-- R221: VAND. -/
def execVand (s : State) : Outcome State :=
  vTwo s .and fmtsAll

/-- R221: VAND, .s form. -/
def execVandS (a : Fin 32) (s : State) : Outcome State :=
  vTwoS s .and fmtsAll a

/-- R221: VOR. -/
def execVor (s : State) : Outcome State :=
  vTwo s .or fmtsAll

/-- R221: VOR, .s form. -/
def execVorS (a : Fin 32) (s : State) : Outcome State :=
  vTwoS s .or fmtsAll a

/-- R221: VXOR. -/
def execVxor (s : State) : Outcome State :=
  vTwo s .xor fmtsAll

/-- R221: VXOR, .s form. -/
def execVxorS (a : Fin 32) (s : State) : Outcome State :=
  vTwoS s .xor fmtsAll a

/-- R221: VANDN. -/
def execVandn (s : State) : Outcome State :=
  vTwo s .andn fmtsAll

/-- R221: VANDN, .s form. -/
def execVandnS (a : Fin 32) (s : State) : Outcome State :=
  vTwoS s .andn fmtsAll a

/-- R221: VNOT. -/
def execVnot (s : State) : Outcome State :=
  vOne s .not fmtsAll

/-- R221: VSHL. -/
def execVshl (s : State) : Outcome State :=
  vTwo s .shl grpI

/-- R221: VSHL, .s form. -/
def execVshlS (a : Fin 32) (s : State) : Outcome State :=
  vTwoS s .shl grpI a

/-- R221: VSHR. -/
def execVshr (s : State) : Outcome State :=
  vTwo s .shr grpI

/-- R221: VSHR, .s form. -/
def execVshrS (a : Fin 32) (s : State) : Outcome State :=
  vTwoS s .shr grpI a

/-- R221: VSAR. -/
def execVsar (s : State) : Outcome State :=
  vTwo s .sar grpI

/-- R221: VSAR, .s form. -/
def execVsarS (a : Fin 32) (s : State) : Outcome State :=
  vTwoS s .sar grpI a

/-- R221, R222: VCMP. -/
def execVcmp (r : Fin 8) (s : State) : Outcome State :=
  vCompare s r none

/-- R221, R222: VCMP, .s form. -/
def execVcmpS (a : Fin 32) (r : Fin 8) (s : State) : Outcome State :=
  vCompare s r (some a)

/-- R221: VSEL. -/
def execVsel (s : State) : Outcome State :=
  vSelect s none

/-- R221: VSEL, .s form. -/
def execVselS (a : Fin 32) (s : State) : Outcome State :=
  vSelect s (some a)

/-- R223, R224: VPOPC; on BIT it counts each row. -/
def execVpopc (s : State) : Outcome State :=
  let bit := fun sh : Fin 4 → Shape => (sh 1).f == 20
  let op := if (captured (doSwap s 0) 0 1).f = 20 then CmdOp.popcBit else .elem .popc false
  engineOp s op (fun sh => if bit sh then [⟨0, true, [5, 7]⟩, ⟨1, false, [20]⟩] else sameFmt grpI8 [1] sh) allChecks
    0 0 0 0 0 (vLimits [] fun _ _ => none) plainCapture

/-- R223: VCLZ. -/
def execVclz (s : State) : Outcome State :=
  vOne s .clz grpI8

/-- R223: VBREV. -/
def execVbrev (s : State) : Outcome State :=
  vOne s .brev grpI8

/-- R223: VFNS. -/
def execVfns (s : State) : Outcome State :=
  vTwo s .fns grpW

/-- R223: VFNS, .s form. -/
def execVfnsS (a : Fin 32) (s : State) : Outcome State :=
  vTwoS s .fns grpW a

/-- R223: VBFX. -/
def execVbfx (s : State) : Outcome State :=
  vTwo s .bfx grpW

/-- R223: VBFX, .s form. -/
def execVbfxS (a : Fin 32) (s : State) : Outcome State :=
  vTwoS s .bfx grpW a

/-- R223: VBFI. -/
def execVbfi (s : State) : Outcome State :=
  vThree s .bfi grpW

/-- R223: VBFI, .s form. -/
def execVbfiS (a : Fin 32) (s : State) : Outcome State :=
  vThreeS s .bfi grpW a

/-- R223: VFSH, left. -/
def execVfshL (s : State) : Outcome State :=
  vThree s .fshl grpW

/-- R223: VFSH, left, .s form. -/
def execVfshLS (a : Fin 32) (s : State) : Outcome State :=
  vThreeS s .fshl grpW a

/-- R223: VFSH, right. -/
def execVfshR (s : State) : Outcome State :=
  vThree s .fshr grpW

/-- R223: VFSH, right, .s form. -/
def execVfshRS (a : Fin 32) (s : State) : Outcome State :=
  vThreeS s .fshr grpW a

/-- R66, R225: VCVT; equal formats fail check 1. -/
def execVcvt (x : Fin 8) (s : State) : Outcome State :=
  engineOp s (.elem .cvt false)
    (fun sh => [⟨0, true, grpNoBit⟩, ⟨1, false, grpNoBit.filter fun f => f != (sh 0).f⟩]) allChecks 0 0 x.val 0 0
    (vLimits [] fun _ _ => none) fun s c => (s, { c with mode := resolveMode s x.val })

/-- R73, R74, R225: VEXP2. -/
def execVexp2 (s : State) : Outcome State :=
  vOne s .exp2 [11]

/-- R73, R74, R225: VLOG2. -/
def execVlog2 (s : State) : Outcome State :=
  vOne s .log2 [11]

/-- R73, R74, R225: VRCP. -/
def execVrcp (s : State) : Outcome State :=
  vOne s .rcp [11]

/-- R73, R74, R225: VRSQRT. -/
def execVrsqrt (s : State) : Outcome State :=
  vOne s .rsqrt [11]

/-- R77, R226: VSPLIT. -/
def execVsplit (a : Fin 32) (s : State) : Outcome State :=
  engineOp s .split (fun _ => [⟨0, true, [0]⟩, ⟨1, false, [10]⟩]) allChecks (rdG s a) 0 0 0 0
    (vLimits [a] (splitLimits a)) plainCapture

/-- R75, R228: VREDSUM.all. -/
def execVredsumAll (x : Fin 8) (s : State) : Outcome State :=
  vReduce s (.redSum .all) .r x.val

/-- R228: VREDMAX.all. -/
def execVredmaxAll (s : State) : Outcome State :=
  vReduce s (.redMax .all) .zero 0

/-- R228: VREDMIN.all. -/
def execVredminAll (s : State) : Outcome State :=
  vReduce s (.redMin .all) .zero 0

/-- R229: VARGMAX.all. -/
def execVargmaxAll (a : Fin 32) (s : State) : Outcome State :=
  vArgmax s .all a

/-- R75, R228: VREDSUM.row. -/
def execVredsumRow (x : Fin 8) (s : State) : Outcome State :=
  vReduce s (.redSum .row) .r x.val

/-- R228: VREDMAX.row. -/
def execVredmaxRow (s : State) : Outcome State :=
  vReduce s (.redMax .row) .zero 0

/-- R228: VREDMIN.row. -/
def execVredminRow (s : State) : Outcome State :=
  vReduce s (.redMin .row) .zero 0

/-- R229: VARGMAX.row. -/
def execVargmaxRow (a : Fin 32) (s : State) : Outcome State :=
  vArgmax s .row a

/-- R75, R228: VREDSUM.col. -/
def execVredsumCol (x : Fin 8) (s : State) : Outcome State :=
  vReduce s (.redSum .col) .r x.val

/-- R228: VREDMAX.col. -/
def execVredmaxCol (s : State) : Outcome State :=
  vReduce s (.redMax .col) .zero 0

/-- R228: VREDMIN.col. -/
def execVredminCol (s : State) : Outcome State :=
  vReduce s (.redMin .col) .zero 0

/-- R229: VARGMAX.col. -/
def execVargmaxCol (a : Fin 32) (s : State) : Outcome State :=
  vArgmax s .col a

/-- R235: VSCAN. -/
def execVscan (x : Fin 8) (s : State) : Outcome State :=
  vReduce s .scan .r x.val

/-- R230: VGATH. -/
def execVgath (s : State) : Outcome State :=
  engineOp s .gath indexUses allChecks 0 0 0 0 0 (vLimits [] fun _ _ => none) plainCapture

/-- R231: VSCAT. -/
def execVscat (s : State) : Outcome State :=
  engineOp s .scat indexUses allChecks 0 0 0 0 0 (vLimits [] fun _ _ => none) plainCapture

/-- R232: VTRAN. -/
def execVtran (s : State) : Outcome State :=
  vOne s .tran grpNoBit

/-- R97, R236, R237: VPUSH claims the push side at issue. -/
def execVpush (a : Fin 32) (s : State) : Outcome State :=
  engineOp s .push (fun _ => [⟨1, false, wideFmts⟩, ⟨2, false, [20]⟩]) allChecks (rdG s a) 0 0 0 0
    (vLimits [a] fun s sh => queueCheckV s (rdG s a) (some (sh 1).f) (some true))
    fun s c => (claimQ s c.ga.toNat true, c)

/-- R97, R236, R238: VPOP claims the pop side at issue. -/
def execVpop (a b : Fin 32) (s : State) : Outcome State :=
  engineOp s .pop (fun _ => [⟨0, true, grpNoBit⟩]) allChecks (rdG s a) 0 0 0 b
    (vLimits [a] fun s sh => queueCheckV s (rdG s a) (some (sh 0).f) (some false))
    fun s c => (claimQ s c.ga.toNat false, c)

/-- R236, R238: VQCNT. -/
def execVqcnt (a b : Fin 32) (s : State) : Outcome State :=
  engineOp s .qcnt (fun _ => []) allChecks (rdG s a) 0 0 0 b
    (vLimits [a] fun s _ => queueCheckV s (rdG s a) none none) plainCapture

/-- R239, R240: VCHAIN. -/
def execVchain (a : Fin 32) (c : Fin 4) (s : State) : Outcome State :=
  vChain s a c

end Sys2Proof.Machine
end

