-- ==== Sys2Proof/Machine/Tables.lean ====
section
/-! DEFINITION. The Q class of major 0x1B: format table, scale tables, chain table, declarations, power levels and queue
initialisation (R288 to R292, R355, R357, R420). -/

namespace Sys2Proof.Machine

/-- R288: a Q syllable: its issue check, its charge, and its effect. -/
def qOp (s : State) (chk : Option Trap) (eff : State → State) : Outcome State :=
  if acts s then
    match chk with
    | some t => .next (takeTrap s t)
    | none => .next (eff (charge s (weight s 3)))
  else .next (idle s)

/-- R91, R288: a table write at +1, or the mismatch of a register the syllable read, at the same boundary. -/
def tableWrite (s : State) (ns : List (Fin 32)) (act : DAct) : State :=
  addDW s 1 (match badReg s 4 ns with | some t => .raise t | none => act)

/-- R288: FTSET: the entry in [31:0] goes to the index in [35:32]. -/
def execFtset (a : Fin 32) (s : State) : Outcome State :=
  let v := (rdG s a).toNat
  qOp s (if v / 2 ^ 36 ≠ 0 ∨ v % 4 ≠ 0 then some (limitTrap s 15) else none)
    fun s => tableWrite s [a] (.ft (Fin.ofNat 16 (v / 2 ^ 32)) (BitVec.ofNat 32 v))

/-- R288: SCLD: four BF16 entries from each register, into half h of table t. -/
def execScld (a b : Fin 32) (h t : Bool) (s : State) : Outcome State :=
  qOp s none fun s => tableWrite s [a, b] (.st t h (rdG s a) (rdG s b))

/-- R288: CHSET: chain j of the chain table. -/
def execChset (a b : Fin 32) (j : Fin 4) (s : State) : Outcome State :=
  qOp s none fun s => tableWrite s [a, b] (.cht j (rdG s a) (rdG s b))

/-! ## DECL -/

/-- R290: dword k of the declaration record at an address. -/
def declDword (s : State) (a k : Nat) : Nat := leNat (spadRead s (a + 8 * k) 8)

/-- R290: the byte offset of the first field of the record that fails check 10. -/
def declBad (s : State) (a : Nat) : Option Nat :=
  let w0 := declDword s a 0
  if w0 / 4 ≠ 0 ∨ w0 % 4 = 3 then some 0
  else
    match (List.range 6).find? fun k =>
      let w := declDword s a (k + 1)
      w / 2 ^ 48 != 0 || w % 2 ^ 24 + w / 2 ^ 24 % 2 ^ 24 > 2 ^ 24 with
    | some k => some (8 + 8 * k)
    | none => if declDword s a 7 ≠ 0 then some 56 else none

/-- The ranges of a record from place lo on, n of them, the unused ones left out. -/
def recordRanges (ws : List Nat) (lo n : Nat) : List (Nat × Nat) :=
  (List.range n).filterMap fun k =>
    let w := ws.getD (lo + k) 0
    if w / 2 ^ 24 = 0 then none else some (w % 2 ^ 24, w / 2 ^ 24)

/-- R357: the lowest byte that the new declarations of engine e share with those of another engine, or with a profiling
range, and which of them (0 V, 1 X, 2 C, 3 profiling). -/
def declMeets (c : Ctx) (e : Nat) (ws : List Nat) : Option (Nat × Nat) :=
  let r := regsAt c (c.now + 2)
  let new := recordRanges ws 0 6
  let newW := recordRanges ws 4 2
  let met := (([0, 1, 2].filter (· != e)).filterMap fun k =>
      let wr := declRanges r k 4 2
      let al := declRanges r k 0 6
      (([overlap new wr, overlap newW al].filterMap id).min?).map fun b => (b, k)) ++
    ((overlap new c.hdr.profs).map fun b => (b, 3)).toList
  met.foldl (fun (m : Option (Nat × Nat)) x => match m with
    | none => some x
    | some y => if x.1 < y.1 then some x else some y) none

/-- R290, R357: the issue checks of DECL in their order: the register's code, the alignment, the grant, the record's
fields, and in deterministic mode the overlap. -/
def declCheck (s : State) (a : Fin 32) : Option Trap :=
  let c := s.ctx
  let v := (rdG s a).toNat
  let rq := requester c 4 c.iss.pos 5
  match badReg s 4 [a] with
  | some t => some t
  | none =>
    if v % 64 ≠ 0 then some (mkTrap s 0x06 (some (rdG s a)) (some 1) none)
    else if v ≥ 2 ^ 24 ∨ !(c.inGrant v 64) then some (fatalTrap s none none)
    else
      match declBad s v with
      | some o => some (limitTrap s 15 (some (BitVec.ofNat 64 o)))
      | none =>
        if !c.hdr.det then none
        else
          (declMeets c (declDword s v 0 % 4) ((List.range 6).map fun k => declDword s v (k + 1))).map fun (b, k) =>
            mkTrap s 0x0C (some (BitVec.ofNat 64 b)) (some rq) (some (BitVec.ofNat 64 k))

/-- R289, R290: DECL reads its record at its issue; the six registers of the engine change at +2. -/
def execDecl (a : Fin 32) (s : State) : Outcome State :=
  qOp s (declCheck s a) fun s =>
    let v := (rdG s a).toNat
    let s := addDW s 2 (.dset (Fin.ofNat 4 (declDword s v 0))
      ((List.range 6).map fun k => BitVec.ofNat 64 (declDword s v (k + 1))))
    s.up fun c => { c with touch := c.touch ++ [⟨4, c.iss.pos, c.iss.pc, 5, v, 64, none⟩] }

/-! ## Power levels -/

/-- R291, R420: PWRA: level 0 and a level above the die's budget unit fail check 10; the request joins the queue of
the power manager and the context stalls until the grant. -/
def execPwra (a : Fin 32) (s : State) : Outcome State :=
  let v := (rdG s a).toNat
  qOp s ((badReg s 4 [a]).or (if v = 0 ∨ v / 2 ^ 16 ≠ 0 ∨ v > s.img.lvmax then some (limitTrap s 15) else none))
    fun s =>
      if v ≤ s.ctx.pwrlvl then addDW s 1 (.pwrlvl v)
      else
        { s.up (fun c => { c with pwrWait := true }) with
          cob := { s.cob with pwr := s.cob.pwr ++ [⟨s.ctx.cid, v⟩] } }

/-- R291: PWRR. -/
def execPwrr (s : State) : Outcome State := qOp s none fun s => addDW s 1 (.pwrlvl 0)

/-! ## QINIT -/

/-- R292: the control word that gb names. -/
def qinitWord (b : Word) : QWord :=
  ⟨0, 0, b.toNat / 2 ^ 40, b.toNat / 2 ^ 24 % 2 ^ 16, b.toNat / 2 ^ 21 % 8, 15, 15, 0⟩

/-- R292: the checks of QINIT in their order. -/
def qinitCheck (s : State) (a b : Fin 32) : Option Trap :=
  let v := rdG s a
  let form := fun n : Nat => some (mkTrap s 0x0B (some v) (some (BitVec.ofNat 64 n)) none)
  match badReg s 4 [a, b] with
  | some t => some t
  | none =>
    if v.toNat % 32 ≠ 0 then some (mkTrap s 0x06 (some v) (some 1) none)
    else if v.toNat ≥ 2 ^ 24 ∨ !(s.ctx.inGrant v.toNat 32) then some (fatalTrap s none none)
    else if (rdG s b).toNat % 2 ^ 21 ≠ 0 then form 1
    else
      match queueFault s.ctx (qinitWord (rdG s b)) none none with
      | some n => form n
      | none => none

/-- R292: QINIT writes the whole sector at +1. -/
def execQinit (a b : Fin 32) (s : State) : Outcome State :=
  qOp s (qinitCheck s a b) fun s => addDW s 1 (.qinit (rdG s a).toNat (rdG s b))

/-- R292, R99: the control word written as one whole sector with a new code; both claims end, and the word leaves the
claim list of its holders. -/
def writeQinit (s : State) (a : Nat) (b : Word) : State :=
  let u := s.ctx.gunit
  let s := mapCtx (noteQ s a) fun c => if c.live ∧ c.gunit = u then { c with claims := c.claims.filter (· != a) } else c
  putCells s (runCells a (leBytes 32 (qinitWord b).toNat))

end Sys2Proof.Machine
end

