-- ==== Sys2Proof/Machine/Lanes.lean ====
section
/-! DEFINITION. The ring lanes of the Upper (R109, R110, R293, R294): LNPUT and LNTAP at issue, the rows on the lanes, and
what a lane command does in a task cycle. -/

namespace Sys2Proof.Machine

/-- R110: RING_TIMING: the lane (0 to 7 clockwise, 8 to 15 anticlockwise), the station and the cycle. -/
def ringTiming (aw : Bool) (lane station t : Nat) (pc : Word) : Trap :=
  ⟨0x17, BitVec.ofNat 64 (lane + if aw then 8 else 0), BitVec.ofNat 64 station, BitVec.ofNat 64 t, pc⟩

/-- R293: BASE, ROWS and H of a tile word. -/
def laneFields (a : Word) : Nat × Nat × Nat := (a.toNat / 2 ^ 40, a.toNat / 2 ^ 24 % 2 ^ 16, a.toNat / 2 ^ 18 % 64)

/-- R293, R294: the issue checks of a lane command: codes, fields, the grant, and a start that is not in the future. -/
def laneCheck (s : State) (put aw : Bool) (a b : Fin 32) (l : Fin 8) : Option Trap :=
  let c := s.ctx
  let (base, rows, h) := laneFields (rdG s a)
  let t := (rdG s b).toNat % 2 ^ 48
  match badReg s 4 [a, b] with
  | some x => some x
  | none =>
    if (rdG s a).toNat % 2 ^ 18 ≠ 0 ∨ base % 128 ≠ 0 ∨ rows = 0 ∨ (put ∧ h = 0) ∨ (!put ∧ h ≠ 0) then some (limitTrap s 15)
    else if !(c.inGrant base (128 * rows)) then some (fatalTrap s none none)
    else if t < c.now + 1 then some (ringTiming aw l.val c.unit t c.iss.pc)
    else none

/-- R294: LNPUT and LNTAP at issue; a fifth command of the station holds the ring. -/
def laneOp (s : State) (put aw : Bool) (a b : Fin 32) (l : Fin 8) : Outcome State :=
  if acts s ∧ laneCheck s put aw a b l = none ∧ (s.lanes.filter fun x => x.station == s.ctx.unit).length ≥ 4 then
    .next (holdBundle s 2)
  else
    qOp s (laneCheck s put aw a b l) fun s =>
      let c := s.ctx
      let (base, rows, h) := laneFields (rdG s a)
      { s with lanes := s.lanes ++
          [⟨put, aw, l.val, c.unit, base, rows, h, (rdG s b).toNat % 2 ^ 48, c.iss.pos, c.iss.pc, c.now, [], 0⟩] }

/-- R293: LNPUT.cw. -/
def execLnputCw (a b : Fin 32) (l : Fin 8) (s : State) : Outcome State := laneOp s true false a b l

/-- R293: LNPUT.aw. -/
def execLnputAw (a b : Fin 32) (l : Fin 8) (s : State) : Outcome State := laneOp s true true a b l

/-- R293: LNTAP.cw. -/
def execLntapCw (a b : Fin 32) (l : Fin 8) (s : State) : Outcome State := laneOp s false false a b l

/-- R293: LNTAP.aw. -/
def execLntapAw (a b : Fin 32) (l : Fin 8) (s : State) : Outcome State := laneOp s false true a b l

/-! ## Rows on the lanes -/

/-- R109: the station h hops on. -/
def hopTo (aw : Bool) (station h : Nat) : Nat := if aw then (station + 64 * h - h) % 64 else (station + h) % 64

/-- R109: the row is present at a station in a cycle. -/
def LaneRow.presentAt (r : LaneRow) (station t : Nat) : Bool :=
  r.t < t && t - r.t ≤ r.left && hopTo r.aw r.at_ (t - r.t) == station

/-- R109: the row occupies a station's outgoing hop in a cycle. -/
def LaneRow.occupies (r : LaneRow) (station t : Nat) : Bool :=
  r.t ≤ t && t - r.t < r.left && hopTo r.aw r.at_ (t - r.t) == station

/-- R110: RING_TIMING detected in cycle t: every station takes it at its next boundary. -/
def ringRaise (s : State) (x : Trap) (t : Nat) : State :=
  mapCtx s fun c => if c.live ∧ c.upper then { c with cands := c.cands ++ [(t + 1, 4, x, 0)] } else c

/-- R109, R294: the row of a lane command that falls in cycle t. -/
def LaneCmd.at (l : LaneCmd) (t : Nat) : Option Nat := if l.t ≤ t ∧ t - l.t < l.rows then some (t - l.t) else none

/-- R294: the row of a tap that is written in cycle t: the first that it has captured before and not written. -/
def LaneCmd.writeAt (l : LaneCmd) (t : Nat) : Option Nat :=
  if !l.put ∧ l.t < t ∧ l.wrote < l.got.length then some l.wrote else none

/-- R109: the row a lane command meets at its station in a cycle. -/
def LaneCmd.rowAt (l : LaneCmd) (rs : List LaneRow) (t : Nat) : Option LaneRow :=
  rs.find? fun r => r.aw == l.aw && r.lane == l.lane && r.presentAt l.station t

/-- R294: the bytes that a lane command touches in a cycle: whether it writes, address and length. -/
def LaneCmd.touches (l : LaneCmd) (t : Nat) : List (Bool × Nat × Nat) :=
  if l.put then ((l.at t).map fun i => (false, l.base + 128 * i, 128)).toList
  else ((l.writeAt t).map fun i => (true, l.base + 128 * i, 128)).toList

/-- R109, R110, R294: a put places its row, with its four sector codes, on the lane. -/
def lanePut (s : State) (l : LaneCmd) (t i : Nat) : State :=
  if s.rows.any fun r => r.aw == l.aw && r.lane == l.lane && r.occupies l.station t then
    ringRaise s (ringTiming l.aw l.lane l.station t l.pc) t
  else
    let a := l.base + 128 * i
    { s with rows := s.rows ++ [⟨l.aw, l.lane, l.station, t, l.hops, spadRead s a 128,
        (List.range 4).map fun k => spadSyn s (a + 32 * k)⟩] }

/-- R89, R109: a sector of a captured row fails its code: CHECK_MISMATCH. No rule gives its TINFO0, since the row lies on a
lane: the sector of the tap's own tile is named (DESIGN CHOICE, log 103). -/
def rowTrap (s : State) (l : LaneCmd) (i : Nat) (r : LaneRow) : Option Trap :=
  ((List.range 4).find? fun k => (r.syn.getD k 0) != 0).map fun k =>
    let comp := crc16 ((r.data.drop (32 * k)).take 32)
    ⟨0x16, BitVec.ofNat 64 (l.base + 128 * i + 32 * k),
      BitVec.ofNat 64 (comp.toNat * 2 ^ 16 + (comp ^^^ r.syn.getD k 0).toNat), requester s.ctx 4 l.pos 5, l.pc⟩

/-- R109, R110, R294: the row that a tap meets in cycle t is captured; without one, or with one that fails its code, there
is nothing to write. -/
def laneTap (s : State) (l : LaneCmd) (t i : Nat) : State :=
  let keep := fun (s : State) (d : Option (List Byte)) =>
    { s with lanes := s.lanes.map fun x =>
      if x.put == l.put && x.station == l.station && x.issue == l.issue && x.pos == l.pos then { x with got := x.got ++ [d] }
      else x }
  match l.rowAt s.rows t with
  | none => keep (ringRaise s (ringTiming l.aw l.lane l.station t l.pc) t) none
  | some r =>
    match rowTrap s l i r with
    | some x => keep (s.up fun c => { c with cands := c.cands ++ [(t + 1, 4, x, 0)] }) none
    | none => keep s (some r.data)

/-- R90, R294: a tap writes a row that it has captured. A sector of which an install takes only a part (R308) merges: when
its old code fails it keeps its bytes, and CHECK_MISMATCH is raised. -/
def laneWrite (s : State) (l : LaneCmd) (t i : Nat) : State :=
  let s := { s with lanes := s.lanes.map fun x => if x == l then { l with wrote := i + 1 } else x }
  match (l.got.getD i none) with
  | some d =>
    let cells := keepCells s l.issue (runCells (l.base + 128 * i) d)
    match badMerge s cells with
    | none => putCells s cells
    | some k =>
      let bad := fun k : Nat => !(coversSector cells k) && spadSyn s (32 * k) != 0
      (putCells s (cells.filter fun x => !(bad (x.1 / 32)))).up fun c =>
        { c with cands := c.cands ++ [(t + 1, 4, sectorTrap s (32 * k) (requester c 4 l.pos 5) l.pc, 0)] }
  | none => s

/-- R109, R294: rows past their last station leave the lanes, and commands that have finished leave their station. -/
def laneSweep (s : State) (t : Nat) : State :=
  { s with
    rows := s.rows.filter fun r => t ≤ r.t + r.left + 1
    lanes := s.lanes.filter fun l => !(l.station == s.ctx.unit && s.ctx.upper) ||
      (if l.put then t + 1 < l.t + l.rows else l.wrote < l.rows) }

end Sys2Proof.Machine
end

