-- ==== Sys2Proof/Machine/Engine.lean ====
section
/-! DEFINITION. A task cycle of a context's M slot, engines and Q syllables (R83, R84, R177, R217, R249, R266, R289): the
requesters and their banks, the writes, the reads, and the starts and ends of commands (R340, R344 to R346). -/

namespace Sys2Proof.Machine

/-! ## Requesters and banks (R83, R84, R86) -/

/-- R84: a requester of a task cycle: its slot (R86), syllable and operand, the bytes it touches, and whose it is. -/
structure Req where
  slot : Nat
  pos : Nat
  opnd : Nat
  rs : List (Nat × Nat)
  deriving DecidableEq, Repr

/-- R83: the sectors of a requester. -/
def Req.sectors (r : Req) : List Nat := dedup (r.rs.flatMap fun x => sectorsOf x.1 x.2)

/-- R84: the first bank a requester meets, and who holds it: an earlier requester, or itself. -/
def Req.meet (u : Bool) (held : List (Nat × Req)) (r : Req) : Option (Nat × Req) :=
  let bs := r.sectors.map fun k => bankOf u (32 * k)
  (List.range bs.length).findSome? fun i =>
    let b := bs.getD i 0
    match held.find? fun h => h.1 == b with
    | some h => some h
    | none => if (bs.take i).contains b then some (b, r) else none

/-- R84: the requesters in order, each with the bank it meets. -/
def arbitrate (u : Bool) : List (Nat × Req) → List Req → List (Option (Nat × Req))
  | _, [] => []
  | held, r :: rs =>
    let m := r.meet u held
    let new := (dedup (r.sectors.map fun k => bankOf u (32 * k))).filter fun b => !(held.any fun h => h.1 == b)
    m :: arbitrate u (held ++ new.map fun b => (b, r)) rs

/-- R86: BANK_CONFLICT of a requester. -/
def bankTrap (c : Ctx) (r : Req) (m : Nat × Req) (pc : Word) : Trap :=
  ⟨0x07, BitVec.ofNat 64 m.1, requester c m.2.slot m.2.pos m.2.opnd, requester c r.slot r.pos r.opnd, pc⟩

/-! ## The work of a task cycle -/

/-- What falls in a task cycle: a write of a unit, a read of a command at an offset, a Q access, a lane access. -/
inductive Work where
  | write (w : UWrite)
  | vread (id unit : Nat) (lane : Option Nat)
  | gather (id : Nat)
  | xread (id : Nat)
  | cread (id : Nat)
  | touch (t : Touch)
  | lane (l : LaneCmd) (wr : Bool)
  deriving DecidableEq, Repr

/-- A command of an engine. -/
def findCmd (c : Ctx) (e : Fin 3) (id : Nat) : Option Cmd := (c.queue e).find? fun x => x.id == id

/-- R217: the elements that a write covers, as byte ranges. -/
def elemRanges (h : Shape) (l : List (Nat × Nat × Nat)) : List (Nat × Nat) :=
  l.map fun (r, c, _) => ((h.elemAt r c).1, max 1 (fmtBits h.f / 8))

/-- R235: the carry that a chunk of VSCAN reads at its write. -/
def carryRange (c : Cmd) (row lo : Nat) : List (Nat × Nat) := if lo = 0 then [] else spanRanges (c.sh 0) row (lo - 1) lo

/-- R217: the scratchpad bytes that a unit reads with its write. -/
def writeReads (c : Cmd) (w : UWrite) : List (Nat × Nat) :=
  match w.act with
  | .scan row lo _ => carryRange c row lo
  | _ => []

/-- R83, R216: the scratchpad bytes of a unit's write; VSCAN writes no position that it skips. -/
def writeRanges (s : State) (c : Cmd) (w : UWrite) : List (Nat × Nat) :=
  match w.act with
  | .elems h l => elemRanges h l
  | .tiles ts => ts.flatMap fun x => elemRanges x.1 x.2
  | .scan row lo xs => elemRanges (c.sh 0) (((List.range xs.length).zip xs).filterMap fun (k, x) =>
      if x = 0 then none else some (row, lo + k, 0))
  | .push es =>
    let q := readQ s c.ga.toNat
    (c.ga.toNat, 32) :: (List.range es.length).map fun i => (q.slot (q.tail + i), 2 ^ q.esize)
  | .head _ => [(c.ga.toNat, 32)]
  | _ => []

/-- Which writes are made in the task cycle itself; the others are made at its boundary. -/
def UAct.inCycle : UAct → Bool
  | .gb .. | .group _ => false
  | _ => true

/-- R218: the writes due in a cycle, then the reads, of one command of an engine. -/
def cmdWork (s : State) (e : Fin 3) (c : Cmd) (t : Nat) : List Work :=
  let ws := (s.ctx.uws.filter fun w => w.eng == e && w.cmd == c.id && w.due == t && w.act.inCycle).map Work.write
  if c.state ≠ .running ∨ t < c.base then ws
  else
    let off := t - c.base
    let rs : List Work :=
      match e with
      | 0 => (if (gatherAccess c).isEmpty then [] else [.gather c.id]) ++
          (if c.freed then [] else (vUnits c off).map fun x => .vread c.id x.1 x.2)
      | 1 => if !c.freed then [.xread c.id] else []
      | 2 => if !c.freed then [.cread c.id] else []
    ws ++ rs

/-- R86, R250: the requesters of a piece of work. -/
def workReqs (s : State) (t : Nat) (w : Work) : List Req :=
  let of := fun (e : Fin 3) (c : Cmd) (as : List Access) => as.map fun a => Req.mk (slotOf e) c.pos a.opnd a.rs
  let byOpnd := fun as : List Access => sortBy (fun a b => a.opnd ≤ b.opnd) as
  match w with
  | .write w =>
    match findCmd s.ctx w.eng w.cmd with
    | some c => [⟨slotOf w.eng, c.pos, w.opnd, keptRanges s c.issue (writeRanges s c w) ++ writeReads c w⟩]
    | none => []
  | .vread id i lane => ((findCmd s.ctx 0 id).map fun c => of 0 c (byOpnd (vAccess s c i lane))).getD []
  | .gather id => ((findCmd s.ctx 0 id).map fun c => of 0 c (gatherAccess c)).getD []
  | .xread id => ((findCmd s.ctx 1 id).map fun c => of 1 c (byOpnd (xAccess s c (t - c.base)))).getD []
  | .cread id => ((findCmd s.ctx 2 id).map fun c => of 2 c (byOpnd (cAccess s c (t - c.base)))).getD []
  | .touch x => [⟨x.slot, x.pos, x.opnd, [(x.addr, x.len)]⟩]
  | .lane l wr =>
    let rs := (l.touches t).filterMap fun x => if x.1 = wr then some x.2 else none
    [⟨4, l.pos, 5, if wr then keptRanges s l.issue rs else rs⟩]

/-- R191, R456: the loads that read in a task cycle. -/
def loadsAt (c : Ctx) (t : Nat) : List Latch := c.latches.filter fun l => l.ld.isSome && l.due == t + 2

/-- R84: the M slot's accesses of a task cycle. -/
def mTouches (c : Ctx) (t : Nat) : List Touch :=
  (c.touch.filter (·.slot == 5)) ++
    (loadsAt c t).map fun l => ⟨5, l.pos, l.pc, 5, (l.ld.map (·.addr)).getD 0, (l.ld.map (·.size)).getD 1, none⟩

/-- R84, R289: everything that falls in a task cycle, in the order of the requesters. -/
def cycleWork (s : State) (t : Nat) : List Work :=
  let c := s.ctx
  let eng := fun e : Fin 3 => (c.queue e).flatMap fun k => cmdWork s e k t
  (mTouches c t).map Work.touch ++ eng 0 ++ eng 1 ++ eng 2 ++ (c.touch.filter (·.slot != 5)).map Work.touch ++
    if c.upper then (s.lanes.filter fun l => l.station == c.unit).flatMap fun l =>
      (if (l.writeAt t).isSome then [Work.lane l true] else []) ++ (if (l.at t).isSome then [Work.lane l false] else [])
    else []

/-! ## Traps of units (R35, R37, R340, R368) -/

/-- R37: a cause comes before another of its unit; of two escapes the one that names the lower byte (R360). -/
def causeLt (x y : Nat × Trap × Nat) : Bool :=
  x.1 < y.1 || (x.1 == y.1 && x.2.1.cause == 0x0D && y.2.1.cause == 0x0D && x.2.1.i0 < y.2.1.i0)

/-- R37: the cause that comes first among those of a unit. -/
def firstCause (l : List (Nat × Trap × Nat)) : Option (Nat × Trap × Nat) :=
  l.foldl (fun m x => match m with | none => some x | some y => if causeLt x y then some x else some y) none

/-- R252, R340: the unit at which a command that has begun stops at t when one before it on its engine traps. A command
that writes the accumulators goes back to its first uncommitted unit, so that writes keep the issue order, and a chunk of
which only some lanes are read is read again (DEDUCED, log 107). -/
def pausePoint (c : Ctx) (k : Cmd) (t : Nat) : Nat :=
  match k.op with
  | .mma _ | .mmas _ => 0
  | .accz | .accx | .accld => (c.uws.filter fun w => w.cmd == k.id).foldl (fun m w => min m w.unit) k.rp
  | op =>
    let off := t - k.base
    if op.quad ∧ (off % 4 ≠ 0 ∨ (op = .gath ∧ !k.buf.isEmpty)) then min k.rp ((off - 1) / 4) else k.rp

/-- R35, R252, R340, R368: the commands of an engine that stop when a unit of one of them traps at t: that one at its unit,
and those behind it that have begun and have units left to read. -/
def stopUnits (c : Ctx) (e : Fin 3) (id unit t : Nat) : List (Nat × Nat) :=
  (id, unit) :: (((((c.queue e).dropWhile fun k => k.id != id).drop 1).filter fun k => k.state == .running).map
    fun k => (k, pausePoint c k t)).filterMap fun (k, u) => if u < k.units then some (k.id, u) else none

/-- R340, R368: a command that stops at unit u: trapped, or queued to start again behind the trapped one. -/
def Cmd.stopAt (k : Cmd) (e : Fin 3) (trapped : Bool) (u : Nat) : Cmd :=
  { k with
    state := if trapped then .trapped else .queued
    rp := u
    left := if k.freed && e == 2 then (match k.op with | .coll _ => k.left | _ => k.left + 1) else k.left
    freed := false
    note := none
    paid := k.paid.filter fun x => x.1 < u
    buf := if e = 2 ∨ (!trapped ∧ k.rp ≤ u) then k.buf else [] }

/-- R35, R368: a unit of a command traps: the command stops at it, what later units had done is undone, their charges taken
back, and the cause waits for the boundary at `at_`. -/
def unitFail (s : State) (e : Fin 3) (id unit at_ : Nat) (t : Trap) (fl : Nat) : State :=
  let stops := stopUnits s.ctx e id unit at_
  let stop := fun n : Nat => (stops.find? fun x => x.1 == n).map (·.2)
  let back := (s.ctx.queue e).flatMap fun k => match stop k.id with
    | some u => k.paid.filter fun x => u ≤ x.1
    | none => []
  let sum := fun l : List (Nat × Nat × Nat) => (l.map fun x => x.2.1).foldl (· + ·) 0
  let s := if back.isEmpty then s else refund s (sum back) (sum (back.filter fun x => x.2.2 == s.tick / 100))
  s.up fun c =>
    { c.setQueue e ((c.queue e).map fun k =>
        match stop k.id with
        | some u => k.stopAt e (k.id == id) u
        | none => k) with
      uws := c.uws.filter fun w => !((stop w.cmd).any fun u => u ≤ w.unit)
      cands := c.cands ++ [(at_, slotOf e, t, fl)] }

/-- R91, R92: the first bad sector of an access. -/
def badSector (s : State) (rs : List (Nat × Nat)) : Option Nat :=
  (rs.flatMap fun x => sectorsOf x.1 x.2).find? fun k => spadSyn s (32 * k) != 0

/-- R356, R360: the lowest byte of some accesses that the declarations of an engine do not allow, and its requester;
`free` are bytes that are exempt. -/
def escapes (s : State) (e : Fin 3) (wr : Bool) (free : Nat → Bool) (rs : List Req) : Option (Nat × Req) :=
  if !s.ctx.hdr.det then none
  else
    (rs.filterMap fun r => (declEscape s.ctx e.val wr ((r.rs.flatMap fun x => byteRange x.1 x.2).filter fun a => !(free a))).map
      fun b => (b, r)).foldl (fun (m : Option (Nat × Req)) x => match m with
        | none => some x
        | some y => if x.1 < y.1 then some x else some y) none

/-- R84, R91, R356: the causes of a unit's accesses, each with the bank it meets. -/
def accessCauses (s : State) (e : Fin 3) (c : Cmd) (chk wr : Bool) (free : Nat → Bool) (l : List (Req × Option (Nat × Req))) :
    List (Nat × Trap × Nat) :=
  let bank := l.findSome? fun (r, m) => m.map fun m => (2, bankTrap s.ctx r m c.pc, 0)
  let code := if chk then l.findSome? fun (r, m) =>
      if m.isSome then none
      else (badSector s r.rs).map fun k => (1, sectorTrap s (32 * k) (c.requester s.ctx r.opnd) c.pc, 0)
    else none
  let decl := (escapes s e wr free (l.map (·.1))).map fun (b, r) =>
    (6, unitTrap s c 0x0D (some (BitVec.ofNat 64 b)) (some (c.requester s.ctx r.opnd)) (some (BitVec.ofNat 64 (b2n wr))), 0)
  bank.toList ++ code.toList ++ decl.toList

/-! ## Writes (R90, R98, R217, R237, R238, R258) -/

/-- R90, R308: single bytes written by a unit, or the mismatch that withholds them. -/
def unitCells (s : State) (c : Cmd) (opnd : Nat) (cells : List (Nat × Byte)) : List (Nat × Trap × Nat) × (State → State) :=
  let cells := keepCells s c.issue cells
  match badMerge s cells with
  | some k => ([(1, sectorTrap s (32 * k) (c.requester s.ctx opnd) c.pc, 0)], id)
  | none => ([], fun s => putCells s cells)

/-- R98: a push that does not fit. -/
def pushFull (s : State) (c : Cmd) (n : Nat) : Bool :=
  let q := readQ s c.ga.toNat
  q.count + n > q.depth

/-- R226: the bytes of elements of several tiles, those of the last tile that names a byte first. -/
def tileCells (s : State) (ts : List (Shape × List (Nat × Nat × Nat))) : List (Nat × Byte) :=
  ts.reverse.flatMap fun x => elemCells s x.1 x.2

/-- R236: a write of a queue control word; the other context of the unit reads, in this real cycle, what stood before. -/
def noted (c : Cmd) (x : List (Nat × Trap × Nat) × (State → State)) :
    List (Nat × Trap × Nat) × (State → State) :=
  (x.1, fun r => x.2 (noteQ r (c.ga.toNat)))

/-- What a unit's write comes to: causes, and its effect. -/
def writeEffect (s : State) (c : Cmd) (w : UWrite) : List (Nat × Trap × Nat) × (State → State) :=
  match w.act with
  | .elems h l => unitCells s c w.opnd (elemCells s h l)
  | .tiles ts => unitCells s c w.opnd (tileCells s ts)
  | .scan row lo xs =>
    let r := scanSums s c row lo xs
    let carry := (badSector s (carryRange c row lo)).map fun k => (1, sectorTrap s (32 * k) (c.requester s.ctx 0) c.pc, 0)
    let (cs, f) := unitCells s c 0 (elemCells s (c.sh 0) r.out)
    (carry.toList ++ cs ++ (r.hits.head?.map fun h => fpHit s c { h with fl := r.fl }).toList, f)
  | .push es =>
    let q := readQ s c.ga.toNat
    if pushFull s c es.length then
      ([(3, unitTrap s c 0x0B (some c.ga) (some 9) none, 0)], id)
    else
      let els := (List.range es.length).flatMap fun i => runCells (q.slot (q.tail + i)) (leBytes (2 ^ q.esize) (es.getD i 0))
      noted c (unitCells s c 4 (els.reverse ++ runCells (c.ga.toNat + 12) (leBytes 4 (q.tail + es.length))))
  | .head n =>
    let q := readQ s c.ga.toNat
    noted c (unitCells s c 4 (runCells (c.ga.toNat + 8) (leBytes 4 (q.head + n))))
  | .cells t row col vs => ([], fun s => accPut s t row col vs)
  | .accRow t row vs codes => ([], fun s => putTileRow s t row vs codes)
  | .heel row vs codes => ([], fun s => putImageRow s c.ga.toNat row vs codes)
  | _ => ([], id)

/-- R356: no byte is exempt. -/
def noByte (_ : Nat) : Bool := false

/-- R217, R356, R360: the bytes that a unit reads with its write are judged as a read. -/
def carryEscape (s : State) (c : Cmd) (w : UWrite) : List (Nat × Trap × Nat) :=
  ((escapes s w.eng false noByte [⟨slotOf w.eng, c.pos, w.opnd, writeReads c w⟩]).map fun (b, r) =>
    (6, unitTrap s c 0x0D (some (BitVec.ofNat 64 b)) (some (c.requester s.ctx r.opnd)) (some 0), 0)).toList

/-- R37, R84: what withholds a unit's write; one that meets a bank makes no access, and nothing else of it is judged. -/
def writeStop (s : State) (c : Cmd) (w : UWrite) (l : List (Req × Option (Nat × Req))) : Option (Nat × Trap × Nat) :=
  if l.any fun x => x.2.isSome then firstCause (accessCauses s w.eng c false true (fun _ => true) l)
  else firstCause (accessCauses s w.eng c false true (inRanges (writeReads c w)) l ++ carryEscape s c w ++ (writeEffect s c w).1)

/-- R64: the flags that the commit of a unit's tile or accumulator write brings; those of a chunk of VSCAN are of its sums
(R235). -/
def writeFlags (s : State) (c : Cmd) (w : UWrite) : Nat :=
  match w.act with
  | .gb .. => 0
  | .scan row lo xs => (scanSums s c row lo xs).fl
  | _ => w.flags

/-- R64, R65: flags ORed into FLG. -/
def orFlags (s : State) (fl : Nat) : State := s.upR fun r => { r with flg := r.flg ||| BitVec.ofNat 6 fl }

/-- A unit's write made in its task cycle, when its command still stands: its bytes, its flags (R64) and its charge. -/
def doWrite (s : State) (t : Nat) (w : UWrite) (l : List (Req × Option (Nat × Req))) : State :=
  match findCmd s.ctx w.eng w.cmd with
  | none => s
  | some c =>
    if !(s.ctx.uws.contains w) then s
    else
      match writeStop s c w l with
      | some (_, x, fl) => unitFail s w.eng c.id w.unit (t + 1) x fl
      | none =>
        let fl := writeFlags s c w
        let s := (writeEffect s c w).2 (s.up fun x => { x with uws := x.uws.erase w })
        let s := if fl = 0 then s else orFlags s fl
        if w.charge = 0 then s else charge s w.charge

/-! ## Reads -/

/-- R35, R424: a unit has begun: what it keeps, what it leaves to be written, the charge of its reads, and the unit that
is read next. -/
def unitDone (s : State) (e : Fin 3) (c : Cmd) (p : Perf) (next : Nat) : State :=
  let s := s.up fun x => { updCmd x e c.id (fun k => { k with
      buf := p.buf, rp := max k.rp next, paid := if p.charge = 0 then k.paid else k.paid ++ [(p.unit, p.charge, s.tick / 100)] }) with
    uws := x.uws ++ p.uws }
  if p.charge = 0 then s else charge s p.charge

/-- R37, R251: the cause of a unit read over several task cycles, kept until its last read. -/
def noteCause (c : Cmd) (cs : List (Nat × Trap × Nat)) : Option (Nat × Trap × Nat) := firstCause (c.note.toList ++ cs)

/-- R37, R251: one task cycle of a unit's reads: what it comes to is noted, and at its last read the unit is judged; `next`
is the first unit whose read has not begun. -/
def readStep (s : State) (e : Fin 3) (c : Cmd) (t : Nat) (last : Bool) (cs : List (Nat × Trap × Nat)) (p : Perf) (next : Nat) :
    State :=
  let n := noteCause c cs
  if last then
    match n with
    | some (_, x, fl) => unitFail s e c.id p.unit (t + 1) x fl
    | none => unitDone s e c p next
  else (unitDone s e c p next).up fun x => updCmd x e c.id fun k => { k with note := n }

/-- A unit of V read in a task cycle; a chunk that is read a lane at a time is judged after its last lane (DEDUCED, log
104), one of VGATH after the data of its last lane. -/
def doVread (s : State) (t id i : Nat) (lane : Option Nat) (l : List (Req × Option (Nat × Req))) : State :=
  match findCmd s.ctx 0 id with
  | none => s
  | some c =>
    if c.state ≠ .running then s
    else
      let p := vPerform s c i lane
      let cs := accessCauses s 0 c true false noByte l ++ p.causes
      match c.op with
      | .gath => readStep s 0 c t false cs { p with buf := c.buf ++ p.buf } (i + 1)
      | .pop => (readStep s 0 c t true cs p c.units).up fun x => updCmd x 0 id fun k =>
          if k.state = .running then { k with reqs := popCount s c + 1 } else k
      | _ => readStep s 0 c t (lane.getD 3 == 3) cs p (i + 1)

/-- R230: the data lane of VGATH whose indices were read the cycle before; a chunk's last lane completes it. -/
def doGather (s : State) (t id : Nat) (l : List (Req × Option (Nat × Req))) : State :=
  match findCmd s.ctx 0 id with
  | none => s
  | some c =>
    match (if c.state = .running then c.pendingLane else none) with
    | none => s
    | some ix =>
      let p := gatherData s c ix
      let cs := accessCauses s 0 c true false noByte l ++ p.causes
      let r := readStep s 0 c t (ix.getD 1 0 == 3) cs p (p.unit + 1)
      if ix.getD 1 0 = 3 then r.up fun x => updCmd x 0 id fun k => { k with note := none } else r

/-- A task cycle of an X command. -/
def doXread (s : State) (t id : Nat) (l : List (Req × Option (Nat × Req))) : State :=
  match findCmd s.ctx 1 id with
  | none => s
  | some c =>
    let off := t - c.base
    match (if c.state = .running then xPerform s c off else none) with
    | none => s
    | some p =>
      let cs := accessCauses s 1 c true false noByte l ++ p.causes
      match c.op with
      | .mma _ | .mmas _ => readStep s 1 c t (off % c.gLen s.ctx.upper + 1 == c.gWin s.ctx.upper) cs p (p.unit + 1)
      | _ => readStep s 1 c t true cs p (p.unit + 1)

/-- R362: the profiling bytes that a CPS into a global profiling range may read. -/
def profFree (c : Ctx) (k : Cmd) (a : Nat) : Bool := profCopy c k && inRanges c.hdr.profs a

/-- A task cycle of a C command. -/
def doCread (s : State) (t id : Nat) (l : List (Req × Option (Nat × Req))) : State :=
  match findCmd s.ctx 2 id with
  | none => s
  | some c =>
    match (if c.state = .running then cPerform s c (t - c.base) else none) with
    | none => s
    | some p =>
      match firstCause (accessCauses s 2 c c.op.consumes false (profFree s.ctx c) l ++ p.perf.causes) with
      | some (_, x, fl) => unitFail s 2 id p.perf.unit (t + 1) x fl
      | none => p.eff (unitDone s 2 c p.perf (p.perf.unit + 1))

/-- R84, R456: QINIT's write undone, which a unit that its boundary did not see keeps from its bank. -/
def undoQinit (s : State) (a : Nat) (bs : List Byte) (syn : BitVec 16) (cids : List Nat) : State :=
  let k := spadKey s.ctx.gunit a
  mapCtx { s with mem := memPut s.mem k bs, synd := synSet s.synd (k / 32) syn } fun c =>
    if c.live ∧ cids.contains c.cid then { c with claims := c.claims ++ [a] } else c

/-- R289: an access of a Q syllable: DECL's read of its record. One that meets a bank, or a record that fails its codes, has
no effect and raises its cause at the next boundary. QINIT's write has been made at the boundary before (R456), against the
units that stood there; one that meets a unit of the bundle issued since is undone (DEDUCED, log 130). -/
def doTouch (s : State) (t : Nat) (x : Touch) (l : List (Req × Option (Nat × Req))) : State :=
  if x.slot = 5 then s
  else
    let raise := fun (s : State) (y : Trap) => s.up fun c => { c with cands := c.cands ++ [(t + 1, 4, y, 0)] }
    let drop := fun s : State => s.up fun c => { c with dws := c.dws.filter fun w =>
      !(match w.act with | .dset .. => w.issue == t && w.pos == x.pos | _ => false) }
    match x.undo, l.findSome? fun (r, m) => m.map fun m => bankTrap s.ctx r m x.pc with
    | some _, none => s
    | some (bs, syn, cids), some y => raise (undoQinit s x.addr bs syn cids) y
    | none, some y => raise (drop s) y
    | none, none =>
      match badSector s [(x.addr, x.len)] with
      | some k => raise (drop s) (sectorTrap s (32 * k) (requester s.ctx 4 x.pos 5) x.pc)
      | none => s

/-- R294: a lane access of a task cycle. A row whose scratchpad access traps is its command's restart point (R356): a put's
row, with those after it, goes on the lane after the resumption, and a tap's row, which is captured, is written then
(DEDUCED, log 108). -/
def doLane (s : State) (t : Nat) (c : LaneCmd) (wr : Bool) (l : List (Req × Option (Nat × Req))) : State :=
  let raise := fun y : Trap =>
    { s.up (fun x => { x with cands := x.cands ++ [(t + 1, 4, y, 0)] }) with
      lanes := if c.put then s.lanes.map fun x => if x == c then { c with t := c.t + 1 } else x else s.lanes }
  match l.findSome? fun (r, m) => m.map fun m => bankTrap s.ctx r m c.pc with
  | some y => raise y
  | none =>
    match escapes s 2 wr noByte (l.map (·.1)) with
    | some (b, _) => raise ⟨0x0D, BitVec.ofNat 64 b, requester s.ctx 4 c.pos 5, BitVec.ofNat 64 (b2n wr), c.pc⟩
    | none =>
      if wr then (match c.writeAt t with | some i => laneWrite s c t i | none => s)
      else
        match c.at t with
        | some i => if c.put then lanePut s c t i else laneTap s c t i
        | none => s

/-- R191: a load reads its sector, checks it, and forms the code of its value. -/
def readLoad (s : State) (l : Latch) : Latch :=
  match l.ld with
  | none => l
  | some d =>
    let v := leNat (spadRead s d.addr d.size)
    let x : Word := if d.signed then (match d.size with
        | 1 => (BitVec.ofNat 8 v).signExtend 64
        | 2 => (BitVec.ofNat 16 v).signExtend 64
        | 4 => (BitVec.ofNat 32 v).signExtend 64
        | _ => BitVec.ofNat 64 v)
      else BitVec.ofNat 64 v
    { l with
      val := x, ld := none
      bad := if spadSyn s d.addr ≠ 0 then l.bad.or (some (sectorTrap s d.addr (requester s.ctx 5 l.pos 5) l.pc)) else l.bad }

/-- R177, R456: the loads of a task cycle read after its writes. -/
def doLoads (s : State) (t : Nat) : State :=
  s.up fun c => { c with latches := c.latches.map fun l => if l.ld.isSome && l.due == t + 2 then readLoad s l else l }

/-! ## The cycle -/

/-- R98, R268: the stall that keeps the task cycle from being made: 0 a full queue, or that of a C command. -/
def cycleStall (s : State) (t : Nat) : Option Nat :=
  let push := s.ctx.uws.any fun w =>
    match w.act with
    | .push es => w.due == t && (match findCmd s.ctx 0 w.cmd with
        | some c => pushFull s c es.length && (readQ s c.ga.toNat).cctx != s.ctx.ctxno
        | none => false)
    | _ => false
  if push then some 0
  else s.ctx.cq.findSome? fun c =>
    if c.state = .running ∧ !c.freed ∧ c.base ≤ t then cStall s c (t - c.base) else none

/-- R445: a request goes to an HBM frame under test, for its source or its target, or to another package while a Lace lane is
under test: which circuit it takes no rule states (DEDUCED, log 143). -/
def frameFenced (s : State) (p : Piece) : Bool :=
  let global := match p.kind with | .deliver => p.second.isSome | _ => true
  let (h, k) := p.second.getD (p.home, p.key)
  s.cob.tests.any fun x => (x.ukind == 4 && global && x.idx == (forwarded s h k).2 / 65536) ||
    (x.ukind == 3 && h != ownHome s && !(farHome h))

/-- R445: a granule is to land in a bank under test. -/
def landingFenced (s : State) (p : Piece) : Bool :=
  s.cob.tests.any fun x => x.ukind == 0 && x.unit == p.dstUnit &&
    (sectorsOf p.dst p.len).any fun k => x.idx == bankOf (192 ≤ p.dstUnit) (32 * k)

/-- The accumulators are read or written by a piece of work. -/
def Work.reachesAcc : Work → Bool
  | .xread _ => true
  | .write w => w.eng == 1
  | _ => false

/-- R445: whether a task cycle reaches a unit under test: a bank, by a requester, a load, or a store or a QINIT that is made at
the boundary after it; the M-slot lane, by a load or a store; the accumulators, by the X engine; an HBM frame or a Lace lane,
by a request that waits there. -/
def fenced (s : State) (t : Nat) : Bool :=
  let c := s.ctx
  let own := s.cob.tests.filter fun x => x.unit == c.gunit && x.ukind ≤ 2
  let lds := c.latches.filter fun l => l.ld.isSome && l.due == t + 2
  let loads := lds.filterMap fun l => l.ld.map fun d => ⟨4, l.pos, 5, [(d.addr, d.size)]⟩
  let sts : List (Bool × Nat × Nat) := c.dws.filterMap fun w => match w.act with
    | .store a n _ => if w.due = t + 1 then some (true, a, n) else none
    | .qinit a _ => if w.due = t + 1 then some (false, a, 32) else none
    | _ => none
  let stores := sts.map fun x => ⟨5, 0, 5, [x.2]⟩
  let work := if c.status = .handler then [] else cycleWork s t
  (!own.isEmpty && ((work.flatMap (workReqs s t) ++ loads ++ stores).any fun r => r.sectors.any fun k => own.any fun x =>
      x.ukind == 0 && x.idx == bankOf c.upper (32 * k))) ||
    ((!lds.isEmpty || sts.any (·.1)) && own.any fun x => x.ukind == 1) ||
    ((work.any (·.reachesAcc)) && own.any fun x => x.ukind == 2) ||
    s.net.pieces.any fun p => p.src == c.src && p.state == .flight && frameFenced s p

/-- One piece of work performed, with the banks that its requesters meet. -/
def doWork (s : State) (t : Nat) (w : Work) (l : List (Req × Option (Nat × Req))) : State :=
  match w with
  | .write w => doWrite s t w l
  | .vread id i lane => doVread s t id i lane l
  | .gather id => doGather s t id l
  | .xread id => doXread s t id l
  | .cread id => doCread s t id l
  | .touch x => doTouch s t x l
  | .lane c wr => doLane s t c wr l

/-- Whether a piece of work is a write, which is made before every read of its task cycle (R177). -/
def Work.isWrite : Work → Bool
  | .write _ => true
  | .lane _ wr => wr
  | .touch x => x.undo.isSome
  | _ => false

/-- Each piece of work with its requesters and what they meet, from the judgement of all requesters in order. -/
def splitWork : List (Work × List Req) → List (Option (Nat × Req)) → List (Work × List (Req × Option (Nat × Req)))
  | [], _ => []
  | (w, rs) :: ws, ms => (w, rs.zip ms) :: splitWork ws (ms.drop rs.length)

/-- R84: the work of a task cycle, each piece with its requesters and the banks they meet. -/
def judged (s : State) (t : Nat) : List (Work × List (Req × Option (Nat × Req))) :=
  let ws := (cycleWork s t).map fun w => (w, workReqs s t w)
  splitWork ws (arbitrate s.ctx.upper [] (ws.flatMap (·.2)))

/-- R64, R424, R431: the unit writes that task cycle t makes, as its accesses stand now, each with its command. A write that
is withheld keeps the later ones of its command from being made. -/
def writesMade (s : State) (t : Nat) : List (Cmd × UWrite) :=
  if s.ctx.status = .handler ∨ !(s.ctx.uws.any fun w => w.due == t && w.act.inCycle) then []
  else
    ((judged s t).foldl (fun (a : List (Cmd × UWrite) × List UWrite) x =>
      match x.1 with
      | .write w =>
        match findCmd s.ctx w.eng w.cmd with
        | none => a
        | some c =>
          if a.2.any fun f => f.eng == w.eng && f.cmd == w.cmd && f.unit ≤ w.unit then a
          else if (writeStop s c w x.2).isNone then (a.1 ++ [(c, w)], a.2) else (a.1, a.2 ++ [w])
      | _ => a) ([], [])).1

/-- R64: the flags that the unit writes of task cycle t bring. -/
def flagsMade (s : State) (t : Nat) : Nat := (writesMade s t).foldl (fun (a : Nat) x => a ||| writeFlags s x.1 x.2) 0

/-- R424, R431: the charges of the unit writes of task cycle t. -/
def chargesMade (s : State) (t : Nat) : Nat := (writesMade s t).foldl (fun (a : Nat) x => a + x.2.charge) 0

/-- R84, R177: the writes and then the reads of a task cycle. -/
def doCycle (s : State) (t : Nat) : State :=
  let js := judged s t
  let go := fun s (x : Work × List (Req × Option (Nat × Req))) => doWork s t x.1 x.2
  let s := (js.filter fun x => x.1.isWrite).foldl go s
  let s := doLoads s t
  let s := (js.filter fun x => !x.1.isWrite).foldl go s
  laneSweep (s.up fun c => { c with touch := [] }) t

/-- R268, R445: the task cycle is not made yet: the context stands in stall k, or in the wait that it was in. -/
def standStill (s : State) (k : Nat) : State :=
  s.up fun c => { c with
    owed := true
    wait := match c.wait with | .none | .stall _ | .cycle => .stall k | w => w }

/-- R456, R98, R268, R445: the task cycle at TCLK, or the stall or the fence that holds it. -/
def engineCycle (s : State) : State :=
  let t := s.ctx.now
  if fenced s t then standStill s 5
  else if s.ctx.status = .handler then
    (doLoads s t).up fun c => { c with
      touch := []
      hclk := c.hclk + 1
      owed := false
      wait := match c.wait with | .stall _ | .cycle => .none | w => w }
  else
    match cycleStall s t with
    | some k => standStill s k
    | none =>
      (doCycle s t).up fun c => { c with
        tclk := c.tclk + 1
        owed := false
        wait := match c.wait with | .stall _ | .cycle => .none | w => w }

/-! ## Starts and ends of commands (R340, R344 to R346) -/

/-- R344, R275: occupancies that have ended by a task cycle free their entries; a WUNMAP releases its binding. -/
def freeEntries (s : State) (t : Nat) : State :=
  s.up fun c =>
    let done := fun k : Cmd => k.state == .running && !k.freed && k.base + k.occ c.upper ≤ t
    let fin := fun k : Cmd => if done k then
        { k with freed := true, left := (match k.op with | .coll _ => k.left | _ => k.left - 1) } else k
    let gone := (c.cq.filter fun k => done k && k.op == .wunmap).map fun k => Fin.ofNat 8 k.aux
    let busy := fun k : Cmd => !k.freed || (k.op.eng == 2 && k.left != 0) || (k.op == .gath && !k.buf.isEmpty) ||
      c.uws.any fun w => w.cmd == k.id
    { c with
      vq := (c.vq.map fin).filter busy
      xq := (c.xq.map fin).filter busy
      cq := (c.cq.map fin).filter busy
      wins := c.wins.filter fun w => !(gone.contains w.idx) }

/-- R340: the command of an engine that starts, or starts again, at a task cycle. -/
def starter (c : Ctx) (e : Fin 3) (t : Nat) : Option Cmd :=
  match (c.queue e).find? fun k => k.state == .trapped with
  | some k => some k
  | none =>
    match c.entries e with
    | k :: _ => if k.state = .queued ∧ k.nominal ≤ t then some k else none
    | [] => none

/-- R279, R340: where a command that stopped at unit rp starts again; an MCAST without its list reads it again. -/
def restartBase (c : Ctx) (k : Cmd) (t : Nat) : Nat :=
  match k.op with
  | .mcast => if k.buf.length < k.listLen then t else t - k.restartOff c.upper k.rp
  | _ => t - k.restartOff c.upper k.rp

/-- R345, R340: a command starts, or goes on from the unit at which it stopped, at a task cycle. -/
def startCmd (s : State) (e : Fin 3) (k : Cmd) (t : Nat) : State :=
  s.up fun c => updCmd c e k.id fun x =>
    { x with state := .running, base := if x.began.isSome then restartBase c k t else t, began := x.began.or (some t) }

/-- R345: the commands that start at a task cycle start. -/
def startAll (s : State) (t : Nat) : State :=
  ([0, 1, 2] : List (Fin 3)).foldl (fun s e => match starter s.ctx e t with | some k => startCmd s e k t | none => s) s

/-- R346: the engine, the command and the byte of a start at a task cycle that misses an operand; a start at its issue
was checked there. -/
def missedStart (s : State) (t : Nat) : Option (Fin 3 × Cmd × Nat) :=
  ([0, 1, 2] : List (Fin 3)).findSome? fun e =>
    match starter s.ctx e t with
    | some k => if k.issue = t ∧ k.state = .queued then none else (missed s k).map fun a => (e, k, a)
    | none => none

/-- R346, R347: TIMING_FAULT of a start later than its issue, in throughput mode. -/
def startFault (s : State) (t : Nat) : Option Trap :=
  if s.ctx.hdr.det then none
  else (missedStart s t).map fun (e, k, a) =>
    ⟨0x14, BitVec.ofNat 64 (at' (slotOf e) 12 + at' k.pos 8 + 1), BitVec.ofNat 64 k.nominal, BitVec.ofNat 64 a, k.pc⟩

/-- R456: the scratchpad bytes of the stores due at a task cycle. -/
def storesAt (c : Ctx) (t : Nat) : List (Nat × Nat) :=
  c.dws.filterMap fun w => match w.act with
    | .store a n _ => if w.due ≤ t then some (a, n) else none
    | _ => none

/-- R346, R352, R358: what holds a task cycle before its bundle: 0 a missed operand, 1 a C start while the operating point
is about to switch, 3 an M access of bytes that are still to arrive. -/
def holdKind (s : State) (t : Nat) : Option Nat :=
  let c := s.ctx
  let dest := c.cq.flatMap (cmdDest s)
  let mm := storesAt c t ++ (loadsAt c t).filterMap fun l => l.ld.map fun d => (d.addr, d.size)
  if c.hdr.det ∧ (missedStart s t).isSome then some 0
  else if (starter c 2 t).isSome ∧ switchPending s then some 1
  else if c.hdr.det ∧ (overlap mm dest).isSome then some 3
  else none

end Sys2Proof.Machine
end

