-- ==== Sys2Proof/Machine/Fetch.lean ====
section
/-! DEFINITION. Fetching and decoding a bundle (R137 to R145, R156, R157) and the sequencer's walk over fetch blocks
(R139, R143, R198). The program counter is the address of a word of the code image, PROG plus its offset. -/

namespace Sys2Proof.Machine

/-- R139: the words up to and with the first whose stop bit is set; none when no word has it. -/
def upToStop : List Nat → Option (List Nat)
  | [] => none
  | w :: ws => if bit w 31 then some [w] else (upToStop ws).map (w :: ·)

/-- R137: the major opcode. -/
def major (w : Nat) : Nat := fld w 30 26

/-- R155: the slot class of a major: 0 S, 1 M, 2 B, 3 V, 4 X, 5 C, 6 Q, 7 P; 8 and 9 for the reserved majors. -/
def classOf (m : Nat) : Nat :=
  if m ≤ 0x0A then 0 else if m ≤ 0x0D then 1 else if m ≤ 0x10 then 2 else if m ≤ 0x16 then 3 else if m = 0x17 then 4
  else if m ≤ 0x1A then 5 else if m ≤ 0x1C then 6 else if m = 0x1F then 7 else 8

/-- R138: the words after an optional prefix. -/
def bodyOf (ws : List Nat) : List Nat :=
  match ws with
  | w :: t => if major w = 0x1F then t else ws
  | [] => []

/-- R140: the lowest reason for which a bundle breaks its form, given the words to the end of its block. -/
def formFault (ws : List Nat) : Option Nat :=
  match upToStop ws with
  | none => some 1
  | some b =>
    let body := bodyOf b
    let cls := body.map fun w => classOf (major w)
    let twice := fun k => (cls.filter (· == k)).length > 1
    if body.isEmpty then some 2
    else if body.any fun w => major w == 0x1F then some 3
    else if [1, 2, 3, 4, 5, 6].any twice then some 4
    else if (cls.filter (· == 0)).length > 2 then some 5
    else none

/-- R142: a branch syllable: BR, BRC, CALL, JMP, LBRK or RTE. -/
def isBranch (w : Nat) : Bool :=
  let m := major w
  (m == 0x0E && fld w 21 20 != 3) || (m == 0x0F && fld w 21 20 == 0) ||
    (m == 0x10 && fld w 21 20 == 0 && (fld w 19 15 == 3 || fld w 19 15 == 7))

/-- R161, R374: supervisor numbers; 2 marks the Cobbler's own. -/
def svClass (c : Nat) : Nat := if c ≥ 0xF10 then 2 else if c ≥ 0xF00 then 1 else 0

/-- R145, R156: a FIRST or LAST bit for a position that the bundle does not occupy. -/
def maskFault (w n : Nat) : Bool := fld w 18 11 / 2 ^ n != 0 || fld w 10 3 / 2 ^ n != 0

/-- R156: reasons 20 to 23 and 25, which depend on the die, the grant and the state: the lowest that applies. -/
def ctxReason (c : Ctx) (w : Nat) : Option Nat :=
  let m := major w
  let g := fun e => c.grant.getD e false
  let own := if c.status = .handler then ((c.saved.map (·.grant)).getD []).getD 1 false else g 1
  let image := m == 0x17 && (fld w 19 13 == 0x10 || fld w 19 13 == 0x11)
  let op7 := fld w 19 13
  if m = 0x1C ∧ !c.upper then some 20
  else if m = 0x1A ∧ ((op7 ≤ 2 && !c.upper) || (8 ≤ op7 && op7 ≤ 0xB && c.upper)) then some 21
  else if (0x11 ≤ m && m ≤ 0x16 && !g 0) || (m == 0x17 && !(if image then own else g 1)) || (0x18 ≤ m && m ≤ 0x1A && !g 2) ||
      ((m == 0x1B || m == 0x1C) && c.status == .handler) then some 22
  else if m = 0x0D ∧ fld w 16 12 ≤ 1 ∧ fld w 11 10 < 3 ∧ !g (fld w 11 10) then some 22
  else if m = 0x0F ∧ fld w 21 20 = 3 ∧ fld w 14 13 < 3 ∧ !g (fld w 14 13) then some 22
  else if m = 0x10 ∧ fld w 21 20 = 0 ∧ fld w 19 15 = 6 ∧ !c.sv then some 23
  else if m = 0x17 ∧ (op7 = 0x10 ∨ op7 = 0x11) ∧ !c.sv then some 23
  else if m = 0x0D ∧ 2 ≤ fld w 16 12 then
    let n := fld w 11 0
    if (svClass n ≥ 1 && !c.sv) || (svClass n == 2 && !c.cobbler) || (fld w 16 12 == 4 && n == 0x00C && !c.sv) then some 23
    else none
  else none

/-- R156, R157: the lowest reason that one syllable breaks. -/
def wordReason (c : Ctx) (n w : Nat) : Option Nat :=
  let d := match decodeWord w with | .error r => some r | .ok _ => if major w = 0x1F ∧ maskFault w n then some 19 else none
  match d, ctxReason c w with
  | some a, some b => some (min a b)
  | some a, none => some a
  | none, b => b

/-- A decoded bundle: its prefix, its syllables with their words, and the bytes it takes. -/
structure Bundle where
  pfx : Option (Nat × Syl)
  syls : List (Nat × Syl)
  bytes : Nat
  deriving DecidableEq, Repr

/-- R157: what decoding a bundle answers: a cause with position, reason and word, or the bundle. -/
inductive Fetched where
  | trap (cause pos reason word : Nat)
  | ok (b : Bundle)
  deriving DecidableEq, Repr

/-- The positions of a bundle's words: 0 for the prefix, then 1 and on (R138). -/
def positions (ws : List Nat) : List (Nat × Nat) :=
  let body := bodyOf ws
  (if body.length < ws.length then [(0, ws.headD 0)] else []) ++ ((List.range body.length).map (· + 1)).zip body

/-- The syllable of a word that decodes. -/
def sylOf (w : Nat) : Option Syl := (decodeWord w).toOption

/-- R140, R142, R156, R157: the bundle at an address, or the first decode failure. -/
def decodeBundle (c : Ctx) (a : Word) : Fetched :=
  let ws := blockWords c a
  match formFault ws with
  | some r => .trap 0x03 15 r 0
  | none =>
    let b := (upToStop ws).getD []
    let ps := positions b
    let n := (bodyOf b).length
    match ps.findSome? fun (p, w) => (wordReason c n w).map fun r => (p, r, w) with
    | some (p, r, w) => .trap 0x01 p r w
    | none =>
      match (if c.dly > 0 then ps.find? fun (_, w) => isBranch w else none) with
      | some (p, w) => .trap 0x04 p 32 w
      | none =>
        let dec := ps.filterMap fun (p, w) => (sylOf w).map fun y => (p, w, y)
        .ok ⟨(dec.find? fun x => x.1 == 0).map fun x => (x.2.1, x.2.2),
          (dec.filter fun x => x.1 != 0).map fun x => (x.2.1, x.2.2), 4 * b.length⟩

/-- R139: the rest of the fetch block from an address on, when the address is not its first word, is pad words. -/
def restPads (c : Ctx) (a : Word) : Bool := a.toNat % 64 != 0 && (blockWords c a).all (· == padWord)

/-- R139: where the sequencer stands after a bundle that ends before an address: the block it has finished, if the rest
of it is pad words, and the next word. -/
def afterBundle (c : Ctx) (a : Word) : Option Word × Word :=
  if a.toNat % 64 = 0 then (some (a - 64), a)
  else if restPads c a then (some (blockOf a), blockOf a + 64)
  else (none, a)

/-- R198: the first word after the bundle at an address, in address order, and the address of its last word. -/
def bundleEnd (c : Ctx) (a : Word) : Word × Word :=
  let n := ((upToStop (blockWords c a)).getD (blockWords c a)).length
  (a + BitVec.ofNat 64 (4 * n), a + BitVec.ofNat 64 (4 * (n - 1)))

/-- R139: the next bundle after an address just past a bundle. -/
def nextBundle (c : Ctx) (a : Word) : Word := skipPads c (c.hdr.codelen / 64) (afterBundle c a).2

/-- R198: the return address of a CALL in the bundle at an address. -/
def returnAddr (c : Ctx) (a : Word) : Word :=
  let b1 := nextBundle c (bundleEnd c a).1
  let b2 := nextBundle c (bundleEnd c b1).1
  blockOf (bundleEnd c b2).2 + 64

end Sys2Proof.Machine
end

