-- ==== Sys2Proof/Machine/Ctl.lean ====
section
/-! DEFINITION. Shape fields and control registers (R161 to R163, R193 to R196, R374, R418): what a number
reads as, what a CTLW commits, and the syllables SHW, SHG, CTLR, CTLR.q and CTLW. -/

namespace Sys2Proof.Machine

/-- R161: the numbers whose CTLR raises DET_READ in deterministic mode. -/
def detMarked (c : Nat) : Bool := [0x008, 0x00A, 0x00C, 0x020, 0x021, 0x022, 0x023, 0x030, 0x032].contains c

/-- R163: CTXST. -/
def ctxst (c : Ctx) : Word := BitVec.ofNat 64 (2 * b2n c.hdr.det + b2n c.sv)

/-- R426: ENERGY. -/
def energyWord (c : Ctx) : Word := BitVec.ofNat 64 (at' (b2n c.energySat) 63 + c.energy)

/-- R431: ENERGY as a CTLR reads it: with the charges of the unit writes of its task cycle, and without those of its own
bundle. -/
def energyRead (s : State) : Word := energyWord (s.ctx.charge (chargesMade s s.ctx.tclk) true)

/-- R64, R195: FLG as a CTLR reads it: with the flags of the unit writes that its task cycle makes (DEDUCED, log 144). -/
def flagRead (s : State) : Word := (s.ctx.r.flg ||| BitVec.ofNat 6 (flagsMade s s.ctx.tclk)).setWidth 64

/-- R196: a loop-state register. DEDUCED (log 101): while a written LSTART or LEND is held, the register reads as before the
write. -/
def loopReg (l : Loop) (k : Nat) : Word :=
  match k with
  | 0 => if l.active then l.cnt.setWidth 64 else 0
  | 1 => if l.active then l.idx.setWidth 64 else 0
  | 2 => l.start
  | 3 => l.stop
  | k => (l.strd.toList.getD (k - 4) ⟨false, 0, 0, 0⟩).toWord

/-- R418: ISLST of an island. -/
def islst (u : Island) : Word :=
  BitVec.ofNat 64 (at' (u.temp % 1024) 16 + at' (b2n u.thr) 15 + at' u.opc.val 12)

/-- R418: ISLCTL of an island. -/
def islctl (u : Island) : Word := BitVec.ofNat 64 (at' u.opcap.val 8 + at' u.thop.val 5 + u.hyst % 32)

/-- R161, R374, R418: what a control register number reads as at issue. -/
def readCtl (s : State) (n : Nat) : Word :=
  let c := s.ctx
  let r := c.r
  let isl := getIsland s c.gunit
  if n < 0x040 then
    match n with
    | 0x000 => flagRead s
    | 0x001 => r.fen.setWidth 64
    | 0x002 => r.rmode.setWidth 64
    | 0x003 => r.ftctl
    | 0x004 => r.grace.setWidth 64
    | 0x005 => ctxst c
    | 0x008 => BitVec.ofNat 64 (c.tclk % 2 ^ 48)
    | 0x009 => c.wid
    | 0x00A => c.core
    | 0x00B => c.hdr.seed
    | 0x00C => energyRead s
    | 0x010 => r.tvec
    | 0x011 => BitVec.ofNat 64 (c.tcause % 2 ^ 16)
    | 0x012 => c.tinfo[0]
    | 0x013 => c.tinfo[1]
    | 0x014 => c.tinfo[2]
    | 0x015 => c.tinfo[3]
    | 0x020 => isl.lreq.setWidth 64
    | 0x021 => isl.rreq.setWidth 64
    | 0x022 => BitVec.ofNat 64 (c.rcyc % 2 ^ 48)
    | 0x023 => BitVec.ofNat 64 (c.blkc % 2 ^ 48)
    | 0x030 => BitVec.ofNat 64 isl.opc.val
    | 0x031 => BitVec.ofNat 64 c.pwrlvl
    | 0x032 => BitVec.ofNat 64 (b2n isl.thr)
    | _ => 0
  else if n < 0x080 then loopReg (r.loops.toList.getD ((n - 0x040) / 8) Loop.zero) (n % 8)
  else if n < 0x100 then
    if n % 8 < 6 then r.dset.toList.getD ((n - 0x080) / 8 * 6 + n % 8) 0 else 0
  else if n < 0x110 then (r.ft.toList.getD (n - 0x100) 0).setWidth 64
  else if n < 0x118 then
    BitVec.ofNat 64 ((List.range 4).foldl
      (fun a k => a + at' ((r.st.toList.getD (4 * (n - 0x110) + k) 0).toNat) (16 * k)) 0)
  else if n < 0xF00 then r.cht.toList.getD (n - 0x120) 0
  else
    match n with
    | 0xF00 => c.fidx.setWidth 64
    | 0xF01 => frameDword s c.fidx.toNat
    | 0xF02 => c.tmr.setWidth 64
    | 0xF03 => BitVec.ofNat 64 (frameAddr c)
    | 0xF10 => s.cob.ctxsel.setWidth 64
    | 0xF11 => 0
    | 0xF12 => s.cob.islsel.setWidth 64
    | 0xF13 => islst (getIsland s s.cob.islsel.toNat)
    | 0xF14 => islctl (getIsland s s.cob.islsel.toNat)
    | _ => if n < 0xF10 then 0 else fw s 0

/-- R374: an access of FDAT moves FIDX on. -/
def stepFidx (s : State) : State := s.up fun c => { c with fidx := c.fidx + 1 }

/-- R371, R374: a dword of the frame as a write through FDAT leaves it: RW fields alone take the value. DEDUCED (log 100):
reserved bits of FLG, FEN, RMODE, FTCTL, GRACE and PRED stand in the frame until RTE ignores them. -/
def fdatValue (s : State) (i : Nat) (v : Word) : Word :=
  let old := frameDword s i
  if i = 0 ∨ (256 ≤ i ∧ i < 320 ∧ i % 2 = 0) then
    BitVec.ofNat 64 (old.toNat % 2 ^ 63 + v.toNat / 2 ^ 63 * 2 ^ 63)
  else if i = 6 ∨ i = 9 ∨ (11 ≤ i ∧ i ≤ 15) ∨ i = 17 ∨ (32 ≤ i ∧ i < 64) ∨ (72 ≤ i ∧ i < 80) then v
  else if 256 ≤ i ∧ i < 320 then
    if (frameDword s (i - 1)).toNat / 2 ^ 62 % 2 = 1 then old else v
  else old

/-- R385: a VALUE written into latch record k: the mismatch that the record's commit surfaced is gone with the value that
it was found in. -/
def healLatch (s : State) (k : Nat) : State :=
  s.up fun c => { c with saved := c.saved.map fun v => { v with
    latches := ((List.range v.latches.length).zip v.latches).map fun (i, l) =>
      if i = k then { l with bad := l.bad.filter fun x => x.cause != 0x16 } else l } }

/-- R374: a write through FDAT to the dword at FIDX; a slot of G, or a latch VALUE, takes its code with it. -/
def writeFdat (s : State) (v : Word) : State :=
  let i := s.ctx.fidx.toNat
  let nv := fdatValue s i v
  let s' := setFrameDword s i nv
  let code := (wordCode nv).toNat
  let put := fun (j lo : Nat) =>
    let old := (frameDword s j).toNat
    setFrameDword s' j (BitVec.ofNat 64 (old - old / 2 ^ lo % 2 ^ 16 * 2 ^ lo + code * 2 ^ lo))
  stepFidx <|
    if 32 ≤ i ∧ i < 64 then put (64 + (i - 32) / 4) (16 * ((i - 32) % 4))
    else if 256 ≤ i ∧ i < 320 ∧ i % 2 = 1 ∧ (frameDword s (i - 1)).toNat / 2 ^ 62 % 2 = 0 then
      healLatch (put (i - 1) 20) ((i - 256) / 2)
    else s'

/-- R376: TMR written; its count starts at 0. -/
def writeTmr (s : State) (v : Word) : State := s.up fun c => { c with tmr := v.setWidth 33, tmrCnt := 0 }

/-- R196: COUNT of a level written; nothing when the level is inactive. -/
def writeLcnt (s : State) (l : Nat) (v : Word) : State :=
  s.upR fun r =>
    let x := r.loops.toList.getD l Loop.zero
    if x.active then { r with loops := vset r.loops l { x with cnt := v.setWidth 48 } } else r

/-- R196: a loop-state register written. -/
def writeLoop (s : State) (l k : Nat) (v : Word) : State :=
  let g := s.ctx.grant
  match k with
  | 0 => writeLcnt s l v
  | 1 => s
  | 2 => s.upR fun r => { r with loops := vset r.loops l { r.loops.toList.getD l Loop.zero with hs := some (blockOf v) } }
  | 3 => s.upR fun r => { r with loops := vset r.loops l { r.loops.toList.getD l Loop.zero with he := some (blockOf v) } }
  | k =>
    let e := Stride.ofWord v
    if e.eng = 3 then s
    else
      let e := if g.getD e.eng.val false then e else { e with en := false }
      s.upR fun r =>
        let x := r.loops.toList.getD l Loop.zero
        { r with loops := vset r.loops l { x with strd := vset x.strd (k - 4) e } }

/-- R418, R419: ISLCTL of an island written. -/
def writeIslctl (s : State) (n : Nat) (v : Word) : State :=
  { s with units := updIsland s.units n fun u =>
      { u with opcap := Fin.ofNat 8 (v.toNat / 256), thop := Fin.ofNat 8 (v.toNat / 32), hyst := v.toNat % 32 }.repoint }

/-- R418: the command of a CTXCMD write, for the context that CTXSEL names. -/
def ctxcmdEvents (s : State) (v : Word) : List Event :=
  let cid := s.cob.ctxsel.toNat
  match v.toNat % 4 with
  | 1 => [.ctxcmdResume cid]
  | 2 => [.ctxcmdEndTask cid]
  | 3 => [.ctxcmdPark cid]
  | _ => []

/-- R8, R161, R195, R374, R418: what a CTLW of a number commits. An RO register is unchanged. A CTLW of ENERGY from a
TVEC handler is discarded (R373). FLG keeps the flags that latches of this task cycle raise (R195). -/
def writeCtl (s : State) (n : Nat) (v : Word) : State :=
  if 0x040 ≤ n ∧ n < 0x070 then writeLoop s ((n - 0x040) / 8) (n % 8) v
  else
    match n with
    | 0x000 => s.upR fun r => { r with flg := v.setWidth 6 ||| s.ctx.flNow }
    | 0x001 => s.upR fun r => { r with fen := v.setWidth 6 }
    | 0x002 => s.upR fun r => { r with rmode := v.setWidth 3 }
    | 0x003 => s.upR fun r => { r with ftbase := v.setWidth 4, ftlevel := (v >>> 4).setWidth 3 }
    | 0x004 => s.upR fun r => { r with grace := v.setWidth 32 }
    | 0x00C => if s.ctx.cobbler then
        s.up fun c => { c with energy := v.toNat % 2 ^ 48, energySat := v.toNat / 2 ^ 63 == 1 } else s
    | 0x010 => s.upR fun r => { r with tvec := blockOf v }
    | 0xF00 => s.up fun c => { c with fidx := v.setWidth 9 }
    | 0xF01 => writeFdat s v
    | 0xF02 => writeTmr s v
    | 0xF10 => { s with cob := { s.cob with ctxsel := v.setWidth 12 } }
    | 0xF11 => { s with agenda := s.agenda ++ ctxcmdEvents s v }
    | 0xF12 => { s with cob := { s.cob with islsel := v.setWidth 9 } }
    | 0xF14 => writeIslctl s s.cob.islsel.toNat v
    | _ => s

/-- An M syllable that is no memory access: its issue check, its charge, and its effect. -/
def mOp (s : State) (chk : Option Trap) (eff : State → State) : Outcome State :=
  if acts s then
    match chk with
    | some t => .next (takeTrap s t)
    | none => .next (eff (charge s (weight s 1)))
  else .next (idle s)

/-- R91: a deferred write of a register's value, or the mismatch of that register at its commit. -/
def regWrite (s : State) (v : Fin 32) (act : DAct) : State :=
  addDW s 1 (match badReg s 5 [v] with | some t => .raise t | none => act)

/-- R193, R194: SHW writes a shadow field at +1. -/
def execShw (v : Fin 32) (e r : Fin 4) (f : BitVec 4) (s : State) : Outcome State :=
  mOp s none fun s => regWrite s v (.shadow e r f (rdG s v))

/-- R193, R194: SHG reads a field of the active register, or with h of the shadow, readable at +2. -/
def execShg (v : Fin 32) (e r : Fin 4) (f : BitVec 4) (h : Bool) (s : State) : Outcome State :=
  mOp s none fun s =>
    let x := if h then getSd s.ctx.r e r else getSh s.ctx.r e r
    putLatch s { newLatch s 2 (.g v) (BitVec.ofNat 64 (x.field f.toNat)) 0 none with slot := 5 }

/-- R415, R444, R445: the frame dword at FIDX lies in a Heel bank under test. -/
def heelFenced (s : State) (n : Nat) : Bool :=
  let k := 1024 + (frameAddr s.ctx + 8 * s.ctx.fidx.toNat) / 32 % 64
  n == 0xF01 && s.cob.tests.any fun x => x.unit == s.ctx.gunit && x.ukind == 0 && x.idx == k

/-- R445: a CTLR or a CTLW that acts, or its bundle held while it would reach a fenced bank. -/
def unfenced (s : State) (n : Nat) (run : Outcome State) : Outcome State :=
  if acts s && heelFenced s n then .next (holdBundle s 4) else run

/-- R193, R195, R361: CTLR reads a control register, readable at +2; in deterministic mode one marked DET raises
DET_READ unless the frame supplied a value. -/
def execCtlr (v : Fin 32) (c : BitVec 12) (s : State) : Outcome State :=
  let n := c.toNat
  let det := s.ctx.hdr.det && detMarked n
  let x := if det then s.ctx.detval.getD 0 else readCtl s n
  unfenced s n <| mOp s (if det && s.ctx.detval.isNone then
      some (mkTrap s 0x13 (some (BitVec.ofNat 64 n)) (some (BitVec.ofNat 64 s.ctx.iss.pos)) none) else none)
    fun s =>
      let s := putLatch s { newLatch s 2 (.g v) x 0 none with slot := 5 }
      if n = 0xF01 then stepFidx s else s

/-- R193, R362: CTLR.q reads the true value into a quarantined register, without DET_READ. -/
def execCtlrQ (q : Fin 4) (c : BitVec 12) (s : State) : Outcome State :=
  let x := readCtl s c.toNat
  unfenced s c.toNat <| mOp s none fun s =>
    let s := putLatch s { newLatch s 2 (.q q) x 0 none with slot := 5 }
    if c.toNat = 0xF01 then stepFidx s else s

/-- R60, R71, R195: a CTLW that would write 6 or 7 to MODE, or 6 to FTLEVEL. -/
def ctlwBad (n : Nat) (v : Word) : Bool :=
  (n == 0x002 && v.toNat % 8 ≥ 6) || (n == 0x003 && v.toNat / 16 % 8 == 6)

/-- R193, R195: CTLW writes a control register at +1. -/
def execCtlw (v : Fin 32) (c : BitVec 12) (s : State) : Outcome State :=
  unfenced s c.toNat <| mOp s (if ctlwBad c.toNat (rdG s v) then some (encTrap s 0x01 s.ctx.iss.pos 28) else none)
    fun s => regWrite s v (.ctl c (rdG s v))

/-- R374: the frame dword at FIDX read into a register, as a CTLR of FDAT does. -/
def execFdatRead (v : Fin 32) (s : State) : Outcome State :=
  if s.ctx.sv then
    .next (stepFidx (putLatch s { newLatch s 2 (.g v) (frameDword s s.ctx.fidx.toNat) 0 none with slot := 5 }))
  else .next s

/-- R374: the commit of a CTLW of FDAT. -/
def execFdatWrite (val : Word) (s : State) : Outcome State := .next (if s.ctx.sv then writeCtl s 0xF01 val else s)

/-- R374, R376: the commit of a CTLW of TMR. -/
def execTmrWrite (val : Word) (s : State) : Outcome State := .next (if s.ctx.sv then writeCtl s 0xF02 val else s)

/-- R196: the commit of a CTLW of a level's COUNT. -/
def execLcntWrite (l : Fin 8) (val : Word) (s : State) : Outcome State :=
  .next (if l.val < 6 then writeCtl s (0x040 + 8 * l.val) val else s)

/-- R418: the commit of a write of an island's ISLCTL. -/
def execIslctlWrite (isl : Nat) (val : Word) (s : State) : Outcome State :=
  .next (if isl < 264 then writeIslctl s isl val else s)

end Sys2Proof.Machine
end

