-- ==== Sys2Proof/Machine/Fabric.lean ====
section
/-! DEFINITION. Pieces on their way, at their homes and back (R102, R115, R124 to R126, R409, R410), publications (R117),
deliveries (R124, R262, R359), completions and keep-waiting notices (R267, R349, R410), barriers (R127), collectives
(R280 to R282) and the releases of stalls (R98, R268, R346). -/

namespace Sys2Proof.Machine

/-! ## Pieces by number -/

/-- The piece of a number. -/
def findPiece (s : State) (id : Nat) : Option Piece := s.net.pieces.find? fun p => p.id == id

/-- The pieces, with one changed. -/
def updPiece (s : State) (id : Nat) (f : Piece → Piece) : State :=
  { s with net := { s.net with pieces := s.net.pieces.map fun p => if p.id == id then f p else p } }

/-- The pieces without one. -/
def dropPiece (s : State) (id : Nat) : State :=
  { s with net := { s.net with pieces := s.net.pieces.filter fun p => p.id != id } }

/-- The context that is a source, issuing, parked or retired. -/
def srcCtx (s : State) (src : Nat) : Option Ctx := (allCtx s).find? fun c => c.status != .vacant && c.src == src

/-- The contexts, with the one of a source changed. -/
def updSrc (s : State) (src : Nat) (f : Ctx → Ctx) : State :=
  mapCtx s fun c => if c.status != .vacant && c.src == src then f c else c

/-- R424, R449: a dynamic charge to the context of a source. -/
def chargeTo (s : State) (src pj : Nat) : State :=
  if pj = 0 then s
  else
    match srcCtx s src with
    | none => s
    | some c =>
      { updSrc s src (fun x => x.charge pj true) with
        units := updIsland s.units c.gunit fun u => { u with eisl := (u.eisl + pj) % 2 ^ 64 } }

/-- A piece that is delivered into a scratchpad (R115). -/
def Piece.delivers (p : Piece) : Bool := match p.kind with | .deliver => true | _ => false

/-- A piece whose bytes come back to the context's own scratchpad. -/
def Piece.returns (p : Piece) : Bool := match p.kind with | .read => true | .atom _ _ _ r => r | _ => false

/-- R267: a piece is not complete: it has not been performed, or what it brings has not landed. -/
def Piece.incomplete (p : Piece) : Bool :=
  match p.state with
  | .flight | .parked | .refused => true
  | .atHome => p.returns || p.direct
  | .done => false

/-- R267, R424: a piece is complete: its command waits for one piece less, and its granule is charged with its last part. -/
def pieceDone (s : State) (p : Piece) : State :=
  let more := p.gran != 0 && s.net.pieces.any fun q => q.gran == p.gran && q.id != p.id && q.incomplete
  chargeTo (updSrc s p.src fun c => { c with
    cq := c.cq.map fun k => if k.id == p.cmd then { k with left := k.left - 1 } else k }) p.src (if more then 0 else p.fee)

/-! ## Order (R115) -/

/-- R115: the granules a piece touches, by their virtual addresses and by where their bytes lie, each under a number of
its own. -/
def Piece.grans (s : State) (p : Piece) : List Nat :=
  let at_ := fun k n : Nat => (List.range ((k + n - 1) / 64 - k / 64 + 1)).map (k / 64 + ·)
  let global := fun va h k : Nat => (at_ va p.len).map (· + 2 ^ 200) ++ at_ (forwarded s h k).2 p.len
  (match p.second with | some (h, k) => global p.peer h k | none => []) ++
    if p.delivers then (at_ (spadKey p.dstUnit p.dst) p.len).map (· + 2 ^ 80 * (p.home + 1))
    else global (p.va.toNat % 2 ^ 56) p.home p.key

/-- R115: a piece that has not been performed; a refused ATOM whose codes failed is sent again (R278). -/
def Piece.unperformed (p : Piece) : Bool :=
  p.state == .flight || p.state == .parked || (p.state == .refused && (match p.kind with | .atom .. => true | _ => false))

/-- R115, R278: the ATOMs of a context that were refused for their codes and have not been sent again. -/
def resends (s : State) (src : Nat) : List (Nat × Nat) :=
  ((srcCtx s src).map fun c => (c.cq.filter fun k => k.heldSeq.isSome).map fun k => (cAddr k.ga, k.id)).getD []

/-- R115: an earlier piece of the same source that touches one of its granules has not been performed. -/
def overtakes (s : State) (p : Piece) : Bool :=
  let gs := p.grans s
  (s.net.pieces.any fun q => q.src == p.src && q.seq < p.seq && q.unperformed && (q.grans s).any fun g => gs.contains g) ||
    (resends s p.src).any fun (va, id) => id < p.cmd && gs.contains (va / 64 + 2 ^ 200)

/-- A piece that stands before its home, in its turn. -/
def arrived (s : State) (p : Piece) : Bool := p.state == .flight && p.due ≤ s.cycle && !(overtakes s p) && !(frameFenced s p)

/-! ## The home (R409, R410) -/

/-- The address, home and key a piece goes to next: its source first, when it copies between global ranges (R272). -/
def Piece.target (p : Piece) : Nat × Nat × Nat :=
  match p.second with
  | some (h, k) => (p.peer, h, k)
  | none => (p.va.toNat % 2 ^ 56, p.home, p.key)

/-- R409: the home that a piece reaches next, past the forwards that stand. -/
def Piece.goesTo (s : State) (p : Piece) : Nat := (forwarded s p.target.2.1 p.target.2.2).1

/-- What a piece meets at its home. -/
inductive Gate where
  | wait
  | park
  | refuse
  | go (home key : Nat)
  deriving DecidableEq, Repr

/-- R410: the pieces in the fault queue. -/
def parkedPieces (s : State) : List Piece := s.net.pieces.filter fun p => p.state == .parked

/-- R102: granules of one piece: those of one request that go to one home. -/
def samePiece (p q : Piece) : Bool := p.src == q.src && p.cmd == q.cmd && p.target.2.1 == q.target.2.1

/-- R410: the fault queue of a piece's home holds 64 pieces, and this is none of them. -/
def queueFaults (s : State) (p : Piece) : Bool :=
  let ps := (parkedPieces s).filter fun q => q.goesTo s == p.goesTo s
  let firsts := (List.range ps.length).filter fun i =>
    match ps[i]? with
    | some q => !((ps.take i).any (samePiece q))
    | none => false
  firsts.length ≥ Config.faultQueue && !(ps.any (samePiece p))

/-- R267, R409: the request of a piece in service is still under way: its command has granules to send, or one of them is
on its way; one that is parked is not in service (R410). -/
def underWay (s : State) (e : Nat × Nat × Nat × Nat) : Bool :=
  ((srcCtx s e.1).any fun c => c.cq.any fun k => k.id == e.2.1 && !k.freed && k.left != 0) ||
    s.net.pieces.any fun p => p.src == e.1 && p.cmd == e.2.1 && p.goesTo s == e.2.2.1 &&
      (p.state == .flight || (p.state == .atHome && p.returns))

/-- R409: a segment is held at a home: by its own HOLD, or while another home moves a page of it. -/
def heldAt (s : State) (g : Seg) (home : Nat) : Bool :=
  (home == ownHome s && g.hold) ||
    s.net.migs.any fun m => m.home == home && g.base ≤ m.va.toNat && m.va.toNat < g.base + g.pagesN * 2 ^ 16

/-- R409: a piece that has entered service at its home. -/
def inService (s : State) (p : Piece) (g : Seg) : Bool :=
  s.net.inServ.contains (p.src, p.cmd, p.goesTo s, g.base)

/-- R406, R413: a far home takes a piece, but no atomic. -/
def farGate (p : Piece) (home key : Nat) : Gate :=
  let atom := match p.kind with | .atom .. => true | _ => false
  if !atom ∧ Config.remoteAccepts p.id then .go home key else .refuse

/-- R409, R410, R413: what a piece meets at the home it goes to next. -/
def gateOf (s : State) (p : Piece) : Gate :=
  let (va, home, key) := p.target
  if p.delivers ∧ p.second.isNone then .go home key
  else if farHome home then farGate p home key
  else
    let miss := if queueFaults s p then Gate.refuse else .park
    match segOf s va with
    | none => miss
    | some g =>
      let (h, k) := forwarded s home key
      if (heldAt s g home ∨ heldAt s g h) ∧ !(inService s p g) then .wait
      else
        let e := entryAt s g va
        if !(e.getLsbD 63) ∨ malformed s e then miss
        else if farHome h then farGate p h k
        else .go h k

/-- R411: a request to the driver: the packet, and the request kept until its answer. -/
def pageReq (s : State) (sid : Nat) (va : Word) (kind intent status cid src : Nat) (wid : Word) (keep : Bool) : State :=
  let r := s.fresh
  let s := { s with fresh := r + 1 }
  let s := sendPkt s sid 0x84 (leBytes 8 r ++ leBytes 8 va.toNat ++ leBytes 1 kind ++ leBytes 1 intent ++ leBytes 2 status ++
    leBytes 4 0 ++ leBytes 8 wid.toNat)
  if keep then { s with host := { s.host with preqs := s.host.preqs ++ [⟨r, sid, va, kind, intent, cid, src⟩] } } else s

/-- R403: the session that owns a segment. -/
def ownerOf (s : State) (va : Nat) : Nat := ((segOf s va).map fun g => g.w3.toNat / 2 ^ 32).getD 0

/-- R411: the intent of a piece. -/
def Piece.intent (p : Piece) : Nat :=
  if p.second.isSome then 0 else match p.kind with | .read => 0 | .atom .. => 2 | _ => 1

/-- R410: granules of one piece that one answer concerns: those of one page. -/
def samePage (p q : Piece) : Bool := samePiece p q && p.target.1 / 65536 == q.target.1 / 65536

/-- R410: a piece is parked in its home's fault queue, behind those that arrived before it, and the owner of the segment is
asked once for each of its pages. -/
def parkPiece (s : State) (p : Piece) : State :=
  let va := p.target.1
  let wid := ((srcCtx s p.src).map (·.wid)).getD 0
  let asked := s.host.preqs.any fun r => r.kind == 2 && (findPiece s r.cid).any (samePage p)
  let s := { s with net := { s.net with
    pieces := (s.net.pieces.filter fun q => q.id != p.id) ++ [{ p with state := .parked }] } }
  if asked then s else pageReq s (ownerOf s va) (BitVec.ofNat 64 va) 2 p.intent 0 p.id p.src wid true

/-- R410, R413: a piece is refused. -/
def refusePiece (s : State) (p : Piece) : State :=
  post (updPiece s p.id fun q => { q with state := .refused }) (.targetRefusal p.id)

/-! ## Reading and writing at a home -/

/-- R122, R411: the bytes that a piece reads, under the snapshot of its issue and from the page as it was stored when the
piece was translated, or plain since a short write landed there (R412). -/
def pieceBytes (s : State) (p : Piece) (va key : Nat) : List Byte :=
  let t := { s with net := { s.net with pieces := s.net.pieces.filter fun q => q.seq < p.seq } }
  let c := (srcCtx s p.src).getD { Ctx.vacant with src := p.src }
  let t := plainView t p.comp va key p.len
  (List.range p.len).map fun i => readHome t c p.own p.stamps p.adm (key + i)

/-- R404: the page entry of an address, rewritten. -/
def setEntry (s : State) (va : Nat) (f : Word → Word) : State :=
  match segOf s va with
  | some g => ptePut s (g.slot va) (f (entryAt s g va))
  | none => s

/-- R404, R412: COMP and CUNITS cleared. -/
def plainEntry (e : Word) : Word := e &&& ~~~(BitVec.ofNat 64 (2 ^ 51 + 15 * 2 ^ 28))

/-- R411, R412: a page of a home that a writer has translated as stored compressed is stored uncompressed from now on when a
write of n bytes, fewer than 4 KiB, lands on it; COMP and CUNITS are cleared in the own copy when that is the home's and its
entry still names the frame. -/
def expandPage (s : State) (form home va key n : Nat) : State :=
  match storedForm s form va key with
  | 0 => s
  | f + 1 =>
    if n ≥ 4096 then s
    else
      let k := key - va % 65536
      let v := va / 65536 * 65536
      let t : State := { s with
        mem := memPut s.mem k ((List.range 65536).map fun i => packedByte s f (v + i) (k + i))
        net := { s.net with plainAt := k :: s.net.plainAt } }
      if home = ownHome s ∧ entryNames s va home k then setEntry t va plainEntry else t

/-- R412: how many bytes global rows have on the page of an address. -/
def onPage (va : Nat) (rs : List (Nat × Nat)) : Nat :=
  let b := va / 65536 * 65536
  (rs.map fun (a, n) => min (a + n) (b + 65536) - max a b).foldl (· + ·) 0

/-- R265, R271, R272, R279: the global rows that a copy writes; of an MCAST those of the replica that a piece belongs to. -/
def writtenRows (s : State) (c : Ctx) (k : Cmd) (va : Nat) : Option (List (Nat × Nat)) :=
  let n := (k.sh 0).rowLen
  let rows := fun (a r m : Nat) => globalRows a (globalPitch (k.sh 2) m) r m
  match k.op with
  | .cps true => some (indexedRows { s with ctx := c } k.sh (cAddr k.ga))
  | .cps false => some (rows (cAddr k.ga) (k.sh 0).rows.toNat n)
  | .cpy => some (rows (cAddr k.ga) (k.sh 2).rows.toNat (k.sh 2).rowLen)
  | .mcast => (k.buf.flatten.map fun v => rows (cAddr (BitVec.ofNat 64 v)) (k.sh 0).rows.toNat n).find? fun rs =>
      rs.any fun x => x.1 ≤ va && va < x.1 + x.2
  | _ => none

/-- R412: the bytes of the write to which a piece belongs that land on the piece's page. -/
def writeSize (s : State) (p : Piece) : Nat :=
  let va := p.va.toNat % 2 ^ 56
  (((srcCtx s p.src).bind fun c => (c.cq.find? fun k => k.id == p.cmd).bind fun k => writtenRows s c k va).map
    (onPage va)).getD p.len

/-- The sector codes of home bytes written with the codes that travelled with them. -/
def putHomeSyn (s : State) (key n : Nat) (syn : List (BitVec 16)) : State :=
  let ks := sectorsOf key n
  { s with synd := ((List.range ks.length).zip ks).foldl (fun l (i, k) => synSet l k (syn.getD i 0)) s.synd }

/-- R409: a piece enters service at its home, and those that are complete leave it. -/
def enterService (s : State) (p : Piece) : State :=
  match segOf s p.target.1 with
  | none => s
  | some g =>
    let e := (p.src, p.cmd, p.goesTo s, g.base)
    { s with net := { s.net with inServ := (s.net.inServ.filter fun x => underWay s x && x != e) ++ [e] } }

/-- R122, R116, R124: a piece performed at its home. A read takes its bytes and goes back; a plain write and a delivery
are held there until their publication. -/
def performPiece (s : State) (p : Piece) (home key : Nat) : State :=
  let s := if p.delivers ∧ p.second.isNone then s else enterService s p
  let back := s.cycle + 1 + Config.fabricDelay s.fresh
  match p.second with
  | some _ =>
    let d := pieceBytes s p p.peer key
    updPiece { s with fresh := s.fresh + 1 } p.id fun q =>
      { q with data := d, syn := homeSyn s key p.len, second := none, comp := q.comp2, due := back }
  | none =>
    match p.kind with
    | .read =>
      let d := pieceBytes s p p.va.toNat key
      updPiece { s with fresh := s.fresh + 1 } p.id fun q =>
        { q with data := d, syn := homeSyn s key p.len, home := home, key := key, state := .atHome, due := back }
    | .write =>
      let s := expandPage s p.comp home p.va.toNat key (writeSize s p)
      pieceDone (updPiece s p.id fun q => { q with home := home, key := key, state := .atHome }) p
    | .deliver =>
      let t := updPiece s p.id fun q => { q with state := .atHome }
      if p.direct then t else pieceDone t p
    | .atom .. => s

/-- R409, R410: a piece in its turn reaches its home: it waits there while a migration holds the segment, is parked,
refused, or performed. An atomic is performed by ATOM_AT_HOME. -/
def execPieceAtHome (pc : Nat) (s : State) : Outcome State :=
  match findPiece s pc with
  | none => .next s
  | some p =>
    if !(arrived s p) then .next s
    else
      match gateOf s p with
      | .wait => .next s
      | .park => .next (parkPiece s p)
      | .refuse => .next (refusePiece s p)
      | .go h k => .next (performPiece s p h k)

/-- R409, R413: a piece whose home, as the forwards that stand redirect it, is far. -/
def farTarget (s : State) (p : Piece) : Bool := farHome (forwarded s p.target.2.1 p.target.2.2).1

/-- R413: a far piece that is not accepted within its retransmissions is refused. -/
def execFarPieceRefusal (pc : Nat) (s : State) : Outcome State :=
  match findPiece s pc with
  | none => .next s
  | some p => if arrived s p ∧ gateOf s p = .refuse ∧ farTarget s p then .next (refusePiece s p) else .next s

/-! ## Atomics (R126, R278) -/

/-- R278: the new value of an element of width w. -/
def atomElem (op : Fin 8) (f old x : Nat) : Nat :=
  let w := fmtBits f
  match op with
  | 0 => (old + x) % 2 ^ w
  | 1 => if intDecode f x < intDecode f old then x else old
  | 2 => if intDecode f x > intDecode f old then x else old
  | 3 => old.land x
  | 4 => old.lor x
  | 5 => old.xor x
  | _ => x

/-- R278: the home bytes after an atomic. -/
def atomBytes (op : Fin 8) (f : Nat) (old x cmp : List Byte) : List Byte :=
  if op = 7 then (if old = cmp then x else old)
  else
    let n := fmtBits f / 8
    (List.range (old.length / n)).flatMap fun t =>
      let g := fun l : List Byte => leNat ((l.drop (t * n)).take n)
      leBytes n (atomElem op f (g old) (g x))

/-- R126: an atomic waits for the publication of every phase that its context closed before it issued. -/
def atomReady (s : State) (p : Piece) : Bool := match srcCtx s p.src with | some c => p.phase ≤ c.pubd | none => true

/-- R126, R278: the step of the home order: refused when a code fails, and otherwise placed, with every byte of its
granule, the old value on its way back unless the form is .nr. -/
def performAtom (s : State) (p : Piece) (home key : Nat) (op : Fin 8) (f : Nat) (cmp : List Byte) (ret : Bool) : State :=
  if (p.syn ++ homeSyn s key p.len).any (· != 0) then refusePiece s p
  else
    let s := expandPage (enterService s p) p.comp home p.va.toNat key p.len
    let base := key / 64 * 64
    let all := (List.range 64).map fun i => readLatest s (base + i)
    let old := (all.drop (key - base)).take p.len
    let new := all.take (key - base) ++ atomBytes op f old p.data cmp ++ all.drop (key - base + p.len)
    let unit := ((srcCtx s p.src).map (·.gunit)).getD hostUnit
    let s := { s with
      fresh := s.fresh + 1
      net := { s.net with hist := ⟨p.src, unit, p.phase, true, base, new⟩ :: s.net.hist } }
    if ret then
      updPiece s p.id fun q => { q with data := old, state := .atHome, due := s.cycle + 1 + Config.fabricDelay s.fresh }
    else pieceDone (dropPiece s p.id) p

/-- R126: an ATOM at its home. -/
def execAtomAtHome (pc : Nat) (s : State) : Outcome State :=
  match findPiece s pc with
  | none => .next s
  | some p =>
    match p.kind with
    | .atom op f cmp ret =>
      if !(arrived s p) ∨ !(atomReady s p) then .next s
      else
        match gateOf s p with
        | .wait => .next s
        | .park => .next (parkPiece s p)
        | .refuse => .next (refusePiece s p)
        | .go h k => .next (performAtom s p h k op f cmp ret)
    | _ => .next s

/-! ## Arrivals (R87, R273) -/

/-- R352: arrivals for a core wait at its router while its operating point settles. -/
def settling (s : State) (u : Nat) : Bool := (getIsland s (if u < 192 then u else 192)).settle.isSome

/-- R87: data lands through the fill port; an ATOM's old value merges, and one whose sector fails its code is lost. -/
def execFillArrival (pc : Nat) (s : State) : Outcome State :=
  match findPiece s pc with
  | none => .next s
  | some p =>
    if !p.returns ∨ p.state ≠ .atHome ∨ p.due > s.cycle ∨ settling s p.dstUnit then .next s
    else
      match srcCtx s p.src with
      | none => .next (dropPiece s pc)
      | some c =>
        let fill := c.cq.any fun k => k.id == p.cmd && k.op == .wfill
        let keep := fun a : Nat => !(c.upper && dropsByte s p.issueT c.tclk a)
        let t := pieceDone (dropPiece s pc) p
        match p.kind, fillBad s p.dstUnit p.dst p.data.length keep with
        | .atom .., some k =>
          let pos := ((c.cq.find? fun x => x.id == p.cmd).map fun x => (x.pos, x.pc)).getD (1, 0)
          let u := { s with ctx := c }
          .next (updSrc t p.src fun x => { x with
            cands := x.cands ++ [(x.tclk, 6, sectorTrap u (32 * k) (requester c 4 pos.1 0) pos.2, 0)] })
        | _, _ => .next (fillPut t p.dstUnit p.dst p.data p.syn fill keep)

/-! ## Publication (R117, R125) -/

/-- R116: commands that write global memory. -/
def CmdOp.writesGlobal : CmdOp → Bool
  | .cps _ | .cpy | .wback | .wunmap | .mcast => true
  | _ => false

/-- R124: a copy of a context into its own scratchpad, which is not phased. -/
def stays (s : State) (c : Ctx) (k : Cmd) : Bool :=
  (match k.op with | .cps false | .cpy => true | _ => false) && isRemote k.ga && ownCopy { s with ctx := c } k k.ga

/-- R117: the closed phase of a context that can be published: its number and scope. -/
def pubReady (s : State) (c : Ctx) : Option (Nat × Nat) :=
  match c.closing with
  | [] => none
  | (n, sc) :: _ =>
    if (c.cq.any fun k => !k.freed && k.op.writesGlobal && k.phase ≤ n && !(stays s c k)) ∨
        (s.net.pieces.any fun p => p.src == c.src && p.phase ≤ n && (p.state == .flight || p.state == .parked) &&
          (match p.kind with | .write => true | .deliver => !p.direct | _ => false)) then none
    else some (n, sc)

/-- R112, R262: the scope that covers the receiving contexts of a delivery. -/
def deliverScope (s : State) (unit : Nat) (p : Piece) : Nat :=
  if farHome p.home then 4 else if p.home ≠ ownHome s then 3 else scopeBetween unit p.dstUnit

/-- R124: a publication of a delivery's phase, or a later one, at a scope that covers its receiving contexts; a copy into
the own scratchpad awaits none. -/
def deliverable (s : State) (p : Piece) : Bool :=
  p.delivers && p.second.isNone && p.state == .atHome &&
    (p.direct || s.net.pubs.any fun q => q.src == p.src && q.phase ≥ p.phase && q.scope ≥ deliverScope s q.unit p)

/-- R125: the plain writes of a source's phases up to n take their places in the home orders. -/
def placeWrites (s : State) (src unit n : Nat) : State :=
  let mine := sortBy (fun p q => p.seq ≤ q.seq) (s.net.pieces.filter fun p => p.src == src && p.phase ≤ n &&
    p.state == .atHome && (match p.kind with | .write => true | _ => false))
  let s := mine.foldl (fun s p => putHomeSyn s p.key p.len p.syn) s
  { s with net := { s.net with
    hist := mine.foldl (fun h p => ⟨p.src, unit, p.phase, false, p.key, p.data⟩ :: h) s.net.hist
    pieces := s.net.pieces.filter fun p => !(mine.any fun q => q.id == p.id) } }

/-- R117, R118, R124: the publication of a source's next closed phase completes, and its deliveries follow. -/
def execPublicationCompletion (src : Nat) (s : State) : Outcome State :=
  match srcCtx s src with
  | none => .next s
  | some c =>
    match pubReady s c with
    | none => .next s
    | some (n, sc) =>
      let s := placeWrites s src c.gunit n
      let s := { s with net := { s.net with pubs := s.net.pubs ++ [⟨src, c.gunit, n, sc⟩] } }
      let s := updSrc s src fun x => { x with pubd := n + 1, closing := x.closing.drop 1 }
      .next (((s.net.pieces.filter fun p => p.src == src && !p.direct).filter (deliverable s)).foldl
        (fun s p => post s (.deliveryLanding p.id)) s)

/-! ## Deliveries (R124, R262, R359) -/

/-- R262: the receiving contexts of a delivery. -/
def receivers (s : State) (p : Piece) : List Ctx :=
  (allCtx s).filter fun c => c.live && c.gunit == p.dstUnit && c.inGrant p.dst p.len

/-- R308, R359: a delivery granule with a byte that the write port takes outside the C write ranges of every receiving
context of a deterministic launch. -/
def undeclared (p : Piece) (rs : List Ctx) (keep : Nat → Bool) : Option Nat :=
  if rs.all fun c => c.hdr.det then
    let all := rs.map fun c => declRanges c.r 2 4 2
    let bytes := (byteRange p.span.1 p.span.2).filter keep
    if all.any fun r => bytes.all (inRanges r) then none
    else bytes.find? fun b => !(all.any fun r => inRanges r b)
  else none

/-- R359, R360: a trap on the receiving context with the lowest work identifier, at its next bundle boundary. -/
def raiseAt (s : State) (rs : List Ctx) (t : Ctx → Trap) : State :=
  let low := rs.foldl (fun (m : Option Ctx) c => match m with
    | none => some c
    | some d => if c.wid.toNat < d.wid.toNat then some c else some d) none
  match low with
  | none => s
  | some d => updCtx s d.cid fun c => { c with cands := c.cands ++ [(c.now, 6, t c, 0)] }

/-- R359, R360: DECL_ESCAPE of a delivery. -/
def escapeTrap (b : Nat) (c : Ctx) : Trap := ⟨0x0D, BitVec.ofNat 64 b, requester c 4 0 0, 3, 0⟩

/-- R89: a delivery that ends in another core's scratchpad than its source's. -/
def landsFar (s : State) (p : Piece) : Bool := !((srcCtx s p.src).any fun c => c.gunit == p.dstUnit)

/-- R89, R92: the first sector that a delivery from another core writes whole and whose code fails, by its place among the
sectors. -/
def landingBad (s : State) (p : Piece) (keep : Nat → Bool) : Option Nat :=
  let ks := sectorsOf p.dst p.data.length
  if !(landsFar s p) then none
  else (List.range ks.length).find? fun i => (wholeSectors p.dst p.data.length keep).contains (ks.getD i 0) && p.syn.getD i 0 != 0

/-- R89, R92: CHECK_MISMATCH of the far copy engine's lane: the sector's address, its codes and the requester (log 110). -/
def landingTrap (p : Piece) (i : Nat) (c : Ctx) : Trap :=
  let k := (sectorsOf p.dst p.data.length).getD i 0
  let comp := crc16 ((p.data.drop (32 * k - p.dst)).take 32)
  ⟨0x16, BitVec.ofNat 64 (32 * k), BitVec.ofNat 64 (comp.toNat * 2 ^ 16 + (comp ^^^ p.syn.getD i 0).toNat), requester c 4 0 0, 0⟩

/-- R308: the epoch that an arrival is judged by: the issue of the copy on the same die, and the landing from another. -/
def arrivalTag (s : State) (p : Piece) (c : Ctx) : Nat :=
  match srcCtx s p.src with
  | some x => if x.upper then p.issueT else c.tclk
  | none => c.tclk

/-- R87, R308: the bytes of an arrival that the write ports of its receiving contexts take. -/
def arrivalKeep (s : State) (p : Piece) (rs : List Ctx) (a : Nat) : Bool :=
  !(rs.any fun c => c.upper && dropsByte s (arrivalTag s p c) c.tclk a)

/-- R89, R124, R359: a delivery meets its receiving contexts: it is discarded whole when it escapes their ranges or fails
its code, and otherwise lands through the fill port. -/
def landDelivery (s : State) (p : Piece) (rs : List Ctx) : State :=
  let keep := arrivalKeep s p rs
  match undeclared p rs keep, landingBad s p keep with
  | some b, _ => if p.dst = p.span.1 then raiseAt s rs (escapeTrap b) else s
  | none, some i => raiseAt s rs (landingTrap p i)
  | none, none => fillPut s p.dstUnit p.dst p.data p.syn false keep

/-- R124, R262: a delivery lands once, or is discarded; a copy into the own scratchpad is then complete. -/
def execDeliveryLanding (pc : Nat) (s : State) : Outcome State :=
  match findPiece s pc with
  | none => .next s
  | some p =>
    if !(deliverable s p) ∨ settling s p.dstUnit then .next s
    else if p.home ≠ ownHome s then
      .next (if Config.remoteAccepts p.id then dropPiece s pc else refusePiece s p)
    else
      let rs := receivers s p
      if rs.isEmpty then .next (refusePiece s p)
      else
        let t := dropPiece s pc
        .next (landDelivery (if p.direct then pieceDone t p else t) p rs)

/-- R92, R278: the codes of the first sector, of the operands or of the target, that fails at an ATOM's home. -/
def atomCodes (s : State) (p : Piece) : Nat :=
  if p.syn.any (· != 0) then p.codes
  else
    match (sectorsOf p.key p.len).find? fun k => synGet s.synd k != 0 with
    | some k => codesOf ((List.range 32).map fun i => readLatest s (32 * k + i)) (synGet s.synd k)
    | none => 0

/-- R295: the C address of a request that a home has refused. -/
def refusedAt (p : Piece) (k : Option Cmd) : Word :=
  match k with
  | none => p.va
  | some k =>
    match k.op with
    | .cpg _ | .cps _ | .atom .. => k.ga
    | .cpy => if p.second.isSome then k.gb else k.ga
    | _ => p.va

/-- R105, R115, R262, R278, R295, R410: a refusal arrives back: FATAL_CONTEXT, or for an atomic whose codes failed
CHECK_MISMATCH with the ATOM to be sent again, in its place among the requests of its context. -/
def execTargetRefusal (pc : Nat) (s : State) : Outcome State :=
  match findPiece s pc with
  | none => .next s
  | some p =>
    if p.state ≠ .refused then .next s
    else
      let t := dropPiece s pc
      let cmd := (srcCtx s p.src).bind fun c => c.cq.find? fun k => k.id == p.cmd
      let pc := (cmd.map (·.pc)).getD 0
      let bad := (p.syn ++ homeSyn s p.key p.len).any (· != 0)
      let fatal := updSrc t p.src fun c => { c with fatal := c.fatal.or (some ⟨0x21, refusedAt p cmd, 0, 0, pc⟩) }
      match p.kind, cmd with
      | .atom .., some k =>
        if bad then
          .next (updSrc t p.src fun c => { c with
            cq := c.cq.map fun x => if x.id == k.id then
              { x with state := .trapped, rp := 0, freed := false, left := 1, buf := [[p.place s]], reqs := p.seq + 1 } else x
            cands := c.cands ++
              [(c.tclk, 6, ⟨0x16, p.va, BitVec.ofNat 64 (atomCodes s p), requester c 4 k.pos 5, pc⟩, 0)] })
        else .next fatal
      | _, _ => .next fatal

/-! ## Promises (R206, R267, R349, R410) -/

/-- R206, R267: a promised command is complete; a WAITP on it waits for one command less. -/
def execCopyCompletion (cid cmd : Nat) (s : State) : Outcome State :=
  match findCtx s cid with
  | none => .next s
  | some c =>
    if c.cq.any fun k => k.id == cmd && k.left == 0 then
      .next (updCtx s cid fun c => { c with
        cq := c.cq.filter fun k => !(k.id == cmd && k.freed)
        wait := match c.wait with
          | .waitp n t cs g p k => .waitp n t (cs.filter (· != cmd)) g p k
          | w => w })
    else .next s

/-- R349: the WAITP of a context that is frozen past its promise. -/
def frozenPast (c : Ctx) : Option (Fin 8 × Nat × Nat × Nat) :=
  match c.wait with
  | .waitp n t cs g p k => if !cs.isEmpty && t ≤ c.now && c.role != .parked then some (n, g, p, k) else none
  | _ => none

/-- R349: PROMISE_MISSED, in throughput mode, when the count exceeds the GRACE captured. -/
def execPromiseMissed (cid : Nat) (s : State) : Outcome State :=
  match findCtx s cid with
  | none => .next s
  | some c =>
    match frozenPast c with
    | some (n, g, p, k) =>
      if !c.hdr.det ∧ g ≠ 0 ∧ k > g then
        .next (updCtx s cid fun c => { c with
          cands := c.cands ++ [(c.now, 9, ⟨0x15, BitVec.ofNat 64 n.val, (c.r.pm[n]).setWidth 64, BitVec.ofNat 64 k, BitVec.ofNat 64 p⟩, 0)] })
      else .next s
    | none => .next s

/-- R349, R410: a notice from a home that has parked a piece of a command restarts the grace count of a WAITP on it. -/
def execKeepWaitingNotice (cid cmd : Nat) (s : State) : Outcome State :=
  if (parkedPieces s).any fun p => p.cid == cid && p.cmd == cmd then
    .next (updCtx s cid fun c => { c with
      wait := match c.wait with
        | .waitp n t cs g p k => .waitp n t cs g p (if cs.contains cmd then 0 else k)
        | w => w })
  else .next s

/-! ## Participants, barriers (R20, R127) and collectives (R280 to R282) -/

/-- R20: the contexts of a launch on this package that agree above level l with one of them. -/
def participants (s : State) (c : Ctx) (l : Nat) : List Ctx :=
  let key := fun x : Ctx => (unpackWid x.hdr.widths x.wid.toNat).drop l
  (allCtx s).filter fun d => d.status != .vacant && d.lid == c.lid && key d == key c

/-- R20, R397: the tasks on other packages that agree with a context above level l: package, unit and work identifier. -/
def farMates (s : State) (c : Ctx) (l : Nat) : List (Nat × Nat × Word) :=
  let h := c.hdr
  if h.rect.getD 2 0 * h.rect.getD 3 0 ≤ 1 then []
  else
    let cores := coreList s h
    let vs := unpackWid h.widths c.wid.toNat
    let below := List.replicate l 0 ++ vs.drop l
    let first := ordinalGo (List.replicate vs.length true) h.extents below 1
    (List.range ((h.extents.take l).foldl (· * ·) 1)).filterMap fun i =>
      let (home, u) := taskPlace h cores (fieldVals h.extents (first + i))
      if home = ownHome s then none else some (home, u, BitVec.ofNat 64 (h.widOf (first + i)))

/-- What a task on another package has reported of its m-th BAR or COLL of a level; such reports come from outside this
package (log 71). -/
def mateReport (s : State) (c : Ctx) (w : Word) (coll : Bool) (l m : Nat) : Option Mate :=
  s.net.mates.find? fun x => x.lid == c.lid && x.wid == w && x.level == l && x.nth == m && x.coll.isSome == coll

/-- R40, R127: every participant has made its m-th BAR of the level and, on the Sole, published what it closed. -/
def barDone (s : State) (c : Ctx) (l m : Nat) : Bool :=
  ((participants s c l).all fun d =>
    match (d.bars.filter fun b => b.1 == l)[m]? with
    | some (_, ph) => c.upper || ph < d.pubd
    | none => false) &&
  (farMates s c l).all fun x => (mateReport s c x.2.2 false l m).isSome

/-- R127: a barrier ends for a participant, which then acquires. -/
def execBarRelease (cid : Nat) (s : State) : Outcome State :=
  match findCtx s cid with
  | none => .next s
  | some c =>
    match c.wait with
    | .bar l sc m =>
      if barDone s c l m then
        let s := acquire (focus s cid) sc
        .next (s.up fun x => { x with wait := .phaseA sc s.net.pubs.length })
      else .next s
    | _ => .next s

/-- R280: a COLL of a context at level l that is its m-th, with all its contribution read. -/
def collOf (c : Ctx) (l m : Nat) : Option Cmd :=
  c.cq.find? fun k => (match k.op with | .coll _ => true | _ => false) && k.ga.toNat % 8 == l && k.reqs == m &&
    k.left != 0 && k.rp ≥ k.cCount

/-- R280: the three keys of a participant's rank as one number. -/
def rankKey (h : Hdr) (home u : Nat) (w : Word) : Nat :=
  let g := fun i => h.rect.getD i 0
  let k := (List.range (g 2 * g 3)).findIdx fun k => pkgHome (g 0 + k % g 2) (g 1 + k / g 2) == home
  (k * 256 + u) * 2 ^ 64 + w.toNat

/-- R280, R282: the participants' m-th COLLs of level l in rank order, each with its rank key, and none for one whose
contribution has not been read. -/
def ranked (s : State) (c : Ctx) (l m : Nat) : List (Nat × Option Cmd) :=
  sortBy (fun a b => a.1 ≤ b.1)
    (((participants s c l).map fun d =>
        (rankKey c.hdr (ownHome s) (if d.upper then d.gunit - 192 else d.gunit) d.wid, collOf d l m)) ++
      (farMates s c l).map fun (home, u, w) => (rankKey c.hdr home u w, (mateReport s c w true l m).bind (·.coll)))

/-- R280: what must not differ between the COLLs of one pairing. -/
def collKey (k : Cmd) : CmdOp × Word × Nat × List Nat :=
  (k.op, k.ga, (k.sh 0).f, [(k.sh 0).lr, (k.sh 0).lc, (k.sh 2).lr, (k.sh 2).lc])

/-- R280: the fault of a pairing: TINFO0 to TINFO2. -/
def collFault (s : State) (ks : List Cmd) : Option (Word × Word × Word) :=
  let k0 := (ks.head?.map collKey).getD (.wstat, 0, 0, [])
  match (List.range ks.length).find? fun r => (ks[r]?.map collKey) != some k0 with
  | some r => some (BitVec.ofNat 64 r, 1, fw s 2)
  | none =>
    let root := k0.2.1.toNat / 2 ^ 16 % 2 ^ 16
    if root ≥ ks.length then some (BitVec.ofNat 64 root, 2, BitVec.ofNat 64 ks.length) else none

/-- The elements of a contribution, row by row. -/
def contribution (k : Cmd) : List Nat :=
  let h := k.sh 0
  let g := granPerRow h
  let row := fun r : Nat => ((k.buf.drop (r * g)).take g).flatten
  let rd := fun a : Nat => BitVec.ofNat 8 ((row (a / (h.rowLen + 1))).getD (a % (h.rowLen + 1)) 0)
  let t := { h with base := 0, pitch := BitVec.ofNat 24 (h.rowLen + 1) }
  (List.range h.lr).flatMap fun r => (List.range h.lc).map fun j => elemBits rd t r j

/-- R281: the format of the value field of COLL.argmax. -/
def argFmt (a : Nat) : Nat := match a with | 0 => 11 | 1 => 6 | _ => 7

/-- R281: the result of one element position: bits and flags. -/
def combine (op : Fin 4) (f arg root : Nat) (xs : List Nat) : Nat × Nat :=
  match op, xs with
  | _, [] => (0, 0)
  | 0, [x] => (x, 0)
  | 0, xs => let (v, fl, _) := sumGroup f (fun _ => ⟨0, 0⟩) 0 ((List.range xs.length).map fun i => (xs.getD i 0, i)); (v, fl)
  | 1, x :: t =>
    if fmtIsInt f then (t.foldl (fun a y => if intDecode f y > intDecode f a then y else a) x, 0)
    else t.foldl (fun (a : Nat × Nat) y => let r := fpMinMax f true a.1 y; (r.bits, a.2 ||| r.fl)) (x, 0)
  | 2, x :: t =>
    let v := fun y : Nat => y / 2 ^ 32
    let w := t.foldl (fun a y =>
      match ranksAbove (argFmt arg) (v y) (v a) with
      | .gt => y
      | .eq => if y % 2 ^ 32 < a % 2 ^ 32 then y else a
      | .lt => a) x
    (w, if t ≠ [] ∧ (xs.any fun y => isSnan (argFmt arg) (v y)) then flNV else 0)
  | _, xs => (xs.getD root 0, 0)

/-- R281: the result tile as the bytes of its rows. -/
def resultRows (h : Shape) (vs : List Nat) : List (List Byte) :=
  let t := { h with base := 0, t := false }
  (List.range h.lr).map fun r =>
    let z := { t with pitch := 0 }
    let cells := (List.range h.lc).foldl (fun (cells : List (Nat × Byte)) j =>
      (elemBytes (overlay cells fun _ => 0) z 0 j (vs.getD (r * h.lc + j) 0)).reverse ++ cells) []
    (List.range h.rowLen).map fun a => overlay cells (fun _ => 0) a

/-- R281, R282: a result lands in one participant, with new codes. -/
def landColl (s : State) (d : Ctx) (k : Cmd) (vs : List Nat) (fl : Nat) : State :=
  let h := k.sh 2
  let rows := resultRows h vs
  let keep := fun a : Nat => !(d.upper && dropsByte s k.issue d.tclk a)
  let s := ((List.range rows.length).zip rows).foldl (fun s (r, bs) =>
    fillPut s d.gunit (h.base.toNat + r * h.pitch.toNat) bs [] false keep) s
  updCtx s d.cid fun c => { c with
    r := { c.r with flg := c.r.flg ||| BitVec.ofNat 6 fl }
    cq := c.cq.map fun x => if x.id == k.id then { x with left := 0 } else x }

/-- R280 to R282: the COLL of a context whose paired contributions have all been read is combined and lands in every
participant of this package, or its fault is raised there. -/
def collCombine (s : State) (c : Ctx) (k : Cmd) : State :=
  let l := k.ga.toNat % 8
  let all := ranked s c l k.reqs
  let ks := all.filterMap (·.2)
  let own := (participants s c l).filterMap fun d => (collOf d l k.reqs).map fun x => (d, x)
  if ks.length ≠ all.length then s
  else
    match collFault s ks with
    | some (i0, i1, i2) =>
      own.foldl (fun s (d, x) => updCtx s d.cid fun y => { y with
        fatal := y.fatal.or (some ⟨0x21, i0, i1, i2, x.pc⟩)
        cq := y.cq.map fun z => if z.id == x.id then { z with left := 0 } else z }) s
    | none =>
      let op : Fin 4 := match k.op with | .coll o => o | _ => 0
      let cs := ks.map contribution
      let n := (k.sh 0).lr * (k.sh 0).lc
      let res := (List.range n).map fun i =>
        combine op (k.sh 0).f (k.ga.toNat / 16 % 4) (k.ga.toNat / 2 ^ 16 % 2 ^ 16) (cs.map fun x => x.getD i 0)
      let fl := res.foldl (fun a x => a ||| x.2) 0
      own.foldl (fun s (d, x) => landColl s d x (res.map (·.1)) fl) s

/-- R282, R352: the oldest COLL of a context whose contributions have all been read; its result is an arrival, which waits
while a participant's core settles. -/
def collPending (s : State) (c : Ctx) : Option Cmd :=
  c.cq.find? fun k =>
    match k.op with
    | .coll _ =>
      let l := k.ga.toNat % 8
      (collOf c l k.reqs).isSome && ((ranked s c l k.reqs).all fun x => x.2.isSome) &&
        !((participants s c l).any fun d => settling s d.gunit)
    | _ => false

/-- R282: COLL_COMBINE for a context. -/
def execCollCombine (cid : Nat) (s : State) : Outcome State :=
  match findCtx s cid with
  | none => .next s
  | some c =>
    match collPending s c with
    | some k => .next (collCombine s c k)
    | none => .next s

/-! ## Releases (R98, R268, R283, R287, R308, R346) -/

/-- R268: a stall of kind k whose cause has cleared ends: the task cycle is made. -/
def releaseStall (s : State) (cid k : Nat) : State :=
  match findCtx s cid with
  | none => s
  | some c =>
    if c.wait = .stall k then
      let t := focus s cid
      if cycleStall t t.ctx.now = some k then s else t.up fun x => { x with wait := .cycle }
    else s

/-- R98: room in the queue of a stalled VPUSH. -/
def execVpushStallRelease (cid : Nat) (s : State) : Outcome State := .next (releaseStall s cid 0)

/-- R283: room in the work queue of a stalled QLNCH. -/
def execQlnchQueueRoom (cid : Nat) (s : State) : Outcome State := .next (releaseStall s cid 1)

/-- R287: all proposals of the round of a stalled WTAKE are queued. -/
def execWtakeRelease (cid : Nat) (s : State) : Outcome State := .next (releaseStall s cid 2)

/-- R286, R308: the round of a stalled WDEPTH is final; the cycle that follows installs the record. -/
def execWdepthRelease (cid : Nat) (s : State) : Outcome State := .next (releaseStall s cid 3)

/-- R346, R358: the operands of a held task cycle are complete. -/
def execMissedOperandRelease (cid : Nat) (s : State) : Outcome State :=
  match findCtx s cid with
  | none => .next s
  | some c =>
    match c.wait with
    | .hold k =>
      if k = 0 ∨ k = 3 then
        let t := focus s cid
        if holdKind t t.ctx.tclk = some k then .next s else .next (t.up fun x => { x with wait := .none })
      else .next s
    | _ => .next s

end Sys2Proof.Machine
end

