-- ==== Sys2Proof/Machine/Roles.lean ====
section
/-! DEFINITION. Who issues on a core: parking, taking a role, starting and resuming (R15, R16, R120, R174, R414, R416,
R429), and the error log (R446). -/

namespace Sys2Proof.Machine

/-! ## Parking (R339, R380) -/

/-- R380: the context at hand parks at its boundary, its frame written with the cause PREEMPT. -/
def parkNow (s : State) : State :=
  let s := { s with free := s.free + 1 }
  let s := saveFrame s ⟨0x32, fw s 0, fw s 1, fw s 2, 0⟩
  let s := s.up fun c => { c with cands := [], preReq := false, preCnt := 0, preLate := false,
                                  iss := { c.iss with trapped := true } }
  leaveRole s s.ctx.cid

/-- A context may be parked where it stands: it issues its own program, or waits. -/
def canPark (c : Ctx) : Bool := c.status == .running && c.role != .parked && c.saved.isNone

/-! ## The ring (R39, R41) -/

/-- R39: the contexts of the ring task set. -/
def ring (s : State) : List Ctx := (allCtx s).filter fun c => c.live && c.upper && !c.swapped

/-- R41: every station that trapped runs again. -/
def ringReady (s : State) : Bool :=
  (ring s).any (fun c => c.status == .ringStop) && (ring s).all fun c => c.status == .ringStop || c.status == .running

/-- R41: once every station that trapped runs again, all stopped stations resume at T. -/
def resumeRing (s : State) : State :=
  if ringReady s then ((ring s).filter fun c => c.status == .ringStop).foldl (fun s c => resume (focus s c.cid)) s else s

/-! ## Accumulator files (R416) -/

/-- R258, R416: the tile images of a context's accumulator file. -/
def fileImage (s : State) (c : Ctx) : List Byte :=
  let t := { s with ctx := c }
  (List.range 4).flatMap fun k =>
    ((List.range 128).flatMap fun r => (List.range 128).flatMap fun x => leBytes 6 (accGet t k r x)) ++
      (List.range 128).flatMap fun r => (List.range 8).flatMap fun n =>
        leBytes 2 ((runCode t k r n).toNat.xor (runSyn t k r n).toNat)

/-- R415: a core's accumulator area. -/
def accArea (u : Nat) : Nat := heelKey (0x78000 * u + 0x10000)

/-- R416: the file slot of a context in the swap region; of a context that is swapped out, whose number is 4,096 higher, the
place of its file in its partition's slot (R417; DESIGN CHOICE, log 109). -/
def fileSlot (s : State) (cid : Nat) : Nat :=
  hbmKey (ownHome s) (s.img.swapBase +
    if cid < 4096 then cid * 0x62000
    else 1600 * 0x62000 + 192 * 2 ^ 21 + 64 * 2 ^ 23 + 1600 * 0x2000 + (cid - 4096) * 0x62000)

/-- R416: the file that lies in a core's accumulator area moves to the slot of its own context. -/
def clearArea (s : State) (u : Nat) : State :=
  match (getIsland s u).file with
  | none => s
  | some k =>
    let s := { s with mem := memPut s.mem (fileSlot s k) (memRead s.mem (accArea u) 0x62000) }
    updCtx { s with units := updIsland s.units u fun x => { x with file := none } } k fun x => { x with fileAt := 2 }

/-- R416: a parked context's file is saved by ACCST into its core's accumulator area, the file that lay there moving to the
slot of its own context. -/
def saveFile (s : State) (c : Ctx) : State :=
  let s := clearArea s c.gunit
  updCtx { s with
    mem := memPut s.mem (accArea c.gunit) (fileImage s c)
    units := updIsland s.units c.gunit fun u => { u with file := some c.cid } } c.cid fun x => { x with fileAt := 1 }

/-- R258, R416: the accumulator file of a context from four tile images at a key. -/
def loadFile (s : State) (c : Ctx) (k : Nat) : State :=
  let num := fun a n => leNat (memRead s.mem a n)
  let t := (List.range 512).foldl (fun (t : State) i =>
    let a := k + 0x18800 * (i / 128)
    let r := i % 128
    putTileRow t (i / 128) r ((List.range 128).map fun x => num (a + 768 * r + 6 * x) 6)
      ((List.range 8).map fun x => num (a + 98304 + 16 * r + 2 * x) 2)) { s with ctx := c }
  { s with acc := t.acc, asyn := t.asyn }

/-- R416: the file of a context that regains a role is restored by ACCLD from its core's accumulator area, to which it
moves first when it lies in its slot. -/
def restoreFile (s : State) (c : Ctx) : State :=
  if c.fileAt = 0 then s
  else
    let s := if c.fileAt = 1 then s
      else
        let s := clearArea s c.gunit
        { s with mem := memPut s.mem (accArea c.gunit) (memRead s.mem (fileSlot s c.cid) 0x62000) }
    updCtx { loadFile s c (accArea c.gunit) with
      units := updIsland s.units c.gunit fun u => { u with file := none } } c.cid fun x => { x with fileAt := 0 }

/-- R416: before a context of a core is granted X, the files of the parked contexts that own X leave the engine, and its own
is restored. -/
def switchFile (s : State) (c : Ctx) : State :=
  if c.upper ∨ !(c.hdr.engines.getD 1 false) then s
  else
    let olds := (allCtx s).filter fun d => d.live && !d.swapped && d.gunit == c.gunit && d.cid != c.cid && d.role == .parked &&
      d.started && d.hdr.engines.getD 1 false && d.fileAt == 0
    let s := olds.foldl saveFile s
    match findCtx s c.cid with
    | some d => restoreFile s d
    | none => s

/-! ## Taking a role (R15, R16, R429) -/

/-- The contexts that issue on a core or station. -/
def issuers (s : State) (u : Nat) : List Ctx := (allCtx s).filter fun c => c.live && c.gunit == u && c.role != .parked

/-- R16: the declared engines of two contexts are disjoint. -/
def enginesApart (c d : Ctx) : Bool := (List.range 3).all fun e => !(c.hdr.engines.getD e false && d.hdr.engines.getD e false)

/-- R131, R401, R452: the tasks of a context's launch may issue. -/
def launchReady (s : State) (c : Ctx) : Bool :=
  match findLaunch s c.lid with
  | some l => l.routed && (l.readyAt < s.tick || (l.readyAt == s.tick && l.readySub ≤ s.sub)) && publishedFor s l.after
  | none => true

/-- R15, R16: the parked contexts of a core that may take a role. -/
def eligible (s : State) (u : Nat) : List Ctx :=
  let is := issuers s u
  (allCtx s).filter fun c => c.live && c.gunit == u && c.role == .parked && !c.swapped && launchReady s c &&
    c.status == .running && is.all (enginesApart c)

/-- R15: of the eligible contexts the one that has waited longest, then the one with the lower work identifier, then the
one admitted first. -/
def nextRole (s : State) (u : Nat) : Option Ctx :=
  (eligible s u).foldl (fun (m : Option Ctx) c => match m with
    | none => some c
    | some d => if c.parkedAt < d.parkedAt || (c.parkedAt == d.parkedAt && (c.wid.toNat < d.wid.toNat ||
        (c.wid == d.wid && c.src < d.src))) then some c else some d)
    none

/-- R101, R313, R333: a task starts: it latches its launch's seed, and the first of its launch on the core resets the request
counters. -/
def startTask (s : State) : State :=
  let c := s.ctx
  let fresh := match findLaunch s c.lid with | some l => !(l.started.contains c.gunit) | none => false
  let s := if fresh then
      { updLaunch s c.lid (fun l => { l with started := l.started ++ [c.gunit] }) with
        units := updIsland s.units c.gunit fun u => { u with lreq := 0, rreq := 0 } }
    else s
  let seed := ((findLaunch s c.lid).map fun l => l.hdr.seed).getD c.hdr.seed
  s.up fun x => { x with started := true, status := .running, hdr := { x.hdr with seed := seed } }

/-- R15, R375, R429: a parked context takes a role, and starts or resumes; one that halted in its handler goes on in it
(R210). -/
def takeRole (s : State) (c : Ctx) : State :=
  let s := switchFile s c
  let s := focus s c.cid
  let alone := (issuers s c.gunit).isEmpty
  let s := s.up fun x => { x with role := if alone then .lead else .trail, slice := 0, collides := false, blocked := 0 }
  if !c.started then startTask s
  else if c.haltH then s.up fun x => { x with status := .handler, haltH := false }
  else resume s

/-- R15, R429: the roles of a core that may be filled: those vacant, but for each that was freed less than two ticks ago. -/
def openRoles (s : State) (u : Nat) : Nat :=
  (if u < 192 then 2 else 1) - (issuers s u).length - ((getIsland s u).freedAt.filter fun k => s.tick < k + 2).length

/-- R15, R429: a vacant role of a core is filled. -/
def fillRole (s : State) (u : Nat) : State :=
  if (getIsland s u).disabled ∨ (s.cob.swaps.any fun p => p.contains u) ∨ openRoles s u = 0 then s
  else
    match nextRole s u with
    | some c => takeRole s c
    | none => s

/-- R15: both roles of a core are filled as far as they can be. -/
def fillRoles (s : State) (u : Nat) : State := fillRole (fillRole s u) u

end Sys2Proof.Machine
end

