-- ==== Sys2Proof/Machine/Launch.lean ====
section
/-! DEFINITION. From the work queue to the completion record: the routing check (R400, R401, R452), gang admission and
fillers (R21, R39, R301, R314, R396, R399, R414), ageing, retirement (R23, R99, R378), logit faults (R312) and the end of
a launch (R128, R363, R393). -/

namespace Sys2Proof.Machine

/-! ## Queues and completion records (R390, R393, R399, R450) -/

/-- The launch at the head of a queue. -/
def headOf (s : State) (q : WorkQueue) : Option Launch := (q.heads.head?).bind (findLaunch s)

/-- R399: the next launch of a queue becomes its head, and the queue's level is its PRIO; a queue left without a head returns to
the base that it had. -/
def nextHead (s : State) (q base : Nat) : State :=
  let lvl := ((findQueue s q).bind (headOf s)).map fun l => l.hdr.prio
  updQueue s q fun x => { x with level := lvl.getD base, waited := 0 }

/-- R390: a queue whose session has closed unbinds with its last launch. -/
def unbindQueue (s : State) (q : Nat) : State :=
  updQueue s q fun x =>
    if (findSession s x.sid).isNone ∧ !(s.host.launches.any fun l => l.hdr.queue == q) then { x with sid := 0 } else x

/-- R393: the body of a COMPLETE of KIND 1. -/
def launchBody (l : Launch) (status : Nat) (wid : Word) (ti : List Word) (digest : List Byte) : List Byte :=
  leBytes 8 1 ++ leBytes 8 l.hdr.tag.toNat ++ leBytes 2 status ++ leBytes 6 0 ++ leBytes 8 wid.toNat ++
    ti.flatMap (fun w => leBytes 8 w.toNat) ++ digest

/-- R421, R449: the draw, of the Sole and of the Upper, of the contexts that a launch leaves behind. -/
def goneDraw (s : State) (lid : Nat) : Nat × Nat :=
  let sum := fun up : Bool => (((allCtx s).filter fun c => c.status == .retired && c.lid == lid && c.upper == up).map (·.draw)).sum
  (s.cob.gone.1 + sum false, s.cob.gone.2 + sum true)

/-- R393, R450: the completion of a launch goes to its queue's session, and the launch is gone. -/
def completeLaunch (s : State) (l : Launch) (body : List Byte) : State :=
  let q := l.hdr.queue
  let first := ((findQueue s q).bind fun x => x.heads.head?) == some l.lid
  let s := sendPkt s (((findQueue s q).map (·.sid)).getD 0) 0x81 body
  let s := updQueue s q fun x =>
    { x with heads := x.heads.filter (· != l.lid), doneN := x.doneN + 1, last := body }
  let s := { s with
    host := { s.host with launches := s.host.launches.filter fun x => x.lid != l.lid }
    others := s.others.filter fun c => !(c.lid == l.lid && c.status == .retired)
    ctx := if s.ctx.lid = l.lid ∧ s.ctx.status = .retired then Ctx.vacant else s.ctx
    units := s.units.map fun u => { u with loaded := u.loaded.filter (· != l.lid) }
    cob := { s.cob with
      gone := goneDraw s l.lid
      tables := s.cob.tables.filter fun t => t.lid != l.lid
      pendTables := s.cob.pendTables.filter fun t => t.lid != l.lid } }
  post (unbindQueue (if first then nextHead s q l.hdr.prio else s) q) .gangAdmission

/-- R394: a launch turned away at admission. -/
def rejectLaunch (s : State) (l : Launch) (status : Nat) (i0 : Word) : State :=
  completeLaunch s l (launchBody l status 0 [i0, 0, 0, 0] (List.replicate 32 0))

/-! ## Slot tables (R400, R401) -/

/-- Bytes of a launch's slot-table image. -/
def tableBytes (s : State) (h : Hdr) (o n : Nat) : Option (List Byte) :=
  let a := h.slots + o
  if (translate s (some h.rect) a .read).isSome ∧ (translate s (some h.rect) (a + n - 1) .read).isSome then
    some ((List.range n).map fun i => (cobblerByte s (some h.rect) (a + i)).getD 0)
  else none

/-- R400: the bytes of a record's body by its KIND. -/
def recordBody (kind : Nat) : Nat := if kind = 3 then 284 else if kind = 1 ∨ kind = 2 then 512 else 0

/-- R400: the records of the image, each with whether its head's reserved bits are zero; none stands for one that is not
readable or of no KIND, after which nothing can be read. -/
def tableRecs (s : State) (h : Hdr) (lid : Nat) : Nat → Nat → List (Option (TableRec × Bool))
  | 0, _ => []
  | n + 1, o =>
    match tableBytes s h o 8 with
    | none => [none]
    | some hd =>
      let k := recField hd 0 1
      let m := recordBody k
      if m = 0 then [none]
      else
        match tableBytes s h (o + 8) m with
        | none => [none]
        | some b =>
          let w := if k = 3 then 4 else 2
          let flag := recField hd 3 1
          some (⟨lid, k, recField hd 1 1, recField hd 2 1, flag % 2 == 1, recField hd 4 1,
            (List.range (m / w)).map fun i => recField b (w * i) w⟩,
            flag < 2 && recField hd 5 3 == 0) :: tableRecs s h lid n (o + 8 + m)

/-- R400: the input that an output takes in a slot: 0 N, 1 E, 2 S, 3 W, 4 L, 7 OPEN. Outputs: 0 L, 1 N, 2 E, 3 S, 4 W. -/
def outputOf (w out : Nat) : Nat := w / 2 ^ (12 - 3 * out) % 8

/-- R401: fields, units and words in their ranges. -/
def recordRange (h : Hdr) (t : TableRec) : Bool :=
  let g := fun i => h.rect.getD i 0
  t.x < g 2 && t.y < g 3 &&
    (if t.kind = 2 then t.unit < 16 else t.unit < (if t.upper then 64 else 192)) &&
    (match t.kind with
      | 1 => t.words.all fun w => w < 2 ^ 15 && (List.range 5).all fun o => outputOf w o != 5 && outputOf w o != 6
      | 2 => t.words.all fun w => w ≥ 2 ^ 15 || w == 0
      | _ => true)

/-- The record of a KIND for a unit of a package. -/
def recordOf (ts : List TableRec) (kind x y : Nat) (upper : Bool) (unit : Nat) : Option TableRec :=
  ts.find? fun t => t.kind == kind && t.x == x && t.y == y && (kind == 2 || t.upper == upper) && t.unit == unit

/-- R1, R162, R401: the router that a link leads to: on the Sole, by its grid of 16 columns and 12 rows. -/
def routerNeighbour (upper : Bool) (unit d : Nat) : Option Nat :=
  if upper then Config.routerNeighbour unit d
  else
    let r := unit / 16
    let c := unit % 16
    if d = 1 ∨ d = 3 then
      if (d == 3) == Config.rowsSouth then (if r + 1 < 12 then some (unit + 16) else none)
      else if r = 0 then none else some (unit - 16)
    else if (d == 2) == Config.columnsEast then (if c + 1 < 16 then some (unit + 1) else none)
    else if c = 0 then none else some (unit - 1)

/-- R401: every output that is not OPEN is taken as an input by the neighbour in the next slot. -/
def routerMeets (ts : List TableRec) (t : TableRec) : Bool :=
  t.kind != 1 || (List.range 256).all fun sl => [1, 2, 3, 4].all fun d =>
    outputOf (t.words.getD sl 0) d == 7 ||
      (match routerNeighbour t.upper t.unit d with
        | none => false
        | some u =>
          match recordOf ts 1 t.x t.y t.upper u with
          | none => false
          | some n => (List.range 5).any fun o => outputOf (n.words.getD ((sl + 1) % 256) 0) o == (d + 1) % 4)

/-- R401: the two ends of a Lace link agree when both lie in the rectangle. -/
def portMeets (h : Hdr) (ts : List TableRec) (t : TableRec) : Bool :=
  let g := fun i => h.rect.getD i 0
  t.kind != 2 ||
    match Config.laceOtherEnd (g 0 + t.x) (g 1 + t.y) t.unit with
    | none => true
    | some (x, y, p) =>
      if g 0 ≤ x ∧ x < g 0 + g 2 ∧ g 1 ≤ y ∧ y < g 1 + g 3 then
        ((recordOf ts 2 (x - g 0) (y - g 1) false p).map (·.words)).getD (List.replicate 256 0) == t.words
      else true

/-- R401, R444: an owned slot that a resident launch owns, or that a port with a dropped lane does not carry. -/
def slotTaken (s : State) (h : Hdr) (t : TableRec) : Bool :=
  let g := fun i => h.rect.getD i 0
  let mine := (s.img.px == g 0 + t.x && s.img.py == g 1 + t.y)
  let lost := t.kind == 2 && mine && s.cob.dropped.contains t.unit &&
    (List.range 256).any fun sl => sl % 8 == 7 && t.words.getD sl 0 ≥ 2 ^ 15
  let clash := (s.cob.tables ++ s.cob.pendTables).any fun o =>
    match findLaunch s o.lid with
    | none => false
    | some l =>
      o.kind == t.kind && t.kind != 3 && o.unit == t.unit && (t.kind == 2 || o.upper == t.upper) &&
        l.hdr.rect.getD 0 0 + o.x == g 0 + t.x && l.hdr.rect.getD 1 0 + o.y == g 1 + t.y &&
        (List.range 256).any fun sl =>
          let a := o.words.getD sl 0
          let b := t.words.getD sl 0
          if t.kind = 2 then a ≥ 2 ^ 15 && b ≥ 2 ^ 15
          else (List.range 5).any fun p => outputOf a p != 7 && outputOf b p != 7
  lost || clash

/-- R400: a route record's core or station. -/
def routeKey (h : Hdr) (t : TableRec) : Nat × Nat := (pkgHome (h.rect.getD 0 0 + t.x) (h.rect.getD 1 0 + t.y), t.unit)

/-- R400, R401: the routing check of a launch: the first record that fails (none for a core without one), or the
records. -/
def routingCheck (s : State) (l : Launch) : Except (Option Nat) (List TableRec) :=
  let h := l.hdr
  match tableBytes s h 0 8 with
  | none => .error none
  | some d =>
    let nrec := recField d 0 2
    if recField d 2 6 ≠ 0 then .error none
    else
      let rs := tableRecs s h l.lid nrec 8
      let ts := rs.filterMap fun x => x.map (·.1)
      let routes := ts.filter (·.kind == 3)
      let dup := fun i => match ts[i]? with
        | some t => t.kind == 3 && t.upper == h.upper && (coreList s h).contains (routeKey h t) &&
            (ts.take i).any fun o => o.kind == 3 && routeKey h o == routeKey h t && o.upper == t.upper
        | none => false
      match (List.range rs.length).find? fun i =>
          match rs[i]? with
          | some (some (t, ok)) => !(ok && recordRange h t && routerMeets ts t && portMeets h ts t) || slotTaken s h t || dup i
          | _ => true with
      | some i => .error (some i)
      | none =>
        if nrec ≠ 0 ∧ (coreList s h).any fun c => !(routes.any fun t => routeKey h t == c && t.upper == h.upper) then .error none
        else .ok ts

/-- R452: T_c in reference ticks. -/
def checkTicks (h : Hdr) (ts : List TableRec) : Nat :=
  let g := fun i => h.rect.getD i 0
  let most := fun k => (List.range (g 2 * g 3)).foldl (fun m i =>
    max m (ts.filter fun t => t.kind == k && t.x == i % g 2 && t.y == i / g 2).length) 0
  100 + 20 * most 1 + 30 * most 2 + 10 * most 3 + 2 * (g 2 * g 3)

/-- R351, R401, R452: a launch whose tables have switched: its first task issues when its records are written, 102.4 bytes a
nanosecond, in the subdivision of a reference tick in which that ends. -/
def routeLaunch (s : State) (l : Launch) : State :=
  let n := cdiv ((l.hdr.imglen - l.hdr.codelen) * 21) 1024
  updLaunch s l.lid fun x => { x with routed := true, readyAt := s.tick + 50 + n / 21, readySub := n % 21 }

/-- R401: the frame boundaries of Lace ports, every 327.68 ns, that fall in a reference tick. -/
def laceFrame (tick : Nat) : Bool := tick * 1000 / 32768 != (tick - 1) * 1000 / 32768

/-- R400, R401: routers switch to the checked tables at their next frame boundary, and Lace ports at theirs; a launch is
routed after the last switch. -/
def execRouterTableSwitch (s : State) : Outcome State :=
  let due := s.host.launches.filter fun l => !l.routed && l.readyAt != 0 && l.readyAt ≤ s.tick
  let is := fun t : TableRec => due.any fun l => l.lid == t.lid
  let now := s.cob.pendTables.filter fun t => is t && (if t.kind = 2 then laceFrame s.tick else s.tick % 16 = 0)
  let s := { s with cob := { s.cob with
    tables := s.cob.tables ++ now
    pendTables := s.cob.pendTables.filter fun t => !(now.contains t) } }
  let open_ := fun l : Launch => !(s.cob.pendTables.any fun t => t.lid == l.lid)
  .next ((due.filter fun l => open_ l && (s.tick % 16 = 0 || now.any fun t => t.lid == l.lid)).foldl routeLaunch s)

/-! ## Gang admission (R21, R396, R399, R414) -/

/-- R21: the gangs of a launch. -/
def Hdr.gangs (h : Hdr) : Nat := h.tasks / h.gangSize

/-- R21, R397: the tasks of gang k that go to the own package, in ascending order of work identifier: number and core or
station among all units. -/
def gangTasks (s : State) (h : Hdr) (k : Nat) : List (Nat × Nat) :=
  let cores := coreList s h
  ((List.range h.gangSize).map fun i => k * h.gangSize + i).filterMap fun o =>
    let (home, u) := taskPlace h cores (fieldVals h.extents o)
    if home = ownHome s then some (o, if h.upper then 192 + u else u) else none

/-- A context stands on a unit. -/
def residents (s : State) (u : Nat) : List Ctx := (allCtx s).filter fun c => c.live && c.gunit == u && !c.swapped

/-- R396, R414: two launches share a unit only with disjoint grants. -/
def grantsApart (s : State) (l : Launch) (u : Nat) : Bool :=
  let others := (getIsland s u).loaded.filter (· != l.lid)
  others.all fun k =>
    match findLaunch s k with
    | none => true
    | some m => l.hdr.gbase + l.hdr.quota ≤ m.hdr.gbase || m.hdr.gbase + m.hdr.quota ≤ l.hdr.gbase

/-- R21, R414: the tasks of a gang all find a context. -/
def admissible (s : State) (l : Launch) (ts : List (Nat × Nat)) : Bool :=
  ts.all fun (_, u) =>
    grantsApart s l u &&
      (residents s u).length + (ts.filter fun x => x.2 == u).length ≤ (if l.hdr.upper then 1 else 8)

/-- R444: a gang that needs a unit that is disabled; a disabled station disables the Upper. -/
def needsDisabled (s : State) (l : Launch) (ts : List (Nat × Nat)) : Bool :=
  if l.hdr.upper then s.units.any fun u => u.disabled && 192 ≤ u.n && u.n < 256
  else ts.any fun (_, u) => (getIsland s u).disabled

/-- R414: the lowest free context number of a unit. -/
def freeCtxno (s : State) (u : Nat) : Nat :=
  ((List.range 8).find? fun k => !((residents s u).any fun c => c.ctxno == k)).getD 0

/-- R162: CORE. -/
def coreWord (s : State) (upper : Bool) (unit ctxno : Nat) : Word :=
  BitVec.ofNat 64 (at' s.img.domain 38 + at' s.img.px 33 + at' s.img.py 28 + at' (b2n upper) 27 + at' ctxno 24 + unit)

/-- R174: the registers of a task at its start. -/
def startRegs (h : Hdr) : Regs :=
  { Regs.zero with ft := vec 16 0 h.ft, st := vec 32 0 h.st }

/-- R313: the host changes the seed of a launch: it reaches the tasks that start afterwards. -/
def changeSeed (s : State) (lid : Nat) (seed : Word) : State :=
  updLaunch s lid fun l => { l with hdr := { l.hdr with seed := seed } }

/-- R8, R195, R296, R313: the commit of a write of a control register, and the management writes of a slot's record and of
a launch's seed, which come as this step (log 118). -/
def execRegisterWrite (r : RegTarget) (val : Word) (s : State) : Outcome State :=
  .next (match r with
    | .ctl c => writeCtl s c.toNat val
    | .slot n k => manageSlot s n k val
    | .seed lid => changeSeed s lid val)

/-- R13, R162, R174, R376: the context of task o of a launch on a unit, parked. -/
def newCtx (s : State) (l : Launch) (o u : Nat) : Ctx :=
  let h := l.hdr
  let n := if h.upper then 0 else freeCtxno s u
  let unit := if h.upper then u - 192 else u
  let wid := BitVec.ofNat 64 (h.widOf o)
  let pc := BitVec.ofNat 64 (h.prog + h.entry)
  { Ctx.vacant with
    cid := cidOf h.upper unit n
    src := s.fresh
    lid := l.lid
    wid := wid
    core := coreWord s h.upper unit n
    unit := unit
    ctxno := n
    upper := h.upper
    status := .running
    r := startRegs h
    pc := pc
    npc := pc
    hdr := h
    code := l.code
    grant := h.engines
    tmr := if h.tmen then BitVec.ofNat 33 (2 ^ 32 + h.period) else 0
    signals := (l.sigs.filter fun x => x.1 == wid).map (·.2)
    parkedAt := s.tick }

/-- R396: the scratchpad records of a launch are written once on each core. -/
def loadRecords (s : State) (l : Launch) (u : Nat) : State :=
  if (getIsland s u).loaded.contains l.lid then s
  else
    let s := l.recs.foldl (fun s (a, bs) => fillPut s u a bs [] false fun _ => true) s
    { s with units := updIsland s.units u fun x => { x with loaded := x.loaded ++ [l.lid] } }

/-- One task receives its context. -/
def admitTask (s : State) (l : Launch) (o u : Nat) : State :=
  let c := newCtx s l o u
  let s := loadRecords s l u
  { s with others := s.others ++ [c], fresh := s.fresh + 1 }

/-- R301, R308, R333: an Upper launch brings its PQCAP, and the common clock of each ring task set that is admitted on the own
package starts at 0. -/
def startRing (s : State) (l : Launch) (ts : List (Nat × Nat)) : State :=
  if l.hdr.upper ∧ !ts.isEmpty then
    { s with
      lanes := []
      rows := []
      welt := { s.welt with pqcap := l.hdr.pqcap, installs := s.welt.installs.map fun i => { i with t := 0 } } }
  else s

/-- R399: a queue waits while its head has tasks that are not admitted. -/
def isWaiting (s : State) (q : WorkQueue) : Bool := match headOf s q with | some l => !l.ending && l.gangsDone < l.hdr.gangs | none => false

/-- R314, R380: pre-emption requested of the issuing contexts of a unit that a condition names. -/
def requestPreempt (s : State) (p : Ctx → Bool) : State :=
  mapCtx s fun c => if c.live ∧ c.role ≠ .parked ∧ !c.preReq ∧ p c then { c with preReq := true, preCnt := 0 } else c

/-- R399: the gang of a launch is admitted whole; the queue's level returns to its base. -/
def admitGang (s : State) (l : Launch) (ts : List (Nat × Nat)) : State :=
  let s := startRing s l ts
  let s := ts.foldl (fun s (o, u) => admitTask s l o u) s
  let q := l.hdr.queue
  let s := updLaunch s l.lid fun x => { x with gangsDone := x.gangsDone + 1 }
  let s := { s with host := { s.host with
    served := (List.range 8).map fun k =>
      if some k = (findQueue s q).map (·.level) then q else s.host.served.getD k 4095 } }
  let s := updQueue s q fun x =>
    { x with heads := if l.gangsDone + 1 ≥ l.hdr.gangs then x.heads.filter (· != l.lid) else x.heads }
  let s := nextHead s q l.hdr.prio
  let us := ts.map (·.2)
  let s := if l.hdr.filler then s else requestPreempt s fun c => c.hdr.filler && us.contains c.gunit
  post s .gangAdmission

/-- R400, R401, R452: the first admission of a launch makes its routing check. -/
def firstAdmission (s : State) (l : Launch) : Except State State :=
  if l.readyAt ≠ 0 then .ok s
  else
    match routingCheck s l with
    | .error i => .error (rejectLaunch s l 0x106 (match i with | some k => BitVec.ofNat 64 k | none => fw s 0))
    | .ok ts => .ok { updLaunch s l.lid (fun x => { x with adm := s.net.hist.length, readyAt := s.tick + checkTicks l.hdr ts }) with
        cob := { s.cob with pendTables := s.cob.pendTables ++ ts } }

/-- R399: the waiting queues of an effective level, in the order in which they are served. -/
def levelQueues (s : State) (filler : Bool) (k : Nat) : List WorkQueue :=
  let qs := sortBy (fun (a b : WorkQueue) => a.q ≤ b.q) (s.host.queues.filter fun q => q.level == k && isWaiting s q &&
    ((headOf s q).any fun l => l.hdr.filler == filler))
  let last := s.host.served.getD k 4095
  qs.filter (fun q => last < q.q) ++ qs.filter fun q => q.q ≤ last

/-- What the arbiter finds: a gang to admit or reject, and the cores kept for gangs of higher levels, each with its
level. -/
structure Pick where
  found : Option (Launch × List (Nat × Nat))
  kept : List (Nat × Nat)
  deriving DecidableEq, Repr

/-- R399: one level is served, on the cores that no gang of a higher level needs; the cores of a gang that cannot be
admitted there are kept for it. -/
def pickLevel (s : State) (k : Nat) (p : Pick) : Pick :=
  if p.found.isSome then p
  else
    let above := p.kept.map (·.1)
    (levelQueues s false k).foldl (fun p q =>
      if p.found.isSome then p
      else
        match headOf s q with
        | none => p
        | some l =>
          let ts := gangTasks s l.hdr l.gangsDone
          if needsDisabled s l ts ∨ (admissible s l ts ∧ !(ts.any fun t => above.contains t.2)) then
            { p with found := some (l, ts) }
          else { p with kept := p.kept ++ ts.map fun t => (t.2, k) }) p

/-- R399: the arbiter's choice. -/
def pickGang (s : State) : Pick := [7, 6, 5, 4, 3, 2, 1, 0].foldl (fun p k => pickLevel s k p) ⟨none, []⟩

/-- R314: a core that a waiting gang needs is no bubble; one that none needs any more becomes one now. -/
def markBubbles (s : State) (kept : List (Nat × Nat)) : State :=
  { s with units := s.units.map fun u =>
    { u with bubble := if kept.any fun x => x.1 == u.n then none else u.bubble.or (some s.tick) } }

/-- R314: the bubbles: Sole cores with a vacant role that no waiting gang needs, in order of their start. -/
def bubbles (s : State) (kept : List (Nat × Nat)) : List Nat :=
  let us := (List.range 192).filter fun u => !(getIsland s u).disabled && (issuers s u).length < 2 && !(kept.any fun x => x.1 == u)
  sortBy (fun a b => ((getIsland s a).bubble.getD s.tick) ≤ ((getIsland s b).bubble.getD s.tick)) us

/-- R314: the next filler task in queue order, by priority and then age. -/
def nextFiller (s : State) : Option Launch :=
  ((s.host.queues.filter (isWaiting s)).filterMap (headOf s)).filter (·.hdr.filler) |>.foldl (fun (m : Option Launch) l =>
    match m with
    | none => some l
    | some x => if x.hdr.prio < l.hdr.prio || (x.hdr.prio == l.hdr.prio && l.lid < x.lid) then some l else some x) none

/-- R314: the bubble that takes a filler's next task. -/
def fillerPlace (s : State) (l : Launch) (kept : List (Nat × Nat)) : Option Nat :=
  let mine := ((coreList s l.hdr).filter fun c => c.1 == ownHome s).map (·.2)
  (bubbles s kept).find? fun u => mine.contains u && admissible s l [(l.gangsDone, u)] &&
    (issuers s u).all (enginesApart { Ctx.vacant with hdr := l.hdr })

/-- R314, R444: a filler that none of its cores on this package is left to run. -/
def fillerDead (s : State) (l : Launch) : Bool :=
  let mine := (coreList s l.hdr).filter fun c => c.1 == ownHome s
  !mine.isEmpty && mine.all fun c => (getIsland s c.2).disabled

/-- R399, R314, R401: an admission opportunity: one gang is admitted, or its launch rejected, and the next opportunity
follows; failing that, one filler task goes to a bubble; a gang that finds no place asks for pre-emption. -/
def execGangAdmission (s : State) : Outcome State :=
  let p := pickGang s
  let s := markBubbles s p.kept
  match p.found with
  | some (l, ts) =>
    if needsDisabled s l ts then .next (rejectLaunch s l 0x103 (fw s 0))
    else
      match firstAdmission s l with
      | .error t => .next t
      | .ok t => .next (admitGang t l ts)
  | none =>
    let s := requestPreempt s fun c => p.kept.any fun x => x.1 == c.gunit && c.hdr.prio < x.2
    match nextFiller s with
    | none => .next s
    | some l =>
      if fillerDead s l then .next (rejectLaunch s l 0x103 (fw s 0))
      else
      match fillerPlace s l p.kept with
      | none => .next s
      | some u =>
        match firstAdmission s l with
        | .error t => .next t
        | .ok t => .next (admitGang t l [(l.gangsDone, u)])

/-- R399: a queue that has waited its time at its level rises by one. -/
def execQueueAgeing (q : Nat) (s : State) : Outcome State :=
  match findQueue s q with
  | none => .next s
  | some x =>
    let a := s.img.age.getD x.level 0 * 100
    if isWaiting s x ∧ a ≠ 0 ∧ x.waited ≥ a ∧ x.level < 7 then
      .next (updQueue s q fun y => { y with level := y.level + 1, waited := 0 })
    else .next s

/-! ## Retirement (R23, R99, R312, R378) -/

/-- R99: one claim of the context at hand ends, as a merge of the claim field under R90. -/
def endClaim (s : State) (a : Nat) : State :=
  let c := s.ctx
  if spadSyn s a ≠ 0 then startTest s 0 c.gunit (bankOf c.upper a) (BitVec.ofNat 64 (a / 32 * 32)) []
  else
    let q := QWord.ofNat (leNat (spadRead s a 32))
    let s := if q.pctx = c.ctxno then putCells s (runCells (a + 1) (claimBytes s a true 15)) else s
    if q.cctx = c.ctxno then putCells s (runCells (a + 1) (claimBytes s a false 15)) else s

/-- R23: END's waits are over: nothing of the context is pending. A handler's END discards the frame's latches and its
commands. -/
def endDone (c : Ctx) : Bool :=
  c.wait == .ending && c.latches.isEmpty && c.dws.isEmpty && c.cands.isEmpty && c.swt.isNone && c.fatal.isNone &&
    (c.saved.isSome || (c.vq.isEmpty && c.xq.isEmpty && c.cq.isEmpty && c.uws.isEmpty))

/-- R23, R106: END may retire its task: its waits are over and no window is bound. -/
def endReady (c : Ctx) : Bool := endDone c && c.wins.isEmpty

/-- R23, R99, R128, R420: the context at hand is freed: its claims end, its role and power level are released, its
interrupts are discarded. It is kept as a source until its launch completes. -/
def freeCtx (s : State) : State :=
  let s := s.ctx.claims.foldl endClaim s
  let c := s.ctx
  let s := leaveRole s c.cid
  let s := updLaunch s c.lid fun l => { l with retired := l.retired + 1 }
  let s := { s with cob := { s.cob with
    held := s.cob.held.filter fun x => x.1 != c.cid
    pwr := s.cob.pwr.filter fun x => x.cid != c.cid
    classified := s.cob.classified.filter fun x => x.cid != c.cid } }
  let s := s.up fun x => { x with
    status := .retired, claims := [], signals := [], notices := [], tmrPend := 0, latches := [], dws := [], redo := []
    vq := [], xq := [], cq := [], uws := [], saved := none, wait := .none, wins := [], pwrlvl := 0 }
  let s := { s with
    host := { s.host with preqs := s.host.preqs.filter fun r => !(r.kind == 0 && r.src == c.src) }
    others := s.others ++ [s.ctx]
    ctx := Ctx.vacant
    acc := s.acc.filter fun a => a.1.1 != c.src
    rota := s.rota.filter (· != c.cid)
    units := updIsland s.units c.gunit fun u => { u with file := if u.file = some c.cid then none else u.file } }
  post s .gangAdmission

/-- R378: the open phase of a context that is ended does not publish. -/
def dropOpenPhase (s : State) : State :=
  let c := s.ctx
  { s with net := { s.net with pieces := s.net.pieces.filter fun p => !(p.src == c.src && p.phase == c.openPh) } }

/-- R23, R378: a task retires: by END, or ended with its launch. -/
def execTaskRetirement (cid : Nat) (s : State) : Outcome State :=
  match findCtx s cid with
  | none => .next s
  | some c =>
    let s := focus s cid
    if (findLaunch s c.lid).any (·.ending) then .next (freeCtx (dropOpenPhase s))
    else if endReady c then .next (freeCtx (closePhase s 4))
    else .next s

/-- R312, R365, R377: a logit task is in the Cobbler's hands with LOGIT_FAULT: by its trap already, or now, because its TCLK
has reached LBUDGET. -/
def logitTaken (s : State) : State :=
  if s.ctx.status = .trapped ∧ s.ctx.tcause = 0x24 then s else takeLogitFault { s with free := s.free + 1 } 0

/-- R312: a logit task is ended: its open phase is published as END publishes, it retires, and its slot is marked. -/
def execLogitFault (cid : Nat) (s : State) : Outcome State :=
  match findCtx s cid with
  | none => .next s
  | some c =>
    match logitSlot c with
    | none => .next s
    | some n =>
      let s := updLaunch (updSlot s n fun x => { x with fault := true }) c.lid fun l => { l with early := true }
      .next (freeCtx (closePhase (logitTaken (focus s cid)) 4))

/-! ## Completion (R128, R363) -/

/-- R363: the input of one result range. -/
def rangeInput (s : State) (h : Hdr) (r : Nat × Nat) : List Byte :=
  leBytes 8 r.1 ++ leBytes 8 r.2 ++ (List.range r.2).filterMap fun i =>
    let va := r.1 + i
    if h.profg.any fun (a, n) => a ≤ va && va < a + n then none
    else some ((cobblerByte s (some h.rect) (va % 2 ^ 56)).getD ((fw s 0).setWidth 8))

/-- R363: the digest of a launch. -/
def launchDigest (s : State) (l : Launch) : List Byte :=
  if l.hdr.det ∧ l.failed.isNone ∧ !l.early then sha256 (l.hdr.result.flatMap (rangeInput s l.hdr)) else List.replicate 32 0

/-- The tasks of a launch that go to the own package. -/
def ownTasks (s : State) (h : Hdr) : Nat :=
  if h.filler then h.tasks else ((List.range h.gangs).map fun k => (gangTasks s h k).length).foldl (· + ·) 0

/-- R23, R128, R378: all tasks of a launch have retired, or it has ended with none that lives, and their final phases are
published. -/
def launchDone (s : State) (l : Launch) : Bool :=
  let cs := (allCtx s).filter fun c => c.status != .vacant && c.lid == l.lid
  cs.all (fun c => c.status == .retired && c.closing.isEmpty) &&
    (l.ending || (l.gangsDone ≥ l.hdr.gangs && l.retired ≥ ownTasks s l.hdr))

/-- R128, R363, R393: the completion record leaves. -/
def execLaunchCompletion (lid : Nat) (s : State) : Outcome State :=
  match findLaunch s lid with
  | none => .next s
  | some l =>
    if !(launchDone s l) then .next s
    else
      let (st, wid, ti) : Nat × Word × List Word := match l.failed with
        | some (cause, w, v) => (cause, w, v.toList)
        | none => (0, 0, [0, 0, 0, 0])
      .next (completeLaunch { s with free := s.free + 1 } l (launchBody l st wid ti (launchDigest s l)))

end Sys2Proof.Machine
end

