-- ==== Sys2Proof/Machine/Sched.lean ====
section
/-! DEFINITION. What the package does on its own clock and through the Cobbler: timers, slices and pre-emption (R376, R381,
R428), power (R420, R425), heat and operating points (R352, R419, R422), watchdogs (R423), self-tests (R444, R445), the
services and commands of the Cobbler (R418, R426, R430), and partition swap (R417). -/

namespace Sys2Proof.Machine

/-! ## Timers, slices, pre-emption -/

/-- R376: the reference timer of a context counts: it is armed, the context holds a role and issues its program, and its
first bundle has issued. -/
def timerRuns (c : Ctx) : Bool :=
  c.tmr.toNat / 2 ^ 32 == 1 && c.tmr.toNat % 2 ^ 32 != 0 && c.role != .parked && c.status == .running && c.begun

/-- R376: a timer that has counted its period: one more period is pending. -/
def execTimerExpiry (cid : Nat) (s : State) : Outcome State :=
  match findCtx s cid with
  | none => .next s
  | some c =>
    if timerRuns c ∧ c.tmrCnt ≥ c.tmr.toNat % 2 ^ 32 then
      .next (updCtx s cid fun x => { x with tmrCnt := 0, tmrPend := x.tmrPend + 1 })
    else .next s

/-- R428: a parked context whose wait count has reached SLICE has pre-emption requested of those that collide with it. -/
def execSliceExpiry (cid : Nat) (s : State) : Outcome State :=
  match findCtx s cid with
  | none => .next s
  | some c =>
    if c.role = .parked ∧ s.img.slice ≠ 0 ∧ c.slice = s.img.slice then
      .next (requestPreempt s fun d => d.gunit == c.gunit && !(enginesApart c d))
    else .next s

/-- R381: a request that has waited for the iteration bound: PREEMPT_LATE is pending. -/
def execPreemptLate (cid : Nat) (s : State) : Outcome State :=
  match findCtx s cid with
  | none => .next s
  | some c =>
    if c.preReq ∧ c.role ≠ .parked ∧ c.preCnt ≥ c.hdr.ibound then
      .next (updCtx s cid fun x => { x with preLate := true })
    else .next s

/-! ## Power -/

/-- R420: the level a context holds. -/
def heldLevel (s : State) (cid : Nat) : Nat := ((s.cob.held.find? fun x => x.1 == cid).map (·.2)).getD 0

/-- R420: the levels held change. -/
def setHeld (s : State) (cid level : Nat) : State :=
  let r := s.cob.held.filter fun x => x.1 != cid
  { s with cob := { s.cob with held := if level = 0 then r else r ++ [(cid, level)] } }

/-- R420: a context of a die by its number. -/
def cidUpper (cid : Nat) : Bool := cid % 4096 ≥ 1536

/-- R420: what counts against a die's budget, with the requester at the level it asks for. -/
def budgetUsed (s : State) (r : PwrReq) : Nat :=
  let up := cidUpper r.cid
  let held := ((s.cob.held.filter fun x => cidUpper x.1 == up && x.1 != r.cid).map (·.2)).foldl (· + ·) 0
  let free := ((allCtx s).filter fun c => c.live && c.upper == up && c.role != .parked && c.cid != r.cid &&
    heldLevel s c.cid == 0).length
  r.level + held + free * s.img.deflvl

/-- R291: a write of the power level of a context one task cycle from where it stands, parked or not. -/
def levelWrite (c : Ctx) (v : Nat) : Ctx :=
  let w := fun t : Nat => DWrite.mk (t + 1) t 15 0 (.pwrlvl v)
  match c.saved with
  | some x => { c with saved := some { x with dws := x.dws ++ [w x.t] }, pwrWait := false }
  | none => { c with dws := c.dws ++ [w c.tclk], pwrWait := false }

/-- R291, R420: the request at the head of a die's queue is granted when it fits the budget. -/
def execPwraGrant (upper : Bool) (s : State) : Outcome State :=
  match s.cob.pwr.find? fun r => cidUpper r.cid == upper with
  | none => .next s
  | some r =>
    if budgetUsed s r ≤ (if upper then s.img.upbud else s.img.solebud) then
      let s := setHeld { s with cob := { s.cob with pwr := s.cob.pwr.erase r } } r.cid r.level
      .next (updCtx s r.cid fun c => levelWrite c r.level)
    else .next s

/-- R425, R427: the static energy of a tick, in equal shares to the contexts that hold a role, the remainder to the
lead. -/
def execStaticChargeTick (unit : Nat) (s : State) : Outcome State :=
  let is := issuers s unit
  if is.isEmpty then .next s
  else
    let p := s.img.pstat * 10
    let n := is.length
    let s := mapCtx s fun c =>
      if c.live ∧ c.gunit = unit ∧ c.role ≠ .parked then
        c.charge (p / n + if c.role = .lead then p % n else 0) false
      else c
    .next { s with units := updIsland s.units unit fun u => { u with eisl := (u.eisl + p) % 2 ^ 64 } }

/-! ## Heat and operating points -/

/-- R422: the temperature that judges an island: the hottest station's for a station. -/
def judgedTemp (temps : List (Nat × Nat)) (n : Nat) : Nat :=
  if 192 ≤ n ∧ n < 256 then ((temps.filter fun x => 192 ≤ x.1 && x.1 < 256).map (·.2)).foldl max 0
  else ((temps.find? fun x => x.1 == n).map (·.2)).getD 0

/-- R419, R422: an island at a sample: throttled or not, at the earliest 1 ms after its last change. -/
def sampleIsland (tick thresh temp judged : Nat) (u : Island) : Island :=
  let u := { u with temp := temp }
  let want := if u.thr then !(judged + 4 * u.hyst ≤ 4 * thresh) else decide (judged ≥ 4 * thresh)
  let may := u.thrAt.all fun k => k + 100000 ≤ tick
  if want != u.thr && may then
    Island.repoint { u with thr := want, thrAt := some tick, thrN := (u.thrN + 1) % 2 ^ 32 }
  else u

/-- R422: every launch of the package ends, and the arithmetic islands stop. -/
def criticalHeat (s : State) (isl : Nat) : State :=
  let s := { s with free := s.free + 1 }
  let s := { s with
    host := { s.host with launches := s.host.launches.map fun l =>
      { l with ending := true, failed := l.failed.or (some (0x21, fw s 0, #v[fw s 1, fw s 2, fw s 3, 0])) } }
    units := (List.range 256).foldl (fun us n => updIsland us n fun u => { u with disabled := true }) s.units }
  logEntry s s.tick 0 3 5 isl 0 0

/-- R422: the temperatures of the islands are sampled. -/
def execThermalSample (temps : List (Nat × Nat)) (s : State) : Outcome State :=
  let s := { s with units := temps.foldl (fun us (n, t) =>
    updIsland us n (sampleIsland s.tick s.img.thresh t (judgedTemp temps n))) s.units }
  match temps.find? fun x => x.2 ≥ 4 * s.img.tcrit with
  | some (n, _) => .next (criticalHeat s n)
  | none => .next s

/-- R352: no request of a core is in transit across its boundary. -/
def coreQuiet (s : State) (u : Nat) : Bool :=
  let on := fun v : Nat => if u = 192 then 192 ≤ v && v < 256 else v == u
  !(s.net.pieces.any fun p =>
    (on p.dstUnit && p.delivers && p.state == .atHome && deliverable s p) ||
      ((srcCtx s p.src).any (fun c => on c.gunit) && (p.state == .flight || (p.state == .atHome && p.returns))))

/-- R352: the quiesce point: the contexts freeze, and the core moves to its pending point within the settling latency. -/
def execOpSwitchQuiesce (unit : Nat) (s : State) : Outcome State :=
  let u := getIsland s unit
  match u.pendOp with
  | none => .next s
  | some p =>
    if u.settle.isSome ∨ !(coreQuiet s unit) then .next s
    else
      let top := if Config.band u.opc.val = Config.band p.val then 20 else 800
      let d := 1 + Config.settleTicks s.tick unit % top
      .next { s with units := updIsland s.units unit fun x => { x with settle := some (s.tick + d) } }

/-- R352: the core has settled: the point is in force, on the Upper at every station. -/
def execOpSwitchSettled (unit : Nat) (s : State) : Outcome State :=
  let u := getIsland s unit
  match u.pendOp, u.settle with
  | some p, some k =>
    if s.tick < k then .next s
    else
      let us := updIsland s.units unit fun x => Island.repoint { x with opc := p, settle := none }
      .next { s with units := if unit = 192 then
        (List.range 63).foldl (fun us i => updIsland us (193 + i) fun x => { x with opc := p }) us else us }
  | _, _ => .next s

/-! ## Watchdogs -/

/-- R423: a watchdog ends the launch of a context. -/
def watchdogFatal (s : State) (cid kind count : Nat) : State :=
  let s := focus { s with free := s.free + 1 } cid
  takeTrap s ⟨0x21, BitVec.ofNat 64 kind, BitVec.ofNat 64 count, fw s 2, 0⟩

/-- R423: the hang watchdog. -/
def execHangWatchdogExpiry (cid : Nat) (s : State) : Outcome State :=
  match findCtx s cid with
  | none => .next s
  | some c => .next (if s.img.hangt ≠ 0 ∧ c.hang ≥ s.img.hangt then watchdogFatal s cid 1 c.hang else s)

/-- R423: the wait watchdog. -/
def execWaitWatchdogExpiry (cid : Nat) (s : State) : Outcome State :=
  match findCtx s cid with
  | none => .next s
  | some c => .next (if s.img.dwait ≠ 0 ∧ c.dwait ≥ s.img.dwait then watchdogFatal s cid 2 c.dwait else s)

/-! ## Self-tests -/

/-- R377: the trap under which a context lies. -/
def heldTrap (c : Ctx) : Trap := ⟨c.tcause, c.tinfo[0], c.tinfo[1], c.tinfo[2], c.tinfo[3]⟩

/-- R445: the contexts that wait at the fence of a unit receive the class of its test, if they meet an error there. -/
def classifyWaiting (s : State) (x : SelfTest) (pass : Bool) : State :=
  let t := { s with cob := { s.cob with tests := [x] } }
  let late := (allCtx s).filter fun c => c.live && c.owed && fenced (focus t c.cid) c.now
  { s with cob := { s.cob with
    classified := s.cob.classified ++ late.map fun c => ⟨c.cid, x.ukind, x.idx, c.tclk, pass⟩ } }

/-- R377, R445, R446: the contexts that the errors of a test trapped receive its class; of one that its error has ended, only
the error is logged. -/
def classifyTrapped (s : State) (x : SelfTest) (pass : Bool) : State :=
  x.cids.foldl (fun s (cid, tick) =>
    match (findCtx s cid).filter fun c => c.status == .trapped && c.tcause == 0x16 with
    | some c => takeClass (focus s cid) tick (heldTrap c) x.ukind x.unit x.idx pass
    | none => logEntry s tick 0x16 (b2n !pass) x.ukind (unitField x.ukind x.unit x.idx) x.addr (cid % 4096)) s

/-- R444, R446: the entry of an error that no context met. -/
def logQuiet (s : State) (x : SelfTest) (pass : Bool) : State :=
  if x.cids.isEmpty then logEntry s x.tick 0 (b2n !pass) x.ukind (unitField x.ukind x.unit x.idx) x.addr 0 else s

/-- R377, R445, R446: a test that passed: every context that its errors trapped receives its own CHECK_MISMATCH. -/
def testPassed (s : State) (x : SelfTest) : State := classifyWaiting (classifyTrapped (logQuiet s x true) x true) x true

/-- R444: the Lace port has lost a lane: resident launches that own slots it no longer carries end. -/
def dropLane (s : State) (port : Nat) : State :=
  let hit := s.host.launches.filter fun l => s.cob.tables.any fun t =>
    t.lid == l.lid && t.kind == 2 && t.unit == port &&
    s.img.px == l.hdr.rect.getD 0 0 + t.x && s.img.py == l.hdr.rect.getD 1 0 + t.y &&
    (List.range 256).any fun sl => sl % 8 == 7 && t.words.getD sl 0 ≥ 2 ^ 15
  let fail := some (0x21, fw s 0, #v[fw s 1, fw s 2, fw s 3, (0 : Word)])
  let s := hit.foldl (fun s l => updLaunch s l.lid fun x => { x with ending := true, failed := x.failed.or fail }) s
  { s with cob := { s.cob with dropped := s.cob.dropped ++ [port] } }

/-- R444: the retirement of a unit: a bank to its spare, a core, a lane of a port; a retired HBM frame is only logged. -/
def retireUnit (s : State) (x : SelfTest) : State :=
  let off := fun s : State => { s with units := updIsland s.units x.unit fun u => { u with disabled := true } }
  match x.ukind with
  | 0 =>
    let g := x.idx / (if x.unit < 192 then 16 else 64)
    if (getIsland s x.unit).spares.contains g then off s
    else { s with units := updIsland s.units x.unit fun u => { u with spares := u.spares ++ [g] } }
  | 1 => off s
  | 2 => off s
  | 3 => dropLane s x.idx
  | _ => s

/-- R377, R444: a test that failed: the unit is retired, and the contexts receive FATAL_CONTEXT with their info words
kept. -/
def testFailed (s : State) (x : SelfTest) : State :=
  let s := retireUnit { s with free := s.free + 1, cob := { s.cob with retired := s.cob.retired + 1 } } x
  classifyWaiting (classifyTrapped (logQuiet s x false) x false) x false

/-- R444, R445: a targeted self-test ends. -/
def execSelfTestEnd (test : Nat) (pass : Bool) (s : State) : Outcome State :=
  match s.cob.tests.find? fun x => x.n == test with
  | none => .next s
  | some x =>
    if s.tick < x.ends then .next s
    else
      let s := { s with cob := { s.cob with tests := s.cob.tests.filter fun y => y.n != test } }
      .next (if pass then testPassed s x else testFailed s x)

/-- R444: a link error, or another that no context traps on: the unit is tested. -/
def execLinkError (ukind unit idx : Nat) (s : State) : Outcome State := .next (startTest s ukind unit idx 0 [])

/-! ## The Cobbler's services and commands -/

/-- R41, R426, R430: an energy service for the context at hand: the frame's ENERGY is replaced, and the context resumes, on the
Upper with the ring if no other station stands trapped. -/
def serveEnergy (s : State) (cid imm : Nat) (f : State → Nat) : State :=
  match findCtx s cid with
  | none => s
  | some c =>
    if c.status = .trapped ∧ c.tcause = 0x10 ∧ c.tinfo[0].toNat = imm ∧ c.tinfo[1] = 1 then
      let s := focus s cid
      resumeRing (resume (setFrameDword s 16 (BitVec.ofNat 64 (f s))))
    else s

/-- R426: SVC 0x0E01: ENERGY := frame g1[47:0], bit 63 cleared. -/
def execSvcSetEnergy (cid : Nat) (s : State) : Outcome State :=
  .next (serveEnergy s cid 0x0E01 fun s => (frameDword s 33).toNat % 2 ^ 48)

/-- R426: SVC 0x0E02: bit 63 cleared, the count kept. -/
def execSvcClearEnergyFlag (cid : Nat) (s : State) : Outcome State :=
  .next (serveEnergy s cid 0x0E02 fun s => (frameDword s 16).toNat % 2 ^ 63)

/-- R210, R418: a halted context may take a role again. -/
def execCtxcmdResume (cid : Nat) (s : State) : Outcome State :=
  .next (updCtx s cid fun c =>
    if c.status ≠ .halted then c else { c with status := .running, parkedAt := s.tick })

/-- R418: a task is ended with FATAL_CONTEXT. -/
def execCtxcmdEndTask (cid : Nat) (s : State) : Outcome State :=
  match findCtx s cid with
  | none => .next s
  | some _ =>
    let s := focus { s with free := s.free + 1 } cid
    .next (fatalNow s ⟨0x21, fw s 0, fw s 1, fw s 2, 0⟩)

/-- R418, R380: a context that issues is parked; the ring task set parks as a whole. -/
def execCtxcmdPark (cid : Nat) (s : State) : Outcome State :=
  match findCtx s cid with
  | none => .next s
  | some c =>
    let ids := if c.upper then ((allCtx s).filter fun d => d.live && d.upper).map (·.cid) else [cid]
    if ids.all fun k => (findCtx s k).any canPark then .next (ids.foldl (fun s k => parkNow (focus s k)) s)
    else .next s

/-! ## Partition swap (R417) -/

/-- Bytes with their codes copied from key `a` to key `b`; the dirty bits of their sectors move with them (R14). -/
def moveRegion (s : State) (a b n : Nat) : State :=
  let inA := fun k : Nat => a / 32 ≤ k && k < (a + n) / 32
  let to_ := fun k : Nat => k + b / 32 - a / 32
  let bs := memRead s.mem a n
  let moved := (s.synd.filter fun x => inA x.1).map fun x => (to_ x.1, x.2)
  { s with
    mem := memPut s.mem b bs
    synd := moved ++ s.synd.filter fun x => !(b / 32 ≤ x.1 && x.1 < (b + n) / 32)
    dirty := (s.dirty.filter fun k => inA k).map to_ ++ s.dirty.filter fun k => !(inA k) }

/-- R417: where the swap region keeps the scratchpad of a unit. -/
def swapSpad (s : State) (u : Nat) : Nat :=
  hbmKey (ownHome s) (s.img.swapBase + 1600 * 0x62000 + (if u < 192 then u * 2 ^ 21 else 192 * 2 ^ 21 + (u - 192) * 2 ^ 23))

/-- R417: where the swap region keeps the frame and the engine image of a context. -/
def swapFrame (s : State) (cid : Nat) : Nat :=
  hbmKey (ownHome s) (s.img.swapBase + 1600 * 0x62000 + 192 * 2 ^ 21 + 64 * 2 ^ 23 + cid * 0x2000)

/-- R417: the contexts of a partition that stand on their cores. -/
def partition (s : State) (us : List Nat) : List Ctx := (allCtx s).filter fun c => c.live && !c.swapped && us.contains c.gunit

/-- R417: the partition is halted: all its contexts are parked, and none has an incomplete command. -/
def partitionHalted (s : State) (us : List Nat) : Bool :=
  (partition s us).all fun c => c.role == .parked && c.cq.all fun k => k.left == 0

/-- R417: a context that leaves its core, or returns, under a number that no other context takes meanwhile; its power
level and its power request stay its own. -/
def renumber (s : State) (a b : Nat) (out : Bool) : State :=
  let n := fun k : Nat => if k = a then b else k
  { updCtx s a (fun x => { x with swapped := out, cid := b, parkedAt := s.tick }) with
    cob := { s.cob with
      held := s.cob.held.map fun x => (n x.1, x.2)
      pwr := s.cob.pwr.map fun x => { x with cid := n x.cid }
      classified := s.cob.classified.map fun x => { x with cid := n x.cid } }
    units := s.units.map fun u => { u with file := u.file.map n } }

/-- R416, R417 step 3: the accumulator file of a context that owns X leaves its engine: into the core's accumulator area, or for
a station into its file slot. A file that lies in its slot already goes with its partition (log 109). -/
def swapOutFile (s : State) (c : Ctx) : State :=
  if !(c.hdr.engines.getD 1 false) ∨ !c.started then s
  else if c.upper then
    updCtx { s with mem := memPut s.mem (fileSlot s c.cid) (fileImage s c) } c.cid fun x => { x with fileAt := 2 }
  else
    match (findCtx s c.cid).map (·.fileAt) with
    | some 0 => saveFile s c
    | some 2 => { s with mem := memPut s.mem (fileSlot s (c.cid + 4096)) (memRead s.mem (fileSlot s c.cid) 0x62000) }
    | _ => s

/-- R417 step 3 reversed: the file of a context that has its former number again returns to its engine. -/
def swapInFile (s : State) (c : Ctx) : State :=
  match (findCtx s c.cid).map (·.fileAt) with
  | none | some 0 => s
  | _ =>
    let area := !c.upper && (getIsland s c.gunit).file == some c.cid
    let slot := fileSlot s (if c.upper then c.cid else c.cid + 4096)
    let s := loadFile s c (if area then accArea c.gunit else slot)
    updCtx { s with units := if area then updIsland s.units c.gunit fun u => { u with file := none } else s.units }
      c.cid fun x => { x with fileAt := 0 }

/-- R14, R417 step 4: the window, phase, claim and timer entries of a context, as its engine image takes them: how many, the
phases, the timer, the acquire stamps, the windows, the claims and the scopes at which its phases were closed. No rule gives
their layout, and nothing reads them but the part (DESIGN CHOICE, log 109). -/
def imageEntries (c : Ctx) : List Nat :=
  [c.wins.length, c.claims.length, c.closing.length, (c.closing.map (·.1)).headD 0, c.openPh, c.pubd, c.tmr.toNat, c.tmrCnt,
    c.tmrPend] ++ c.stamps.toList ++ c.wins.flatMap (fun w => [w.idx.val, w.base, w.len, w.va, w.fromT]) ++ c.claims ++
    packWords 3 21 (c.closing.map (·.2)) (cdiv c.closing.length 21)

/-- R14, R417: the entries of a context restored from its engine image; what was published meanwhile is no phase to publish. -/
def restoreEntries (s : State) (c : Ctx) : Ctx :=
  let w := fun i => leNat (memRead s.mem (heelKey (imageAddr c + 8 * i)) 8)
  let nw := w 0
  let nc := w 1
  let at_ := 14 + 5 * nw + nc
  { c with
    openPh := w 4
    pubd := max c.pubd (w 5)
    closing := ((List.range (w 2)).map fun j => (w 3 + j, w (at_ + j / 21) / 2 ^ (3 * (j % 21)) % 8)).filter fun x => c.pubd ≤ x.1
    tmr := BitVec.ofNat 33 (w 6)
    tmrCnt := w 7
    tmrPend := w 8
    stamps := Vector.ofFn fun k => w (9 + k.val)
    wins := (List.range nw).map fun j =>
      let b := 14 + 5 * j
      ⟨Fin.ofNat 8 (w b), w (b + 1), w (b + 2), w (b + 3), w (b + 4)⟩
    claims := (List.range nc).map fun j => w (14 + 5 * nw + j) }

/-- R417 steps 3 and 4 for one context. -/
def swapOutCtx (s : State) (c : Ctx) : State :=
  let g := spadKey c.gunit c.hdr.gbase
  let s := swapOutFile s c
  let s := { s with mem := memPut s.mem (heelKey (imageAddr c)) (((imageEntries c).take 512).flatMap (leBytes 8)) }
  let s := moveRegion s g (swapSpad s c.gunit + c.hdr.gbase) c.hdr.quota
  let s := moveRegion s (heelKey (frameAddr c)) (swapFrame s c.cid) 0x1000
  let s := moveRegion s (heelKey (imageAddr c)) (swapFrame s c.cid + 0x1000) 0x1000
  renumber s c.cid (c.cid + 4096) true

/-- The contexts of a partition, one of each launch on a unit first, since a launch's tasks share one grant. -/
def swapGrants (cs : List Ctx) : List Ctx :=
  cs.foldl (fun m c => if m.any fun d => d.gunit == c.gunit && d.lid == c.lid then m else m ++ [c]) []

/-- R417: a partition is swapped out once it is halted; until then its contexts are asked to park. -/
def execPartitionSwapOut (us : List Nat) (s : State) : Outcome State :=
  if partitionHalted s us then
    let cs := partition s us
    let lead := swapGrants cs
    let s := cs.foldl (fun s c => swapOutCtx s (if lead.any (fun d => d.cid == c.cid) then c else
      { c with hdr := { c.hdr with quota := 0 } })) s
    let s : State := { s with
      cob := { s.cob with swaps := s.cob.swaps.filter fun p => p != us }
      units := s.units.map fun u => if us.contains u.n then { u with loaded := [] } else u }
    .next (post s .gangAdmission)
  else
    let s := requestPreempt s fun c => us.contains c.gunit
    .next { s with cob := { s.cob with swaps := if s.cob.swaps.contains us then s.cob.swaps else s.cob.swaps ++ [us] } }

/-- R417: one context comes back to its former core and number. -/
def swapInCtx (s : State) (c : Ctx) : State :=
  let cid := c.cid - 4096
  let s := moveRegion s (swapSpad s c.gunit + c.hdr.gbase) (spadKey c.gunit c.hdr.gbase) c.hdr.quota
  let s := moveRegion s (swapFrame s cid) (heelKey (frameAddr c)) 0x1000
  let s := moveRegion s (swapFrame s cid + 0x1000) (heelKey (imageAddr c)) 0x1000
  let s := renumber s c.cid cid false
  let s := updCtx s cid (restoreEntries s)
  let s := swapInFile s { c with cid := cid, swapped := false }
  { s with units := updIsland s.units c.gunit fun u =>
      { u with loaded := if u.loaded.contains c.lid then u.loaded else u.loaded ++ [c.lid] } }

/-- R417: a partition returns when its cores are free. -/
def execPartitionSwapIn (us : List Nat) (s : State) : Outcome State :=
  let cs := (allCtx s).filter fun c => c.live && c.swapped && us.contains c.gunit
  if cs.isEmpty ∨ !(partition s us).isEmpty then .next s
  else
    let lead := swapGrants cs
    .next (cs.foldl (fun s c => swapInCtx s (if lead.any (fun d => d.cid == c.cid) then c else
      { c with hdr := { c.hdr with quota := 0 } })) s)

end Sys2Proof.Machine
end

