-- ==== Sys2Proof/Machine/Host.lean ====
section
/-! DEFINITION. The host's side: datagrams and sessions (R387 to R390), the commands other than LAUNCH (R391, R392), the
QUERY spaces (R443, R446, R449, R450), the driver's records (R402 to R411), answers to page requests (R379, R410) and
migration (R408, R409, R412). -/

namespace Sys2Proof.Machine

/-! ## Sessions (R388 to R390) -/

/-- R388: a packet outside a session, which carries SID 0 and a TAG of zero, is sent once and needs no answer. -/
def sendBare (s : State) (type : Nat) (body : List Byte) : State :=
  { s with host := { s.host with out := s.host.out ++ [⟨0, 0, type, body, List.replicate 16 0, 0, 0⟩] } }

/-- R388: the queues that an OPEN names are unbound and exist. -/
def queuesFree (s : State) (q n : Nat) : Bool :=
  q + n ≤ 4096 && s.host.queues.all fun x => !(q ≤ x.q && x.q < q + n && x.sid != 0)

/-- R388: the four checks of an OPEN, and its form. -/
def openOk (s : State) (b : List Byte) : Bool :=
  b.length == 232 && hdrZero b 164 4 && s.img.keys.contains (b.take 64) &&
    ecdsaVerify (b.take 64) (sha256 (b.take 168)) (b.drop 168) &&
    s.host.sessions.length < Config.maxSessions && queuesFree s (recField b 160 2) (recField b 162 2)

/-- R388: the queues of a session are bound to it. -/
def bindQueues (s : State) (sid q n : Nat) : State :=
  let old := s.host.queues.map fun x => if q ≤ x.q ∧ x.q < q + n then { x with sid := sid } else x
  let new := ((List.range n).map (q + ·)).filter fun k => !(s.host.queues.any fun x => x.q == k)
  { s with host := { s.host with queues := old ++ new.map fun k => ⟨k, sid, [], 0, 0, 0, 0, [], 0⟩ } }

/-- R388: the session that an OPEN opens, and the ACCEPT. -/
def acceptOpen (s : State) (b : List Byte) : State :=
  let sid := s.fresh
  let priv := Config.freshBytes (2 * s.fresh) 32
  let nonce := Config.freshBytes (2 * s.fresh + 1) 32
  let hn := (b.drop 128).take 32
  let z := ecdhSecret priv ((b.drop 64).take 64)
  let mk := hmac256 (hn ++ nonce) z
  let body := leBytes 4 sid ++ ecdhPublic priv ++ nonce
  let sig := ecdsaSign s.img.idpriv (sha256 (b ++ body))
  let x : Session := ⟨sid, s.fresh + 1, b.take 64, hn, hmac256 mk (asciiBytes "vct h2d" ++ [1]),
    hmac256 mk (asciiBytes "vct d2h" ++ [1]), recField b 160 2, recField b 162 2, 0, [], [], 1, [], 0⟩
  sendBare (bindQueues { s with fresh := s.fresh + 2, host := { s.host with sessions := s.host.sessions ++ [x] } }
    sid x.qfirst x.qcount) 0x41 (body ++ sig)

/-- R388, R441: OPEN: a session, or REFUSE; before boot the ports are closed. -/
def execOpenSession (body : List (BitVec 8)) (s : State) : Outcome State :=
  if s.recovery then .next (sendBare s 0x42 (leBytes 2 0x104))
  else if !s.booted then .next s
  else if openOk s body then .next (acceptOpen s body)
  else .next (sendBare s 0x42 (leBytes 2 0x10D))

/-! ## Answers to page requests (R379, R410) -/

/-- R379: the status of a suspended PROBE: its write to gb is due 2 task cycles after its issue, and its wait is over; a
context that holds no role goes on when it regains one. -/
def answerProbe (s : State) (r : PageReq) (status : Nat) : State :=
  match (allCtx s).find? fun c => c.live && c.src == r.src with
  | none => s
  | some c =>
    match (match c.saved with | some v => v.wait | none => c.wait) with
    | .probe va id =>
      let t := { s with ctx := c }
      match c.cq.find? fun k => k.id == id with
      | none => s
      | some k =>
        let w := if status = 1 then (probeWord t (cAddr va) (k.aux % 2 == 1) 1).getD 1 else BitVec.ofNat 64 status
        let u : UWrite := ⟨2, id, 0, k.issue + 2, 5, .gb k.dst w, 0, 0⟩
        updCtx s c.cid fun x => { x with
          saved := x.saved.map fun v => { v with wait := .none }
          wait := if x.saved.isSome then x.wait else .none
          uws := x.uws ++ [u]
          cq := x.cq.map fun y => if y.id == id then { y with state := .running, freed := true, left := 0, rp := 1 } else y }
    | _ => s

/-- R410: the granules of a parked piece that one request asked for (log 135). -/
def parkedAs (s : State) (id : Nat) : List Nat :=
  match findPiece s id with
  | none => []
  | some p => ((parkedPieces s).filter (samePage p)).map (·.id)

/-- R409: the home of a page and its frame's address there: its entry's, as a LOCAL page. -/
def pageHome (s : State) (g : Seg) (va : Nat) : Option (Nat × Nat) :=
  locate s none g (entryAt s g va &&& ~~~(BitVec.ofNat 64 (2 ^ 52))) (va / 65536 * 65536)

/-- R410: the home whose fault queue a request was made for: that of its piece, or, when that is gone, of its page. -/
def faultHome (s : State) (r : PageReq) : Option Nat :=
  ((findPiece s r.cid).map fun p => p.goesTo s).or
    (((segOf s r.va.toNat).bind fun g => pageHome s g r.va.toNat).map (·.1))

/-- R410: the pieces in the fault queue of a home go on to it in the order of their arrival; those whose page is still unmapped
are parked again, in that order. -/
def unparkPieces (s : State) (home : Nat) : State :=
  let go := fun q : Piece => if q.state == .parked && q.goesTo s == home then { q with state := .flight, due := s.cycle } else q
  { s with net := { s.net with pieces := s.net.pieces.map go } }

/-- R410: a parked piece is refused. -/
def failPiece (s : State) (id : Nat) : State :=
  (parkedAs s id).foldl (fun s k => match findPiece s k with | some p => refusePiece s p | none => s) s

/-- R379, R410: an answer to an open request: 1 mapped, 2 failure. -/
def answerReq (s : State) (r : PageReq) (status : Nat) : State :=
  let s := { s with host := { s.host with preqs := s.host.preqs.erase r } }
  if r.kind = 0 then answerProbe s r status
  else if r.kind = 2 then (if status = 1 then ((faultHome s r).map (unparkPieces s)).getD s else failPiece s r.cid)
  else s

/-- R390: a session closes. -/
def closeNow (s : State) (sid : Nat) : State :=
  let qs := (s.host.queues.filter fun q => q.sid == sid).map (·.q)
  let dead := s.host.launches.filter fun l => qs.contains l.hdr.queue && l.readyAt == 0
  let live : Nat → Bool := fun k => !(dead.any fun d => d.lid == k)
  let ls := s.host.launches.filter fun l => live l.lid
  let ws := s.host.queues.map fun (q : WorkQueue) => { q with heads := q.heads.filter live }
  let moved := (s.host.queues.filter fun q => q.heads.head?.any fun l => !(live l)).map fun q =>
    (q.q, ((headOf s q).map fun l => l.hdr.prio).getD q.level)
  let s : State := { s with host := { s.host with launches := ls, queues := ws } }
  let s := moved.foldl (fun s x => nextHead s x.1 x.2) s
  let s := (s.host.preqs.filter fun r => r.sid == sid).foldl (fun s r => answerReq s r 2) s
  let s := (s.welt.slots.filter fun x => x.sid == sid && !x.done).foldl cancelSlot s
  let s := { s with host := { s.host with
    sessions := s.host.sessions.filter fun x => x.sid != sid
    out := s.host.out.filter fun p => p.sid != sid
    waits := s.host.waits.filter fun w => w.sid != sid
    ansFails := s.host.ansFails.filter fun a => a.1 != sid } }
  qs.foldl unbindQueue s

/-- R390: CLOSE of a session. -/
def execCloseSession (sid : Nat) (s : State) : Outcome State :=
  match findSession s sid with
  | none => .next s
  | some _ => .next (closeNow s sid)

/-- R389: an ACK of the host ends the sending of a packet. -/
def execAck (sid sq : Nat) (s : State) : Outcome State :=
  .next { s with host := { s.host with out := s.host.out.filter fun p => !(p.sid == sid && p.sq == sq && p.sends != 0) } }

/-- R389, R390: the device closes a session, and its CLOSE leaves under the session's key. -/
def closeByDevice (s : State) (x : Session) : State :=
  let p : OutPkt := ⟨x.sid, x.next, 0x43, [], packetTag x x.next 0x43 [], 0, 0⟩
  let s := closeNow s x.sid
  { s with host := { s.host with out := s.host.out ++ [p] } }

/-- R389: a packet without an ACK is sent again every 100 µs; after 64 sends its session closes. -/
def execRetransmit (sid sq : Nat) (s : State) : Outcome State :=
  match s.host.out.find? fun p => p.sid == sid && p.sq == sq && p.sends != 0 && p.due ≤ s.tick with
  | none => .next s
  | some p =>
    if p.sends ≥ 64 then .next (match findSession s sid with | some x => closeByDevice s x | none => s)
    else .next { s with host := { s.host with out := s.host.out.map fun x =>
      if x = p then { x with sends := x.sends + 1, due := s.tick + 10000 } else x } }

/-! ## Datagrams (R387, R389, R391) -/

/-- A number in the byte order of network headers. -/
def netNat (l : List Byte) : Nat := l.foldl (fun n b => n * 256 + b.toNat) 0

/-- The sum of the 16-bit words of a network packet, an odd last byte padded. -/
def wordSum : List Byte → Nat
  | a :: b :: l => a.toNat * 256 + b.toNat + wordSum l
  | [a] => a.toNat * 256
  | [] => 0

/-- R387: the UDP destination port of an IPv6 packet without extension headers (PRESUMED, log 114). -/
def udpPort (d : List Byte) : Nat := netNat ((d.drop 42).take 2)

/-- R387: the UDP checksum of an IPv6 packet fails: over its addresses, the length, the protocol and the datagram the sum
is not that of all ones, or no checksum is given (PRESUMED, log 114). -/
def badChecksum (d : List Byte) : Bool :=
  let n := wordSum ((d.drop 8).take 32) + netNat ((d.drop 44).take 2) + 17 + wordSum (d.drop 40)
  d.length < 48 || netNat ((d.drop 46).take 2) == 0 || n == 0 || n % 65535 != 0

/-- R387: a packet that is no VCT packet. -/
def badDatagram (d : List Byte) : Bool :=
  let ty := recField d 3 1
  d.length < 40 || recField d 0 2 != 0x5643 || recField d 2 1 != 1 || d.length != 40 + recField d 18 2 ||
    recField d 18 2 > 8192 || !([1, 2, 3, 4, 5, 6, 0x40, 0x41, 0x42, 0x43, 0x80, 0x81, 0x82, 0x83, 0x84, 0x85].contains ty)

/-- R391: the step a SIGNAL names. -/
def signalEvent (sid sq : Nat) (b : List Byte) : Option Event :=
  let f := recField b
  let n := b.length
  match f 0 1 with
  | 0 => if n = 32 then some (.signalTask sid sq (BitVec.ofNat 64 (f 8 8)) (BitVec.ofNat 64 (f 16 8)) (BitVec.ofNat 64 (f 24 8))) else none
  | 1 => if n = 600 then some (.signalOpenSlot sid sq (f 8 2) (b.drop 16)) else none
  | 2 => if n = 16 then some (.signalCancel sid sq (f 8 2) (BitVec.ofNat 32 (f 12 4))) else none
  | 3 => if n = 16 then some (.signalRelease sid sq (f 8 2) (BitVec.ofNat 32 (f 12 4))) else none
  | _ => none

/-- R391: the step a QUERY names. -/
def queryEvent (sid sq : Nat) (b : List Byte) : Option Event :=
  let f := recField b
  let i := f 4 4
  let o := f 8 4
  let n := f 12 2
  if b.length ≠ 14 ∨ n = 0 ∨ n > 1022 then none
  else
    match f 0 1 with
    | 0 => some (.queryManagement sid sq i o n)
    | 1 => some (.querySlotRecord sid sq i o n)
    | 2 => some (.queryTrapFrame sid sq i o n)
    | 3 => some (.queryQueueState sid sq i o n)
    | 4 => some (.querySlotTables sid sq i o n)
    | 5 => some (.queryErrorLog sid sq i o n)
    | 6 => some (.queryAttestation sid sq i o n)
    | _ => none

/-- R379, R411: the steps of a PAGEANS: its records in order, then its answer; one that names no open request is discarded
but for its COMPLETE. A record of no OP fails as one outside its limits, with a frame that no record may name (log 115). -/
def answerEvents (stale : Bool) (sid sq : Nat) (b : List Byte) : Option (List Event) :=
  let f := recField b
  let n := f 10 2
  if b.length ≠ 16 + 32 * n ∨ n > 255 ∨ f 8 2 > 1 then none
  else
    let recs := (List.range n).map fun i =>
      let o := 16 + 32 * i
      let w := fun k => BitVec.ofNat 64 (f (o + k) 8)
      match f o 1 with
      | 1 => Event.pageEntryWrite sid sq i (w 8) (w 16)
      | 2 => .segmentEntryWrite sid sq i (w 8) (w 16) (w 24)
      | 3 => .pageMigrate sid sq i (w 8) (w 16)
      | 4 => .mapCacheInvalidate sid sq i (w 8)
      | 5 => .freeFrameAppend sid sq i (w 16)
      | 6 => .segmentWordsWrite sid sq i (w 8) (w 16) (w 24)
      | _ => .freeFrameAppend sid sq i (BitVec.ofNat 64 (2 ^ 28))
    some ((if stale then [] else recs) ++
      [if f 8 2 = 0 then .pageansMapped sid sq (f 0 8) else .pageansFailure sid sq (f 0 8)])

/-- R379: a PAGEANS whose RSEQ names no open request of its session. -/
def stalePageans (s : State) (sid : Nat) (b : List Byte) : Bool :=
  let r := recField b 0 8
  r != 0 && !(s.host.preqs.any fun x => x.rseq == r && x.sid == sid)

/-- R391: the steps that an accepted packet asks for; none when its body is outside its limits. Reserved bytes of the
header and of bodies are ignored (DESIGN CHOICE, log 116). -/
def packetEvents (stale : List Byte → Bool) (sid sq : Nat) (d : List Byte) : Option (List Event) :=
  let b := (d.drop 24).take (recField d 18 2)
  let f := recField b
  let n := b.length
  let w := fun k => BitVec.ofNat 64 (f k 8)
  match recField d 3 1 with
  | 1 => if n = 512 then some [.launch sid sq (recField d 16 2) b] else none
  | 2 => if 9 ≤ n ∧ n ≤ 8192 then some [.hostcopyIn sid sq (w 0) (b.drop 8)] else none
  | 3 => if n = 12 ∧ 1 ≤ f 8 4 ∧ f 8 4 ≤ 8176 then some [.hostcopyOut sid sq (w 0) (f 8 4)] else none
  | 4 => (signalEvent sid sq b).map ([·])
  | 5 => if n = 32 ∧ f 0 8 % 8 = 0 ∧ f 24 1 < 4 then some [.waitval sid sq (w 0) (w 8) (w 16) (f 24 1) (f 28 4)] else none
  | 6 => (queryEvent sid sq b).map ([·])
  | 0x43 => some [.closeSession sid]
  | 0x80 => if n = 10 then some [.ack sid (f 0 8)] else none
  | 0x85 => answerEvents (stale b) sid sq b
  | _ => none

/-- R389: the LAUNCH of a session's number has been accepted and not yet judged: a copy of it is answered after it. -/
def launchPending (s : State) (sid sq : Nat) : Bool :=
  s.agenda.any fun e => match e with | .launch i n _ _ => i == sid && n == sq | _ => false

/-- R387, R389: a VCT packet: discarded and counted when it is none; discarded when its TAG is wrong; answered with the
same ACK when it is a copy of an accepted command; discarded when its SEQ is too old; and otherwise taken in, with an ACK for
a command. -/
def takePacket (s : State) (dg : List Byte) : State :=
  if badDatagram dg then { s with host := { s.host with discards := s.host.discards + 1 } }
  else
    let ty := recField dg 3 1
    let sid := recField dg 4 4
    let sq := recField dg 8 8
    let len := recField dg 18 2
    if ty = 0x40 then post s (.openSession ((dg.drop 24).take len))
    else
      match findSession s sid with
      | none => s
      | some x =>
        if (hmac256 x.khd (dg.take (24 + len))).take 16 ≠ dg.drop (24 + len) then s
        else
          match x.acks.find? fun a => a.1 == sq with
          | some (_, st) => sendAck s sid sq st
          | none =>
            if ty = 1 ∧ launchPending s sid sq then
              { s with agenda := s.agenda ++ ((packetEvents (fun _ => false) sid sq dg).getD []) }
            else if sq + 64 ≤ x.high ∨ sq = 0 ∨ x.seen.contains sq then s
            else
              let s := updSession s sid fun y => { y with
                high := max y.high sq
                seen := (sq :: y.seen).filter fun k => max y.high sq < k + 64 }
              match packetEvents (stalePageans s sid) sid sq dg with
              | none => if ty = 0x80 then s else sendAck s sid sq 0x10D
              | some es =>
                let s := { s with agenda := s.agenda ++ es }
                if ty = 1 ∨ ty = 0x43 ∨ ty = 0x80 then s else sendAck s sid sq 0

/-- R387: an IPv6 packet at a port: one for another UDP port is none of the transport's, and one whose UDP checksum fails
is discarded and counted. -/
def execVctDatagramDiscard (dg : List (BitVec 8)) (s : State) : Outcome State :=
  if 48 ≤ dg.length ∧ udpPort dg ≠ 7523 then .next s
  else if badChecksum dg then .next { s with host := { s.host with discards := s.host.discards + 1 } }
  else .next (takePacket s (dg.drop 48))

/-! ## Copies and waits (R129, R391) -/

/-- A number that no context has: a session's requests are none of a task's. -/
def noContext : Nat := 4096

/-- R391: every page of a byte range translates for a session. -/
def rangeHomes (s : State) (va n : Nat) (i : Intent) : Bool :=
  va + n ≤ 2 ^ 56 && n != 0 && ((List.range ((va + n - 1) / 4096 - va / 4096 + 1)).all fun k =>
    (translate s none (max va ((va / 4096 + k) * 4096)) i).isSome)

/-- R409: where a global byte of a session lies: its key. -/
def hostKey (s : State) (va : Nat) (i : Intent) : Option Nat :=
  (translate s none va i).map fun (h, k) => (forwarded s h k).2

/-- R129, R412: a byte read by a session under a snapshot at system scope now. -/
def hostByte (s : State) (va : Nat) : Byte := (globalByte s none .read readSystem va).getD 0

/-- R407: the granules of a range that a session reads or writes, counted. -/
def hostCount (s : State) (va n : Nat) (i : Intent) : State :=
  (cutGranules va n).foldl (fun s (a, _, _) =>
    match translate s none a i with
    | some (h, _) => countAccess s noContext h a
    | none => s) s

/-- R391: the first sector of a range whose code fails, as a key. -/
def hostBad (s : State) (va n : Nat) : Option Nat :=
  (List.range n).findSome? fun i =>
    match hostKey s (va + i) .read with
    | some k => if synGet s.synd (k / 32) != 0 then some k else none
    | none => none

/-- R88, R90, R391: the codes of the sectors that a HOSTCOPY-IN writes; one written in part whose code fails keeps it. -/
def hostWrite (s : State) (x : Session) (va : Nat) (bs : List Byte) : State :=
  (cutGranules va bs.length).foldl (fun s (a, o, n) =>
    let d := (bs.drop o).take n
    match (translate s none a .write).map fun (h, k) => forwarded s h k with
    | none => s
    | some (h, k) =>
      let s := expandPage s (pageForm s a) h a k (onPage a [(va, bs.length)])
      let part := (sectorsOf k n).filter fun z => synGet s.synd z != 0 && !(k ≤ 32 * z && 32 * z + 32 ≤ k + n)
      let whole := (sectorsOf k n).filter fun z => k ≤ 32 * z && 32 * z + 32 ≤ k + n
      let s := part.foldl (fun s _ => startTest s 4 0 (k / 65536) (BitVec.ofNat 64 a) []) s
      let d := (List.range n).map fun i => if part.contains ((k + i) / 32) then readLatest s (k + i) else d.getD i 0
      { s with
        synd := whole.foldl (fun y z => synSet y z 0) s.synd
        net := { s.net with hist := ⟨x.src, hostUnit, x.openPh, false, k, d⟩ :: s.net.hist } }) s

/-- R129, R391: HOSTCOPY-IN: one phase of the session, published at system scope before the COMPLETE. -/
def execHostcopyIn (sid sq : Nat) (va : BitVec 64) (dat : List (BitVec 8)) (s : State) : Outcome State :=
  match findSession s sid with
  | none => .next s
  | some x =>
    if !(rangeHomes s va.toNat dat.length .write) then .next (completeCmd s sid sq 0x10B 0)
    else
      let s := hostWrite (hostCount s va.toNat dat.length .write) x va.toNat dat
      let s := { s with net := { s.net with pubs := s.net.pubs ++ [⟨x.src, hostUnit, x.openPh, 4⟩] } }
      .next (completeCmd (updSession s sid fun y => { y with openPh := y.openPh + 1 }) sid sq 0 0)

/-- R129, R391: HOSTCOPY-OUT. -/
def execHostcopyOut (sid sq : Nat) (va : BitVec 64) (n : Nat) (s : State) : Outcome State :=
  if !(rangeHomes s va.toNat n .read) then .next (sendData s sid sq 0x10B [])
  else
    let s := hostCount s va.toNat n .read
    match hostBad s va.toNat n with
    | some k =>
      .next (sendData (startTest s 4 0 (k / 65536) (BitVec.ofNat 64 va.toNat) []) sid sq 0x16 [])
    | none => .next (sendData s sid sq 0 ((List.range n).map fun i => hostByte s (va.toNat + i)))

/-- R391: WAITVAL: the first read is made at once. -/
def execWaitval (sid sq : Nat) (va msk val : BitVec 64) (rel tmo : Nat) (s : State) : Outcome State :=
  if (findSession s sid).isNone then .next s
  else if !(rangeHomes s va.toNat 8 .read) then .next (completeCmd { s with free := s.free + 1 } sid sq 0x10B (fw s 0).toNat)
  else
    .next (post { s with host := { s.host with
      waits := s.host.waits ++ [⟨sid, sq, va, msk, val, rel, s.tick + 100 * tmo, s.tick⟩] } } (.waitvalPoll sid sq))

/-- R391: REL of a WAITVAL. -/
def relHolds (rel a b : Nat) : Bool :=
  match rel with
  | 0 => a == b
  | 1 => a != b
  | 2 => decide (a ≥ b)
  | _ => decide (a < b)

/-- R391, R407: one read of a WAITVAL, every microsecond, each of them a request. -/
def execWaitvalPoll (sid sq : Nat) (s : State) : Outcome State :=
  match s.host.waits.find? fun w => w.sid == sid && w.sq == sq with
  | none => .next s
  | some w =>
    if s.tick < w.next then .next s
    else
      let v := leNat ((List.range 8).map fun i => hostByte s (w.va.toNat + i))
      let s := hostCount s w.va.toNat 8 .read
      let end_ := { s with host := { s.host with waits := s.host.waits.filter fun x => x != w } }
      if !(rangeHomes s w.va.toNat 8 .read) then .next (completeCmd { end_ with free := s.free + 1 } sid sq 0x10B (fw s 0).toNat)
      else if relHolds w.rel (v.land w.msk.toNat) w.val.toNat then .next (completeCmd end_ sid sq 0 v)
      else if w.until_ ≤ s.tick then .next (completeCmd end_ sid sq 0x10C v)
      else .next { s with host := { s.host with waits := s.host.waits.map fun x => if x = w then { x with next := s.tick + 100 } else x } }

/-- R392: SIGNAL KIND 0: it has its effect and its status at the end of the reference tick, after the retirements of that
tick. -/
def execSignalTask (sid sq : Nat) (tag wid val : BitVec 64) (s : State) : Outcome State :=
  .next { s with host := { s.host with sigs := s.host.sigs ++ [(sid, sq, tag, wid, val)] } }

/-! ## QUERY (R391, R443, R446, R449, R450) -/

/-- R391: the dwords of a space that a QUERY asks for. -/
def answerQuery (s : State) (sid sq off cnt : Nat) (ws : List Nat) : Outcome State :=
  .next (sendDwords s sid sq ((List.range cnt).map fun i => ws.getD (off + i) 0))

/-- R449: the hottest last sample: island and temperature. -/
def hottest (s : State) : Nat × Nat :=
  s.units.foldl (fun m u => if u.temp > m.2 then (u.n, u.temp) else m) (0, 0)

/-- R449: the mean draw in mW of the last 100 power windows. -/
def meanDraw (l : List Nat) : Nat := l.foldl (· + ·) 0 / 100000

/-- R449: the package block and the island blocks. -/
def managementWords (s : State) (idx : Nat) : List Nat :=
  if idx = 0 then
    let (i, t) := hottest s
    [s.tick, at' i 16 + t % 1024, at' (meanDraw (s.cob.windows.map (·.2)) % 2 ^ 32) 32 + meanDraw (s.cob.windows.map (·.1)) % 2 ^ 32,
      s.host.discards, s.host.sessions.length, s.cob.retired, s.cob.total, at' s.welt.pqcap 16 + queuedRecords s,
      s.welt.slots.length] ++ (List.range 19).map (weight s)
  else if idx ≤ 264 then
    let u := getIsland s (idx - 1)
    [(islst u).toNat, u.thrN, u.eisl]
  else []

/-- R449: QUERY of space 0. -/
def execQueryManagement (sid sq idx off cnt : Nat) (s : State) : Outcome State :=
  answerQuery s sid sq off cnt (managementWords s idx)

/-- R296, R300: the record of a slot as dwords, and its flush counter in the dword after it (log 119); a slot that is not
live reads zero. -/
def slotWords (s : State) (n : Nat) : List Nat :=
  match findSlot s n with
  | none => []
  | some x =>
    let bs := (List.range 8).map (fun k => BitVec.ofNat 8 (x.slens.getD k 0)) ++
      (List.range 8).flatMap fun k => (List.range 16).flatMap fun t => leBytes 4 ((x.stops.getD k []).getD t 0)
    [at' x.req.toNat 32 + at' (x.epoch % 2 ^ 16) 16 + at' x.depth 11 + at' (b2n x.replay) 10 + at' (b2n x.fault) 9 +
        at' (b2n x.done) 8 + 128 + at' x.ksh 4 + x.ttab.val,
      at' x.slen 32 + x.vlen, at' (x.round % 2 ^ 32) 32 + at' x.arate 16 + at' x.dmin 11 + at' x.dmax 6,
      at' x.h 48 + at' x.st 32 + x.maxlen, x.rseed.toNat, at' x.vocab 32 + x.lbudget, at' x.kvbase 40 + at' x.kvstride 16,
      at' x.rrounds 56 + x.rply] ++ ((List.range 65).map fun i => leNat ((bs.drop (8 * i)).take 8)) ++ [x.flushed]

/-- R296: QUERY of space 1. -/
def execQuerySlotRecord (sid sq idx off cnt : Nat) (s : State) : Outcome State :=
  answerQuery s sid sq off cnt (slotWords s idx)

/-- R415: the Heel address of the frame that a context number names. -/
def frameOf (idx : Nat) : Nat :=
  if idx < 1536 then 0x78000 * (idx / 8) + 0x1000 * (idx % 8) else 0x5A00000 + 0x2000 * (idx - 1536)

/-- Dwords of the Heel. -/
def heelWords (s : State) (a n : Nat) : List Nat :=
  (List.range n).map fun i => leNat (memRead s.mem (heelKey (a + 8 * i)) 8)

/-- R369, R450: QUERY of space 2: a frame as last written. -/
def execQueryTrapFrame (sid sq idx off cnt : Nat) (s : State) : Outcome State :=
  answerQuery s sid sq off cnt (if idx < 1600 then heelWords s (frameOf idx) 512 else [])

/-- R450: QUERY of space 3. -/
def execQueryQueueState (sid sq idx off cnt : Nat) (s : State) : Outcome State :=
  answerQuery s sid sq off cnt (match findQueue s idx with
    | none => []
    | some q =>
      let base := ((headOf s q).map fun l => l.hdr.prio).getD q.level
      [at' q.level 35 + at' base 32 + q.sid % 2 ^ 32, q.heads.length, q.intake, q.doneN] ++
        (List.range 12).map fun i => leNat ((q.last.drop (8 * i)).take 8))

/-- R400: a loaded record as dwords: its head, then its body. -/
def tableWords (t : TableRec) : List Nat :=
  let w := if t.kind = 3 then 4 else 2
  let bs := t.words.flatMap (leBytes w)
  [t.kind + at' t.x 8 + at' t.y 16 + at' (b2n t.upper) 24 + at' t.unit 32] ++
    (List.range ((bs.length + 7) / 8)).map fun i => leNat ((bs.drop (8 * i)).take 8)

/-- R391, R400: QUERY of space 4: the slot tables as loaded, a record for each index. -/
def execQuerySlotTables (sid sq idx off cnt : Nat) (s : State) : Outcome State :=
  answerQuery s sid sq off cnt ((s.cob.tables[idx]?.map tableWords).getD [])

/-- R446: QUERY of space 5: the log, from its first dword. -/
def execQueryErrorLog (sid sq _idx off cnt : Nat) (s : State) : Outcome State :=
  .next (sendDwords s sid sq (heelWords s (0x5C00000 + 8 * off) cnt))

/-- R443: a new report. -/
def attestation (s : State) (x : Session) : List Byte :=
  let b := leBytes 4 s.img.fwver ++ leBytes 4 s.img.cfgver ++ s.img.fwhash ++ s.img.cfghash ++ s.img.idpub ++ x.nonce ++
    leBytes 4 x.sid ++ leBytes 4 s.cob.retired ++ leBytes 8 s.tick
  b ++ ecdsaSign s.img.idpriv (sha256 b)

/-- R443: QUERY of space 6: OFFSET 0 builds a report, and every query reads the latest of its session. -/
def execQueryAttestation (sid sq _idx off cnt : Nat) (s : State) : Outcome State :=
  match findSession s sid with
  | none => .next s
  | some x =>
    let r := if off = 0 then attestation s x else x.report
    answerQuery (updSession s sid fun y => { y with report := r }) sid sq off cnt
      ((List.range ((r.length + 7) / 8)).map fun i => leNat ((r.drop (8 * i)).take 8))

/-! ## The driver's records (R402 to R405, R411) -/

/-- R411: a record fails: the first failure of its PAGEANS is kept. -/
def recFail (s : State) (sid sq num status : Nat) : State :=
  if s.host.ansFails.any fun a => a.1 == sid && a.2.1 == sq then s
  else { s with host := { s.host with ansFails := s.host.ansFails ++ [(sid, sq, status, num)] } }

/-- R411: no OP 2 precedes. -/
def noOp2 (s : State) : State := { s with net := { s.net with lastOp2 := none } }

/-- R404: an entry whose reserved and read-only fields are zero. -/
def cleanEntry (e : Word) : Word := e &&& ~~~(BitVec.ofNat 64 (2 ^ 48 + 65535 * 2 ^ 32))

/-- R403: the segment entry that holds an address, valid or not. -/
def segAt (s : State) (va : Nat) : Option Seg :=
  s.net.segs.find? fun g => g.base ≤ va && va < g.base + g.pagesN * 2 ^ 16

/-- R409: the forwards from a frame of homes end; the pieces that they redirect are on their new way. -/
def endForwards (s : State) (home : Nat → Bool) (frame : Nat) : State :=
  let go := fun h k => forwarded s h k
  { s with net := { s.net with
    pieces := s.net.pieces.map fun p =>
      let p := { p with second := p.second.map fun (h, k) => go h k }
      if p.delivers then p else { p with home := (go p.home p.key).1, key := (go p.home p.key).2 }
    fwds := s.net.fwds.filter fun x => !(home x.peer && x.frame == frame) } }

/-- R409: the forward from the page of an old entry ends when that page's home is another package (log 117). -/
def endOldForward (s : State) (g : Seg) (va : Nat) : State :=
  match pageHome s g va with
  | some (h, a) => if h = ownHome s then s else endForwards s (· == h) (a / 4096)
  | none => s

/-- R402, R412: the frame that a new entry names holds a compressed page from now on: the bytes that stand there are those of
the compressed data (DEDUCED, log 149). -/
def packFrame (s : State) (k : Nat) : State :=
  let inK := fun e : HEntry => k ≤ e.key && e.key < k + 65536
  { s with
    mem := memPut s.mem k ((List.range 65536).map fun i => readLatest s (k + i))
    net := { s.net with
      hist := s.net.hist.map fun e => if inK e then { e with bytes := [] } else e
      plainAt := s.net.plainAt.filter (· != k) } }

/-- R402, R411 OP 1: a page entry written. -/
def writeEntry (s : State) (g : Seg) (va : Nat) (e : Word) : State :=
  let old := (compField (entryAt s g va), frameField (entryAt s g va), peerField (entryAt s g va))
  let s := ptePut (endOldForward s g va) (g.slot va) e
  match pageHome s g va with
  | some (h, a) =>
    if e.getLsbD 63 ∧ compField e ∧ old ≠ (true, frameField e, peerField e) then packFrame s (hbmKey h a) else s
  | none => s

/-- R411 OP 1: a page entry written; of its failures BAD_COMMAND comes first, then RANGE, then QUEUE_FULL. -/
def execPageEntryWrite (sid sq num : Nat) (va val : BitVec 64) (s : State) : Outcome State :=
  if val.getLsbD 63 ∧ malformed s val then .next (recFail s sid sq num 0x10D)
  else
    match segAt s va.toNat with
    | none => .next (recFail s sid sq num 0x10B)
    | some g =>
      if g.hold then .next (recFail s sid sq num 0x107) else .next (writeEntry s g va.toNat (cleanEntry val))

/-- R403: the words of a segment entry without reserved and read-only fields. -/
def cleanSeg (va w0 w1 : Word) : Word × Word :=
  (BitVec.ofNat 64 (va.toNat / 2 ^ 16 % 2 ^ 40 * 2 ^ 16 + (w0.toNat / 2 ^ 13 % 8 - w0.toNat / 2 ^ 14 % 2 * 2) * 2 ^ 13),
    BitVec.ofNat 64 (w1.toNat / 2 ^ 48 * 2 ^ 48 + w1.toNat % 2 ^ 32))

/-- R411 OP 2: a segment entry written, or inserted in order. -/
def execSegmentEntryWrite (sid sq num : Nat) (va w0 w1 : BitVec 64) (s : State) : Outcome State :=
  let (a, b) := cleanSeg va w0 w1
  let base := a.toNat / 2 ^ 16 * 2 ^ 16
  let old := s.net.segs.find? fun g => g.base == base
  let rest := s.net.segs.filter fun g => g.base != base
  let n := b.toNat % 2 ^ 32
  if n = 0 ∨ base + n * 2 ^ 16 > 2 ^ 56 ∨ w0.toNat / 2 ^ 16 * 2 ^ 16 ≠ base then .next (recFail (noOp2 s) sid sq num 0x10D)
  else if (rest.any fun g => base < g.base + g.pagesN * 2 ^ 16 && g.base < base + n * 2 ^ 16) ∨ rest.length ≥ 4096 then
    .next (recFail (noOp2 s) sid sq num 0x10B)
  else if old.any (·.hold) then .next (recFail (noOp2 s) sid sq num 0x107)
  else
    let new : Seg := match old with | some g => { g with w0 := a, w1 := b } | none => ⟨a, b, 0, 0⟩
    .next { s with net := { s.net with
      segs := rest.filter (fun g => g.base < base) ++ [new] ++ rest.filter fun g => base < g.base
      lastOp2 := some base } }

/-- R403: IRECT is 0, or lies in the domain with a width and a height. -/
def irectOk (w3 : Word) : Bool :=
  let f := fun k => w3.toNat / 2 ^ (8 * k) % 256
  w3.toNat % 2 ^ 32 == 0 || (f 2 != 0 && f 3 != 0 && f 0 + f 2 ≤ 32 && f 1 + f 3 ≤ 32)

/-- R411 OP 6: words 2 and 3 of the segment entry of the preceding OP 2. -/
def execSegmentWordsWrite (sid sq num : Nat) (_va w2 w3 : BitVec 64) (s : State) : Outcome State :=
  match s.net.lastOp2 with
  | none => .next (recFail s sid sq num 0x10D)
  | some base =>
    if w2.toNat % 64 ≠ 0 ∨ !(irectOk w3) then .next (recFail s sid sq num 0x10D)
    else .next { s with net := { s.net with
      segs := s.net.segs.map fun g => if g.base = base then { g with w2 := w2, w3 := w3 } else g } }

/-- R411 OP 4: the cached entries of an address's segment are dropped. -/
def execMapCacheInvalidate (_sid _sq _num : Nat) (va : BitVec 64) (s : State) : Outcome State :=
  let base := ((segOf s va.toNat).map fun g => g.base).getD 0
  .next { s with net := { s.net with cache := s.net.cache.filter fun x => x.1 != base } }

/-- R408, R411 OP 5: a frame joins the free-frame list; it forwards no longer. -/
def execFreeFrameAppend (sid sq num : Nat) (val : BitVec 64) (s : State) : Outcome State :=
  let f := val.toNat % 2 ^ 28
  if val.toNat ≥ 2 ^ 28 ∨ f % 16 ≠ 0 ∨ !(frameFits f) then .next (recFail s sid sq num 0x10D)
  else if s.net.frames.length ≥ 1024 then .next (recFail s sid sq num 0x10B)
  else
    let s := endForwards s (fun h => h == ownHome s) f
    .next { s with net := { s.net with frames := s.net.frames ++ [f] } }

/-! ## Migration (R408, R409, R412) -/

/-- R409: HOLD of a segment. -/
def setHold (s : State) (base : Nat) (on : Bool) : State :=
  { s with net := { s.net with segs := s.net.segs.map fun g =>
    if g.base = base then
      { g with w0 := if on then g.w0 ||| BitVec.ofNat 64 (2 ^ 14) else g.w0 &&& ~~~(BitVec.ofNat 64 (2 ^ 14)) }
    else g } }

/-- R409: the migration of a page begins at its home; HOLD of the own copy is set when that is the own package (R402). -/
def startMigration (s : State) (g : Seg) (va : Word) (home peer frame cap sid : Nat) : State :=
  let s := { s with net := { s.net with migs := s.net.migs ++ [⟨home, va, peer, frame, cap, sid⟩] } }
  if home = ownHome s then setHold s g.base true else s

/-- R408: a page that is being migrated. -/
def migrating (s : State) (va : Nat) : Bool := s.net.migs.any fun m => m.va.toNat / 65536 == va / 65536

/-- R408, R411 OP 3: the driver asks for a migration. -/
def execPageMigrate (sid sq num : Nat) (va val : BitVec 64) (s : State) : Outcome State :=
  let v := val.toNat
  let peer := v % 256
  let frame := v / 2 ^ 8 % 2 ^ 28
  if v ≥ 2 ^ 40 ∨ frame % 16 ≠ 0 ∨ !(frameFits frame) ∨ (peerOf s peer).isNone then .next (recFail s sid sq num 0x10D)
  else
    match segOf s va.toNat with
    | none => .next (recFail s sid sq num 0x10B)
    | some g =>
      let e := entryAt s g va.toNat
      match pageHome s g va.toNat with
      | none => .next (recFail s sid sq num 0x10B)
      | some (h, _) =>
        if !(e.getLsbD 63) ∨ malformed s e then .next (recFail s sid sq num 0x10B)
        else if migrating s va.toNat then .next (recFail s sid sq num 0x107)
        else .next (startMigration s g va h peer frame (v / 2 ^ 36) sid)

/-- R407, R408: a page whose count has reached its segment's threshold is asked for: its frame comes from the free-frame
list of the own package; with none, the driver is told. A page that is being migrated needs no more. -/
def execMigrateTrigger (cid : Nat) (va : BitVec 64) (s : State) : Outcome State :=
  match segOf s va.toNat with
  | none => .next s
  | some g =>
    if migrating s va.toNat then .next s
    else
      let c := findCtx s cid
      let q := c.bind fun c => findQueue s c.hdr.queue
      match pageHome s g va.toNat, s.net.frames, s.net.peers.find? fun p => p.kind == 1 && p.home == ownHome s with
      | some (h, _), f :: fs, some p =>
        .next (startMigration { s with net := { s.net with frames := fs } } g va h p.n f 0 0)
      | _, _, _ => .next (pageReq s ((q.map (·.sid)).getD 0) va 3 0 0 cid 0 ((c.map (·.wid)).getD 0) false)

/-- R403, R409: BUSY: the pieces in service at a home of a segment. -/
def busyPieces (s : State) (g : Seg) (home : Nat) : Nat :=
  (s.net.inServ.filter fun e => e.2.2.1 == home && e.2.2.2 == g.base && underWay s e).length

/-- R403: word 1 of a segment entry as it stands: BUSY counts the pieces in service at the own package. -/
def segWord1 (s : State) (g : Seg) : Word := g.w1 ||| BitVec.ofNat 64 (busyPieces s g (ownHome s) % 2 ^ 16 * 2 ^ 32)

/-- R412: whether the page fits its destination. -/
def migrationFits (e : Word) (far : Bool) (cap : Nat) : Bool :=
  let room := if cap = 0 then 16 else cap
  let size := if compField e && !far then (if cunitsField e = 0 then 16 else cunitsField e) else 16
  size ≤ room

/-- R89, R111, R409: the bytes, codes and home orders of a page move to their new home; what the home order holds of a page
that stood there before is no longer read. -/
def moveFrame (s : State) (home a b : Nat) (plain : Option (List Byte)) : State :=
  let n := 65536
  let inA := fun k : Nat => a ≤ k && k < a + n
  let inB := fun k : Nat => b ≤ k && k < b + n
  let to_ := fun k : Nat => if inA k then k - a + b else k
  { s with
    mem := memPut s.mem b (plain.getD (memRead s.mem a n))
    synd := ((s.synd.filter fun x => inA (32 * x.1)).map fun x => (to_ (32 * x.1) / 32, x.2)) ++
      s.synd.filter fun x => !(b ≤ 32 * x.1 && 32 * x.1 < b + n)
    net := { s.net with
      hist := s.net.hist.map fun e => if inA e.key then { e with key := to_ e.key }
        else if inB e.key then { e with bytes := [] } else e
      plainAt := (if plain.isSome ∨ s.net.plainAt.contains a then [b] else []) ++ s.net.plainAt.filter fun k => k != a && k != b
      pieces := s.net.pieces.map fun p => if p.state = .atHome ∧ !p.delivers ∧ inA p.key then
          { p with home := home, key := to_ p.key } else p } }

/-- R409: the entry of a page after its migration: PEER and FRAME of the destination, ACNT 0; a page that was
decompressed is so no longer (R412). -/
def movedEntry (e : Word) (peer frame : Nat) (plain : Bool) : Word :=
  let k := e.toNat
  let keep := k / 2 ^ 63 * 2 ^ 63 + k / 2 ^ 48 % 2 ^ 7 * 2 ^ 48 + k / 2 ^ 28 % 16 * 2 ^ 28
  let w := BitVec.ofNat 64 (keep + peer * 2 ^ 55 + frame)
  if plain then plainEntry w else w

/-- R409: HOLD falls when the own package has no more migration of the segment, and the owner is told. -/
def endMigration (s : State) (m : Migration) (g : Seg) (status : Nat) : State :=
  if m.home ≠ ownHome s then s
  else
    let more := s.net.migs.any fun x => x.home == m.home && g.base ≤ x.va.toNat && x.va.toNat < g.base + g.pagesN * 2 ^ 16
    pageReq (if more then s else setHold s g.base false) (g.w3.toNat / 2 ^ 32) m.va 1 0 status 0 0 0 false

/-- R409, R412: the page of a migration moves from an address at its home: its bytes, the entry of the own copy when that
is the home's (R402), and the forward. -/
def movePage (s : State) (m : Migration) (g : Seg) (a : Nat) (p : Peer) : State :=
  let e := entryAt s g m.va.toNat
  let k := hbmKey m.home a
  let v := m.va.toNat / 65536 * 65536
  let plain := p.kind == 2 && compField e
  let data := if plain then some (memRead (plainView s (pageForm s v) v k 65536).mem k 65536) else none
  let s := moveFrame s p.home k (hbmKey p.home (m.frame * 4096)) data
  let s := if m.home = ownHome s then setEntry s m.va.toNat fun e => movedEntry e m.peer m.frame plain else s
  { s with net := { s.net with fwds := s.net.fwds ++ [⟨m.home, a / 4096, p.home, m.frame⟩] } }

/-- R409, R412: the copy of a migration once no piece is in service: the page moves, its entry names the new home, the old
frame forwards, HOLD is cleared, and the owner is told. -/
def execMigrationCopy (va : BitVec 64) (s : State) : Outcome State :=
  match s.net.migs.find? fun m => m.va == va, segOf s va.toNat with
  | some m, some g =>
    if busyPieces s g m.home ≠ 0 then .next s
    else
      let s := { s with net := { s.net with migs := s.net.migs.erase m } }
      match pageHome s g va.toNat, peerOf s m.peer with
      | some (_, a), some p =>
        if migrationFits (entryAt s g va.toNat) (p.kind == 2) m.cap then .next (endMigration (movePage s m g a p) m g 0)
        else .next (endMigration s m g 0x10E)
      | _, _ => .next (endMigration s m g 0x10B)
  | _, _ => .next s

/-! ## The answer of a PAGEANS (R379, R411) -/

/-- R379, R411, R446: the end of a PAGEANS: the request it names is answered, or the answer is logged; the COMPLETE gives
the first record that failed. -/
def pageAnswer (s : State) (sid sq rseq status : Nat) : State :=
  let s := noOp2 s
  let s := if rseq = 0 then s
    else
      match s.host.preqs.find? fun r => r.rseq == rseq && r.sid == sid with
      | some r => answerReq s r status
      | none => logEntry s s.tick 0 2 5 0 (BitVec.ofNat 64 (sid * 2 ^ 32 + rseq)) 0
  match s.host.ansFails.find? fun a => a.1 == sid && a.2.1 == sq with
  | some (_, _, st, i) =>
    completeCmd { s with host := { s.host with ansFails := s.host.ansFails.filter fun a => !(a.1 == sid && a.2.1 == sq) } }
      sid sq st i
  | none => completeCmd s sid sq 0 0

/-- R379, R410, R411: a PAGEANS that answers *mapped*. -/
def execPageansMapped (sid sq rseq : Nat) (s : State) : Outcome State := .next (pageAnswer s sid sq rseq 1)

/-- R379, R410, R411: a PAGEANS that answers *failure*. -/
def execPageansFailure (sid sq rseq : Nat) (s : State) : Outcome State := .next (pageAnswer s sid sq rseq 2)

end Sys2Proof.Machine
end

