-- ==== Sys2Proof/Machine/Boot.lean ====
section
/-! DEFINITION. Boot (R438 to R442, R444): the images, the identity, the full self-test, and the machine as it stands when
the ports open. -/

namespace Sys2Proof.Machine

/-- R439: the Vorrel root public key. -/
def rootKey : List Byte := (List.range 64).map Config.rootKey

/-- R438: the form of an image of a KIND, and its signature by one of some keys. -/
def imageOk (im : List Byte) (kind : Nat) (keys : List (List Byte)) : Bool :=
  let n := recField im 12 4
  im.length == 128 + n && recField im 0 4 == 0x4E58494D && recField im 4 1 == kind && hdrZero im 5 3 && hdrZero im 48 16 &&
    (kind == 1 || hdrZero im 16 32) &&
    keys.any fun k => ecdsaVerify k (sha256 (im.take (64 + n))) (im.drop (64 + n))

/-- R439: the keys that may have signed a configuration image: the root key, or the owner key that the firmware names. -/
def configKeys (fw cfg : List Byte) : List (List Byte) :=
  let k := (cfg.drop 64).take 64
  if k = rootKey ∨ sha256 k = (fw.drop 16).take 32 then [k] else []

/-- R440: a field that takes its default when it holds 0. -/
def orDefault (v d : Nat) : Nat := if v = 0 then d else v

/-- R438, R440: the body of a configuration image after its key, without the signature. -/
def configBody (cfg : List Byte) : List Byte := (cfg.drop 128).take (recField cfg 12 4 - 64)

/-- R440: the values of a configuration image's body after its key; none when one is outside its limit. A
swap region may reach past the usable HBM (DESIGN CHOICE, log 151). -/
def parseConfig (b : List Byte) : Option Image :=
  let f := recField b
  let n := f 0 4
  let d := Image.default
  let ws := (List.range 19).map fun i => orDefault (f (0x548 + 4 * i) 4) (Config.weights.getD i 0)
  let im : Image := { d with
    keys := (List.range n).map fun i => (b.drop (8 + 64 * i)).take 64
    route := (List.range 71).map fun i => f (0x408 + 4 * i) 4
    kwp := orDefault (f 0x524 4) d.kwp
    slice := f 0x528 4
    lvmax := orDefault (f 0x52C 2) d.lvmax
    deflvl := orDefault (f 0x52E 2) d.deflvl
    solebud := orDefault (f 0x530 4) d.solebud
    upbud := orDefault (f 0x534 4) d.upbud
    thresh := orDefault (f 0x538 2) d.thresh
    tcrit := orDefault (f 0x53A 2) d.tcrit
    hangt := f 0x53C 4
    dwait := f 0x540 4
    pstat := orDefault (f 0x544 4) d.pstat
    weights := ws
    swapBase := f 0x5A8 8
    swapLen := f 0x5B0 8
    age := (List.range 8).map fun i => f (0x5B8 + 2 * i) 2 }
  if b.length < 0x638 ∨ n = 0 ∨ n > 16 ∨ !(hdrZero b 4 4) ∨ !(hdrZero b 0x5C8 8) ∨ !(hdrZero b 0x594 20) ∨
      im.swapLen < 1600 * 0x62000 then none
  else some im

/-- Bits of bytes, the least significant first. -/
def bitsOf (bs : List Byte) : List Bool := bs.flatMap fun b => (List.range 8).map fun i => b.getLsbD i

/-- Bytes of bits, the least significant first. -/
def bytesOf (n : Nat) (bs : List Bool) : List Byte :=
  (List.range n).map fun k => BitVec.ofNat 8 ((List.range 8).foldl (fun a i => a + at' (b2n (bs.getD (8 * k + i) false)) i) 0)

/-- The bits in which two words of bits differ. -/
def xorBits (a b : List Bool) : List Bool := (a.zip b).map fun x => x.1 != x.2

/-- R442: one block of 255 bits corrected by the code-offset construction: the response and the offset differ from a word of the
BCH code in at most 18 places, and the corrected response is the offset of that word. -/
def correctBlock (resp off : List Bool) : Option (List Bool) :=
  let word := xorBits resp off
  let code := Config.bchWord word
  if code.length = 255 ∧ (xorBits word code).count true ≤ 18 then some (xorBits code off) else none

/-- R442: the response corrected, 8 blocks of 255 bits, by the helper record, which begins with the offsets (log 12); none beyond
18 errors in a block. -/
def correctPuf (puf helper : List Byte) : Option (List Byte) :=
  let block := fun (bs : List Byte) (k : Nat) => (List.range 255).map fun i => (bitsOf bs).getD (255 * k + i) false
  ((List.range 8).mapM fun k => correctBlock (block puf k) (block helper k)).map fun bs => bytesOf 255 bs.flatten

/-- R442: the identity private key; none when the response cannot be corrected or fails the check word, which ends the helper
record. -/
def identity (puf helper : List Byte) : Option (List Byte) :=
  match correctPuf puf helper with
  | none => none
  | some bits =>
    let seed := sha256 bits
    if sha256 seed = helper.drop (helper.length - 32) then
      some (beBytesOf 32 (beNat (sha256 (asciiBytes "vct id" ++ seed)) % (p256Order - 1) + 1))
    else none

/-- R441: the package in recovery: a failure of step 2, 3 or 4, which is logged. -/
def recoveryState (s : State) : State :=
  logEntry { State.reset with agenda := s.agenda, recovery := true } 0 0 4 5 0 0 0

/-- R441, R442: the image in force: configuration, versions, hashes and identity. -/
def bootImage (fw cfg priv : List Byte) (im : Image) : Image :=
  let b := configBody cfg
  { im with
    fwver := recField fw 8 4
    cfgver := recField cfg 8 4
    fwhash := sha256 (fw.take (64 + recField fw 12 4))
    cfghash := sha256 (cfg.take (64 + recField cfg 12 4))
    idpriv := priv
    idpub := ecdhPublic priv
    tss := aesUnwrap (sha256 (ecdhSecret priv ((b.drop 0x5D0).take 64))) ((b.drop 0x610).take 40)
    px := Config.packagePlace 0 % 32
    py := Config.packagePlace 1 % 32
    domain := Config.packagePlace 2 % 768 }

/-- R405: a peer entry of 32 bytes; none when it is invalid or breaks a limit. -/
def parsePeer (domain n : Nat) (b : List Byte) : Option Peer :=
  let f := recField b
  let ok := f 6 2 == 0 && f 12 4 == 0 && match f 0 1 with
    | 1 => f 2 2 == domain && f 4 1 < 32 && f 5 1 < 32
    | 2 => f 1 1 < 2
    | _ => false
  if ok then some ⟨n, f 0 1, f 1 1, f 2 2, f 4 1, f 5 1, f 8 4, (b.drop 16).take 16⟩ else none

/-- R402, R405: the peer table at boot: entry 0 names the own package, and no rule says what the others hold (log 150). -/
def bootPeers (im : Image) : List Peer :=
  ⟨0, 1, 0, im.domain, im.px, im.py, 0, []⟩ ::
    (List.range 255).filterMap fun i => parsePeer im.domain (i + 1) (Config.peerEntry (i + 1))

/-- R441 step 5, R444, R446: a unit that failed the full self-test, by its kind, its island and its number, is retired and
logged. -/
def bootRetire (s : State) (x : Nat × Nat × Nat) : State :=
  let (k, u, i) := x
  let s := retireUnit s ⟨0, k, u, i, 0, 0, [], 0⟩
  logEntry { s with cob := { s.cob with retired := s.cob.retired + 1 } } 0 0 1 k (unitField k u i) 0 0

/-- R441 steps 5 to 7, R444: the machine with its ports open: units that failed the full self-test are retired, and
memory is zero with its codes. -/
def bootedState (s : State) (im : Image) (failed : List (Nat × Nat × Nat)) : State :=
  failed.foldl bootRetire { State.reset with
    agenda := s.agenda
    img := im
    booted := true
    net := { State.reset.net with peers := bootPeers im } }

/-- R441: boot. -/
def execBoot (puf helper fw cfg : List (BitVec 8)) (failed : List (Nat × Nat × Nat)) (s : State) : Outcome State :=
  if !(imageOk fw 1 [rootKey]) then .next (recoveryState s)
  else if !(imageOk cfg 2 (configKeys fw cfg)) then .next (recoveryState s)
  else
    match parseConfig (configBody cfg), identity puf helper with
    | some im, some d => .next (bootedState s (bootImage fw cfg d im) failed)
    | _, _ => .next (recoveryState s)

end Sys2Proof.Machine
end

