-- ==== Sys2Proof/Machine/Boundary.lean ====
section
/-! DEFINITION. What happens to a context at a bundle boundary (R336, R367, R456): the event it takes, the latches and
writes that fall due, iteration boundaries, waits, starts, and the ring's stop and resumption (R41). -/

namespace Sys2Proof.Machine

/-! ## Candidates (R334, R367, R421) -/

/-- R420, R421: the levels whose energy a power window allows a context. -/
def allowedLevels (s : State) (c : Ctx) : Nat := if c.pwrlvl = 0 then s.img.deflvl else c.pwrlvl

/-- R421: the draw of the window exceeds the allowance. -/
def overDrawn (s : State) (c : Ctx) : Bool := c.powOver.isSome || (!c.overDone && allowedLevels s c * 25000 < c.draw)

/-- What R367 may choose. -/
inductive Taken where
  | trap (t : Trap) (flags : Nat)
  | fatal (t : Trap)
  | soft (imm : Nat) (svc : Bool)
  | group (id unit : Nat) (t : Trap) (flags : Nat)
  | powerOver
  | late
  | signal (v : Word)
  | timer (n : Nat)
  | notice (slot : Nat)
  | park
  | halt
  deriving DecidableEq, Repr

/-- R37, R367: the first unit trap of a boundary: the M slot, then V, X and C; what no engine raised counts with C. A
handler meets none of the engines' causes, which wait for its return. -/
def unitCand (c : Ctx) (t key : Nat) : Option (Trap × Nat) :=
  if c.status = .handler ∧ key ≠ 9 then none
  else (c.cands.find? fun x => x.1 ≤ t && x.2.1 == key && x.2.2.1.cause != 0x21).map fun x => (x.2.2.1, x.2.2.2)

/-- R252, R95: a group whose additions meet a run that fails its code, or a flag that traps. -/
def groupTrap (s : State) (t : Nat) : Option Taken :=
  if s.ctx.status = .handler then none else s.ctx.uws.findSome? fun w =>
    match w.act with
    | .group buf =>
      if w.due ≤ t then
        match findCmd s.ctx 1 w.cmd with
        | none => none
        | some c =>
          let (_, _, bad, hit) := groupCommit s c w.unit buf
          match bad, hit with
          | some (r, k), _ => some (.group c.id w.unit (runTrap s c (c.sh 0).acc.toNat r k).2.1 0)
          | none, some h => let x := fpHit s c h; some (.group c.id w.unit x.2.1 x.2.2)
          | none, none => none
      else none
    | _ => none

/-- R127, R370, R376: an interrupt may be taken where the context stands. -/
def takesInterrupts (c : Ctx) : Bool :=
  c.status == .running && (match c.wait with | .stall _ | .hold _ | .cycle | .ending => false | _ => true)

/-- R352, R370, R445: the context is frozen in no pending wait: by an operating-point switch or at a fence. -/
def frozenApart (c : Ctx) : Bool := c.wait == .hold 1 || c.wait == .hold 4 || c.wait == .stall 5

/-- R370, R380, R381: where a pre-emption request is taken: at a pending wait, an iteration boundary or a YLD; on the Upper
only at an iteration boundary or a YLD of station 0. -/
def takesPreempt (c : Ctx) : Bool :=
  c.status == .running && c.preReq && !(frozenApart c) &&
    ((!c.upper && c.wait != .none) ||
      (!c.owed && !(c.upper && c.unit != 0) && (c.after == 1 || (endingLevel c).isSome)))

/-- R367: the event taken at the boundary at t. -/
def chosen (s : State) (t : Nat) : Option Taken :=
  let c := s.ctx
  let fatalCand := (c.cands.find? fun x => x.1 ≤ t && x.2.2.1.cause == 0x21).map fun x => x.2.2.1
  let full := if c.status ≠ .handler ∧ c.tclk ≥ Config.tclkLimit then some (Taken.fatal ⟨0x21, fw s 0, fw s 1, fw s 2, 0⟩) else none
  let units := ((unitCand c t 5).or (unitCand c t 2)).map fun x => Taken.trap x.1 x.2
  let rest := ((unitCand c t 4).or (unitCand c t 6)).map fun x => Taken.trap x.1 x.2
  ((c.fatal.or fatalCand).map Taken.fatal).or full
  |>.or units
  |>.or (groupTrap s t)
  |>.or ((unitCand c t 3).map fun x => Taken.trap x.1 x.2)
  |>.or rest
  |>.or (c.swt.map fun x => Taken.soft x.1 x.2)
  |>.or ((if c.status = .handler then none else startFault s t).map fun x => Taken.trap x 0)
  |>.or ((unitCand c t 9).map fun x => Taken.trap x.1 x.2)
  |>.or (if overDrawn s c then some .powerOver else none)
  |>.or (if c.preLate ∧ c.status = .running then some .late else none)
  |>.or (if takesInterrupts c then (c.signals.head?).map Taken.signal else none)
  |>.or (if takesInterrupts c ∧ c.tmrPend > 0 then some (.timer c.tmrPend) else none)
  |>.or (if takesInterrupts c then (c.notices.head?).map Taken.notice else none)
  |>.or (if takesPreempt c then some .park else none)
  |>.or (if c.after = 2 then some .halt else none)

/-! ## Taking the event (R65, R209, R366, R367, R379) -/

/-- R276, R379: a PROBE whose page faults: the frame is written, the context waits with TCLK held, and the session of its
launch's queue is asked; where that session has closed, the PROBE completes with status 2. -/
def suspendProbe (s : State) (t : Trap) : State :=
  let s := { s with free := s.free + 1 }
  let id := ((s.ctx.cq.find? fun k => match k.op with | .probe _ => true | _ => false).map (·.id)).getD 0
  let s := s.up fun c => { c with wait := .probe t.i0 id, cands := c.cands.filter fun k => k.2.1 == 9 || k.2.1 == 6 }
  let s := writeFrame s t
  let s := s.up fun c => { c with tcause := t.cause, tinfo := #v[t.i0, t.i1, t.i2, t.i3] }
  let c := s.ctx
  let sid := ((findQueue s c.hdr.queue).map (·.sid)).getD 0
  if (findSession s sid).isSome then pageReq s sid t.i0 0 t.i1.toNat 0 c.cid c.src c.wid true
  else answerProbe s ⟨0, sid, t.i0, 0, t.i1.toNat, c.cid, c.src⟩ 2

/-- R210: the context at hand halts and leaves its role as for a pre-emption (DEDUCED, log 29). In a handler the frame
holds the trapped state, so the sequencer keeps the handler's own (DEDUCED, log 102). -/
def haltNow (s : State) : State :=
  let s := s.up fun c => { c with after := 0 }
  if s.ctx.status = .handler then
    leaveRole (s.up fun c => { c with status := .halted, haltH := true, iss := { c.iss with trapped := true } }) s.ctx.cid
  else (parkNow s).up fun c => { c with status := .halted }

/-- R365 to R368, R376, R380: the chosen event is taken by the context at hand. -/
def takeEvent (s : State) (t : Nat) (e : Taken) : State :=
  match e with
  | .trap x fl =>
    if x.cause = 0x20 then suspendProbe s x else takeTrap (orFlags s fl) x
  | .fatal x => takeTrap (s.up fun c => { c with fatal := none }) x
  | .soft im svc =>
    takeTrap (s.up fun c => { c with swt := none })
      ⟨0x10, BitVec.ofNat 64 im, BitVec.ofNat 64 (b2n svc), fw s 2, s.ctx.swtPc⟩
  | .group id unit x fl => takeTrap (orFlags (unitFail s 1 id unit t x fl) fl) x
  | .powerOver =>
    takeTrap (s.up fun c => { c with powOver := none, overDone := true })
      ⟨0x22, BitVec.ofNat 64 (allowedLevels s s.ctx), BitVec.ofNat 64 (s.ctx.powOver.getD s.ctx.draw), fw s 2, 0⟩
  | .late => takeTrap s ⟨0x23, fw s 0, fw s 1, fw s 2, 0⟩
  | .signal v => takeTrap (s.up fun c => { c with signals := c.signals.drop 1 }) ⟨0x30, v, fw s 1, fw s 2, 0⟩
  | .timer n => takeTrap (s.up fun c => { c with tmrPend := 0 }) ⟨0x31, 0, BitVec.ofNat 64 n, fw s 2, 0⟩
  | .notice k => takeTrap (s.up fun c => { c with notices := c.notices.drop 1 }) ⟨0x33, BitVec.ofNat 64 k, fw s 1, fw s 2, 0⟩
  | .park => parkNow (s.up fun c => { c with after := 0 })
  | .halt => haltNow s

/-- R367: at its boundary the context at hand takes the first event present. -/
def execTakingATrap (s : State) : Outcome State :=
  match chosen s s.ctx.now with
  | some e => .next (takeEvent s s.ctx.now e)
  | none => .next s

/-! ## Commits (R160, R336, R384) -/

/-- R159, R336: a result written to its destination; g0 and p0 discard it. -/
def setDest (s : State) (d : Dest) (v : Word) : State :=
  s.upR fun r =>
    match d with
    | .g n => if n = 0 then r else { r with g := r.g.set n v, gsyn := r.gsyn.set n 0 }
    | .p n => if n = 0 then r else { r with p := r.p.set n (v.getLsbD 0) }
    | .pm n => { r with pm := r.pm.set n (v.setWidth 48) }
    | .q n => { r with q := r.q.set n v }

/-- R92, R384: a latch whose value and carried code disagree. -/
def latchTrap (c : Ctx) (l : Latch) : Trap :=
  let comp := wordCode l.val
  ⟨0x16, BitVec.ofNat 64 (l.frm.getD 0), BitVec.ofNat 64 (comp.toNat * 2 ^ 16 + (comp ^^^ l.syn).toNat),
    requester c l.slot l.pos 5 + BitVec.ofNat 64 (l.dest.code * 2 ^ 32), l.pc⟩

/-- R37, R65, R91, R384: what the commit of a latch raises: a mismatch comes before any other cause. -/
def latchRaises (c : Ctx) (l : Latch) : Option Trap :=
  if l.syn ≠ 0 ∧ (l.bad.all fun x => x.cause != 0x16) then some (latchTrap c l) else l.bad

/-- R206, R267: a promise register's latch registers its command there. -/
def registerPromise (s : State) (l : Latch) : State :=
  match l.dest, l.cmd with
  | .pm n, some id => s.up fun c => { c with
      cq := c.cq.map fun k => if k.id == id then { k with regs := n :: k.regs } else k }
  | _, _ => s

/-- R64, R336: a latch commits: its destination and its flags. -/
def commitLatch (s : State) (l : Latch) : State :=
  let s := registerPromise (setDest s l.dest l.val) l
  (orFlags s l.flags.toNat).up fun c => { c with flNow := c.flNow ||| l.flags }

/-- R65, R384: a latch that raises: a scalar unit is kept to be performed again and leaves its flags; one that fails its
code keeps its record, no longer valid, its remaining offset 0. -/
def failLatch (s : State) (l : Latch) (x : Trap) : State :=
  if x.cause = 0x16 then s.up fun c => { c with latches := c.latches ++ [{ l with valid := false, due := s.ctx.now }] }
  else (orFlags s l.flags.toNat).up fun c => { c with redo := c.redo ++ [l] }

/-- What commits at a boundary: a latch, or the scalar result of an engine command. -/
inductive Commit where
  | latch (l : Latch)
  | unit (w : UWrite) (d : Fin 32) (v : Word)
  deriving DecidableEq, Repr

/-- R160: issue cycle and position of what commits. -/
def Commit.order (c : Ctx) : Commit → Nat × Nat
  | .latch l => (l.issue, l.pos)
  | .unit w _ _ => ((findCmd c w.eng w.cmd).map fun k => (k.issue, k.pos)).getD (0, 0)

/-- R160: earlier issue first, then the lower position. -/
def orderLe (a b : Nat × Nat) : Bool := a.1 < b.1 || (a.1 == b.1 && a.2 ≤ b.2)

/-- R336, R338: what is due at t, in order. -/
def commitsAt (c : Ctx) (t : Nat) : List Commit :=
  let ls := (c.latches.filter fun l => l.due ≤ t).map Commit.latch
  let us := c.uws.filterMap fun w => match w.act with
    | .gb d v => if w.due ≤ t ∧ c.status ≠ .handler then some (Commit.unit w d v) else none
    | _ => none
  sortBy (fun a b => orderLe (a.order c) (b.order c)) (ls ++ us)

/-- R336, R384: one commit; the first trap raised is kept, and a second failing latch stays pending. -/
def commitOne (s : State) (x : Commit) (tr : Option Trap) : State × Option Trap :=
  match x with
  | .latch l =>
    match latchRaises s.ctx l with
    | none => (commitLatch s l, tr)
    | some y =>
      if tr.isSome then (s.up fun c => { c with latches := c.latches ++ [l] }, tr) else (failLatch s l y, some y)
  | .unit w d v =>
    let s := (orFlags (setDest s (.g d) v) w.flags).up fun c => { c with flNow := c.flNow ||| BitVec.ofNat 6 w.flags }
    (if w.charge = 0 then s else charge s w.charge, tr)

/-- R371, R383: the order of latch records: issue cycle, position, and of one syllable's the earlier commit, so that a
base update precedes its load's value. -/
def latchLe (a b : Latch) : Bool :=
  if (a.issue, a.pos) = (b.issue, b.pos) then a.due ≤ b.due else orderLe (a.issue, a.pos) (b.issue, b.pos)

/-- Latches in issue order (R371). -/
def sortLatches (s : State) : State := s.up fun c => { c with latches := sortBy latchLe c.latches }

/-- R336: the latches and the scalar results due at t taken from what is pending; no flag has been raised yet at t. -/
def dueTaken (s : State) (t : Nat) : State :=
  s.up fun c => { c with
    flNow := 0
    latches := c.latches.filter fun l => !(l.due ≤ t)
    uws := c.uws.filter fun w => match w.act with | .gb .. => !(w.due ≤ t) || c.status == .handler | _ => true }

/-- R336: commits one after the other, with the first trap that one raises. -/
def commitEach (xs : List Commit) (s : State) (tr : Option Trap) : State × Option Trap :=
  match xs with
  | [] => (s, tr)
  | x :: xs => let r := commitOne s x tr; commitEach xs r.1 r.2

/-- R336, R456 step 1: everything tagged t commits; a trap that one raises is taken at this boundary. -/
def commitAll (s : State) (t : Nat) : State :=
  let r := commitEach (commitsAt s.ctx t) (dueTaken s t) none
  match r.2 with
  | some x => takeTrap (sortLatches r.1) x
  | none => sortLatches r.1

/-- R336: RESULT_LATCH_COMMIT. -/
def execResultLatchCommit (s : State) : Outcome State := .next (commitAll s s.ctx.now)

/-! ## Unit writes (R64, R252, R338) -/

/-- R64, R195: flags that a unit's commit ORs into FLG, and into a value of FLG written at the same boundary. -/
def orUnitFlags (s : State) (fl : Nat) : State :=
  if fl = 0 then s else (orFlags s fl).up fun c => { c with flNow := c.flNow ||| BitVec.ofNat 6 fl }

/-- R252: the additions of a group made at its commit. -/
def commitGroup (s : State) (w : UWrite) : State :=
  match w.act, findCmd s.ctx 1 w.cmd with
  | .group buf, some c =>
    let (cells, fl, _, _) := groupCommit s c w.unit buf
    let s := cells.foldl (fun s (r, k, v) => accPut s (c.sh 0).acc.toNat r k [v]) s
    let s := orUnitFlags (s.up fun x => { x with uws := x.uws.erase w }) fl
    if w.charge = 0 then s else charge s w.charge
  | _, _ => s

/-- R252: the group additions of an engine due at t. -/
def unitBoundary (s : State) (e : Fin 3) (t : Nat) : State :=
  (s.ctx.uws.filter fun w => w.eng == e && w.due ≤ t).foldl commitGroup s

/-- R217, R252, R338: the unit writes of an engine that fall in the task cycle at hand. -/
def execUnitWriteCommit (e : Fin 4) (s : State) : Outcome State :=
  if s.ctx.status = .handler then .next s
  else if h : e.val < 3 then
    let e : Fin 3 := ⟨e.val, h⟩
    let t := s.ctx.now
    let s := unitBoundary s e t
    let ws := (s.ctx.uws.filter fun w => w.eng == e && w.due ≤ t && w.act.inCycle).map Work.write
    let rs := ws.map fun w => (w, workReqs s t w)
    .next ((splitWork rs (arbitrate s.ctx.upper [] (rs.flatMap (·.2)))).foldl (fun s x => doWork s t x.1 x.2) s)
  else .next s

/-! ## Deferred writes (R456 step 2) -/

/-- R90, R192: the scratchpad write of a store, or the mismatch that withholds it. -/
def makeStore (s : State) (w : DWrite) (a n : Nat) (v : Word) : State :=
  let cells := keepCells s w.issue (runCells a (leBytes n v.toNat))
  let s := if cells.isEmpty then s else s.up fun c => { c with touch := c.touch ++ [⟨5, w.pos, w.pc, 5, a, n, none⟩] }
  match badMerge s cells with
  | some k => takeTrap s (sectorTrap s (32 * k) (requester s.ctx 5 w.pos 5) w.pc)
  | none => putCells s cells

/-- R84, R456: the bank that QINIT's write at t meets among the accesses of the task cycle that stand at its boundary. -/
def qinitMeets (s : State) (t a : Nat) (w : DWrite) : Option (Nat × Req) :=
  let s1 := startAll s t
  let rs := ((cycleWork s1 t).flatMap (workReqs s1 t)).filter fun r => r.slot != 4
  ((arbitrate s.ctx.upper [] (rs ++ [⟨4, w.pos, 4, [(a, 32)]⟩])).getLast?).join

/-- R292, R356, R456: QINIT's write is made, unless it meets a bank or lies outside the C write ranges in force. -/
def makeQinit (s : State) (w : DWrite) (a : Nat) (v : Word) : State :=
  let q : Req := ⟨4, w.pos, 4, [(a, 32)]⟩
  let old := (spadRead s a 32, spadSyn s a,
    ((allCtx s).filter fun c => c.live && c.gunit == s.ctx.gunit && c.claims.contains a).map (·.cid))
  match qinitMeets s s.ctx.now a w with
  | some m => takeTrap s (bankTrap s.ctx q m w.pc)
  | none =>
    match declEscape s.ctx 2 true (byteRange a 32) with
    | some b => takeTrap s ⟨0x0D, BitVec.ofNat 64 b, requester s.ctx 4 w.pos 4, 1, w.pc⟩
    | none => (writeQinit s a v).up fun c => { c with touch := c.touch ++ [⟨4, w.pos, w.pc, 4, a, 32, some old⟩] }

/-- R456: one write that is not a latch is made. -/
def makeWrite (s : State) (w : DWrite) : State :=
  match w.act with
  | .ctl c v => writeCtl s c.toNat v
  | .shadow e r f v => s.upR fun x => { x with sd := vset x.sd (shIdx e r) ((getSd x e r).setField f.toNat v) }
  | .stride l k y => s.upR fun x =>
      let z := x.loops.toList.getD l.val Loop.zero
      { x with loops := vset x.loops l.val { z with strd := z.strd.set k y } }
  | .ft i v => s.upR fun x => { x with ft := x.ft.set i v }
  | .st t h lo hi => s.upR fun x =>
      let b := 16 * b2n t + 8 * b2n h
      { x with st := Vector.ofFn fun k =>
          if b ≤ k.val ∧ k.val < b + 8 then
            BitVec.ofNat 16 ((if k.val < b + 4 then lo else hi).toNat / 2 ^ (16 * ((k.val - b) % 4)))
          else x.st[k] }
  | .cht j lo hi => s.upR fun x => { x with cht := vset (vset x.cht (2 * j.val) lo) (2 * j.val + 1) hi }
  | .dset e ws => s.upR fun x =>
      { x with dset := Vector.ofFn fun k => if k.val / 6 = e.val then ws.getD (k.val % 6) 0 else x.dset[k] }
  | .store a n v => makeStore s w a n v
  | .qinit a v => makeQinit s w a v
  | .pwrlvl v => setHeld (s.up fun c => { c with pwrlvl := v }) s.ctx.cid v
  | .raise x => takeTrap s x

/-- R456: the writes due at t are made in order, until one of them raises a trap; those not made stay pending. -/
def makeWrites : List DWrite → State → State
  | [], s => s
  | w :: ws, s =>
    if s.ctx.iss.trapped then s
    else makeWrites ws (makeWrite (s.up fun c => { c with dws := c.dws.erase w }) w)

/-- R456 step 2: everything due at t. -/
def writesAt (s : State) (t : Nat) : State :=
  makeWrites (sortBy (fun a b => orderLe (a.issue, a.pos) (b.issue, b.pos)) (s.ctx.dws.filter fun w => w.due ≤ t)) s

/-! ## Iteration boundaries (R196, R202) -/

/-- R202: the strides of a level applied. -/
def applyStrides (r : Regs) (x : Loop) : Regs :=
  x.strd.toList.foldl (fun r y =>
    if y.en then
      let h := getSh r y.eng y.reg
      { r with sh := vset r.sh (shIdx y.eng y.reg) { h with base := h.base + y.by_ } }
    else r) r

/-- R202: one level's boundary: the strides, then the next iteration, or the level is left. -/
def levelBoundary (s : State) (l : Fin 8) : State × Bool :=
  let x := s.ctx.r.loops.toList.getD l.val Loop.zero
  let s := s.upR fun r => applyStrides r x
  if x.cnt = 0 then
    (s.upR fun r => { r with
      loops := vset r.loops l.val { x with active := false, cnt := 0, idx := 0, strd := clearStrides x.strd }
      order := r.order.filter (· != l) }, false)
  else
    ((s.upR fun r => { r with loops := vset r.loops l.val { x with cnt := x.cnt - 1, idx := x.idx + 1 } }).up fun c =>
      { c with pc := x.start, fin := none }, true)

/-- R202: the levels whose end block was finished, most recently entered first; six levels exist. -/
def boundaryGo : Nat → State → State
  | 0, s => s.up fun c => { c with fin := none }
  | n + 1, s =>
    match endingLevel s.ctx with
    | none => s.up fun c => { c with fin := none }
    | some l => match levelBoundary s l with | (s, true) => s | (s, false) => boundaryGo n s

/-- R139: the sequencer passes over pad blocks. -/
def passPads (s : State) : State := s.up fun c => { c with pc := skipPads c (c.hdr.codelen / 64) c.pc }

/-- R38, R202: ITERATION_BOUNDARY. -/
def execIterationBoundary (s : State) : Outcome State :=
  .next (if s.ctx.fin.isSome then passPads (boundaryGo 7 s) else s)

/-! ## Starts and waits -/

/-- R345, R346: a command of an engine starts at the task cycle at hand; a missed operand faults in throughput mode and
holds the task cycle in deterministic mode. -/
def execCommandStart (e : Fin 4) (s : State) : Outcome State :=
  if s.ctx.status = .handler then .next s
  else if h : e.val < 3 then
    let e : Fin 3 := ⟨e.val, h⟩
    let t := s.ctx.now
    match starter s.ctx e t with
    | none => .next s
    | some k =>
      match missed s k with
      | none => .next (startCmd s e k t)
      | some a =>
        if s.ctx.hdr.det then .next (s.up fun c => { c with wait := .hold 0 })
        else .next (takeTrap s
          ⟨0x14, BitVec.ofNat 64 (at' (slotOf e) 12 + at' k.pos 8 + 1), BitVec.ofNat 64 k.nominal, BitVec.ofNat 64 a, k.pc⟩)
  else .next s

/-- R205, R206: whether the wait of a context is over at t: WAITT at its target, WAITP at its promise with its commands
complete, PHASE.a with its deliveries landed. -/
def waitOver (s : State) (t : Nat) : Bool :=
  let c := s.ctx
  match c.wait with
  | .none => true
  | .hold _ => true
  | .waitt target => target ≤ t
  | .waitp _ target cs _ _ _ => target ≤ t && c.cq.all fun k => !(cs.contains k.id) || k.left == 0
  | .phaseA _ _ => !(deliveriesPending s)
  | _ => false

/-- R205, R206: WAITT_EXPIRY. -/
def execWaittExpiry (s : State) : Outcome State :=
  .next (if waitOver s s.ctx.now then s.up fun c => { c with wait := .none } else s)

/-! ## The merge stage and the ring (R17, R41, R342) -/

/-- R342: a context that would issue in this cycle, as far as its waits tell. -/
def standsReady (c : Ctx) : Bool := (c.status == .running || c.status == .handler) && c.wait == .none && !c.owed

/-- R17, R342: a trail that has been blocked for 64 cycles issues, and a lead that is ready is held for the cycle. -/
def execTrailForcedIssue (core : Nat) (s : State) : Outcome State :=
  let go := (allCtx s).any fun c => c.live && c.gunit == core && c.role == .trail && c.blocked ≥ 64
  if go then
    .next (mapCtx s fun c =>
      if !c.live ∨ c.gunit ≠ core then c
      else if c.role = .lead ∧ standsReady c then { c with frozen := true, lanes := 0, blkc := c.blkc + 1 }
      else if c.role = .trail then { c with blocked := 0 } else c)
  else .next s

/-- R41: RING_RESUME: all stopped stations resume at T. -/
def execRingResume (s : State) : Outcome State := .next (resumeRing s)

end Sys2Proof.Machine
end

