-- ==== Sys2Proof/Machine/Branch.lean ====
section
/-! DEFINITION. The B class: branches (R197 to R199), hardware loops (R200 to R204), waits and
synchronisation (R205 to R207), system operations (R208 to R210), and the prefix (R144 to R146, R352). -/

namespace Sys2Proof.Machine

/-- A B syllable: its issue check, its charge, and its effect. -/
def bOp (s : State) (chk : Option Trap) (eff : State → State) : Outcome State :=
  if acts s then
    match chk with
    | some t => .next (takeTrap s t)
    | none => .next (eff (charge s (weight s 2)))
  else .next (idle s)

/-- R142: the next two bundles are delay bundles, whether the branch acts or not. -/
def markDelay (o : Outcome State) : Outcome State :=
  match o with
  | .next s => .next (if s.ctx.iss.trapped then s else s.up fun c => { c with dly := 2 })
  | o => o

/-- R91: a register that a B syllable consumed fails its code: raised where its result would commit. -/
def consumed (s : State) (ns : List (Fin 32)) : State :=
  match badReg s 6 ns with
  | some t => addDW s 1 (.raise t)
  | none => s

/-- R197, R199: control passes to a target after two delay bundles. -/
def goTo (s : State) (t : Word) : State := s.up fun c => { c with pend := .branch t }

/-- R143: the target of a displacement in fetch blocks. -/
def relTarget (s : State) (d : Int) : Word := blockOf s.ctx.iss.pc + BitVec.ofInt 64 (64 * d)

/-- R197: BR. -/
def execBr (d : BitVec 20) (s : State) : Outcome State := markDelay (bOp s none fun s => goTo s (relTarget s d.toInt))

/-- R197: BRC.nz. -/
def execBrcNz (c : Fin 32) (d : BitVec 14) (s : State) : Outcome State :=
  markDelay (bOp s none fun s => consumed (if rdG s c ≠ 0 then goTo s (relTarget s d.toInt) else s) [c])

/-- R197: BRC.z. -/
def execBrcZ (c : Fin 32) (d : BitVec 14) (s : State) : Outcome State :=
  markDelay (bOp s none fun s => consumed (if rdG s c = 0 then goTo s (relTarget s d.toInt) else s) [c])

/-- R197, R198: CALL: a branch that writes the return address to g30 at +1. -/
def execCall (d : BitVec 20) (s : State) : Outcome State :=
  markDelay (bOp s none fun s =>
    putLatch (goTo s (relTarget s d.toInt))
      { newLatch s 1 (.g 30) (returnAddr s.ctx s.ctx.iss.pc) 0 none with slot := 6 })

/-- R197, R198: JMP; a target that is no block address raises BRANCH_ALIGN at issue. -/
def execJmp (a : Fin 32) (s : State) : Outcome State :=
  markDelay (bOp s (if (rdG s a).toNat % 64 ≠ 0 then some (mkTrap s 0x05 (some (rdG s a)) none none) else none)
    fun s => consumed (goTo s (rdG s a)) [a])

/-- The loop level of a number. -/
def getLoop (s : State) (l : Fin 8) : Loop := s.ctx.r.loops.toList.getD l.val Loop.zero

/-- R204, R202: a level made inactive with its stride entries cleared. -/
def Loop.leave (x : Loop) : Loop :=
  { x with active := false, cnt := 0, idx := 0, strd := clearStrides x.strd }

/-- R201: loop level l entered with a count, its body the e blocks after the block of the LOOP. DEDUCED (log 124): with a
count of 0 while LSTART or LEND is held, the end block is the encoded one and the held values stay held. DEDUCED (log 125):
a LOOP in the last bundle of an outer level's end block goes to its body, or past it, with no boundary of that level. -/
def enterLoop (s : State) (l : Fin 8) (count e : Nat) : State :=
  let x := getLoop s l
  let b := blockOf s.ctx.iss.pc
  let start := x.hs.getD (b + 64)
  let stop := x.he.getD (b + BitVec.ofNat 64 (64 * e))
  if count = 0 then
    (s.upR fun r => { r with loops := vset r.loops l.val { x.leave with hs := x.hs, he := x.he } }).up fun c =>
      { c with npc := b + BitVec.ofNat 64 (64 * (e + 1)), fin := none }
  else
    (s.upR fun r => { r with
      loops := vset r.loops l.val
        { x with active := true, cnt := BitVec.ofNat 48 (count - 1), idx := 0, start := start, stop := stop, hs := none,
                 he := none }
      order := l :: r.order }).up fun c => { c with npc := start, fin := none }

/-- R201: LOOP_DEPTH of an active level. -/
def loopCheck (s : State) (l : Fin 8) : Option Trap :=
  if (getLoop s l).active then some (mkTrap s 0x0A (some (BitVec.ofNat 64 l.val)) (some 0) none) else none

/-- R200, R201: LOOP. -/
def execLoop (l : Fin 8) (c : Fin 32) (e : BitVec 12) (s : State) : Outcome State :=
  bOp s (loopCheck s l) fun s => consumed (enterLoop s l (min (rdG s c).toNat (2 ^ 48 - 1)) e.toNat) [c]

/-- R200, R201: LOOPI. -/
def execLoopi (l : Fin 8) (k : BitVec 9) (e : BitVec 8) (s : State) : Outcome State :=
  bOp s (loopCheck s l) fun s => enterLoop s l k.toNat e.toNat

/-- R203: LSTR sets stride entry k of level l at +1; g0 clears it. -/
def execLstr (l : Fin 8) (k e r : Fin 4) (g : Fin 32) (s : State) : Outcome State :=
  bOp s none fun s =>
    addDW s 1 (match badReg s 6 [g] with
      | some t => .raise t
      | none => .stride l k ⟨g != 0, e, r, (rdG s g).setWidth 24⟩)

/-- R208, R141: NOP. -/
def execNop (s : State) : Outcome State := bOp s none id

/-- R208, R209: TRAP, taken at the boundary after the bundle. -/
def execTrap (im : BitVec 15) (s : State) : Outcome State :=
  bOp s none fun s => s.up fun c => { c with swt := some (im.toNat, false) }

/-- R208, R209: SVC, taken at the boundary after the bundle. -/
def execSvc (im : BitVec 15) (s : State) : Outcome State :=
  bOp s none fun s => s.up fun c => { c with swt := some (im.toNat, true) }

/-- R208, R209, R375: RTE; outside a handler it raises FATAL_CONTEXT. -/
def execRte (s : State) : Outcome State :=
  markDelay (bOp s (if s.ctx.status = .handler then none else some (fatalTrap s none none))
    fun s => s.up fun c => { c with pend := .rte c.iss.pc })

/-- R23, R208, R210: END: the context waits for what R23 names; no later bundle issues. -/
def execEndTask (s : State) : Outcome State :=
  bOp s none fun s => s.up fun c => { c with ended := true, wait := .ending, pend := .none }

/-- R208, R210: YLD: with a pre-emption request pending, the context parks at the boundary after its bundle. -/
def execYld (s : State) : Outcome State :=
  bOp s none fun s => if s.ctx.preReq then s.up fun c => { c with after := 1 } else s

/-- R208, R210: HALT: the context stops at the boundary after its bundle. -/
def execHalt (s : State) : Outcome State := bOp s none fun s => s.up fun c => { c with after := 2 }

/-- R204: LBRK: leaves level l, and every level entered after it, after two delay bundles. -/
def execLbrk (l : Fin 8) (s : State) : Outcome State :=
  markDelay (bOp s (if (getLoop s l).active then none
      else some (mkTrap s 0x0A (some (BitVec.ofNat 64 l.val)) (some 1) none))
    fun s => s.up fun c => { c with pend := .lbrk l })

/-- R205: a wait until a task cycle. -/
def waitUntil (s : State) (t : Nat) : State := s.up fun c => { c with wait := .waitt (max (c.now + 1) t) }

/-- R205: WAITT ga. -/
def execWaittAbs (a : Fin 32) (s : State) : Outcome State :=
  bOp s none fun s => consumed (waitUntil s ((rdG s a).toNat % 2 ^ 48)) [a]

/-- R205: WAITT n. -/
def execWaittRel (n : BitVec 19) (s : State) : Outcome State :=
  bOp s none fun s => waitUntil s (s.ctx.now + 1 + n.toNat)

/-- R206, R267: the incomplete commands registered on a promise register by a latch that has committed. -/
def registered (c : Ctx) (n : Fin 8) : List Nat :=
  (c.cq.filter fun x => x.regs.contains n && x.left != 0).map (·.id)

/-- R205, R206, R349: WAITP: the promise, the commands and GRACE are those of its issue. -/
def execWaitp (k : Fin 8) (s : State) : Outcome State :=
  bOp s none fun s => s.up fun c => { c with
    wait := .waitp k (max (c.now + 1) c.r.pm[k].toNat) (registered c k) c.r.grace.toNat c.iss.pc.toNat 0 }

/-- R20: a level that names no participants of the launch. -/
def levelTrap (s : State) (l : Nat) : Option Trap :=
  if l > s.ctx.hdr.gang ∨ l > s.ctx.hdr.nf then some (mkTrap s 0x01 (some (BitVec.ofNat 64 l)) none none) else none

/-- R117: PHASE.p. -/
def execPhaseP (s : State) : Outcome State := bOp s none fun s => closePhase s s.ctx.pfx.scope

/-- R121: the acquire of PHASE.a and its wait for deliveries. -/
def acquireWait (s : State) : State :=
  let scope := s.ctx.pfx.scope
  let s := acquire s scope
  s.up fun c => { c with wait := .phaseA scope s.net.pubs.length }

/-- R20, R127, R207: BAR: PHASE.p at its scope, the wait for its participants, then PHASE.a. At level 0, which names the task
alone, the wait is over at once (DEDUCED, log 148). -/
def execBar (l : Fin 8) (s : State) : Outcome State :=
  bOp s (levelTrap s l.val) fun s =>
    let scope := s.ctx.pfx.scope
    let ph := s.ctx.openPh
    let s := closePhase s scope
    if l = 0 then acquireWait s
    else s.up fun c =>
      let m := (c.bars.filter fun b => b.1 == l.val).length
      { c with bars := c.bars ++ [(l.val, ph)], wait := .bar l.val scope m }

/-- R121: PHASE.a. -/
def execPhaseA (s : State) : Outcome State := bOp s none acquireWait

/-- R121: PHASE.pa. -/
def execPhasePa (s : State) : Outcome State := bOp s none fun s => acquireWait (closePhase s s.ctx.pfx.scope)

/-- R352, R419: a request for an operating point: nothing when it is in force; otherwise the pending point. -/
def requestOp (s : State) (op : Fin 8) : State :=
  let c := s.ctx
  if c.upper ∧ c.unit ≠ 0 then s
  else { s with units := updIsland s.units c.gunit fun u =>
      if u.opc = op then u else { u with req := op }.repoint }

/-- R144 to R147: the prefix: the scope and the masks of its bundle, and its request for an operating point. -/
def execPfx (sc : Fin 8) (opv : Bool) (op : Fin 8) (fst lst : BitVec 8) (lv : Fin 8) (s : State) : Outcome State :=
  let s := charge (s.up fun c => { c with pfx := ⟨sc.val, fst, lst, lv⟩ }) (weight s 4)
  .next (if opv then requestOp s op else s)

end Sys2Proof.Machine
end

