-- ==== Sys2Proof/Machine/Pred.lean ====
section
/-! DEFINITION. Compares (R181), predicate logic and SEL (R183). -/

namespace Sys2Proof.Machine

/-- R149, R175: an S syllable that writes a predicate. -/
def sPred (s : State) (d : Fin 8) (srcs : List (Fin 32)) (v : Bool) : Outcome State :=
  sOp s 1 (.p d) srcs (if v then 1 else 0) 0 none

/-- R181: CMPEQ. -/
def execCmpeq (pd : Fin 8) (a b : Fin 32) (s : State) : Outcome State :=
  sPred s pd [a, b] (rdG s a == rdG s b)

/-- R181: CMPNE. -/
def execCmpne (pd : Fin 8) (a b : Fin 32) (s : State) : Outcome State :=
  sPred s pd [a, b] (rdG s a != rdG s b)

/-- R181: CMPLT. -/
def execCmplt (pd : Fin 8) (a b : Fin 32) (s : State) : Outcome State :=
  sPred s pd [a, b] ((rdG s a).slt (rdG s b))

/-- R181: CMPLE. -/
def execCmple (pd : Fin 8) (a b : Fin 32) (s : State) : Outcome State :=
  sPred s pd [a, b] ((rdG s a).sle (rdG s b))

/-- R181: CMPLTN. -/
def execCmpltn (pd : Fin 8) (a b : Fin 32) (s : State) : Outcome State :=
  sPred s pd [a, b] ((rdG s a).ult (rdG s b))

/-- R181: CMPLEN. -/
def execCmplen (pd : Fin 8) (a b : Fin 32) (s : State) : Outcome State :=
  sPred s pd [a, b] ((rdG s a).ule (rdG s b))

/-- R181: CMPEQI. -/
def execCmpeqi (pd : Fin 8) (a : Fin 32) (im : BitVec 16) (s : State) : Outcome State :=
  sPred s pd [a] (rdG s a == imS im)

/-- R181: CMPNEI. -/
def execCmpnei (pd : Fin 8) (a : Fin 32) (im : BitVec 16) (s : State) : Outcome State :=
  sPred s pd [a] (rdG s a != imS im)

/-- R181: CMPLTI. -/
def execCmplti (pd : Fin 8) (a : Fin 32) (im : BitVec 16) (s : State) : Outcome State :=
  sPred s pd [a] ((rdG s a).slt (imS im))

/-- R181: CMPLTNI. -/
def execCmpltni (pd : Fin 8) (a : Fin 32) (im : BitVec 16) (s : State) : Outcome State :=
  sPred s pd [a] ((rdG s a).ult (im.setWidth 64))

/-- R183: PAND. -/
def execPand (d a b : Fin 8) (s : State) : Outcome State :=
  sPred s d [] (rdP s a && rdP s b)

/-- R183: POR. -/
def execPor (d a b : Fin 8) (s : State) : Outcome State :=
  sPred s d [] (rdP s a || rdP s b)

/-- R183: PXOR. -/
def execPxor (d a b : Fin 8) (s : State) : Outcome State :=
  sPred s d [] (rdP s a != rdP s b)

/-- R183: PANDN. -/
def execPandn (d a b : Fin 8) (s : State) : Outcome State :=
  sPred s d [] (rdP s a && !rdP s b)

/-- R183: PSET pd, 0. -/
def execPsetFalse (d : Fin 8) (s : State) : Outcome State :=
  sPred s d [] false

/-- R183: PSET pd, 1. -/
def execPsetTrue (d : Fin 8) (s : State) : Outcome State :=
  sPred s d [] true

/-- R183: PMOV pd, pa. -/
def execPmovPred (d a : Fin 8) (s : State) : Outcome State :=
  sPred s d [] (rdP s a)

/-- R183: PMOV pd, ga. -/
def execPmovFromReg (d : Fin 8) (a : Fin 32) (s : State) : Outcome State :=
  sPred s d [a] (rdG s a != 0)

/-- R183: SEL. -/
def execSel (d a b : Fin 32) (k : Fin 8) (s : State) : Outcome State :=
  sInt1 s 1 d [a, b] (if rdP s k then rdG s a else rdG s b)

/-- R183: PMOV gd, pa. -/
def execPmovToReg (d : Fin 32) (a : Fin 8) (s : State) : Outcome State :=
  sInt1 s 1 d [] (if rdP s a then 1 else 0)

end Sys2Proof.Machine
end

