-- ==== Sys2Proof/Machine/ScalarFloat.lean ====
section
/-! DEFINITION. Scalar floating point (R184 to R186), rounding under R58 to R61 with the flags and traps of R63 to R65. -/

namespace Sys2Proof.Machine

/-- R184: the format that D names. -/
def sFmt (f : Bool) : Nat := if f then 10 else 11

/-- R184: an operand: bits [31:0] for f32, all 64 for f64. -/
def sBits (s : State) (f : Bool) (n : Fin 32) : Nat := if f then (rdG s n).toNat else (rdG s n).toNat % 2 ^ 32

/-- The value of an operand. -/
def sVal (s : State) (f : Bool) (n : Fin 32) : Val := fpDecode (sFmt f) (sBits s f n)

/-- R58, R59, R184: the mode of a scalar rounding: counter word 0 is 0. -/
def sMode (s : State) (m : Fin 8) : Mode :=
  modeOf s.ctx (resolveMode s m.val) 0 s.ctx.tclk s.ctx.iss.sslot

/-- R49, R65: the trap that a scalar result raises at its latch's commit, under the FEN of issue. -/
def fpBad (s : State) (r : Res) : Option Trap :=
  let fl := some (BitVec.ofNat 64 r.fl)
  if r.sn ∧ s.ctx.r.fen.getLsbD 5 then some (mkTrap s 0x12 none fl none)
  else if fpTraps s.ctx.r.fen r then some (mkTrap s 0x11 none fl none)
  else none

/-- R336, R64, R65: the latch of a scalar floating-point syllable, which remembers what it is judged by. -/
def fpLatch (s : State) (lat : Nat) (d : Dest) (srcs : List (Fin 32)) (r : Res) (v : Word) : Outcome State :=
  if acts s then
    let s := charge s (weight s 0)
    .next (putLatch s { newLatch s lat d v r.fl ((badReg s s.ctx.iss.sslot srcs).or (fpBad s r)) with
      fp := some (BitVec.ofNat 6 r.fl, r.tiny, r.sn) })
  else .next (idle s)

/-- R185: a scalar result in a general register; `v` is what it writes. -/
def fpOp (s : State) (lat : Nat) (d : Fin 32) (srcs : List (Fin 32)) (r : Res) (v : Word) : Outcome State :=
  fpLatch s lat (.g d) srcs r v

/-- R184, R185: a scalar result whose bits are the register's. -/
def fpRes (s : State) (lat : Nat) (d : Fin 32) (srcs : List (Fin 32)) (r : Res) : Outcome State :=
  fpOp s lat d srcs r (BitVec.ofNat 64 r.bits)

/-- R185: a compare: invalid for a signalling NaN, and for any NaN when ordered. -/
def fpCmp (s : State) (pd : Fin 8) (a b : Fin 32) (f ordered : Bool) (rel : Option Ordering → Bool) : Outcome State :=
  let x := sVal s f a
  let y := sVal s f b
  let (nf, sn) := nanFlags [x, y]
  let o := fpCompare x y
  let r : Res := ⟨0, if ordered && o.isNone then nf ||| flNV else nf, false, sn⟩
  fpLatch s 2 (.p pd) [a, b] r (if rel o then 1 else 0)

/-- R184: FADD. -/
def execFadd (d a b : Fin 32) (f : Bool) (m : Fin 8) (s : State) : Outcome State :=
  fpRes s 4 d [a, b] (fpAdd (sFmt f) (sMode s m) (sVal s f a) (sVal s f b))

/-- R184: FSUB. -/
def execFsub (d a b : Fin 32) (f : Bool) (m : Fin 8) (s : State) : Outcome State :=
  fpRes s 4 d [a, b] (fpAdd (sFmt f) (sMode s m) (sVal s f a) (sVal s f b).negate)

/-- R184: FMUL. -/
def execFmul (d a b : Fin 32) (f : Bool) (m : Fin 8) (s : State) : Outcome State :=
  fpRes s 4 d [a, b] (fpMul (sFmt f) (sMode s m) (sVal s f a) (sVal s f b))

/-- R184, R185: FFMA, which reads gd. -/
def execFfma (d a b : Fin 32) (f : Bool) (m : Fin 8) (s : State) : Outcome State :=
  fpRes s 4 d [a, b, d] (fpFma (sFmt f) (sMode s m) (sVal s f a) (sVal s f b) (sVal s f d))

/-- R184, R185: FFMS, which reads gd. -/
def execFfms (d a b : Fin 32) (f : Bool) (m : Fin 8) (s : State) : Outcome State :=
  fpRes s 4 d [a, b, d] (fpFma (sFmt f) (sMode s m) (sVal s f a).negate (sVal s f b) (sVal s f d))

/-- R184: FDIV. -/
def execFdiv (d a b : Fin 32) (f : Bool) (m : Fin 8) (s : State) : Outcome State :=
  fpRes s 16 d [a, b] (fpDiv (sFmt f) (sMode s m) (sVal s f a) (sVal s f b))

/-- R184: FSQRT. -/
def execFsqrt (d a : Fin 32) (f : Bool) (m : Fin 8) (s : State) : Outcome State :=
  fpRes s 16 d [a] (fpSqrt (sFmt f) (sMode s m) (sVal s f a))

/-- R184, R50: FMIN. -/
def execFmin (d a b : Fin 32) (f : Bool) (s : State) : Outcome State :=
  fpRes s 2 d [a, b] (fpMinMax (sFmt f) false (sBits s f a) (sBits s f b))

/-- R184, R50: FMAX. -/
def execFmax (d a b : Fin 32) (f : Bool) (s : State) : Outcome State :=
  fpRes s 2 d [a, b] (fpMinMax (sFmt f) true (sBits s f a) (sBits s f b))

/-- R184, R185: FCMPEQ. -/
def execFcmpeq (pd : Fin 8) (a b : Fin 32) (f : Bool) (s : State) : Outcome State :=
  fpCmp s pd a b f false fun o => o == some .eq

/-- R184, R185: FCMPLT. -/
def execFcmplt (pd : Fin 8) (a b : Fin 32) (f : Bool) (s : State) : Outcome State :=
  fpCmp s pd a b f true fun o => o == some .lt

/-- R184, R185: FCMPLE. -/
def execFcmple (pd : Fin 8) (a b : Fin 32) (f : Bool) (s : State) : Outcome State :=
  fpCmp s pd a b f true fun o => o == some .lt || o == some .eq

/-- R184, R185: FCMPUN. -/
def execFcmpun (pd : Fin 8) (a b : Fin 32) (f : Bool) (s : State) : Outcome State :=
  fpCmp s pd a b f false fun o => o.isNone

/-- R186: FCLASS. -/
def execFclass (d a : Fin 32) (f : Bool) (s : State) : Outcome State :=
  sInt1 s 2 d [a] (BitVec.ofNat 64 (fpClass (sFmt f) (sBits s f a)))

/-- R184, R66: FCVT to the other floating format. -/
def execFcvtFloat (d a : Fin 32) (f : Bool) (m : Fin 8) (s : State) : Outcome State :=
  fpRes s 4 d [a] (convert (sFmt f) (sFmt !f) (sMode s m) (sBits s f a))

/-- R184, R66: FCVT to i64. -/
def execFcvtToI64 (d a : Fin 32) (f : Bool) (m : Fin 8) (s : State) : Outcome State :=
  fpRes s 4 d [a] (convert (sFmt f) 8 (sMode s m) (sBits s f a))

/-- R184, R66: FCVT to n64. -/
def execFcvtToN64 (d a : Fin 32) (f : Bool) (m : Fin 8) (s : State) : Outcome State :=
  fpRes s 4 d [a] (convert (sFmt f) 9 (sMode s m) (sBits s f a))

/-- R184, R66: FCVT to i32, sign-extended. -/
def execFcvtToI32 (d a : Fin 32) (f : Bool) (m : Fin 8) (s : State) : Outcome State :=
  let r := convert (sFmt f) 6 (sMode s m) (sBits s f a)
  fpOp s 4 d [a] r ((BitVec.ofNat 32 r.bits).signExtend 64)

/-- R184, R66: FCVT to n32, zero-extended. -/
def execFcvtToN32 (d a : Fin 32) (f : Bool) (m : Fin 8) (s : State) : Outcome State :=
  fpRes s 4 d [a] (convert (sFmt f) 7 (sMode s m) (sBits s f a))

/-- R184, R66: FCVT from i64. -/
def execFcvtFromI64 (d a : Fin 32) (f : Bool) (m : Fin 8) (s : State) : Outcome State :=
  fpRes s 4 d [a] (convert 8 (sFmt f) (sMode s m) (rdG s a).toNat)

/-- R184, R66: FCVT from n64. -/
def execFcvtFromN64 (d a : Fin 32) (f : Bool) (m : Fin 8) (s : State) : Outcome State :=
  fpRes s 4 d [a] (convert 9 (sFmt f) (sMode s m) (rdG s a).toNat)

/-- R184, R66: FCVT from i32. -/
def execFcvtFromI32 (d a : Fin 32) (f : Bool) (m : Fin 8) (s : State) : Outcome State :=
  fpRes s 4 d [a] (convert 6 (sFmt f) (sMode s m) ((rdG s a).toNat % 2 ^ 32))

/-- R184, R66: FCVT from n32. -/
def execFcvtFromN32 (d a : Fin 32) (f : Bool) (m : Fin 8) (s : State) : Outcome State :=
  fpRes s 4 d [a] (convert 7 (sFmt f) (sMode s m) ((rdG s a).toNat % 2 ^ 32))

end Sys2Proof.Machine
end

