-- ==== Sys2Proof/Machine/Dispatch.lean ====
section
/-! DEFINITION. The meaning of every row of the opcode table: one arm per constructor of Instr. -/

namespace Sys2Proof.Machine

/-- R137 to R154 and the rules of the rows: what each instruction or event does to a state. -/
def exec (i : Instr) (s : State) : Host.Outcome State Fault Refusal :=
  match i with
  | .add d a b => Sys2Proof.Machine.execAdd d a b s
  | .sub d a b => Sys2Proof.Machine.execSub d a b s
  | .addw d a b => Sys2Proof.Machine.execAddw d a b s
  | .subw d a b => Sys2Proof.Machine.execSubw d a b s
  | .and d a b => Sys2Proof.Machine.execAnd d a b s
  | .or d a b => Sys2Proof.Machine.execOr d a b s
  | .xor d a b => Sys2Proof.Machine.execXor d a b s
  | .andn d a b => Sys2Proof.Machine.execAndn d a b s
  | .orn d a b => Sys2Proof.Machine.execOrn d a b s
  | .shl d a b => Sys2Proof.Machine.execShl d a b s
  | .shr d a b => Sys2Proof.Machine.execShr d a b s
  | .sar d a b => Sys2Proof.Machine.execSar d a b s
  | .rotl d a b => Sys2Proof.Machine.execRotl d a b s
  | .min d a b => Sys2Proof.Machine.execMin d a b s
  | .max d a b => Sys2Proof.Machine.execMax d a b s
  | .minn d a b => Sys2Proof.Machine.execMinn d a b s
  | .maxn d a b => Sys2Proof.Machine.execMaxn d a b s
  | .sextB d a => Sys2Proof.Machine.execSextB d a s
  | .sextH d a => Sys2Proof.Machine.execSextH d a s
  | .sextW d a => Sys2Proof.Machine.execSextW d a s
  | .zextB d a => Sys2Proof.Machine.execZextB d a s
  | .zextH d a => Sys2Proof.Machine.execZextH d a s
  | .zextW d a => Sys2Proof.Machine.execZextW d a s
  | .addi d a im => Sys2Proof.Machine.execAddi d a im s
  | .andi d a im => Sys2Proof.Machine.execAndi d a im s
  | .ori d a im => Sys2Proof.Machine.execOri d a im s
  | .xori d a im => Sys2Proof.Machine.execXori d a im s
  | .shli d a n => Sys2Proof.Machine.execShli d a n s
  | .shri d a n => Sys2Proof.Machine.execShri d a n s
  | .sari d a n => Sys2Proof.Machine.execSari d a n s
  | .rotli d a n => Sys2Proof.Machine.execRotli d a n s
  | .movi d h im => Sys2Proof.Machine.execMovi d h im s
  | .movk d h im => Sys2Proof.Machine.execMovk d h im s
  | .cmpeq pd a b => Sys2Proof.Machine.execCmpeq pd a b s
  | .cmpne pd a b => Sys2Proof.Machine.execCmpne pd a b s
  | .cmplt pd a b => Sys2Proof.Machine.execCmplt pd a b s
  | .cmple pd a b => Sys2Proof.Machine.execCmple pd a b s
  | .cmpltn pd a b => Sys2Proof.Machine.execCmpltn pd a b s
  | .cmplen pd a b => Sys2Proof.Machine.execCmplen pd a b s
  | .cmpeqi pd a im => Sys2Proof.Machine.execCmpeqi pd a im s
  | .cmpnei pd a im => Sys2Proof.Machine.execCmpnei pd a im s
  | .cmplti pd a im => Sys2Proof.Machine.execCmplti pd a im s
  | .cmpltni pd a im => Sys2Proof.Machine.execCmpltni pd a im s
  | .pand d a b => Sys2Proof.Machine.execPand d a b s
  | .por d a b => Sys2Proof.Machine.execPor d a b s
  | .pxor d a b => Sys2Proof.Machine.execPxor d a b s
  | .pandn d a b => Sys2Proof.Machine.execPandn d a b s
  | .psetFalse d => Sys2Proof.Machine.execPsetFalse d s
  | .psetTrue d => Sys2Proof.Machine.execPsetTrue d s
  | .pmovPred d a => Sys2Proof.Machine.execPmovPred d a s
  | .pmovFromReg d a => Sys2Proof.Machine.execPmovFromReg d a s
  | .sel d a b k => Sys2Proof.Machine.execSel d a b k s
  | .pmovToReg d a => Sys2Proof.Machine.execPmovToReg d a s
  | .fadd d a b f m => Sys2Proof.Machine.execFadd d a b f m s
  | .fsub d a b f m => Sys2Proof.Machine.execFsub d a b f m s
  | .fmul d a b f m => Sys2Proof.Machine.execFmul d a b f m s
  | .ffma d a b f m => Sys2Proof.Machine.execFfma d a b f m s
  | .ffms d a b f m => Sys2Proof.Machine.execFfms d a b f m s
  | .fdiv d a b f m => Sys2Proof.Machine.execFdiv d a b f m s
  | .fsqrt d a f m => Sys2Proof.Machine.execFsqrt d a f m s
  | .fmin d a b f => Sys2Proof.Machine.execFmin d a b f s
  | .fmax d a b f => Sys2Proof.Machine.execFmax d a b f s
  | .fcmpeq pd a b f => Sys2Proof.Machine.execFcmpeq pd a b f s
  | .fcmplt pd a b f => Sys2Proof.Machine.execFcmplt pd a b f s
  | .fcmple pd a b f => Sys2Proof.Machine.execFcmple pd a b f s
  | .fcmpun pd a b f => Sys2Proof.Machine.execFcmpun pd a b f s
  | .fclass d a f => Sys2Proof.Machine.execFclass d a f s
  | .fcvtFloat d a f m => Sys2Proof.Machine.execFcvtFloat d a f m s
  | .fcvtToI64 d a f m => Sys2Proof.Machine.execFcvtToI64 d a f m s
  | .fcvtToN64 d a f m => Sys2Proof.Machine.execFcvtToN64 d a f m s
  | .fcvtToI32 d a f m => Sys2Proof.Machine.execFcvtToI32 d a f m s
  | .fcvtToN32 d a f m => Sys2Proof.Machine.execFcvtToN32 d a f m s
  | .fcvtFromI64 d a f m => Sys2Proof.Machine.execFcvtFromI64 d a f m s
  | .fcvtFromN64 d a f m => Sys2Proof.Machine.execFcvtFromN64 d a f m s
  | .fcvtFromI32 d a f m => Sys2Proof.Machine.execFcvtFromI32 d a f m s
  | .fcvtFromN32 d a f m => Sys2Proof.Machine.execFcvtFromN32 d a f m s
  | .clz d a => Sys2Proof.Machine.execClz d a s
  | .ctz d a => Sys2Proof.Machine.execCtz d a s
  | .popc d a => Sys2Proof.Machine.execPopc d a s
  | .brev d a => Sys2Proof.Machine.execBrev d a s
  | .fns d a b => Sys2Proof.Machine.execFns d a b s
  | .bfx d a b => Sys2Proof.Machine.execBfx d a b s
  | .bfxn d a b => Sys2Proof.Machine.execBfxn d a b s
  | .bfi d a b => Sys2Proof.Machine.execBfi d a b s
  | .fshl d a b => Sys2Proof.Machine.execFshl d a b s
  | .fshr d a b => Sys2Proof.Machine.execFshr d a b s
  | .mul d a b => Sys2Proof.Machine.execMul d a b s
  | .mulh d a b => Sys2Proof.Machine.execMulh d a b s
  | .mulhn d a b => Sys2Proof.Machine.execMulhn d a b s
  | .div d a b => Sys2Proof.Machine.execDiv d a b s
  | .divn d a b => Sys2Proof.Machine.execDivn d a b s
  | .rem d a b => Sys2Proof.Machine.execRem d a b s
  | .remn d a b => Sys2Proof.Machine.execRemn d a b s
  | .ldB v b im o => Sys2Proof.Machine.execLdB v b im o s
  | .ldBn v b im o => Sys2Proof.Machine.execLdBn v b im o s
  | .ldH v b im o => Sys2Proof.Machine.execLdH v b im o s
  | .ldHn v b im o => Sys2Proof.Machine.execLdHn v b im o s
  | .ldW v b im o => Sys2Proof.Machine.execLdW v b im o s
  | .ldWn v b im o => Sys2Proof.Machine.execLdWn v b im o s
  | .ldD v b im o => Sys2Proof.Machine.execLdD v b im o s
  | .stB v b im o => Sys2Proof.Machine.execStB v b im o s
  | .stH v b im o => Sys2Proof.Machine.execStH v b im o s
  | .stW v b im o => Sys2Proof.Machine.execStW v b im o s
  | .stD v b im o => Sys2Proof.Machine.execStD v b im o s
  | .stq q b im o => Sys2Proof.Machine.execStq q b im o s
  | .shw v e r f => Sys2Proof.Machine.execShw v e r f s
  | .shg v e r f h => Sys2Proof.Machine.execShg v e r f h s
  | .ctlr v c => Sys2Proof.Machine.execCtlr v c s
  | .ctlrQ q c => Sys2Proof.Machine.execCtlrQ q c s
  | .ctlw v c => Sys2Proof.Machine.execCtlw v c s
  | .br d => Sys2Proof.Machine.execBr d s
  | .brcNz c d => Sys2Proof.Machine.execBrcNz c d s
  | .brcZ c d => Sys2Proof.Machine.execBrcZ c d s
  | .call d => Sys2Proof.Machine.execCall d s
  | .jmp a => Sys2Proof.Machine.execJmp a s
  | .loop l c e => Sys2Proof.Machine.execLoop l c e s
  | .loopi l k e => Sys2Proof.Machine.execLoopi l k e s
  | .lstr l k e r g => Sys2Proof.Machine.execLstr l k e r g s
  | .trap im => Sys2Proof.Machine.execTrap im s
  | .svc im => Sys2Proof.Machine.execSvc im s
  | .lbrk l => Sys2Proof.Machine.execLbrk l s
  | .waittAbs a => Sys2Proof.Machine.execWaittAbs a s
  | .waittRel n => Sys2Proof.Machine.execWaittRel n s
  | .waitp k => Sys2Proof.Machine.execWaitp k s
  | .bar l => Sys2Proof.Machine.execBar l s
  | .pfx sc opv op fst lst lv => Sys2Proof.Machine.execPfx sc opv op fst lst lv s
  | .vadd x => Sys2Proof.Machine.execVadd x s
  | .vaddS a x => Sys2Proof.Machine.execVaddS a x s
  | .vsub x => Sys2Proof.Machine.execVsub x s
  | .vsubS a x => Sys2Proof.Machine.execVsubS a x s
  | .vmul x => Sys2Proof.Machine.execVmul x s
  | .vmulS a x => Sys2Proof.Machine.execVmulS a x s
  | .vmulhS a => Sys2Proof.Machine.execVmulhS a s
  | .vfma x => Sys2Proof.Machine.execVfma x s
  | .vfmaS a x => Sys2Proof.Machine.execVfmaS a x s
  | .vfms x => Sys2Proof.Machine.execVfms x s
  | .vfmsS a x => Sys2Proof.Machine.execVfmsS a x s
  | .vminS a => Sys2Proof.Machine.execVminS a s
  | .vmaxS a => Sys2Proof.Machine.execVmaxS a s
  | .vabs x => Sys2Proof.Machine.execVabs x s
  | .vneg x => Sys2Proof.Machine.execVneg x s
  | .vdiv x => Sys2Proof.Machine.execVdiv x s
  | .vdivS a x => Sys2Proof.Machine.execVdivS a x s
  | .vsqrt x => Sys2Proof.Machine.execVsqrt x s
  | .vfill a => Sys2Proof.Machine.execVfill a s
  | .vandS a => Sys2Proof.Machine.execVandS a s
  | .vorS a => Sys2Proof.Machine.execVorS a s
  | .vxorS a => Sys2Proof.Machine.execVxorS a s
  | .vandnS a => Sys2Proof.Machine.execVandnS a s
  | .vshlS a => Sys2Proof.Machine.execVshlS a s
  | .vshrS a => Sys2Proof.Machine.execVshrS a s
  | .vsarS a => Sys2Proof.Machine.execVsarS a s
  | .vcmp r => Sys2Proof.Machine.execVcmp r s
  | .vcmpS a r => Sys2Proof.Machine.execVcmpS a r s
  | .vselS a => Sys2Proof.Machine.execVselS a s
  | .vfnsS a => Sys2Proof.Machine.execVfnsS a s
  | .vbfxS a => Sys2Proof.Machine.execVbfxS a s
  | .vbfiS a => Sys2Proof.Machine.execVbfiS a s
  | .vfshLS a => Sys2Proof.Machine.execVfshLS a s
  | .vfshRS a => Sys2Proof.Machine.execVfshRS a s
  | .vcvt x => Sys2Proof.Machine.execVcvt x s
  | .vsplit a => Sys2Proof.Machine.execVsplit a s
  | .vredsumAll x => Sys2Proof.Machine.execVredsumAll x s
  | .vredsumRow x => Sys2Proof.Machine.execVredsumRow x s
  | .vredsumCol x => Sys2Proof.Machine.execVredsumCol x s
  | .vargmaxAll a => Sys2Proof.Machine.execVargmaxAll a s
  | .vargmaxRow a => Sys2Proof.Machine.execVargmaxRow a s
  | .vargmaxCol a => Sys2Proof.Machine.execVargmaxCol a s
  | .vscan x => Sys2Proof.Machine.execVscan x s
  | .vpush a => Sys2Proof.Machine.execVpush a s
  | .vpop a b => Sys2Proof.Machine.execVpop a b s
  | .vqcnt a b => Sys2Proof.Machine.execVqcnt a b s
  | .vchain a c => Sys2Proof.Machine.execVchain a c s
  | .accn a x => Sys2Proof.Machine.execAccn a x s
  | .accx a b => Sys2Proof.Machine.execAccx a b s
  | .accst a => Sys2Proof.Machine.execAccst a s
  | .accld a => Sys2Proof.Machine.execAccld a s
  | .cpg a k => Sys2Proof.Machine.execCpg a k s
  | .cpgX a k => Sys2Proof.Machine.execCpgX a k s
  | .cps a k => Sys2Proof.Machine.execCps a k s
  | .cpsX a k => Sys2Proof.Machine.execCpsX a k s
  | .cpy a b k => Sys2Proof.Machine.execCpy a b k s
  | .wmap a k => Sys2Proof.Machine.execWmap a k s
  | .wfill g k => Sys2Proof.Machine.execWfill g k s
  | .wback g k => Sys2Proof.Machine.execWback g k s
  | .wunmap g k => Sys2Proof.Machine.execWunmap g k s
  | .probeR a b => Sys2Proof.Machine.execProbeR a b s
  | .probeW a b => Sys2Proof.Machine.execProbeW a b s
  | .atomAdd a k => Sys2Proof.Machine.execAtomAdd a k s
  | .atomMin a k => Sys2Proof.Machine.execAtomMin a k s
  | .atomMax a k => Sys2Proof.Machine.execAtomMax a k s
  | .atomAnd a k => Sys2Proof.Machine.execAtomAnd a k s
  | .atomOr a k => Sys2Proof.Machine.execAtomOr a k s
  | .atomXor a k => Sys2Proof.Machine.execAtomXor a k s
  | .atomXchg a k => Sys2Proof.Machine.execAtomXchg a k s
  | .atomCas a k => Sys2Proof.Machine.execAtomCas a k s
  | .atomAddNr a k => Sys2Proof.Machine.execAtomAddNr a k s
  | .atomMinNr a k => Sys2Proof.Machine.execAtomMinNr a k s
  | .atomMaxNr a k => Sys2Proof.Machine.execAtomMaxNr a k s
  | .atomAndNr a k => Sys2Proof.Machine.execAtomAndNr a k s
  | .atomOrNr a k => Sys2Proof.Machine.execAtomOrNr a k s
  | .atomXorNr a k => Sys2Proof.Machine.execAtomXorNr a k s
  | .atomXchgNr a k => Sys2Proof.Machine.execAtomXchgNr a k s
  | .atomCasNr a k => Sys2Proof.Machine.execAtomCasNr a k s
  | .mcast k => Sys2Proof.Machine.execMcast k s
  | .collSum a k => Sys2Proof.Machine.execCollSum a k s
  | .collMax a k => Sys2Proof.Machine.execCollMax a k s
  | .collArgmax a k => Sys2Proof.Machine.execCollArgmax a k s
  | .collBcast a k => Sys2Proof.Machine.execCollBcast a k s
  | .qlnch a b => Sys2Proof.Machine.execQlnch a b s
  | .wdepth a b => Sys2Proof.Machine.execWdepth a b s
  | .wrbk a b => Sys2Proof.Machine.execWrbk a b s
  | .wtake a b => Sys2Proof.Machine.execWtake a b s
  | .wjudge a b => Sys2Proof.Machine.execWjudge a b s
  | .wfinal a b => Sys2Proof.Machine.execWfinal a b s
  | .wstat a b => Sys2Proof.Machine.execWstat a b s
  | .ftset a => Sys2Proof.Machine.execFtset a s
  | .scld a b h t => Sys2Proof.Machine.execScld a b h t s
  | .chset a b j => Sys2Proof.Machine.execChset a b j s
  | .decl a => Sys2Proof.Machine.execDecl a s
  | .pwra a => Sys2Proof.Machine.execPwra a s
  | .qinit a b => Sys2Proof.Machine.execQinit a b s
  | .lnputCw a b l => Sys2Proof.Machine.execLnputCw a b l s
  | .lnputAw a b l => Sys2Proof.Machine.execLnputAw a b l s
  | .lntapCw a b l => Sys2Proof.Machine.execLntapCw a b l s
  | .lntapAw a b l => Sys2Proof.Machine.execLntapAw a b l s
  | .nop => Sys2Proof.Machine.execNop s
  | .rte => Sys2Proof.Machine.execRte s
  | .endTask => Sys2Proof.Machine.execEndTask s
  | .yld => Sys2Proof.Machine.execYld s
  | .halt => Sys2Proof.Machine.execHalt s
  | .phaseP => Sys2Proof.Machine.execPhaseP s
  | .phaseA => Sys2Proof.Machine.execPhaseA s
  | .phasePa => Sys2Proof.Machine.execPhasePa s
  | .vmulh => Sys2Proof.Machine.execVmulh s
  | .vmin => Sys2Proof.Machine.execVmin s
  | .vmax => Sys2Proof.Machine.execVmax s
  | .vmov => Sys2Proof.Machine.execVmov s
  | .vand => Sys2Proof.Machine.execVand s
  | .vor => Sys2Proof.Machine.execVor s
  | .vxor => Sys2Proof.Machine.execVxor s
  | .vandn => Sys2Proof.Machine.execVandn s
  | .vnot => Sys2Proof.Machine.execVnot s
  | .vshl => Sys2Proof.Machine.execVshl s
  | .vshr => Sys2Proof.Machine.execVshr s
  | .vsar => Sys2Proof.Machine.execVsar s
  | .vsel => Sys2Proof.Machine.execVsel s
  | .vpopc => Sys2Proof.Machine.execVpopc s
  | .vclz => Sys2Proof.Machine.execVclz s
  | .vbrev => Sys2Proof.Machine.execVbrev s
  | .vfns => Sys2Proof.Machine.execVfns s
  | .vbfx => Sys2Proof.Machine.execVbfx s
  | .vbfi => Sys2Proof.Machine.execVbfi s
  | .vfshL => Sys2Proof.Machine.execVfshL s
  | .vfshR => Sys2Proof.Machine.execVfshR s
  | .vexp2 => Sys2Proof.Machine.execVexp2 s
  | .vlog2 => Sys2Proof.Machine.execVlog2 s
  | .vrcp => Sys2Proof.Machine.execVrcp s
  | .vrsqrt => Sys2Proof.Machine.execVrsqrt s
  | .vredmaxAll => Sys2Proof.Machine.execVredmaxAll s
  | .vredmaxRow => Sys2Proof.Machine.execVredmaxRow s
  | .vredmaxCol => Sys2Proof.Machine.execVredmaxCol s
  | .vredminAll => Sys2Proof.Machine.execVredminAll s
  | .vredminRow => Sys2Proof.Machine.execVredminRow s
  | .vredminCol => Sys2Proof.Machine.execVredminCol s
  | .vgath => Sys2Proof.Machine.execVgath s
  | .vscat => Sys2Proof.Machine.execVscat s
  | .vtran => Sys2Proof.Machine.execVtran s
  | .mma => Sys2Proof.Machine.execMma s
  | .mmaZ => Sys2Proof.Machine.execMmaZ s
  | .mmas => Sys2Proof.Machine.execMmas s
  | .mmasZ => Sys2Proof.Machine.execMmasZ s
  | .accz => Sys2Proof.Machine.execAccz s
  | .wprop => Sys2Proof.Machine.execWprop s
  | .pwrr => Sys2Proof.Machine.execPwrr s
  | .iterationBoundary => Sys2Proof.Machine.execIterationBoundary s
  | .resultLatchCommit => Sys2Proof.Machine.execResultLatchCommit s
  | .commandStart e => Sys2Proof.Machine.execCommandStart e s
  | .unitWriteCommit e => Sys2Proof.Machine.execUnitWriteCommit e s
  | .takingATrap => Sys2Proof.Machine.execTakingATrap s
  | .ringResume => Sys2Proof.Machine.execRingResume s
  | .trailForcedIssue core => Sys2Proof.Machine.execTrailForcedIssue core s
  | .waittExpiry => Sys2Proof.Machine.execWaittExpiry s
  | .copyCompletion cid cmd => Sys2Proof.Machine.execCopyCompletion cid cmd s
  | .promiseMissed cid => Sys2Proof.Machine.execPromiseMissed cid s
  | .keepWaitingNotice cid cmd => Sys2Proof.Machine.execKeepWaitingNotice cid cmd s
  | .fillArrival pc => Sys2Proof.Machine.execFillArrival pc s
  | .atomAtHome pc => Sys2Proof.Machine.execAtomAtHome pc s
  | .publicationCompletion src => Sys2Proof.Machine.execPublicationCompletion src s
  | .deliveryLanding pc => Sys2Proof.Machine.execDeliveryLanding pc s
  | .barRelease cid => Sys2Proof.Machine.execBarRelease cid s
  | .collCombine cid => Sys2Proof.Machine.execCollCombine cid s
  | .vpushStallRelease cid => Sys2Proof.Machine.execVpushStallRelease cid s
  | .qlnchQueueRoom cid => Sys2Proof.Machine.execQlnchQueueRoom cid s
  | .missedOperandRelease cid => Sys2Proof.Machine.execMissedOperandRelease cid s
  | .taskRetirement cid => Sys2Proof.Machine.execTaskRetirement cid s
  | .launchCompletion lid => Sys2Proof.Machine.execLaunchCompletion lid s
  | .gangAdmission => Sys2Proof.Machine.execGangAdmission s
  | .queueAgeing q => Sys2Proof.Machine.execQueueAgeing q s
  | .routerTableSwitch => Sys2Proof.Machine.execRouterTableSwitch s
  | .proposalRecordIntake cid rec => Sys2Proof.Machine.execProposalRecordIntake cid rec s
  | .wtakeRelease cid => Sys2Proof.Machine.execWtakeRelease cid s
  | .wdepthRelease cid => Sys2Proof.Machine.execWdepthRelease cid s
  | .wfinalPerformed cid => Sys2Proof.Machine.execWfinalPerformed cid s
  | .logitFault cid => Sys2Proof.Machine.execLogitFault cid s
  | .timerExpiry cid => Sys2Proof.Machine.execTimerExpiry cid s
  | .sliceExpiry cid => Sys2Proof.Machine.execSliceExpiry cid s
  | .preemptLate cid => Sys2Proof.Machine.execPreemptLate cid s
  | .pwraGrant upper => Sys2Proof.Machine.execPwraGrant upper s
  | .staticChargeTick unit => Sys2Proof.Machine.execStaticChargeTick unit s
  | .thermalSample temps => Sys2Proof.Machine.execThermalSample temps s
  | .opSwitchQuiesce unit => Sys2Proof.Machine.execOpSwitchQuiesce unit s
  | .opSwitchSettled unit => Sys2Proof.Machine.execOpSwitchSettled unit s
  | .hangWatchdogExpiry cid => Sys2Proof.Machine.execHangWatchdogExpiry cid s
  | .waitWatchdogExpiry cid => Sys2Proof.Machine.execWaitWatchdogExpiry cid s
  | .selfTestEnd test pass => Sys2Proof.Machine.execSelfTestEnd test pass s
  | .svcSetEnergy cid => Sys2Proof.Machine.execSvcSetEnergy cid s
  | .svcClearEnergyFlag cid => Sys2Proof.Machine.execSvcClearEnergyFlag cid s
  | .partitionSwapOut units => Sys2Proof.Machine.execPartitionSwapOut units s
  | .partitionSwapIn units => Sys2Proof.Machine.execPartitionSwapIn units s
  | .ctxcmdResume cid => Sys2Proof.Machine.execCtxcmdResume cid s
  | .ctxcmdEndTask cid => Sys2Proof.Machine.execCtxcmdEndTask cid s
  | .ctxcmdPark cid => Sys2Proof.Machine.execCtxcmdPark cid s
  | .fdatRead v => Sys2Proof.Machine.execFdatRead v s
  | .fdatWrite val => Sys2Proof.Machine.execFdatWrite val s
  | .tmrWrite val => Sys2Proof.Machine.execTmrWrite val s
  | .lcntWrite l val => Sys2Proof.Machine.execLcntWrite l val s
  | .islctlWrite isl val => Sys2Proof.Machine.execIslctlWrite isl val s
  | .registerWrite r val => Sys2Proof.Machine.execRegisterWrite r val s
  | .vctDatagramDiscard dg => Sys2Proof.Machine.execVctDatagramDiscard dg s
  | .openSession body => Sys2Proof.Machine.execOpenSession body s
  | .closeSession sid => Sys2Proof.Machine.execCloseSession sid s
  | .ack sid sq => Sys2Proof.Machine.execAck sid sq s
  | .retransmit sid sq => Sys2Proof.Machine.execRetransmit sid sq s
  | .launch sid sq q hdr => Sys2Proof.Machine.execLaunch sid sq q hdr s
  | .hostcopyIn sid sq va dat => Sys2Proof.Machine.execHostcopyIn sid sq va dat s
  | .hostcopyOut sid sq va n => Sys2Proof.Machine.execHostcopyOut sid sq va n s
  | .signalTask sid sq tag wid val => Sys2Proof.Machine.execSignalTask sid sq tag wid val s
  | .signalOpenSlot sid sq slot rec => Sys2Proof.Machine.execSignalOpenSlot sid sq slot rec s
  | .signalCancel sid sq slot req => Sys2Proof.Machine.execSignalCancel sid sq slot req s
  | .signalRelease sid sq slot req => Sys2Proof.Machine.execSignalRelease sid sq slot req s
  | .waitval sid sq va msk val rel tmo => Sys2Proof.Machine.execWaitval sid sq va msk val rel tmo s
  | .waitvalPoll sid sq => Sys2Proof.Machine.execWaitvalPoll sid sq s
  | .queryManagement sid sq idx off cnt => Sys2Proof.Machine.execQueryManagement sid sq idx off cnt s
  | .querySlotRecord sid sq idx off cnt => Sys2Proof.Machine.execQuerySlotRecord sid sq idx off cnt s
  | .queryTrapFrame sid sq idx off cnt => Sys2Proof.Machine.execQueryTrapFrame sid sq idx off cnt s
  | .queryQueueState sid sq idx off cnt => Sys2Proof.Machine.execQueryQueueState sid sq idx off cnt s
  | .querySlotTables sid sq idx off cnt => Sys2Proof.Machine.execQuerySlotTables sid sq idx off cnt s
  | .queryErrorLog sid sq idx off cnt => Sys2Proof.Machine.execQueryErrorLog sid sq idx off cnt s
  | .queryAttestation sid sq idx off cnt => Sys2Proof.Machine.execQueryAttestation sid sq idx off cnt s
  | .pageansMapped sid sq rseq => Sys2Proof.Machine.execPageansMapped sid sq rseq s
  | .pageansFailure sid sq rseq => Sys2Proof.Machine.execPageansFailure sid sq rseq s
  | .pageEntryWrite sid sq num va val => Sys2Proof.Machine.execPageEntryWrite sid sq num va val s
  | .segmentEntryWrite sid sq num va w0 w1 => Sys2Proof.Machine.execSegmentEntryWrite sid sq num va w0 w1 s
  | .pageMigrate sid sq num va val => Sys2Proof.Machine.execPageMigrate sid sq num va val s
  | .mapCacheInvalidate sid sq num va => Sys2Proof.Machine.execMapCacheInvalidate sid sq num va s
  | .freeFrameAppend sid sq num val => Sys2Proof.Machine.execFreeFrameAppend sid sq num val s
  | .segmentWordsWrite sid sq num va w2 w3 => Sys2Proof.Machine.execSegmentWordsWrite sid sq num va w2 w3 s
  | .migrateTrigger cid va => Sys2Proof.Machine.execMigrateTrigger cid va s
  | .migrationCopy va => Sys2Proof.Machine.execMigrationCopy va s
  | .pieceAtHome pc => Sys2Proof.Machine.execPieceAtHome pc s
  | .farPieceRefusal pc => Sys2Proof.Machine.execFarPieceRefusal pc s
  | .boot puf helper fw cfg failed => Sys2Proof.Machine.execBoot puf helper fw cfg failed s
  | .targetRefusal pc => Sys2Proof.Machine.execTargetRefusal pc s
  | .linkError ukind unit idx => Sys2Proof.Machine.execLinkError ukind unit idx s
  | .thresholdTableWrite t es => Sys2Proof.Machine.execThresholdTableWrite t es s

end Sys2Proof.Machine
end

