-- ==== Sys2Proof/Machine/Turn.lean ====
section
/-! DEFINITION. A context's turn in a real cycle: its boundary, its waits, the fetch and issue of its bundle (R137, R158,
R197 to R204, R333, R337, R342, R456), the merge of lead and trail (R17) and the ring task set (R40, R41). -/

namespace Sys2Proof.Machine

/-- The state an outcome goes on to; the state before when it does not. -/
def nextOr (s : State) (o : Outcome State) : State := match o with | .next t => t | _ => s

/-! ## Issue (R137, R158, R160) -/

/-- A syllable of the bundle at issue: its position, its S slot, its word. -/
structure Placed where
  pos : Nat
  sslot : Nat
  word : Nat
  syl : Syl
  deriving DecidableEq, Repr

/-- R155: the slot class of a placed syllable. -/
def Placed.cls (x : Placed) : Nat := classOf (major x.word)

/-- R138, R155: positions count from 1, and the S syllables take the S slots in order. -/
def placeSyls : Nat → Nat → List (Nat × Syl) → List Placed
  | _, _, [] => []
  | pos, k, (w, y) :: t =>
    ⟨pos, k, w, y⟩ :: placeSyls (pos + 1) (if classOf (major w) = 0 then k + 1 else k) t

/-- The syllables of a bundle, the prefix first. -/
def Bundle.placed (b : Bundle) : List Placed :=
  (b.pfx.map fun x => Placed.mk 0 0 x.1 x.2).toList ++ placeSyls 1 0 b.syls

/-- R144, R147: what the bundle's prefix gives its syllables. -/
def Bundle.prefix_ (b : Bundle) : Pfx :=
  match b.pfx with
  | some (_, y) => (match y.op with | .pfx sc _ _ f l lv => ⟨sc.val, f, l, lv⟩ | _ => Pfx.none)
  | none => Pfx.none

/-- The attributes under which a placed syllable of the bundle at `pc` is performed. -/
def Placed.issue (x : Placed) (pc : Word) : Issue :=
  ⟨x.pos, pc, BitVec.ofNat 32 x.word, x.syl.p, x.syl.ng, x.syl.sw, x.syl.tm, x.syl.b, x.sslot, false⟩

/-- One syllable of the bundle at issue performed. -/
def perform (pc : Word) (s : State) (x : Placed) : State :=
  let s := s.up fun c => { c with iss := x.issue pc }
  nextOr s (exec x.syl.op s)

/-- R158, R346: the first syllable, in position order, whose issue traps or holds the bundle; the bundle then has no
effect. -/
def refusal (pc : Word) (s : State) (xs : List Placed) : Option State :=
  xs.findSome? fun x => let r := perform pc s x; if r.ctx.iss.trapped then some r else none

/-- The order in which the effects of a bundle's syllables are put together: each reads what stood before the bundle
(R160). -/
def effectOrder (xs : List Placed) : List Placed :=
  ([1, 0, 6, 3, 4, 5, 2, 7] : List Nat).flatMap fun k => xs.filter fun x => x.cls == k

/-- R17: the slots a bundle takes on its core: S syllables, M, B, Q; and that a bundle has issued (32). -/
def laneMask (b : Bundle) : Nat :=
  let n := fun k => (b.syls.filter fun x => classOf (major x.1) == k).length
  32 + n 0 + 4 * n 1 + 8 * n 2 + 16 * n 6

/-- R376, R386: the timer of a task whose first bundle issues in the cycle that a tick edge begins counts that edge, which
falls in its task cycle 0. -/
def firstEdge (s : State) : State :=
  if s.ctx.begun ∨ s.sub ≠ 0 ∨ !(timerRuns { s.ctx with begun := true }) then s
  else
    let s := s.up fun c => { c with tmrCnt := c.tmrCnt + 1 }
    if s.ctx.tmrCnt ≥ s.ctx.tmr.toNat % 2 ^ 32 then { s with edge := s.edge ++ [.timerExpiry s.ctx.cid] } else s

/-- R139: the bundle is on its way: where the sequencer stands after it, and that no YLD or HALT stands; a task whose first
bundle it is has begun. -/
def prepare (s : State) (b : Bundle) : State :=
  let (fin, next) := afterBundle s.ctx (s.ctx.pc + BitVec.ofNat 64 b.bytes)
  (firstEdge s).up fun c => { c with pfx := b.prefix_, fin := fin, npc := next, after := 0, begun := true }

/-- R199, R204: the second delay bundle has issued: control passes as the branch says. -/
def divert (s : State) : State :=
  match s.ctx.pend with
  | .branch t => s.up fun c => { c with pc := t, fin := none, pend := .none }
  | .lbrk l =>
    let out := l :: s.ctx.r.order.takeWhile (· != l)
    let stop := (getLoop s l).stop
    (s.upR fun r => { r with
      loops := Vector.ofFn fun k => if out.any (fun x => x.val == k.val) then r.loops[k].leave else r.loops[k]
      order := r.order.filter fun x => !(out.contains x) }).up fun c =>
        { c with pc := stop + 64, fin := none, pend := .none }
  | _ => s.up fun c => { c with pend := .none }

/-- R210: after END the context stands at END's bundle, and the delay bundles of a branch are abandoned. -/
def standAtEnd (s : State) (pc : Word) : State := s.up fun c => { c with pc := pc, fin := none, dly := 0, pend := .none }

/-- R197, R210: where the sequencer stands once the bundle at `pc` has issued; `dly` is the count of delay bundles before
it. -/
def advancePc (s : State) (pc : Word) (dly : Nat) : State :=
  let s := s.up fun c => { c with
    pc := c.npc, detval := none, swtPc := if c.swt.isSome then pc else c.swtPc
    dly := if dly = 0 then c.dly else dly - 1 }
  if s.ctx.wait = .ending then standAtEnd s pc else if dly = 1 then divert s else s

/-- R345: the commands that start at the task cycle at hand; the engines of a context in its handler are frozen. -/
def starts (s : State) : State := if s.ctx.status = .handler then s else startAll s s.ctx.now

/-- R291: the context stalls until its power level is granted; otherwise the task cycle is made. -/
def closeCycle (s : State) : State :=
  if s.ctx.pwrWait then s.up fun c => { c with owed := true, wait := if c.wait = .none then .stall 9 else c.wait }
  else engineCycle (starts s)

/-- R375: the second delay bundle of the RTE at `pc` has issued: the handler's writes that are due are made, and the context
resumes. -/
def endHandler (s : State) (pc : Word) : State :=
  let s := writesAt s s.ctx.now
  if s.ctx.status = .handler then returnFromTrap s pc else s

/-- R375: the RTE whose second delay bundle has issued. -/
def rteDone (s : State) (dly : Nat) : Option Word :=
  match s.ctx.pend with
  | .rte pc => if dly = 1 ∧ s.ctx.wait ≠ .ending then some pc else none
  | _ => none

/-- R337: more than 32 pending latches: the bundle has no effect. -/
def latchFull (s : State) (n : Nat) : State :=
  let s := s.up fun c => { c with iss := { Issue.alone with pos := 15, pc := c.pc } }
  takeTrap s (mkTrap s 0x01 (some (BitVec.ofNat 64 (15 + 27 * 256))) (some (BitVec.ofNat 64 n)) (some s.ctx.pc))

/-- R158, R160, R337: a decoded bundle issues. -/
def issueBundle (s : State) (b : Bundle) : State :=
  let pc := s.ctx.pc
  let dly := s.ctx.dly
  match refusal pc (s.up fun c => { c with pfx := b.prefix_ }) b.placed with
  | some r => r
  | none =>
    let r := sortLatches ((effectOrder b.placed).foldl (perform pc) (prepare s b))
    let n := r.ctx.latches.length
    if n > Config.maxLatches then latchFull s n
    else
      let e := closeCycle ((advancePc r pc dly).up fun c => { c with lanes := laneMask b })
      match rteDone r dly with
      | some p => endHandler e p
      | none => e

/-- R157, R198: the bundle at the program counter is fetched, decoded and issued. -/
def fetchIssue (s : State) : State :=
  let c := s.ctx
  let s := s.up fun c => { c with iss := { Issue.alone with pc := c.pc } }
  if !(c.inCode c.pc) then takeTrap s (fatalTrap s none none)
  else
    match decodeBundle c c.pc with
    | .trap cause pos reason w =>
      let s := s.up fun c => { c with iss := { c.iss with pos := pos, word := BitVec.ofNat 32 w } }
      takeTrap s (encTrap s cause pos reason)
    | .ok b => issueBundle s b

/-! ## The turn of one context (R333, R367, R456) -/

/-- R358: a store that is due meets bytes that are still to arrive: in deterministic mode the task cycle is held before it
is made (R354). -/
def storeHeld (s : State) (t : Nat) : Bool :=
  s.ctx.status != .handler && s.ctx.hdr.det && (overlap (storesAt s.ctx t) (s.ctx.cq.flatMap (cmdDest s))).isSome

/-- R456 steps 1 and 2: the latches tagged with the clock, the additions of k-groups, and the other writes. -/
def boundaryWrites (s : State) : State :=
  let s := nextOr s (execResultLatchCommit s)
  if s.ctx.iss.trapped then s
  else
    let s := if s.ctx.status = .handler then s
      else ([0, 1, 2] : List (Fin 3)).foldl (fun s e => unitBoundary s e s.ctx.now) s
    if storeHeld s s.ctx.now then s else writesAt s s.ctx.now

/-- R23: an END that has nothing left to wait for on its clock, and no window to unmap. -/
def drained (c : Ctx) : Bool :=
  c.wait == .ending && c.latches.isEmpty && c.dws.isEmpty && !(endDone c && !c.wins.isEmpty) &&
    (c.saved.isSome || (c.uws.isEmpty && (c.vq ++ c.xq ++ c.cq).all (·.freed)))

/-- R106: the bound window of lowest index. -/
def firstWin (c : Ctx) : Option Win :=
  c.wins.foldl (fun m w => match m with | none => some w | some x => if w.idx < x.idx then some w else some x) none

/-- R106: END unmaps a window that is still bound, as WUNMAP does. A handler's END has discarded the frame's commands. -/
def endUnmap (s : State) (w : Win) : State :=
  let s := if s.ctx.saved.isSome then
      s.up fun c => { c with status := .running, saved := none, vq := [], xq := [], cq := [], uws := [] }
    else s
  if (homesOf s .write [(w.va, w.len)]).isNone then takeTrap s (fatalTrap s none none)
  else
    let k := { newCmd s .wunmap (fun _ => Shape.zero) 0 0 w.idx.val 0 0 with
      buf := [[w.base, w.va]], reqs := w.len / 64, nominal := s.ctx.now }
    engineCycle (starts ({ s with fresh := s.fresh + 1 }.up fun c => { c with cq := c.cq ++ [k] }))

/-- R40, R205, R206: whether the clock runs while the context waits. -/
def runsInWait (c : Ctx) : Bool :=
  match c.wait with
  | .waitt _ => true
  | .waitp _ target _ _ _ _ => c.now < target
  | .bar .. => c.upper
  | .ending => !(drained c)
  | _ => false

/-- R120: before its first bundle a task acquires at system scope. -/
def entry (s : State) : State := if s.ctx.begun then s else acquire s 4

/-- R202, R139, R345: the boundary of the bundle to come, then its issue. -/
def issueTurn (s : State) : State := fetchIssue (starts (passPads (nextOr s (execIterationBoundary (entry s)))))

/-- R23, R106: the boundary of an END that waits: once nothing is pending, the unit writes of this task cycle made, it
unmaps its windows and then retires; until then its engines run on. -/
def endTurn (s : State) : State :=
  let fin := fun r : State => post (r.up fun c => { c with tclk := s.ctx.tclk }) (.taskRetirement s.ctx.cid)
  if endDone s.ctx then
    match firstWin s.ctx with
    | some w => endUnmap s w
    | none => fin s
  else if drained s.ctx then s
  else
    let r := engineCycle (starts s)
    let e := freeEntries r r.ctx.now
    if r.ctx.uws.isEmpty ∧ (s.ctx.uws.all fun w => w.due ≤ s.ctx.tclk) ∧ endReady e.ctx then fin e else r

/-- R205, R206, R346, R352: what a context does at its boundary once nothing is taken and everything due is made. -/
def waitTurn (s : State) : State :=
  let s := nextOr s (execWaittExpiry s)
  let hold := if s.ctx.status = .handler then none else holdKind s s.ctx.now
  if s.ctx.wait = .none then
    match hold with
    | some k => s.up fun c => { c with wait := .hold k }
    | none => issueTurn s
  else if s.ctx.wait = .ending then (if hold = none then endTurn s else s)
  else if runsInWait s.ctx ∧ hold = none then engineCycle (starts s)
  else s

/-- R268, R291, R370: in a stall only a fatal cause or a pre-emption is met; otherwise the accesses of the task cycle are
tried again. -/
def owedTurn (s : State) : State :=
  match s.ctx.fatal with
  | some x => takeTrap (s.up fun c => { c with fatal := none }) x
  | none =>
    if takesPreempt s.ctx then takeEvent s s.ctx.now .park
    else if s.ctx.pwrWait then s
    else
      match s.ctx.wait with
      | .stall k => if k < 4 then s else engineCycle (starts s)
      | _ => engineCycle (starts s)

/-- One real cycle of the context at hand on its own. -/
def solo (s : State) : State :=
  let s := s.up fun c => { c with lanes := 0, iss := { c.iss with trapped := false } }
  if s.ctx.owed then owedTurn s
  else
    let s := if s.ctx.status = .handler then s else freeEntries s s.ctx.now
    if (chosen s s.ctx.now).isSome then nextOr s (execTakingATrap s)
    else
      let s := boundaryWrites s
      if s.ctx.iss.trapped then s else waitTurn s

/-! ## The merge stage (R17, R342) -/

/-- R15, R352, R422: a context that takes part in a real cycle of its core. -/
def mayTurn (s : State) (c : Ctx) : Bool :=
  c.live && c.role != .parked && (c.status == .running || c.status == .handler) && c.started && !c.swapped &&
    !(settling s c.gunit) && !(getIsland s c.gunit).disabled

/-- R17: two bundles that need one slot twice. -/
def lanesCollide (a b : Nat) : Bool := a % 4 + b % 4 > 2 || (a / 4 % 8).land (b / 4 % 8) != 0

/-- R40: a station of the Upper that waits at BAR while the common clock runs. -/
def atBar (c : Ctx) : Bool := c.upper && (match c.wait with | .bar .. => true | _ => false)

/-- R423: the hang watchdog starts again when the clock has advanced, and with the end of its wait the wait watchdog. -/
def settleHang (before after_ : State) : State :=
  if after_.ctx.now = before.ctx.now then after_
  else after_.up fun c => { c with hang := 0, dwait := if atBar before.ctx && atBar c then c.dwait else 0 }

/-- R342: a trail that has been blocked for 64 cycles and is ready. -/
def trailDue (s : State) : Bool :=
  s.others.any fun c => c.gunit == s.ctx.gunit && c.role == .trail && c.blocked ≥ 64 && mayTurn s c &&
    (solo (focus s c.cid)).ctx.lanes != 0

/-- R17, R342: the lead's turn: it is held in the cycle in which a blocked trail is due, if it is ready itself. -/
def leadTurn (s : State) : State :=
  let r := solo s
  let s := if r.ctx.lanes ≠ 0 ∧ trailDue s then nextOr s (execTrailForcedIssue s.ctx.gunit s) else s
  if s.ctx.frozen then s.up fun c => { c with frozen := false } else settleHang s r

/-- R17, R342: the trail's turn: its bundle issues unless it collides with the lead's. -/
def trailTurn (s : State) : State :=
  let r := solo s
  let lead := (s.others.find? fun c => c.live && c.gunit == s.ctx.gunit && c.role == .lead).map (·.lanes)
  if lanesCollide (lead.getD 0) r.ctx.lanes then s.up fun c => { c with blocked := c.blocked + 1, blkc := c.blkc + 1 }
  else settleHang s (r.up fun c => { c with blocked := 0 })

/-! ## The ring (R40, R41) -/

/-- The turn of a station on its own. -/
def stationTurn (s : State) (c : Ctx) : State := let s := focus s c.cid; settleHang s (solo s)

/-- R41: a station whose turn ended in an event. -/
def tookEvent (s : State) (c : Ctx) : Bool :=
  !((findCtx s c.cid).any fun d => d.status == .running && d.role != .parked)

/-- R40: a station that stands frozen at a boundary. -/
def stoodStill (s : State) (c : Ctx) : Bool := (findCtx s c.cid).any fun d => d.tclk == c.tclk && !d.owed

/-- R41: the lowest-numbered of some stations. -/
def lowest (cs : List Ctx) : Nat := cs.foldl (fun m c => min m c.unit) 63

/-- R41: a station that did not trap records RING_STOP. -/
def ringStopAt (s : State) (station : Nat) (c : Ctx) : State :=
  let s := focus { s with free := s.free + 1 } c.cid
  (saveFrame s ⟨0x18, BitVec.ofNat 64 station, fw s 1, fw s 2, 0⟩).up fun x => { x with status := .ringStop }

/-- R41, R294: the RING_TIMING that a station has taken, which every station takes. -/
def ringCause (s : State) (hit : List Ctx) : Option Trap :=
  hit.findSome? fun c => ((findCtx s c.cid).bind (·.saved)).bind fun v => if v.cause.cause = 0x17 then some v.cause else none

/-- R41, R294, R381: some stations take their events; the others take the same RING_TIMING, park when they park, or stop
with RING_STOP, as they also do for an interrupt (DEDUCED, log 105). -/
def ringEvent (s : State) (cs hit : List Ctx) : State :=
  let r := hit.foldl stationTurn s
  let rest := cs.filter fun c => !(hit.any fun d => d.cid == c.cid)
  match ringCause r hit with
  | some t => rest.foldl (fun s c => takeTrap (focus s c.cid) t) r
  | none =>
    if hit.any fun c => (findCtx r c.cid).any fun d => d.role == .parked then
      rest.foldl (fun s c => parkNow (focus s c.cid)) r
    else rest.foldl (fun s c => ringStopAt s (lowest hit) c) r

/-- R40, R41: one real cycle of the ring task set. -/
def ringTurn (s : State) : State :=
  let cs := ring s
  if cs.any fun c => c.role == .parked || !c.started || settling s c.gunit || (getIsland s c.gunit).disabled then s
  else if cs.any fun c => c.status == .handler then (cs.filter fun c => c.status == .handler).foldl stationTurn s
  else if cs.any fun c => c.status != .running then s
  else
    let due := cs.filter fun c => drained c && (chosen (focus s c.cid) c.tclk).isSome
    let act := cs.filter fun c => !(drained c)
    let t := act.foldl (fun m c => min m c.tclk) Config.tclkLimit
    let now := act.filter (fun c => c.tclk == t) ++ due
    let r := now.foldl stationTurn s
    let hit := now.filter (tookEvent r)
    if hit.isEmpty then
      let still := now.filter (stoodStill r)
      if still.isEmpty then r else still.foldl stationTurn s
    else ringEvent s cs hit

/-- The turn of a context by its number; the number of station 0 stands for the ring. A trail that is not ready is no longer
blocked (R342). -/
def turn (s : State) (cid : Nat) : State :=
  if cid = 1536 then ringTurn s
  else
    match findCtx s cid with
    | none => s
    | some c =>
      if !(mayTurn s c) then (if c.role = .trail then updCtx s cid fun x => { x with blocked := 0 } else s)
      else if c.role = .trail then trailTurn (focus s cid)
      else leadTurn (focus s cid)

end Sys2Proof.Machine
end

