-- ==== Sys2Proof/Machine/Clock.lean ====
section
/-! DEFINITION. The reference clock and what falls due with it (R12, R351, R421, R423, R425, R428, R429): real cycles,
tick edges, and the steps that the state of the part makes due. -/

namespace Sys2Proof.Machine

/-! ## Real cycles (R335, R351) -/

/-- R351: the arithmetic cycles that an operating point makes in the 21 subdivisions of a reference tick. -/
def cyclesPerTick (op : Nat) : Nat := 7 + 2 * op

/-- R351, R383: whether an arithmetic cycle of an island begins in the subdivision at hand; one begins at each edge. -/
def clockOn (s : State) (island : Nat) : Bool :=
  let f := cyclesPerTick (getIsland s island).opc.val
  s.sub * f % 21 < f

/-- R335, R398: a real cycle begins: the contexts with a role whose clock ticks, a lead before its trail and the cores in
ascending order, and then the ring, await their turns. -/
def beginCycle (s : State) : State :=
  let s := mapCtx { s with qprev := [] } fun c =>
    { c with lanes := 0, rcyc := if c.live && c.started && clockOn s c.vf then c.rcyc + 1 else c.rcyc }
  let cs := (allCtx s).filter fun c => !c.upper && c.live && c.role != .parked && clockOn s c.vf
  let ring_ := if (ring s).isEmpty || !(clockOn s 192) then [] else [1536]
  let before := fun c d : Ctx => c.unit < d.unit || (c.unit == d.unit && (c.role == .lead || d.role != .lead))
  { s with rota := (sortBy before cs).map (·.cid) ++ ring_ }

/-! ## Tick edges -/

/-- R206, R268, R423: a declared wait. -/
def declaredWait (c : Ctx) : Bool :=
  c.owed || (match c.wait with
    | .none | .waitt _ | .cycle => false
    | .waitp .. => !(runsInWait c)
    | .ending => drained c
    | _ => true)

/-- R40, R268: a station holds the ring by a declared wait of its own; at BAR the common clock runs on. -/
def ringHeld (s : State) : Bool := (ring s).any fun c => declaredWait c && !(atBar c) && c.wait != .ending

/-- R349, R376, R381, R423, R428: the counts of a context at a tick edge; `held` tells that the ring is held, which is a
declared wait of every station (R268). -/
def tickCtx (held : Bool) (c : Ctx) : Ctx :=
  if !c.live then c
  else
    let holds := c.role != .parked
    let dec := holds && (declaredWait c || (c.upper && held))
    { c with
      slice := if c.collides then c.slice + 1 else c.slice
      tmrCnt := if timerRuns c then c.tmrCnt + 1 else c.tmrCnt
      preCnt := if c.preReq && holds && (c.wait == .none || frozenApart c) then c.preCnt + 1 else c.preCnt
      hang := if holds && !dec then c.hang + 1 else c.hang
      dwait := if dec then c.dwait + 1 else if holds then 0 else c.dwait
      wait := match c.wait with
        | .waitp n t cs g p k => if (frozenPast c).isSome then .waitp n t cs g p (k + 1) else c.wait
        | w => w }

/-- R428: an admitted context parked because its engines collide with those of a context that issues. -/
def collidesNow (s : State) (c : Ctx) : Bool :=
  c.live && c.role == .parked && !c.swapped && c.status == .running && launchReady s c &&
    (issuers s c.gunit).any fun d => !(enginesApart c d)

/-- R421, R449: the end of a power window. -/
def endWindow (s : State) : State :=
  let sum := fun up : Bool => ((allCtx s).filter fun c => c.upper == up).foldl (fun a c => a + c.draw) 0
  let ws := s.cob.windows ++ [(sum false + s.cob.gone.1, sum true + s.cob.gone.2)]
  mapCtx { s with cob := { s.cob with windows := ws.drop (ws.length - 100), gone := (0, 0) } } fun c =>
    { c with draw := 0, overDone := false, powOver := c.powOver.or (if overDrawn s c then some c.draw else none) }

/-- The units whose contexts are on the part, without repeats. -/
def unitsInUse (s : State) : List Nat := dedup (((allCtx s).filter (·.live)).map (·.gunit))

/-- R314: a task that is no filler is ready for a core and finds no role there. -/
def displaces (s : State) (c : Ctx) : Bool :=
  c.live && c.role == .parked && !c.swapped && c.status == .running && !c.hdr.filler && launchReady s c &&
    ((issuers s c.gunit).length ≥ (if c.upper then 1 else 2) || (issuers s c.gunit).any fun d => !(enginesApart c d))

/-- R15, R314, R429: the vacant roles of the units are filled; a filler gives way to a task that finds none. -/
def fillAll (s : State) : State :=
  let s := (unitsInUse s).foldl fillRoles s
  let us := ((allCtx s).filter (displaces s)).map (·.gunit)
  requestPreempt s fun c => c.hdr.filler && us.contains c.gunit

/-! ## Steps that fall due at a tick edge -/

/-- R349, R376, R381, R423, R428: the steps of one context. -/
def ctxTickEvents (s : State) (c : Ctx) : List Event :=
  if !c.live then []
  else
    let when_ := fun (b : Bool) (e : Event) => if b then [e] else []
    when_ (timerRuns c && c.tmrCnt ≥ c.tmr.toNat % 2 ^ 32) (.timerExpiry c.cid) ++
    when_ (c.role == .parked && c.collides && s.img.slice != 0 && c.slice == s.img.slice) (.sliceExpiry c.cid) ++
    when_ (c.preReq && !c.preLate && c.role != .parked && c.preCnt ≥ c.hdr.ibound) (.preemptLate c.cid) ++
    when_ (s.img.hangt != 0 && c.hang ≥ s.img.hangt) (.hangWatchdogExpiry c.cid) ++
    when_ (s.img.dwait != 0 && c.dwait ≥ s.img.dwait) (.waitWatchdogExpiry c.cid) ++
    when_ ((frozenPast c).any fun x => !c.hdr.det && x.2.1 != 0 && x.2.2.2 > x.2.1 && !(c.cands.any fun y => y.2.1 == 9))
      (.promiseMissed c.cid)

/-- R430: the services that the Cobbler performs at a tick edge, before its static charges. -/
def svcEvents (c : Ctx) : List Event :=
  if c.live ∧ c.status = .trapped ∧ c.tcause = 0x10 ∧ c.tinfo[1] = 1 then
    (if c.tinfo[0] = 0x0E01 then [.svcSetEnergy c.cid] else if c.tinfo[0] = 0x0E02 then [.svcClearEnergyFlag c.cid] else [])
  else []

/-- R422: the islands whose temperature is sampled. -/
def sampledTemps (tick : Nat) : List (Nat × Nat) :=
  (List.range 264).map fun i => (i, Config.temperature tick i)

/-- R352, R391, R389, R399, R401, R410, R417, R420, R422, R425, R444: the steps of the package. -/
def packageTickEvents (s : State) : List Event :=
  let when_ := fun (b : Bool) (e : Event) => if b then [e] else []
  let head := fun up : Bool => s.cob.pwr.find? fun r => cidUpper r.cid == up
  let fits := fun up : Bool => (head up).any fun r => budgetUsed s r ≤ (if up then s.img.upbud else s.img.solebud)
  (((unitsInUse s).filter fun u => !(issuers s u).isEmpty).map Event.staticChargeTick) ++
  (s.units.filter fun u => u.settle.any fun k => k ≤ s.tick).map (fun u => Event.opSwitchSettled u.n) ++
  (s.host.queues.filter fun q => isWaiting s q && s.img.age.getD q.level 0 != 0 &&
    q.waited ≥ s.img.age.getD q.level 0 * 100 && q.level < 7).map (fun q => Event.queueAgeing q.q) ++
  when_ (s.tick % 1000 = 0) (.thermalSample (sampledTemps s.tick)) ++
  when_ (s.host.launches.any fun l => !l.routed && l.readyAt != 0 && l.readyAt ≤ s.tick) .routerTableSwitch ++
  (s.host.waits.filter fun w => w.next ≤ s.tick).map (fun w => Event.waitvalPoll w.sid w.sq) ++
  (s.host.out.filter fun p => p.sends != 0 && p.due ≤ s.tick).map (fun p => Event.retransmit p.sid p.sq) ++
  (s.cob.tests.filter fun x => x.ends ≤ s.tick).map (fun x => Event.selfTestEnd x.n (Config.selfTestPass x.n)) ++
  (if s.img.kwp != 0 && s.tick % s.img.kwp == 0 then (parkedPieces s).map fun p => Event.keepWaitingNotice p.cid p.cmd else []) ++
  s.cob.swaps.map Event.partitionSwapOut ++
  when_ (fits false) (.pwraGrant false) ++ when_ (fits true) (.pwraGrant true) ++
  when_ ((nextFiller s).any fun l => fillerDead s l || (fillerPlace s l (pickGang s).kept).isSome) .gangAdmission

/-- R366, R376, R392: a signal at the end of the tick it came in: HOST_SIGNAL on the context of its task, or held for a task
that has none yet. -/
def giveSignal (s : State) (x : Nat × Nat × Word × Word × Word) : State :=
  let (sid, sq, tag, wid, val) := x
  match (allCtx s).find? fun c => c.live && c.hdr.tag == tag && c.wid == wid with
  | some c => completeCmd (updCtx s c.cid fun x => { x with signals := x.signals ++ [val] }) sid sq 0 0
  | none =>
    match s.host.launches.find? fun l => l.hdr.tag == tag && (List.range l.hdr.tasks).any fun o =>
        o ≥ l.gangsDone * l.hdr.gangSize && l.hdr.widOf o == wid.toNat with
    | some l => completeCmd (updLaunch s l.lid fun x => { x with sigs := x.sigs ++ [(wid, val)] }) sid sq 0 0
    | none => completeCmd s sid sq 0x10A 0

/-- R392: the signals of the tick just ended. -/
def giveSignals (s : State) : State :=
  let s' := s.host.sigs.foldl giveSignal s
  { s' with host := { s'.host with sigs := [] } }

/-- R445: what a test has told the contexts that waited at its fence, while they stand at the task cycle it concerns. -/
def dropClassified (s : State) : State :=
  let stays := fun x : Classified => (findCtx s x.cid).any fun c => c.tclk ≤ x.tclk + 1
  { s with cob := { s.cob with classified := s.cob.classified.filter stays } }

/-- R421, R425, R428, R429: a tick edge: the counts of the tick just ended, roles taken, and the steps that are due. What
a context's own counts raise is pending while the cycle that begins at the edge runs, and is met at the boundary after
it (R383). -/
def tickEdge (s : State) : State :=
  let s := mapCtx { dropClassified (giveSignals s) with tick := s.tick + 1, sub := 0 } (tickCtx (ringHeld s))
  let age := fun q : WorkQueue => if isWaiting s q then { q with waited := q.waited + 1 } else q
  let s : State := { s with host := { s.host with queues := s.host.queues.map age } }
  let s := if s.tick % 100 = 0 then endWindow s else s
  let s := fillAll s
  let edge := (allCtx s).flatMap (ctxTickEvents s)
  let s := mapCtx s fun c => { c with collides := collidesNow s c }
  { s with edge := edge, agenda := s.agenda ++ (allCtx s).flatMap svcEvents ++ packageTickEvents s }

/-! ## Steps that fall due in a real cycle -/

/-- R115, R124, R126, R265, R410, R413: the step of a piece. -/
def pieceEvents (s : State) (p : Piece) : List Event :=
  let atom := match p.kind with | .atom .. => true | _ => false
  let here := if arrived s p then
      match gateOf s p with
      | .wait => []
      | g =>
        if atom then (if atomReady s p then [Event.atomAtHome p.id] else [])
        else if g = .refuse ∧ farTarget s p then [Event.farPieceRefusal p.id]
        else [Event.pieceAtHome p.id]
    else []
  here ++
    (if p.returns ∧ p.state = .atHome ∧ p.due ≤ s.cycle ∧ !(settling s p.dstUnit) ∧ !(landingFenced s p) then
      [Event.fillArrival p.id] else []) ++
    (if deliverable s p ∧ !(settling s p.dstUnit) ∧ !(landingFenced s p) then [Event.deliveryLanding p.id] else [])

/-- R98, R127, R268, R282, R312: the steps of a context. -/
def ctxEvents (s : State) (c : Ctx) : List Event :=
  let when_ := fun (b : Bool) (e : Event) => if b then [e] else []
  let pub := when_ (pubReady s c).isSome (.publicationCompletion c.src)
  if !c.live then (if c.status = .retired then pub else [])
  else
    let waits := fun id : Nat => match c.wait with | .waitp _ _ cs _ _ _ => cs.contains id | _ => false
    let stall := match c.wait with
      | .stall k =>
        if cycleStall (focus s c.cid) c.now = some k then []
        else ([.vpushStallRelease c.cid, .qlnchQueueRoom c.cid, .wtakeRelease c.cid, .wdepthRelease c.cid] :
          List Event)[k]?.toList
      | _ => []
    let bar := match c.wait with | .bar l _ m => !c.owed && barDone s c l m | _ => false
    let ending := (findLaunch s c.lid).any (·.ending) || endReady c
    let late := (logitSlot c).any fun n => (findSlot s n).any fun x => x.lbudget != 0 && x.lbudget ≤ c.tclk
    pub ++ ((c.cq.filter fun k => k.left == 0 && (k.freed || waits k.id)).map fun k => Event.copyCompletion c.cid k.id) ++
    stall ++ when_ bar (.barRelease c.cid) ++ when_ (collPending s c).isSome (.collCombine c.cid) ++
    when_ ending (.taskRetirement c.cid) ++ when_ (late && c.started && c.status != .trapped) (.logitFault c.cid)

/-- The steps that the state makes due in a real cycle. -/
def cycleEvents (s : State) : List Event :=
  s.net.pieces.flatMap (pieceEvents s) ++ (allCtx s).flatMap (ctxEvents s) ++
  ((s.welt.finals.filter (finalReady s)).map fun f => Event.wfinalPerformed f.cid) ++
  ((s.host.launches.filter (launchDone s)).map fun l => Event.launchCompletion l.lid) ++
  (if ringReady s then [Event.ringResume] else []) ++
  ((s.net.migs.filter fun m => (segOf s m.va.toNat).all fun g => busyPieces s g m.home == 0).map fun m => Event.migrationCopy m.va) ++
  ((s.units.filter fun u => u.pendOp.isSome && u.settle.isNone && coreQuiet s u.n).map fun u => Event.opSwitchQuiesce u.n)

/-- R15, R351: time moves on by one subdivision of a reference tick; a role for which a task is ready is filled. -/
def advance (s : State) : State :=
  let s := { s with cycle := s.cycle + 1 }
  let s := if s.sub + 1 ≥ 21 then tickEdge s else fillAll { s with sub := s.sub + 1 }
  let s := beginCycle s
  { s with agenda := s.agenda ++ cycleEvents s }

end Sys2Proof.Machine
end

