-- ==== Sys2Proof/Machine/Events.lean ====
section
/-! DEFINITION. A step that is due: each event has the meaning of its row. -/

namespace Sys2Proof.Machine

/-- The events of a state's agenda, each with the meaning of the row of the opcode table that it names. -/
def runEvent (e : Event) (s : State) : Outcome State :=
  match e with
  | .iterationBoundary => execIterationBoundary s
  | .resultLatchCommit => execResultLatchCommit s
  | .commandStart e => execCommandStart e s
  | .unitWriteCommit e => execUnitWriteCommit e s
  | .takingATrap => execTakingATrap s
  | .ringResume => execRingResume s
  | .trailForcedIssue core => execTrailForcedIssue core s
  | .waittExpiry => execWaittExpiry s
  | .copyCompletion cid cmd => execCopyCompletion cid cmd s
  | .promiseMissed cid => execPromiseMissed cid s
  | .keepWaitingNotice cid cmd => execKeepWaitingNotice cid cmd s
  | .fillArrival pc => execFillArrival pc s
  | .atomAtHome pc => execAtomAtHome pc s
  | .publicationCompletion src => execPublicationCompletion src s
  | .deliveryLanding pc => execDeliveryLanding pc s
  | .barRelease cid => execBarRelease cid s
  | .collCombine cid => execCollCombine cid s
  | .vpushStallRelease cid => execVpushStallRelease cid s
  | .qlnchQueueRoom cid => execQlnchQueueRoom cid s
  | .missedOperandRelease cid => execMissedOperandRelease cid s
  | .taskRetirement cid => execTaskRetirement cid s
  | .launchCompletion lid => execLaunchCompletion lid s
  | .gangAdmission => execGangAdmission s
  | .queueAgeing q => execQueueAgeing q s
  | .routerTableSwitch => execRouterTableSwitch s
  | .proposalRecordIntake cid rec => execProposalRecordIntake cid rec s
  | .wtakeRelease cid => execWtakeRelease cid s
  | .wdepthRelease cid => execWdepthRelease cid s
  | .wfinalPerformed cid => execWfinalPerformed cid s
  | .logitFault cid => execLogitFault cid s
  | .timerExpiry cid => execTimerExpiry cid s
  | .sliceExpiry cid => execSliceExpiry cid s
  | .preemptLate cid => execPreemptLate cid s
  | .pwraGrant upper => execPwraGrant upper s
  | .staticChargeTick unit => execStaticChargeTick unit s
  | .thermalSample temps => execThermalSample temps s
  | .opSwitchQuiesce unit => execOpSwitchQuiesce unit s
  | .opSwitchSettled unit => execOpSwitchSettled unit s
  | .hangWatchdogExpiry cid => execHangWatchdogExpiry cid s
  | .waitWatchdogExpiry cid => execWaitWatchdogExpiry cid s
  | .selfTestEnd test pass => execSelfTestEnd test pass s
  | .svcSetEnergy cid => execSvcSetEnergy cid s
  | .svcClearEnergyFlag cid => execSvcClearEnergyFlag cid s
  | .partitionSwapOut units => execPartitionSwapOut units s
  | .partitionSwapIn units => execPartitionSwapIn units s
  | .ctxcmdResume cid => execCtxcmdResume cid s
  | .ctxcmdEndTask cid => execCtxcmdEndTask cid s
  | .ctxcmdPark cid => execCtxcmdPark cid s
  | .fdatRead v => execFdatRead v s
  | .fdatWrite val => execFdatWrite val s
  | .tmrWrite val => execTmrWrite val s
  | .lcntWrite l val => execLcntWrite l val s
  | .islctlWrite isl val => execIslctlWrite isl val s
  | .registerWrite r val => execRegisterWrite r val s
  | .vctDatagramDiscard dg => execVctDatagramDiscard dg s
  | .openSession body => execOpenSession body s
  | .closeSession sid => execCloseSession sid s
  | .ack sid sq => execAck sid sq s
  | .retransmit sid sq => execRetransmit sid sq s
  | .launch sid sq q hdr => execLaunch sid sq q hdr s
  | .hostcopyIn sid sq va dat => execHostcopyIn sid sq va dat s
  | .hostcopyOut sid sq va n => execHostcopyOut sid sq va n s
  | .signalTask sid sq tag wid val => execSignalTask sid sq tag wid val s
  | .signalOpenSlot sid sq slot rec => execSignalOpenSlot sid sq slot rec s
  | .signalCancel sid sq slot req => execSignalCancel sid sq slot req s
  | .signalRelease sid sq slot req => execSignalRelease sid sq slot req s
  | .waitval sid sq va msk val rel tmo => execWaitval sid sq va msk val rel tmo s
  | .waitvalPoll sid sq => execWaitvalPoll sid sq s
  | .queryManagement sid sq idx off cnt => execQueryManagement sid sq idx off cnt s
  | .querySlotRecord sid sq idx off cnt => execQuerySlotRecord sid sq idx off cnt s
  | .queryTrapFrame sid sq idx off cnt => execQueryTrapFrame sid sq idx off cnt s
  | .queryQueueState sid sq idx off cnt => execQueryQueueState sid sq idx off cnt s
  | .querySlotTables sid sq idx off cnt => execQuerySlotTables sid sq idx off cnt s
  | .queryErrorLog sid sq idx off cnt => execQueryErrorLog sid sq idx off cnt s
  | .queryAttestation sid sq idx off cnt => execQueryAttestation sid sq idx off cnt s
  | .pageansMapped sid sq rseq => execPageansMapped sid sq rseq s
  | .pageansFailure sid sq rseq => execPageansFailure sid sq rseq s
  | .pageEntryWrite sid sq num va val => execPageEntryWrite sid sq num va val s
  | .segmentEntryWrite sid sq num va w0 w1 => execSegmentEntryWrite sid sq num va w0 w1 s
  | .pageMigrate sid sq num va val => execPageMigrate sid sq num va val s
  | .mapCacheInvalidate sid sq num va => execMapCacheInvalidate sid sq num va s
  | .freeFrameAppend sid sq num val => execFreeFrameAppend sid sq num val s
  | .segmentWordsWrite sid sq num va w2 w3 => execSegmentWordsWrite sid sq num va w2 w3 s
  | .migrateTrigger cid va => execMigrateTrigger cid va s
  | .migrationCopy va => execMigrationCopy va s
  | .pieceAtHome pc => execPieceAtHome pc s
  | .farPieceRefusal pc => execFarPieceRefusal pc s
  | .boot puf helper fw cfg failed => execBoot puf helper fw cfg failed s
  | .targetRefusal pc => execTargetRefusal pc s
  | .linkError ukind unit idx => execLinkError ukind unit idx s
  | .thresholdTableWrite t es => execThresholdTableWrite t es s

/-- One step of the part: the first step that is due, or else the turn of the next context of the real cycle, or else
what a tick edge has raised, or else time moves on. -/
def stepPart (s : State) : Outcome State :=
  match s.agenda, s.rota with
  | e :: es, _ => runEvent e { s with agenda := es }
  | [], cid :: cs => .next (turn { s with rota := cs } cid)
  | [], [] => if s.edge.isEmpty then .next (advance s) else .next { s with agenda := s.edge, edge := [] }

end Sys2Proof.Machine
end

