-- ==== Sys2Proof/Machine/Place.lean ====
section
/-! DEFINITION. A program placed by hand: one task whose launch image is one fetch block (R137, R172, R395), for
State.withFetchWord. -/

namespace Sys2Proof.Machine

/-- The task of one fetch block: its grant is the whole scratchpad, it declares every engine, and with `sv` it runs in
supervisor state. -/
def placedCtx (upper sv : Bool) (src : Nat) (code : List Byte) : Ctx :=
  { Ctx.vacant with
    cid := cidOf upper 0 0
    src := src
    upper := upper
    role := .lead
    status := .running
    started := true
    sv := sv
    cobbler := sv
    hdr := { Hdr.zero with codelen := 64, upper := upper, quota := if upper then Config.upperSram else Config.soleSpad,
                           engines := [true, true, true] }
    code := code
    grant := [true, true, true] }

/-- R140: the fetch block that runs a word as the first syllable of a bundle of its own: a word without a stop bit is
followed by a syllable that ends the bundle, a NOP, or an ADD of g0 when the word is of class B. -/
def placedCode (w : Nat) : List Byte :=
  let fill := if classOf (major w) = 2 then 0x80000000 else 0xC0000000
  let ws := if bit w 31 then [w] else [w, fill]
  (ws ++ List.replicate (16 - ws.length) padWord).flatMap (leBytes 4)

/-- R156: a context in which the word's die, grant and supervisor state are as it needs them; a Sole user task when they
do not matter. -/
def placedFor (src w : Nat) : Ctx :=
  let mk := fun up sv => placedCtx up sv src (placedCode w)
  (([mk false false, mk true false, mk false true] : List Ctx).find? fun c => (ctxReason c w).isNone).getD (mk true true)

/-- A word placed so that the next step fetches and runs it. -/
def placeWord (s : State) (w : Nat) : State :=
  let c := placedFor s.fresh w
  { s with
    ctx := c
    others := s.others.filter fun d => d.gunit != c.gunit && !(c.upper && d.upper)
    units := s.units.filter fun u => u.n != c.gunit
    agenda := []
    rota := [c.cid]
    booted := true }

end Sys2Proof.Machine
end

