-- ==== Sys2Proof/Machine/Step.lean ====
section
/-! DEFINITION. The step of the machine. -/

namespace Sys2Proof.Machine

/-- One indivisible step. -/
def step (s : State) : Host.Outcome State Fault Refusal := stepPart s

/-- The state with an instruction of `nbits` bits placed where the next step fetches. -/
def State.withFetchWord (s : State) (_nbits w : Nat) : State := placeWord s w

end Sys2Proof.Machine
end

