-- ==== Sys2Proof/Laws/Encoding.lean ====
section
/-! SUPPORT. Where the fields of an encoded syllable lie: one lemma for each layout of operands (R144, R148 to R154), used
by the round trip of PerInstr. -/

-- one proof at a time
set_option Elab.async false

namespace Sys2Proof.Laws
theorem b2n_lt (b : Bool) : b2n b < 2 := by cases b <;> decide
theorem toNat_lt (b : Bool) : b.toNat < 2 := by cases b <;> decide
theorem bit_of_fld {w n : Nat} (b : Bool) (h : fld w n n = b2n b) : bit w n = b := by
  unfold bit; rw [h]; cases b <;> rfl
theorem bit_of_toNat {w n : Nat} (b : Bool) (h : fld w n n = b.toNat) : bit w n = b := by
  unfold bit; rw [h]; cases b <;> rfl
theorem fin_self {n : Nat} [NeZero n] (a : Fin n) : Fin.ofNat n a.val = a := Fin.ext (Nat.mod_eq_of_lt a.isLt)
theorem bv_self {n : Nat} (a : BitVec n) : BitVec.ofNat n a.toNat = a := by simp
theorem bv_ne {n : Nat} {a : BitVec n} (h : a ≠ 0) : a.toNat ≠ 0 :=
  fun t => h (BitVec.eq_of_toNat_eq (by simpa using t))

variable {i : Instr} {st ng sw tm : Bool} {p : Fin 8} {b : Fin 32}
theorem wf_scalar (hf : format i = .scalar) (h : wellFormed ⟨st, p, ng, sw, tm, b, i⟩ = true) :
    opWellFormed i = true ∧ p = 0 ∧ ng = false ∧ sw = false ∧ tm = false ∧ b = 0 := by
  simp only [wellFormed, hf] at h; simpa [and_assoc] using h
theorem wf_guarded (hf : format i = .guarded) (h : wellFormed ⟨st, p, ng, sw, tm, b, i⟩ = true) :
    opWellFormed i = true ∧ sw = false ∧ tm = false ∧ b = 0 := by
  simp only [wellFormed, hf] at h; simpa [and_assoc] using h
theorem wf_untimed (hf : format i = .untimed) (h : wellFormed ⟨st, p, ng, sw, tm, b, i⟩ = true) :
    opWellFormed i = true ∧ tm = false ∧ b = 0 := by
  simp only [wellFormed, hf] at h; simpa [and_assoc] using h
theorem wf_timed (hf : format i = .timed) (h : wellFormed ⟨st, p, ng, sw, tm, b, i⟩ = true) :
    opWellFormed i = true ∧ (b2n tm = 1 ∨ b.val = 0) := by
  simp only [wellFormed, hf, Bool.and_eq_true, Bool.or_eq_true, beq_iff_eq] at h
  exact ⟨h.1, h.2.imp (fun t => by rw [t]; rfl) (fun t => by rw [t]; rfl)⟩
theorem wf_pfx (hf : format i = .pfx) (h : wellFormed ⟨st, p, ng, sw, tm, b, i⟩ = true) :
    opWellFormed i = true ∧ st = false ∧ p = 0 ∧ ng = false ∧ sw = false ∧ tm = false ∧ b = 0 := by
  simp only [wellFormed, hf] at h; simpa [and_assoc] using h

theorem fields0 (w g0 o2 o1 o0 g26 st : Nat)
    (hg0 : g0 < 2048) (ho2 : o2 < 32) (ho1 : o1 < 32) (ho0 : o0 < 32) (hg26 : g26 < 32) (hst : st < 2)
    (e : w = g0 + o2 * 2048 + o1 * 65536 + o0 * 2097152 + g26 * 67108864 + st * 2147483648) :
    fld w 30 26 = g26 ∧
    fld w 10 0 = g0 ∧
    fld w 25 21 = o0 ∧
    fld w 20 16 = o1 ∧
    fld w 15 11 = o2 ∧
    fld w 31 31 = st := by
  subst e
  refine ⟨?_, ?_, ?_, ?_, ?_, ?_⟩ <;> (unfold fld; omega)

theorem fields1 (w g0 g11 o1 o0 g26 st : Nat)
    (hg0 : g0 < 2048) (hg11 : g11 < 32) (ho1 : o1 < 32) (ho0 : o0 < 32) (hg26 : g26 < 32) (hst : st < 2)
    (e : w = g0 + g11 * 2048 + o1 * 65536 + o0 * 2097152 + g26 * 67108864 + st * 2147483648) :
    fld w 30 26 = g26 ∧
    fld w 10 0 = g0 ∧
    fld w 15 11 = g11 ∧
    fld w 25 21 = o0 ∧
    fld w 20 16 = o1 ∧
    fld w 31 31 = st := by
  subst e
  refine ⟨?_, ?_, ?_, ?_, ?_, ?_⟩ <;> (unfold fld; omega)

theorem fields2 (w o2 o1 o0 g26 st : Nat)
    (ho2 : o2 < 65536) (ho1 : o1 < 32) (ho0 : o0 < 32) (hg26 : g26 < 32) (hst : st < 2)
    (e : w = o2 + o1 * 65536 + o0 * 2097152 + g26 * 67108864 + st * 2147483648) :
    fld w 30 26 = g26 ∧
    fld w 25 21 = o0 ∧
    fld w 20 16 = o1 ∧
    fld w 15 0 = o2 ∧
    fld w 31 31 = st := by
  subst e
  refine ⟨?_, ?_, ?_, ?_, ?_⟩ <;> (unfold fld; omega)

theorem fields3 (w o2 g14 o1 o0 g26 st : Nat)
    (ho2 : o2 < 16384) (hg14 : g14 < 4) (ho1 : o1 < 32) (ho0 : o0 < 32) (hg26 : g26 < 32) (hst : st < 2)
    (e : w = o2 + g14 * 16384 + o1 * 65536 + o0 * 2097152 + g26 * 67108864 + st * 2147483648) :
    fld w 30 26 = g26 ∧
    fld w 15 14 = g14 ∧
    fld w 25 21 = o0 ∧
    fld w 20 16 = o1 ∧
    fld w 13 0 = o2 ∧
    fld w 31 31 = st := by
  subst e
  refine ⟨?_, ?_, ?_, ?_, ?_, ?_⟩ <;> (unfold fld; omega)

theorem fields4 (w o2 g6 g8 o1 o0 g26 st : Nat)
    (ho2 : o2 < 64) (hg6 : g6 < 4) (hg8 : g8 < 256) (ho1 : o1 < 32) (ho0 : o0 < 32) (hg26 : g26 < 32) (hst : st < 2)
    (e : w = o2 + g6 * 64 + g8 * 256 + o1 * 65536 + o0 * 2097152 + g26 * 67108864 + st * 2147483648) :
    fld w 30 26 = g26 ∧
    fld w 7 6 = g6 ∧
    fld w 15 8 = g8 ∧
    fld w 25 21 = o0 ∧
    fld w 20 16 = o1 ∧
    fld w 5 0 = o2 ∧
    fld w 31 31 = st := by
  subst e
  refine ⟨?_, ?_, ?_, ?_, ?_, ?_, ?_⟩ <;> (unfold fld; omega)

theorem fields5 (w o2 g16 g18 o1 o0 g26 st : Nat)
    (ho2 : o2 < 65536) (hg16 : g16 < 4) (hg18 : g18 < 2) (ho1 : o1 < 4) (ho0 : o0 < 32) (hg26 : g26 < 32) (hst : st < 2)
    (e : w = o2 + g16 * 65536 + g18 * 262144 + o1 * 524288 + o0 * 2097152 + g26 * 67108864 + st * 2147483648) :
    fld w 30 26 = g26 ∧
    fld w 18 18 = g18 ∧
    fld w 17 16 = g16 ∧
    fld w 25 21 = o0 ∧
    fld w 20 19 = o1 ∧
    fld w 15 0 = o2 ∧
    fld w 31 31 = st := by
  subst e
  refine ⟨?_, ?_, ?_, ?_, ?_, ?_, ?_⟩ <;> (unfold fld; omega)

theorem fields6 (w g0 o2 o1 g21 o0 g26 st : Nat)
    (hg0 : g0 < 2048) (ho2 : o2 < 32) (ho1 : o1 < 32) (hg21 : g21 < 4) (ho0 : o0 < 8) (hg26 : g26 < 32) (hst : st < 2)
    (e : w = g0 + o2 * 2048 + o1 * 65536 + g21 * 2097152 + o0 * 8388608 + g26 * 67108864 + st * 2147483648) :
    fld w 30 26 = g26 ∧
    fld w 10 0 = g0 ∧
    fld w 22 21 = g21 ∧
    fld w 25 23 = o0 ∧
    fld w 20 16 = o1 ∧
    fld w 15 11 = o2 ∧
    fld w 31 31 = st := by
  subst e
  refine ⟨?_, ?_, ?_, ?_, ?_, ?_, ?_⟩ <;> (unfold fld; omega)

theorem fields7 (w o2 o1 g21 o0 g26 st : Nat)
    (ho2 : o2 < 65536) (ho1 : o1 < 32) (hg21 : g21 < 4) (ho0 : o0 < 8) (hg26 : g26 < 32) (hst : st < 2)
    (e : w = o2 + o1 * 65536 + g21 * 2097152 + o0 * 8388608 + g26 * 67108864 + st * 2147483648) :
    fld w 30 26 = g26 ∧
    fld w 22 21 = g21 ∧
    fld w 25 23 = o0 ∧
    fld w 20 16 = o1 ∧
    fld w 15 0 = o2 ∧
    fld w 31 31 = st := by
  subst e
  refine ⟨?_, ?_, ?_, ?_, ?_, ?_⟩ <;> (unfold fld; omega)

theorem fields8 (w g0 g11 o2 g16 o1 g21 o0 g26 st : Nat)
    (hg0 : g0 < 2048) (hg11 : g11 < 4) (ho2 : o2 < 8) (hg16 : g16 < 4) (ho1 : o1 < 8) (hg21 : g21 < 4) (ho0 : o0 < 8) (hg26 : g26 < 32) (hst : st < 2)
    (e : w = g0 + g11 * 2048 + o2 * 8192 + g16 * 65536 + o1 * 262144 + g21 * 2097152 + o0 * 8388608 + g26 * 67108864 + st * 2147483648) :
    fld w 30 26 = g26 ∧
    fld w 10 0 = g0 ∧
    fld w 12 11 = g11 ∧
    fld w 17 16 = g16 ∧
    fld w 22 21 = g21 ∧
    fld w 25 23 = o0 ∧
    fld w 20 18 = o1 ∧
    fld w 15 13 = o2 ∧
    fld w 31 31 = st := by
  subst e
  refine ⟨?_, ?_, ?_, ?_, ?_, ?_, ?_, ?_, ?_⟩ <;> (unfold fld; omega)

theorem fields9 (w g0 g11 o0 g26 st : Nat)
    (hg0 : g0 < 2048) (hg11 : g11 < 4096) (ho0 : o0 < 8) (hg26 : g26 < 32) (hst : st < 2)
    (e : w = g0 + g11 * 2048 + o0 * 8388608 + g26 * 67108864 + st * 2147483648) :
    fld w 30 26 = g26 ∧
    fld w 10 0 = g0 ∧
    fld w 22 11 = g11 ∧
    fld w 25 23 = o0 ∧
    fld w 31 31 = st := by
  subst e
  refine ⟨?_, ?_, ?_, ?_, ?_⟩ <;> (unfold fld; omega)

theorem fields10 (w g0 g11 o1 g21 o0 g26 st : Nat)
    (hg0 : g0 < 2048) (hg11 : g11 < 128) (ho1 : o1 < 8) (hg21 : g21 < 4) (ho0 : o0 < 8) (hg26 : g26 < 32) (hst : st < 2)
    (e : w = g0 + g11 * 2048 + o1 * 262144 + g21 * 2097152 + o0 * 8388608 + g26 * 67108864 + st * 2147483648) :
    fld w 30 26 = g26 ∧
    fld w 10 0 = g0 ∧
    fld w 17 11 = g11 ∧
    fld w 22 21 = g21 ∧
    fld w 25 23 = o0 ∧
    fld w 20 18 = o1 ∧
    fld w 31 31 = st := by
  subst e
  refine ⟨?_, ?_, ?_, ?_, ?_, ?_, ?_⟩ <;> (unfold fld; omega)

theorem fields11 (w g0 g11 o1 g21 o0 g26 st : Nat)
    (hg0 : g0 < 2048) (hg11 : g11 < 32) (ho1 : o1 < 32) (hg21 : g21 < 4) (ho0 : o0 < 8) (hg26 : g26 < 32) (hst : st < 2)
    (e : w = g0 + g11 * 2048 + o1 * 65536 + g21 * 2097152 + o0 * 8388608 + g26 * 67108864 + st * 2147483648) :
    fld w 30 26 = g26 ∧
    fld w 10 0 = g0 ∧
    fld w 15 11 = g11 ∧
    fld w 22 21 = g21 ∧
    fld w 25 23 = o0 ∧
    fld w 20 16 = o1 ∧
    fld w 31 31 = st := by
  subst e
  refine ⟨?_, ?_, ?_, ?_, ?_, ?_, ?_⟩ <;> (unfold fld; omega)

theorem fields12 (w o3 g3 o2 o1 o0 g26 st : Nat)
    (ho3 : o3 < 8) (hg3 : g3 < 256) (ho2 : o2 < 32) (ho1 : o1 < 32) (ho0 : o0 < 32) (hg26 : g26 < 32) (hst : st < 2)
    (e : w = o3 + g3 * 8 + o2 * 2048 + o1 * 65536 + o0 * 2097152 + g26 * 67108864 + st * 2147483648) :
    fld w 30 26 = g26 ∧
    fld w 10 0 = o3 + g3 * 8 ∧
    fld w 25 21 = o0 ∧
    fld w 20 16 = o1 ∧
    fld w 15 11 = o2 ∧
    fld w 2 0 = o3 ∧
    fld w 31 31 = st := by
  subst e
  refine ⟨?_, ?_, ?_, ?_, ?_, ?_, ?_⟩ <;> (unfold fld; omega)

theorem fields13 (w g0 g11 o1 o0 g26 st : Nat)
    (hg0 : g0 < 2048) (hg11 : g11 < 128) (ho1 : o1 < 8) (ho0 : o0 < 32) (hg26 : g26 < 32) (hst : st < 2)
    (e : w = g0 + g11 * 2048 + o1 * 262144 + o0 * 2097152 + g26 * 67108864 + st * 2147483648) :
    fld w 30 26 = g26 ∧
    fld w 10 0 = g0 ∧
    fld w 17 11 = g11 ∧
    fld w 25 21 = o0 ∧
    fld w 20 18 = o1 ∧
    fld w 31 31 = st := by
  subst e
  refine ⟨?_, ?_, ?_, ?_, ?_, ?_⟩ <;> (unfold fld; omega)

theorem fields14 (w g0 o4 o3 o2 o1 o0 g26 st : Nat)
    (hg0 : g0 < 128) (ho4 : o4 < 8) (ho3 : o3 < 2) (ho2 : o2 < 32) (ho1 : o1 < 32) (ho0 : o0 < 32) (hg26 : g26 < 32) (hst : st < 2)
    (e : w = g0 + o4 * 128 + o3 * 1024 + o2 * 2048 + o1 * 65536 + o0 * 2097152 + g26 * 67108864 + st * 2147483648) :
    fld w 30 26 = g26 ∧
    fld w 6 0 = g0 ∧
    fld w 9 7 = o4 ∧
    fld w 25 21 = o0 ∧
    fld w 20 16 = o1 ∧
    fld w 15 11 = o2 ∧
    fld w 10 10 = o3 ∧
    fld w 31 31 = st := by
  subst e
  refine ⟨?_, ?_, ?_, ?_, ?_, ?_, ?_, ?_⟩ <;> (unfold fld; omega)

theorem fields15 (w g0 o3 o2 g11 o1 o0 g26 st : Nat)
    (hg0 : g0 < 128) (ho3 : o3 < 8) (ho2 : o2 < 2) (hg11 : g11 < 32) (ho1 : o1 < 32) (ho0 : o0 < 32) (hg26 : g26 < 32) (hst : st < 2)
    (e : w = g0 + o3 * 128 + o2 * 1024 + g11 * 2048 + o1 * 65536 + o0 * 2097152 + g26 * 67108864 + st * 2147483648) :
    fld w 30 26 = g26 ∧
    fld w 6 0 = g0 ∧
    fld w 15 11 = g11 ∧
    fld w 9 7 = o3 ∧
    fld w 25 21 = o0 ∧
    fld w 20 16 = o1 ∧
    fld w 10 10 = o2 ∧
    fld w 31 31 = st := by
  subst e
  refine ⟨?_, ?_, ?_, ?_, ?_, ?_, ?_, ?_⟩ <;> (unfold fld; omega)

theorem fields16 (w g0 g7 o3 o2 o1 o0 g26 st : Nat)
    (hg0 : g0 < 128) (hg7 : g7 < 8) (ho3 : o3 < 2) (ho2 : o2 < 32) (ho1 : o1 < 32) (ho0 : o0 < 32) (hg26 : g26 < 32) (hst : st < 2)
    (e : w = g0 + g7 * 128 + o3 * 1024 + o2 * 2048 + o1 * 65536 + o0 * 2097152 + g26 * 67108864 + st * 2147483648) :
    fld w 30 26 = g26 ∧
    fld w 6 0 = g0 ∧
    fld w 9 7 = g7 ∧
    fld w 25 21 = o0 ∧
    fld w 20 16 = o1 ∧
    fld w 15 11 = o2 ∧
    fld w 10 10 = o3 ∧
    fld w 31 31 = st := by
  subst e
  refine ⟨?_, ?_, ?_, ?_, ?_, ?_, ?_, ?_⟩ <;> (unfold fld; omega)

theorem fields17 (w g0 g7 o3 o2 o1 g21 o0 g26 st : Nat)
    (hg0 : g0 < 128) (hg7 : g7 < 8) (ho3 : o3 < 2) (ho2 : o2 < 32) (ho1 : o1 < 32) (hg21 : g21 < 4) (ho0 : o0 < 8) (hg26 : g26 < 32) (hst : st < 2)
    (e : w = g0 + g7 * 128 + o3 * 1024 + o2 * 2048 + o1 * 65536 + g21 * 2097152 + o0 * 8388608 + g26 * 67108864 + st * 2147483648) :
    fld w 30 26 = g26 ∧
    fld w 6 0 = g0 ∧
    fld w 9 7 = g7 ∧
    fld w 22 21 = g21 ∧
    fld w 25 23 = o0 ∧
    fld w 20 16 = o1 ∧
    fld w 15 11 = o2 ∧
    fld w 10 10 = o3 ∧
    fld w 31 31 = st := by
  subst e
  refine ⟨?_, ?_, ?_, ?_, ?_, ?_, ?_, ?_, ?_⟩ <;> (unfold fld; omega)

theorem fields18 (w g0 g7 o2 g11 o1 o0 g26 st : Nat)
    (hg0 : g0 < 128) (hg7 : g7 < 8) (ho2 : o2 < 2) (hg11 : g11 < 32) (ho1 : o1 < 32) (ho0 : o0 < 32) (hg26 : g26 < 32) (hst : st < 2)
    (e : w = g0 + g7 * 128 + o2 * 1024 + g11 * 2048 + o1 * 65536 + o0 * 2097152 + g26 * 67108864 + st * 2147483648) :
    fld w 30 26 = g26 ∧
    fld w 6 0 = g0 ∧
    fld w 9 7 = g7 ∧
    fld w 15 11 = g11 ∧
    fld w 25 21 = o0 ∧
    fld w 20 16 = o1 ∧
    fld w 10 10 = o2 ∧
    fld w 31 31 = st := by
  subst e
  refine ⟨?_, ?_, ?_, ?_, ?_, ?_, ?_, ?_⟩ <;> (unfold fld; omega)

theorem fields19 (w o3 g7 o2 g10 o1 o0 ng p g26 st : Nat)
    (ho3 : o3 < 128) (hg7 : g7 < 2) (ho2 : o2 < 4) (hg10 : g10 < 4) (ho1 : o1 < 32) (ho0 : o0 < 32) (hng : ng < 2) (hp : p < 8) (hg26 : g26 < 32) (hst : st < 2)
    (e : w = o3 + g7 * 128 + o2 * 256 + g10 * 1024 + o1 * 4096 + o0 * 131072 + ng * 4194304 + p * 8388608 + g26 * 67108864 + st * 2147483648) :
    fld w 30 26 = g26 ∧
    fld w 11 10 = g10 ∧
    fld w 7 7 = g7 ∧
    fld w 21 17 = o0 ∧
    fld w 16 12 = o1 ∧
    fld w 9 8 = o2 ∧
    fld w 6 0 = o3 ∧
    fld w 25 23 = p ∧
    fld w 22 22 = ng ∧
    fld w 31 31 = st := by
  subst e
  refine ⟨?_, ?_, ?_, ?_, ?_, ?_, ?_, ?_, ?_, ?_⟩ <;> (unfold fld; omega)

theorem fields20 (w o3 g7 o2 g10 o1 o0 g19 ng p g26 st : Nat)
    (ho3 : o3 < 128) (hg7 : g7 < 2) (ho2 : o2 < 4) (hg10 : g10 < 4) (ho1 : o1 < 32) (ho0 : o0 < 4) (hg19 : g19 < 8) (hng : ng < 2) (hp : p < 8) (hg26 : g26 < 32) (hst : st < 2)
    (e : w = o3 + g7 * 128 + o2 * 256 + g10 * 1024 + o1 * 4096 + o0 * 131072 + g19 * 524288 + ng * 4194304 + p * 8388608 + g26 * 67108864 + st * 2147483648) :
    fld w 30 26 = g26 ∧
    fld w 11 10 = g10 ∧
    fld w 7 7 = g7 ∧
    fld w 21 19 = g19 ∧
    fld w 18 17 = o0 ∧
    fld w 16 12 = o1 ∧
    fld w 9 8 = o2 ∧
    fld w 6 0 = o3 ∧
    fld w 25 23 = p ∧
    fld w 22 22 = ng ∧
    fld w 31 31 = st := by
  subst e
  refine ⟨?_, ?_, ?_, ?_, ?_, ?_, ?_, ?_, ?_, ?_, ?_⟩ <;> (unfold fld; omega)

theorem fields21 (w g0 o3 o2 o1 g12 o0 ng p g26 st : Nat)
    (hg0 : g0 < 16) (ho3 : o3 < 16) (ho2 : o2 < 4) (ho1 : o1 < 4) (hg12 : g12 < 32) (ho0 : o0 < 32) (hng : ng < 2) (hp : p < 8) (hg26 : g26 < 32) (hst : st < 2)
    (e : w = g0 + o3 * 16 + o2 * 256 + o1 * 1024 + g12 * 4096 + o0 * 131072 + ng * 4194304 + p * 8388608 + g26 * 67108864 + st * 2147483648) :
    fld w 30 26 = g26 ∧
    fld w 16 12 = g12 ∧
    fld w 7 4 = o3 ∧
    fld w 3 0 = g0 ∧
    fld w 11 10 = o1 ∧
    fld w 21 17 = o0 ∧
    fld w 9 8 = o2 ∧
    fld w 25 23 = p ∧
    fld w 22 22 = ng ∧
    fld w 31 31 = st := by
  subst e
  refine ⟨?_, ?_, ?_, ?_, ?_, ?_, ?_, ?_, ?_, ?_⟩ <;> (unfold fld; omega)

theorem fields22 (w g0 o4 o3 o2 o1 g12 o0 ng p g26 st : Nat)
    (hg0 : g0 < 8) (ho4 : o4 < 2) (ho3 : o3 < 16) (ho2 : o2 < 4) (ho1 : o1 < 4) (hg12 : g12 < 32) (ho0 : o0 < 32) (hng : ng < 2) (hp : p < 8) (hg26 : g26 < 32) (hst : st < 2)
    (e : w = g0 + o4 * 8 + o3 * 16 + o2 * 256 + o1 * 1024 + g12 * 4096 + o0 * 131072 + ng * 4194304 + p * 8388608 + g26 * 67108864 + st * 2147483648) :
    fld w 30 26 = g26 ∧
    fld w 16 12 = g12 ∧
    fld w 7 4 = o3 ∧
    fld w 2 0 = g0 ∧
    fld w 11 10 = o1 ∧
    fld w 21 17 = o0 ∧
    fld w 9 8 = o2 ∧
    fld w 3 3 = o4 ∧
    fld w 25 23 = p ∧
    fld w 22 22 = ng ∧
    fld w 31 31 = st := by
  subst e
  refine ⟨?_, ?_, ?_, ?_, ?_, ?_, ?_, ?_, ?_, ?_, ?_⟩ <;> (unfold fld; omega)

theorem fields23 (w o1 g12 o0 ng p g26 st : Nat)
    (ho1 : o1 < 4096) (hg12 : g12 < 32) (ho0 : o0 < 32) (hng : ng < 2) (hp : p < 8) (hg26 : g26 < 32) (hst : st < 2)
    (e : w = o1 + g12 * 4096 + o0 * 131072 + ng * 4194304 + p * 8388608 + g26 * 67108864 + st * 2147483648) :
    fld w 30 26 = g26 ∧
    fld w 16 12 = g12 ∧
    fld w 11 0 = o1 ∧
    fld w 21 17 = o0 ∧
    fld w 25 23 = p ∧
    fld w 22 22 = ng ∧
    fld w 31 31 = st := by
  subst e
  refine ⟨?_, ?_, ?_, ?_, ?_, ?_, ?_⟩ <;> (unfold fld; omega)

theorem fields24 (w o1 g12 o0 g19 ng p g26 st : Nat)
    (ho1 : o1 < 4096) (hg12 : g12 < 32) (ho0 : o0 < 4) (hg19 : g19 < 8) (hng : ng < 2) (hp : p < 8) (hg26 : g26 < 32) (hst : st < 2)
    (e : w = o1 + g12 * 4096 + o0 * 131072 + g19 * 524288 + ng * 4194304 + p * 8388608 + g26 * 67108864 + st * 2147483648) :
    fld w 30 26 = g26 ∧
    fld w 16 12 = g12 ∧
    fld w 21 19 = g19 ∧
    fld w 11 0 = o1 ∧
    fld w 18 17 = o0 ∧
    fld w 25 23 = p ∧
    fld w 22 22 = ng ∧
    fld w 31 31 = st := by
  subst e
  refine ⟨?_, ?_, ?_, ?_, ?_, ?_, ?_, ?_⟩ <;> (unfold fld; omega)

theorem fields25 (w o0 g20 ng p g26 st : Nat)
    (ho0 : o0 < 1048576) (hg20 : g20 < 4) (hng : ng < 2) (hp : p < 8) (hg26 : g26 < 32) (hst : st < 2)
    (e : w = o0 + g20 * 1048576 + ng * 4194304 + p * 8388608 + g26 * 67108864 + st * 2147483648) :
    fld w 30 26 = g26 ∧
    fld w 21 20 = g20 ∧
    fld w 19 0 = o0 ∧
    fld w 25 23 = p ∧
    fld w 22 22 = ng ∧
    fld w 31 31 = st := by
  subst e
  refine ⟨?_, ?_, ?_, ?_, ?_, ?_⟩ <;> (unfold fld; omega)

theorem fields26 (w o1 g14 o0 g20 ng p g26 st : Nat)
    (ho1 : o1 < 16384) (hg14 : g14 < 2) (ho0 : o0 < 32) (hg20 : g20 < 4) (hng : ng < 2) (hp : p < 8) (hg26 : g26 < 32) (hst : st < 2)
    (e : w = o1 + g14 * 16384 + o0 * 32768 + g20 * 1048576 + ng * 4194304 + p * 8388608 + g26 * 67108864 + st * 2147483648) :
    fld w 30 26 = g26 ∧
    fld w 21 20 = g20 ∧
    fld w 14 14 = g14 ∧
    fld w 19 15 = o0 ∧
    fld w 13 0 = o1 ∧
    fld w 25 23 = p ∧
    fld w 22 22 = ng ∧
    fld w 31 31 = st := by
  subst e
  refine ⟨?_, ?_, ?_, ?_, ?_, ?_, ?_, ?_⟩ <;> (unfold fld; omega)

theorem fields27 (w g0 o0 g20 ng p g26 st : Nat)
    (hg0 : g0 < 32768) (ho0 : o0 < 32) (hg20 : g20 < 4) (hng : ng < 2) (hp : p < 8) (hg26 : g26 < 32) (hst : st < 2)
    (e : w = g0 + o0 * 32768 + g20 * 1048576 + ng * 4194304 + p * 8388608 + g26 * 67108864 + st * 2147483648) :
    fld w 30 26 = g26 ∧
    fld w 21 20 = g20 ∧
    fld w 14 0 = g0 ∧
    fld w 19 15 = o0 ∧
    fld w 25 23 = p ∧
    fld w 22 22 = ng ∧
    fld w 31 31 = st := by
  subst e
  refine ⟨?_, ?_, ?_, ?_, ?_, ?_, ?_⟩ <;> (unfold fld; omega)

theorem fields28 (w o2 o1 o0 g20 ng p g26 st : Nat)
    (ho2 : o2 < 4096) (ho1 : o1 < 32) (ho0 : o0 < 8) (hg20 : g20 < 4) (hng : ng < 2) (hp : p < 8) (hg26 : g26 < 32) (hst : st < 2)
    (e : w = o2 + o1 * 4096 + o0 * 131072 + g20 * 1048576 + ng * 4194304 + p * 8388608 + g26 * 67108864 + st * 2147483648) :
    fld w 30 26 = g26 ∧
    fld w 21 20 = g20 ∧
    fld w 19 17 = o0 ∧
    fld w 11 0 = o2 ∧
    fld w 16 12 = o1 ∧
    fld w 25 23 = p ∧
    fld w 22 22 = ng ∧
    fld w 31 31 = st := by
  subst e
  refine ⟨?_, ?_, ?_, ?_, ?_, ?_, ?_, ?_⟩ <;> (unfold fld; omega)

theorem fields29 (w o2 o1 o0 g20 ng p g26 st : Nat)
    (ho2 : o2 < 256) (ho1 : o1 < 512) (ho0 : o0 < 8) (hg20 : g20 < 4) (hng : ng < 2) (hp : p < 8) (hg26 : g26 < 32) (hst : st < 2)
    (e : w = o2 + o1 * 256 + o0 * 131072 + g20 * 1048576 + ng * 4194304 + p * 8388608 + g26 * 67108864 + st * 2147483648) :
    fld w 30 26 = g26 ∧
    fld w 21 20 = g20 ∧
    fld w 19 17 = o0 ∧
    fld w 7 0 = o2 ∧
    fld w 16 8 = o1 ∧
    fld w 25 23 = p ∧
    fld w 22 22 = ng ∧
    fld w 31 31 = st := by
  subst e
  refine ⟨?_, ?_, ?_, ?_, ?_, ?_, ?_, ?_⟩ <;> (unfold fld; omega)

theorem fields30 (w g0 o4 o3 o2 o1 o0 g20 ng p g26 st : Nat)
    (hg0 : g0 < 64) (ho4 : o4 < 32) (ho3 : o3 < 4) (ho2 : o2 < 4) (ho1 : o1 < 4) (ho0 : o0 < 8) (hg20 : g20 < 4) (hng : ng < 2) (hp : p < 8) (hg26 : g26 < 32) (hst : st < 2)
    (e : w = g0 + o4 * 64 + o3 * 2048 + o2 * 8192 + o1 * 32768 + o0 * 131072 + g20 * 1048576 + ng * 4194304 + p * 8388608 + g26 * 67108864 + st * 2147483648) :
    fld w 30 26 = g26 ∧
    fld w 21 20 = g20 ∧
    fld w 19 17 = o0 ∧
    fld w 14 13 = o2 ∧
    fld w 5 0 = g0 ∧
    fld w 16 15 = o1 ∧
    fld w 12 11 = o3 ∧
    fld w 10 6 = o4 ∧
    fld w 25 23 = p ∧
    fld w 22 22 = ng ∧
    fld w 31 31 = st := by
  subst e
  refine ⟨?_, ?_, ?_, ?_, ?_, ?_, ?_, ?_, ?_, ?_, ?_⟩ <;> (unfold fld; omega)

theorem fields31 (w g0 g13 g15 g16 g17 g18 g19 g20 ng p g26 st : Nat)
    (hg0 : g0 < 8192) (hg13 : g13 < 4) (hg15 : g15 < 2) (hg16 : g16 < 2) (hg17 : g17 < 2) (hg18 : g18 < 2) (hg19 : g19 < 2) (hg20 : g20 < 4) (hng : ng < 2) (hp : p < 8) (hg26 : g26 < 32) (hst : st < 2)
    (e : w = g0 + g13 * 8192 + g15 * 32768 + g16 * 65536 + g17 * 131072 + g18 * 262144 + g19 * 524288 + g20 * 1048576 + ng * 4194304 + p * 8388608 + g26 * 67108864 + st * 2147483648) :
    fld w 30 26 = g26 ∧
    fld w 19 15 = g15 + g16 * 2 + g17 * 4 + g18 * 8 + g19 * 16 ∧
    fld w 21 20 = g20 ∧
    fld w 19 19 = g19 ∧
    fld w 18 0 = g0 + g13 * 8192 + g15 * 32768 + g16 * 65536 + g17 * 131072 + g18 * 262144 ∧
    fld w 16 0 = g0 + g13 * 8192 + g15 * 32768 + g16 * 65536 ∧
    fld w 14 0 = g0 + g13 * 8192 ∧
    fld w 25 23 = p ∧
    fld w 22 22 = ng ∧
    fld w 31 31 = st ∧
    fld w 19 18 = g18 + g19 * 2 ∧
    fld w 17 16 = g16 + g17 * 2 ∧
    fld w 15 0 = g0 + g13 * 8192 + g15 * 32768 ∧
    fld w 19 13 = g13 + g15 * 4 + g16 * 8 + g17 * 16 + g18 * 32 + g19 * 64 ∧
    fld w 12 0 = g0 := by
  subst e
  refine ⟨?_, ?_, ?_, ?_, ?_, ?_, ?_, ?_, ?_, ?_, ?_, ?_, ?_, ?_, ?_⟩ <;> (unfold fld; omega)

theorem fields32 (w o0 g15 g17 g19 g20 ng p g26 st : Nat)
    (ho0 : o0 < 32768) (hg15 : g15 < 4) (hg17 : g17 < 4) (hg19 : g19 < 2) (hg20 : g20 < 4) (hng : ng < 2) (hp : p < 8) (hg26 : g26 < 32) (hst : st < 2)
    (e : w = o0 + g15 * 32768 + g17 * 131072 + g19 * 524288 + g20 * 1048576 + ng * 4194304 + p * 8388608 + g26 * 67108864 + st * 2147483648) :
    fld w 30 26 = g26 ∧
    fld w 19 15 = g15 + g17 * 4 + g19 * 16 ∧
    fld w 21 20 = g20 ∧
    fld w 19 19 = g19 ∧
    fld w 18 0 = o0 + g15 * 32768 + g17 * 131072 ∧
    fld w 16 0 = o0 + g15 * 32768 ∧
    fld w 14 0 = o0 ∧
    fld w 25 23 = p ∧
    fld w 22 22 = ng ∧
    fld w 31 31 = st := by
  subst e
  refine ⟨?_, ?_, ?_, ?_, ?_, ?_, ?_, ?_, ?_, ?_⟩ <;> (unfold fld; omega)

theorem fields33 (w g0 o0 g15 g17 g19 g20 ng p g26 st : Nat)
    (hg0 : g0 < 4096) (ho0 : o0 < 8) (hg15 : g15 < 4) (hg17 : g17 < 4) (hg19 : g19 < 2) (hg20 : g20 < 4) (hng : ng < 2) (hp : p < 8) (hg26 : g26 < 32) (hst : st < 2)
    (e : w = g0 + o0 * 4096 + g15 * 32768 + g17 * 131072 + g19 * 524288 + g20 * 1048576 + ng * 4194304 + p * 8388608 + g26 * 67108864 + st * 2147483648) :
    fld w 30 26 = g26 ∧
    fld w 19 15 = g15 + g17 * 4 + g19 * 16 ∧
    fld w 21 20 = g20 ∧
    fld w 19 19 = g19 ∧
    fld w 18 0 = g0 + o0 * 4096 + g15 * 32768 + g17 * 131072 ∧
    fld w 16 0 = g0 + o0 * 4096 + g15 * 32768 ∧
    fld w 11 0 = g0 ∧
    fld w 14 12 = o0 ∧
    fld w 25 23 = p ∧
    fld w 22 22 = ng ∧
    fld w 31 31 = st := by
  subst e
  refine ⟨?_, ?_, ?_, ?_, ?_, ?_, ?_, ?_, ?_, ?_, ?_⟩ <;> (unfold fld; omega)

theorem fields34 (w g0 o0 g19 g20 ng p g26 st : Nat)
    (hg0 : g0 < 16384) (ho0 : o0 < 32) (hg19 : g19 < 2) (hg20 : g20 < 4) (hng : ng < 2) (hp : p < 8) (hg26 : g26 < 32) (hst : st < 2)
    (e : w = g0 + o0 * 16384 + g19 * 524288 + g20 * 1048576 + ng * 4194304 + p * 8388608 + g26 * 67108864 + st * 2147483648) :
    fld w 30 26 = g26 ∧
    fld w 21 20 = g20 ∧
    fld w 19 19 = g19 ∧
    fld w 13 0 = g0 ∧
    fld w 18 14 = o0 ∧
    fld w 25 23 = p ∧
    fld w 22 22 = ng ∧
    fld w 31 31 = st := by
  subst e
  refine ⟨?_, ?_, ?_, ?_, ?_, ?_, ?_, ?_⟩ <;> (unfold fld; omega)

theorem fields35 (w o0 g19 g20 ng p g26 st : Nat)
    (ho0 : o0 < 524288) (hg19 : g19 < 2) (hg20 : g20 < 4) (hng : ng < 2) (hp : p < 8) (hg26 : g26 < 32) (hst : st < 2)
    (e : w = o0 + g19 * 524288 + g20 * 1048576 + ng * 4194304 + p * 8388608 + g26 * 67108864 + st * 2147483648) :
    fld w 30 26 = g26 ∧
    fld w 21 20 = g20 ∧
    fld w 19 19 = g19 ∧
    fld w 18 0 = o0 ∧
    fld w 25 23 = p ∧
    fld w 22 22 = ng ∧
    fld w 31 31 = st := by
  subst e
  refine ⟨?_, ?_, ?_, ?_, ?_, ?_, ?_⟩ <;> (unfold fld; omega)

theorem fields36 (w g0 o0 g20 ng p g26 st : Nat)
    (hg0 : g0 < 131072) (ho0 : o0 < 8) (hg20 : g20 < 4) (hng : ng < 2) (hp : p < 8) (hg26 : g26 < 32) (hst : st < 2)
    (e : w = g0 + o0 * 131072 + g20 * 1048576 + ng * 4194304 + p * 8388608 + g26 * 67108864 + st * 2147483648) :
    fld w 30 26 = g26 ∧
    fld w 21 20 = g20 ∧
    fld w 16 0 = g0 ∧
    fld w 19 17 = o0 ∧
    fld w 25 23 = p ∧
    fld w 22 22 = ng ∧
    fld w 31 31 = st := by
  subst e
  refine ⟨?_, ?_, ?_, ?_, ?_, ?_, ?_⟩ <;> (unfold fld; omega)

theorem fields37 (w g0 o0 g18 g19 g20 ng p g26 st : Nat)
    (hg0 : g0 < 32768) (ho0 : o0 < 8) (hg18 : g18 < 2) (hg19 : g19 < 2) (hg20 : g20 < 4) (hng : ng < 2) (hp : p < 8) (hg26 : g26 < 32) (hst : st < 2)
    (e : w = g0 + o0 * 32768 + g18 * 262144 + g19 * 524288 + g20 * 1048576 + ng * 4194304 + p * 8388608 + g26 * 67108864 + st * 2147483648) :
    fld w 30 26 = g26 ∧
    fld w 19 18 = g18 + g19 * 2 ∧
    fld w 21 20 = g20 ∧
    fld w 19 19 = g19 ∧
    fld w 18 0 = g0 + o0 * 32768 + g18 * 262144 ∧
    fld w 14 0 = g0 ∧
    fld w 17 15 = o0 ∧
    fld w 25 23 = p ∧
    fld w 22 22 = ng ∧
    fld w 31 31 = st := by
  subst e
  refine ⟨?_, ?_, ?_, ?_, ?_, ?_, ?_, ?_, ?_, ?_⟩ <;> (unfold fld; omega)

theorem fields38 (w o5 o4 o3 o2 o1 o0 g26 g31 : Nat)
    (ho5 : o5 < 8) (ho4 : o4 < 256) (ho3 : o3 < 256) (ho2 : o2 < 8) (ho1 : o1 < 2) (ho0 : o0 < 8) (hg26 : g26 < 32) (_hg31 : g31 < 2)
    (e : w = o5 + o4 * 8 + o3 * 2048 + o2 * 524288 + o1 * 4194304 + o0 * 8388608 + g26 * 67108864 + g31 * 2147483648) :
    fld w 30 26 = g26 ∧
    fld w 25 23 = o0 ∧
    fld w 21 19 = o2 ∧
    fld w 18 11 = o3 ∧
    fld w 10 3 = o4 ∧
    fld w 2 0 = o5 ∧
    fld w 22 22 = o1 := by
  subst e
  refine ⟨?_, ?_, ?_, ?_, ?_, ?_, ?_⟩ <;> (unfold fld; omega)

theorem fields39 (w o0 b g8 g13 tm sw ng p g26 st : Nat)
    (ho0 : o0 < 8) (hb : b < 32) (hg8 : g8 < 32) (hg13 : g13 < 128) (htm : tm < 2) (hsw : sw < 2) (hng : ng < 2) (hp : p < 8) (hg26 : g26 < 32) (hst : st < 2)
    (e : w = o0 + b * 8 + g8 * 256 + g13 * 8192 + tm * 1048576 + sw * 2097152 + ng * 4194304 + p * 8388608 + g26 * 67108864 + st * 2147483648) :
    fld w 30 26 = g26 ∧
    fld w 19 13 = g13 ∧
    fld w 12 8 = g8 ∧
    fld w 20 20 = tm ∧
    fld w 7 3 = b ∧
    fld w 2 0 = o0 ∧
    fld w 25 23 = p ∧
    fld w 22 22 = ng ∧
    fld w 21 21 = sw ∧
    fld w 31 31 = st := by
  subst e
  refine ⟨?_, ?_, ?_, ?_, ?_, ?_, ?_, ?_, ?_, ?_⟩ <;> (unfold fld; omega)

theorem fields40 (w o1 b o0 g13 tm sw ng p g26 st : Nat)
    (ho1 : o1 < 8) (hb : b < 32) (ho0 : o0 < 32) (hg13 : g13 < 128) (htm : tm < 2) (hsw : sw < 2) (hng : ng < 2) (hp : p < 8) (hg26 : g26 < 32) (hst : st < 2)
    (e : w = o1 + b * 8 + o0 * 256 + g13 * 8192 + tm * 1048576 + sw * 2097152 + ng * 4194304 + p * 8388608 + g26 * 67108864 + st * 2147483648) :
    fld w 30 26 = g26 ∧
    fld w 19 13 = g13 ∧
    fld w 20 20 = tm ∧
    fld w 7 3 = b ∧
    fld w 2 0 = o1 ∧
    fld w 12 8 = o0 ∧
    fld w 25 23 = p ∧
    fld w 22 22 = ng ∧
    fld w 21 21 = sw ∧
    fld w 31 31 = st := by
  subst e
  refine ⟨?_, ?_, ?_, ?_, ?_, ?_, ?_, ?_, ?_, ?_⟩ <;> (unfold fld; omega)

theorem fields41 (w g0 g1 b g8 g13 tm sw ng p g26 st : Nat)
    (hg0 : g0 < 2) (hg1 : g1 < 4) (hb : b < 32) (hg8 : g8 < 32) (hg13 : g13 < 128) (htm : tm < 2) (hsw : sw < 2) (hng : ng < 2) (hp : p < 8) (hg26 : g26 < 32) (hst : st < 2)
    (e : w = g0 + g1 * 2 + b * 8 + g8 * 256 + g13 * 8192 + tm * 1048576 + sw * 2097152 + ng * 4194304 + p * 8388608 + g26 * 67108864 + st * 2147483648) :
    fld w 30 26 = g26 ∧
    fld w 19 13 = g13 ∧
    fld w 2 0 = g0 + g1 * 2 ∧
    fld w 12 8 = g8 ∧
    fld w 20 20 = tm ∧
    fld w 7 3 = b ∧
    fld w 25 23 = p ∧
    fld w 22 22 = ng ∧
    fld w 21 21 = sw ∧
    fld w 31 31 = st ∧
    fld w 0 0 = g0 ∧
    fld w 2 1 = g1 := by
  subst e
  refine ⟨?_, ?_, ?_, ?_, ?_, ?_, ?_, ?_, ?_, ?_, ?_, ?_⟩ <;> (unfold fld; omega)

theorem fields42 (w g0 g1 b o0 g13 tm sw ng p g26 st : Nat)
    (hg0 : g0 < 2) (hg1 : g1 < 4) (hb : b < 32) (ho0 : o0 < 32) (hg13 : g13 < 128) (htm : tm < 2) (hsw : sw < 2) (hng : ng < 2) (hp : p < 8) (hg26 : g26 < 32) (hst : st < 2)
    (e : w = g0 + g1 * 2 + b * 8 + o0 * 256 + g13 * 8192 + tm * 1048576 + sw * 2097152 + ng * 4194304 + p * 8388608 + g26 * 67108864 + st * 2147483648) :
    fld w 30 26 = g26 ∧
    fld w 19 13 = g13 ∧
    fld w 2 0 = g0 + g1 * 2 ∧
    fld w 20 20 = tm ∧
    fld w 7 3 = b ∧
    fld w 12 8 = o0 ∧
    fld w 25 23 = p ∧
    fld w 22 22 = ng ∧
    fld w 21 21 = sw ∧
    fld w 31 31 = st ∧
    fld w 0 0 = g0 ∧
    fld w 2 1 = g1 := by
  subst e
  refine ⟨?_, ?_, ?_, ?_, ?_, ?_, ?_, ?_, ?_, ?_, ?_, ?_⟩ <;> (unfold fld; omega)

theorem fields43 (w g0 g1 o1 o0 g13 g20 sw ng p g26 st : Nat)
    (hg0 : g0 < 2) (hg1 : g1 < 4) (ho1 : o1 < 32) (ho0 : o0 < 32) (hg13 : g13 < 128) (hg20 : g20 < 2) (hsw : sw < 2) (hng : ng < 2) (hp : p < 8) (hg26 : g26 < 32) (hst : st < 2)
    (e : w = g0 + g1 * 2 + o1 * 8 + o0 * 256 + g13 * 8192 + g20 * 1048576 + sw * 2097152 + ng * 4194304 + p * 8388608 + g26 * 67108864 + st * 2147483648) :
    fld w 30 26 = g26 ∧
    fld w 19 13 = g13 ∧
    fld w 2 0 = g0 + g1 * 2 ∧
    fld w 20 20 = g20 ∧
    fld w 12 8 = o0 ∧
    fld w 7 3 = o1 ∧
    fld w 25 23 = p ∧
    fld w 22 22 = ng ∧
    fld w 21 21 = sw ∧
    fld w 31 31 = st ∧
    fld w 0 0 = g0 ∧
    fld w 2 1 = g1 := by
  subst e
  refine ⟨?_, ?_, ?_, ?_, ?_, ?_, ?_, ?_, ?_, ?_, ?_, ?_⟩ <;> (unfold fld; omega)

theorem fields44 (w o1 g2 b o0 g13 tm sw ng p g26 st : Nat)
    (ho1 : o1 < 4) (hg2 : g2 < 2) (hb : b < 32) (ho0 : o0 < 32) (hg13 : g13 < 128) (htm : tm < 2) (hsw : sw < 2) (hng : ng < 2) (hp : p < 8) (hg26 : g26 < 32) (hst : st < 2)
    (e : w = o1 + g2 * 4 + b * 8 + o0 * 256 + g13 * 8192 + tm * 1048576 + sw * 2097152 + ng * 4194304 + p * 8388608 + g26 * 67108864 + st * 2147483648) :
    fld w 30 26 = g26 ∧
    fld w 19 13 = g13 ∧
    fld w 2 2 = g2 ∧
    fld w 20 20 = tm ∧
    fld w 7 3 = b ∧
    fld w 12 8 = o0 ∧
    fld w 1 0 = o1 ∧
    fld w 25 23 = p ∧
    fld w 22 22 = ng ∧
    fld w 21 21 = sw ∧
    fld w 31 31 = st := by
  subst e
  refine ⟨?_, ?_, ?_, ?_, ?_, ?_, ?_, ?_, ?_, ?_, ?_⟩ <;> (unfold fld; omega)

theorem fields45 (w o2 o1 o0 g13 g20 sw ng p g26 st : Nat)
    (ho2 : o2 < 8) (ho1 : o1 < 32) (ho0 : o0 < 32) (hg13 : g13 < 128) (hg20 : g20 < 2) (hsw : sw < 2) (hng : ng < 2) (hp : p < 8) (hg26 : g26 < 32) (hst : st < 2)
    (e : w = o2 + o1 * 8 + o0 * 256 + g13 * 8192 + g20 * 1048576 + sw * 2097152 + ng * 4194304 + p * 8388608 + g26 * 67108864 + st * 2147483648) :
    fld w 30 26 = g26 ∧
    fld w 19 13 = g13 ∧
    fld w 20 20 = g20 ∧
    fld w 12 8 = o0 ∧
    fld w 7 3 = o1 ∧
    fld w 2 0 = o2 ∧
    fld w 25 23 = p ∧
    fld w 22 22 = ng ∧
    fld w 21 21 = sw ∧
    fld w 31 31 = st := by
  subst e
  refine ⟨?_, ?_, ?_, ?_, ?_, ?_, ?_, ?_, ?_, ?_⟩ <;> (unfold fld; omega)

theorem fields46 (w o1 b o0 g11 g13 tm sw ng p g26 st : Nat)
    (ho1 : o1 < 8) (hb : b < 32) (ho0 : o0 < 8) (hg11 : g11 < 4) (hg13 : g13 < 128) (htm : tm < 2) (hsw : sw < 2) (hng : ng < 2) (hp : p < 8) (hg26 : g26 < 32) (hst : st < 2)
    (e : w = o1 + b * 8 + o0 * 256 + g11 * 2048 + g13 * 8192 + tm * 1048576 + sw * 2097152 + ng * 4194304 + p * 8388608 + g26 * 67108864 + st * 2147483648) :
    fld w 30 26 = g26 ∧
    fld w 19 13 = g13 ∧
    fld w 12 11 = g11 ∧
    fld w 20 20 = tm ∧
    fld w 7 3 = b ∧
    fld w 10 8 = o0 ∧
    fld w 2 0 = o1 ∧
    fld w 25 23 = p ∧
    fld w 22 22 = ng ∧
    fld w 21 21 = sw ∧
    fld w 31 31 = st := by
  subst e
  refine ⟨?_, ?_, ?_, ?_, ?_, ?_, ?_, ?_, ?_, ?_, ?_⟩ <;> (unfold fld; omega)

theorem fields47 (w g0 o0 g13 g20 ng p g26 st : Nat)
    (hg0 : g0 < 256) (ho0 : o0 < 32) (hg13 : g13 < 128) (hg20 : g20 < 4) (hng : ng < 2) (hp : p < 8) (hg26 : g26 < 32) (hst : st < 2)
    (e : w = g0 + o0 * 256 + g13 * 8192 + g20 * 1048576 + ng * 4194304 + p * 8388608 + g26 * 67108864 + st * 2147483648) :
    fld w 30 26 = g26 ∧
    fld w 19 13 = g13 ∧
    fld w 7 0 = g0 ∧
    fld w 21 20 = g20 ∧
    fld w 12 8 = o0 ∧
    fld w 25 23 = p ∧
    fld w 22 22 = ng ∧
    fld w 31 31 = st := by
  subst e
  refine ⟨?_, ?_, ?_, ?_, ?_, ?_, ?_, ?_⟩ <;> (unfold fld; omega)

theorem fields48 (w o3 o2 g2 o1 o0 g13 g20 ng p g26 st : Nat)
    (ho3 : o3 < 2) (ho2 : o2 < 2) (hg2 : g2 < 2) (ho1 : o1 < 32) (ho0 : o0 < 32) (hg13 : g13 < 128) (hg20 : g20 < 4) (hng : ng < 2) (hp : p < 8) (hg26 : g26 < 32) (hst : st < 2)
    (e : w = o3 + o2 * 2 + g2 * 4 + o1 * 8 + o0 * 256 + g13 * 8192 + g20 * 1048576 + ng * 4194304 + p * 8388608 + g26 * 67108864 + st * 2147483648) :
    fld w 30 26 = g26 ∧
    fld w 19 13 = g13 ∧
    fld w 2 2 = g2 ∧
    fld w 21 20 = g20 ∧
    fld w 12 8 = o0 ∧
    fld w 7 3 = o1 ∧
    fld w 1 1 = o2 ∧
    fld w 0 0 = o3 ∧
    fld w 25 23 = p ∧
    fld w 22 22 = ng ∧
    fld w 31 31 = st := by
  subst e
  refine ⟨?_, ?_, ?_, ?_, ?_, ?_, ?_, ?_, ?_, ?_, ?_⟩ <;> (unfold fld; omega)

theorem fields49 (w o2 g2 o1 o0 g13 g20 ng p g26 st : Nat)
    (ho2 : o2 < 4) (hg2 : g2 < 2) (ho1 : o1 < 32) (ho0 : o0 < 32) (hg13 : g13 < 128) (hg20 : g20 < 4) (hng : ng < 2) (hp : p < 8) (hg26 : g26 < 32) (hst : st < 2)
    (e : w = o2 + g2 * 4 + o1 * 8 + o0 * 256 + g13 * 8192 + g20 * 1048576 + ng * 4194304 + p * 8388608 + g26 * 67108864 + st * 2147483648) :
    fld w 30 26 = g26 ∧
    fld w 19 13 = g13 ∧
    fld w 2 2 = g2 ∧
    fld w 21 20 = g20 ∧
    fld w 12 8 = o0 ∧
    fld w 7 3 = o1 ∧
    fld w 1 0 = o2 ∧
    fld w 25 23 = p ∧
    fld w 22 22 = ng ∧
    fld w 31 31 = st := by
  subst e
  refine ⟨?_, ?_, ?_, ?_, ?_, ?_, ?_, ?_, ?_, ?_⟩ <;> (unfold fld; omega)

theorem fields50 (w g0 o1 o0 g13 g20 ng p g26 st : Nat)
    (hg0 : g0 < 8) (ho1 : o1 < 32) (ho0 : o0 < 32) (hg13 : g13 < 128) (hg20 : g20 < 4) (hng : ng < 2) (hp : p < 8) (hg26 : g26 < 32) (hst : st < 2)
    (e : w = g0 + o1 * 8 + o0 * 256 + g13 * 8192 + g20 * 1048576 + ng * 4194304 + p * 8388608 + g26 * 67108864 + st * 2147483648) :
    fld w 30 26 = g26 ∧
    fld w 19 13 = g13 ∧
    fld w 2 0 = g0 ∧
    fld w 21 20 = g20 ∧
    fld w 12 8 = o0 ∧
    fld w 7 3 = o1 ∧
    fld w 25 23 = p ∧
    fld w 22 22 = ng ∧
    fld w 31 31 = st := by
  subst e
  refine ⟨?_, ?_, ?_, ?_, ?_, ?_, ?_, ?_, ?_⟩ <;> (unfold fld; omega)

theorem fields51 (w o2 o1 o0 g13 g20 ng p g26 st : Nat)
    (ho2 : o2 < 8) (ho1 : o1 < 32) (ho0 : o0 < 32) (hg13 : g13 < 128) (hg20 : g20 < 4) (hng : ng < 2) (hp : p < 8) (hg26 : g26 < 32) (hst : st < 2)
    (e : w = o2 + o1 * 8 + o0 * 256 + g13 * 8192 + g20 * 1048576 + ng * 4194304 + p * 8388608 + g26 * 67108864 + st * 2147483648) :
    fld w 30 26 = g26 ∧
    fld w 19 13 = g13 ∧
    fld w 21 20 = g20 ∧
    fld w 12 8 = o0 ∧
    fld w 7 3 = o1 ∧
    fld w 2 0 = o2 ∧
    fld w 25 23 = p ∧
    fld w 22 22 = ng ∧
    fld w 31 31 = st := by
  subst e
  refine ⟨?_, ?_, ?_, ?_, ?_, ?_, ?_, ?_, ?_⟩ <;> (unfold fld; omega)

end Sys2Proof.Laws
end

