-- ==== Sys2Proof/Laws/PerInstr.lean ====
section
/-! SUPPORT. The family RoundTrip: for each constructor of Instr, the decoder gives back every well-formed syllable that
the encoder writes for it. An event has no well-formed syllable. -/

-- one proof at a time
set_option Elab.async false

set_option linter.unusedSimpArgs false
set_option maxRecDepth 4000

namespace Sys2Proof.Laws.RoundTrip

/-- Decoding an encoded well-formed syllable with operation i gives the syllable back, whatever its shared fields are. -/
def Statement (i : Instr) : Prop :=
  ∀ (st ng sw tm : Bool) (p : Fin 8) (b : Fin 32), wellFormed ⟨st, p, ng, sw, tm, b, i⟩ = true →
    decodeWord (encode ⟨st, p, ng, sw, tm, b, i⟩) = .ok ⟨st, p, ng, sw, tm, b, i⟩

theorem add (d : Fin 32) (a : Fin 32) (b : Fin 32) : Statement (.add d a b) := by
  intro st ng sw tm p b_ hw_
  obtain ⟨ho, rfl, rfl, rfl, rfl, rfl⟩ := wf_scalar rfl hw_
  obtain ⟨f0, f1, f2, f3, f4, f5⟩ := fields0 (encode ⟨st, 0, false, false, false, 0, .add d a b⟩) 0 b.val a.val d.val 0 (b2n st)
    (by decide) b.isLt a.isLt d.isLt (by decide) (b2n_lt st)
    (show 0x00000000 + d.val * 2097152 + a.val * 65536 + b.val * 2048 + b2n st * 2147483648 + 0 * 8388608 + 0 * 4194304 + 0 * 2097152 + 0 * 1048576 + 0 * 8 = _ by omega)
  generalize encode _ = w at *
  simp only [decodeWord, decodeMaj00, sylS, f0, f1, f2, f3, f4, bit_of_fld _ f5, fin_self, and_self, true_and, and_true, not_true_eq_false, ite_false, ite_true, reduceIte, ne_eq, not_false_eq_true]

theorem sub (d : Fin 32) (a : Fin 32) (b : Fin 32) : Statement (.sub d a b) := by
  intro st ng sw tm p b_ hw_
  obtain ⟨ho, rfl, rfl, rfl, rfl, rfl⟩ := wf_scalar rfl hw_
  obtain ⟨f0, f1, f2, f3, f4, f5⟩ := fields0 (encode ⟨st, 0, false, false, false, 0, .sub d a b⟩) 1 b.val a.val d.val 0 (b2n st)
    (by decide) b.isLt a.isLt d.isLt (by decide) (b2n_lt st)
    (show 0x00000001 + d.val * 2097152 + a.val * 65536 + b.val * 2048 + b2n st * 2147483648 + 0 * 8388608 + 0 * 4194304 + 0 * 2097152 + 0 * 1048576 + 0 * 8 = _ by omega)
  generalize encode _ = w at *
  simp only [decodeWord, decodeMaj00, sylS, f0, f1, f2, f3, f4, bit_of_fld _ f5, fin_self, and_self, true_and, and_true, not_true_eq_false, ite_false, ite_true, reduceIte, ne_eq, not_false_eq_true]

theorem addw (d : Fin 32) (a : Fin 32) (b : Fin 32) : Statement (.addw d a b) := by
  intro st ng sw tm p b_ hw_
  obtain ⟨ho, rfl, rfl, rfl, rfl, rfl⟩ := wf_scalar rfl hw_
  obtain ⟨f0, f1, f2, f3, f4, f5⟩ := fields0 (encode ⟨st, 0, false, false, false, 0, .addw d a b⟩) 2 b.val a.val d.val 0 (b2n st)
    (by decide) b.isLt a.isLt d.isLt (by decide) (b2n_lt st)
    (show 0x00000002 + d.val * 2097152 + a.val * 65536 + b.val * 2048 + b2n st * 2147483648 + 0 * 8388608 + 0 * 4194304 + 0 * 2097152 + 0 * 1048576 + 0 * 8 = _ by omega)
  generalize encode _ = w at *
  simp only [decodeWord, decodeMaj00, sylS, f0, f1, f2, f3, f4, bit_of_fld _ f5, fin_self, and_self, true_and, and_true, not_true_eq_false, ite_false, ite_true, reduceIte, ne_eq, not_false_eq_true]

theorem subw (d : Fin 32) (a : Fin 32) (b : Fin 32) : Statement (.subw d a b) := by
  intro st ng sw tm p b_ hw_
  obtain ⟨ho, rfl, rfl, rfl, rfl, rfl⟩ := wf_scalar rfl hw_
  obtain ⟨f0, f1, f2, f3, f4, f5⟩ := fields0 (encode ⟨st, 0, false, false, false, 0, .subw d a b⟩) 3 b.val a.val d.val 0 (b2n st)
    (by decide) b.isLt a.isLt d.isLt (by decide) (b2n_lt st)
    (show 0x00000003 + d.val * 2097152 + a.val * 65536 + b.val * 2048 + b2n st * 2147483648 + 0 * 8388608 + 0 * 4194304 + 0 * 2097152 + 0 * 1048576 + 0 * 8 = _ by omega)
  generalize encode _ = w at *
  simp only [decodeWord, decodeMaj00, sylS, f0, f1, f2, f3, f4, bit_of_fld _ f5, fin_self, and_self, true_and, and_true, not_true_eq_false, ite_false, ite_true, reduceIte, ne_eq, not_false_eq_true]

theorem and (d : Fin 32) (a : Fin 32) (b : Fin 32) : Statement (.and d a b) := by
  intro st ng sw tm p b_ hw_
  obtain ⟨ho, rfl, rfl, rfl, rfl, rfl⟩ := wf_scalar rfl hw_
  obtain ⟨f0, f1, f2, f3, f4, f5⟩ := fields0 (encode ⟨st, 0, false, false, false, 0, .and d a b⟩) 4 b.val a.val d.val 0 (b2n st)
    (by decide) b.isLt a.isLt d.isLt (by decide) (b2n_lt st)
    (show 0x00000004 + d.val * 2097152 + a.val * 65536 + b.val * 2048 + b2n st * 2147483648 + 0 * 8388608 + 0 * 4194304 + 0 * 2097152 + 0 * 1048576 + 0 * 8 = _ by omega)
  generalize encode _ = w at *
  simp only [decodeWord, decodeMaj00, sylS, f0, f1, f2, f3, f4, bit_of_fld _ f5, fin_self, and_self, true_and, and_true, not_true_eq_false, ite_false, ite_true, reduceIte, ne_eq, not_false_eq_true]

theorem or (d : Fin 32) (a : Fin 32) (b : Fin 32) : Statement (.or d a b) := by
  intro st ng sw tm p b_ hw_
  obtain ⟨ho, rfl, rfl, rfl, rfl, rfl⟩ := wf_scalar rfl hw_
  obtain ⟨f0, f1, f2, f3, f4, f5⟩ := fields0 (encode ⟨st, 0, false, false, false, 0, .or d a b⟩) 5 b.val a.val d.val 0 (b2n st)
    (by decide) b.isLt a.isLt d.isLt (by decide) (b2n_lt st)
    (show 0x00000005 + d.val * 2097152 + a.val * 65536 + b.val * 2048 + b2n st * 2147483648 + 0 * 8388608 + 0 * 4194304 + 0 * 2097152 + 0 * 1048576 + 0 * 8 = _ by omega)
  generalize encode _ = w at *
  simp only [decodeWord, decodeMaj00, sylS, f0, f1, f2, f3, f4, bit_of_fld _ f5, fin_self, and_self, true_and, and_true, not_true_eq_false, ite_false, ite_true, reduceIte, ne_eq, not_false_eq_true]

theorem xor (d : Fin 32) (a : Fin 32) (b : Fin 32) : Statement (.xor d a b) := by
  intro st ng sw tm p b_ hw_
  obtain ⟨ho, rfl, rfl, rfl, rfl, rfl⟩ := wf_scalar rfl hw_
  obtain ⟨f0, f1, f2, f3, f4, f5⟩ := fields0 (encode ⟨st, 0, false, false, false, 0, .xor d a b⟩) 6 b.val a.val d.val 0 (b2n st)
    (by decide) b.isLt a.isLt d.isLt (by decide) (b2n_lt st)
    (show 0x00000006 + d.val * 2097152 + a.val * 65536 + b.val * 2048 + b2n st * 2147483648 + 0 * 8388608 + 0 * 4194304 + 0 * 2097152 + 0 * 1048576 + 0 * 8 = _ by omega)
  generalize encode _ = w at *
  simp only [decodeWord, decodeMaj00, sylS, f0, f1, f2, f3, f4, bit_of_fld _ f5, fin_self, and_self, true_and, and_true, not_true_eq_false, ite_false, ite_true, reduceIte, ne_eq, not_false_eq_true]

theorem andn (d : Fin 32) (a : Fin 32) (b : Fin 32) : Statement (.andn d a b) := by
  intro st ng sw tm p b_ hw_
  obtain ⟨ho, rfl, rfl, rfl, rfl, rfl⟩ := wf_scalar rfl hw_
  obtain ⟨f0, f1, f2, f3, f4, f5⟩ := fields0 (encode ⟨st, 0, false, false, false, 0, .andn d a b⟩) 7 b.val a.val d.val 0 (b2n st)
    (by decide) b.isLt a.isLt d.isLt (by decide) (b2n_lt st)
    (show 0x00000007 + d.val * 2097152 + a.val * 65536 + b.val * 2048 + b2n st * 2147483648 + 0 * 8388608 + 0 * 4194304 + 0 * 2097152 + 0 * 1048576 + 0 * 8 = _ by omega)
  generalize encode _ = w at *
  simp only [decodeWord, decodeMaj00, sylS, f0, f1, f2, f3, f4, bit_of_fld _ f5, fin_self, and_self, true_and, and_true, not_true_eq_false, ite_false, ite_true, reduceIte, ne_eq, not_false_eq_true]

theorem orn (d : Fin 32) (a : Fin 32) (b : Fin 32) : Statement (.orn d a b) := by
  intro st ng sw tm p b_ hw_
  obtain ⟨ho, rfl, rfl, rfl, rfl, rfl⟩ := wf_scalar rfl hw_
  obtain ⟨f0, f1, f2, f3, f4, f5⟩ := fields0 (encode ⟨st, 0, false, false, false, 0, .orn d a b⟩) 8 b.val a.val d.val 0 (b2n st)
    (by decide) b.isLt a.isLt d.isLt (by decide) (b2n_lt st)
    (show 0x00000008 + d.val * 2097152 + a.val * 65536 + b.val * 2048 + b2n st * 2147483648 + 0 * 8388608 + 0 * 4194304 + 0 * 2097152 + 0 * 1048576 + 0 * 8 = _ by omega)
  generalize encode _ = w at *
  simp only [decodeWord, decodeMaj00, sylS, f0, f1, f2, f3, f4, bit_of_fld _ f5, fin_self, and_self, true_and, and_true, not_true_eq_false, ite_false, ite_true, reduceIte, ne_eq, not_false_eq_true]

theorem shl (d : Fin 32) (a : Fin 32) (b : Fin 32) : Statement (.shl d a b) := by
  intro st ng sw tm p b_ hw_
  obtain ⟨ho, rfl, rfl, rfl, rfl, rfl⟩ := wf_scalar rfl hw_
  obtain ⟨f0, f1, f2, f3, f4, f5⟩ := fields0 (encode ⟨st, 0, false, false, false, 0, .shl d a b⟩) 9 b.val a.val d.val 0 (b2n st)
    (by decide) b.isLt a.isLt d.isLt (by decide) (b2n_lt st)
    (show 0x00000009 + d.val * 2097152 + a.val * 65536 + b.val * 2048 + b2n st * 2147483648 + 0 * 8388608 + 0 * 4194304 + 0 * 2097152 + 0 * 1048576 + 0 * 8 = _ by omega)
  generalize encode _ = w at *
  simp only [decodeWord, decodeMaj00, sylS, f0, f1, f2, f3, f4, bit_of_fld _ f5, fin_self, and_self, true_and, and_true, not_true_eq_false, ite_false, ite_true, reduceIte, ne_eq, not_false_eq_true]

theorem shr (d : Fin 32) (a : Fin 32) (b : Fin 32) : Statement (.shr d a b) := by
  intro st ng sw tm p b_ hw_
  obtain ⟨ho, rfl, rfl, rfl, rfl, rfl⟩ := wf_scalar rfl hw_
  obtain ⟨f0, f1, f2, f3, f4, f5⟩ := fields0 (encode ⟨st, 0, false, false, false, 0, .shr d a b⟩) 10 b.val a.val d.val 0 (b2n st)
    (by decide) b.isLt a.isLt d.isLt (by decide) (b2n_lt st)
    (show 0x0000000A + d.val * 2097152 + a.val * 65536 + b.val * 2048 + b2n st * 2147483648 + 0 * 8388608 + 0 * 4194304 + 0 * 2097152 + 0 * 1048576 + 0 * 8 = _ by omega)
  generalize encode _ = w at *
  simp only [decodeWord, decodeMaj00, sylS, f0, f1, f2, f3, f4, bit_of_fld _ f5, fin_self, and_self, true_and, and_true, not_true_eq_false, ite_false, ite_true, reduceIte, ne_eq, not_false_eq_true]

theorem sar (d : Fin 32) (a : Fin 32) (b : Fin 32) : Statement (.sar d a b) := by
  intro st ng sw tm p b_ hw_
  obtain ⟨ho, rfl, rfl, rfl, rfl, rfl⟩ := wf_scalar rfl hw_
  obtain ⟨f0, f1, f2, f3, f4, f5⟩ := fields0 (encode ⟨st, 0, false, false, false, 0, .sar d a b⟩) 11 b.val a.val d.val 0 (b2n st)
    (by decide) b.isLt a.isLt d.isLt (by decide) (b2n_lt st)
    (show 0x0000000B + d.val * 2097152 + a.val * 65536 + b.val * 2048 + b2n st * 2147483648 + 0 * 8388608 + 0 * 4194304 + 0 * 2097152 + 0 * 1048576 + 0 * 8 = _ by omega)
  generalize encode _ = w at *
  simp only [decodeWord, decodeMaj00, sylS, f0, f1, f2, f3, f4, bit_of_fld _ f5, fin_self, and_self, true_and, and_true, not_true_eq_false, ite_false, ite_true, reduceIte, ne_eq, not_false_eq_true]

theorem rotl (d : Fin 32) (a : Fin 32) (b : Fin 32) : Statement (.rotl d a b) := by
  intro st ng sw tm p b_ hw_
  obtain ⟨ho, rfl, rfl, rfl, rfl, rfl⟩ := wf_scalar rfl hw_
  obtain ⟨f0, f1, f2, f3, f4, f5⟩ := fields0 (encode ⟨st, 0, false, false, false, 0, .rotl d a b⟩) 12 b.val a.val d.val 0 (b2n st)
    (by decide) b.isLt a.isLt d.isLt (by decide) (b2n_lt st)
    (show 0x0000000C + d.val * 2097152 + a.val * 65536 + b.val * 2048 + b2n st * 2147483648 + 0 * 8388608 + 0 * 4194304 + 0 * 2097152 + 0 * 1048576 + 0 * 8 = _ by omega)
  generalize encode _ = w at *
  simp only [decodeWord, decodeMaj00, sylS, f0, f1, f2, f3, f4, bit_of_fld _ f5, fin_self, and_self, true_and, and_true, not_true_eq_false, ite_false, ite_true, reduceIte, ne_eq, not_false_eq_true]

theorem min (d : Fin 32) (a : Fin 32) (b : Fin 32) : Statement (.min d a b) := by
  intro st ng sw tm p b_ hw_
  obtain ⟨ho, rfl, rfl, rfl, rfl, rfl⟩ := wf_scalar rfl hw_
  obtain ⟨f0, f1, f2, f3, f4, f5⟩ := fields0 (encode ⟨st, 0, false, false, false, 0, .min d a b⟩) 13 b.val a.val d.val 0 (b2n st)
    (by decide) b.isLt a.isLt d.isLt (by decide) (b2n_lt st)
    (show 0x0000000D + d.val * 2097152 + a.val * 65536 + b.val * 2048 + b2n st * 2147483648 + 0 * 8388608 + 0 * 4194304 + 0 * 2097152 + 0 * 1048576 + 0 * 8 = _ by omega)
  generalize encode _ = w at *
  simp only [decodeWord, decodeMaj00, sylS, f0, f1, f2, f3, f4, bit_of_fld _ f5, fin_self, and_self, true_and, and_true, not_true_eq_false, ite_false, ite_true, reduceIte, ne_eq, not_false_eq_true]

theorem max (d : Fin 32) (a : Fin 32) (b : Fin 32) : Statement (.max d a b) := by
  intro st ng sw tm p b_ hw_
  obtain ⟨ho, rfl, rfl, rfl, rfl, rfl⟩ := wf_scalar rfl hw_
  obtain ⟨f0, f1, f2, f3, f4, f5⟩ := fields0 (encode ⟨st, 0, false, false, false, 0, .max d a b⟩) 14 b.val a.val d.val 0 (b2n st)
    (by decide) b.isLt a.isLt d.isLt (by decide) (b2n_lt st)
    (show 0x0000000E + d.val * 2097152 + a.val * 65536 + b.val * 2048 + b2n st * 2147483648 + 0 * 8388608 + 0 * 4194304 + 0 * 2097152 + 0 * 1048576 + 0 * 8 = _ by omega)
  generalize encode _ = w at *
  simp only [decodeWord, decodeMaj00, sylS, f0, f1, f2, f3, f4, bit_of_fld _ f5, fin_self, and_self, true_and, and_true, not_true_eq_false, ite_false, ite_true, reduceIte, ne_eq, not_false_eq_true]

theorem minn (d : Fin 32) (a : Fin 32) (b : Fin 32) : Statement (.minn d a b) := by
  intro st ng sw tm p b_ hw_
  obtain ⟨ho, rfl, rfl, rfl, rfl, rfl⟩ := wf_scalar rfl hw_
  obtain ⟨f0, f1, f2, f3, f4, f5⟩ := fields0 (encode ⟨st, 0, false, false, false, 0, .minn d a b⟩) 15 b.val a.val d.val 0 (b2n st)
    (by decide) b.isLt a.isLt d.isLt (by decide) (b2n_lt st)
    (show 0x0000000F + d.val * 2097152 + a.val * 65536 + b.val * 2048 + b2n st * 2147483648 + 0 * 8388608 + 0 * 4194304 + 0 * 2097152 + 0 * 1048576 + 0 * 8 = _ by omega)
  generalize encode _ = w at *
  simp only [decodeWord, decodeMaj00, sylS, f0, f1, f2, f3, f4, bit_of_fld _ f5, fin_self, and_self, true_and, and_true, not_true_eq_false, ite_false, ite_true, reduceIte, ne_eq, not_false_eq_true]

theorem maxn (d : Fin 32) (a : Fin 32) (b : Fin 32) : Statement (.maxn d a b) := by
  intro st ng sw tm p b_ hw_
  obtain ⟨ho, rfl, rfl, rfl, rfl, rfl⟩ := wf_scalar rfl hw_
  obtain ⟨f0, f1, f2, f3, f4, f5⟩ := fields0 (encode ⟨st, 0, false, false, false, 0, .maxn d a b⟩) 16 b.val a.val d.val 0 (b2n st)
    (by decide) b.isLt a.isLt d.isLt (by decide) (b2n_lt st)
    (show 0x00000010 + d.val * 2097152 + a.val * 65536 + b.val * 2048 + b2n st * 2147483648 + 0 * 8388608 + 0 * 4194304 + 0 * 2097152 + 0 * 1048576 + 0 * 8 = _ by omega)
  generalize encode _ = w at *
  simp only [decodeWord, decodeMaj00, sylS, f0, f1, f2, f3, f4, bit_of_fld _ f5, fin_self, and_self, true_and, and_true, not_true_eq_false, ite_false, ite_true, reduceIte, ne_eq, not_false_eq_true]

theorem sextB (d : Fin 32) (a : Fin 32) : Statement (.sextB d a) := by
  intro st ng sw tm p b_ hw_
  obtain ⟨ho, rfl, rfl, rfl, rfl, rfl⟩ := wf_scalar rfl hw_
  obtain ⟨f0, f1, f2, f3, f4, f5⟩ := fields1 (encode ⟨st, 0, false, false, false, 0, .sextB d a⟩) 17 0 a.val d.val 0 (b2n st)
    (by decide) (by decide) a.isLt d.isLt (by decide) (b2n_lt st)
    (show 0x00000011 + d.val * 2097152 + a.val * 65536 + b2n st * 2147483648 + 0 * 8388608 + 0 * 4194304 + 0 * 2097152 + 0 * 1048576 + 0 * 8 = _ by omega)
  generalize encode _ = w at *
  simp only [decodeWord, decodeMaj00, sylS, f0, f1, f2, f3, f4, bit_of_fld _ f5, fin_self, and_self, true_and, and_true, not_true_eq_false, ite_false, ite_true, reduceIte, ne_eq, not_false_eq_true]

theorem sextH (d : Fin 32) (a : Fin 32) : Statement (.sextH d a) := by
  intro st ng sw tm p b_ hw_
  obtain ⟨ho, rfl, rfl, rfl, rfl, rfl⟩ := wf_scalar rfl hw_
  obtain ⟨f0, f1, f2, f3, f4, f5⟩ := fields1 (encode ⟨st, 0, false, false, false, 0, .sextH d a⟩) 18 0 a.val d.val 0 (b2n st)
    (by decide) (by decide) a.isLt d.isLt (by decide) (b2n_lt st)
    (show 0x00000012 + d.val * 2097152 + a.val * 65536 + b2n st * 2147483648 + 0 * 8388608 + 0 * 4194304 + 0 * 2097152 + 0 * 1048576 + 0 * 8 = _ by omega)
  generalize encode _ = w at *
  simp only [decodeWord, decodeMaj00, sylS, f0, f1, f2, f3, f4, bit_of_fld _ f5, fin_self, and_self, true_and, and_true, not_true_eq_false, ite_false, ite_true, reduceIte, ne_eq, not_false_eq_true]

theorem sextW (d : Fin 32) (a : Fin 32) : Statement (.sextW d a) := by
  intro st ng sw tm p b_ hw_
  obtain ⟨ho, rfl, rfl, rfl, rfl, rfl⟩ := wf_scalar rfl hw_
  obtain ⟨f0, f1, f2, f3, f4, f5⟩ := fields1 (encode ⟨st, 0, false, false, false, 0, .sextW d a⟩) 19 0 a.val d.val 0 (b2n st)
    (by decide) (by decide) a.isLt d.isLt (by decide) (b2n_lt st)
    (show 0x00000013 + d.val * 2097152 + a.val * 65536 + b2n st * 2147483648 + 0 * 8388608 + 0 * 4194304 + 0 * 2097152 + 0 * 1048576 + 0 * 8 = _ by omega)
  generalize encode _ = w at *
  simp only [decodeWord, decodeMaj00, sylS, f0, f1, f2, f3, f4, bit_of_fld _ f5, fin_self, and_self, true_and, and_true, not_true_eq_false, ite_false, ite_true, reduceIte, ne_eq, not_false_eq_true]

theorem zextB (d : Fin 32) (a : Fin 32) : Statement (.zextB d a) := by
  intro st ng sw tm p b_ hw_
  obtain ⟨ho, rfl, rfl, rfl, rfl, rfl⟩ := wf_scalar rfl hw_
  obtain ⟨f0, f1, f2, f3, f4, f5⟩ := fields1 (encode ⟨st, 0, false, false, false, 0, .zextB d a⟩) 20 0 a.val d.val 0 (b2n st)
    (by decide) (by decide) a.isLt d.isLt (by decide) (b2n_lt st)
    (show 0x00000014 + d.val * 2097152 + a.val * 65536 + b2n st * 2147483648 + 0 * 8388608 + 0 * 4194304 + 0 * 2097152 + 0 * 1048576 + 0 * 8 = _ by omega)
  generalize encode _ = w at *
  simp only [decodeWord, decodeMaj00, sylS, f0, f1, f2, f3, f4, bit_of_fld _ f5, fin_self, and_self, true_and, and_true, not_true_eq_false, ite_false, ite_true, reduceIte, ne_eq, not_false_eq_true]

theorem zextH (d : Fin 32) (a : Fin 32) : Statement (.zextH d a) := by
  intro st ng sw tm p b_ hw_
  obtain ⟨ho, rfl, rfl, rfl, rfl, rfl⟩ := wf_scalar rfl hw_
  obtain ⟨f0, f1, f2, f3, f4, f5⟩ := fields1 (encode ⟨st, 0, false, false, false, 0, .zextH d a⟩) 21 0 a.val d.val 0 (b2n st)
    (by decide) (by decide) a.isLt d.isLt (by decide) (b2n_lt st)
    (show 0x00000015 + d.val * 2097152 + a.val * 65536 + b2n st * 2147483648 + 0 * 8388608 + 0 * 4194304 + 0 * 2097152 + 0 * 1048576 + 0 * 8 = _ by omega)
  generalize encode _ = w at *
  simp only [decodeWord, decodeMaj00, sylS, f0, f1, f2, f3, f4, bit_of_fld _ f5, fin_self, and_self, true_and, and_true, not_true_eq_false, ite_false, ite_true, reduceIte, ne_eq, not_false_eq_true]

theorem zextW (d : Fin 32) (a : Fin 32) : Statement (.zextW d a) := by
  intro st ng sw tm p b_ hw_
  obtain ⟨ho, rfl, rfl, rfl, rfl, rfl⟩ := wf_scalar rfl hw_
  obtain ⟨f0, f1, f2, f3, f4, f5⟩ := fields1 (encode ⟨st, 0, false, false, false, 0, .zextW d a⟩) 22 0 a.val d.val 0 (b2n st)
    (by decide) (by decide) a.isLt d.isLt (by decide) (b2n_lt st)
    (show 0x00000016 + d.val * 2097152 + a.val * 65536 + b2n st * 2147483648 + 0 * 8388608 + 0 * 4194304 + 0 * 2097152 + 0 * 1048576 + 0 * 8 = _ by omega)
  generalize encode _ = w at *
  simp only [decodeWord, decodeMaj00, sylS, f0, f1, f2, f3, f4, bit_of_fld _ f5, fin_self, and_self, true_and, and_true, not_true_eq_false, ite_false, ite_true, reduceIte, ne_eq, not_false_eq_true]

theorem addi (d : Fin 32) (a : Fin 32) (im : BitVec 16) : Statement (.addi d a im) := by
  intro st ng sw tm p b_ hw_
  obtain ⟨ho, rfl, rfl, rfl, rfl, rfl⟩ := wf_scalar rfl hw_
  obtain ⟨f0, f1, f2, f3, f4⟩ := fields2 (encode ⟨st, 0, false, false, false, 0, .addi d a im⟩) im.toNat a.val d.val 1 (b2n st)
    im.isLt a.isLt d.isLt (by decide) (b2n_lt st)
    (show 0x04000000 + d.val * 2097152 + a.val * 65536 + im.toNat + b2n st * 2147483648 + 0 * 8388608 + 0 * 4194304 + 0 * 2097152 + 0 * 1048576 + 0 * 8 = _ by omega)
  generalize encode _ = w at *
  simp only [decodeWord, decodeMaj01, sylS, f0, f1, f2, f3, bit_of_fld _ f4, fin_self, bv_self, and_self, true_and, and_true, not_true_eq_false, ite_false, ite_true, reduceIte, ne_eq, not_false_eq_true]

theorem andi (d : Fin 32) (a : Fin 32) (im : BitVec 14) : Statement (.andi d a im) := by
  intro st ng sw tm p b_ hw_
  obtain ⟨ho, rfl, rfl, rfl, rfl, rfl⟩ := wf_scalar rfl hw_
  obtain ⟨f0, f1, f2, f3, f4, f5⟩ := fields3 (encode ⟨st, 0, false, false, false, 0, .andi d a im⟩) im.toNat 0 a.val d.val 2 (b2n st)
    im.isLt (by decide) a.isLt d.isLt (by decide) (b2n_lt st)
    (show 0x08000000 + d.val * 2097152 + a.val * 65536 + im.toNat + b2n st * 2147483648 + 0 * 8388608 + 0 * 4194304 + 0 * 2097152 + 0 * 1048576 + 0 * 8 = _ by omega)
  generalize encode _ = w at *
  simp only [decodeWord, decodeMaj02, sylS, f0, f1, f2, f3, f4, bit_of_fld _ f5, fin_self, bv_self, and_self, true_and, and_true, not_true_eq_false, ite_false, ite_true, reduceIte, ne_eq, not_false_eq_true]

theorem ori (d : Fin 32) (a : Fin 32) (im : BitVec 14) : Statement (.ori d a im) := by
  intro st ng sw tm p b_ hw_
  obtain ⟨ho, rfl, rfl, rfl, rfl, rfl⟩ := wf_scalar rfl hw_
  obtain ⟨f0, f1, f2, f3, f4, f5⟩ := fields3 (encode ⟨st, 0, false, false, false, 0, .ori d a im⟩) im.toNat 1 a.val d.val 2 (b2n st)
    im.isLt (by decide) a.isLt d.isLt (by decide) (b2n_lt st)
    (show 0x08004000 + d.val * 2097152 + a.val * 65536 + im.toNat + b2n st * 2147483648 + 0 * 8388608 + 0 * 4194304 + 0 * 2097152 + 0 * 1048576 + 0 * 8 = _ by omega)
  generalize encode _ = w at *
  simp only [decodeWord, decodeMaj02, sylS, f0, f1, f2, f3, f4, bit_of_fld _ f5, fin_self, bv_self, and_self, true_and, and_true, not_true_eq_false, ite_false, ite_true, reduceIte, ne_eq, not_false_eq_true]

theorem xori (d : Fin 32) (a : Fin 32) (im : BitVec 14) : Statement (.xori d a im) := by
  intro st ng sw tm p b_ hw_
  obtain ⟨ho, rfl, rfl, rfl, rfl, rfl⟩ := wf_scalar rfl hw_
  obtain ⟨f0, f1, f2, f3, f4, f5⟩ := fields3 (encode ⟨st, 0, false, false, false, 0, .xori d a im⟩) im.toNat 2 a.val d.val 2 (b2n st)
    im.isLt (by decide) a.isLt d.isLt (by decide) (b2n_lt st)
    (show 0x08008000 + d.val * 2097152 + a.val * 65536 + im.toNat + b2n st * 2147483648 + 0 * 8388608 + 0 * 4194304 + 0 * 2097152 + 0 * 1048576 + 0 * 8 = _ by omega)
  generalize encode _ = w at *
  simp only [decodeWord, decodeMaj02, sylS, f0, f1, f2, f3, f4, bit_of_fld _ f5, fin_self, bv_self, and_self, true_and, and_true, not_true_eq_false, ite_false, ite_true, reduceIte, ne_eq, not_false_eq_true]

theorem shli (d : Fin 32) (a : Fin 32) (n : BitVec 6) : Statement (.shli d a n) := by
  intro st ng sw tm p b_ hw_
  obtain ⟨ho, rfl, rfl, rfl, rfl, rfl⟩ := wf_scalar rfl hw_
  obtain ⟨f0, f1, f2, f3, f4, f5, f6⟩ := fields4 (encode ⟨st, 0, false, false, false, 0, .shli d a n⟩) n.toNat 0 0 a.val d.val 3 (b2n st)
    n.isLt (by decide) (by decide) a.isLt d.isLt (by decide) (b2n_lt st)
    (show 0x0C000000 + d.val * 2097152 + a.val * 65536 + n.toNat + b2n st * 2147483648 + 0 * 8388608 + 0 * 4194304 + 0 * 2097152 + 0 * 1048576 + 0 * 8 = _ by omega)
  generalize encode _ = w at *
  simp only [decodeWord, decodeMaj03, sylS, f0, f1, f2, f3, f4, f5, bit_of_fld _ f6, fin_self, bv_self, and_self, true_and, and_true, not_true_eq_false, ite_false, ite_true, reduceIte, ne_eq, not_false_eq_true]

theorem shri (d : Fin 32) (a : Fin 32) (n : BitVec 6) : Statement (.shri d a n) := by
  intro st ng sw tm p b_ hw_
  obtain ⟨ho, rfl, rfl, rfl, rfl, rfl⟩ := wf_scalar rfl hw_
  obtain ⟨f0, f1, f2, f3, f4, f5, f6⟩ := fields4 (encode ⟨st, 0, false, false, false, 0, .shri d a n⟩) n.toNat 1 0 a.val d.val 3 (b2n st)
    n.isLt (by decide) (by decide) a.isLt d.isLt (by decide) (b2n_lt st)
    (show 0x0C000040 + d.val * 2097152 + a.val * 65536 + n.toNat + b2n st * 2147483648 + 0 * 8388608 + 0 * 4194304 + 0 * 2097152 + 0 * 1048576 + 0 * 8 = _ by omega)
  generalize encode _ = w at *
  simp only [decodeWord, decodeMaj03, sylS, f0, f1, f2, f3, f4, f5, bit_of_fld _ f6, fin_self, bv_self, and_self, true_and, and_true, not_true_eq_false, ite_false, ite_true, reduceIte, ne_eq, not_false_eq_true]

theorem sari (d : Fin 32) (a : Fin 32) (n : BitVec 6) : Statement (.sari d a n) := by
  intro st ng sw tm p b_ hw_
  obtain ⟨ho, rfl, rfl, rfl, rfl, rfl⟩ := wf_scalar rfl hw_
  obtain ⟨f0, f1, f2, f3, f4, f5, f6⟩ := fields4 (encode ⟨st, 0, false, false, false, 0, .sari d a n⟩) n.toNat 2 0 a.val d.val 3 (b2n st)
    n.isLt (by decide) (by decide) a.isLt d.isLt (by decide) (b2n_lt st)
    (show 0x0C000080 + d.val * 2097152 + a.val * 65536 + n.toNat + b2n st * 2147483648 + 0 * 8388608 + 0 * 4194304 + 0 * 2097152 + 0 * 1048576 + 0 * 8 = _ by omega)
  generalize encode _ = w at *
  simp only [decodeWord, decodeMaj03, sylS, f0, f1, f2, f3, f4, f5, bit_of_fld _ f6, fin_self, bv_self, and_self, true_and, and_true, not_true_eq_false, ite_false, ite_true, reduceIte, ne_eq, not_false_eq_true]

theorem rotli (d : Fin 32) (a : Fin 32) (n : BitVec 6) : Statement (.rotli d a n) := by
  intro st ng sw tm p b_ hw_
  obtain ⟨ho, rfl, rfl, rfl, rfl, rfl⟩ := wf_scalar rfl hw_
  obtain ⟨f0, f1, f2, f3, f4, f5, f6⟩ := fields4 (encode ⟨st, 0, false, false, false, 0, .rotli d a n⟩) n.toNat 3 0 a.val d.val 3 (b2n st)
    n.isLt (by decide) (by decide) a.isLt d.isLt (by decide) (b2n_lt st)
    (show 0x0C0000C0 + d.val * 2097152 + a.val * 65536 + n.toNat + b2n st * 2147483648 + 0 * 8388608 + 0 * 4194304 + 0 * 2097152 + 0 * 1048576 + 0 * 8 = _ by omega)
  generalize encode _ = w at *
  simp only [decodeWord, decodeMaj03, sylS, f0, f1, f2, f3, f4, f5, bit_of_fld _ f6, fin_self, bv_self, and_self, true_and, and_true, not_true_eq_false, ite_false, ite_true, reduceIte, ne_eq, not_false_eq_true]

theorem movi (d : Fin 32) (h : Fin 4) (im : BitVec 16) : Statement (.movi d h im) := by
  intro st ng sw tm p b_ hw_
  obtain ⟨ho, rfl, rfl, rfl, rfl, rfl⟩ := wf_scalar rfl hw_
  obtain ⟨f0, f1, f2, f3, f4, f5, f6⟩ := fields5 (encode ⟨st, 0, false, false, false, 0, .movi d h im⟩) im.toNat 0 0 h.val d.val 4 (b2n st)
    im.isLt (by decide) (by decide) h.isLt d.isLt (by decide) (b2n_lt st)
    (show 0x10000000 + d.val * 2097152 + h.val * 524288 + im.toNat + b2n st * 2147483648 + 0 * 8388608 + 0 * 4194304 + 0 * 2097152 + 0 * 1048576 + 0 * 8 = _ by omega)
  generalize encode _ = w at *
  simp only [decodeWord, decodeMaj04, sylS, f0, f1, f2, f3, f4, f5, bit_of_fld _ f6, fin_self, bv_self, and_self, true_and, and_true, not_true_eq_false, ite_false, ite_true, reduceIte, ne_eq, not_false_eq_true]

theorem movk (d : Fin 32) (h : Fin 4) (im : BitVec 16) : Statement (.movk d h im) := by
  intro st ng sw tm p b_ hw_
  obtain ⟨ho, rfl, rfl, rfl, rfl, rfl⟩ := wf_scalar rfl hw_
  obtain ⟨f0, f1, f2, f3, f4, f5, f6⟩ := fields5 (encode ⟨st, 0, false, false, false, 0, .movk d h im⟩) im.toNat 0 1 h.val d.val 4 (b2n st)
    im.isLt (by decide) (by decide) h.isLt d.isLt (by decide) (b2n_lt st)
    (show 0x10040000 + d.val * 2097152 + h.val * 524288 + im.toNat + b2n st * 2147483648 + 0 * 8388608 + 0 * 4194304 + 0 * 2097152 + 0 * 1048576 + 0 * 8 = _ by omega)
  generalize encode _ = w at *
  simp only [decodeWord, decodeMaj04, sylS, f0, f1, f2, f3, f4, f5, bit_of_fld _ f6, fin_self, bv_self, and_self, true_and, and_true, not_true_eq_false, ite_false, ite_true, reduceIte, ne_eq, not_false_eq_true]

theorem cmpeq (pd : Fin 8) (a : Fin 32) (b : Fin 32) : Statement (.cmpeq pd a b) := by
  intro st ng sw tm p b_ hw_
  obtain ⟨ho, rfl, rfl, rfl, rfl, rfl⟩ := wf_scalar rfl hw_
  obtain ⟨f0, f1, f2, f3, f4, f5, f6⟩ := fields6 (encode ⟨st, 0, false, false, false, 0, .cmpeq pd a b⟩) 0 b.val a.val 0 pd.val 5 (b2n st)
    (by decide) b.isLt a.isLt (by decide) pd.isLt (by decide) (b2n_lt st)
    (show 0x14000000 + pd.val * 8388608 + a.val * 65536 + b.val * 2048 + b2n st * 2147483648 + 0 * 8388608 + 0 * 4194304 + 0 * 2097152 + 0 * 1048576 + 0 * 8 = _ by omega)
  generalize encode _ = w at *
  simp only [decodeWord, decodeMaj05, sylS, f0, f1, f2, f3, f4, f5, bit_of_fld _ f6, fin_self, and_self, true_and, and_true, not_true_eq_false, ite_false, ite_true, reduceIte, ne_eq, not_false_eq_true]

theorem cmpne (pd : Fin 8) (a : Fin 32) (b : Fin 32) : Statement (.cmpne pd a b) := by
  intro st ng sw tm p b_ hw_
  obtain ⟨ho, rfl, rfl, rfl, rfl, rfl⟩ := wf_scalar rfl hw_
  obtain ⟨f0, f1, f2, f3, f4, f5, f6⟩ := fields6 (encode ⟨st, 0, false, false, false, 0, .cmpne pd a b⟩) 1 b.val a.val 0 pd.val 5 (b2n st)
    (by decide) b.isLt a.isLt (by decide) pd.isLt (by decide) (b2n_lt st)
    (show 0x14000001 + pd.val * 8388608 + a.val * 65536 + b.val * 2048 + b2n st * 2147483648 + 0 * 8388608 + 0 * 4194304 + 0 * 2097152 + 0 * 1048576 + 0 * 8 = _ by omega)
  generalize encode _ = w at *
  simp only [decodeWord, decodeMaj05, sylS, f0, f1, f2, f3, f4, f5, bit_of_fld _ f6, fin_self, and_self, true_and, and_true, not_true_eq_false, ite_false, ite_true, reduceIte, ne_eq, not_false_eq_true]

theorem cmplt (pd : Fin 8) (a : Fin 32) (b : Fin 32) : Statement (.cmplt pd a b) := by
  intro st ng sw tm p b_ hw_
  obtain ⟨ho, rfl, rfl, rfl, rfl, rfl⟩ := wf_scalar rfl hw_
  obtain ⟨f0, f1, f2, f3, f4, f5, f6⟩ := fields6 (encode ⟨st, 0, false, false, false, 0, .cmplt pd a b⟩) 2 b.val a.val 0 pd.val 5 (b2n st)
    (by decide) b.isLt a.isLt (by decide) pd.isLt (by decide) (b2n_lt st)
    (show 0x14000002 + pd.val * 8388608 + a.val * 65536 + b.val * 2048 + b2n st * 2147483648 + 0 * 8388608 + 0 * 4194304 + 0 * 2097152 + 0 * 1048576 + 0 * 8 = _ by omega)
  generalize encode _ = w at *
  simp only [decodeWord, decodeMaj05, sylS, f0, f1, f2, f3, f4, f5, bit_of_fld _ f6, fin_self, and_self, true_and, and_true, not_true_eq_false, ite_false, ite_true, reduceIte, ne_eq, not_false_eq_true]

theorem cmple (pd : Fin 8) (a : Fin 32) (b : Fin 32) : Statement (.cmple pd a b) := by
  intro st ng sw tm p b_ hw_
  obtain ⟨ho, rfl, rfl, rfl, rfl, rfl⟩ := wf_scalar rfl hw_
  obtain ⟨f0, f1, f2, f3, f4, f5, f6⟩ := fields6 (encode ⟨st, 0, false, false, false, 0, .cmple pd a b⟩) 3 b.val a.val 0 pd.val 5 (b2n st)
    (by decide) b.isLt a.isLt (by decide) pd.isLt (by decide) (b2n_lt st)
    (show 0x14000003 + pd.val * 8388608 + a.val * 65536 + b.val * 2048 + b2n st * 2147483648 + 0 * 8388608 + 0 * 4194304 + 0 * 2097152 + 0 * 1048576 + 0 * 8 = _ by omega)
  generalize encode _ = w at *
  simp only [decodeWord, decodeMaj05, sylS, f0, f1, f2, f3, f4, f5, bit_of_fld _ f6, fin_self, and_self, true_and, and_true, not_true_eq_false, ite_false, ite_true, reduceIte, ne_eq, not_false_eq_true]

theorem cmpltn (pd : Fin 8) (a : Fin 32) (b : Fin 32) : Statement (.cmpltn pd a b) := by
  intro st ng sw tm p b_ hw_
  obtain ⟨ho, rfl, rfl, rfl, rfl, rfl⟩ := wf_scalar rfl hw_
  obtain ⟨f0, f1, f2, f3, f4, f5, f6⟩ := fields6 (encode ⟨st, 0, false, false, false, 0, .cmpltn pd a b⟩) 4 b.val a.val 0 pd.val 5 (b2n st)
    (by decide) b.isLt a.isLt (by decide) pd.isLt (by decide) (b2n_lt st)
    (show 0x14000004 + pd.val * 8388608 + a.val * 65536 + b.val * 2048 + b2n st * 2147483648 + 0 * 8388608 + 0 * 4194304 + 0 * 2097152 + 0 * 1048576 + 0 * 8 = _ by omega)
  generalize encode _ = w at *
  simp only [decodeWord, decodeMaj05, sylS, f0, f1, f2, f3, f4, f5, bit_of_fld _ f6, fin_self, and_self, true_and, and_true, not_true_eq_false, ite_false, ite_true, reduceIte, ne_eq, not_false_eq_true]

theorem cmplen (pd : Fin 8) (a : Fin 32) (b : Fin 32) : Statement (.cmplen pd a b) := by
  intro st ng sw tm p b_ hw_
  obtain ⟨ho, rfl, rfl, rfl, rfl, rfl⟩ := wf_scalar rfl hw_
  obtain ⟨f0, f1, f2, f3, f4, f5, f6⟩ := fields6 (encode ⟨st, 0, false, false, false, 0, .cmplen pd a b⟩) 5 b.val a.val 0 pd.val 5 (b2n st)
    (by decide) b.isLt a.isLt (by decide) pd.isLt (by decide) (b2n_lt st)
    (show 0x14000005 + pd.val * 8388608 + a.val * 65536 + b.val * 2048 + b2n st * 2147483648 + 0 * 8388608 + 0 * 4194304 + 0 * 2097152 + 0 * 1048576 + 0 * 8 = _ by omega)
  generalize encode _ = w at *
  simp only [decodeWord, decodeMaj05, sylS, f0, f1, f2, f3, f4, f5, bit_of_fld _ f6, fin_self, and_self, true_and, and_true, not_true_eq_false, ite_false, ite_true, reduceIte, ne_eq, not_false_eq_true]

theorem cmpeqi (pd : Fin 8) (a : Fin 32) (im : BitVec 16) : Statement (.cmpeqi pd a im) := by
  intro st ng sw tm p b_ hw_
  obtain ⟨ho, rfl, rfl, rfl, rfl, rfl⟩ := wf_scalar rfl hw_
  obtain ⟨f0, f1, f2, f3, f4, f5⟩ := fields7 (encode ⟨st, 0, false, false, false, 0, .cmpeqi pd a im⟩) im.toNat a.val 0 pd.val 6 (b2n st)
    im.isLt a.isLt (by decide) pd.isLt (by decide) (b2n_lt st)
    (show 0x18000000 + pd.val * 8388608 + a.val * 65536 + im.toNat + b2n st * 2147483648 + 0 * 8388608 + 0 * 4194304 + 0 * 2097152 + 0 * 1048576 + 0 * 8 = _ by omega)
  generalize encode _ = w at *
  simp only [decodeWord, decodeMaj06, sylS, f0, f1, f2, f3, f4, bit_of_fld _ f5, fin_self, bv_self, and_self, true_and, and_true, not_true_eq_false, ite_false, ite_true, reduceIte, ne_eq, not_false_eq_true]

theorem cmpnei (pd : Fin 8) (a : Fin 32) (im : BitVec 16) : Statement (.cmpnei pd a im) := by
  intro st ng sw tm p b_ hw_
  obtain ⟨ho, rfl, rfl, rfl, rfl, rfl⟩ := wf_scalar rfl hw_
  obtain ⟨f0, f1, f2, f3, f4, f5⟩ := fields7 (encode ⟨st, 0, false, false, false, 0, .cmpnei pd a im⟩) im.toNat a.val 1 pd.val 6 (b2n st)
    im.isLt a.isLt (by decide) pd.isLt (by decide) (b2n_lt st)
    (show 0x18200000 + pd.val * 8388608 + a.val * 65536 + im.toNat + b2n st * 2147483648 + 0 * 8388608 + 0 * 4194304 + 0 * 2097152 + 0 * 1048576 + 0 * 8 = _ by omega)
  generalize encode _ = w at *
  simp only [decodeWord, decodeMaj06, sylS, f0, f1, f2, f3, f4, bit_of_fld _ f5, fin_self, bv_self, and_self, true_and, and_true, not_true_eq_false, ite_false, ite_true, reduceIte, ne_eq, not_false_eq_true]

theorem cmplti (pd : Fin 8) (a : Fin 32) (im : BitVec 16) : Statement (.cmplti pd a im) := by
  intro st ng sw tm p b_ hw_
  obtain ⟨ho, rfl, rfl, rfl, rfl, rfl⟩ := wf_scalar rfl hw_
  obtain ⟨f0, f1, f2, f3, f4, f5⟩ := fields7 (encode ⟨st, 0, false, false, false, 0, .cmplti pd a im⟩) im.toNat a.val 2 pd.val 6 (b2n st)
    im.isLt a.isLt (by decide) pd.isLt (by decide) (b2n_lt st)
    (show 0x18400000 + pd.val * 8388608 + a.val * 65536 + im.toNat + b2n st * 2147483648 + 0 * 8388608 + 0 * 4194304 + 0 * 2097152 + 0 * 1048576 + 0 * 8 = _ by omega)
  generalize encode _ = w at *
  simp only [decodeWord, decodeMaj06, sylS, f0, f1, f2, f3, f4, bit_of_fld _ f5, fin_self, bv_self, and_self, true_and, and_true, not_true_eq_false, ite_false, ite_true, reduceIte, ne_eq, not_false_eq_true]

theorem cmpltni (pd : Fin 8) (a : Fin 32) (im : BitVec 16) : Statement (.cmpltni pd a im) := by
  intro st ng sw tm p b_ hw_
  obtain ⟨ho, rfl, rfl, rfl, rfl, rfl⟩ := wf_scalar rfl hw_
  obtain ⟨f0, f1, f2, f3, f4, f5⟩ := fields7 (encode ⟨st, 0, false, false, false, 0, .cmpltni pd a im⟩) im.toNat a.val 3 pd.val 6 (b2n st)
    im.isLt a.isLt (by decide) pd.isLt (by decide) (b2n_lt st)
    (show 0x18600000 + pd.val * 8388608 + a.val * 65536 + im.toNat + b2n st * 2147483648 + 0 * 8388608 + 0 * 4194304 + 0 * 2097152 + 0 * 1048576 + 0 * 8 = _ by omega)
  generalize encode _ = w at *
  simp only [decodeWord, decodeMaj06, sylS, f0, f1, f2, f3, f4, bit_of_fld _ f5, fin_self, bv_self, and_self, true_and, and_true, not_true_eq_false, ite_false, ite_true, reduceIte, ne_eq, not_false_eq_true]

theorem pand (d : Fin 8) (a : Fin 8) (b : Fin 8) : Statement (.pand d a b) := by
  intro st ng sw tm p b_ hw_
  obtain ⟨ho, rfl, rfl, rfl, rfl, rfl⟩ := wf_scalar rfl hw_
  obtain ⟨f0, f1, f2, f3, f4, f5, f6, f7, f8⟩ := fields8 (encode ⟨st, 0, false, false, false, 0, .pand d a b⟩) 0 0 b.val 0 a.val 0 d.val 7 (b2n st)
    (by decide) (by decide) b.isLt (by decide) a.isLt (by decide) d.isLt (by decide) (b2n_lt st)
    (show 0x1C000000 + d.val * 8388608 + a.val * 262144 + b.val * 8192 + b2n st * 2147483648 + 0 * 8388608 + 0 * 4194304 + 0 * 2097152 + 0 * 1048576 + 0 * 8 = _ by omega)
  generalize encode _ = w at *
  simp +decide only [decodeWord, decodeMaj07, sylS, f0, f1, f2, f3, f4, f5, f6, f7, bit_of_fld _ f8, fin_self, and_self, true_and, and_true, not_true_eq_false, ite_false, ite_true, reduceIte, ne_eq, not_false_eq_true]

theorem por (d : Fin 8) (a : Fin 8) (b : Fin 8) : Statement (.por d a b) := by
  intro st ng sw tm p b_ hw_
  obtain ⟨ho, rfl, rfl, rfl, rfl, rfl⟩ := wf_scalar rfl hw_
  obtain ⟨f0, f1, f2, f3, f4, f5, f6, f7, f8⟩ := fields8 (encode ⟨st, 0, false, false, false, 0, .por d a b⟩) 1 0 b.val 0 a.val 0 d.val 7 (b2n st)
    (by decide) (by decide) b.isLt (by decide) a.isLt (by decide) d.isLt (by decide) (b2n_lt st)
    (show 0x1C000001 + d.val * 8388608 + a.val * 262144 + b.val * 8192 + b2n st * 2147483648 + 0 * 8388608 + 0 * 4194304 + 0 * 2097152 + 0 * 1048576 + 0 * 8 = _ by omega)
  generalize encode _ = w at *
  simp +decide only [decodeWord, decodeMaj07, sylS, f0, f1, f2, f3, f4, f5, f6, f7, bit_of_fld _ f8, fin_self, and_self, true_and, and_true, not_true_eq_false, ite_false, ite_true, reduceIte, ne_eq, not_false_eq_true]

theorem pxor (d : Fin 8) (a : Fin 8) (b : Fin 8) : Statement (.pxor d a b) := by
  intro st ng sw tm p b_ hw_
  obtain ⟨ho, rfl, rfl, rfl, rfl, rfl⟩ := wf_scalar rfl hw_
  obtain ⟨f0, f1, f2, f3, f4, f5, f6, f7, f8⟩ := fields8 (encode ⟨st, 0, false, false, false, 0, .pxor d a b⟩) 2 0 b.val 0 a.val 0 d.val 7 (b2n st)
    (by decide) (by decide) b.isLt (by decide) a.isLt (by decide) d.isLt (by decide) (b2n_lt st)
    (show 0x1C000002 + d.val * 8388608 + a.val * 262144 + b.val * 8192 + b2n st * 2147483648 + 0 * 8388608 + 0 * 4194304 + 0 * 2097152 + 0 * 1048576 + 0 * 8 = _ by omega)
  generalize encode _ = w at *
  simp +decide only [decodeWord, decodeMaj07, sylS, f0, f1, f2, f3, f4, f5, f6, f7, bit_of_fld _ f8, fin_self, and_self, true_and, and_true, not_true_eq_false, ite_false, ite_true, reduceIte, ne_eq, not_false_eq_true]

theorem pandn (d : Fin 8) (a : Fin 8) (b : Fin 8) : Statement (.pandn d a b) := by
  intro st ng sw tm p b_ hw_
  obtain ⟨ho, rfl, rfl, rfl, rfl, rfl⟩ := wf_scalar rfl hw_
  obtain ⟨f0, f1, f2, f3, f4, f5, f6, f7, f8⟩ := fields8 (encode ⟨st, 0, false, false, false, 0, .pandn d a b⟩) 3 0 b.val 0 a.val 0 d.val 7 (b2n st)
    (by decide) (by decide) b.isLt (by decide) a.isLt (by decide) d.isLt (by decide) (b2n_lt st)
    (show 0x1C000003 + d.val * 8388608 + a.val * 262144 + b.val * 8192 + b2n st * 2147483648 + 0 * 8388608 + 0 * 4194304 + 0 * 2097152 + 0 * 1048576 + 0 * 8 = _ by omega)
  generalize encode _ = w at *
  simp +decide only [decodeWord, decodeMaj07, sylS, f0, f1, f2, f3, f4, f5, f6, f7, bit_of_fld _ f8, fin_self, and_self, true_and, and_true, not_true_eq_false, ite_false, ite_true, reduceIte, ne_eq, not_false_eq_true]

theorem psetFalse (d : Fin 8) : Statement (.psetFalse d) := by
  intro st ng sw tm p b_ hw_
  obtain ⟨ho, rfl, rfl, rfl, rfl, rfl⟩ := wf_scalar rfl hw_
  obtain ⟨f0, f1, f2, f3, f4⟩ := fields9 (encode ⟨st, 0, false, false, false, 0, .psetFalse d⟩) 4 0 d.val 7 (b2n st)
    (by decide) (by decide) d.isLt (by decide) (b2n_lt st)
    (show 0x1C000004 + d.val * 8388608 + b2n st * 2147483648 + 0 * 8388608 + 0 * 4194304 + 0 * 2097152 + 0 * 1048576 + 0 * 8 = _ by omega)
  generalize encode _ = w at *
  simp +decide only [decodeWord, decodeMaj07, sylS, f0, f1, f2, f3, bit_of_fld _ f4, fin_self, and_self, true_and, and_true, not_true_eq_false, ite_false, ite_true, reduceIte, ne_eq, not_false_eq_true]

theorem psetTrue (d : Fin 8) : Statement (.psetTrue d) := by
  intro st ng sw tm p b_ hw_
  obtain ⟨ho, rfl, rfl, rfl, rfl, rfl⟩ := wf_scalar rfl hw_
  obtain ⟨f0, f1, f2, f3, f4⟩ := fields9 (encode ⟨st, 0, false, false, false, 0, .psetTrue d⟩) 5 0 d.val 7 (b2n st)
    (by decide) (by decide) d.isLt (by decide) (b2n_lt st)
    (show 0x1C000005 + d.val * 8388608 + b2n st * 2147483648 + 0 * 8388608 + 0 * 4194304 + 0 * 2097152 + 0 * 1048576 + 0 * 8 = _ by omega)
  generalize encode _ = w at *
  simp +decide only [decodeWord, decodeMaj07, sylS, f0, f1, f2, f3, bit_of_fld _ f4, fin_self, and_self, true_and, and_true, not_true_eq_false, ite_false, ite_true, reduceIte, ne_eq, not_false_eq_true]

theorem pmovPred (d : Fin 8) (a : Fin 8) : Statement (.pmovPred d a) := by
  intro st ng sw tm p b_ hw_
  obtain ⟨ho, rfl, rfl, rfl, rfl, rfl⟩ := wf_scalar rfl hw_
  obtain ⟨f0, f1, f2, f3, f4, f5, f6⟩ := fields10 (encode ⟨st, 0, false, false, false, 0, .pmovPred d a⟩) 6 0 a.val 0 d.val 7 (b2n st)
    (by decide) (by decide) a.isLt (by decide) d.isLt (by decide) (b2n_lt st)
    (show 0x1C000006 + d.val * 8388608 + a.val * 262144 + b2n st * 2147483648 + 0 * 8388608 + 0 * 4194304 + 0 * 2097152 + 0 * 1048576 + 0 * 8 = _ by omega)
  generalize encode _ = w at *
  simp +decide only [decodeWord, decodeMaj07, sylS, f0, f1, f2, f3, f4, f5, bit_of_fld _ f6, fin_self, and_self, true_and, and_true, not_true_eq_false, ite_false, ite_true, reduceIte, ne_eq, not_false_eq_true]

theorem pmovFromReg (d : Fin 8) (a : Fin 32) : Statement (.pmovFromReg d a) := by
  intro st ng sw tm p b_ hw_
  obtain ⟨ho, rfl, rfl, rfl, rfl, rfl⟩ := wf_scalar rfl hw_
  obtain ⟨f0, f1, f2, f3, f4, f5, f6⟩ := fields11 (encode ⟨st, 0, false, false, false, 0, .pmovFromReg d a⟩) 7 0 a.val 0 d.val 7 (b2n st)
    (by decide) (by decide) a.isLt (by decide) d.isLt (by decide) (b2n_lt st)
    (show 0x1C000007 + d.val * 8388608 + a.val * 65536 + b2n st * 2147483648 + 0 * 8388608 + 0 * 4194304 + 0 * 2097152 + 0 * 1048576 + 0 * 8 = _ by omega)
  generalize encode _ = w at *
  simp +decide only [decodeWord, decodeMaj07, sylS, f0, f1, f2, f3, f4, f5, bit_of_fld _ f6, fin_self, and_self, true_and, and_true, not_true_eq_false, ite_false, ite_true, reduceIte, ne_eq, not_false_eq_true]

theorem sel (d : Fin 32) (a : Fin 32) (b : Fin 32) (k : Fin 8) : Statement (.sel d a b k) := by
  intro st ng sw tm p b_ hw_
  obtain ⟨ho, rfl, rfl, rfl, rfl, rfl⟩ := wf_scalar rfl hw_
  obtain ⟨f0, f1, f2, f3, f4, f5, f6⟩ := fields12 (encode ⟨st, 0, false, false, false, 0, .sel d a b k⟩) k.val 1 b.val a.val d.val 7 (b2n st)
    k.isLt (by decide) b.isLt a.isLt d.isLt (by decide) (b2n_lt st)
    (show 0x1C000008 + d.val * 2097152 + a.val * 65536 + b.val * 2048 + k.val + b2n st * 2147483648 + 0 * 8388608 + 0 * 4194304 + 0 * 2097152 + 0 * 1048576 + 0 * 8 = _ by omega)
  generalize encode _ = w at *
  have hc : 8 ≤ k.val + 1 * 8 ∧ k.val + 1 * 8 < 16 := by omega
  simp only [decodeWord, decodeMaj07, sylS, f0, f1, f2, f3, f4, f5, bit_of_fld _ f6, fin_self, hc, and_self, true_and, and_true, not_true_eq_false, ite_false, ite_true, reduceIte, ne_eq, not_false_eq_true, hc.1, hc.2]

theorem pmovToReg (d : Fin 32) (a : Fin 8) : Statement (.pmovToReg d a) := by
  intro st ng sw tm p b_ hw_
  obtain ⟨ho, rfl, rfl, rfl, rfl, rfl⟩ := wf_scalar rfl hw_
  obtain ⟨f0, f1, f2, f3, f4, f5⟩ := fields13 (encode ⟨st, 0, false, false, false, 0, .pmovToReg d a⟩) 16 0 a.val d.val 7 (b2n st)
    (by decide) (by decide) a.isLt d.isLt (by decide) (b2n_lt st)
    (show 0x1C000010 + d.val * 2097152 + a.val * 262144 + b2n st * 2147483648 + 0 * 8388608 + 0 * 4194304 + 0 * 2097152 + 0 * 1048576 + 0 * 8 = _ by omega)
  generalize encode _ = w at *
  simp +decide only [decodeWord, decodeMaj07, sylS, f0, f1, f2, f3, f4, bit_of_fld _ f5, fin_self, and_self, true_and, and_true, not_true_eq_false, ite_false, ite_true, reduceIte, ne_eq, not_false_eq_true]

theorem fadd (d : Fin 32) (a : Fin 32) (b : Fin 32) (f : Bool) (m : Fin 8) : Statement (.fadd d a b f m) := by
  intro st ng sw tm p b_ hw_
  obtain ⟨ho, rfl, rfl, rfl, rfl, rfl⟩ := wf_scalar rfl hw_
  obtain ⟨f0, f1, f2, f3, f4, f5, f6, f7⟩ := fields14 (encode ⟨st, 0, false, false, false, 0, .fadd d a b f m⟩) 0 m.val f.toNat b.val a.val d.val 8 (b2n st)
    (by decide) m.isLt (toNat_lt f) b.isLt a.isLt d.isLt (by decide) (b2n_lt st)
    (show 0x20000000 + d.val * 2097152 + a.val * 65536 + b.val * 2048 + f.toNat * 1024 + m.val * 128 + b2n st * 2147483648 + 0 * 8388608 + 0 * 4194304 + 0 * 2097152 + 0 * 1048576 + 0 * 8 = _ by omega)
  generalize encode _ = w at *
  have hc : m.val < 7 := of_decide_eq_true ho
  simp only [decodeWord, decodeMaj08, sylS, f0, f1, f2, f3, f4, f5, bit_of_fld _ f7, bit_of_toNat _ f6, fin_self, hc, and_self, true_and, and_true, not_true_eq_false, ite_false, ite_true, reduceIte, ne_eq, not_false_eq_true]

theorem fsub (d : Fin 32) (a : Fin 32) (b : Fin 32) (f : Bool) (m : Fin 8) : Statement (.fsub d a b f m) := by
  intro st ng sw tm p b_ hw_
  obtain ⟨ho, rfl, rfl, rfl, rfl, rfl⟩ := wf_scalar rfl hw_
  obtain ⟨f0, f1, f2, f3, f4, f5, f6, f7⟩ := fields14 (encode ⟨st, 0, false, false, false, 0, .fsub d a b f m⟩) 1 m.val f.toNat b.val a.val d.val 8 (b2n st)
    (by decide) m.isLt (toNat_lt f) b.isLt a.isLt d.isLt (by decide) (b2n_lt st)
    (show 0x20000001 + d.val * 2097152 + a.val * 65536 + b.val * 2048 + f.toNat * 1024 + m.val * 128 + b2n st * 2147483648 + 0 * 8388608 + 0 * 4194304 + 0 * 2097152 + 0 * 1048576 + 0 * 8 = _ by omega)
  generalize encode _ = w at *
  have hc : m.val < 7 := of_decide_eq_true ho
  simp only [decodeWord, decodeMaj08, sylS, f0, f1, f2, f3, f4, f5, bit_of_fld _ f7, bit_of_toNat _ f6, fin_self, hc, and_self, true_and, and_true, not_true_eq_false, ite_false, ite_true, reduceIte, ne_eq, not_false_eq_true]

theorem fmul (d : Fin 32) (a : Fin 32) (b : Fin 32) (f : Bool) (m : Fin 8) : Statement (.fmul d a b f m) := by
  intro st ng sw tm p b_ hw_
  obtain ⟨ho, rfl, rfl, rfl, rfl, rfl⟩ := wf_scalar rfl hw_
  obtain ⟨f0, f1, f2, f3, f4, f5, f6, f7⟩ := fields14 (encode ⟨st, 0, false, false, false, 0, .fmul d a b f m⟩) 2 m.val f.toNat b.val a.val d.val 8 (b2n st)
    (by decide) m.isLt (toNat_lt f) b.isLt a.isLt d.isLt (by decide) (b2n_lt st)
    (show 0x20000002 + d.val * 2097152 + a.val * 65536 + b.val * 2048 + f.toNat * 1024 + m.val * 128 + b2n st * 2147483648 + 0 * 8388608 + 0 * 4194304 + 0 * 2097152 + 0 * 1048576 + 0 * 8 = _ by omega)
  generalize encode _ = w at *
  have hc : m.val < 7 := of_decide_eq_true ho
  simp only [decodeWord, decodeMaj08, sylS, f0, f1, f2, f3, f4, f5, bit_of_fld _ f7, bit_of_toNat _ f6, fin_self, hc, and_self, true_and, and_true, not_true_eq_false, ite_false, ite_true, reduceIte, ne_eq, not_false_eq_true]

theorem ffma (d : Fin 32) (a : Fin 32) (b : Fin 32) (f : Bool) (m : Fin 8) : Statement (.ffma d a b f m) := by
  intro st ng sw tm p b_ hw_
  obtain ⟨ho, rfl, rfl, rfl, rfl, rfl⟩ := wf_scalar rfl hw_
  obtain ⟨f0, f1, f2, f3, f4, f5, f6, f7⟩ := fields14 (encode ⟨st, 0, false, false, false, 0, .ffma d a b f m⟩) 3 m.val f.toNat b.val a.val d.val 8 (b2n st)
    (by decide) m.isLt (toNat_lt f) b.isLt a.isLt d.isLt (by decide) (b2n_lt st)
    (show 0x20000003 + d.val * 2097152 + a.val * 65536 + b.val * 2048 + f.toNat * 1024 + m.val * 128 + b2n st * 2147483648 + 0 * 8388608 + 0 * 4194304 + 0 * 2097152 + 0 * 1048576 + 0 * 8 = _ by omega)
  generalize encode _ = w at *
  have hc : m.val < 7 := of_decide_eq_true ho
  simp only [decodeWord, decodeMaj08, sylS, f0, f1, f2, f3, f4, f5, bit_of_fld _ f7, bit_of_toNat _ f6, fin_self, hc, and_self, true_and, and_true, not_true_eq_false, ite_false, ite_true, reduceIte, ne_eq, not_false_eq_true]

theorem ffms (d : Fin 32) (a : Fin 32) (b : Fin 32) (f : Bool) (m : Fin 8) : Statement (.ffms d a b f m) := by
  intro st ng sw tm p b_ hw_
  obtain ⟨ho, rfl, rfl, rfl, rfl, rfl⟩ := wf_scalar rfl hw_
  obtain ⟨f0, f1, f2, f3, f4, f5, f6, f7⟩ := fields14 (encode ⟨st, 0, false, false, false, 0, .ffms d a b f m⟩) 4 m.val f.toNat b.val a.val d.val 8 (b2n st)
    (by decide) m.isLt (toNat_lt f) b.isLt a.isLt d.isLt (by decide) (b2n_lt st)
    (show 0x20000004 + d.val * 2097152 + a.val * 65536 + b.val * 2048 + f.toNat * 1024 + m.val * 128 + b2n st * 2147483648 + 0 * 8388608 + 0 * 4194304 + 0 * 2097152 + 0 * 1048576 + 0 * 8 = _ by omega)
  generalize encode _ = w at *
  have hc : m.val < 7 := of_decide_eq_true ho
  simp only [decodeWord, decodeMaj08, sylS, f0, f1, f2, f3, f4, f5, bit_of_fld _ f7, bit_of_toNat _ f6, fin_self, hc, and_self, true_and, and_true, not_true_eq_false, ite_false, ite_true, reduceIte, ne_eq, not_false_eq_true]

theorem fdiv (d : Fin 32) (a : Fin 32) (b : Fin 32) (f : Bool) (m : Fin 8) : Statement (.fdiv d a b f m) := by
  intro st ng sw tm p b_ hw_
  obtain ⟨ho, rfl, rfl, rfl, rfl, rfl⟩ := wf_scalar rfl hw_
  obtain ⟨f0, f1, f2, f3, f4, f5, f6, f7⟩ := fields14 (encode ⟨st, 0, false, false, false, 0, .fdiv d a b f m⟩) 5 m.val f.toNat b.val a.val d.val 8 (b2n st)
    (by decide) m.isLt (toNat_lt f) b.isLt a.isLt d.isLt (by decide) (b2n_lt st)
    (show 0x20000005 + d.val * 2097152 + a.val * 65536 + b.val * 2048 + f.toNat * 1024 + m.val * 128 + b2n st * 2147483648 + 0 * 8388608 + 0 * 4194304 + 0 * 2097152 + 0 * 1048576 + 0 * 8 = _ by omega)
  generalize encode _ = w at *
  have hc : m.val < 7 := of_decide_eq_true ho
  simp only [decodeWord, decodeMaj08, sylS, f0, f1, f2, f3, f4, f5, bit_of_fld _ f7, bit_of_toNat _ f6, fin_self, hc, and_self, true_and, and_true, not_true_eq_false, ite_false, ite_true, reduceIte, ne_eq, not_false_eq_true]

theorem fsqrt (d : Fin 32) (a : Fin 32) (f : Bool) (m : Fin 8) : Statement (.fsqrt d a f m) := by
  intro st ng sw tm p b_ hw_
  obtain ⟨ho, rfl, rfl, rfl, rfl, rfl⟩ := wf_scalar rfl hw_
  obtain ⟨f0, f1, f2, f3, f4, f5, f6, f7⟩ := fields15 (encode ⟨st, 0, false, false, false, 0, .fsqrt d a f m⟩) 6 m.val f.toNat 0 a.val d.val 8 (b2n st)
    (by decide) m.isLt (toNat_lt f) (by decide) a.isLt d.isLt (by decide) (b2n_lt st)
    (show 0x20000006 + d.val * 2097152 + a.val * 65536 + f.toNat * 1024 + m.val * 128 + b2n st * 2147483648 + 0 * 8388608 + 0 * 4194304 + 0 * 2097152 + 0 * 1048576 + 0 * 8 = _ by omega)
  generalize encode _ = w at *
  have hc : m.val < 7 := of_decide_eq_true ho
  simp only [decodeWord, decodeMaj08, sylS, f0, f1, f2, f3, f4, f5, bit_of_fld _ f7, bit_of_toNat _ f6, fin_self, hc, and_self, true_and, and_true, not_true_eq_false, ite_false, ite_true, reduceIte, ne_eq, not_false_eq_true]

theorem fmin (d : Fin 32) (a : Fin 32) (b : Fin 32) (f : Bool) : Statement (.fmin d a b f) := by
  intro st ng sw tm p b_ hw_
  obtain ⟨ho, rfl, rfl, rfl, rfl, rfl⟩ := wf_scalar rfl hw_
  obtain ⟨f0, f1, f2, f3, f4, f5, f6, f7⟩ := fields16 (encode ⟨st, 0, false, false, false, 0, .fmin d a b f⟩) 7 0 f.toNat b.val a.val d.val 8 (b2n st)
    (by decide) (by decide) (toNat_lt f) b.isLt a.isLt d.isLt (by decide) (b2n_lt st)
    (show 0x20000007 + d.val * 2097152 + a.val * 65536 + b.val * 2048 + f.toNat * 1024 + b2n st * 2147483648 + 0 * 8388608 + 0 * 4194304 + 0 * 2097152 + 0 * 1048576 + 0 * 8 = _ by omega)
  generalize encode _ = w at *
  simp only [decodeWord, decodeMaj08, sylS, f0, f1, f2, f3, f4, f5, bit_of_fld _ f7, bit_of_toNat _ f6, fin_self, and_self, true_and, and_true, not_true_eq_false, ite_false, ite_true, reduceIte, ne_eq, not_false_eq_true]

theorem fmax (d : Fin 32) (a : Fin 32) (b : Fin 32) (f : Bool) : Statement (.fmax d a b f) := by
  intro st ng sw tm p b_ hw_
  obtain ⟨ho, rfl, rfl, rfl, rfl, rfl⟩ := wf_scalar rfl hw_
  obtain ⟨f0, f1, f2, f3, f4, f5, f6, f7⟩ := fields16 (encode ⟨st, 0, false, false, false, 0, .fmax d a b f⟩) 8 0 f.toNat b.val a.val d.val 8 (b2n st)
    (by decide) (by decide) (toNat_lt f) b.isLt a.isLt d.isLt (by decide) (b2n_lt st)
    (show 0x20000008 + d.val * 2097152 + a.val * 65536 + b.val * 2048 + f.toNat * 1024 + b2n st * 2147483648 + 0 * 8388608 + 0 * 4194304 + 0 * 2097152 + 0 * 1048576 + 0 * 8 = _ by omega)
  generalize encode _ = w at *
  simp only [decodeWord, decodeMaj08, sylS, f0, f1, f2, f3, f4, f5, bit_of_fld _ f7, bit_of_toNat _ f6, fin_self, and_self, true_and, and_true, not_true_eq_false, ite_false, ite_true, reduceIte, ne_eq, not_false_eq_true]

theorem fcmpeq (pd : Fin 8) (a : Fin 32) (b : Fin 32) (f : Bool) : Statement (.fcmpeq pd a b f) := by
  intro st ng sw tm p b_ hw_
  obtain ⟨ho, rfl, rfl, rfl, rfl, rfl⟩ := wf_scalar rfl hw_
  obtain ⟨f0, f1, f2, f3, f4, f5, f6, f7, f8⟩ := fields17 (encode ⟨st, 0, false, false, false, 0, .fcmpeq pd a b f⟩) 9 0 f.toNat b.val a.val 0 pd.val 8 (b2n st)
    (by decide) (by decide) (toNat_lt f) b.isLt a.isLt (by decide) pd.isLt (by decide) (b2n_lt st)
    (show 0x20000009 + pd.val * 8388608 + a.val * 65536 + b.val * 2048 + f.toNat * 1024 + b2n st * 2147483648 + 0 * 8388608 + 0 * 4194304 + 0 * 2097152 + 0 * 1048576 + 0 * 8 = _ by omega)
  generalize encode _ = w at *
  simp only [decodeWord, decodeMaj08, sylS, f0, f1, f2, f3, f4, f5, f6, bit_of_fld _ f8, bit_of_toNat _ f7, fin_self, and_self, true_and, and_true, not_true_eq_false, ite_false, ite_true, reduceIte, ne_eq, not_false_eq_true]

theorem fcmplt (pd : Fin 8) (a : Fin 32) (b : Fin 32) (f : Bool) : Statement (.fcmplt pd a b f) := by
  intro st ng sw tm p b_ hw_
  obtain ⟨ho, rfl, rfl, rfl, rfl, rfl⟩ := wf_scalar rfl hw_
  obtain ⟨f0, f1, f2, f3, f4, f5, f6, f7, f8⟩ := fields17 (encode ⟨st, 0, false, false, false, 0, .fcmplt pd a b f⟩) 10 0 f.toNat b.val a.val 0 pd.val 8 (b2n st)
    (by decide) (by decide) (toNat_lt f) b.isLt a.isLt (by decide) pd.isLt (by decide) (b2n_lt st)
    (show 0x2000000A + pd.val * 8388608 + a.val * 65536 + b.val * 2048 + f.toNat * 1024 + b2n st * 2147483648 + 0 * 8388608 + 0 * 4194304 + 0 * 2097152 + 0 * 1048576 + 0 * 8 = _ by omega)
  generalize encode _ = w at *
  simp only [decodeWord, decodeMaj08, sylS, f0, f1, f2, f3, f4, f5, f6, bit_of_fld _ f8, bit_of_toNat _ f7, fin_self, and_self, true_and, and_true, not_true_eq_false, ite_false, ite_true, reduceIte, ne_eq, not_false_eq_true]

theorem fcmple (pd : Fin 8) (a : Fin 32) (b : Fin 32) (f : Bool) : Statement (.fcmple pd a b f) := by
  intro st ng sw tm p b_ hw_
  obtain ⟨ho, rfl, rfl, rfl, rfl, rfl⟩ := wf_scalar rfl hw_
  obtain ⟨f0, f1, f2, f3, f4, f5, f6, f7, f8⟩ := fields17 (encode ⟨st, 0, false, false, false, 0, .fcmple pd a b f⟩) 11 0 f.toNat b.val a.val 0 pd.val 8 (b2n st)
    (by decide) (by decide) (toNat_lt f) b.isLt a.isLt (by decide) pd.isLt (by decide) (b2n_lt st)
    (show 0x2000000B + pd.val * 8388608 + a.val * 65536 + b.val * 2048 + f.toNat * 1024 + b2n st * 2147483648 + 0 * 8388608 + 0 * 4194304 + 0 * 2097152 + 0 * 1048576 + 0 * 8 = _ by omega)
  generalize encode _ = w at *
  simp only [decodeWord, decodeMaj08, sylS, f0, f1, f2, f3, f4, f5, f6, bit_of_fld _ f8, bit_of_toNat _ f7, fin_self, and_self, true_and, and_true, not_true_eq_false, ite_false, ite_true, reduceIte, ne_eq, not_false_eq_true]

theorem fcmpun (pd : Fin 8) (a : Fin 32) (b : Fin 32) (f : Bool) : Statement (.fcmpun pd a b f) := by
  intro st ng sw tm p b_ hw_
  obtain ⟨ho, rfl, rfl, rfl, rfl, rfl⟩ := wf_scalar rfl hw_
  obtain ⟨f0, f1, f2, f3, f4, f5, f6, f7, f8⟩ := fields17 (encode ⟨st, 0, false, false, false, 0, .fcmpun pd a b f⟩) 12 0 f.toNat b.val a.val 0 pd.val 8 (b2n st)
    (by decide) (by decide) (toNat_lt f) b.isLt a.isLt (by decide) pd.isLt (by decide) (b2n_lt st)
    (show 0x2000000C + pd.val * 8388608 + a.val * 65536 + b.val * 2048 + f.toNat * 1024 + b2n st * 2147483648 + 0 * 8388608 + 0 * 4194304 + 0 * 2097152 + 0 * 1048576 + 0 * 8 = _ by omega)
  generalize encode _ = w at *
  simp only [decodeWord, decodeMaj08, sylS, f0, f1, f2, f3, f4, f5, f6, bit_of_fld _ f8, bit_of_toNat _ f7, fin_self, and_self, true_and, and_true, not_true_eq_false, ite_false, ite_true, reduceIte, ne_eq, not_false_eq_true]

theorem fclass (d : Fin 32) (a : Fin 32) (f : Bool) : Statement (.fclass d a f) := by
  intro st ng sw tm p b_ hw_
  obtain ⟨ho, rfl, rfl, rfl, rfl, rfl⟩ := wf_scalar rfl hw_
  obtain ⟨f0, f1, f2, f3, f4, f5, f6, f7⟩ := fields18 (encode ⟨st, 0, false, false, false, 0, .fclass d a f⟩) 13 0 f.toNat 0 a.val d.val 8 (b2n st)
    (by decide) (by decide) (toNat_lt f) (by decide) a.isLt d.isLt (by decide) (b2n_lt st)
    (show 0x2000000D + d.val * 2097152 + a.val * 65536 + f.toNat * 1024 + b2n st * 2147483648 + 0 * 8388608 + 0 * 4194304 + 0 * 2097152 + 0 * 1048576 + 0 * 8 = _ by omega)
  generalize encode _ = w at *
  simp only [decodeWord, decodeMaj08, sylS, f0, f1, f2, f3, f4, f5, bit_of_fld _ f7, bit_of_toNat _ f6, fin_self, and_self, true_and, and_true, not_true_eq_false, ite_false, ite_true, reduceIte, ne_eq, not_false_eq_true]

theorem fcvtFloat (d : Fin 32) (a : Fin 32) (f : Bool) (m : Fin 8) : Statement (.fcvtFloat d a f m) := by
  intro st ng sw tm p b_ hw_
  obtain ⟨ho, rfl, rfl, rfl, rfl, rfl⟩ := wf_scalar rfl hw_
  obtain ⟨f0, f1, f2, f3, f4, f5, f6, f7⟩ := fields15 (encode ⟨st, 0, false, false, false, 0, .fcvtFloat d a f m⟩) 16 m.val f.toNat 0 a.val d.val 8 (b2n st)
    (by decide) m.isLt (toNat_lt f) (by decide) a.isLt d.isLt (by decide) (b2n_lt st)
    (show 0x20000010 + d.val * 2097152 + a.val * 65536 + f.toNat * 1024 + m.val * 128 + b2n st * 2147483648 + 0 * 8388608 + 0 * 4194304 + 0 * 2097152 + 0 * 1048576 + 0 * 8 = _ by omega)
  generalize encode _ = w at *
  have hc : m.val < 7 := of_decide_eq_true ho
  simp only [decodeWord, decodeMaj08, sylS, f0, f1, f2, f3, f4, f5, bit_of_fld _ f7, bit_of_toNat _ f6, fin_self, hc, and_self, true_and, and_true, not_true_eq_false, ite_false, ite_true, reduceIte, ne_eq, not_false_eq_true]

theorem fcvtToI64 (d : Fin 32) (a : Fin 32) (f : Bool) (m : Fin 8) : Statement (.fcvtToI64 d a f m) := by
  intro st ng sw tm p b_ hw_
  obtain ⟨ho, rfl, rfl, rfl, rfl, rfl⟩ := wf_scalar rfl hw_
  obtain ⟨f0, f1, f2, f3, f4, f5, f6, f7⟩ := fields15 (encode ⟨st, 0, false, false, false, 0, .fcvtToI64 d a f m⟩) 17 m.val f.toNat 0 a.val d.val 8 (b2n st)
    (by decide) m.isLt (toNat_lt f) (by decide) a.isLt d.isLt (by decide) (b2n_lt st)
    (show 0x20000011 + d.val * 2097152 + a.val * 65536 + f.toNat * 1024 + m.val * 128 + b2n st * 2147483648 + 0 * 8388608 + 0 * 4194304 + 0 * 2097152 + 0 * 1048576 + 0 * 8 = _ by omega)
  generalize encode _ = w at *
  have hc : m.val < 7 := of_decide_eq_true ho
  simp only [decodeWord, decodeMaj08, sylS, f0, f1, f2, f3, f4, f5, bit_of_fld _ f7, bit_of_toNat _ f6, fin_self, hc, and_self, true_and, and_true, not_true_eq_false, ite_false, ite_true, reduceIte, ne_eq, not_false_eq_true]

theorem fcvtToN64 (d : Fin 32) (a : Fin 32) (f : Bool) (m : Fin 8) : Statement (.fcvtToN64 d a f m) := by
  intro st ng sw tm p b_ hw_
  obtain ⟨ho, rfl, rfl, rfl, rfl, rfl⟩ := wf_scalar rfl hw_
  obtain ⟨f0, f1, f2, f3, f4, f5, f6, f7⟩ := fields15 (encode ⟨st, 0, false, false, false, 0, .fcvtToN64 d a f m⟩) 18 m.val f.toNat 0 a.val d.val 8 (b2n st)
    (by decide) m.isLt (toNat_lt f) (by decide) a.isLt d.isLt (by decide) (b2n_lt st)
    (show 0x20000012 + d.val * 2097152 + a.val * 65536 + f.toNat * 1024 + m.val * 128 + b2n st * 2147483648 + 0 * 8388608 + 0 * 4194304 + 0 * 2097152 + 0 * 1048576 + 0 * 8 = _ by omega)
  generalize encode _ = w at *
  have hc : m.val < 7 := of_decide_eq_true ho
  simp only [decodeWord, decodeMaj08, sylS, f0, f1, f2, f3, f4, f5, bit_of_fld _ f7, bit_of_toNat _ f6, fin_self, hc, and_self, true_and, and_true, not_true_eq_false, ite_false, ite_true, reduceIte, ne_eq, not_false_eq_true]

theorem fcvtToI32 (d : Fin 32) (a : Fin 32) (f : Bool) (m : Fin 8) : Statement (.fcvtToI32 d a f m) := by
  intro st ng sw tm p b_ hw_
  obtain ⟨ho, rfl, rfl, rfl, rfl, rfl⟩ := wf_scalar rfl hw_
  obtain ⟨f0, f1, f2, f3, f4, f5, f6, f7⟩ := fields15 (encode ⟨st, 0, false, false, false, 0, .fcvtToI32 d a f m⟩) 19 m.val f.toNat 0 a.val d.val 8 (b2n st)
    (by decide) m.isLt (toNat_lt f) (by decide) a.isLt d.isLt (by decide) (b2n_lt st)
    (show 0x20000013 + d.val * 2097152 + a.val * 65536 + f.toNat * 1024 + m.val * 128 + b2n st * 2147483648 + 0 * 8388608 + 0 * 4194304 + 0 * 2097152 + 0 * 1048576 + 0 * 8 = _ by omega)
  generalize encode _ = w at *
  have hc : m.val < 7 := of_decide_eq_true ho
  simp only [decodeWord, decodeMaj08, sylS, f0, f1, f2, f3, f4, f5, bit_of_fld _ f7, bit_of_toNat _ f6, fin_self, hc, and_self, true_and, and_true, not_true_eq_false, ite_false, ite_true, reduceIte, ne_eq, not_false_eq_true]

theorem fcvtToN32 (d : Fin 32) (a : Fin 32) (f : Bool) (m : Fin 8) : Statement (.fcvtToN32 d a f m) := by
  intro st ng sw tm p b_ hw_
  obtain ⟨ho, rfl, rfl, rfl, rfl, rfl⟩ := wf_scalar rfl hw_
  obtain ⟨f0, f1, f2, f3, f4, f5, f6, f7⟩ := fields15 (encode ⟨st, 0, false, false, false, 0, .fcvtToN32 d a f m⟩) 20 m.val f.toNat 0 a.val d.val 8 (b2n st)
    (by decide) m.isLt (toNat_lt f) (by decide) a.isLt d.isLt (by decide) (b2n_lt st)
    (show 0x20000014 + d.val * 2097152 + a.val * 65536 + f.toNat * 1024 + m.val * 128 + b2n st * 2147483648 + 0 * 8388608 + 0 * 4194304 + 0 * 2097152 + 0 * 1048576 + 0 * 8 = _ by omega)
  generalize encode _ = w at *
  have hc : m.val < 7 := of_decide_eq_true ho
  simp only [decodeWord, decodeMaj08, sylS, f0, f1, f2, f3, f4, f5, bit_of_fld _ f7, bit_of_toNat _ f6, fin_self, hc, and_self, true_and, and_true, not_true_eq_false, ite_false, ite_true, reduceIte, ne_eq, not_false_eq_true]

theorem fcvtFromI64 (d : Fin 32) (a : Fin 32) (f : Bool) (m : Fin 8) : Statement (.fcvtFromI64 d a f m) := by
  intro st ng sw tm p b_ hw_
  obtain ⟨ho, rfl, rfl, rfl, rfl, rfl⟩ := wf_scalar rfl hw_
  obtain ⟨f0, f1, f2, f3, f4, f5, f6, f7⟩ := fields15 (encode ⟨st, 0, false, false, false, 0, .fcvtFromI64 d a f m⟩) 24 m.val f.toNat 0 a.val d.val 8 (b2n st)
    (by decide) m.isLt (toNat_lt f) (by decide) a.isLt d.isLt (by decide) (b2n_lt st)
    (show 0x20000018 + d.val * 2097152 + a.val * 65536 + f.toNat * 1024 + m.val * 128 + b2n st * 2147483648 + 0 * 8388608 + 0 * 4194304 + 0 * 2097152 + 0 * 1048576 + 0 * 8 = _ by omega)
  generalize encode _ = w at *
  have hc : m.val < 7 := of_decide_eq_true ho
  simp only [decodeWord, decodeMaj08, sylS, f0, f1, f2, f3, f4, f5, bit_of_fld _ f7, bit_of_toNat _ f6, fin_self, hc, and_self, true_and, and_true, not_true_eq_false, ite_false, ite_true, reduceIte, ne_eq, not_false_eq_true]

theorem fcvtFromN64 (d : Fin 32) (a : Fin 32) (f : Bool) (m : Fin 8) : Statement (.fcvtFromN64 d a f m) := by
  intro st ng sw tm p b_ hw_
  obtain ⟨ho, rfl, rfl, rfl, rfl, rfl⟩ := wf_scalar rfl hw_
  obtain ⟨f0, f1, f2, f3, f4, f5, f6, f7⟩ := fields15 (encode ⟨st, 0, false, false, false, 0, .fcvtFromN64 d a f m⟩) 25 m.val f.toNat 0 a.val d.val 8 (b2n st)
    (by decide) m.isLt (toNat_lt f) (by decide) a.isLt d.isLt (by decide) (b2n_lt st)
    (show 0x20000019 + d.val * 2097152 + a.val * 65536 + f.toNat * 1024 + m.val * 128 + b2n st * 2147483648 + 0 * 8388608 + 0 * 4194304 + 0 * 2097152 + 0 * 1048576 + 0 * 8 = _ by omega)
  generalize encode _ = w at *
  have hc : m.val < 7 := of_decide_eq_true ho
  simp only [decodeWord, decodeMaj08, sylS, f0, f1, f2, f3, f4, f5, bit_of_fld _ f7, bit_of_toNat _ f6, fin_self, hc, and_self, true_and, and_true, not_true_eq_false, ite_false, ite_true, reduceIte, ne_eq, not_false_eq_true]

theorem fcvtFromI32 (d : Fin 32) (a : Fin 32) (f : Bool) (m : Fin 8) : Statement (.fcvtFromI32 d a f m) := by
  intro st ng sw tm p b_ hw_
  obtain ⟨ho, rfl, rfl, rfl, rfl, rfl⟩ := wf_scalar rfl hw_
  obtain ⟨f0, f1, f2, f3, f4, f5, f6, f7⟩ := fields15 (encode ⟨st, 0, false, false, false, 0, .fcvtFromI32 d a f m⟩) 26 m.val f.toNat 0 a.val d.val 8 (b2n st)
    (by decide) m.isLt (toNat_lt f) (by decide) a.isLt d.isLt (by decide) (b2n_lt st)
    (show 0x2000001A + d.val * 2097152 + a.val * 65536 + f.toNat * 1024 + m.val * 128 + b2n st * 2147483648 + 0 * 8388608 + 0 * 4194304 + 0 * 2097152 + 0 * 1048576 + 0 * 8 = _ by omega)
  generalize encode _ = w at *
  have hc : m.val < 7 := of_decide_eq_true ho
  simp only [decodeWord, decodeMaj08, sylS, f0, f1, f2, f3, f4, f5, bit_of_fld _ f7, bit_of_toNat _ f6, fin_self, hc, and_self, true_and, and_true, not_true_eq_false, ite_false, ite_true, reduceIte, ne_eq, not_false_eq_true]

theorem fcvtFromN32 (d : Fin 32) (a : Fin 32) (f : Bool) (m : Fin 8) : Statement (.fcvtFromN32 d a f m) := by
  intro st ng sw tm p b_ hw_
  obtain ⟨ho, rfl, rfl, rfl, rfl, rfl⟩ := wf_scalar rfl hw_
  obtain ⟨f0, f1, f2, f3, f4, f5, f6, f7⟩ := fields15 (encode ⟨st, 0, false, false, false, 0, .fcvtFromN32 d a f m⟩) 27 m.val f.toNat 0 a.val d.val 8 (b2n st)
    (by decide) m.isLt (toNat_lt f) (by decide) a.isLt d.isLt (by decide) (b2n_lt st)
    (show 0x2000001B + d.val * 2097152 + a.val * 65536 + f.toNat * 1024 + m.val * 128 + b2n st * 2147483648 + 0 * 8388608 + 0 * 4194304 + 0 * 2097152 + 0 * 1048576 + 0 * 8 = _ by omega)
  generalize encode _ = w at *
  have hc : m.val < 7 := of_decide_eq_true ho
  simp only [decodeWord, decodeMaj08, sylS, f0, f1, f2, f3, f4, f5, bit_of_fld _ f7, bit_of_toNat _ f6, fin_self, hc, and_self, true_and, and_true, not_true_eq_false, ite_false, ite_true, reduceIte, ne_eq, not_false_eq_true]

theorem clz (d : Fin 32) (a : Fin 32) : Statement (.clz d a) := by
  intro st ng sw tm p b_ hw_
  obtain ⟨ho, rfl, rfl, rfl, rfl, rfl⟩ := wf_scalar rfl hw_
  obtain ⟨f0, f1, f2, f3, f4, f5⟩ := fields1 (encode ⟨st, 0, false, false, false, 0, .clz d a⟩) 0 0 a.val d.val 9 (b2n st)
    (by decide) (by decide) a.isLt d.isLt (by decide) (b2n_lt st)
    (show 0x24000000 + d.val * 2097152 + a.val * 65536 + b2n st * 2147483648 + 0 * 8388608 + 0 * 4194304 + 0 * 2097152 + 0 * 1048576 + 0 * 8 = _ by omega)
  generalize encode _ = w at *
  simp only [decodeWord, decodeMaj09, sylS, f0, f1, f2, f3, f4, bit_of_fld _ f5, fin_self, and_self, true_and, and_true, not_true_eq_false, ite_false, ite_true, reduceIte, ne_eq, not_false_eq_true]

theorem ctz (d : Fin 32) (a : Fin 32) : Statement (.ctz d a) := by
  intro st ng sw tm p b_ hw_
  obtain ⟨ho, rfl, rfl, rfl, rfl, rfl⟩ := wf_scalar rfl hw_
  obtain ⟨f0, f1, f2, f3, f4, f5⟩ := fields1 (encode ⟨st, 0, false, false, false, 0, .ctz d a⟩) 1 0 a.val d.val 9 (b2n st)
    (by decide) (by decide) a.isLt d.isLt (by decide) (b2n_lt st)
    (show 0x24000001 + d.val * 2097152 + a.val * 65536 + b2n st * 2147483648 + 0 * 8388608 + 0 * 4194304 + 0 * 2097152 + 0 * 1048576 + 0 * 8 = _ by omega)
  generalize encode _ = w at *
  simp only [decodeWord, decodeMaj09, sylS, f0, f1, f2, f3, f4, bit_of_fld _ f5, fin_self, and_self, true_and, and_true, not_true_eq_false, ite_false, ite_true, reduceIte, ne_eq, not_false_eq_true]

theorem popc (d : Fin 32) (a : Fin 32) : Statement (.popc d a) := by
  intro st ng sw tm p b_ hw_
  obtain ⟨ho, rfl, rfl, rfl, rfl, rfl⟩ := wf_scalar rfl hw_
  obtain ⟨f0, f1, f2, f3, f4, f5⟩ := fields1 (encode ⟨st, 0, false, false, false, 0, .popc d a⟩) 2 0 a.val d.val 9 (b2n st)
    (by decide) (by decide) a.isLt d.isLt (by decide) (b2n_lt st)
    (show 0x24000002 + d.val * 2097152 + a.val * 65536 + b2n st * 2147483648 + 0 * 8388608 + 0 * 4194304 + 0 * 2097152 + 0 * 1048576 + 0 * 8 = _ by omega)
  generalize encode _ = w at *
  simp only [decodeWord, decodeMaj09, sylS, f0, f1, f2, f3, f4, bit_of_fld _ f5, fin_self, and_self, true_and, and_true, not_true_eq_false, ite_false, ite_true, reduceIte, ne_eq, not_false_eq_true]

theorem brev (d : Fin 32) (a : Fin 32) : Statement (.brev d a) := by
  intro st ng sw tm p b_ hw_
  obtain ⟨ho, rfl, rfl, rfl, rfl, rfl⟩ := wf_scalar rfl hw_
  obtain ⟨f0, f1, f2, f3, f4, f5⟩ := fields1 (encode ⟨st, 0, false, false, false, 0, .brev d a⟩) 3 0 a.val d.val 9 (b2n st)
    (by decide) (by decide) a.isLt d.isLt (by decide) (b2n_lt st)
    (show 0x24000003 + d.val * 2097152 + a.val * 65536 + b2n st * 2147483648 + 0 * 8388608 + 0 * 4194304 + 0 * 2097152 + 0 * 1048576 + 0 * 8 = _ by omega)
  generalize encode _ = w at *
  simp only [decodeWord, decodeMaj09, sylS, f0, f1, f2, f3, f4, bit_of_fld _ f5, fin_self, and_self, true_and, and_true, not_true_eq_false, ite_false, ite_true, reduceIte, ne_eq, not_false_eq_true]

theorem fns (d : Fin 32) (a : Fin 32) (b : Fin 32) : Statement (.fns d a b) := by
  intro st ng sw tm p b_ hw_
  obtain ⟨ho, rfl, rfl, rfl, rfl, rfl⟩ := wf_scalar rfl hw_
  obtain ⟨f0, f1, f2, f3, f4, f5⟩ := fields0 (encode ⟨st, 0, false, false, false, 0, .fns d a b⟩) 4 b.val a.val d.val 9 (b2n st)
    (by decide) b.isLt a.isLt d.isLt (by decide) (b2n_lt st)
    (show 0x24000004 + d.val * 2097152 + a.val * 65536 + b.val * 2048 + b2n st * 2147483648 + 0 * 8388608 + 0 * 4194304 + 0 * 2097152 + 0 * 1048576 + 0 * 8 = _ by omega)
  generalize encode _ = w at *
  simp only [decodeWord, decodeMaj09, sylS, f0, f1, f2, f3, f4, bit_of_fld _ f5, fin_self, and_self, true_and, and_true, not_true_eq_false, ite_false, ite_true, reduceIte, ne_eq, not_false_eq_true]

theorem bfx (d : Fin 32) (a : Fin 32) (b : Fin 32) : Statement (.bfx d a b) := by
  intro st ng sw tm p b_ hw_
  obtain ⟨ho, rfl, rfl, rfl, rfl, rfl⟩ := wf_scalar rfl hw_
  obtain ⟨f0, f1, f2, f3, f4, f5⟩ := fields0 (encode ⟨st, 0, false, false, false, 0, .bfx d a b⟩) 5 b.val a.val d.val 9 (b2n st)
    (by decide) b.isLt a.isLt d.isLt (by decide) (b2n_lt st)
    (show 0x24000005 + d.val * 2097152 + a.val * 65536 + b.val * 2048 + b2n st * 2147483648 + 0 * 8388608 + 0 * 4194304 + 0 * 2097152 + 0 * 1048576 + 0 * 8 = _ by omega)
  generalize encode _ = w at *
  simp only [decodeWord, decodeMaj09, sylS, f0, f1, f2, f3, f4, bit_of_fld _ f5, fin_self, and_self, true_and, and_true, not_true_eq_false, ite_false, ite_true, reduceIte, ne_eq, not_false_eq_true]

theorem bfxn (d : Fin 32) (a : Fin 32) (b : Fin 32) : Statement (.bfxn d a b) := by
  intro st ng sw tm p b_ hw_
  obtain ⟨ho, rfl, rfl, rfl, rfl, rfl⟩ := wf_scalar rfl hw_
  obtain ⟨f0, f1, f2, f3, f4, f5⟩ := fields0 (encode ⟨st, 0, false, false, false, 0, .bfxn d a b⟩) 6 b.val a.val d.val 9 (b2n st)
    (by decide) b.isLt a.isLt d.isLt (by decide) (b2n_lt st)
    (show 0x24000006 + d.val * 2097152 + a.val * 65536 + b.val * 2048 + b2n st * 2147483648 + 0 * 8388608 + 0 * 4194304 + 0 * 2097152 + 0 * 1048576 + 0 * 8 = _ by omega)
  generalize encode _ = w at *
  simp only [decodeWord, decodeMaj09, sylS, f0, f1, f2, f3, f4, bit_of_fld _ f5, fin_self, and_self, true_and, and_true, not_true_eq_false, ite_false, ite_true, reduceIte, ne_eq, not_false_eq_true]

theorem bfi (d : Fin 32) (a : Fin 32) (b : Fin 32) : Statement (.bfi d a b) := by
  intro st ng sw tm p b_ hw_
  obtain ⟨ho, rfl, rfl, rfl, rfl, rfl⟩ := wf_scalar rfl hw_
  obtain ⟨f0, f1, f2, f3, f4, f5⟩ := fields0 (encode ⟨st, 0, false, false, false, 0, .bfi d a b⟩) 7 b.val a.val d.val 9 (b2n st)
    (by decide) b.isLt a.isLt d.isLt (by decide) (b2n_lt st)
    (show 0x24000007 + d.val * 2097152 + a.val * 65536 + b.val * 2048 + b2n st * 2147483648 + 0 * 8388608 + 0 * 4194304 + 0 * 2097152 + 0 * 1048576 + 0 * 8 = _ by omega)
  generalize encode _ = w at *
  simp only [decodeWord, decodeMaj09, sylS, f0, f1, f2, f3, f4, bit_of_fld _ f5, fin_self, and_self, true_and, and_true, not_true_eq_false, ite_false, ite_true, reduceIte, ne_eq, not_false_eq_true]

theorem fshl (d : Fin 32) (a : Fin 32) (b : Fin 32) : Statement (.fshl d a b) := by
  intro st ng sw tm p b_ hw_
  obtain ⟨ho, rfl, rfl, rfl, rfl, rfl⟩ := wf_scalar rfl hw_
  obtain ⟨f0, f1, f2, f3, f4, f5⟩ := fields0 (encode ⟨st, 0, false, false, false, 0, .fshl d a b⟩) 8 b.val a.val d.val 9 (b2n st)
    (by decide) b.isLt a.isLt d.isLt (by decide) (b2n_lt st)
    (show 0x24000008 + d.val * 2097152 + a.val * 65536 + b.val * 2048 + b2n st * 2147483648 + 0 * 8388608 + 0 * 4194304 + 0 * 2097152 + 0 * 1048576 + 0 * 8 = _ by omega)
  generalize encode _ = w at *
  simp only [decodeWord, decodeMaj09, sylS, f0, f1, f2, f3, f4, bit_of_fld _ f5, fin_self, and_self, true_and, and_true, not_true_eq_false, ite_false, ite_true, reduceIte, ne_eq, not_false_eq_true]

theorem fshr (d : Fin 32) (a : Fin 32) (b : Fin 32) : Statement (.fshr d a b) := by
  intro st ng sw tm p b_ hw_
  obtain ⟨ho, rfl, rfl, rfl, rfl, rfl⟩ := wf_scalar rfl hw_
  obtain ⟨f0, f1, f2, f3, f4, f5⟩ := fields0 (encode ⟨st, 0, false, false, false, 0, .fshr d a b⟩) 9 b.val a.val d.val 9 (b2n st)
    (by decide) b.isLt a.isLt d.isLt (by decide) (b2n_lt st)
    (show 0x24000009 + d.val * 2097152 + a.val * 65536 + b.val * 2048 + b2n st * 2147483648 + 0 * 8388608 + 0 * 4194304 + 0 * 2097152 + 0 * 1048576 + 0 * 8 = _ by omega)
  generalize encode _ = w at *
  simp only [decodeWord, decodeMaj09, sylS, f0, f1, f2, f3, f4, bit_of_fld _ f5, fin_self, and_self, true_and, and_true, not_true_eq_false, ite_false, ite_true, reduceIte, ne_eq, not_false_eq_true]

theorem mul (d : Fin 32) (a : Fin 32) (b : Fin 32) : Statement (.mul d a b) := by
  intro st ng sw tm p b_ hw_
  obtain ⟨ho, rfl, rfl, rfl, rfl, rfl⟩ := wf_scalar rfl hw_
  obtain ⟨f0, f1, f2, f3, f4, f5⟩ := fields0 (encode ⟨st, 0, false, false, false, 0, .mul d a b⟩) 0 b.val a.val d.val 10 (b2n st)
    (by decide) b.isLt a.isLt d.isLt (by decide) (b2n_lt st)
    (show 0x28000000 + d.val * 2097152 + a.val * 65536 + b.val * 2048 + b2n st * 2147483648 + 0 * 8388608 + 0 * 4194304 + 0 * 2097152 + 0 * 1048576 + 0 * 8 = _ by omega)
  generalize encode _ = w at *
  simp only [decodeWord, decodeMaj0A, sylS, f0, f1, f2, f3, f4, bit_of_fld _ f5, fin_self, and_self, true_and, and_true, not_true_eq_false, ite_false, ite_true, reduceIte, ne_eq, not_false_eq_true]

theorem mulh (d : Fin 32) (a : Fin 32) (b : Fin 32) : Statement (.mulh d a b) := by
  intro st ng sw tm p b_ hw_
  obtain ⟨ho, rfl, rfl, rfl, rfl, rfl⟩ := wf_scalar rfl hw_
  obtain ⟨f0, f1, f2, f3, f4, f5⟩ := fields0 (encode ⟨st, 0, false, false, false, 0, .mulh d a b⟩) 1 b.val a.val d.val 10 (b2n st)
    (by decide) b.isLt a.isLt d.isLt (by decide) (b2n_lt st)
    (show 0x28000001 + d.val * 2097152 + a.val * 65536 + b.val * 2048 + b2n st * 2147483648 + 0 * 8388608 + 0 * 4194304 + 0 * 2097152 + 0 * 1048576 + 0 * 8 = _ by omega)
  generalize encode _ = w at *
  simp only [decodeWord, decodeMaj0A, sylS, f0, f1, f2, f3, f4, bit_of_fld _ f5, fin_self, and_self, true_and, and_true, not_true_eq_false, ite_false, ite_true, reduceIte, ne_eq, not_false_eq_true]

theorem mulhn (d : Fin 32) (a : Fin 32) (b : Fin 32) : Statement (.mulhn d a b) := by
  intro st ng sw tm p b_ hw_
  obtain ⟨ho, rfl, rfl, rfl, rfl, rfl⟩ := wf_scalar rfl hw_
  obtain ⟨f0, f1, f2, f3, f4, f5⟩ := fields0 (encode ⟨st, 0, false, false, false, 0, .mulhn d a b⟩) 2 b.val a.val d.val 10 (b2n st)
    (by decide) b.isLt a.isLt d.isLt (by decide) (b2n_lt st)
    (show 0x28000002 + d.val * 2097152 + a.val * 65536 + b.val * 2048 + b2n st * 2147483648 + 0 * 8388608 + 0 * 4194304 + 0 * 2097152 + 0 * 1048576 + 0 * 8 = _ by omega)
  generalize encode _ = w at *
  simp only [decodeWord, decodeMaj0A, sylS, f0, f1, f2, f3, f4, bit_of_fld _ f5, fin_self, and_self, true_and, and_true, not_true_eq_false, ite_false, ite_true, reduceIte, ne_eq, not_false_eq_true]

theorem div (d : Fin 32) (a : Fin 32) (b : Fin 32) : Statement (.div d a b) := by
  intro st ng sw tm p b_ hw_
  obtain ⟨ho, rfl, rfl, rfl, rfl, rfl⟩ := wf_scalar rfl hw_
  obtain ⟨f0, f1, f2, f3, f4, f5⟩ := fields0 (encode ⟨st, 0, false, false, false, 0, .div d a b⟩) 3 b.val a.val d.val 10 (b2n st)
    (by decide) b.isLt a.isLt d.isLt (by decide) (b2n_lt st)
    (show 0x28000003 + d.val * 2097152 + a.val * 65536 + b.val * 2048 + b2n st * 2147483648 + 0 * 8388608 + 0 * 4194304 + 0 * 2097152 + 0 * 1048576 + 0 * 8 = _ by omega)
  generalize encode _ = w at *
  simp only [decodeWord, decodeMaj0A, sylS, f0, f1, f2, f3, f4, bit_of_fld _ f5, fin_self, and_self, true_and, and_true, not_true_eq_false, ite_false, ite_true, reduceIte, ne_eq, not_false_eq_true]

theorem divn (d : Fin 32) (a : Fin 32) (b : Fin 32) : Statement (.divn d a b) := by
  intro st ng sw tm p b_ hw_
  obtain ⟨ho, rfl, rfl, rfl, rfl, rfl⟩ := wf_scalar rfl hw_
  obtain ⟨f0, f1, f2, f3, f4, f5⟩ := fields0 (encode ⟨st, 0, false, false, false, 0, .divn d a b⟩) 4 b.val a.val d.val 10 (b2n st)
    (by decide) b.isLt a.isLt d.isLt (by decide) (b2n_lt st)
    (show 0x28000004 + d.val * 2097152 + a.val * 65536 + b.val * 2048 + b2n st * 2147483648 + 0 * 8388608 + 0 * 4194304 + 0 * 2097152 + 0 * 1048576 + 0 * 8 = _ by omega)
  generalize encode _ = w at *
  simp only [decodeWord, decodeMaj0A, sylS, f0, f1, f2, f3, f4, bit_of_fld _ f5, fin_self, and_self, true_and, and_true, not_true_eq_false, ite_false, ite_true, reduceIte, ne_eq, not_false_eq_true]

theorem rem (d : Fin 32) (a : Fin 32) (b : Fin 32) : Statement (.rem d a b) := by
  intro st ng sw tm p b_ hw_
  obtain ⟨ho, rfl, rfl, rfl, rfl, rfl⟩ := wf_scalar rfl hw_
  obtain ⟨f0, f1, f2, f3, f4, f5⟩ := fields0 (encode ⟨st, 0, false, false, false, 0, .rem d a b⟩) 5 b.val a.val d.val 10 (b2n st)
    (by decide) b.isLt a.isLt d.isLt (by decide) (b2n_lt st)
    (show 0x28000005 + d.val * 2097152 + a.val * 65536 + b.val * 2048 + b2n st * 2147483648 + 0 * 8388608 + 0 * 4194304 + 0 * 2097152 + 0 * 1048576 + 0 * 8 = _ by omega)
  generalize encode _ = w at *
  simp only [decodeWord, decodeMaj0A, sylS, f0, f1, f2, f3, f4, bit_of_fld _ f5, fin_self, and_self, true_and, and_true, not_true_eq_false, ite_false, ite_true, reduceIte, ne_eq, not_false_eq_true]

theorem remn (d : Fin 32) (a : Fin 32) (b : Fin 32) : Statement (.remn d a b) := by
  intro st ng sw tm p b_ hw_
  obtain ⟨ho, rfl, rfl, rfl, rfl, rfl⟩ := wf_scalar rfl hw_
  obtain ⟨f0, f1, f2, f3, f4, f5⟩ := fields0 (encode ⟨st, 0, false, false, false, 0, .remn d a b⟩) 6 b.val a.val d.val 10 (b2n st)
    (by decide) b.isLt a.isLt d.isLt (by decide) (b2n_lt st)
    (show 0x28000006 + d.val * 2097152 + a.val * 65536 + b.val * 2048 + b2n st * 2147483648 + 0 * 8388608 + 0 * 4194304 + 0 * 2097152 + 0 * 1048576 + 0 * 8 = _ by omega)
  generalize encode _ = w at *
  simp only [decodeWord, decodeMaj0A, sylS, f0, f1, f2, f3, f4, bit_of_fld _ f5, fin_self, and_self, true_and, and_true, not_true_eq_false, ite_false, ite_true, reduceIte, ne_eq, not_false_eq_true]

theorem ldB (v : Fin 32) (b : Fin 32) (im : Fin 4) (o : BitVec 7) : Statement (.ldB v b im o) := by
  intro st ng sw tm p b_ hw_
  obtain ⟨ho, rfl, rfl, rfl⟩ := wf_guarded rfl hw_
  obtain ⟨f0, f1, f2, f3, f4, f5, f6, f7, f8, f9⟩ := fields19 (encode ⟨st, p, ng, false, false, 0, .ldB v b im o⟩) o.toNat 0 im.val 0 b.val v.val (b2n ng) p.val 11 (b2n st)
    o.isLt (by decide) im.isLt (by decide) b.isLt v.isLt (b2n_lt ng) p.isLt (by decide) (b2n_lt st)
    (show 0x2C000000 + v.val * 131072 + b.val * 4096 + im.val * 256 + o.toNat + b2n st * 2147483648 + p.val * 8388608 + b2n ng * 4194304 + 0 * 2097152 + 0 * 1048576 + 0 * 8 = _ by omega)
  generalize encode _ = w at *
  simp only [decodeWord, decodeMaj0B, sylG, f0, f1, f2, f3, f4, f5, f6, f7, bit_of_fld _ f9, bit_of_fld _ f8, fin_self, bv_self, and_self, true_and, and_true, not_true_eq_false, ite_false, ite_true, reduceIte, ne_eq, not_false_eq_true]

theorem ldBn (v : Fin 32) (b : Fin 32) (im : Fin 4) (o : BitVec 7) : Statement (.ldBn v b im o) := by
  intro st ng sw tm p b_ hw_
  obtain ⟨ho, rfl, rfl, rfl⟩ := wf_guarded rfl hw_
  obtain ⟨f0, f1, f2, f3, f4, f5, f6, f7, f8, f9⟩ := fields19 (encode ⟨st, p, ng, false, false, 0, .ldBn v b im o⟩) o.toNat 1 im.val 0 b.val v.val (b2n ng) p.val 11 (b2n st)
    o.isLt (by decide) im.isLt (by decide) b.isLt v.isLt (b2n_lt ng) p.isLt (by decide) (b2n_lt st)
    (show 0x2C000080 + v.val * 131072 + b.val * 4096 + im.val * 256 + o.toNat + b2n st * 2147483648 + p.val * 8388608 + b2n ng * 4194304 + 0 * 2097152 + 0 * 1048576 + 0 * 8 = _ by omega)
  generalize encode _ = w at *
  simp only [decodeWord, decodeMaj0B, sylG, f0, f1, f2, f3, f4, f5, f6, f7, bit_of_fld _ f9, bit_of_fld _ f8, fin_self, bv_self, and_self, true_and, and_true, not_true_eq_false, ite_false, ite_true, reduceIte, ne_eq, not_false_eq_true]

theorem ldH (v : Fin 32) (b : Fin 32) (im : Fin 4) (o : BitVec 7) : Statement (.ldH v b im o) := by
  intro st ng sw tm p b_ hw_
  obtain ⟨ho, rfl, rfl, rfl⟩ := wf_guarded rfl hw_
  obtain ⟨f0, f1, f2, f3, f4, f5, f6, f7, f8, f9⟩ := fields19 (encode ⟨st, p, ng, false, false, 0, .ldH v b im o⟩) o.toNat 0 im.val 1 b.val v.val (b2n ng) p.val 11 (b2n st)
    o.isLt (by decide) im.isLt (by decide) b.isLt v.isLt (b2n_lt ng) p.isLt (by decide) (b2n_lt st)
    (show 0x2C000400 + v.val * 131072 + b.val * 4096 + im.val * 256 + o.toNat + b2n st * 2147483648 + p.val * 8388608 + b2n ng * 4194304 + 0 * 2097152 + 0 * 1048576 + 0 * 8 = _ by omega)
  generalize encode _ = w at *
  simp only [decodeWord, decodeMaj0B, sylG, f0, f1, f2, f3, f4, f5, f6, f7, bit_of_fld _ f9, bit_of_fld _ f8, fin_self, bv_self, and_self, true_and, and_true, not_true_eq_false, ite_false, ite_true, reduceIte, ne_eq, not_false_eq_true]

theorem ldHn (v : Fin 32) (b : Fin 32) (im : Fin 4) (o : BitVec 7) : Statement (.ldHn v b im o) := by
  intro st ng sw tm p b_ hw_
  obtain ⟨ho, rfl, rfl, rfl⟩ := wf_guarded rfl hw_
  obtain ⟨f0, f1, f2, f3, f4, f5, f6, f7, f8, f9⟩ := fields19 (encode ⟨st, p, ng, false, false, 0, .ldHn v b im o⟩) o.toNat 1 im.val 1 b.val v.val (b2n ng) p.val 11 (b2n st)
    o.isLt (by decide) im.isLt (by decide) b.isLt v.isLt (b2n_lt ng) p.isLt (by decide) (b2n_lt st)
    (show 0x2C000480 + v.val * 131072 + b.val * 4096 + im.val * 256 + o.toNat + b2n st * 2147483648 + p.val * 8388608 + b2n ng * 4194304 + 0 * 2097152 + 0 * 1048576 + 0 * 8 = _ by omega)
  generalize encode _ = w at *
  simp only [decodeWord, decodeMaj0B, sylG, f0, f1, f2, f3, f4, f5, f6, f7, bit_of_fld _ f9, bit_of_fld _ f8, fin_self, bv_self, and_self, true_and, and_true, not_true_eq_false, ite_false, ite_true, reduceIte, ne_eq, not_false_eq_true]

theorem ldW (v : Fin 32) (b : Fin 32) (im : Fin 4) (o : BitVec 7) : Statement (.ldW v b im o) := by
  intro st ng sw tm p b_ hw_
  obtain ⟨ho, rfl, rfl, rfl⟩ := wf_guarded rfl hw_
  obtain ⟨f0, f1, f2, f3, f4, f5, f6, f7, f8, f9⟩ := fields19 (encode ⟨st, p, ng, false, false, 0, .ldW v b im o⟩) o.toNat 0 im.val 2 b.val v.val (b2n ng) p.val 11 (b2n st)
    o.isLt (by decide) im.isLt (by decide) b.isLt v.isLt (b2n_lt ng) p.isLt (by decide) (b2n_lt st)
    (show 0x2C000800 + v.val * 131072 + b.val * 4096 + im.val * 256 + o.toNat + b2n st * 2147483648 + p.val * 8388608 + b2n ng * 4194304 + 0 * 2097152 + 0 * 1048576 + 0 * 8 = _ by omega)
  generalize encode _ = w at *
  simp only [decodeWord, decodeMaj0B, sylG, f0, f1, f2, f3, f4, f5, f6, f7, bit_of_fld _ f9, bit_of_fld _ f8, fin_self, bv_self, and_self, true_and, and_true, not_true_eq_false, ite_false, ite_true, reduceIte, ne_eq, not_false_eq_true]

theorem ldWn (v : Fin 32) (b : Fin 32) (im : Fin 4) (o : BitVec 7) : Statement (.ldWn v b im o) := by
  intro st ng sw tm p b_ hw_
  obtain ⟨ho, rfl, rfl, rfl⟩ := wf_guarded rfl hw_
  obtain ⟨f0, f1, f2, f3, f4, f5, f6, f7, f8, f9⟩ := fields19 (encode ⟨st, p, ng, false, false, 0, .ldWn v b im o⟩) o.toNat 1 im.val 2 b.val v.val (b2n ng) p.val 11 (b2n st)
    o.isLt (by decide) im.isLt (by decide) b.isLt v.isLt (b2n_lt ng) p.isLt (by decide) (b2n_lt st)
    (show 0x2C000880 + v.val * 131072 + b.val * 4096 + im.val * 256 + o.toNat + b2n st * 2147483648 + p.val * 8388608 + b2n ng * 4194304 + 0 * 2097152 + 0 * 1048576 + 0 * 8 = _ by omega)
  generalize encode _ = w at *
  simp only [decodeWord, decodeMaj0B, sylG, f0, f1, f2, f3, f4, f5, f6, f7, bit_of_fld _ f9, bit_of_fld _ f8, fin_self, bv_self, and_self, true_and, and_true, not_true_eq_false, ite_false, ite_true, reduceIte, ne_eq, not_false_eq_true]

theorem ldD (v : Fin 32) (b : Fin 32) (im : Fin 4) (o : BitVec 7) : Statement (.ldD v b im o) := by
  intro st ng sw tm p b_ hw_
  obtain ⟨ho, rfl, rfl, rfl⟩ := wf_guarded rfl hw_
  obtain ⟨f0, f1, f2, f3, f4, f5, f6, f7, f8, f9⟩ := fields19 (encode ⟨st, p, ng, false, false, 0, .ldD v b im o⟩) o.toNat 0 im.val 3 b.val v.val (b2n ng) p.val 11 (b2n st)
    o.isLt (by decide) im.isLt (by decide) b.isLt v.isLt (b2n_lt ng) p.isLt (by decide) (b2n_lt st)
    (show 0x2C000C00 + v.val * 131072 + b.val * 4096 + im.val * 256 + o.toNat + b2n st * 2147483648 + p.val * 8388608 + b2n ng * 4194304 + 0 * 2097152 + 0 * 1048576 + 0 * 8 = _ by omega)
  generalize encode _ = w at *
  simp only [decodeWord, decodeMaj0B, sylG, f0, f1, f2, f3, f4, f5, f6, f7, bit_of_fld _ f9, bit_of_fld _ f8, fin_self, bv_self, and_self, true_and, and_true, not_true_eq_false, ite_false, ite_true, reduceIte, ne_eq, not_false_eq_true]

theorem stB (v : Fin 32) (b : Fin 32) (im : Fin 4) (o : BitVec 7) : Statement (.stB v b im o) := by
  intro st ng sw tm p b_ hw_
  obtain ⟨ho, rfl, rfl, rfl⟩ := wf_guarded rfl hw_
  obtain ⟨f0, f1, f2, f3, f4, f5, f6, f7, f8, f9⟩ := fields19 (encode ⟨st, p, ng, false, false, 0, .stB v b im o⟩) o.toNat 0 im.val 0 b.val v.val (b2n ng) p.val 12 (b2n st)
    o.isLt (by decide) im.isLt (by decide) b.isLt v.isLt (b2n_lt ng) p.isLt (by decide) (b2n_lt st)
    (show 0x30000000 + v.val * 131072 + b.val * 4096 + im.val * 256 + o.toNat + b2n st * 2147483648 + p.val * 8388608 + b2n ng * 4194304 + 0 * 2097152 + 0 * 1048576 + 0 * 8 = _ by omega)
  generalize encode _ = w at *
  simp +decide only [decodeWord, decodeMaj0C, sylG, f0, f1, f2, f3, f4, f5, f6, f7, bit_of_fld _ f9, bit_of_fld _ f8, fin_self, bv_self, and_self, true_and, and_true, not_true_eq_false, ite_false, ite_true, reduceIte, ne_eq, not_false_eq_true]

theorem stH (v : Fin 32) (b : Fin 32) (im : Fin 4) (o : BitVec 7) : Statement (.stH v b im o) := by
  intro st ng sw tm p b_ hw_
  obtain ⟨ho, rfl, rfl, rfl⟩ := wf_guarded rfl hw_
  obtain ⟨f0, f1, f2, f3, f4, f5, f6, f7, f8, f9⟩ := fields19 (encode ⟨st, p, ng, false, false, 0, .stH v b im o⟩) o.toNat 0 im.val 1 b.val v.val (b2n ng) p.val 12 (b2n st)
    o.isLt (by decide) im.isLt (by decide) b.isLt v.isLt (b2n_lt ng) p.isLt (by decide) (b2n_lt st)
    (show 0x30000400 + v.val * 131072 + b.val * 4096 + im.val * 256 + o.toNat + b2n st * 2147483648 + p.val * 8388608 + b2n ng * 4194304 + 0 * 2097152 + 0 * 1048576 + 0 * 8 = _ by omega)
  generalize encode _ = w at *
  simp +decide only [decodeWord, decodeMaj0C, sylG, f0, f1, f2, f3, f4, f5, f6, f7, bit_of_fld _ f9, bit_of_fld _ f8, fin_self, bv_self, and_self, true_and, and_true, not_true_eq_false, ite_false, ite_true, reduceIte, ne_eq, not_false_eq_true]

theorem stW (v : Fin 32) (b : Fin 32) (im : Fin 4) (o : BitVec 7) : Statement (.stW v b im o) := by
  intro st ng sw tm p b_ hw_
  obtain ⟨ho, rfl, rfl, rfl⟩ := wf_guarded rfl hw_
  obtain ⟨f0, f1, f2, f3, f4, f5, f6, f7, f8, f9⟩ := fields19 (encode ⟨st, p, ng, false, false, 0, .stW v b im o⟩) o.toNat 0 im.val 2 b.val v.val (b2n ng) p.val 12 (b2n st)
    o.isLt (by decide) im.isLt (by decide) b.isLt v.isLt (b2n_lt ng) p.isLt (by decide) (b2n_lt st)
    (show 0x30000800 + v.val * 131072 + b.val * 4096 + im.val * 256 + o.toNat + b2n st * 2147483648 + p.val * 8388608 + b2n ng * 4194304 + 0 * 2097152 + 0 * 1048576 + 0 * 8 = _ by omega)
  generalize encode _ = w at *
  simp +decide only [decodeWord, decodeMaj0C, sylG, f0, f1, f2, f3, f4, f5, f6, f7, bit_of_fld _ f9, bit_of_fld _ f8, fin_self, bv_self, and_self, true_and, and_true, not_true_eq_false, ite_false, ite_true, reduceIte, ne_eq, not_false_eq_true]

theorem stD (v : Fin 32) (b : Fin 32) (im : Fin 4) (o : BitVec 7) : Statement (.stD v b im o) := by
  intro st ng sw tm p b_ hw_
  obtain ⟨ho, rfl, rfl, rfl⟩ := wf_guarded rfl hw_
  obtain ⟨f0, f1, f2, f3, f4, f5, f6, f7, f8, f9⟩ := fields19 (encode ⟨st, p, ng, false, false, 0, .stD v b im o⟩) o.toNat 0 im.val 3 b.val v.val (b2n ng) p.val 12 (b2n st)
    o.isLt (by decide) im.isLt (by decide) b.isLt v.isLt (b2n_lt ng) p.isLt (by decide) (b2n_lt st)
    (show 0x30000C00 + v.val * 131072 + b.val * 4096 + im.val * 256 + o.toNat + b2n st * 2147483648 + p.val * 8388608 + b2n ng * 4194304 + 0 * 2097152 + 0 * 1048576 + 0 * 8 = _ by omega)
  generalize encode _ = w at *
  simp +decide only [decodeWord, decodeMaj0C, sylG, f0, f1, f2, f3, f4, f5, f6, f7, bit_of_fld _ f9, bit_of_fld _ f8, fin_self, bv_self, and_self, true_and, and_true, not_true_eq_false, ite_false, ite_true, reduceIte, ne_eq, not_false_eq_true]

theorem stq (q : Fin 4) (b : Fin 32) (im : Fin 4) (o : BitVec 7) : Statement (.stq q b im o) := by
  intro st ng sw tm p b_ hw_
  obtain ⟨ho, rfl, rfl, rfl⟩ := wf_guarded rfl hw_
  obtain ⟨f0, f1, f2, f3, f4, f5, f6, f7, f8, f9, f10⟩ := fields20 (encode ⟨st, p, ng, false, false, 0, .stq q b im o⟩) o.toNat 1 im.val 3 b.val q.val 0 (b2n ng) p.val 12 (b2n st)
    o.isLt (by decide) im.isLt (by decide) b.isLt q.isLt (by decide) (b2n_lt ng) p.isLt (by decide) (b2n_lt st)
    (show 0x30000C80 + q.val * 131072 + b.val * 4096 + im.val * 256 + o.toNat + b2n st * 2147483648 + p.val * 8388608 + b2n ng * 4194304 + 0 * 2097152 + 0 * 1048576 + 0 * 8 = _ by omega)
  generalize encode _ = w at *
  simp only [decodeWord, decodeMaj0C, sylG, f0, f1, f2, f3, f4, f5, f6, f7, f8, bit_of_fld _ f10, bit_of_fld _ f9, fin_self, bv_self, and_self, true_and, and_true, not_true_eq_false, ite_false, ite_true, reduceIte, ne_eq, not_false_eq_true]

theorem shw (v : Fin 32) (e : Fin 4) (r : Fin 4) (f : BitVec 4) : Statement (.shw v e r f) := by
  intro st ng sw tm p b_ hw_
  obtain ⟨ho, rfl, rfl, rfl⟩ := wf_guarded rfl hw_
  obtain ⟨f0, f1, f2, f3, f4, f5, f6, f7, f8, f9⟩ := fields21 (encode ⟨st, p, ng, false, false, 0, .shw v e r f⟩) 0 f.toNat r.val e.val 0 v.val (b2n ng) p.val 13 (b2n st)
    (by decide) f.isLt r.isLt e.isLt (by decide) v.isLt (b2n_lt ng) p.isLt (by decide) (b2n_lt st)
    (show 0x34000000 + v.val * 131072 + e.val * 1024 + r.val * 256 + f.toNat * 16 + b2n st * 2147483648 + p.val * 8388608 + b2n ng * 4194304 + 0 * 2097152 + 0 * 1048576 + 0 * 8 = _ by omega)
  generalize encode _ = w at *
  have hc := (Bool.and_eq_true_iff.mp (show (decide (f.toNat < 10) && decide (e.val < 3)) = true from ho)).imp of_decide_eq_true of_decide_eq_true
  simp only [decodeWord, decodeMaj0D, sylG, f0, f1, f2, f3, f4, f5, f6, f7, bit_of_fld _ f9, bit_of_fld _ f8, fin_self, bv_self, hc, and_self, true_and, and_true, not_true_eq_false, ite_false, ite_true, reduceIte, ne_eq, not_false_eq_true, hc.1, hc.2]

theorem shg (v : Fin 32) (e : Fin 4) (r : Fin 4) (f : BitVec 4) (h : Bool) : Statement (.shg v e r f h) := by
  intro st ng sw tm p b_ hw_
  obtain ⟨ho, rfl, rfl, rfl⟩ := wf_guarded rfl hw_
  obtain ⟨f0, f1, f2, f3, f4, f5, f6, f7, f8, f9, f10⟩ := fields22 (encode ⟨st, p, ng, false, false, 0, .shg v e r f h⟩) 0 h.toNat f.toNat r.val e.val 1 v.val (b2n ng) p.val 13 (b2n st)
    (by decide) (toNat_lt h) f.isLt r.isLt e.isLt (by decide) v.isLt (b2n_lt ng) p.isLt (by decide) (b2n_lt st)
    (show 0x34001000 + v.val * 131072 + e.val * 1024 + r.val * 256 + f.toNat * 16 + h.toNat * 8 + b2n st * 2147483648 + p.val * 8388608 + b2n ng * 4194304 + 0 * 2097152 + 0 * 1048576 + 0 * 8 = _ by omega)
  generalize encode _ = w at *
  have hc := (Bool.and_eq_true_iff.mp (show (decide (f.toNat < 10) && decide (e.val < 3)) = true from ho)).imp of_decide_eq_true of_decide_eq_true
  simp only [decodeWord, decodeMaj0D, sylG, f0, f1, f2, f3, f4, f5, f6, f8, bit_of_fld _ f10, bit_of_fld _ f9, bit_of_toNat _ f7, fin_self, bv_self, hc, and_self, true_and, and_true, not_true_eq_false, ite_false, ite_true, reduceIte, ne_eq, not_false_eq_true, hc.1, hc.2]

theorem ctlr (v : Fin 32) (c : BitVec 12) : Statement (.ctlr v c) := by
  intro st ng sw tm p b_ hw_
  obtain ⟨ho, rfl, rfl, rfl⟩ := wf_guarded rfl hw_
  obtain ⟨f0, f1, f2, f3, f4, f5, f6⟩ := fields23 (encode ⟨st, p, ng, false, false, 0, .ctlr v c⟩) c.toNat 2 v.val (b2n ng) p.val 13 (b2n st)
    c.isLt (by decide) v.isLt (b2n_lt ng) p.isLt (by decide) (b2n_lt st)
    (show 0x34002000 + v.val * 131072 + c.toNat + b2n st * 2147483648 + p.val * 8388608 + b2n ng * 4194304 + 0 * 2097152 + 0 * 1048576 + 0 * 8 = _ by omega)
  generalize encode _ = w at *
  have hc : ctlAllocated c.toNat = true := ho
  simp only [decodeWord, decodeMaj0D, sylG, f0, f1, f2, f3, f4, bit_of_fld _ f6, bit_of_fld _ f5, fin_self, bv_self, hc, and_self, true_and, and_true, not_true_eq_false, ite_false, ite_true, reduceIte, ne_eq, not_false_eq_true]

theorem ctlrQ (q : Fin 4) (c : BitVec 12) : Statement (.ctlrQ q c) := by
  intro st ng sw tm p b_ hw_
  obtain ⟨ho, rfl, rfl, rfl⟩ := wf_guarded rfl hw_
  obtain ⟨f0, f1, f2, f3, f4, f5, f6, f7⟩ := fields24 (encode ⟨st, p, ng, false, false, 0, .ctlrQ q c⟩) c.toNat 3 q.val 0 (b2n ng) p.val 13 (b2n st)
    c.isLt (by decide) q.isLt (by decide) (b2n_lt ng) p.isLt (by decide) (b2n_lt st)
    (show 0x34003000 + q.val * 131072 + c.toNat + b2n st * 2147483648 + p.val * 8388608 + b2n ng * 4194304 + 0 * 2097152 + 0 * 1048576 + 0 * 8 = _ by omega)
  generalize encode _ = w at *
  have hc : ctlAllocated c.toNat = true := ho
  simp only [decodeWord, decodeMaj0D, sylG, f0, f1, f2, f3, f4, f5, bit_of_fld _ f7, bit_of_fld _ f6, fin_self, bv_self, hc, and_self, true_and, and_true, not_true_eq_false, ite_false, ite_true, reduceIte, ne_eq, not_false_eq_true]

theorem ctlw (v : Fin 32) (c : BitVec 12) : Statement (.ctlw v c) := by
  intro st ng sw tm p b_ hw_
  obtain ⟨ho, rfl, rfl, rfl⟩ := wf_guarded rfl hw_
  obtain ⟨f0, f1, f2, f3, f4, f5, f6⟩ := fields23 (encode ⟨st, p, ng, false, false, 0, .ctlw v c⟩) c.toNat 4 v.val (b2n ng) p.val 13 (b2n st)
    c.isLt (by decide) v.isLt (b2n_lt ng) p.isLt (by decide) (b2n_lt st)
    (show 0x34004000 + v.val * 131072 + c.toNat + b2n st * 2147483648 + p.val * 8388608 + b2n ng * 4194304 + 0 * 2097152 + 0 * 1048576 + 0 * 8 = _ by omega)
  generalize encode _ = w at *
  have hc : ctlAllocated c.toNat = true := ho
  simp only [decodeWord, decodeMaj0D, sylG, f0, f1, f2, f3, f4, bit_of_fld _ f6, bit_of_fld _ f5, fin_self, bv_self, hc, and_self, true_and, and_true, not_true_eq_false, ite_false, ite_true, reduceIte, ne_eq, not_false_eq_true]

theorem br (d : BitVec 20) : Statement (.br d) := by
  intro st ng sw tm p b_ hw_
  obtain ⟨ho, rfl, rfl, rfl⟩ := wf_guarded rfl hw_
  obtain ⟨f0, f1, f2, f3, f4, f5⟩ := fields25 (encode ⟨st, p, ng, false, false, 0, .br d⟩) d.toNat 0 (b2n ng) p.val 14 (b2n st)
    d.isLt (by decide) (b2n_lt ng) p.isLt (by decide) (b2n_lt st)
    (show 0x38000000 + d.toNat + b2n st * 2147483648 + p.val * 8388608 + b2n ng * 4194304 + 0 * 2097152 + 0 * 1048576 + 0 * 8 = _ by omega)
  generalize encode _ = w at *
  simp only [decodeWord, decodeMaj0E, sylG, f0, f1, f2, f3, bit_of_fld _ f5, bit_of_fld _ f4, fin_self, bv_self, and_self, true_and, and_true, not_true_eq_false, ite_false, ite_true, reduceIte, ne_eq, not_false_eq_true]

theorem brcNz (c : Fin 32) (d : BitVec 14) : Statement (.brcNz c d) := by
  intro st ng sw tm p b_ hw_
  obtain ⟨ho, rfl, rfl, rfl⟩ := wf_guarded rfl hw_
  obtain ⟨f0, f1, f2, f3, f4, f5, f6, f7⟩ := fields26 (encode ⟨st, p, ng, false, false, 0, .brcNz c d⟩) d.toNat 0 c.val 1 (b2n ng) p.val 14 (b2n st)
    d.isLt (by decide) c.isLt (by decide) (b2n_lt ng) p.isLt (by decide) (b2n_lt st)
    (show 0x38100000 + c.val * 32768 + d.toNat + b2n st * 2147483648 + p.val * 8388608 + b2n ng * 4194304 + 0 * 2097152 + 0 * 1048576 + 0 * 8 = _ by omega)
  generalize encode _ = w at *
  simp only [decodeWord, decodeMaj0E, sylG, f0, f1, f2, f3, f4, f5, bit_of_fld _ f7, bit_of_fld _ f6, fin_self, bv_self, and_self, true_and, and_true, not_true_eq_false, ite_false, ite_true, reduceIte, ne_eq, not_false_eq_true]

theorem brcZ (c : Fin 32) (d : BitVec 14) : Statement (.brcZ c d) := by
  intro st ng sw tm p b_ hw_
  obtain ⟨ho, rfl, rfl, rfl⟩ := wf_guarded rfl hw_
  obtain ⟨f0, f1, f2, f3, f4, f5, f6, f7⟩ := fields26 (encode ⟨st, p, ng, false, false, 0, .brcZ c d⟩) d.toNat 1 c.val 1 (b2n ng) p.val 14 (b2n st)
    d.isLt (by decide) c.isLt (by decide) (b2n_lt ng) p.isLt (by decide) (b2n_lt st)
    (show 0x38104000 + c.val * 32768 + d.toNat + b2n st * 2147483648 + p.val * 8388608 + b2n ng * 4194304 + 0 * 2097152 + 0 * 1048576 + 0 * 8 = _ by omega)
  generalize encode _ = w at *
  simp +decide only [decodeWord, decodeMaj0E, sylG, f0, f1, f2, f3, f4, f5, bit_of_fld _ f7, bit_of_fld _ f6, fin_self, bv_self, and_self, true_and, and_true, not_true_eq_false, ite_false, ite_true, reduceIte, ne_eq, not_false_eq_true]

theorem call (d : BitVec 20) : Statement (.call d) := by
  intro st ng sw tm p b_ hw_
  obtain ⟨ho, rfl, rfl, rfl⟩ := wf_guarded rfl hw_
  obtain ⟨f0, f1, f2, f3, f4, f5⟩ := fields25 (encode ⟨st, p, ng, false, false, 0, .call d⟩) d.toNat 2 (b2n ng) p.val 14 (b2n st)
    d.isLt (by decide) (b2n_lt ng) p.isLt (by decide) (b2n_lt st)
    (show 0x38200000 + d.toNat + b2n st * 2147483648 + p.val * 8388608 + b2n ng * 4194304 + 0 * 2097152 + 0 * 1048576 + 0 * 8 = _ by omega)
  generalize encode _ = w at *
  simp only [decodeWord, decodeMaj0E, sylG, f0, f1, f2, f3, bit_of_fld _ f5, bit_of_fld _ f4, fin_self, bv_self, and_self, true_and, and_true, not_true_eq_false, ite_false, ite_true, reduceIte, ne_eq, not_false_eq_true]

theorem jmp (a : Fin 32) : Statement (.jmp a) := by
  intro st ng sw tm p b_ hw_
  obtain ⟨ho, rfl, rfl, rfl⟩ := wf_guarded rfl hw_
  obtain ⟨f0, f1, f2, f3, f4, f5, f6⟩ := fields27 (encode ⟨st, p, ng, false, false, 0, .jmp a⟩) 0 a.val 0 (b2n ng) p.val 15 (b2n st)
    (by decide) a.isLt (by decide) (b2n_lt ng) p.isLt (by decide) (b2n_lt st)
    (show 0x3C000000 + a.val * 32768 + b2n st * 2147483648 + p.val * 8388608 + b2n ng * 4194304 + 0 * 2097152 + 0 * 1048576 + 0 * 8 = _ by omega)
  generalize encode _ = w at *
  simp only [decodeWord, decodeMaj0F, sylG, f0, f1, f2, f3, f4, bit_of_fld _ f6, bit_of_fld _ f5, fin_self, and_self, true_and, and_true, not_true_eq_false, ite_false, ite_true, reduceIte, ne_eq, not_false_eq_true]

theorem loop (l : Fin 8) (c : Fin 32) (e : BitVec 12) : Statement (.loop l c e) := by
  intro st ng sw tm p b_ hw_
  obtain ⟨ho, rfl, rfl, rfl⟩ := wf_guarded rfl hw_
  obtain ⟨f0, f1, f2, f3, f4, f5, f6, f7⟩ := fields28 (encode ⟨st, p, ng, false, false, 0, .loop l c e⟩) e.toNat c.val l.val 1 (b2n ng) p.val 15 (b2n st)
    e.isLt c.isLt l.isLt (by decide) (b2n_lt ng) p.isLt (by decide) (b2n_lt st)
    (show 0x3C100000 + l.val * 131072 + c.val * 4096 + e.toNat + b2n st * 2147483648 + p.val * 8388608 + b2n ng * 4194304 + 0 * 2097152 + 0 * 1048576 + 0 * 8 = _ by omega)
  generalize encode _ = w at *
  have hc := (Bool.and_eq_true_iff.mp (show (decide (l.val < 6) && decide (e ≠ 0)) = true from ho)).imp of_decide_eq_true (fun h => bv_ne (of_decide_eq_true h))
  simp only [decodeWord, decodeMaj0F, sylG, f0, f1, f2, f3, f4, f5, bit_of_fld _ f7, bit_of_fld _ f6, fin_self, bv_self, hc, and_self, true_and, and_true, not_true_eq_false, ite_false, ite_true, reduceIte, ne_eq, not_false_eq_true, hc.1, hc.2]

theorem loopi (l : Fin 8) (k : BitVec 9) (e : BitVec 8) : Statement (.loopi l k e) := by
  intro st ng sw tm p b_ hw_
  obtain ⟨ho, rfl, rfl, rfl⟩ := wf_guarded rfl hw_
  obtain ⟨f0, f1, f2, f3, f4, f5, f6, f7⟩ := fields29 (encode ⟨st, p, ng, false, false, 0, .loopi l k e⟩) e.toNat k.toNat l.val 2 (b2n ng) p.val 15 (b2n st)
    e.isLt k.isLt l.isLt (by decide) (b2n_lt ng) p.isLt (by decide) (b2n_lt st)
    (show 0x3C200000 + l.val * 131072 + k.toNat * 256 + e.toNat + b2n st * 2147483648 + p.val * 8388608 + b2n ng * 4194304 + 0 * 2097152 + 0 * 1048576 + 0 * 8 = _ by omega)
  generalize encode _ = w at *
  have hc := (Bool.and_eq_true_iff.mp (show (decide (l.val < 6) && decide (e ≠ 0)) = true from ho)).imp of_decide_eq_true (fun h => bv_ne (of_decide_eq_true h))
  simp only [decodeWord, decodeMaj0F, sylG, f0, f1, f2, f3, f4, f5, bit_of_fld _ f7, bit_of_fld _ f6, fin_self, bv_self, hc, and_self, true_and, and_true, not_true_eq_false, ite_false, ite_true, reduceIte, ne_eq, not_false_eq_true, hc.1, hc.2]

theorem lstr (l : Fin 8) (k : Fin 4) (e : Fin 4) (r : Fin 4) (g : Fin 32) : Statement (.lstr l k e r g) := by
  intro st ng sw tm p b_ hw_
  obtain ⟨ho, rfl, rfl, rfl⟩ := wf_guarded rfl hw_
  obtain ⟨f0, f1, f2, f3, f4, f5, f6, f7, f8, f9, f10⟩ := fields30 (encode ⟨st, p, ng, false, false, 0, .lstr l k e r g⟩) 0 g.val r.val e.val k.val l.val 3 (b2n ng) p.val 15 (b2n st)
    (by decide) g.isLt r.isLt e.isLt k.isLt l.isLt (by decide) (b2n_lt ng) p.isLt (by decide) (b2n_lt st)
    (show 0x3C300000 + l.val * 131072 + k.val * 32768 + e.val * 8192 + r.val * 2048 + g.val * 64 + b2n st * 2147483648 + p.val * 8388608 + b2n ng * 4194304 + 0 * 2097152 + 0 * 1048576 + 0 * 8 = _ by omega)
  generalize encode _ = w at *
  have hc := (Bool.and_eq_true_iff.mp (show (decide (l.val < 6) && decide (e.val < 3)) = true from ho)).imp of_decide_eq_true of_decide_eq_true
  simp only [decodeWord, decodeMaj0F, sylG, f0, f1, f2, f3, f4, f5, f6, f7, f8, bit_of_fld _ f10, bit_of_fld _ f9, fin_self, hc, and_self, true_and, and_true, not_true_eq_false, ite_false, ite_true, reduceIte, ne_eq, not_false_eq_true, hc.1, hc.2]

theorem nop : Statement (.nop) := by
  intro st ng sw tm p b_ hw_
  obtain ⟨ho, rfl, rfl, rfl⟩ := wf_guarded rfl hw_
  obtain ⟨f0, f1, f2, f3, f4, f5, f6, f7, f8, f9, -, -, -, -, -⟩ := fields31 (encode ⟨st, p, ng, false, false, 0, .nop⟩) 0 0 0 0 0 0 0 0 (b2n ng) p.val 16 (b2n st)
    (by decide) (by decide) (by decide) (by decide) (by decide) (by decide) (by decide) (by decide) (b2n_lt ng) p.isLt (by decide) (b2n_lt st)
    (show 0x40000000 + b2n st * 2147483648 + p.val * 8388608 + b2n ng * 4194304 + 0 * 2097152 + 0 * 1048576 + 0 * 8 = _ by omega)
  generalize encode _ = w at *
  simp only [decodeWord, decodeMaj10, decodeSys, sylG, f0, f1, f2, f3, f4, f5, f6, f7, bit_of_fld _ f9, bit_of_fld _ f8, fin_self, and_self, true_and, and_true, not_true_eq_false, ite_false, ite_true, reduceIte, ne_eq, not_false_eq_true]

theorem trap (im : BitVec 15) : Statement (.trap im) := by
  intro st ng sw tm p b_ hw_
  obtain ⟨ho, rfl, rfl, rfl⟩ := wf_guarded rfl hw_
  obtain ⟨f0, f1, f2, f3, f4, f5, f6, f7, f8, f9⟩ := fields32 (encode ⟨st, p, ng, false, false, 0, .trap im⟩) im.toNat 1 0 0 0 (b2n ng) p.val 16 (b2n st)
    im.isLt (by decide) (by decide) (by decide) (by decide) (b2n_lt ng) p.isLt (by decide) (b2n_lt st)
    (show 0x40008000 + im.toNat + b2n st * 2147483648 + p.val * 8388608 + b2n ng * 4194304 + 0 * 2097152 + 0 * 1048576 + 0 * 8 = _ by omega)
  generalize encode _ = w at *
  simp only [decodeWord, decodeMaj10, decodeSys, sylG, f0, f1, f2, f3, f4, f5, f6, f7, bit_of_fld _ f9, bit_of_fld _ f8, fin_self, bv_self, and_self, true_and, and_true, not_true_eq_false, ite_false, ite_true, reduceIte, ne_eq, not_false_eq_true]

theorem svc (im : BitVec 15) : Statement (.svc im) := by
  intro st ng sw tm p b_ hw_
  obtain ⟨ho, rfl, rfl, rfl⟩ := wf_guarded rfl hw_
  obtain ⟨f0, f1, f2, f3, f4, f5, f6, f7, f8, f9⟩ := fields32 (encode ⟨st, p, ng, false, false, 0, .svc im⟩) im.toNat 2 0 0 0 (b2n ng) p.val 16 (b2n st)
    im.isLt (by decide) (by decide) (by decide) (by decide) (b2n_lt ng) p.isLt (by decide) (b2n_lt st)
    (show 0x40010000 + im.toNat + b2n st * 2147483648 + p.val * 8388608 + b2n ng * 4194304 + 0 * 2097152 + 0 * 1048576 + 0 * 8 = _ by omega)
  generalize encode _ = w at *
  simp only [decodeWord, decodeMaj10, decodeSys, sylG, f0, f1, f2, f3, f4, f5, f6, f7, bit_of_fld _ f9, bit_of_fld _ f8, fin_self, bv_self, and_self, true_and, and_true, not_true_eq_false, ite_false, ite_true, reduceIte, ne_eq, not_false_eq_true]

theorem rte : Statement (.rte) := by
  intro st ng sw tm p b_ hw_
  obtain ⟨ho, rfl, rfl, rfl⟩ := wf_guarded rfl hw_
  obtain ⟨f0, f1, f2, f3, f4, f5, f6, f7, f8, f9, -, -, -, -, -⟩ := fields31 (encode ⟨st, p, ng, false, false, 0, .rte⟩) 0 0 1 1 0 0 0 0 (b2n ng) p.val 16 (b2n st)
    (by decide) (by decide) (by decide) (by decide) (by decide) (by decide) (by decide) (by decide) (b2n_lt ng) p.isLt (by decide) (b2n_lt st)
    (show 0x40018000 + b2n st * 2147483648 + p.val * 8388608 + b2n ng * 4194304 + 0 * 2097152 + 0 * 1048576 + 0 * 8 = _ by omega)
  generalize encode _ = w at *
  simp only [decodeWord, decodeMaj10, decodeSys, sylG, f0, f1, f2, f3, f4, f5, f6, f7, bit_of_fld _ f9, bit_of_fld _ f8, fin_self, and_self, true_and, and_true, not_true_eq_false, ite_false, ite_true, reduceIte, ne_eq, not_false_eq_true]

theorem endTask : Statement (.endTask) := by
  intro st ng sw tm p b_ hw_
  obtain ⟨ho, rfl, rfl, rfl⟩ := wf_guarded rfl hw_
  obtain ⟨f0, f1, f2, f3, f4, f5, f6, f7, f8, f9, -, -, -, -, -⟩ := fields31 (encode ⟨st, p, ng, false, false, 0, .endTask⟩) 0 0 0 0 1 0 0 0 (b2n ng) p.val 16 (b2n st)
    (by decide) (by decide) (by decide) (by decide) (by decide) (by decide) (by decide) (by decide) (b2n_lt ng) p.isLt (by decide) (b2n_lt st)
    (show 0x40020000 + b2n st * 2147483648 + p.val * 8388608 + b2n ng * 4194304 + 0 * 2097152 + 0 * 1048576 + 0 * 8 = _ by omega)
  generalize encode _ = w at *
  simp only [decodeWord, decodeMaj10, decodeSys, sylG, f0, f1, f2, f3, f4, f5, f6, f7, bit_of_fld _ f9, bit_of_fld _ f8, fin_self, and_self, true_and, and_true, not_true_eq_false, ite_false, ite_true, reduceIte, ne_eq, not_false_eq_true]

theorem yld : Statement (.yld) := by
  intro st ng sw tm p b_ hw_
  obtain ⟨ho, rfl, rfl, rfl⟩ := wf_guarded rfl hw_
  obtain ⟨f0, f1, f2, f3, f4, f5, f6, f7, f8, f9, -, -, -, -, -⟩ := fields31 (encode ⟨st, p, ng, false, false, 0, .yld⟩) 0 0 1 0 1 0 0 0 (b2n ng) p.val 16 (b2n st)
    (by decide) (by decide) (by decide) (by decide) (by decide) (by decide) (by decide) (by decide) (b2n_lt ng) p.isLt (by decide) (b2n_lt st)
    (show 0x40028000 + b2n st * 2147483648 + p.val * 8388608 + b2n ng * 4194304 + 0 * 2097152 + 0 * 1048576 + 0 * 8 = _ by omega)
  generalize encode _ = w at *
  simp only [decodeWord, decodeMaj10, decodeSys, sylG, f0, f1, f2, f3, f4, f5, f6, f7, bit_of_fld _ f9, bit_of_fld _ f8, fin_self, and_self, true_and, and_true, not_true_eq_false, ite_false, ite_true, reduceIte, ne_eq, not_false_eq_true]

theorem halt : Statement (.halt) := by
  intro st ng sw tm p b_ hw_
  obtain ⟨ho, rfl, rfl, rfl⟩ := wf_guarded rfl hw_
  obtain ⟨f0, f1, f2, f3, f4, f5, f6, f7, f8, f9, -, -, -, -, -⟩ := fields31 (encode ⟨st, p, ng, false, false, 0, .halt⟩) 0 0 0 1 1 0 0 0 (b2n ng) p.val 16 (b2n st)
    (by decide) (by decide) (by decide) (by decide) (by decide) (by decide) (by decide) (by decide) (b2n_lt ng) p.isLt (by decide) (b2n_lt st)
    (show 0x40030000 + b2n st * 2147483648 + p.val * 8388608 + b2n ng * 4194304 + 0 * 2097152 + 0 * 1048576 + 0 * 8 = _ by omega)
  generalize encode _ = w at *
  simp only [decodeWord, decodeMaj10, decodeSys, sylG, f0, f1, f2, f3, f4, f5, f6, f7, bit_of_fld _ f9, bit_of_fld _ f8, fin_self, and_self, true_and, and_true, not_true_eq_false, ite_false, ite_true, reduceIte, ne_eq, not_false_eq_true]

theorem lbrk (l : Fin 8) : Statement (.lbrk l) := by
  intro st ng sw tm p b_ hw_
  obtain ⟨ho, rfl, rfl, rfl⟩ := wf_guarded rfl hw_
  obtain ⟨f0, f1, f2, f3, f4, f5, f6, f7, f8, f9, f10⟩ := fields33 (encode ⟨st, p, ng, false, false, 0, .lbrk l⟩) 0 l.val 3 1 0 0 (b2n ng) p.val 16 (b2n st)
    (by decide) l.isLt (by decide) (by decide) (by decide) (by decide) (b2n_lt ng) p.isLt (by decide) (b2n_lt st)
    (show 0x40038000 + l.val * 4096 + b2n st * 2147483648 + p.val * 8388608 + b2n ng * 4194304 + 0 * 2097152 + 0 * 1048576 + 0 * 8 = _ by omega)
  generalize encode _ = w at *
  simp only [decodeWord, decodeMaj10, decodeSys, sylG, f0, f1, f2, f3, f4, f5, f6, f7, f8, bit_of_fld _ f10, bit_of_fld _ f9, fin_self, and_self, true_and, and_true, not_true_eq_false, ite_false, ite_true, reduceIte, ne_eq, not_false_eq_true]

theorem waittAbs (a : Fin 32) : Statement (.waittAbs a) := by
  intro st ng sw tm p b_ hw_
  obtain ⟨ho, rfl, rfl, rfl⟩ := wf_guarded rfl hw_
  obtain ⟨f0, f1, f2, f3, f4, f5, f6, f7⟩ := fields34 (encode ⟨st, p, ng, false, false, 0, .waittAbs a⟩) 0 a.val 1 1 (b2n ng) p.val 16 (b2n st)
    (by decide) a.isLt (by decide) (by decide) (b2n_lt ng) p.isLt (by decide) (b2n_lt st)
    (show 0x40180000 + a.val * 16384 + b2n st * 2147483648 + p.val * 8388608 + b2n ng * 4194304 + 0 * 2097152 + 0 * 1048576 + 0 * 8 = _ by omega)
  generalize encode _ = w at *
  simp only [decodeWord, decodeMaj10, sylG, f0, f1, f2, f3, f4, f5, bit_of_fld _ f7, bit_of_fld _ f6, fin_self, and_self, true_and, and_true, not_true_eq_false, ite_false, ite_true, reduceIte, ne_eq, not_false_eq_true]

theorem waittRel (n : BitVec 19) : Statement (.waittRel n) := by
  intro st ng sw tm p b_ hw_
  obtain ⟨ho, rfl, rfl, rfl⟩ := wf_guarded rfl hw_
  obtain ⟨f0, f1, f2, f3, f4, f5, f6⟩ := fields35 (encode ⟨st, p, ng, false, false, 0, .waittRel n⟩) n.toNat 0 1 (b2n ng) p.val 16 (b2n st)
    n.isLt (by decide) (by decide) (b2n_lt ng) p.isLt (by decide) (b2n_lt st)
    (show 0x40100000 + n.toNat + b2n st * 2147483648 + p.val * 8388608 + b2n ng * 4194304 + 0 * 2097152 + 0 * 1048576 + 0 * 8 = _ by omega)
  generalize encode _ = w at *
  simp +decide only [decodeWord, decodeMaj10, sylG, f0, f1, f2, f3, f4, bit_of_fld _ f6, bit_of_fld _ f5, fin_self, bv_self, and_self, true_and, and_true, not_true_eq_false, ite_false, ite_true, reduceIte, ne_eq, not_false_eq_true]

theorem waitp (k : Fin 8) : Statement (.waitp k) := by
  intro st ng sw tm p b_ hw_
  obtain ⟨ho, rfl, rfl, rfl⟩ := wf_guarded rfl hw_
  obtain ⟨f0, f1, f2, f3, f4, f5, f6⟩ := fields36 (encode ⟨st, p, ng, false, false, 0, .waitp k⟩) 0 k.val 2 (b2n ng) p.val 16 (b2n st)
    (by decide) k.isLt (by decide) (b2n_lt ng) p.isLt (by decide) (b2n_lt st)
    (show 0x40200000 + k.val * 131072 + b2n st * 2147483648 + p.val * 8388608 + b2n ng * 4194304 + 0 * 2097152 + 0 * 1048576 + 0 * 8 = _ by omega)
  generalize encode _ = w at *
  simp only [decodeWord, decodeMaj10, sylG, f0, f1, f2, f3, f4, bit_of_fld _ f6, bit_of_fld _ f5, fin_self, and_self, true_and, and_true, not_true_eq_false, ite_false, ite_true, reduceIte, ne_eq, not_false_eq_true]

theorem bar (l : Fin 8) : Statement (.bar l) := by
  intro st ng sw tm p b_ hw_
  obtain ⟨ho, rfl, rfl, rfl⟩ := wf_guarded rfl hw_
  obtain ⟨f0, f1, f2, f3, f4, f5, f6, f7, f8, f9⟩ := fields37 (encode ⟨st, p, ng, false, false, 0, .bar l⟩) 0 l.val 0 0 3 (b2n ng) p.val 16 (b2n st)
    (by decide) l.isLt (by decide) (by decide) (by decide) (b2n_lt ng) p.isLt (by decide) (b2n_lt st)
    (show 0x40300000 + l.val * 32768 + b2n st * 2147483648 + p.val * 8388608 + b2n ng * 4194304 + 0 * 2097152 + 0 * 1048576 + 0 * 8 = _ by omega)
  generalize encode _ = w at *
  simp only [decodeWord, decodeMaj10, decodeBarPhase, sylG, f0, f1, f2, f3, f4, f5, f6, f7, bit_of_fld _ f9, bit_of_fld _ f8, fin_self, and_self, true_and, and_true, not_true_eq_false, ite_false, ite_true, reduceIte, ne_eq, not_false_eq_true]

theorem phaseP : Statement (.phaseP) := by
  intro st ng sw tm p b_ hw_
  obtain ⟨ho, rfl, rfl, rfl⟩ := wf_guarded rfl hw_
  obtain ⟨f0, -, f2, f3, f4, f5, -, f7, f8, f9, f10, f11, f12, -, -⟩ := fields31 (encode ⟨st, p, ng, false, false, 0, .phaseP⟩) 0 0 0 1 0 1 0 3 (b2n ng) p.val 16 (b2n st)
    (by decide) (by decide) (by decide) (by decide) (by decide) (by decide) (by decide) (by decide) (b2n_lt ng) p.isLt (by decide) (b2n_lt st)
    (show 0x40350000 + b2n st * 2147483648 + p.val * 8388608 + b2n ng * 4194304 + 0 * 2097152 + 0 * 1048576 + 0 * 8 = _ by omega)
  generalize encode _ = w at *
  simp only [decodeWord, decodeMaj10, decodeBarPhase, sylG, f0, f10, f11, f2, f3, f4, f5, f12, f7, bit_of_fld _ f9, bit_of_fld _ f8, fin_self, and_self, true_and, and_true, not_true_eq_false, ite_false, ite_true, reduceIte, ne_eq, not_false_eq_true]

theorem phaseA : Statement (.phaseA) := by
  intro st ng sw tm p b_ hw_
  obtain ⟨ho, rfl, rfl, rfl⟩ := wf_guarded rfl hw_
  obtain ⟨f0, -, f2, f3, f4, f5, -, f7, f8, f9, f10, f11, f12, -, -⟩ := fields31 (encode ⟨st, p, ng, false, false, 0, .phaseA⟩) 0 0 0 0 1 1 0 3 (b2n ng) p.val 16 (b2n st)
    (by decide) (by decide) (by decide) (by decide) (by decide) (by decide) (by decide) (by decide) (b2n_lt ng) p.isLt (by decide) (b2n_lt st)
    (show 0x40360000 + b2n st * 2147483648 + p.val * 8388608 + b2n ng * 4194304 + 0 * 2097152 + 0 * 1048576 + 0 * 8 = _ by omega)
  generalize encode _ = w at *
  simp only [decodeWord, decodeMaj10, decodeBarPhase, sylG, f0, f10, f11, f2, f3, f4, f5, f12, f7, bit_of_fld _ f9, bit_of_fld _ f8, fin_self, and_self, true_and, and_true, not_true_eq_false, ite_false, ite_true, reduceIte, ne_eq, not_false_eq_true]

theorem phasePa : Statement (.phasePa) := by
  intro st ng sw tm p b_ hw_
  obtain ⟨ho, rfl, rfl, rfl⟩ := wf_guarded rfl hw_
  obtain ⟨f0, -, f2, f3, f4, f5, -, f7, f8, f9, f10, f11, f12, -, -⟩ := fields31 (encode ⟨st, p, ng, false, false, 0, .phasePa⟩) 0 0 0 1 1 1 0 3 (b2n ng) p.val 16 (b2n st)
    (by decide) (by decide) (by decide) (by decide) (by decide) (by decide) (by decide) (by decide) (b2n_lt ng) p.isLt (by decide) (b2n_lt st)
    (show 0x40370000 + b2n st * 2147483648 + p.val * 8388608 + b2n ng * 4194304 + 0 * 2097152 + 0 * 1048576 + 0 * 8 = _ by omega)
  generalize encode _ = w at *
  simp only [decodeWord, decodeMaj10, decodeBarPhase, sylG, f0, f10, f11, f2, f3, f4, f5, f12, f7, bit_of_fld _ f9, bit_of_fld _ f8, fin_self, and_self, true_and, and_true, not_true_eq_false, ite_false, ite_true, reduceIte, ne_eq, not_false_eq_true]

theorem pfx (sc : Fin 8) (opv : Bool) (op : Fin 8) (fst : BitVec 8) (lst : BitVec 8) (lv : Fin 8) : Statement (.pfx sc opv op fst lst lv) := by
  intro st ng sw tm p b_ hw_
  obtain ⟨ho, rfl, rfl, rfl, rfl, rfl, rfl⟩ := wf_pfx rfl hw_
  obtain ⟨f0, f1, f2, f3, f4, f5, f6⟩ := fields38 (encode ⟨false, 0, false, false, false, 0, .pfx sc opv op fst lst lv⟩) lv.val lst.toNat fst.toNat op.val opv.toNat sc.val 31 0
    lv.isLt lst.isLt fst.isLt op.isLt (toNat_lt opv) sc.isLt (by decide) (by decide)
    (show 0x7C000000 + sc.val * 8388608 + opv.toNat * 4194304 + op.val * 524288 + fst.toNat * 2048 + lst.toNat * 8 + lv.val + 0 * 2147483648 + 0 * 8388608 + 0 * 4194304 + 0 * 2097152 + 0 * 1048576 + 0 * 8 = _ by omega)
  generalize encode _ = w at *
  have hc : pfxFieldsOk sc.val opv op.val fst.toNat lst.toNat lv.val = true := ho
  simp only [decodeWord, pfxOk, decodeMaj1F, sylP, f0, f1, f2, f3, f4, f5, bit_of_toNat _ f6, fin_self, bv_self, hc, and_self, true_and, and_true, not_true_eq_false, ite_false, ite_true, reduceIte, ne_eq, not_false_eq_true]

theorem vadd (x : Fin 8) : Statement (.vadd x) := by
  intro st ng sw tm p b_ hw_
  obtain ⟨ho, ht⟩ := wf_timed rfl hw_
  obtain ⟨f0, f1, f2, f3, f4, f5, f6, f7, f8, f9⟩ := fields39 (encode ⟨st, p, ng, sw, tm, b_, .vadd x⟩) x.val b_.val 0 0 (b2n tm) (b2n sw) (b2n ng) p.val 17 (b2n st)
    x.isLt b_.isLt (by decide) (by decide) (b2n_lt tm) (b2n_lt sw) (b2n_lt ng) p.isLt (by decide) (b2n_lt st)
    (show 0x44000000 + x.val + b2n st * 2147483648 + p.val * 8388608 + b2n ng * 4194304 + b2n sw * 2097152 + b2n tm * 1048576 + b_.val * 8 = _ by omega)
  generalize encode _ = w at *
  have hc : x.val < 7 := of_decide_eq_true ho
  simp only [decodeWord, decodeMaj11, sylE, f0, f1, f2, f3, f4, f5, f6, bit_of_fld _ f9, bit_of_fld _ f7, bit_of_fld _ f8, bit_of_fld _ f3, fin_self, hc, ht, and_self, true_and, and_true, not_true_eq_false, ite_false, ite_true, reduceIte, ne_eq, not_false_eq_true]

theorem vaddS (a : Fin 32) (x : Fin 8) : Statement (.vaddS a x) := by
  intro st ng sw tm p b_ hw_
  obtain ⟨ho, ht⟩ := wf_timed rfl hw_
  obtain ⟨f0, f1, f2, f3, f4, f5, f6, f7, f8, f9⟩ := fields40 (encode ⟨st, p, ng, sw, tm, b_, .vaddS a x⟩) x.val b_.val a.val 64 (b2n tm) (b2n sw) (b2n ng) p.val 17 (b2n st)
    x.isLt b_.isLt a.isLt (by decide) (b2n_lt tm) (b2n_lt sw) (b2n_lt ng) p.isLt (by decide) (b2n_lt st)
    (show 0x44080000 + a.val * 256 + x.val + b2n st * 2147483648 + p.val * 8388608 + b2n ng * 4194304 + b2n sw * 2097152 + b2n tm * 1048576 + b_.val * 8 = _ by omega)
  generalize encode _ = w at *
  have hc : x.val < 7 := of_decide_eq_true ho
  simp only [decodeWord, decodeMaj11, sylE, f0, f1, f2, f3, f4, f5, f6, bit_of_fld _ f9, bit_of_fld _ f7, bit_of_fld _ f8, bit_of_fld _ f2, fin_self, hc, ht, and_self, true_and, and_true, not_true_eq_false, ite_false, ite_true, reduceIte, ne_eq, not_false_eq_true]

theorem vsub (x : Fin 8) : Statement (.vsub x) := by
  intro st ng sw tm p b_ hw_
  obtain ⟨ho, ht⟩ := wf_timed rfl hw_
  obtain ⟨f0, f1, f2, f3, f4, f5, f6, f7, f8, f9⟩ := fields39 (encode ⟨st, p, ng, sw, tm, b_, .vsub x⟩) x.val b_.val 0 1 (b2n tm) (b2n sw) (b2n ng) p.val 17 (b2n st)
    x.isLt b_.isLt (by decide) (by decide) (b2n_lt tm) (b2n_lt sw) (b2n_lt ng) p.isLt (by decide) (b2n_lt st)
    (show 0x44002000 + x.val + b2n st * 2147483648 + p.val * 8388608 + b2n ng * 4194304 + b2n sw * 2097152 + b2n tm * 1048576 + b_.val * 8 = _ by omega)
  generalize encode _ = w at *
  have hc : x.val < 7 := of_decide_eq_true ho
  simp only [decodeWord, decodeMaj11, sylE, f0, f1, f2, f3, f4, f5, f6, bit_of_fld _ f9, bit_of_fld _ f7, bit_of_fld _ f8, bit_of_fld _ f3, fin_self, hc, ht, and_self, true_and, and_true, not_true_eq_false, ite_false, ite_true, reduceIte, ne_eq, not_false_eq_true]

theorem vsubS (a : Fin 32) (x : Fin 8) : Statement (.vsubS a x) := by
  intro st ng sw tm p b_ hw_
  obtain ⟨ho, ht⟩ := wf_timed rfl hw_
  obtain ⟨f0, f1, f2, f3, f4, f5, f6, f7, f8, f9⟩ := fields40 (encode ⟨st, p, ng, sw, tm, b_, .vsubS a x⟩) x.val b_.val a.val 65 (b2n tm) (b2n sw) (b2n ng) p.val 17 (b2n st)
    x.isLt b_.isLt a.isLt (by decide) (b2n_lt tm) (b2n_lt sw) (b2n_lt ng) p.isLt (by decide) (b2n_lt st)
    (show 0x44082000 + a.val * 256 + x.val + b2n st * 2147483648 + p.val * 8388608 + b2n ng * 4194304 + b2n sw * 2097152 + b2n tm * 1048576 + b_.val * 8 = _ by omega)
  generalize encode _ = w at *
  have hc : x.val < 7 := of_decide_eq_true ho
  simp only [decodeWord, decodeMaj11, sylE, f0, f1, f2, f3, f4, f5, f6, bit_of_fld _ f9, bit_of_fld _ f7, bit_of_fld _ f8, bit_of_fld _ f2, fin_self, hc, ht, and_self, true_and, and_true, not_true_eq_false, ite_false, ite_true, reduceIte, ne_eq, not_false_eq_true]

theorem vmul (x : Fin 8) : Statement (.vmul x) := by
  intro st ng sw tm p b_ hw_
  obtain ⟨ho, ht⟩ := wf_timed rfl hw_
  obtain ⟨f0, f1, f2, f3, f4, f5, f6, f7, f8, f9⟩ := fields39 (encode ⟨st, p, ng, sw, tm, b_, .vmul x⟩) x.val b_.val 0 2 (b2n tm) (b2n sw) (b2n ng) p.val 17 (b2n st)
    x.isLt b_.isLt (by decide) (by decide) (b2n_lt tm) (b2n_lt sw) (b2n_lt ng) p.isLt (by decide) (b2n_lt st)
    (show 0x44004000 + x.val + b2n st * 2147483648 + p.val * 8388608 + b2n ng * 4194304 + b2n sw * 2097152 + b2n tm * 1048576 + b_.val * 8 = _ by omega)
  generalize encode _ = w at *
  have hc : x.val < 7 := of_decide_eq_true ho
  simp only [decodeWord, decodeMaj11, sylE, f0, f1, f2, f3, f4, f5, f6, bit_of_fld _ f9, bit_of_fld _ f7, bit_of_fld _ f8, bit_of_fld _ f3, fin_self, hc, ht, and_self, true_and, and_true, not_true_eq_false, ite_false, ite_true, reduceIte, ne_eq, not_false_eq_true]

theorem vmulS (a : Fin 32) (x : Fin 8) : Statement (.vmulS a x) := by
  intro st ng sw tm p b_ hw_
  obtain ⟨ho, ht⟩ := wf_timed rfl hw_
  obtain ⟨f0, f1, f2, f3, f4, f5, f6, f7, f8, f9⟩ := fields40 (encode ⟨st, p, ng, sw, tm, b_, .vmulS a x⟩) x.val b_.val a.val 66 (b2n tm) (b2n sw) (b2n ng) p.val 17 (b2n st)
    x.isLt b_.isLt a.isLt (by decide) (b2n_lt tm) (b2n_lt sw) (b2n_lt ng) p.isLt (by decide) (b2n_lt st)
    (show 0x44084000 + a.val * 256 + x.val + b2n st * 2147483648 + p.val * 8388608 + b2n ng * 4194304 + b2n sw * 2097152 + b2n tm * 1048576 + b_.val * 8 = _ by omega)
  generalize encode _ = w at *
  have hc : x.val < 7 := of_decide_eq_true ho
  simp only [decodeWord, decodeMaj11, sylE, f0, f1, f2, f3, f4, f5, f6, bit_of_fld _ f9, bit_of_fld _ f7, bit_of_fld _ f8, bit_of_fld _ f2, fin_self, hc, ht, and_self, true_and, and_true, not_true_eq_false, ite_false, ite_true, reduceIte, ne_eq, not_false_eq_true]

theorem vmulh : Statement (.vmulh) := by
  intro st ng sw tm p b_ hw_
  obtain ⟨ho, ht⟩ := wf_timed rfl hw_
  obtain ⟨f0, f1, f2, f3, f4, f5, f6, f7, f8, f9, -, -⟩ := fields41 (encode ⟨st, p, ng, sw, tm, b_, .vmulh⟩) 0 0 b_.val 0 3 (b2n tm) (b2n sw) (b2n ng) p.val 17 (b2n st)
    (by decide) (by decide) b_.isLt (by decide) (by decide) (b2n_lt tm) (b2n_lt sw) (b2n_lt ng) p.isLt (by decide) (b2n_lt st)
    (show 0x44006000 + b2n st * 2147483648 + p.val * 8388608 + b2n ng * 4194304 + b2n sw * 2097152 + b2n tm * 1048576 + b_.val * 8 = _ by omega)
  generalize encode _ = w at *
  simp only [decodeWord, decodeMaj11, sylE, f0, f1, f2, f3, f4, f5, f6, bit_of_fld _ f9, bit_of_fld _ f7, bit_of_fld _ f8, bit_of_fld _ f4, fin_self, ht, and_self, true_and, and_true, not_true_eq_false, ite_false, ite_true, reduceIte, ne_eq, not_false_eq_true]

theorem vmulhS (a : Fin 32) : Statement (.vmulhS a) := by
  intro st ng sw tm p b_ hw_
  obtain ⟨ho, ht⟩ := wf_timed rfl hw_
  obtain ⟨f0, f1, f2, f3, f4, f5, f6, f7, f8, f9, -, -⟩ := fields42 (encode ⟨st, p, ng, sw, tm, b_, .vmulhS a⟩) 0 0 b_.val a.val 67 (b2n tm) (b2n sw) (b2n ng) p.val 17 (b2n st)
    (by decide) (by decide) b_.isLt a.isLt (by decide) (b2n_lt tm) (b2n_lt sw) (b2n_lt ng) p.isLt (by decide) (b2n_lt st)
    (show 0x44086000 + a.val * 256 + b2n st * 2147483648 + p.val * 8388608 + b2n ng * 4194304 + b2n sw * 2097152 + b2n tm * 1048576 + b_.val * 8 = _ by omega)
  generalize encode _ = w at *
  simp only [decodeWord, decodeMaj11, sylE, f0, f1, f2, f3, f4, f5, f6, bit_of_fld _ f9, bit_of_fld _ f7, bit_of_fld _ f8, bit_of_fld _ f3, fin_self, ht, and_self, true_and, and_true, not_true_eq_false, ite_false, ite_true, reduceIte, ne_eq, not_false_eq_true]

theorem vfma (x : Fin 8) : Statement (.vfma x) := by
  intro st ng sw tm p b_ hw_
  obtain ⟨ho, ht⟩ := wf_timed rfl hw_
  obtain ⟨f0, f1, f2, f3, f4, f5, f6, f7, f8, f9⟩ := fields39 (encode ⟨st, p, ng, sw, tm, b_, .vfma x⟩) x.val b_.val 0 4 (b2n tm) (b2n sw) (b2n ng) p.val 17 (b2n st)
    x.isLt b_.isLt (by decide) (by decide) (b2n_lt tm) (b2n_lt sw) (b2n_lt ng) p.isLt (by decide) (b2n_lt st)
    (show 0x44008000 + x.val + b2n st * 2147483648 + p.val * 8388608 + b2n ng * 4194304 + b2n sw * 2097152 + b2n tm * 1048576 + b_.val * 8 = _ by omega)
  generalize encode _ = w at *
  have hc : x.val < 7 := of_decide_eq_true ho
  simp only [decodeWord, decodeMaj11, sylE, f0, f1, f2, f3, f4, f5, f6, bit_of_fld _ f9, bit_of_fld _ f7, bit_of_fld _ f8, bit_of_fld _ f3, fin_self, hc, ht, and_self, true_and, and_true, not_true_eq_false, ite_false, ite_true, reduceIte, ne_eq, not_false_eq_true]

theorem vfmaS (a : Fin 32) (x : Fin 8) : Statement (.vfmaS a x) := by
  intro st ng sw tm p b_ hw_
  obtain ⟨ho, ht⟩ := wf_timed rfl hw_
  obtain ⟨f0, f1, f2, f3, f4, f5, f6, f7, f8, f9⟩ := fields40 (encode ⟨st, p, ng, sw, tm, b_, .vfmaS a x⟩) x.val b_.val a.val 68 (b2n tm) (b2n sw) (b2n ng) p.val 17 (b2n st)
    x.isLt b_.isLt a.isLt (by decide) (b2n_lt tm) (b2n_lt sw) (b2n_lt ng) p.isLt (by decide) (b2n_lt st)
    (show 0x44088000 + a.val * 256 + x.val + b2n st * 2147483648 + p.val * 8388608 + b2n ng * 4194304 + b2n sw * 2097152 + b2n tm * 1048576 + b_.val * 8 = _ by omega)
  generalize encode _ = w at *
  have hc : x.val < 7 := of_decide_eq_true ho
  simp only [decodeWord, decodeMaj11, sylE, f0, f1, f2, f3, f4, f5, f6, bit_of_fld _ f9, bit_of_fld _ f7, bit_of_fld _ f8, bit_of_fld _ f2, fin_self, hc, ht, and_self, true_and, and_true, not_true_eq_false, ite_false, ite_true, reduceIte, ne_eq, not_false_eq_true]

theorem vfms (x : Fin 8) : Statement (.vfms x) := by
  intro st ng sw tm p b_ hw_
  obtain ⟨ho, ht⟩ := wf_timed rfl hw_
  obtain ⟨f0, f1, f2, f3, f4, f5, f6, f7, f8, f9⟩ := fields39 (encode ⟨st, p, ng, sw, tm, b_, .vfms x⟩) x.val b_.val 0 5 (b2n tm) (b2n sw) (b2n ng) p.val 17 (b2n st)
    x.isLt b_.isLt (by decide) (by decide) (b2n_lt tm) (b2n_lt sw) (b2n_lt ng) p.isLt (by decide) (b2n_lt st)
    (show 0x4400A000 + x.val + b2n st * 2147483648 + p.val * 8388608 + b2n ng * 4194304 + b2n sw * 2097152 + b2n tm * 1048576 + b_.val * 8 = _ by omega)
  generalize encode _ = w at *
  have hc : x.val < 7 := of_decide_eq_true ho
  simp only [decodeWord, decodeMaj11, sylE, f0, f1, f2, f3, f4, f5, f6, bit_of_fld _ f9, bit_of_fld _ f7, bit_of_fld _ f8, bit_of_fld _ f3, fin_self, hc, ht, and_self, true_and, and_true, not_true_eq_false, ite_false, ite_true, reduceIte, ne_eq, not_false_eq_true]

theorem vfmsS (a : Fin 32) (x : Fin 8) : Statement (.vfmsS a x) := by
  intro st ng sw tm p b_ hw_
  obtain ⟨ho, ht⟩ := wf_timed rfl hw_
  obtain ⟨f0, f1, f2, f3, f4, f5, f6, f7, f8, f9⟩ := fields40 (encode ⟨st, p, ng, sw, tm, b_, .vfmsS a x⟩) x.val b_.val a.val 69 (b2n tm) (b2n sw) (b2n ng) p.val 17 (b2n st)
    x.isLt b_.isLt a.isLt (by decide) (b2n_lt tm) (b2n_lt sw) (b2n_lt ng) p.isLt (by decide) (b2n_lt st)
    (show 0x4408A000 + a.val * 256 + x.val + b2n st * 2147483648 + p.val * 8388608 + b2n ng * 4194304 + b2n sw * 2097152 + b2n tm * 1048576 + b_.val * 8 = _ by omega)
  generalize encode _ = w at *
  have hc : x.val < 7 := of_decide_eq_true ho
  simp only [decodeWord, decodeMaj11, sylE, f0, f1, f2, f3, f4, f5, f6, bit_of_fld _ f9, bit_of_fld _ f7, bit_of_fld _ f8, bit_of_fld _ f2, fin_self, hc, ht, and_self, true_and, and_true, not_true_eq_false, ite_false, ite_true, reduceIte, ne_eq, not_false_eq_true]

theorem vmin : Statement (.vmin) := by
  intro st ng sw tm p b_ hw_
  obtain ⟨ho, ht⟩ := wf_timed rfl hw_
  obtain ⟨f0, f1, f2, f3, f4, f5, f6, f7, f8, f9, -, -⟩ := fields41 (encode ⟨st, p, ng, sw, tm, b_, .vmin⟩) 0 0 b_.val 0 6 (b2n tm) (b2n sw) (b2n ng) p.val 17 (b2n st)
    (by decide) (by decide) b_.isLt (by decide) (by decide) (b2n_lt tm) (b2n_lt sw) (b2n_lt ng) p.isLt (by decide) (b2n_lt st)
    (show 0x4400C000 + b2n st * 2147483648 + p.val * 8388608 + b2n ng * 4194304 + b2n sw * 2097152 + b2n tm * 1048576 + b_.val * 8 = _ by omega)
  generalize encode _ = w at *
  simp only [decodeWord, decodeMaj11, sylE, f0, f1, f2, f3, f4, f5, f6, bit_of_fld _ f9, bit_of_fld _ f7, bit_of_fld _ f8, bit_of_fld _ f4, fin_self, ht, and_self, true_and, and_true, not_true_eq_false, ite_false, ite_true, reduceIte, ne_eq, not_false_eq_true]

theorem vminS (a : Fin 32) : Statement (.vminS a) := by
  intro st ng sw tm p b_ hw_
  obtain ⟨ho, ht⟩ := wf_timed rfl hw_
  obtain ⟨f0, f1, f2, f3, f4, f5, f6, f7, f8, f9, -, -⟩ := fields42 (encode ⟨st, p, ng, sw, tm, b_, .vminS a⟩) 0 0 b_.val a.val 70 (b2n tm) (b2n sw) (b2n ng) p.val 17 (b2n st)
    (by decide) (by decide) b_.isLt a.isLt (by decide) (b2n_lt tm) (b2n_lt sw) (b2n_lt ng) p.isLt (by decide) (b2n_lt st)
    (show 0x4408C000 + a.val * 256 + b2n st * 2147483648 + p.val * 8388608 + b2n ng * 4194304 + b2n sw * 2097152 + b2n tm * 1048576 + b_.val * 8 = _ by omega)
  generalize encode _ = w at *
  simp only [decodeWord, decodeMaj11, sylE, f0, f1, f2, f3, f4, f5, f6, bit_of_fld _ f9, bit_of_fld _ f7, bit_of_fld _ f8, bit_of_fld _ f3, fin_self, ht, and_self, true_and, and_true, not_true_eq_false, ite_false, ite_true, reduceIte, ne_eq, not_false_eq_true]

theorem vmax : Statement (.vmax) := by
  intro st ng sw tm p b_ hw_
  obtain ⟨ho, ht⟩ := wf_timed rfl hw_
  obtain ⟨f0, f1, f2, f3, f4, f5, f6, f7, f8, f9, -, -⟩ := fields41 (encode ⟨st, p, ng, sw, tm, b_, .vmax⟩) 0 0 b_.val 0 7 (b2n tm) (b2n sw) (b2n ng) p.val 17 (b2n st)
    (by decide) (by decide) b_.isLt (by decide) (by decide) (b2n_lt tm) (b2n_lt sw) (b2n_lt ng) p.isLt (by decide) (b2n_lt st)
    (show 0x4400E000 + b2n st * 2147483648 + p.val * 8388608 + b2n ng * 4194304 + b2n sw * 2097152 + b2n tm * 1048576 + b_.val * 8 = _ by omega)
  generalize encode _ = w at *
  simp only [decodeWord, decodeMaj11, sylE, f0, f1, f2, f3, f4, f5, f6, bit_of_fld _ f9, bit_of_fld _ f7, bit_of_fld _ f8, bit_of_fld _ f4, fin_self, ht, and_self, true_and, and_true, not_true_eq_false, ite_false, ite_true, reduceIte, ne_eq, not_false_eq_true]

theorem vmaxS (a : Fin 32) : Statement (.vmaxS a) := by
  intro st ng sw tm p b_ hw_
  obtain ⟨ho, ht⟩ := wf_timed rfl hw_
  obtain ⟨f0, f1, f2, f3, f4, f5, f6, f7, f8, f9, -, -⟩ := fields42 (encode ⟨st, p, ng, sw, tm, b_, .vmaxS a⟩) 0 0 b_.val a.val 71 (b2n tm) (b2n sw) (b2n ng) p.val 17 (b2n st)
    (by decide) (by decide) b_.isLt a.isLt (by decide) (b2n_lt tm) (b2n_lt sw) (b2n_lt ng) p.isLt (by decide) (b2n_lt st)
    (show 0x4408E000 + a.val * 256 + b2n st * 2147483648 + p.val * 8388608 + b2n ng * 4194304 + b2n sw * 2097152 + b2n tm * 1048576 + b_.val * 8 = _ by omega)
  generalize encode _ = w at *
  simp only [decodeWord, decodeMaj11, sylE, f0, f1, f2, f3, f4, f5, f6, bit_of_fld _ f9, bit_of_fld _ f7, bit_of_fld _ f8, bit_of_fld _ f3, fin_self, ht, and_self, true_and, and_true, not_true_eq_false, ite_false, ite_true, reduceIte, ne_eq, not_false_eq_true]

theorem vabs (x : Fin 8) : Statement (.vabs x) := by
  intro st ng sw tm p b_ hw_
  obtain ⟨ho, ht⟩ := wf_timed rfl hw_
  obtain ⟨f0, f1, f2, f3, f4, f5, f6, f7, f8, f9⟩ := fields39 (encode ⟨st, p, ng, sw, tm, b_, .vabs x⟩) x.val b_.val 0 8 (b2n tm) (b2n sw) (b2n ng) p.val 17 (b2n st)
    x.isLt b_.isLt (by decide) (by decide) (b2n_lt tm) (b2n_lt sw) (b2n_lt ng) p.isLt (by decide) (b2n_lt st)
    (show 0x44010000 + x.val + b2n st * 2147483648 + p.val * 8388608 + b2n ng * 4194304 + b2n sw * 2097152 + b2n tm * 1048576 + b_.val * 8 = _ by omega)
  generalize encode _ = w at *
  have hc : x.val < 7 := of_decide_eq_true ho
  simp only [decodeWord, decodeMaj11, sylE, f0, f1, f2, f3, f4, f5, f6, bit_of_fld _ f9, bit_of_fld _ f7, bit_of_fld _ f8, bit_of_fld _ f3, fin_self, hc, ht, and_self, true_and, and_true, not_true_eq_false, ite_false, ite_true, reduceIte, ne_eq, not_false_eq_true]

theorem vneg (x : Fin 8) : Statement (.vneg x) := by
  intro st ng sw tm p b_ hw_
  obtain ⟨ho, ht⟩ := wf_timed rfl hw_
  obtain ⟨f0, f1, f2, f3, f4, f5, f6, f7, f8, f9⟩ := fields39 (encode ⟨st, p, ng, sw, tm, b_, .vneg x⟩) x.val b_.val 0 9 (b2n tm) (b2n sw) (b2n ng) p.val 17 (b2n st)
    x.isLt b_.isLt (by decide) (by decide) (b2n_lt tm) (b2n_lt sw) (b2n_lt ng) p.isLt (by decide) (b2n_lt st)
    (show 0x44012000 + x.val + b2n st * 2147483648 + p.val * 8388608 + b2n ng * 4194304 + b2n sw * 2097152 + b2n tm * 1048576 + b_.val * 8 = _ by omega)
  generalize encode _ = w at *
  have hc : x.val < 7 := of_decide_eq_true ho
  simp only [decodeWord, decodeMaj11, sylE, f0, f1, f2, f3, f4, f5, f6, bit_of_fld _ f9, bit_of_fld _ f7, bit_of_fld _ f8, bit_of_fld _ f3, fin_self, hc, ht, and_self, true_and, and_true, not_true_eq_false, ite_false, ite_true, reduceIte, ne_eq, not_false_eq_true]

theorem vdiv (x : Fin 8) : Statement (.vdiv x) := by
  intro st ng sw tm p b_ hw_
  obtain ⟨ho, ht⟩ := wf_timed rfl hw_
  obtain ⟨f0, f1, f2, f3, f4, f5, f6, f7, f8, f9⟩ := fields39 (encode ⟨st, p, ng, sw, tm, b_, .vdiv x⟩) x.val b_.val 0 10 (b2n tm) (b2n sw) (b2n ng) p.val 17 (b2n st)
    x.isLt b_.isLt (by decide) (by decide) (b2n_lt tm) (b2n_lt sw) (b2n_lt ng) p.isLt (by decide) (b2n_lt st)
    (show 0x44014000 + x.val + b2n st * 2147483648 + p.val * 8388608 + b2n ng * 4194304 + b2n sw * 2097152 + b2n tm * 1048576 + b_.val * 8 = _ by omega)
  generalize encode _ = w at *
  have hc : x.val < 7 := of_decide_eq_true ho
  simp only [decodeWord, decodeMaj11, sylE, f0, f1, f2, f3, f4, f5, f6, bit_of_fld _ f9, bit_of_fld _ f7, bit_of_fld _ f8, bit_of_fld _ f3, fin_self, hc, ht, and_self, true_and, and_true, not_true_eq_false, ite_false, ite_true, reduceIte, ne_eq, not_false_eq_true]

theorem vdivS (a : Fin 32) (x : Fin 8) : Statement (.vdivS a x) := by
  intro st ng sw tm p b_ hw_
  obtain ⟨ho, ht⟩ := wf_timed rfl hw_
  obtain ⟨f0, f1, f2, f3, f4, f5, f6, f7, f8, f9⟩ := fields40 (encode ⟨st, p, ng, sw, tm, b_, .vdivS a x⟩) x.val b_.val a.val 74 (b2n tm) (b2n sw) (b2n ng) p.val 17 (b2n st)
    x.isLt b_.isLt a.isLt (by decide) (b2n_lt tm) (b2n_lt sw) (b2n_lt ng) p.isLt (by decide) (b2n_lt st)
    (show 0x44094000 + a.val * 256 + x.val + b2n st * 2147483648 + p.val * 8388608 + b2n ng * 4194304 + b2n sw * 2097152 + b2n tm * 1048576 + b_.val * 8 = _ by omega)
  generalize encode _ = w at *
  have hc : x.val < 7 := of_decide_eq_true ho
  simp only [decodeWord, decodeMaj11, sylE, f0, f1, f2, f3, f4, f5, f6, bit_of_fld _ f9, bit_of_fld _ f7, bit_of_fld _ f8, bit_of_fld _ f2, fin_self, hc, ht, and_self, true_and, and_true, not_true_eq_false, ite_false, ite_true, reduceIte, ne_eq, not_false_eq_true]

theorem vsqrt (x : Fin 8) : Statement (.vsqrt x) := by
  intro st ng sw tm p b_ hw_
  obtain ⟨ho, ht⟩ := wf_timed rfl hw_
  obtain ⟨f0, f1, f2, f3, f4, f5, f6, f7, f8, f9⟩ := fields39 (encode ⟨st, p, ng, sw, tm, b_, .vsqrt x⟩) x.val b_.val 0 11 (b2n tm) (b2n sw) (b2n ng) p.val 17 (b2n st)
    x.isLt b_.isLt (by decide) (by decide) (b2n_lt tm) (b2n_lt sw) (b2n_lt ng) p.isLt (by decide) (b2n_lt st)
    (show 0x44016000 + x.val + b2n st * 2147483648 + p.val * 8388608 + b2n ng * 4194304 + b2n sw * 2097152 + b2n tm * 1048576 + b_.val * 8 = _ by omega)
  generalize encode _ = w at *
  have hc : x.val < 7 := of_decide_eq_true ho
  simp only [decodeWord, decodeMaj11, sylE, f0, f1, f2, f3, f4, f5, f6, bit_of_fld _ f9, bit_of_fld _ f7, bit_of_fld _ f8, bit_of_fld _ f3, fin_self, hc, ht, and_self, true_and, and_true, not_true_eq_false, ite_false, ite_true, reduceIte, ne_eq, not_false_eq_true]

theorem vmov : Statement (.vmov) := by
  intro st ng sw tm p b_ hw_
  obtain ⟨ho, ht⟩ := wf_timed rfl hw_
  obtain ⟨f0, f1, f2, f3, f4, f5, f6, f7, f8, f9, -, -⟩ := fields41 (encode ⟨st, p, ng, sw, tm, b_, .vmov⟩) 0 0 b_.val 0 12 (b2n tm) (b2n sw) (b2n ng) p.val 17 (b2n st)
    (by decide) (by decide) b_.isLt (by decide) (by decide) (b2n_lt tm) (b2n_lt sw) (b2n_lt ng) p.isLt (by decide) (b2n_lt st)
    (show 0x44018000 + b2n st * 2147483648 + p.val * 8388608 + b2n ng * 4194304 + b2n sw * 2097152 + b2n tm * 1048576 + b_.val * 8 = _ by omega)
  generalize encode _ = w at *
  simp only [decodeWord, decodeMaj11, sylE, f0, f1, f2, f3, f4, f5, f6, bit_of_fld _ f9, bit_of_fld _ f7, bit_of_fld _ f8, bit_of_fld _ f4, fin_self, ht, and_self, true_and, and_true, not_true_eq_false, ite_false, ite_true, reduceIte, ne_eq, not_false_eq_true]

theorem vfill (a : Fin 32) : Statement (.vfill a) := by
  intro st ng sw tm p b_ hw_
  obtain ⟨ho, ht⟩ := wf_timed rfl hw_
  obtain ⟨f0, f1, f2, f3, f4, f5, f6, f7, f8, f9, -, -⟩ := fields42 (encode ⟨st, p, ng, sw, tm, b_, .vfill a⟩) 0 0 b_.val a.val 77 (b2n tm) (b2n sw) (b2n ng) p.val 17 (b2n st)
    (by decide) (by decide) b_.isLt a.isLt (by decide) (b2n_lt tm) (b2n_lt sw) (b2n_lt ng) p.isLt (by decide) (b2n_lt st)
    (show 0x4409A000 + a.val * 256 + b2n st * 2147483648 + p.val * 8388608 + b2n ng * 4194304 + b2n sw * 2097152 + b2n tm * 1048576 + b_.val * 8 = _ by omega)
  generalize encode _ = w at *
  simp only [decodeWord, decodeMaj11, sylE, f0, f1, f2, f3, f4, f5, f6, bit_of_fld _ f9, bit_of_fld _ f7, bit_of_fld _ f8, bit_of_fld _ f3, fin_self, ht, and_self, true_and, and_true, not_true_eq_false, ite_false, ite_true, reduceIte, ne_eq, not_false_eq_true]

theorem vand : Statement (.vand) := by
  intro st ng sw tm p b_ hw_
  obtain ⟨ho, ht⟩ := wf_timed rfl hw_
  obtain ⟨f0, f1, f2, f3, f4, f5, f6, f7, f8, f9, -, -⟩ := fields41 (encode ⟨st, p, ng, sw, tm, b_, .vand⟩) 0 0 b_.val 0 0 (b2n tm) (b2n sw) (b2n ng) p.val 18 (b2n st)
    (by decide) (by decide) b_.isLt (by decide) (by decide) (b2n_lt tm) (b2n_lt sw) (b2n_lt ng) p.isLt (by decide) (b2n_lt st)
    (show 0x48000000 + b2n st * 2147483648 + p.val * 8388608 + b2n ng * 4194304 + b2n sw * 2097152 + b2n tm * 1048576 + b_.val * 8 = _ by omega)
  generalize encode _ = w at *
  simp only [decodeWord, decodeMaj12, sylE, f0, f1, f2, f3, f4, f5, f6, bit_of_fld _ f9, bit_of_fld _ f7, bit_of_fld _ f8, bit_of_fld _ f4, fin_self, ht, and_self, true_and, and_true, not_true_eq_false, ite_false, ite_true, reduceIte, ne_eq, not_false_eq_true]

theorem vandS (a : Fin 32) : Statement (.vandS a) := by
  intro st ng sw tm p b_ hw_
  obtain ⟨ho, ht⟩ := wf_timed rfl hw_
  obtain ⟨f0, f1, f2, f3, f4, f5, f6, f7, f8, f9, -, -⟩ := fields42 (encode ⟨st, p, ng, sw, tm, b_, .vandS a⟩) 0 0 b_.val a.val 64 (b2n tm) (b2n sw) (b2n ng) p.val 18 (b2n st)
    (by decide) (by decide) b_.isLt a.isLt (by decide) (b2n_lt tm) (b2n_lt sw) (b2n_lt ng) p.isLt (by decide) (b2n_lt st)
    (show 0x48080000 + a.val * 256 + b2n st * 2147483648 + p.val * 8388608 + b2n ng * 4194304 + b2n sw * 2097152 + b2n tm * 1048576 + b_.val * 8 = _ by omega)
  generalize encode _ = w at *
  simp only [decodeWord, decodeMaj12, sylE, f0, f1, f2, f3, f4, f5, f6, bit_of_fld _ f9, bit_of_fld _ f7, bit_of_fld _ f8, bit_of_fld _ f3, fin_self, ht, and_self, true_and, and_true, not_true_eq_false, ite_false, ite_true, reduceIte, ne_eq, not_false_eq_true]

theorem vor : Statement (.vor) := by
  intro st ng sw tm p b_ hw_
  obtain ⟨ho, ht⟩ := wf_timed rfl hw_
  obtain ⟨f0, f1, f2, f3, f4, f5, f6, f7, f8, f9, -, -⟩ := fields41 (encode ⟨st, p, ng, sw, tm, b_, .vor⟩) 0 0 b_.val 0 1 (b2n tm) (b2n sw) (b2n ng) p.val 18 (b2n st)
    (by decide) (by decide) b_.isLt (by decide) (by decide) (b2n_lt tm) (b2n_lt sw) (b2n_lt ng) p.isLt (by decide) (b2n_lt st)
    (show 0x48002000 + b2n st * 2147483648 + p.val * 8388608 + b2n ng * 4194304 + b2n sw * 2097152 + b2n tm * 1048576 + b_.val * 8 = _ by omega)
  generalize encode _ = w at *
  simp only [decodeWord, decodeMaj12, sylE, f0, f1, f2, f3, f4, f5, f6, bit_of_fld _ f9, bit_of_fld _ f7, bit_of_fld _ f8, bit_of_fld _ f4, fin_self, ht, and_self, true_and, and_true, not_true_eq_false, ite_false, ite_true, reduceIte, ne_eq, not_false_eq_true]

theorem vorS (a : Fin 32) : Statement (.vorS a) := by
  intro st ng sw tm p b_ hw_
  obtain ⟨ho, ht⟩ := wf_timed rfl hw_
  obtain ⟨f0, f1, f2, f3, f4, f5, f6, f7, f8, f9, -, -⟩ := fields42 (encode ⟨st, p, ng, sw, tm, b_, .vorS a⟩) 0 0 b_.val a.val 65 (b2n tm) (b2n sw) (b2n ng) p.val 18 (b2n st)
    (by decide) (by decide) b_.isLt a.isLt (by decide) (b2n_lt tm) (b2n_lt sw) (b2n_lt ng) p.isLt (by decide) (b2n_lt st)
    (show 0x48082000 + a.val * 256 + b2n st * 2147483648 + p.val * 8388608 + b2n ng * 4194304 + b2n sw * 2097152 + b2n tm * 1048576 + b_.val * 8 = _ by omega)
  generalize encode _ = w at *
  simp only [decodeWord, decodeMaj12, sylE, f0, f1, f2, f3, f4, f5, f6, bit_of_fld _ f9, bit_of_fld _ f7, bit_of_fld _ f8, bit_of_fld _ f3, fin_self, ht, and_self, true_and, and_true, not_true_eq_false, ite_false, ite_true, reduceIte, ne_eq, not_false_eq_true]

theorem vxor : Statement (.vxor) := by
  intro st ng sw tm p b_ hw_
  obtain ⟨ho, ht⟩ := wf_timed rfl hw_
  obtain ⟨f0, f1, f2, f3, f4, f5, f6, f7, f8, f9, -, -⟩ := fields41 (encode ⟨st, p, ng, sw, tm, b_, .vxor⟩) 0 0 b_.val 0 2 (b2n tm) (b2n sw) (b2n ng) p.val 18 (b2n st)
    (by decide) (by decide) b_.isLt (by decide) (by decide) (b2n_lt tm) (b2n_lt sw) (b2n_lt ng) p.isLt (by decide) (b2n_lt st)
    (show 0x48004000 + b2n st * 2147483648 + p.val * 8388608 + b2n ng * 4194304 + b2n sw * 2097152 + b2n tm * 1048576 + b_.val * 8 = _ by omega)
  generalize encode _ = w at *
  simp only [decodeWord, decodeMaj12, sylE, f0, f1, f2, f3, f4, f5, f6, bit_of_fld _ f9, bit_of_fld _ f7, bit_of_fld _ f8, bit_of_fld _ f4, fin_self, ht, and_self, true_and, and_true, not_true_eq_false, ite_false, ite_true, reduceIte, ne_eq, not_false_eq_true]

theorem vxorS (a : Fin 32) : Statement (.vxorS a) := by
  intro st ng sw tm p b_ hw_
  obtain ⟨ho, ht⟩ := wf_timed rfl hw_
  obtain ⟨f0, f1, f2, f3, f4, f5, f6, f7, f8, f9, -, -⟩ := fields42 (encode ⟨st, p, ng, sw, tm, b_, .vxorS a⟩) 0 0 b_.val a.val 66 (b2n tm) (b2n sw) (b2n ng) p.val 18 (b2n st)
    (by decide) (by decide) b_.isLt a.isLt (by decide) (b2n_lt tm) (b2n_lt sw) (b2n_lt ng) p.isLt (by decide) (b2n_lt st)
    (show 0x48084000 + a.val * 256 + b2n st * 2147483648 + p.val * 8388608 + b2n ng * 4194304 + b2n sw * 2097152 + b2n tm * 1048576 + b_.val * 8 = _ by omega)
  generalize encode _ = w at *
  simp only [decodeWord, decodeMaj12, sylE, f0, f1, f2, f3, f4, f5, f6, bit_of_fld _ f9, bit_of_fld _ f7, bit_of_fld _ f8, bit_of_fld _ f3, fin_self, ht, and_self, true_and, and_true, not_true_eq_false, ite_false, ite_true, reduceIte, ne_eq, not_false_eq_true]

theorem vandn : Statement (.vandn) := by
  intro st ng sw tm p b_ hw_
  obtain ⟨ho, ht⟩ := wf_timed rfl hw_
  obtain ⟨f0, f1, f2, f3, f4, f5, f6, f7, f8, f9, -, -⟩ := fields41 (encode ⟨st, p, ng, sw, tm, b_, .vandn⟩) 0 0 b_.val 0 3 (b2n tm) (b2n sw) (b2n ng) p.val 18 (b2n st)
    (by decide) (by decide) b_.isLt (by decide) (by decide) (b2n_lt tm) (b2n_lt sw) (b2n_lt ng) p.isLt (by decide) (b2n_lt st)
    (show 0x48006000 + b2n st * 2147483648 + p.val * 8388608 + b2n ng * 4194304 + b2n sw * 2097152 + b2n tm * 1048576 + b_.val * 8 = _ by omega)
  generalize encode _ = w at *
  simp only [decodeWord, decodeMaj12, sylE, f0, f1, f2, f3, f4, f5, f6, bit_of_fld _ f9, bit_of_fld _ f7, bit_of_fld _ f8, bit_of_fld _ f4, fin_self, ht, and_self, true_and, and_true, not_true_eq_false, ite_false, ite_true, reduceIte, ne_eq, not_false_eq_true]

theorem vandnS (a : Fin 32) : Statement (.vandnS a) := by
  intro st ng sw tm p b_ hw_
  obtain ⟨ho, ht⟩ := wf_timed rfl hw_
  obtain ⟨f0, f1, f2, f3, f4, f5, f6, f7, f8, f9, -, -⟩ := fields42 (encode ⟨st, p, ng, sw, tm, b_, .vandnS a⟩) 0 0 b_.val a.val 67 (b2n tm) (b2n sw) (b2n ng) p.val 18 (b2n st)
    (by decide) (by decide) b_.isLt a.isLt (by decide) (b2n_lt tm) (b2n_lt sw) (b2n_lt ng) p.isLt (by decide) (b2n_lt st)
    (show 0x48086000 + a.val * 256 + b2n st * 2147483648 + p.val * 8388608 + b2n ng * 4194304 + b2n sw * 2097152 + b2n tm * 1048576 + b_.val * 8 = _ by omega)
  generalize encode _ = w at *
  simp only [decodeWord, decodeMaj12, sylE, f0, f1, f2, f3, f4, f5, f6, bit_of_fld _ f9, bit_of_fld _ f7, bit_of_fld _ f8, bit_of_fld _ f3, fin_self, ht, and_self, true_and, and_true, not_true_eq_false, ite_false, ite_true, reduceIte, ne_eq, not_false_eq_true]

theorem vnot : Statement (.vnot) := by
  intro st ng sw tm p b_ hw_
  obtain ⟨ho, ht⟩ := wf_timed rfl hw_
  obtain ⟨f0, f1, f2, f3, f4, f5, f6, f7, f8, f9, -, -⟩ := fields41 (encode ⟨st, p, ng, sw, tm, b_, .vnot⟩) 0 0 b_.val 0 4 (b2n tm) (b2n sw) (b2n ng) p.val 18 (b2n st)
    (by decide) (by decide) b_.isLt (by decide) (by decide) (b2n_lt tm) (b2n_lt sw) (b2n_lt ng) p.isLt (by decide) (b2n_lt st)
    (show 0x48008000 + b2n st * 2147483648 + p.val * 8388608 + b2n ng * 4194304 + b2n sw * 2097152 + b2n tm * 1048576 + b_.val * 8 = _ by omega)
  generalize encode _ = w at *
  simp only [decodeWord, decodeMaj12, sylE, f0, f1, f2, f3, f4, f5, f6, bit_of_fld _ f9, bit_of_fld _ f7, bit_of_fld _ f8, bit_of_fld _ f4, fin_self, ht, and_self, true_and, and_true, not_true_eq_false, ite_false, ite_true, reduceIte, ne_eq, not_false_eq_true]

theorem vshl : Statement (.vshl) := by
  intro st ng sw tm p b_ hw_
  obtain ⟨ho, ht⟩ := wf_timed rfl hw_
  obtain ⟨f0, f1, f2, f3, f4, f5, f6, f7, f8, f9, -, -⟩ := fields41 (encode ⟨st, p, ng, sw, tm, b_, .vshl⟩) 0 0 b_.val 0 5 (b2n tm) (b2n sw) (b2n ng) p.val 18 (b2n st)
    (by decide) (by decide) b_.isLt (by decide) (by decide) (b2n_lt tm) (b2n_lt sw) (b2n_lt ng) p.isLt (by decide) (b2n_lt st)
    (show 0x4800A000 + b2n st * 2147483648 + p.val * 8388608 + b2n ng * 4194304 + b2n sw * 2097152 + b2n tm * 1048576 + b_.val * 8 = _ by omega)
  generalize encode _ = w at *
  simp only [decodeWord, decodeMaj12, sylE, f0, f1, f2, f3, f4, f5, f6, bit_of_fld _ f9, bit_of_fld _ f7, bit_of_fld _ f8, bit_of_fld _ f4, fin_self, ht, and_self, true_and, and_true, not_true_eq_false, ite_false, ite_true, reduceIte, ne_eq, not_false_eq_true]

theorem vshlS (a : Fin 32) : Statement (.vshlS a) := by
  intro st ng sw tm p b_ hw_
  obtain ⟨ho, ht⟩ := wf_timed rfl hw_
  obtain ⟨f0, f1, f2, f3, f4, f5, f6, f7, f8, f9, -, -⟩ := fields42 (encode ⟨st, p, ng, sw, tm, b_, .vshlS a⟩) 0 0 b_.val a.val 69 (b2n tm) (b2n sw) (b2n ng) p.val 18 (b2n st)
    (by decide) (by decide) b_.isLt a.isLt (by decide) (b2n_lt tm) (b2n_lt sw) (b2n_lt ng) p.isLt (by decide) (b2n_lt st)
    (show 0x4808A000 + a.val * 256 + b2n st * 2147483648 + p.val * 8388608 + b2n ng * 4194304 + b2n sw * 2097152 + b2n tm * 1048576 + b_.val * 8 = _ by omega)
  generalize encode _ = w at *
  simp only [decodeWord, decodeMaj12, sylE, f0, f1, f2, f3, f4, f5, f6, bit_of_fld _ f9, bit_of_fld _ f7, bit_of_fld _ f8, bit_of_fld _ f3, fin_self, ht, and_self, true_and, and_true, not_true_eq_false, ite_false, ite_true, reduceIte, ne_eq, not_false_eq_true]

theorem vshr : Statement (.vshr) := by
  intro st ng sw tm p b_ hw_
  obtain ⟨ho, ht⟩ := wf_timed rfl hw_
  obtain ⟨f0, f1, f2, f3, f4, f5, f6, f7, f8, f9, -, -⟩ := fields41 (encode ⟨st, p, ng, sw, tm, b_, .vshr⟩) 0 0 b_.val 0 6 (b2n tm) (b2n sw) (b2n ng) p.val 18 (b2n st)
    (by decide) (by decide) b_.isLt (by decide) (by decide) (b2n_lt tm) (b2n_lt sw) (b2n_lt ng) p.isLt (by decide) (b2n_lt st)
    (show 0x4800C000 + b2n st * 2147483648 + p.val * 8388608 + b2n ng * 4194304 + b2n sw * 2097152 + b2n tm * 1048576 + b_.val * 8 = _ by omega)
  generalize encode _ = w at *
  simp only [decodeWord, decodeMaj12, sylE, f0, f1, f2, f3, f4, f5, f6, bit_of_fld _ f9, bit_of_fld _ f7, bit_of_fld _ f8, bit_of_fld _ f4, fin_self, ht, and_self, true_and, and_true, not_true_eq_false, ite_false, ite_true, reduceIte, ne_eq, not_false_eq_true]

theorem vshrS (a : Fin 32) : Statement (.vshrS a) := by
  intro st ng sw tm p b_ hw_
  obtain ⟨ho, ht⟩ := wf_timed rfl hw_
  obtain ⟨f0, f1, f2, f3, f4, f5, f6, f7, f8, f9, -, -⟩ := fields42 (encode ⟨st, p, ng, sw, tm, b_, .vshrS a⟩) 0 0 b_.val a.val 70 (b2n tm) (b2n sw) (b2n ng) p.val 18 (b2n st)
    (by decide) (by decide) b_.isLt a.isLt (by decide) (b2n_lt tm) (b2n_lt sw) (b2n_lt ng) p.isLt (by decide) (b2n_lt st)
    (show 0x4808C000 + a.val * 256 + b2n st * 2147483648 + p.val * 8388608 + b2n ng * 4194304 + b2n sw * 2097152 + b2n tm * 1048576 + b_.val * 8 = _ by omega)
  generalize encode _ = w at *
  simp only [decodeWord, decodeMaj12, sylE, f0, f1, f2, f3, f4, f5, f6, bit_of_fld _ f9, bit_of_fld _ f7, bit_of_fld _ f8, bit_of_fld _ f3, fin_self, ht, and_self, true_and, and_true, not_true_eq_false, ite_false, ite_true, reduceIte, ne_eq, not_false_eq_true]

theorem vsar : Statement (.vsar) := by
  intro st ng sw tm p b_ hw_
  obtain ⟨ho, ht⟩ := wf_timed rfl hw_
  obtain ⟨f0, f1, f2, f3, f4, f5, f6, f7, f8, f9, -, -⟩ := fields41 (encode ⟨st, p, ng, sw, tm, b_, .vsar⟩) 0 0 b_.val 0 7 (b2n tm) (b2n sw) (b2n ng) p.val 18 (b2n st)
    (by decide) (by decide) b_.isLt (by decide) (by decide) (b2n_lt tm) (b2n_lt sw) (b2n_lt ng) p.isLt (by decide) (b2n_lt st)
    (show 0x4800E000 + b2n st * 2147483648 + p.val * 8388608 + b2n ng * 4194304 + b2n sw * 2097152 + b2n tm * 1048576 + b_.val * 8 = _ by omega)
  generalize encode _ = w at *
  simp only [decodeWord, decodeMaj12, sylE, f0, f1, f2, f3, f4, f5, f6, bit_of_fld _ f9, bit_of_fld _ f7, bit_of_fld _ f8, bit_of_fld _ f4, fin_self, ht, and_self, true_and, and_true, not_true_eq_false, ite_false, ite_true, reduceIte, ne_eq, not_false_eq_true]

theorem vsarS (a : Fin 32) : Statement (.vsarS a) := by
  intro st ng sw tm p b_ hw_
  obtain ⟨ho, ht⟩ := wf_timed rfl hw_
  obtain ⟨f0, f1, f2, f3, f4, f5, f6, f7, f8, f9, -, -⟩ := fields42 (encode ⟨st, p, ng, sw, tm, b_, .vsarS a⟩) 0 0 b_.val a.val 71 (b2n tm) (b2n sw) (b2n ng) p.val 18 (b2n st)
    (by decide) (by decide) b_.isLt a.isLt (by decide) (b2n_lt tm) (b2n_lt sw) (b2n_lt ng) p.isLt (by decide) (b2n_lt st)
    (show 0x4808E000 + a.val * 256 + b2n st * 2147483648 + p.val * 8388608 + b2n ng * 4194304 + b2n sw * 2097152 + b2n tm * 1048576 + b_.val * 8 = _ by omega)
  generalize encode _ = w at *
  simp only [decodeWord, decodeMaj12, sylE, f0, f1, f2, f3, f4, f5, f6, bit_of_fld _ f9, bit_of_fld _ f7, bit_of_fld _ f8, bit_of_fld _ f3, fin_self, ht, and_self, true_and, and_true, not_true_eq_false, ite_false, ite_true, reduceIte, ne_eq, not_false_eq_true]

theorem vcmp (r : Fin 8) : Statement (.vcmp r) := by
  intro st ng sw tm p b_ hw_
  obtain ⟨ho, ht⟩ := wf_timed rfl hw_
  obtain ⟨f0, f1, f2, f3, f4, f5, f6, f7, f8, f9⟩ := fields39 (encode ⟨st, p, ng, sw, tm, b_, .vcmp r⟩) r.val b_.val 0 8 (b2n tm) (b2n sw) (b2n ng) p.val 18 (b2n st)
    r.isLt b_.isLt (by decide) (by decide) (b2n_lt tm) (b2n_lt sw) (b2n_lt ng) p.isLt (by decide) (b2n_lt st)
    (show 0x48010000 + r.val + b2n st * 2147483648 + p.val * 8388608 + b2n ng * 4194304 + b2n sw * 2097152 + b2n tm * 1048576 + b_.val * 8 = _ by omega)
  generalize encode _ = w at *
  have hc : r.val < 7 := of_decide_eq_true ho
  simp only [decodeWord, decodeMaj12, sylE, f0, f1, f5, f2, f3, f4, f6, bit_of_fld _ f9, bit_of_fld _ f7, bit_of_fld _ f8, bit_of_fld _ f3, fin_self, hc, ht, and_self, true_and, and_true, not_true_eq_false, ite_false, ite_true, reduceIte, ne_eq, not_false_eq_true]

theorem vcmpS (a : Fin 32) (r : Fin 8) : Statement (.vcmpS a r) := by
  intro st ng sw tm p b_ hw_
  obtain ⟨ho, ht⟩ := wf_timed rfl hw_
  obtain ⟨f0, f1, f2, f3, f4, f5, f6, f7, f8, f9⟩ := fields40 (encode ⟨st, p, ng, sw, tm, b_, .vcmpS a r⟩) r.val b_.val a.val 72 (b2n tm) (b2n sw) (b2n ng) p.val 18 (b2n st)
    r.isLt b_.isLt a.isLt (by decide) (b2n_lt tm) (b2n_lt sw) (b2n_lt ng) p.isLt (by decide) (b2n_lt st)
    (show 0x48090000 + a.val * 256 + r.val + b2n st * 2147483648 + p.val * 8388608 + b2n ng * 4194304 + b2n sw * 2097152 + b2n tm * 1048576 + b_.val * 8 = _ by omega)
  generalize encode _ = w at *
  have hc : r.val < 7 := of_decide_eq_true ho
  simp only [decodeWord, decodeMaj12, sylE, f0, f1, f4, f2, f3, f5, f6, bit_of_fld _ f9, bit_of_fld _ f7, bit_of_fld _ f8, bit_of_fld _ f2, fin_self, hc, ht, and_self, true_and, and_true, not_true_eq_false, ite_false, ite_true, reduceIte, ne_eq, not_false_eq_true]

theorem vsel : Statement (.vsel) := by
  intro st ng sw tm p b_ hw_
  obtain ⟨ho, ht⟩ := wf_timed rfl hw_
  obtain ⟨f0, f1, f2, f3, f4, f5, f6, f7, f8, f9, -, -⟩ := fields41 (encode ⟨st, p, ng, sw, tm, b_, .vsel⟩) 0 0 b_.val 0 9 (b2n tm) (b2n sw) (b2n ng) p.val 18 (b2n st)
    (by decide) (by decide) b_.isLt (by decide) (by decide) (b2n_lt tm) (b2n_lt sw) (b2n_lt ng) p.isLt (by decide) (b2n_lt st)
    (show 0x48012000 + b2n st * 2147483648 + p.val * 8388608 + b2n ng * 4194304 + b2n sw * 2097152 + b2n tm * 1048576 + b_.val * 8 = _ by omega)
  generalize encode _ = w at *
  simp only [decodeWord, decodeMaj12, sylE, f0, f1, f2, f3, f4, f5, f6, bit_of_fld _ f9, bit_of_fld _ f7, bit_of_fld _ f8, bit_of_fld _ f4, fin_self, ht, and_self, true_and, and_true, not_true_eq_false, ite_false, ite_true, reduceIte, ne_eq, not_false_eq_true]

theorem vselS (a : Fin 32) : Statement (.vselS a) := by
  intro st ng sw tm p b_ hw_
  obtain ⟨ho, ht⟩ := wf_timed rfl hw_
  obtain ⟨f0, f1, f2, f3, f4, f5, f6, f7, f8, f9, -, -⟩ := fields42 (encode ⟨st, p, ng, sw, tm, b_, .vselS a⟩) 0 0 b_.val a.val 73 (b2n tm) (b2n sw) (b2n ng) p.val 18 (b2n st)
    (by decide) (by decide) b_.isLt a.isLt (by decide) (b2n_lt tm) (b2n_lt sw) (b2n_lt ng) p.isLt (by decide) (b2n_lt st)
    (show 0x48092000 + a.val * 256 + b2n st * 2147483648 + p.val * 8388608 + b2n ng * 4194304 + b2n sw * 2097152 + b2n tm * 1048576 + b_.val * 8 = _ by omega)
  generalize encode _ = w at *
  simp only [decodeWord, decodeMaj12, sylE, f0, f1, f2, f3, f4, f5, f6, bit_of_fld _ f9, bit_of_fld _ f7, bit_of_fld _ f8, bit_of_fld _ f3, fin_self, ht, and_self, true_and, and_true, not_true_eq_false, ite_false, ite_true, reduceIte, ne_eq, not_false_eq_true]

theorem vpopc : Statement (.vpopc) := by
  intro st ng sw tm p b_ hw_
  obtain ⟨ho, ht⟩ := wf_timed rfl hw_
  obtain ⟨f0, f1, f2, f3, f4, f5, f6, f7, f8, f9, f10, -⟩ := fields41 (encode ⟨st, p, ng, sw, tm, b_, .vpopc⟩) 0 0 b_.val 0 0 (b2n tm) (b2n sw) (b2n ng) p.val 19 (b2n st)
    (by decide) (by decide) b_.isLt (by decide) (by decide) (b2n_lt tm) (b2n_lt sw) (b2n_lt ng) p.isLt (by decide) (b2n_lt st)
    (show 0x4C000000 + b2n st * 2147483648 + p.val * 8388608 + b2n ng * 4194304 + b2n sw * 2097152 + b2n tm * 1048576 + b_.val * 8 = _ by omega)
  generalize encode _ = w at *
  simp only [decodeWord, decodeMaj13, sylE, f0, f1, f10, f2, f3, f4, f5, f6, bit_of_fld _ f9, bit_of_fld _ f7, bit_of_fld _ f8, bit_of_fld _ f4, fin_self, ht, and_self, true_and, and_true, not_true_eq_false, ite_false, ite_true, reduceIte, ne_eq, not_false_eq_true]

theorem vclz : Statement (.vclz) := by
  intro st ng sw tm p b_ hw_
  obtain ⟨ho, ht⟩ := wf_timed rfl hw_
  obtain ⟨f0, f1, f2, f3, f4, f5, f6, f7, f8, f9, f10, -⟩ := fields41 (encode ⟨st, p, ng, sw, tm, b_, .vclz⟩) 0 0 b_.val 0 1 (b2n tm) (b2n sw) (b2n ng) p.val 19 (b2n st)
    (by decide) (by decide) b_.isLt (by decide) (by decide) (b2n_lt tm) (b2n_lt sw) (b2n_lt ng) p.isLt (by decide) (b2n_lt st)
    (show 0x4C002000 + b2n st * 2147483648 + p.val * 8388608 + b2n ng * 4194304 + b2n sw * 2097152 + b2n tm * 1048576 + b_.val * 8 = _ by omega)
  generalize encode _ = w at *
  simp only [decodeWord, decodeMaj13, sylE, f0, f1, f10, f2, f3, f4, f5, f6, bit_of_fld _ f9, bit_of_fld _ f7, bit_of_fld _ f8, bit_of_fld _ f4, fin_self, ht, and_self, true_and, and_true, not_true_eq_false, ite_false, ite_true, reduceIte, ne_eq, not_false_eq_true]

theorem vbrev : Statement (.vbrev) := by
  intro st ng sw tm p b_ hw_
  obtain ⟨ho, ht⟩ := wf_timed rfl hw_
  obtain ⟨f0, f1, f2, f3, f4, f5, f6, f7, f8, f9, f10, -⟩ := fields41 (encode ⟨st, p, ng, sw, tm, b_, .vbrev⟩) 0 0 b_.val 0 2 (b2n tm) (b2n sw) (b2n ng) p.val 19 (b2n st)
    (by decide) (by decide) b_.isLt (by decide) (by decide) (b2n_lt tm) (b2n_lt sw) (b2n_lt ng) p.isLt (by decide) (b2n_lt st)
    (show 0x4C004000 + b2n st * 2147483648 + p.val * 8388608 + b2n ng * 4194304 + b2n sw * 2097152 + b2n tm * 1048576 + b_.val * 8 = _ by omega)
  generalize encode _ = w at *
  simp only [decodeWord, decodeMaj13, sylE, f0, f1, f10, f2, f3, f4, f5, f6, bit_of_fld _ f9, bit_of_fld _ f7, bit_of_fld _ f8, bit_of_fld _ f4, fin_self, ht, and_self, true_and, and_true, not_true_eq_false, ite_false, ite_true, reduceIte, ne_eq, not_false_eq_true]

theorem vfns : Statement (.vfns) := by
  intro st ng sw tm p b_ hw_
  obtain ⟨ho, ht⟩ := wf_timed rfl hw_
  obtain ⟨f0, f1, f2, f3, f4, f5, f6, f7, f8, f9, f10, -⟩ := fields41 (encode ⟨st, p, ng, sw, tm, b_, .vfns⟩) 0 0 b_.val 0 3 (b2n tm) (b2n sw) (b2n ng) p.val 19 (b2n st)
    (by decide) (by decide) b_.isLt (by decide) (by decide) (b2n_lt tm) (b2n_lt sw) (b2n_lt ng) p.isLt (by decide) (b2n_lt st)
    (show 0x4C006000 + b2n st * 2147483648 + p.val * 8388608 + b2n ng * 4194304 + b2n sw * 2097152 + b2n tm * 1048576 + b_.val * 8 = _ by omega)
  generalize encode _ = w at *
  simp only [decodeWord, decodeMaj13, sylE, f0, f1, f10, f2, f3, f4, f5, f6, bit_of_fld _ f9, bit_of_fld _ f7, bit_of_fld _ f8, bit_of_fld _ f4, fin_self, ht, and_self, true_and, and_true, not_true_eq_false, ite_false, ite_true, reduceIte, ne_eq, not_false_eq_true]

theorem vfnsS (a : Fin 32) : Statement (.vfnsS a) := by
  intro st ng sw tm p b_ hw_
  obtain ⟨ho, ht⟩ := wf_timed rfl hw_
  obtain ⟨f0, f1, f2, f3, f4, f5, f6, f7, f8, f9, f10, -⟩ := fields42 (encode ⟨st, p, ng, sw, tm, b_, .vfnsS a⟩) 0 0 b_.val a.val 67 (b2n tm) (b2n sw) (b2n ng) p.val 19 (b2n st)
    (by decide) (by decide) b_.isLt a.isLt (by decide) (b2n_lt tm) (b2n_lt sw) (b2n_lt ng) p.isLt (by decide) (b2n_lt st)
    (show 0x4C086000 + a.val * 256 + b2n st * 2147483648 + p.val * 8388608 + b2n ng * 4194304 + b2n sw * 2097152 + b2n tm * 1048576 + b_.val * 8 = _ by omega)
  generalize encode _ = w at *
  simp only [decodeWord, decodeMaj13, sylE, f0, f1, f10, f2, f3, f4, f5, f6, bit_of_fld _ f9, bit_of_fld _ f7, bit_of_fld _ f8, bit_of_fld _ f3, fin_self, ht, and_self, true_and, and_true, not_true_eq_false, ite_false, ite_true, reduceIte, ne_eq, not_false_eq_true]

theorem vbfx : Statement (.vbfx) := by
  intro st ng sw tm p b_ hw_
  obtain ⟨ho, ht⟩ := wf_timed rfl hw_
  obtain ⟨f0, f1, f2, f3, f4, f5, f6, f7, f8, f9, f10, -⟩ := fields41 (encode ⟨st, p, ng, sw, tm, b_, .vbfx⟩) 0 0 b_.val 0 4 (b2n tm) (b2n sw) (b2n ng) p.val 19 (b2n st)
    (by decide) (by decide) b_.isLt (by decide) (by decide) (b2n_lt tm) (b2n_lt sw) (b2n_lt ng) p.isLt (by decide) (b2n_lt st)
    (show 0x4C008000 + b2n st * 2147483648 + p.val * 8388608 + b2n ng * 4194304 + b2n sw * 2097152 + b2n tm * 1048576 + b_.val * 8 = _ by omega)
  generalize encode _ = w at *
  simp only [decodeWord, decodeMaj13, sylE, f0, f1, f10, f2, f3, f4, f5, f6, bit_of_fld _ f9, bit_of_fld _ f7, bit_of_fld _ f8, bit_of_fld _ f4, fin_self, ht, and_self, true_and, and_true, not_true_eq_false, ite_false, ite_true, reduceIte, ne_eq, not_false_eq_true]

theorem vbfxS (a : Fin 32) : Statement (.vbfxS a) := by
  intro st ng sw tm p b_ hw_
  obtain ⟨ho, ht⟩ := wf_timed rfl hw_
  obtain ⟨f0, f1, f2, f3, f4, f5, f6, f7, f8, f9, f10, -⟩ := fields42 (encode ⟨st, p, ng, sw, tm, b_, .vbfxS a⟩) 0 0 b_.val a.val 68 (b2n tm) (b2n sw) (b2n ng) p.val 19 (b2n st)
    (by decide) (by decide) b_.isLt a.isLt (by decide) (b2n_lt tm) (b2n_lt sw) (b2n_lt ng) p.isLt (by decide) (b2n_lt st)
    (show 0x4C088000 + a.val * 256 + b2n st * 2147483648 + p.val * 8388608 + b2n ng * 4194304 + b2n sw * 2097152 + b2n tm * 1048576 + b_.val * 8 = _ by omega)
  generalize encode _ = w at *
  simp only [decodeWord, decodeMaj13, sylE, f0, f1, f10, f2, f3, f4, f5, f6, bit_of_fld _ f9, bit_of_fld _ f7, bit_of_fld _ f8, bit_of_fld _ f3, fin_self, ht, and_self, true_and, and_true, not_true_eq_false, ite_false, ite_true, reduceIte, ne_eq, not_false_eq_true]

theorem vbfi : Statement (.vbfi) := by
  intro st ng sw tm p b_ hw_
  obtain ⟨ho, ht⟩ := wf_timed rfl hw_
  obtain ⟨f0, f1, f2, f3, f4, f5, f6, f7, f8, f9, f10, -⟩ := fields41 (encode ⟨st, p, ng, sw, tm, b_, .vbfi⟩) 0 0 b_.val 0 5 (b2n tm) (b2n sw) (b2n ng) p.val 19 (b2n st)
    (by decide) (by decide) b_.isLt (by decide) (by decide) (b2n_lt tm) (b2n_lt sw) (b2n_lt ng) p.isLt (by decide) (b2n_lt st)
    (show 0x4C00A000 + b2n st * 2147483648 + p.val * 8388608 + b2n ng * 4194304 + b2n sw * 2097152 + b2n tm * 1048576 + b_.val * 8 = _ by omega)
  generalize encode _ = w at *
  simp only [decodeWord, decodeMaj13, sylE, f0, f1, f10, f2, f3, f4, f5, f6, bit_of_fld _ f9, bit_of_fld _ f7, bit_of_fld _ f8, bit_of_fld _ f4, fin_self, ht, and_self, true_and, and_true, not_true_eq_false, ite_false, ite_true, reduceIte, ne_eq, not_false_eq_true]

theorem vbfiS (a : Fin 32) : Statement (.vbfiS a) := by
  intro st ng sw tm p b_ hw_
  obtain ⟨ho, ht⟩ := wf_timed rfl hw_
  obtain ⟨f0, f1, f2, f3, f4, f5, f6, f7, f8, f9, f10, -⟩ := fields42 (encode ⟨st, p, ng, sw, tm, b_, .vbfiS a⟩) 0 0 b_.val a.val 69 (b2n tm) (b2n sw) (b2n ng) p.val 19 (b2n st)
    (by decide) (by decide) b_.isLt a.isLt (by decide) (b2n_lt tm) (b2n_lt sw) (b2n_lt ng) p.isLt (by decide) (b2n_lt st)
    (show 0x4C08A000 + a.val * 256 + b2n st * 2147483648 + p.val * 8388608 + b2n ng * 4194304 + b2n sw * 2097152 + b2n tm * 1048576 + b_.val * 8 = _ by omega)
  generalize encode _ = w at *
  simp only [decodeWord, decodeMaj13, sylE, f0, f1, f10, f2, f3, f4, f5, f6, bit_of_fld _ f9, bit_of_fld _ f7, bit_of_fld _ f8, bit_of_fld _ f3, fin_self, ht, and_self, true_and, and_true, not_true_eq_false, ite_false, ite_true, reduceIte, ne_eq, not_false_eq_true]

theorem vfshL : Statement (.vfshL) := by
  intro st ng sw tm p b_ hw_
  obtain ⟨ho, ht⟩ := wf_timed rfl hw_
  obtain ⟨f0, f1, -, f3, f4, f5, f6, f7, f8, f9, f10, f11⟩ := fields41 (encode ⟨st, p, ng, sw, tm, b_, .vfshL⟩) 0 0 b_.val 0 6 (b2n tm) (b2n sw) (b2n ng) p.val 19 (b2n st)
    (by decide) (by decide) b_.isLt (by decide) (by decide) (b2n_lt tm) (b2n_lt sw) (b2n_lt ng) p.isLt (by decide) (b2n_lt st)
    (show 0x4C00C000 + b2n st * 2147483648 + p.val * 8388608 + b2n ng * 4194304 + b2n sw * 2097152 + b2n tm * 1048576 + b_.val * 8 = _ by omega)
  generalize encode _ = w at *
  simp only [decodeWord, decodeMaj13, sylE, f0, f1, f10, f11, f3, f4, f5, f6, bit_of_fld _ f9, bit_of_fld _ f7, bit_of_fld _ f8, bit_of_fld _ f4, fin_self, ht, and_self, true_and, and_true, not_true_eq_false, ite_false, ite_true, reduceIte, ne_eq, not_false_eq_true]

theorem vfshLS (a : Fin 32) : Statement (.vfshLS a) := by
  intro st ng sw tm p b_ hw_
  obtain ⟨ho, ht⟩ := wf_timed rfl hw_
  obtain ⟨f0, f1, -, f3, f4, f5, f6, f7, f8, f9, f10, f11⟩ := fields42 (encode ⟨st, p, ng, sw, tm, b_, .vfshLS a⟩) 0 0 b_.val a.val 70 (b2n tm) (b2n sw) (b2n ng) p.val 19 (b2n st)
    (by decide) (by decide) b_.isLt a.isLt (by decide) (b2n_lt tm) (b2n_lt sw) (b2n_lt ng) p.isLt (by decide) (b2n_lt st)
    (show 0x4C08C000 + a.val * 256 + b2n st * 2147483648 + p.val * 8388608 + b2n ng * 4194304 + b2n sw * 2097152 + b2n tm * 1048576 + b_.val * 8 = _ by omega)
  generalize encode _ = w at *
  simp only [decodeWord, decodeMaj13, sylE, f0, f1, f10, f11, f3, f4, f5, f6, bit_of_fld _ f9, bit_of_fld _ f7, bit_of_fld _ f8, bit_of_fld _ f3, fin_self, ht, and_self, true_and, and_true, not_true_eq_false, ite_false, ite_true, reduceIte, ne_eq, not_false_eq_true]

theorem vfshR : Statement (.vfshR) := by
  intro st ng sw tm p b_ hw_
  obtain ⟨ho, ht⟩ := wf_timed rfl hw_
  obtain ⟨f0, f1, -, f3, f4, f5, f6, f7, f8, f9, f10, f11⟩ := fields41 (encode ⟨st, p, ng, sw, tm, b_, .vfshR⟩) 1 0 b_.val 0 6 (b2n tm) (b2n sw) (b2n ng) p.val 19 (b2n st)
    (by decide) (by decide) b_.isLt (by decide) (by decide) (b2n_lt tm) (b2n_lt sw) (b2n_lt ng) p.isLt (by decide) (b2n_lt st)
    (show 0x4C00C001 + b2n st * 2147483648 + p.val * 8388608 + b2n ng * 4194304 + b2n sw * 2097152 + b2n tm * 1048576 + b_.val * 8 = _ by omega)
  generalize encode _ = w at *
  simp only [decodeWord, decodeMaj13, sylE, f0, f1, f10, f11, f3, f4, f5, f6, bit_of_fld _ f9, bit_of_fld _ f7, bit_of_fld _ f8, bit_of_fld _ f4, fin_self, ht, and_self, true_and, and_true, not_true_eq_false, ite_false, ite_true, reduceIte, ne_eq, not_false_eq_true]

theorem vfshRS (a : Fin 32) : Statement (.vfshRS a) := by
  intro st ng sw tm p b_ hw_
  obtain ⟨ho, ht⟩ := wf_timed rfl hw_
  obtain ⟨f0, f1, -, f3, f4, f5, f6, f7, f8, f9, f10, f11⟩ := fields42 (encode ⟨st, p, ng, sw, tm, b_, .vfshRS a⟩) 1 0 b_.val a.val 70 (b2n tm) (b2n sw) (b2n ng) p.val 19 (b2n st)
    (by decide) (by decide) b_.isLt a.isLt (by decide) (b2n_lt tm) (b2n_lt sw) (b2n_lt ng) p.isLt (by decide) (b2n_lt st)
    (show 0x4C08C001 + a.val * 256 + b2n st * 2147483648 + p.val * 8388608 + b2n ng * 4194304 + b2n sw * 2097152 + b2n tm * 1048576 + b_.val * 8 = _ by omega)
  generalize encode _ = w at *
  simp only [decodeWord, decodeMaj13, sylE, f0, f1, f10, f11, f3, f4, f5, f6, bit_of_fld _ f9, bit_of_fld _ f7, bit_of_fld _ f8, bit_of_fld _ f3, fin_self, ht, and_self, true_and, and_true, not_true_eq_false, ite_false, ite_true, reduceIte, ne_eq, not_false_eq_true]

theorem vcvt (x : Fin 8) : Statement (.vcvt x) := by
  intro st ng sw tm p b_ hw_
  obtain ⟨ho, ht⟩ := wf_timed rfl hw_
  obtain ⟨f0, f1, f2, f3, f4, f5, f6, f7, f8, f9⟩ := fields39 (encode ⟨st, p, ng, sw, tm, b_, .vcvt x⟩) x.val b_.val 0 0 (b2n tm) (b2n sw) (b2n ng) p.val 20 (b2n st)
    x.isLt b_.isLt (by decide) (by decide) (b2n_lt tm) (b2n_lt sw) (b2n_lt ng) p.isLt (by decide) (b2n_lt st)
    (show 0x50000000 + x.val + b2n st * 2147483648 + p.val * 8388608 + b2n ng * 4194304 + b2n sw * 2097152 + b2n tm * 1048576 + b_.val * 8 = _ by omega)
  generalize encode _ = w at *
  have hc : x.val < 7 := of_decide_eq_true ho
  simp only [decodeWord, decodeMaj14, sylE, f0, f1, f2, f3, f4, f5, f6, bit_of_fld _ f9, bit_of_fld _ f7, bit_of_fld _ f8, bit_of_fld _ f3, fin_self, hc, ht, and_self, true_and, and_true, not_true_eq_false, ite_false, ite_true, reduceIte, ne_eq, not_false_eq_true]

theorem vexp2 : Statement (.vexp2) := by
  intro st ng sw tm p b_ hw_
  obtain ⟨ho, ht⟩ := wf_timed rfl hw_
  obtain ⟨f0, f1, f2, f3, f4, f5, f6, f7, f8, f9, -, -⟩ := fields41 (encode ⟨st, p, ng, sw, tm, b_, .vexp2⟩) 0 0 b_.val 0 1 (b2n tm) (b2n sw) (b2n ng) p.val 20 (b2n st)
    (by decide) (by decide) b_.isLt (by decide) (by decide) (b2n_lt tm) (b2n_lt sw) (b2n_lt ng) p.isLt (by decide) (b2n_lt st)
    (show 0x50002000 + b2n st * 2147483648 + p.val * 8388608 + b2n ng * 4194304 + b2n sw * 2097152 + b2n tm * 1048576 + b_.val * 8 = _ by omega)
  generalize encode _ = w at *
  simp only [decodeWord, decodeMaj14, sylE, f0, f1, f2, f3, f4, f5, f6, bit_of_fld _ f9, bit_of_fld _ f7, bit_of_fld _ f8, bit_of_fld _ f4, fin_self, ht, and_self, true_and, and_true, not_true_eq_false, ite_false, ite_true, reduceIte, ne_eq, not_false_eq_true]

theorem vlog2 : Statement (.vlog2) := by
  intro st ng sw tm p b_ hw_
  obtain ⟨ho, ht⟩ := wf_timed rfl hw_
  obtain ⟨f0, f1, f2, f3, f4, f5, f6, f7, f8, f9, -, -⟩ := fields41 (encode ⟨st, p, ng, sw, tm, b_, .vlog2⟩) 0 0 b_.val 0 2 (b2n tm) (b2n sw) (b2n ng) p.val 20 (b2n st)
    (by decide) (by decide) b_.isLt (by decide) (by decide) (b2n_lt tm) (b2n_lt sw) (b2n_lt ng) p.isLt (by decide) (b2n_lt st)
    (show 0x50004000 + b2n st * 2147483648 + p.val * 8388608 + b2n ng * 4194304 + b2n sw * 2097152 + b2n tm * 1048576 + b_.val * 8 = _ by omega)
  generalize encode _ = w at *
  simp only [decodeWord, decodeMaj14, sylE, f0, f1, f2, f3, f4, f5, f6, bit_of_fld _ f9, bit_of_fld _ f7, bit_of_fld _ f8, bit_of_fld _ f4, fin_self, ht, and_self, true_and, and_true, not_true_eq_false, ite_false, ite_true, reduceIte, ne_eq, not_false_eq_true]

theorem vrcp : Statement (.vrcp) := by
  intro st ng sw tm p b_ hw_
  obtain ⟨ho, ht⟩ := wf_timed rfl hw_
  obtain ⟨f0, f1, f2, f3, f4, f5, f6, f7, f8, f9, -, -⟩ := fields41 (encode ⟨st, p, ng, sw, tm, b_, .vrcp⟩) 0 0 b_.val 0 3 (b2n tm) (b2n sw) (b2n ng) p.val 20 (b2n st)
    (by decide) (by decide) b_.isLt (by decide) (by decide) (b2n_lt tm) (b2n_lt sw) (b2n_lt ng) p.isLt (by decide) (b2n_lt st)
    (show 0x50006000 + b2n st * 2147483648 + p.val * 8388608 + b2n ng * 4194304 + b2n sw * 2097152 + b2n tm * 1048576 + b_.val * 8 = _ by omega)
  generalize encode _ = w at *
  simp only [decodeWord, decodeMaj14, sylE, f0, f1, f2, f3, f4, f5, f6, bit_of_fld _ f9, bit_of_fld _ f7, bit_of_fld _ f8, bit_of_fld _ f4, fin_self, ht, and_self, true_and, and_true, not_true_eq_false, ite_false, ite_true, reduceIte, ne_eq, not_false_eq_true]

theorem vrsqrt : Statement (.vrsqrt) := by
  intro st ng sw tm p b_ hw_
  obtain ⟨ho, ht⟩ := wf_timed rfl hw_
  obtain ⟨f0, f1, f2, f3, f4, f5, f6, f7, f8, f9, -, -⟩ := fields41 (encode ⟨st, p, ng, sw, tm, b_, .vrsqrt⟩) 0 0 b_.val 0 4 (b2n tm) (b2n sw) (b2n ng) p.val 20 (b2n st)
    (by decide) (by decide) b_.isLt (by decide) (by decide) (b2n_lt tm) (b2n_lt sw) (b2n_lt ng) p.isLt (by decide) (b2n_lt st)
    (show 0x50008000 + b2n st * 2147483648 + p.val * 8388608 + b2n ng * 4194304 + b2n sw * 2097152 + b2n tm * 1048576 + b_.val * 8 = _ by omega)
  generalize encode _ = w at *
  simp only [decodeWord, decodeMaj14, sylE, f0, f1, f2, f3, f4, f5, f6, bit_of_fld _ f9, bit_of_fld _ f7, bit_of_fld _ f8, bit_of_fld _ f4, fin_self, ht, and_self, true_and, and_true, not_true_eq_false, ite_false, ite_true, reduceIte, ne_eq, not_false_eq_true]

theorem vsplit (a : Fin 32) : Statement (.vsplit a) := by
  intro st ng sw tm p b_ hw_
  obtain ⟨ho, ht⟩ := wf_timed rfl hw_
  obtain ⟨f0, f1, f2, f3, f4, f5, f6, f7, f8, f9, -, -⟩ := fields42 (encode ⟨st, p, ng, sw, tm, b_, .vsplit a⟩) 0 0 b_.val a.val 8 (b2n tm) (b2n sw) (b2n ng) p.val 20 (b2n st)
    (by decide) (by decide) b_.isLt a.isLt (by decide) (b2n_lt tm) (b2n_lt sw) (b2n_lt ng) p.isLt (by decide) (b2n_lt st)
    (show 0x50010000 + a.val * 256 + b2n st * 2147483648 + p.val * 8388608 + b2n ng * 4194304 + b2n sw * 2097152 + b2n tm * 1048576 + b_.val * 8 = _ by omega)
  generalize encode _ = w at *
  simp only [decodeWord, decodeMaj14, sylE, f0, f1, f2, f3, f4, f5, f6, bit_of_fld _ f9, bit_of_fld _ f7, bit_of_fld _ f8, bit_of_fld _ f3, fin_self, ht, and_self, true_and, and_true, not_true_eq_false, ite_false, ite_true, reduceIte, ne_eq, not_false_eq_true]

theorem vredsumAll (x : Fin 8) : Statement (.vredsumAll x) := by
  intro st ng sw tm p b_ hw_
  obtain ⟨ho, ht⟩ := wf_timed rfl hw_
  obtain ⟨f0, f1, f2, f3, f4, f5, f6, f7, f8, f9⟩ := fields39 (encode ⟨st, p, ng, sw, tm, b_, .vredsumAll x⟩) x.val b_.val 0 0 (b2n tm) (b2n sw) (b2n ng) p.val 21 (b2n st)
    x.isLt b_.isLt (by decide) (by decide) (b2n_lt tm) (b2n_lt sw) (b2n_lt ng) p.isLt (by decide) (b2n_lt st)
    (show 0x54000000 + x.val + b2n st * 2147483648 + p.val * 8388608 + b2n ng * 4194304 + b2n sw * 2097152 + b2n tm * 1048576 + b_.val * 8 = _ by omega)
  generalize encode _ = w at *
  have hc : x.val < 7 := of_decide_eq_true ho
  simp only [decodeWord, decodeMaj15, sylE, f0, f1, f2, f3, f4, f5, f6, bit_of_fld _ f9, bit_of_fld _ f7, bit_of_fld _ f8, bit_of_fld _ f3, fin_self, hc, ht, and_self, true_and, and_true, not_true_eq_false, ite_false, ite_true, reduceIte, ne_eq, not_false_eq_true]

theorem vredsumRow (x : Fin 8) : Statement (.vredsumRow x) := by
  intro st ng sw tm p b_ hw_
  obtain ⟨ho, ht⟩ := wf_timed rfl hw_
  obtain ⟨f0, f1, f2, f3, f4, f5, f6, f7, f8, f9⟩ := fields39 (encode ⟨st, p, ng, sw, tm, b_, .vredsumRow x⟩) x.val b_.val 0 1 (b2n tm) (b2n sw) (b2n ng) p.val 21 (b2n st)
    x.isLt b_.isLt (by decide) (by decide) (b2n_lt tm) (b2n_lt sw) (b2n_lt ng) p.isLt (by decide) (b2n_lt st)
    (show 0x54002000 + x.val + b2n st * 2147483648 + p.val * 8388608 + b2n ng * 4194304 + b2n sw * 2097152 + b2n tm * 1048576 + b_.val * 8 = _ by omega)
  generalize encode _ = w at *
  have hc : x.val < 7 := of_decide_eq_true ho
  simp only [decodeWord, decodeMaj15, sylE, f0, f1, f2, f3, f4, f5, f6, bit_of_fld _ f9, bit_of_fld _ f7, bit_of_fld _ f8, bit_of_fld _ f3, fin_self, hc, ht, and_self, true_and, and_true, not_true_eq_false, ite_false, ite_true, reduceIte, ne_eq, not_false_eq_true]

theorem vredsumCol (x : Fin 8) : Statement (.vredsumCol x) := by
  intro st ng sw tm p b_ hw_
  obtain ⟨ho, ht⟩ := wf_timed rfl hw_
  obtain ⟨f0, f1, f2, f3, f4, f5, f6, f7, f8, f9⟩ := fields39 (encode ⟨st, p, ng, sw, tm, b_, .vredsumCol x⟩) x.val b_.val 0 2 (b2n tm) (b2n sw) (b2n ng) p.val 21 (b2n st)
    x.isLt b_.isLt (by decide) (by decide) (b2n_lt tm) (b2n_lt sw) (b2n_lt ng) p.isLt (by decide) (b2n_lt st)
    (show 0x54004000 + x.val + b2n st * 2147483648 + p.val * 8388608 + b2n ng * 4194304 + b2n sw * 2097152 + b2n tm * 1048576 + b_.val * 8 = _ by omega)
  generalize encode _ = w at *
  have hc : x.val < 7 := of_decide_eq_true ho
  simp only [decodeWord, decodeMaj15, sylE, f0, f1, f2, f3, f4, f5, f6, bit_of_fld _ f9, bit_of_fld _ f7, bit_of_fld _ f8, bit_of_fld _ f3, fin_self, hc, ht, and_self, true_and, and_true, not_true_eq_false, ite_false, ite_true, reduceIte, ne_eq, not_false_eq_true]

theorem vredmaxAll : Statement (.vredmaxAll) := by
  intro st ng sw tm p b_ hw_
  obtain ⟨ho, ht⟩ := wf_timed rfl hw_
  obtain ⟨f0, f1, f2, f3, f4, f5, f6, f7, f8, f9, -, -⟩ := fields41 (encode ⟨st, p, ng, sw, tm, b_, .vredmaxAll⟩) 0 0 b_.val 0 4 (b2n tm) (b2n sw) (b2n ng) p.val 21 (b2n st)
    (by decide) (by decide) b_.isLt (by decide) (by decide) (b2n_lt tm) (b2n_lt sw) (b2n_lt ng) p.isLt (by decide) (b2n_lt st)
    (show 0x54008000 + b2n st * 2147483648 + p.val * 8388608 + b2n ng * 4194304 + b2n sw * 2097152 + b2n tm * 1048576 + b_.val * 8 = _ by omega)
  generalize encode _ = w at *
  simp only [decodeWord, decodeMaj15, sylE, f0, f1, f2, f3, f4, f5, f6, bit_of_fld _ f9, bit_of_fld _ f7, bit_of_fld _ f8, bit_of_fld _ f4, fin_self, ht, and_self, true_and, and_true, not_true_eq_false, ite_false, ite_true, reduceIte, ne_eq, not_false_eq_true]

theorem vredmaxRow : Statement (.vredmaxRow) := by
  intro st ng sw tm p b_ hw_
  obtain ⟨ho, ht⟩ := wf_timed rfl hw_
  obtain ⟨f0, f1, f2, f3, f4, f5, f6, f7, f8, f9, -, -⟩ := fields41 (encode ⟨st, p, ng, sw, tm, b_, .vredmaxRow⟩) 0 0 b_.val 0 5 (b2n tm) (b2n sw) (b2n ng) p.val 21 (b2n st)
    (by decide) (by decide) b_.isLt (by decide) (by decide) (b2n_lt tm) (b2n_lt sw) (b2n_lt ng) p.isLt (by decide) (b2n_lt st)
    (show 0x5400A000 + b2n st * 2147483648 + p.val * 8388608 + b2n ng * 4194304 + b2n sw * 2097152 + b2n tm * 1048576 + b_.val * 8 = _ by omega)
  generalize encode _ = w at *
  simp only [decodeWord, decodeMaj15, sylE, f0, f1, f2, f3, f4, f5, f6, bit_of_fld _ f9, bit_of_fld _ f7, bit_of_fld _ f8, bit_of_fld _ f4, fin_self, ht, and_self, true_and, and_true, not_true_eq_false, ite_false, ite_true, reduceIte, ne_eq, not_false_eq_true]

theorem vredmaxCol : Statement (.vredmaxCol) := by
  intro st ng sw tm p b_ hw_
  obtain ⟨ho, ht⟩ := wf_timed rfl hw_
  obtain ⟨f0, f1, f2, f3, f4, f5, f6, f7, f8, f9, -, -⟩ := fields41 (encode ⟨st, p, ng, sw, tm, b_, .vredmaxCol⟩) 0 0 b_.val 0 6 (b2n tm) (b2n sw) (b2n ng) p.val 21 (b2n st)
    (by decide) (by decide) b_.isLt (by decide) (by decide) (b2n_lt tm) (b2n_lt sw) (b2n_lt ng) p.isLt (by decide) (b2n_lt st)
    (show 0x5400C000 + b2n st * 2147483648 + p.val * 8388608 + b2n ng * 4194304 + b2n sw * 2097152 + b2n tm * 1048576 + b_.val * 8 = _ by omega)
  generalize encode _ = w at *
  simp only [decodeWord, decodeMaj15, sylE, f0, f1, f2, f3, f4, f5, f6, bit_of_fld _ f9, bit_of_fld _ f7, bit_of_fld _ f8, bit_of_fld _ f4, fin_self, ht, and_self, true_and, and_true, not_true_eq_false, ite_false, ite_true, reduceIte, ne_eq, not_false_eq_true]

theorem vredminAll : Statement (.vredminAll) := by
  intro st ng sw tm p b_ hw_
  obtain ⟨ho, ht⟩ := wf_timed rfl hw_
  obtain ⟨f0, f1, f2, f3, f4, f5, f6, f7, f8, f9, -, -⟩ := fields41 (encode ⟨st, p, ng, sw, tm, b_, .vredminAll⟩) 0 0 b_.val 0 8 (b2n tm) (b2n sw) (b2n ng) p.val 21 (b2n st)
    (by decide) (by decide) b_.isLt (by decide) (by decide) (b2n_lt tm) (b2n_lt sw) (b2n_lt ng) p.isLt (by decide) (b2n_lt st)
    (show 0x54010000 + b2n st * 2147483648 + p.val * 8388608 + b2n ng * 4194304 + b2n sw * 2097152 + b2n tm * 1048576 + b_.val * 8 = _ by omega)
  generalize encode _ = w at *
  simp only [decodeWord, decodeMaj15, sylE, f0, f1, f2, f3, f4, f5, f6, bit_of_fld _ f9, bit_of_fld _ f7, bit_of_fld _ f8, bit_of_fld _ f4, fin_self, ht, and_self, true_and, and_true, not_true_eq_false, ite_false, ite_true, reduceIte, ne_eq, not_false_eq_true]

theorem vredminRow : Statement (.vredminRow) := by
  intro st ng sw tm p b_ hw_
  obtain ⟨ho, ht⟩ := wf_timed rfl hw_
  obtain ⟨f0, f1, f2, f3, f4, f5, f6, f7, f8, f9, -, -⟩ := fields41 (encode ⟨st, p, ng, sw, tm, b_, .vredminRow⟩) 0 0 b_.val 0 9 (b2n tm) (b2n sw) (b2n ng) p.val 21 (b2n st)
    (by decide) (by decide) b_.isLt (by decide) (by decide) (b2n_lt tm) (b2n_lt sw) (b2n_lt ng) p.isLt (by decide) (b2n_lt st)
    (show 0x54012000 + b2n st * 2147483648 + p.val * 8388608 + b2n ng * 4194304 + b2n sw * 2097152 + b2n tm * 1048576 + b_.val * 8 = _ by omega)
  generalize encode _ = w at *
  simp only [decodeWord, decodeMaj15, sylE, f0, f1, f2, f3, f4, f5, f6, bit_of_fld _ f9, bit_of_fld _ f7, bit_of_fld _ f8, bit_of_fld _ f4, fin_self, ht, and_self, true_and, and_true, not_true_eq_false, ite_false, ite_true, reduceIte, ne_eq, not_false_eq_true]

theorem vredminCol : Statement (.vredminCol) := by
  intro st ng sw tm p b_ hw_
  obtain ⟨ho, ht⟩ := wf_timed rfl hw_
  obtain ⟨f0, f1, f2, f3, f4, f5, f6, f7, f8, f9, -, -⟩ := fields41 (encode ⟨st, p, ng, sw, tm, b_, .vredminCol⟩) 0 0 b_.val 0 10 (b2n tm) (b2n sw) (b2n ng) p.val 21 (b2n st)
    (by decide) (by decide) b_.isLt (by decide) (by decide) (b2n_lt tm) (b2n_lt sw) (b2n_lt ng) p.isLt (by decide) (b2n_lt st)
    (show 0x54014000 + b2n st * 2147483648 + p.val * 8388608 + b2n ng * 4194304 + b2n sw * 2097152 + b2n tm * 1048576 + b_.val * 8 = _ by omega)
  generalize encode _ = w at *
  simp only [decodeWord, decodeMaj15, sylE, f0, f1, f2, f3, f4, f5, f6, bit_of_fld _ f9, bit_of_fld _ f7, bit_of_fld _ f8, bit_of_fld _ f4, fin_self, ht, and_self, true_and, and_true, not_true_eq_false, ite_false, ite_true, reduceIte, ne_eq, not_false_eq_true]

theorem vargmaxAll (a : Fin 32) : Statement (.vargmaxAll a) := by
  intro st ng sw tm p b_ hw_
  obtain ⟨ho, ht⟩ := wf_timed rfl hw_
  obtain ⟨f0, f1, f2, f3, f4, f5, f6, f7, f8, f9, -, -⟩ := fields42 (encode ⟨st, p, ng, sw, tm, b_, .vargmaxAll a⟩) 0 0 b_.val a.val 12 (b2n tm) (b2n sw) (b2n ng) p.val 21 (b2n st)
    (by decide) (by decide) b_.isLt a.isLt (by decide) (b2n_lt tm) (b2n_lt sw) (b2n_lt ng) p.isLt (by decide) (b2n_lt st)
    (show 0x54018000 + a.val * 256 + b2n st * 2147483648 + p.val * 8388608 + b2n ng * 4194304 + b2n sw * 2097152 + b2n tm * 1048576 + b_.val * 8 = _ by omega)
  generalize encode _ = w at *
  simp only [decodeWord, decodeMaj15, sylE, f0, f1, f2, f3, f4, f5, f6, bit_of_fld _ f9, bit_of_fld _ f7, bit_of_fld _ f8, bit_of_fld _ f3, fin_self, ht, and_self, true_and, and_true, not_true_eq_false, ite_false, ite_true, reduceIte, ne_eq, not_false_eq_true]

theorem vargmaxRow (a : Fin 32) : Statement (.vargmaxRow a) := by
  intro st ng sw tm p b_ hw_
  obtain ⟨ho, ht⟩ := wf_timed rfl hw_
  obtain ⟨f0, f1, f2, f3, f4, f5, f6, f7, f8, f9, -, -⟩ := fields42 (encode ⟨st, p, ng, sw, tm, b_, .vargmaxRow a⟩) 0 0 b_.val a.val 13 (b2n tm) (b2n sw) (b2n ng) p.val 21 (b2n st)
    (by decide) (by decide) b_.isLt a.isLt (by decide) (b2n_lt tm) (b2n_lt sw) (b2n_lt ng) p.isLt (by decide) (b2n_lt st)
    (show 0x5401A000 + a.val * 256 + b2n st * 2147483648 + p.val * 8388608 + b2n ng * 4194304 + b2n sw * 2097152 + b2n tm * 1048576 + b_.val * 8 = _ by omega)
  generalize encode _ = w at *
  simp only [decodeWord, decodeMaj15, sylE, f0, f1, f2, f3, f4, f5, f6, bit_of_fld _ f9, bit_of_fld _ f7, bit_of_fld _ f8, bit_of_fld _ f3, fin_self, ht, and_self, true_and, and_true, not_true_eq_false, ite_false, ite_true, reduceIte, ne_eq, not_false_eq_true]

theorem vargmaxCol (a : Fin 32) : Statement (.vargmaxCol a) := by
  intro st ng sw tm p b_ hw_
  obtain ⟨ho, ht⟩ := wf_timed rfl hw_
  obtain ⟨f0, f1, f2, f3, f4, f5, f6, f7, f8, f9, -, -⟩ := fields42 (encode ⟨st, p, ng, sw, tm, b_, .vargmaxCol a⟩) 0 0 b_.val a.val 14 (b2n tm) (b2n sw) (b2n ng) p.val 21 (b2n st)
    (by decide) (by decide) b_.isLt a.isLt (by decide) (b2n_lt tm) (b2n_lt sw) (b2n_lt ng) p.isLt (by decide) (b2n_lt st)
    (show 0x5401C000 + a.val * 256 + b2n st * 2147483648 + p.val * 8388608 + b2n ng * 4194304 + b2n sw * 2097152 + b2n tm * 1048576 + b_.val * 8 = _ by omega)
  generalize encode _ = w at *
  simp only [decodeWord, decodeMaj15, sylE, f0, f1, f2, f3, f4, f5, f6, bit_of_fld _ f9, bit_of_fld _ f7, bit_of_fld _ f8, bit_of_fld _ f3, fin_self, ht, and_self, true_and, and_true, not_true_eq_false, ite_false, ite_true, reduceIte, ne_eq, not_false_eq_true]

theorem vscan (x : Fin 8) : Statement (.vscan x) := by
  intro st ng sw tm p b_ hw_
  obtain ⟨ho, ht⟩ := wf_timed rfl hw_
  obtain ⟨f0, f1, f2, f3, f4, f5, f6, f7, f8, f9⟩ := fields39 (encode ⟨st, p, ng, sw, tm, b_, .vscan x⟩) x.val b_.val 0 16 (b2n tm) (b2n sw) (b2n ng) p.val 21 (b2n st)
    x.isLt b_.isLt (by decide) (by decide) (b2n_lt tm) (b2n_lt sw) (b2n_lt ng) p.isLt (by decide) (b2n_lt st)
    (show 0x54020000 + x.val + b2n st * 2147483648 + p.val * 8388608 + b2n ng * 4194304 + b2n sw * 2097152 + b2n tm * 1048576 + b_.val * 8 = _ by omega)
  generalize encode _ = w at *
  have hc : x.val < 7 := of_decide_eq_true ho
  simp only [decodeWord, decodeMaj15, sylE, f0, f1, f2, f3, f4, f5, f6, bit_of_fld _ f9, bit_of_fld _ f7, bit_of_fld _ f8, bit_of_fld _ f3, fin_self, hc, ht, and_self, true_and, and_true, not_true_eq_false, ite_false, ite_true, reduceIte, ne_eq, not_false_eq_true]

theorem vgath : Statement (.vgath) := by
  intro st ng sw tm p b_ hw_
  obtain ⟨ho, ht⟩ := wf_timed rfl hw_
  obtain ⟨f0, f1, f2, f3, f4, f5, f6, f7, f8, f9, -, -⟩ := fields41 (encode ⟨st, p, ng, sw, tm, b_, .vgath⟩) 0 0 b_.val 0 20 (b2n tm) (b2n sw) (b2n ng) p.val 21 (b2n st)
    (by decide) (by decide) b_.isLt (by decide) (by decide) (b2n_lt tm) (b2n_lt sw) (b2n_lt ng) p.isLt (by decide) (b2n_lt st)
    (show 0x54028000 + b2n st * 2147483648 + p.val * 8388608 + b2n ng * 4194304 + b2n sw * 2097152 + b2n tm * 1048576 + b_.val * 8 = _ by omega)
  generalize encode _ = w at *
  simp only [decodeWord, decodeMaj15, sylE, f0, f1, f2, f3, f4, f5, f6, bit_of_fld _ f9, bit_of_fld _ f7, bit_of_fld _ f8, bit_of_fld _ f4, fin_self, ht, and_self, true_and, and_true, not_true_eq_false, ite_false, ite_true, reduceIte, ne_eq, not_false_eq_true]

theorem vscat : Statement (.vscat) := by
  intro st ng sw tm p b_ hw_
  obtain ⟨ho, ht⟩ := wf_timed rfl hw_
  obtain ⟨f0, f1, f2, f3, f4, f5, f6, f7, f8, f9, -, -⟩ := fields41 (encode ⟨st, p, ng, sw, tm, b_, .vscat⟩) 0 0 b_.val 0 21 (b2n tm) (b2n sw) (b2n ng) p.val 21 (b2n st)
    (by decide) (by decide) b_.isLt (by decide) (by decide) (b2n_lt tm) (b2n_lt sw) (b2n_lt ng) p.isLt (by decide) (b2n_lt st)
    (show 0x5402A000 + b2n st * 2147483648 + p.val * 8388608 + b2n ng * 4194304 + b2n sw * 2097152 + b2n tm * 1048576 + b_.val * 8 = _ by omega)
  generalize encode _ = w at *
  simp only [decodeWord, decodeMaj15, sylE, f0, f1, f2, f3, f4, f5, f6, bit_of_fld _ f9, bit_of_fld _ f7, bit_of_fld _ f8, bit_of_fld _ f4, fin_self, ht, and_self, true_and, and_true, not_true_eq_false, ite_false, ite_true, reduceIte, ne_eq, not_false_eq_true]

theorem vtran : Statement (.vtran) := by
  intro st ng sw tm p b_ hw_
  obtain ⟨ho, ht⟩ := wf_timed rfl hw_
  obtain ⟨f0, f1, f2, f3, f4, f5, f6, f7, f8, f9, -, -⟩ := fields41 (encode ⟨st, p, ng, sw, tm, b_, .vtran⟩) 0 0 b_.val 0 24 (b2n tm) (b2n sw) (b2n ng) p.val 21 (b2n st)
    (by decide) (by decide) b_.isLt (by decide) (by decide) (b2n_lt tm) (b2n_lt sw) (b2n_lt ng) p.isLt (by decide) (b2n_lt st)
    (show 0x54030000 + b2n st * 2147483648 + p.val * 8388608 + b2n ng * 4194304 + b2n sw * 2097152 + b2n tm * 1048576 + b_.val * 8 = _ by omega)
  generalize encode _ = w at *
  simp only [decodeWord, decodeMaj15, sylE, f0, f1, f2, f3, f4, f5, f6, bit_of_fld _ f9, bit_of_fld _ f7, bit_of_fld _ f8, bit_of_fld _ f4, fin_self, ht, and_self, true_and, and_true, not_true_eq_false, ite_false, ite_true, reduceIte, ne_eq, not_false_eq_true]

theorem vpush (a : Fin 32) : Statement (.vpush a) := by
  intro st ng sw tm p b_ hw_
  obtain ⟨ho, ht⟩ := wf_timed rfl hw_
  obtain ⟨f0, f1, f2, f3, f4, f5, f6, f7, f8, f9, -, -⟩ := fields42 (encode ⟨st, p, ng, sw, tm, b_, .vpush a⟩) 0 0 b_.val a.val 0 (b2n tm) (b2n sw) (b2n ng) p.val 22 (b2n st)
    (by decide) (by decide) b_.isLt a.isLt (by decide) (b2n_lt tm) (b2n_lt sw) (b2n_lt ng) p.isLt (by decide) (b2n_lt st)
    (show 0x58000000 + a.val * 256 + b2n st * 2147483648 + p.val * 8388608 + b2n ng * 4194304 + b2n sw * 2097152 + b2n tm * 1048576 + b_.val * 8 = _ by omega)
  generalize encode _ = w at *
  simp only [decodeWord, decodeMaj16, sylE, f0, f1, f2, f3, f4, f5, f6, bit_of_fld _ f9, bit_of_fld _ f7, bit_of_fld _ f8, bit_of_fld _ f3, fin_self, ht, and_self, true_and, and_true, not_true_eq_false, ite_false, ite_true, reduceIte, ne_eq, not_false_eq_true]

theorem vpop (a : Fin 32) (b : Fin 32) : Statement (.vpop a b) := by
  intro st ng sw tm p b_ hw_
  obtain ⟨ho, rfl, rfl⟩ := wf_untimed rfl hw_
  obtain ⟨f0, f1, f2, f3, f4, f5, f6, f7, f8, f9, -, -⟩ := fields43 (encode ⟨st, p, ng, sw, false, 0, .vpop a b⟩) 0 0 b.val a.val 1 0 (b2n sw) (b2n ng) p.val 22 (b2n st)
    (by decide) (by decide) b.isLt a.isLt (by decide) (by decide) (b2n_lt sw) (b2n_lt ng) p.isLt (by decide) (b2n_lt st)
    (show 0x58002000 + a.val * 256 + b.val * 8 + b2n st * 2147483648 + p.val * 8388608 + b2n ng * 4194304 + b2n sw * 2097152 + 0 * 1048576 + 0 * 8 = _ by omega)
  generalize encode _ = w at *
  simp only [decodeWord, decodeMaj16, sylU, f0, f1, f2, f3, f4, f5, f6, bit_of_fld _ f9, bit_of_fld _ f7, bit_of_fld _ f8, fin_self, and_self, true_and, and_true, not_true_eq_false, ite_false, ite_true, reduceIte, ne_eq, not_false_eq_true]

theorem vqcnt (a : Fin 32) (b : Fin 32) : Statement (.vqcnt a b) := by
  intro st ng sw tm p b_ hw_
  obtain ⟨ho, rfl, rfl⟩ := wf_untimed rfl hw_
  obtain ⟨f0, f1, f2, f3, f4, f5, f6, f7, f8, f9, -, -⟩ := fields43 (encode ⟨st, p, ng, sw, false, 0, .vqcnt a b⟩) 0 0 b.val a.val 2 0 (b2n sw) (b2n ng) p.val 22 (b2n st)
    (by decide) (by decide) b.isLt a.isLt (by decide) (by decide) (b2n_lt sw) (b2n_lt ng) p.isLt (by decide) (b2n_lt st)
    (show 0x58004000 + a.val * 256 + b.val * 8 + b2n st * 2147483648 + p.val * 8388608 + b2n ng * 4194304 + b2n sw * 2097152 + 0 * 1048576 + 0 * 8 = _ by omega)
  generalize encode _ = w at *
  simp only [decodeWord, decodeMaj16, sylU, f0, f1, f2, f3, f4, f5, f6, bit_of_fld _ f9, bit_of_fld _ f7, bit_of_fld _ f8, fin_self, and_self, true_and, and_true, not_true_eq_false, ite_false, ite_true, reduceIte, ne_eq, not_false_eq_true]

theorem vchain (a : Fin 32) (c : Fin 4) : Statement (.vchain a c) := by
  intro st ng sw tm p b_ hw_
  obtain ⟨ho, ht⟩ := wf_timed rfl hw_
  obtain ⟨f0, f1, f2, f3, f4, f5, f6, f7, f8, f9, f10⟩ := fields44 (encode ⟨st, p, ng, sw, tm, b_, .vchain a c⟩) c.val 0 b_.val a.val 8 (b2n tm) (b2n sw) (b2n ng) p.val 22 (b2n st)
    c.isLt (by decide) b_.isLt a.isLt (by decide) (b2n_lt tm) (b2n_lt sw) (b2n_lt ng) p.isLt (by decide) (b2n_lt st)
    (show 0x58010000 + a.val * 256 + c.val + b2n st * 2147483648 + p.val * 8388608 + b2n ng * 4194304 + b2n sw * 2097152 + b2n tm * 1048576 + b_.val * 8 = _ by omega)
  generalize encode _ = w at *
  simp only [decodeWord, decodeMaj16, sylE, f0, f1, f2, f3, f4, f5, f6, f7, bit_of_fld _ f10, bit_of_fld _ f8, bit_of_fld _ f9, bit_of_fld _ f3, fin_self, ht, and_self, true_and, and_true, not_true_eq_false, ite_false, ite_true, reduceIte, ne_eq, not_false_eq_true]

theorem mma : Statement (.mma) := by
  intro st ng sw tm p b_ hw_
  obtain ⟨ho, ht⟩ := wf_timed rfl hw_
  obtain ⟨f0, f1, f2, f3, f4, f5, f6, f7, f8, f9, -, -⟩ := fields41 (encode ⟨st, p, ng, sw, tm, b_, .mma⟩) 0 0 b_.val 0 0 (b2n tm) (b2n sw) (b2n ng) p.val 23 (b2n st)
    (by decide) (by decide) b_.isLt (by decide) (by decide) (b2n_lt tm) (b2n_lt sw) (b2n_lt ng) p.isLt (by decide) (b2n_lt st)
    (show 0x5C000000 + b2n st * 2147483648 + p.val * 8388608 + b2n ng * 4194304 + b2n sw * 2097152 + b2n tm * 1048576 + b_.val * 8 = _ by omega)
  generalize encode _ = w at *
  simp only [decodeWord, decodeMaj17, sylE, f0, f1, f2, f3, f4, f5, f6, bit_of_fld _ f9, bit_of_fld _ f7, bit_of_fld _ f8, bit_of_fld _ f4, fin_self, ht, and_self, true_and, and_true, not_true_eq_false, ite_false, ite_true, reduceIte, ne_eq, not_false_eq_true]

theorem mmaZ : Statement (.mmaZ) := by
  intro st ng sw tm p b_ hw_
  obtain ⟨ho, ht⟩ := wf_timed rfl hw_
  obtain ⟨f0, f1, f2, f3, f4, f5, f6, f7, f8, f9, -, -⟩ := fields41 (encode ⟨st, p, ng, sw, tm, b_, .mmaZ⟩) 0 0 b_.val 0 1 (b2n tm) (b2n sw) (b2n ng) p.val 23 (b2n st)
    (by decide) (by decide) b_.isLt (by decide) (by decide) (b2n_lt tm) (b2n_lt sw) (b2n_lt ng) p.isLt (by decide) (b2n_lt st)
    (show 0x5C002000 + b2n st * 2147483648 + p.val * 8388608 + b2n ng * 4194304 + b2n sw * 2097152 + b2n tm * 1048576 + b_.val * 8 = _ by omega)
  generalize encode _ = w at *
  simp only [decodeWord, decodeMaj17, sylE, f0, f1, f2, f3, f4, f5, f6, bit_of_fld _ f9, bit_of_fld _ f7, bit_of_fld _ f8, bit_of_fld _ f4, fin_self, ht, and_self, true_and, and_true, not_true_eq_false, ite_false, ite_true, reduceIte, ne_eq, not_false_eq_true]

theorem mmas : Statement (.mmas) := by
  intro st ng sw tm p b_ hw_
  obtain ⟨ho, ht⟩ := wf_timed rfl hw_
  obtain ⟨f0, f1, f2, f3, f4, f5, f6, f7, f8, f9, -, -⟩ := fields41 (encode ⟨st, p, ng, sw, tm, b_, .mmas⟩) 0 0 b_.val 0 2 (b2n tm) (b2n sw) (b2n ng) p.val 23 (b2n st)
    (by decide) (by decide) b_.isLt (by decide) (by decide) (b2n_lt tm) (b2n_lt sw) (b2n_lt ng) p.isLt (by decide) (b2n_lt st)
    (show 0x5C004000 + b2n st * 2147483648 + p.val * 8388608 + b2n ng * 4194304 + b2n sw * 2097152 + b2n tm * 1048576 + b_.val * 8 = _ by omega)
  generalize encode _ = w at *
  simp only [decodeWord, decodeMaj17, sylE, f0, f1, f2, f3, f4, f5, f6, bit_of_fld _ f9, bit_of_fld _ f7, bit_of_fld _ f8, bit_of_fld _ f4, fin_self, ht, and_self, true_and, and_true, not_true_eq_false, ite_false, ite_true, reduceIte, ne_eq, not_false_eq_true]

theorem mmasZ : Statement (.mmasZ) := by
  intro st ng sw tm p b_ hw_
  obtain ⟨ho, ht⟩ := wf_timed rfl hw_
  obtain ⟨f0, f1, f2, f3, f4, f5, f6, f7, f8, f9, -, -⟩ := fields41 (encode ⟨st, p, ng, sw, tm, b_, .mmasZ⟩) 0 0 b_.val 0 3 (b2n tm) (b2n sw) (b2n ng) p.val 23 (b2n st)
    (by decide) (by decide) b_.isLt (by decide) (by decide) (b2n_lt tm) (b2n_lt sw) (b2n_lt ng) p.isLt (by decide) (b2n_lt st)
    (show 0x5C006000 + b2n st * 2147483648 + p.val * 8388608 + b2n ng * 4194304 + b2n sw * 2097152 + b2n tm * 1048576 + b_.val * 8 = _ by omega)
  generalize encode _ = w at *
  simp only [decodeWord, decodeMaj17, sylE, f0, f1, f2, f3, f4, f5, f6, bit_of_fld _ f9, bit_of_fld _ f7, bit_of_fld _ f8, bit_of_fld _ f4, fin_self, ht, and_self, true_and, and_true, not_true_eq_false, ite_false, ite_true, reduceIte, ne_eq, not_false_eq_true]

theorem accn (a : Fin 32) (x : Fin 8) : Statement (.accn a x) := by
  intro st ng sw tm p b_ hw_
  obtain ⟨ho, ht⟩ := wf_timed rfl hw_
  obtain ⟨f0, f1, f2, f3, f4, f5, f6, f7, f8, f9⟩ := fields40 (encode ⟨st, p, ng, sw, tm, b_, .accn a x⟩) x.val b_.val a.val 8 (b2n tm) (b2n sw) (b2n ng) p.val 23 (b2n st)
    x.isLt b_.isLt a.isLt (by decide) (b2n_lt tm) (b2n_lt sw) (b2n_lt ng) p.isLt (by decide) (b2n_lt st)
    (show 0x5C010000 + a.val * 256 + x.val + b2n st * 2147483648 + p.val * 8388608 + b2n ng * 4194304 + b2n sw * 2097152 + b2n tm * 1048576 + b_.val * 8 = _ by omega)
  generalize encode _ = w at *
  have hc : x.val < 7 := of_decide_eq_true ho
  simp only [decodeWord, decodeMaj17, sylE, f0, f1, f2, f3, f4, f5, f6, bit_of_fld _ f9, bit_of_fld _ f7, bit_of_fld _ f8, bit_of_fld _ f2, fin_self, hc, ht, and_self, true_and, and_true, not_true_eq_false, ite_false, ite_true, reduceIte, ne_eq, not_false_eq_true]

theorem accx (a : Fin 32) (b : Fin 32) : Statement (.accx a b) := by
  intro st ng sw tm p b_ hw_
  obtain ⟨ho, rfl, rfl⟩ := wf_untimed rfl hw_
  obtain ⟨f0, f1, f2, f3, f4, f5, f6, f7, f8, f9, -, -⟩ := fields43 (encode ⟨st, p, ng, sw, false, 0, .accx a b⟩) 0 0 b.val a.val 9 0 (b2n sw) (b2n ng) p.val 23 (b2n st)
    (by decide) (by decide) b.isLt a.isLt (by decide) (by decide) (b2n_lt sw) (b2n_lt ng) p.isLt (by decide) (b2n_lt st)
    (show 0x5C012000 + a.val * 256 + b.val * 8 + b2n st * 2147483648 + p.val * 8388608 + b2n ng * 4194304 + b2n sw * 2097152 + 0 * 1048576 + 0 * 8 = _ by omega)
  generalize encode _ = w at *
  simp only [decodeWord, decodeMaj17, sylU, f0, f1, f2, f3, f4, f5, f6, bit_of_fld _ f9, bit_of_fld _ f7, bit_of_fld _ f8, fin_self, and_self, true_and, and_true, not_true_eq_false, ite_false, ite_true, reduceIte, ne_eq, not_false_eq_true]

theorem accz : Statement (.accz) := by
  intro st ng sw tm p b_ hw_
  obtain ⟨ho, ht⟩ := wf_timed rfl hw_
  obtain ⟨f0, f1, f2, f3, f4, f5, f6, f7, f8, f9, -, -⟩ := fields41 (encode ⟨st, p, ng, sw, tm, b_, .accz⟩) 0 0 b_.val 0 10 (b2n tm) (b2n sw) (b2n ng) p.val 23 (b2n st)
    (by decide) (by decide) b_.isLt (by decide) (by decide) (b2n_lt tm) (b2n_lt sw) (b2n_lt ng) p.isLt (by decide) (b2n_lt st)
    (show 0x5C014000 + b2n st * 2147483648 + p.val * 8388608 + b2n ng * 4194304 + b2n sw * 2097152 + b2n tm * 1048576 + b_.val * 8 = _ by omega)
  generalize encode _ = w at *
  simp only [decodeWord, decodeMaj17, sylE, f0, f1, f2, f3, f4, f5, f6, bit_of_fld _ f9, bit_of_fld _ f7, bit_of_fld _ f8, bit_of_fld _ f4, fin_self, ht, and_self, true_and, and_true, not_true_eq_false, ite_false, ite_true, reduceIte, ne_eq, not_false_eq_true]

theorem accst (a : Fin 32) : Statement (.accst a) := by
  intro st ng sw tm p b_ hw_
  obtain ⟨ho, ht⟩ := wf_timed rfl hw_
  obtain ⟨f0, f1, f2, f3, f4, f5, f6, f7, f8, f9, -, -⟩ := fields42 (encode ⟨st, p, ng, sw, tm, b_, .accst a⟩) 0 0 b_.val a.val 16 (b2n tm) (b2n sw) (b2n ng) p.val 23 (b2n st)
    (by decide) (by decide) b_.isLt a.isLt (by decide) (b2n_lt tm) (b2n_lt sw) (b2n_lt ng) p.isLt (by decide) (b2n_lt st)
    (show 0x5C020000 + a.val * 256 + b2n st * 2147483648 + p.val * 8388608 + b2n ng * 4194304 + b2n sw * 2097152 + b2n tm * 1048576 + b_.val * 8 = _ by omega)
  generalize encode _ = w at *
  simp only [decodeWord, decodeMaj17, sylE, f0, f1, f2, f3, f4, f5, f6, bit_of_fld _ f9, bit_of_fld _ f7, bit_of_fld _ f8, bit_of_fld _ f3, fin_self, ht, and_self, true_and, and_true, not_true_eq_false, ite_false, ite_true, reduceIte, ne_eq, not_false_eq_true]

theorem accld (a : Fin 32) : Statement (.accld a) := by
  intro st ng sw tm p b_ hw_
  obtain ⟨ho, ht⟩ := wf_timed rfl hw_
  obtain ⟨f0, f1, f2, f3, f4, f5, f6, f7, f8, f9, -, -⟩ := fields42 (encode ⟨st, p, ng, sw, tm, b_, .accld a⟩) 0 0 b_.val a.val 17 (b2n tm) (b2n sw) (b2n ng) p.val 23 (b2n st)
    (by decide) (by decide) b_.isLt a.isLt (by decide) (b2n_lt tm) (b2n_lt sw) (b2n_lt ng) p.isLt (by decide) (b2n_lt st)
    (show 0x5C022000 + a.val * 256 + b2n st * 2147483648 + p.val * 8388608 + b2n ng * 4194304 + b2n sw * 2097152 + b2n tm * 1048576 + b_.val * 8 = _ by omega)
  generalize encode _ = w at *
  simp only [decodeWord, decodeMaj17, sylE, f0, f1, f2, f3, f4, f5, f6, bit_of_fld _ f9, bit_of_fld _ f7, bit_of_fld _ f8, bit_of_fld _ f3, fin_self, ht, and_self, true_and, and_true, not_true_eq_false, ite_false, ite_true, reduceIte, ne_eq, not_false_eq_true]

theorem cpg (a : Fin 32) (k : Fin 8) : Statement (.cpg a k) := by
  intro st ng sw tm p b_ hw_
  obtain ⟨ho, ht⟩ := wf_timed rfl hw_
  obtain ⟨f0, f1, f2, f3, f4, f5, f6, f7, f8, f9⟩ := fields40 (encode ⟨st, p, ng, sw, tm, b_, .cpg a k⟩) k.val b_.val a.val 0 (b2n tm) (b2n sw) (b2n ng) p.val 24 (b2n st)
    k.isLt b_.isLt a.isLt (by decide) (b2n_lt tm) (b2n_lt sw) (b2n_lt ng) p.isLt (by decide) (b2n_lt st)
    (show 0x60000000 + a.val * 256 + k.val + b2n st * 2147483648 + p.val * 8388608 + b2n ng * 4194304 + b2n sw * 2097152 + b2n tm * 1048576 + b_.val * 8 = _ by omega)
  generalize encode _ = w at *
  simp only [decodeWord, decodeMaj18, sylE, f0, f1, f2, f3, f5, f4, f6, bit_of_fld _ f9, bit_of_fld _ f7, bit_of_fld _ f8, bit_of_fld _ f2, fin_self, ht, and_self, true_and, and_true, not_true_eq_false, ite_false, ite_true, reduceIte, ne_eq, not_false_eq_true]

theorem cpgX (a : Fin 32) (k : Fin 8) : Statement (.cpgX a k) := by
  intro st ng sw tm p b_ hw_
  obtain ⟨ho, ht⟩ := wf_timed rfl hw_
  obtain ⟨f0, f1, f2, f3, f4, f5, f6, f7, f8, f9⟩ := fields40 (encode ⟨st, p, ng, sw, tm, b_, .cpgX a k⟩) k.val b_.val a.val 1 (b2n tm) (b2n sw) (b2n ng) p.val 24 (b2n st)
    k.isLt b_.isLt a.isLt (by decide) (b2n_lt tm) (b2n_lt sw) (b2n_lt ng) p.isLt (by decide) (b2n_lt st)
    (show 0x60002000 + a.val * 256 + k.val + b2n st * 2147483648 + p.val * 8388608 + b2n ng * 4194304 + b2n sw * 2097152 + b2n tm * 1048576 + b_.val * 8 = _ by omega)
  generalize encode _ = w at *
  simp only [decodeWord, decodeMaj18, sylE, f0, f1, f2, f3, f5, f4, f6, bit_of_fld _ f9, bit_of_fld _ f7, bit_of_fld _ f8, bit_of_fld _ f2, fin_self, ht, and_self, true_and, and_true, not_true_eq_false, ite_false, ite_true, reduceIte, ne_eq, not_false_eq_true]

theorem cps (a : Fin 32) (k : Fin 8) : Statement (.cps a k) := by
  intro st ng sw tm p b_ hw_
  obtain ⟨ho, ht⟩ := wf_timed rfl hw_
  obtain ⟨f0, f1, f2, f3, f4, f5, f6, f7, f8, f9⟩ := fields40 (encode ⟨st, p, ng, sw, tm, b_, .cps a k⟩) k.val b_.val a.val 2 (b2n tm) (b2n sw) (b2n ng) p.val 24 (b2n st)
    k.isLt b_.isLt a.isLt (by decide) (b2n_lt tm) (b2n_lt sw) (b2n_lt ng) p.isLt (by decide) (b2n_lt st)
    (show 0x60004000 + a.val * 256 + k.val + b2n st * 2147483648 + p.val * 8388608 + b2n ng * 4194304 + b2n sw * 2097152 + b2n tm * 1048576 + b_.val * 8 = _ by omega)
  generalize encode _ = w at *
  simp only [decodeWord, decodeMaj18, sylE, f0, f1, f2, f3, f5, f4, f6, bit_of_fld _ f9, bit_of_fld _ f7, bit_of_fld _ f8, bit_of_fld _ f2, fin_self, ht, and_self, true_and, and_true, not_true_eq_false, ite_false, ite_true, reduceIte, ne_eq, not_false_eq_true]

theorem cpsX (a : Fin 32) (k : Fin 8) : Statement (.cpsX a k) := by
  intro st ng sw tm p b_ hw_
  obtain ⟨ho, ht⟩ := wf_timed rfl hw_
  obtain ⟨f0, f1, f2, f3, f4, f5, f6, f7, f8, f9⟩ := fields40 (encode ⟨st, p, ng, sw, tm, b_, .cpsX a k⟩) k.val b_.val a.val 3 (b2n tm) (b2n sw) (b2n ng) p.val 24 (b2n st)
    k.isLt b_.isLt a.isLt (by decide) (b2n_lt tm) (b2n_lt sw) (b2n_lt ng) p.isLt (by decide) (b2n_lt st)
    (show 0x60006000 + a.val * 256 + k.val + b2n st * 2147483648 + p.val * 8388608 + b2n ng * 4194304 + b2n sw * 2097152 + b2n tm * 1048576 + b_.val * 8 = _ by omega)
  generalize encode _ = w at *
  simp only [decodeWord, decodeMaj18, sylE, f0, f1, f2, f3, f5, f4, f6, bit_of_fld _ f9, bit_of_fld _ f7, bit_of_fld _ f8, bit_of_fld _ f2, fin_self, ht, and_self, true_and, and_true, not_true_eq_false, ite_false, ite_true, reduceIte, ne_eq, not_false_eq_true]

theorem cpy (a : Fin 32) (b : Fin 32) (k : Fin 8) : Statement (.cpy a b k) := by
  intro st ng sw tm p b_ hw_
  obtain ⟨ho, rfl, rfl⟩ := wf_untimed rfl hw_
  obtain ⟨f0, f1, f2, f3, f4, f5, f6, f7, f8, f9⟩ := fields45 (encode ⟨st, p, ng, sw, false, 0, .cpy a b k⟩) k.val b.val a.val 4 0 (b2n sw) (b2n ng) p.val 24 (b2n st)
    k.isLt b.isLt a.isLt (by decide) (by decide) (b2n_lt sw) (b2n_lt ng) p.isLt (by decide) (b2n_lt st)
    (show 0x60008000 + a.val * 256 + b.val * 8 + k.val + b2n st * 2147483648 + p.val * 8388608 + b2n ng * 4194304 + b2n sw * 2097152 + 0 * 1048576 + 0 * 8 = _ by omega)
  generalize encode _ = w at *
  simp only [decodeWord, decodeMaj18, sylU, f0, f1, f2, f3, f4, f5, f6, bit_of_fld _ f9, bit_of_fld _ f7, bit_of_fld _ f8, fin_self, and_self, true_and, and_true, not_true_eq_false, ite_false, ite_true, reduceIte, ne_eq, not_false_eq_true]

theorem wmap (a : Fin 32) (k : Fin 8) : Statement (.wmap a k) := by
  intro st ng sw tm p b_ hw_
  obtain ⟨ho, ht⟩ := wf_timed rfl hw_
  obtain ⟨f0, f1, f2, f3, f4, f5, f6, f7, f8, f9⟩ := fields40 (encode ⟨st, p, ng, sw, tm, b_, .wmap a k⟩) k.val b_.val a.val 8 (b2n tm) (b2n sw) (b2n ng) p.val 24 (b2n st)
    k.isLt b_.isLt a.isLt (by decide) (b2n_lt tm) (b2n_lt sw) (b2n_lt ng) p.isLt (by decide) (b2n_lt st)
    (show 0x60010000 + a.val * 256 + k.val + b2n st * 2147483648 + p.val * 8388608 + b2n ng * 4194304 + b2n sw * 2097152 + b2n tm * 1048576 + b_.val * 8 = _ by omega)
  generalize encode _ = w at *
  simp only [decodeWord, decodeMaj18, sylE, f0, f1, f2, f3, f5, f4, f6, bit_of_fld _ f9, bit_of_fld _ f7, bit_of_fld _ f8, bit_of_fld _ f2, fin_self, ht, and_self, true_and, and_true, not_true_eq_false, ite_false, ite_true, reduceIte, ne_eq, not_false_eq_true]

theorem wfill (g : Fin 8) (k : Fin 8) : Statement (.wfill g k) := by
  intro st ng sw tm p b_ hw_
  obtain ⟨ho, ht⟩ := wf_timed rfl hw_
  obtain ⟨f0, f1, f2, f3, f4, f5, f6, f7, f8, f9, f10⟩ := fields46 (encode ⟨st, p, ng, sw, tm, b_, .wfill g k⟩) k.val b_.val g.val 0 9 (b2n tm) (b2n sw) (b2n ng) p.val 24 (b2n st)
    k.isLt b_.isLt g.isLt (by decide) (by decide) (b2n_lt tm) (b2n_lt sw) (b2n_lt ng) p.isLt (by decide) (b2n_lt st)
    (show 0x60012000 + g.val * 256 + k.val + b2n st * 2147483648 + p.val * 8388608 + b2n ng * 4194304 + b2n sw * 2097152 + b2n tm * 1048576 + b_.val * 8 = _ by omega)
  generalize encode _ = w at *
  simp only [decodeWord, decodeMaj18, sylE, f0, f1, f2, f3, f4, f5, f6, f7, bit_of_fld _ f10, bit_of_fld _ f8, bit_of_fld _ f9, bit_of_fld _ f3, fin_self, ht, and_self, true_and, and_true, not_true_eq_false, ite_false, ite_true, reduceIte, ne_eq, not_false_eq_true]

theorem wback (g : Fin 8) (k : Fin 8) : Statement (.wback g k) := by
  intro st ng sw tm p b_ hw_
  obtain ⟨ho, ht⟩ := wf_timed rfl hw_
  obtain ⟨f0, f1, f2, f3, f4, f5, f6, f7, f8, f9, f10⟩ := fields46 (encode ⟨st, p, ng, sw, tm, b_, .wback g k⟩) k.val b_.val g.val 0 10 (b2n tm) (b2n sw) (b2n ng) p.val 24 (b2n st)
    k.isLt b_.isLt g.isLt (by decide) (by decide) (b2n_lt tm) (b2n_lt sw) (b2n_lt ng) p.isLt (by decide) (b2n_lt st)
    (show 0x60014000 + g.val * 256 + k.val + b2n st * 2147483648 + p.val * 8388608 + b2n ng * 4194304 + b2n sw * 2097152 + b2n tm * 1048576 + b_.val * 8 = _ by omega)
  generalize encode _ = w at *
  simp only [decodeWord, decodeMaj18, sylE, f0, f1, f2, f3, f4, f5, f6, f7, bit_of_fld _ f10, bit_of_fld _ f8, bit_of_fld _ f9, bit_of_fld _ f3, fin_self, ht, and_self, true_and, and_true, not_true_eq_false, ite_false, ite_true, reduceIte, ne_eq, not_false_eq_true]

theorem wunmap (g : Fin 8) (k : Fin 8) : Statement (.wunmap g k) := by
  intro st ng sw tm p b_ hw_
  obtain ⟨ho, ht⟩ := wf_timed rfl hw_
  obtain ⟨f0, f1, f2, f3, f4, f5, f6, f7, f8, f9, f10⟩ := fields46 (encode ⟨st, p, ng, sw, tm, b_, .wunmap g k⟩) k.val b_.val g.val 0 11 (b2n tm) (b2n sw) (b2n ng) p.val 24 (b2n st)
    k.isLt b_.isLt g.isLt (by decide) (by decide) (b2n_lt tm) (b2n_lt sw) (b2n_lt ng) p.isLt (by decide) (b2n_lt st)
    (show 0x60016000 + g.val * 256 + k.val + b2n st * 2147483648 + p.val * 8388608 + b2n ng * 4194304 + b2n sw * 2097152 + b2n tm * 1048576 + b_.val * 8 = _ by omega)
  generalize encode _ = w at *
  simp only [decodeWord, decodeMaj18, sylE, f0, f1, f2, f3, f4, f5, f6, f7, bit_of_fld _ f10, bit_of_fld _ f8, bit_of_fld _ f9, bit_of_fld _ f3, fin_self, ht, and_self, true_and, and_true, not_true_eq_false, ite_false, ite_true, reduceIte, ne_eq, not_false_eq_true]

theorem probeR (a : Fin 32) (b : Fin 32) : Statement (.probeR a b) := by
  intro st ng sw tm p b_ hw_
  obtain ⟨ho, rfl, rfl⟩ := wf_untimed rfl hw_
  obtain ⟨f0, f1, -, f3, f4, f5, f6, f7, f8, f9, f10, f11⟩ := fields43 (encode ⟨st, p, ng, sw, false, 0, .probeR a b⟩) 0 0 b.val a.val 12 0 (b2n sw) (b2n ng) p.val 24 (b2n st)
    (by decide) (by decide) b.isLt a.isLt (by decide) (by decide) (b2n_lt sw) (b2n_lt ng) p.isLt (by decide) (b2n_lt st)
    (show 0x60018000 + a.val * 256 + b.val * 8 + b2n st * 2147483648 + p.val * 8388608 + b2n ng * 4194304 + b2n sw * 2097152 + 0 * 1048576 + 0 * 8 = _ by omega)
  generalize encode _ = w at *
  simp only [decodeWord, decodeMaj18, sylU, f0, f1, f10, f11, f3, f4, f5, f6, bit_of_fld _ f9, bit_of_fld _ f7, bit_of_fld _ f8, fin_self, and_self, true_and, and_true, not_true_eq_false, ite_false, ite_true, reduceIte, ne_eq, not_false_eq_true]

theorem probeW (a : Fin 32) (b : Fin 32) : Statement (.probeW a b) := by
  intro st ng sw tm p b_ hw_
  obtain ⟨ho, rfl, rfl⟩ := wf_untimed rfl hw_
  obtain ⟨f0, f1, -, f3, f4, f5, f6, f7, f8, f9, f10, f11⟩ := fields43 (encode ⟨st, p, ng, sw, false, 0, .probeW a b⟩) 1 0 b.val a.val 12 0 (b2n sw) (b2n ng) p.val 24 (b2n st)
    (by decide) (by decide) b.isLt a.isLt (by decide) (by decide) (b2n_lt sw) (b2n_lt ng) p.isLt (by decide) (b2n_lt st)
    (show 0x60018001 + a.val * 256 + b.val * 8 + b2n st * 2147483648 + p.val * 8388608 + b2n ng * 4194304 + b2n sw * 2097152 + 0 * 1048576 + 0 * 8 = _ by omega)
  generalize encode _ = w at *
  simp only [decodeWord, decodeMaj18, sylU, f0, f1, f10, f11, f3, f4, f5, f6, bit_of_fld _ f9, bit_of_fld _ f7, bit_of_fld _ f8, fin_self, and_self, true_and, and_true, not_true_eq_false, ite_false, ite_true, reduceIte, ne_eq, not_false_eq_true]

theorem atomAdd (a : Fin 32) (k : Fin 8) : Statement (.atomAdd a k) := by
  intro st ng sw tm p b_ hw_
  obtain ⟨ho, ht⟩ := wf_timed rfl hw_
  obtain ⟨f0, f1, f2, f3, f4, f5, f6, f7, f8, f9⟩ := fields40 (encode ⟨st, p, ng, sw, tm, b_, .atomAdd a k⟩) k.val b_.val a.val 0 (b2n tm) (b2n sw) (b2n ng) p.val 25 (b2n st)
    k.isLt b_.isLt a.isLt (by decide) (b2n_lt tm) (b2n_lt sw) (b2n_lt ng) p.isLt (by decide) (b2n_lt st)
    (show 0x64000000 + a.val * 256 + k.val + b2n st * 2147483648 + p.val * 8388608 + b2n ng * 4194304 + b2n sw * 2097152 + b2n tm * 1048576 + b_.val * 8 = _ by omega)
  generalize encode _ = w at *
  simp only [decodeWord, decodeMaj19, sylE, f0, f1, f2, f3, f5, f4, f6, bit_of_fld _ f9, bit_of_fld _ f7, bit_of_fld _ f8, bit_of_fld _ f2, fin_self, ht, and_self, true_and, and_true, not_true_eq_false, ite_false, ite_true, reduceIte, ne_eq, not_false_eq_true]

theorem atomMin (a : Fin 32) (k : Fin 8) : Statement (.atomMin a k) := by
  intro st ng sw tm p b_ hw_
  obtain ⟨ho, ht⟩ := wf_timed rfl hw_
  obtain ⟨f0, f1, f2, f3, f4, f5, f6, f7, f8, f9⟩ := fields40 (encode ⟨st, p, ng, sw, tm, b_, .atomMin a k⟩) k.val b_.val a.val 1 (b2n tm) (b2n sw) (b2n ng) p.val 25 (b2n st)
    k.isLt b_.isLt a.isLt (by decide) (b2n_lt tm) (b2n_lt sw) (b2n_lt ng) p.isLt (by decide) (b2n_lt st)
    (show 0x64002000 + a.val * 256 + k.val + b2n st * 2147483648 + p.val * 8388608 + b2n ng * 4194304 + b2n sw * 2097152 + b2n tm * 1048576 + b_.val * 8 = _ by omega)
  generalize encode _ = w at *
  simp only [decodeWord, decodeMaj19, sylE, f0, f1, f2, f3, f5, f4, f6, bit_of_fld _ f9, bit_of_fld _ f7, bit_of_fld _ f8, bit_of_fld _ f2, fin_self, ht, and_self, true_and, and_true, not_true_eq_false, ite_false, ite_true, reduceIte, ne_eq, not_false_eq_true]

theorem atomMax (a : Fin 32) (k : Fin 8) : Statement (.atomMax a k) := by
  intro st ng sw tm p b_ hw_
  obtain ⟨ho, ht⟩ := wf_timed rfl hw_
  obtain ⟨f0, f1, f2, f3, f4, f5, f6, f7, f8, f9⟩ := fields40 (encode ⟨st, p, ng, sw, tm, b_, .atomMax a k⟩) k.val b_.val a.val 2 (b2n tm) (b2n sw) (b2n ng) p.val 25 (b2n st)
    k.isLt b_.isLt a.isLt (by decide) (b2n_lt tm) (b2n_lt sw) (b2n_lt ng) p.isLt (by decide) (b2n_lt st)
    (show 0x64004000 + a.val * 256 + k.val + b2n st * 2147483648 + p.val * 8388608 + b2n ng * 4194304 + b2n sw * 2097152 + b2n tm * 1048576 + b_.val * 8 = _ by omega)
  generalize encode _ = w at *
  simp only [decodeWord, decodeMaj19, sylE, f0, f1, f2, f3, f5, f4, f6, bit_of_fld _ f9, bit_of_fld _ f7, bit_of_fld _ f8, bit_of_fld _ f2, fin_self, ht, and_self, true_and, and_true, not_true_eq_false, ite_false, ite_true, reduceIte, ne_eq, not_false_eq_true]

theorem atomAnd (a : Fin 32) (k : Fin 8) : Statement (.atomAnd a k) := by
  intro st ng sw tm p b_ hw_
  obtain ⟨ho, ht⟩ := wf_timed rfl hw_
  obtain ⟨f0, f1, f2, f3, f4, f5, f6, f7, f8, f9⟩ := fields40 (encode ⟨st, p, ng, sw, tm, b_, .atomAnd a k⟩) k.val b_.val a.val 3 (b2n tm) (b2n sw) (b2n ng) p.val 25 (b2n st)
    k.isLt b_.isLt a.isLt (by decide) (b2n_lt tm) (b2n_lt sw) (b2n_lt ng) p.isLt (by decide) (b2n_lt st)
    (show 0x64006000 + a.val * 256 + k.val + b2n st * 2147483648 + p.val * 8388608 + b2n ng * 4194304 + b2n sw * 2097152 + b2n tm * 1048576 + b_.val * 8 = _ by omega)
  generalize encode _ = w at *
  simp only [decodeWord, decodeMaj19, sylE, f0, f1, f2, f3, f5, f4, f6, bit_of_fld _ f9, bit_of_fld _ f7, bit_of_fld _ f8, bit_of_fld _ f2, fin_self, ht, and_self, true_and, and_true, not_true_eq_false, ite_false, ite_true, reduceIte, ne_eq, not_false_eq_true]

theorem atomOr (a : Fin 32) (k : Fin 8) : Statement (.atomOr a k) := by
  intro st ng sw tm p b_ hw_
  obtain ⟨ho, ht⟩ := wf_timed rfl hw_
  obtain ⟨f0, f1, f2, f3, f4, f5, f6, f7, f8, f9⟩ := fields40 (encode ⟨st, p, ng, sw, tm, b_, .atomOr a k⟩) k.val b_.val a.val 4 (b2n tm) (b2n sw) (b2n ng) p.val 25 (b2n st)
    k.isLt b_.isLt a.isLt (by decide) (b2n_lt tm) (b2n_lt sw) (b2n_lt ng) p.isLt (by decide) (b2n_lt st)
    (show 0x64008000 + a.val * 256 + k.val + b2n st * 2147483648 + p.val * 8388608 + b2n ng * 4194304 + b2n sw * 2097152 + b2n tm * 1048576 + b_.val * 8 = _ by omega)
  generalize encode _ = w at *
  simp only [decodeWord, decodeMaj19, sylE, f0, f1, f2, f3, f5, f4, f6, bit_of_fld _ f9, bit_of_fld _ f7, bit_of_fld _ f8, bit_of_fld _ f2, fin_self, ht, and_self, true_and, and_true, not_true_eq_false, ite_false, ite_true, reduceIte, ne_eq, not_false_eq_true]

theorem atomXor (a : Fin 32) (k : Fin 8) : Statement (.atomXor a k) := by
  intro st ng sw tm p b_ hw_
  obtain ⟨ho, ht⟩ := wf_timed rfl hw_
  obtain ⟨f0, f1, f2, f3, f4, f5, f6, f7, f8, f9⟩ := fields40 (encode ⟨st, p, ng, sw, tm, b_, .atomXor a k⟩) k.val b_.val a.val 5 (b2n tm) (b2n sw) (b2n ng) p.val 25 (b2n st)
    k.isLt b_.isLt a.isLt (by decide) (b2n_lt tm) (b2n_lt sw) (b2n_lt ng) p.isLt (by decide) (b2n_lt st)
    (show 0x6400A000 + a.val * 256 + k.val + b2n st * 2147483648 + p.val * 8388608 + b2n ng * 4194304 + b2n sw * 2097152 + b2n tm * 1048576 + b_.val * 8 = _ by omega)
  generalize encode _ = w at *
  simp only [decodeWord, decodeMaj19, sylE, f0, f1, f2, f3, f5, f4, f6, bit_of_fld _ f9, bit_of_fld _ f7, bit_of_fld _ f8, bit_of_fld _ f2, fin_self, ht, and_self, true_and, and_true, not_true_eq_false, ite_false, ite_true, reduceIte, ne_eq, not_false_eq_true]

theorem atomXchg (a : Fin 32) (k : Fin 8) : Statement (.atomXchg a k) := by
  intro st ng sw tm p b_ hw_
  obtain ⟨ho, ht⟩ := wf_timed rfl hw_
  obtain ⟨f0, f1, f2, f3, f4, f5, f6, f7, f8, f9⟩ := fields40 (encode ⟨st, p, ng, sw, tm, b_, .atomXchg a k⟩) k.val b_.val a.val 6 (b2n tm) (b2n sw) (b2n ng) p.val 25 (b2n st)
    k.isLt b_.isLt a.isLt (by decide) (b2n_lt tm) (b2n_lt sw) (b2n_lt ng) p.isLt (by decide) (b2n_lt st)
    (show 0x6400C000 + a.val * 256 + k.val + b2n st * 2147483648 + p.val * 8388608 + b2n ng * 4194304 + b2n sw * 2097152 + b2n tm * 1048576 + b_.val * 8 = _ by omega)
  generalize encode _ = w at *
  simp only [decodeWord, decodeMaj19, sylE, f0, f1, f2, f3, f5, f4, f6, bit_of_fld _ f9, bit_of_fld _ f7, bit_of_fld _ f8, bit_of_fld _ f2, fin_self, ht, and_self, true_and, and_true, not_true_eq_false, ite_false, ite_true, reduceIte, ne_eq, not_false_eq_true]

theorem atomCas (a : Fin 32) (k : Fin 8) : Statement (.atomCas a k) := by
  intro st ng sw tm p b_ hw_
  obtain ⟨ho, ht⟩ := wf_timed rfl hw_
  obtain ⟨f0, f1, f2, f3, f4, f5, f6, f7, f8, f9⟩ := fields40 (encode ⟨st, p, ng, sw, tm, b_, .atomCas a k⟩) k.val b_.val a.val 7 (b2n tm) (b2n sw) (b2n ng) p.val 25 (b2n st)
    k.isLt b_.isLt a.isLt (by decide) (b2n_lt tm) (b2n_lt sw) (b2n_lt ng) p.isLt (by decide) (b2n_lt st)
    (show 0x6400E000 + a.val * 256 + k.val + b2n st * 2147483648 + p.val * 8388608 + b2n ng * 4194304 + b2n sw * 2097152 + b2n tm * 1048576 + b_.val * 8 = _ by omega)
  generalize encode _ = w at *
  simp only [decodeWord, decodeMaj19, sylE, f0, f1, f2, f3, f5, f4, f6, bit_of_fld _ f9, bit_of_fld _ f7, bit_of_fld _ f8, bit_of_fld _ f2, fin_self, ht, and_self, true_and, and_true, not_true_eq_false, ite_false, ite_true, reduceIte, ne_eq, not_false_eq_true]

theorem atomAddNr (a : Fin 32) (k : Fin 8) : Statement (.atomAddNr a k) := by
  intro st ng sw tm p b_ hw_
  obtain ⟨ho, ht⟩ := wf_timed rfl hw_
  obtain ⟨f0, f1, f2, f3, f4, f5, f6, f7, f8, f9⟩ := fields40 (encode ⟨st, p, ng, sw, tm, b_, .atomAddNr a k⟩) k.val b_.val a.val 8 (b2n tm) (b2n sw) (b2n ng) p.val 25 (b2n st)
    k.isLt b_.isLt a.isLt (by decide) (b2n_lt tm) (b2n_lt sw) (b2n_lt ng) p.isLt (by decide) (b2n_lt st)
    (show 0x64010000 + a.val * 256 + k.val + b2n st * 2147483648 + p.val * 8388608 + b2n ng * 4194304 + b2n sw * 2097152 + b2n tm * 1048576 + b_.val * 8 = _ by omega)
  generalize encode _ = w at *
  simp only [decodeWord, decodeMaj19, sylE, f0, f1, f2, f3, f5, f4, f6, bit_of_fld _ f9, bit_of_fld _ f7, bit_of_fld _ f8, bit_of_fld _ f2, fin_self, ht, and_self, true_and, and_true, not_true_eq_false, ite_false, ite_true, reduceIte, ne_eq, not_false_eq_true]

theorem atomMinNr (a : Fin 32) (k : Fin 8) : Statement (.atomMinNr a k) := by
  intro st ng sw tm p b_ hw_
  obtain ⟨ho, ht⟩ := wf_timed rfl hw_
  obtain ⟨f0, f1, f2, f3, f4, f5, f6, f7, f8, f9⟩ := fields40 (encode ⟨st, p, ng, sw, tm, b_, .atomMinNr a k⟩) k.val b_.val a.val 9 (b2n tm) (b2n sw) (b2n ng) p.val 25 (b2n st)
    k.isLt b_.isLt a.isLt (by decide) (b2n_lt tm) (b2n_lt sw) (b2n_lt ng) p.isLt (by decide) (b2n_lt st)
    (show 0x64012000 + a.val * 256 + k.val + b2n st * 2147483648 + p.val * 8388608 + b2n ng * 4194304 + b2n sw * 2097152 + b2n tm * 1048576 + b_.val * 8 = _ by omega)
  generalize encode _ = w at *
  simp only [decodeWord, decodeMaj19, sylE, f0, f1, f2, f3, f5, f4, f6, bit_of_fld _ f9, bit_of_fld _ f7, bit_of_fld _ f8, bit_of_fld _ f2, fin_self, ht, and_self, true_and, and_true, not_true_eq_false, ite_false, ite_true, reduceIte, ne_eq, not_false_eq_true]

theorem atomMaxNr (a : Fin 32) (k : Fin 8) : Statement (.atomMaxNr a k) := by
  intro st ng sw tm p b_ hw_
  obtain ⟨ho, ht⟩ := wf_timed rfl hw_
  obtain ⟨f0, f1, f2, f3, f4, f5, f6, f7, f8, f9⟩ := fields40 (encode ⟨st, p, ng, sw, tm, b_, .atomMaxNr a k⟩) k.val b_.val a.val 10 (b2n tm) (b2n sw) (b2n ng) p.val 25 (b2n st)
    k.isLt b_.isLt a.isLt (by decide) (b2n_lt tm) (b2n_lt sw) (b2n_lt ng) p.isLt (by decide) (b2n_lt st)
    (show 0x64014000 + a.val * 256 + k.val + b2n st * 2147483648 + p.val * 8388608 + b2n ng * 4194304 + b2n sw * 2097152 + b2n tm * 1048576 + b_.val * 8 = _ by omega)
  generalize encode _ = w at *
  simp only [decodeWord, decodeMaj19, sylE, f0, f1, f2, f3, f5, f4, f6, bit_of_fld _ f9, bit_of_fld _ f7, bit_of_fld _ f8, bit_of_fld _ f2, fin_self, ht, and_self, true_and, and_true, not_true_eq_false, ite_false, ite_true, reduceIte, ne_eq, not_false_eq_true]

theorem atomAndNr (a : Fin 32) (k : Fin 8) : Statement (.atomAndNr a k) := by
  intro st ng sw tm p b_ hw_
  obtain ⟨ho, ht⟩ := wf_timed rfl hw_
  obtain ⟨f0, f1, f2, f3, f4, f5, f6, f7, f8, f9⟩ := fields40 (encode ⟨st, p, ng, sw, tm, b_, .atomAndNr a k⟩) k.val b_.val a.val 11 (b2n tm) (b2n sw) (b2n ng) p.val 25 (b2n st)
    k.isLt b_.isLt a.isLt (by decide) (b2n_lt tm) (b2n_lt sw) (b2n_lt ng) p.isLt (by decide) (b2n_lt st)
    (show 0x64016000 + a.val * 256 + k.val + b2n st * 2147483648 + p.val * 8388608 + b2n ng * 4194304 + b2n sw * 2097152 + b2n tm * 1048576 + b_.val * 8 = _ by omega)
  generalize encode _ = w at *
  simp only [decodeWord, decodeMaj19, sylE, f0, f1, f2, f3, f5, f4, f6, bit_of_fld _ f9, bit_of_fld _ f7, bit_of_fld _ f8, bit_of_fld _ f2, fin_self, ht, and_self, true_and, and_true, not_true_eq_false, ite_false, ite_true, reduceIte, ne_eq, not_false_eq_true]

theorem atomOrNr (a : Fin 32) (k : Fin 8) : Statement (.atomOrNr a k) := by
  intro st ng sw tm p b_ hw_
  obtain ⟨ho, ht⟩ := wf_timed rfl hw_
  obtain ⟨f0, f1, f2, f3, f4, f5, f6, f7, f8, f9⟩ := fields40 (encode ⟨st, p, ng, sw, tm, b_, .atomOrNr a k⟩) k.val b_.val a.val 12 (b2n tm) (b2n sw) (b2n ng) p.val 25 (b2n st)
    k.isLt b_.isLt a.isLt (by decide) (b2n_lt tm) (b2n_lt sw) (b2n_lt ng) p.isLt (by decide) (b2n_lt st)
    (show 0x64018000 + a.val * 256 + k.val + b2n st * 2147483648 + p.val * 8388608 + b2n ng * 4194304 + b2n sw * 2097152 + b2n tm * 1048576 + b_.val * 8 = _ by omega)
  generalize encode _ = w at *
  simp only [decodeWord, decodeMaj19, sylE, f0, f1, f2, f3, f5, f4, f6, bit_of_fld _ f9, bit_of_fld _ f7, bit_of_fld _ f8, bit_of_fld _ f2, fin_self, ht, and_self, true_and, and_true, not_true_eq_false, ite_false, ite_true, reduceIte, ne_eq, not_false_eq_true]

theorem atomXorNr (a : Fin 32) (k : Fin 8) : Statement (.atomXorNr a k) := by
  intro st ng sw tm p b_ hw_
  obtain ⟨ho, ht⟩ := wf_timed rfl hw_
  obtain ⟨f0, f1, f2, f3, f4, f5, f6, f7, f8, f9⟩ := fields40 (encode ⟨st, p, ng, sw, tm, b_, .atomXorNr a k⟩) k.val b_.val a.val 13 (b2n tm) (b2n sw) (b2n ng) p.val 25 (b2n st)
    k.isLt b_.isLt a.isLt (by decide) (b2n_lt tm) (b2n_lt sw) (b2n_lt ng) p.isLt (by decide) (b2n_lt st)
    (show 0x6401A000 + a.val * 256 + k.val + b2n st * 2147483648 + p.val * 8388608 + b2n ng * 4194304 + b2n sw * 2097152 + b2n tm * 1048576 + b_.val * 8 = _ by omega)
  generalize encode _ = w at *
  simp only [decodeWord, decodeMaj19, sylE, f0, f1, f2, f3, f5, f4, f6, bit_of_fld _ f9, bit_of_fld _ f7, bit_of_fld _ f8, bit_of_fld _ f2, fin_self, ht, and_self, true_and, and_true, not_true_eq_false, ite_false, ite_true, reduceIte, ne_eq, not_false_eq_true]

theorem atomXchgNr (a : Fin 32) (k : Fin 8) : Statement (.atomXchgNr a k) := by
  intro st ng sw tm p b_ hw_
  obtain ⟨ho, ht⟩ := wf_timed rfl hw_
  obtain ⟨f0, f1, f2, f3, f4, f5, f6, f7, f8, f9⟩ := fields40 (encode ⟨st, p, ng, sw, tm, b_, .atomXchgNr a k⟩) k.val b_.val a.val 14 (b2n tm) (b2n sw) (b2n ng) p.val 25 (b2n st)
    k.isLt b_.isLt a.isLt (by decide) (b2n_lt tm) (b2n_lt sw) (b2n_lt ng) p.isLt (by decide) (b2n_lt st)
    (show 0x6401C000 + a.val * 256 + k.val + b2n st * 2147483648 + p.val * 8388608 + b2n ng * 4194304 + b2n sw * 2097152 + b2n tm * 1048576 + b_.val * 8 = _ by omega)
  generalize encode _ = w at *
  simp only [decodeWord, decodeMaj19, sylE, f0, f1, f2, f3, f5, f4, f6, bit_of_fld _ f9, bit_of_fld _ f7, bit_of_fld _ f8, bit_of_fld _ f2, fin_self, ht, and_self, true_and, and_true, not_true_eq_false, ite_false, ite_true, reduceIte, ne_eq, not_false_eq_true]

theorem atomCasNr (a : Fin 32) (k : Fin 8) : Statement (.atomCasNr a k) := by
  intro st ng sw tm p b_ hw_
  obtain ⟨ho, ht⟩ := wf_timed rfl hw_
  obtain ⟨f0, f1, f2, f3, f4, f5, f6, f7, f8, f9⟩ := fields40 (encode ⟨st, p, ng, sw, tm, b_, .atomCasNr a k⟩) k.val b_.val a.val 15 (b2n tm) (b2n sw) (b2n ng) p.val 25 (b2n st)
    k.isLt b_.isLt a.isLt (by decide) (b2n_lt tm) (b2n_lt sw) (b2n_lt ng) p.isLt (by decide) (b2n_lt st)
    (show 0x6401E000 + a.val * 256 + k.val + b2n st * 2147483648 + p.val * 8388608 + b2n ng * 4194304 + b2n sw * 2097152 + b2n tm * 1048576 + b_.val * 8 = _ by omega)
  generalize encode _ = w at *
  simp only [decodeWord, decodeMaj19, sylE, f0, f1, f2, f3, f5, f4, f6, bit_of_fld _ f9, bit_of_fld _ f7, bit_of_fld _ f8, bit_of_fld _ f2, fin_self, ht, and_self, true_and, and_true, not_true_eq_false, ite_false, ite_true, reduceIte, ne_eq, not_false_eq_true]

theorem mcast (k : Fin 8) : Statement (.mcast k) := by
  intro st ng sw tm p b_ hw_
  obtain ⟨ho, ht⟩ := wf_timed rfl hw_
  obtain ⟨f0, f1, f2, f3, f4, f5, f6, f7, f8, f9⟩ := fields39 (encode ⟨st, p, ng, sw, tm, b_, .mcast k⟩) k.val b_.val 0 16 (b2n tm) (b2n sw) (b2n ng) p.val 25 (b2n st)
    k.isLt b_.isLt (by decide) (by decide) (b2n_lt tm) (b2n_lt sw) (b2n_lt ng) p.isLt (by decide) (b2n_lt st)
    (show 0x64020000 + k.val + b2n st * 2147483648 + p.val * 8388608 + b2n ng * 4194304 + b2n sw * 2097152 + b2n tm * 1048576 + b_.val * 8 = _ by omega)
  generalize encode _ = w at *
  simp only [decodeWord, decodeMaj19, sylE, f0, f1, f2, f3, f4, f5, f6, bit_of_fld _ f9, bit_of_fld _ f7, bit_of_fld _ f8, bit_of_fld _ f3, fin_self, ht, and_self, true_and, and_true, not_true_eq_false, ite_false, ite_true, reduceIte, ne_eq, not_false_eq_true]

theorem collSum (a : Fin 32) (k : Fin 8) : Statement (.collSum a k) := by
  intro st ng sw tm p b_ hw_
  obtain ⟨ho, ht⟩ := wf_timed rfl hw_
  obtain ⟨f0, f1, f2, f3, f4, f5, f6, f7, f8, f9⟩ := fields40 (encode ⟨st, p, ng, sw, tm, b_, .collSum a k⟩) k.val b_.val a.val 24 (b2n tm) (b2n sw) (b2n ng) p.val 25 (b2n st)
    k.isLt b_.isLt a.isLt (by decide) (b2n_lt tm) (b2n_lt sw) (b2n_lt ng) p.isLt (by decide) (b2n_lt st)
    (show 0x64030000 + a.val * 256 + k.val + b2n st * 2147483648 + p.val * 8388608 + b2n ng * 4194304 + b2n sw * 2097152 + b2n tm * 1048576 + b_.val * 8 = _ by omega)
  generalize encode _ = w at *
  simp only [decodeWord, decodeMaj19, sylE, f0, f1, f2, f3, f5, f4, f6, bit_of_fld _ f9, bit_of_fld _ f7, bit_of_fld _ f8, bit_of_fld _ f2, fin_self, ht, and_self, true_and, and_true, not_true_eq_false, ite_false, ite_true, reduceIte, ne_eq, not_false_eq_true]

theorem collMax (a : Fin 32) (k : Fin 8) : Statement (.collMax a k) := by
  intro st ng sw tm p b_ hw_
  obtain ⟨ho, ht⟩ := wf_timed rfl hw_
  obtain ⟨f0, f1, f2, f3, f4, f5, f6, f7, f8, f9⟩ := fields40 (encode ⟨st, p, ng, sw, tm, b_, .collMax a k⟩) k.val b_.val a.val 25 (b2n tm) (b2n sw) (b2n ng) p.val 25 (b2n st)
    k.isLt b_.isLt a.isLt (by decide) (b2n_lt tm) (b2n_lt sw) (b2n_lt ng) p.isLt (by decide) (b2n_lt st)
    (show 0x64032000 + a.val * 256 + k.val + b2n st * 2147483648 + p.val * 8388608 + b2n ng * 4194304 + b2n sw * 2097152 + b2n tm * 1048576 + b_.val * 8 = _ by omega)
  generalize encode _ = w at *
  simp only [decodeWord, decodeMaj19, sylE, f0, f1, f2, f3, f5, f4, f6, bit_of_fld _ f9, bit_of_fld _ f7, bit_of_fld _ f8, bit_of_fld _ f2, fin_self, ht, and_self, true_and, and_true, not_true_eq_false, ite_false, ite_true, reduceIte, ne_eq, not_false_eq_true]

theorem collArgmax (a : Fin 32) (k : Fin 8) : Statement (.collArgmax a k) := by
  intro st ng sw tm p b_ hw_
  obtain ⟨ho, ht⟩ := wf_timed rfl hw_
  obtain ⟨f0, f1, f2, f3, f4, f5, f6, f7, f8, f9⟩ := fields40 (encode ⟨st, p, ng, sw, tm, b_, .collArgmax a k⟩) k.val b_.val a.val 26 (b2n tm) (b2n sw) (b2n ng) p.val 25 (b2n st)
    k.isLt b_.isLt a.isLt (by decide) (b2n_lt tm) (b2n_lt sw) (b2n_lt ng) p.isLt (by decide) (b2n_lt st)
    (show 0x64034000 + a.val * 256 + k.val + b2n st * 2147483648 + p.val * 8388608 + b2n ng * 4194304 + b2n sw * 2097152 + b2n tm * 1048576 + b_.val * 8 = _ by omega)
  generalize encode _ = w at *
  simp only [decodeWord, decodeMaj19, sylE, f0, f1, f2, f3, f5, f4, f6, bit_of_fld _ f9, bit_of_fld _ f7, bit_of_fld _ f8, bit_of_fld _ f2, fin_self, ht, and_self, true_and, and_true, not_true_eq_false, ite_false, ite_true, reduceIte, ne_eq, not_false_eq_true]

theorem collBcast (a : Fin 32) (k : Fin 8) : Statement (.collBcast a k) := by
  intro st ng sw tm p b_ hw_
  obtain ⟨ho, ht⟩ := wf_timed rfl hw_
  obtain ⟨f0, f1, f2, f3, f4, f5, f6, f7, f8, f9⟩ := fields40 (encode ⟨st, p, ng, sw, tm, b_, .collBcast a k⟩) k.val b_.val a.val 27 (b2n tm) (b2n sw) (b2n ng) p.val 25 (b2n st)
    k.isLt b_.isLt a.isLt (by decide) (b2n_lt tm) (b2n_lt sw) (b2n_lt ng) p.isLt (by decide) (b2n_lt st)
    (show 0x64036000 + a.val * 256 + k.val + b2n st * 2147483648 + p.val * 8388608 + b2n ng * 4194304 + b2n sw * 2097152 + b2n tm * 1048576 + b_.val * 8 = _ by omega)
  generalize encode _ = w at *
  simp only [decodeWord, decodeMaj19, sylE, f0, f1, f2, f3, f5, f4, f6, bit_of_fld _ f9, bit_of_fld _ f7, bit_of_fld _ f8, bit_of_fld _ f2, fin_self, ht, and_self, true_and, and_true, not_true_eq_false, ite_false, ite_true, reduceIte, ne_eq, not_false_eq_true]

theorem qlnch (a : Fin 32) (b : Fin 32) : Statement (.qlnch a b) := by
  intro st ng sw tm p b_ hw_
  obtain ⟨ho, rfl, rfl⟩ := wf_untimed rfl hw_
  obtain ⟨f0, f1, f2, f3, f4, f5, f6, f7, f8, f9, -, -⟩ := fields43 (encode ⟨st, p, ng, sw, false, 0, .qlnch a b⟩) 0 0 b.val a.val 32 0 (b2n sw) (b2n ng) p.val 25 (b2n st)
    (by decide) (by decide) b.isLt a.isLt (by decide) (by decide) (b2n_lt sw) (b2n_lt ng) p.isLt (by decide) (b2n_lt st)
    (show 0x64040000 + a.val * 256 + b.val * 8 + b2n st * 2147483648 + p.val * 8388608 + b2n ng * 4194304 + b2n sw * 2097152 + 0 * 1048576 + 0 * 8 = _ by omega)
  generalize encode _ = w at *
  simp only [decodeWord, decodeMaj19, sylU, f0, f1, f2, f3, f4, f5, f6, bit_of_fld _ f9, bit_of_fld _ f7, bit_of_fld _ f8, fin_self, and_self, true_and, and_true, not_true_eq_false, ite_false, ite_true, reduceIte, ne_eq, not_false_eq_true]

theorem wprop : Statement (.wprop) := by
  intro st ng sw tm p b_ hw_
  obtain ⟨ho, ht⟩ := wf_timed rfl hw_
  obtain ⟨f0, f1, f2, f3, f4, f5, f6, f7, f8, f9, -, -⟩ := fields41 (encode ⟨st, p, ng, sw, tm, b_, .wprop⟩) 0 0 b_.val 0 0 (b2n tm) (b2n sw) (b2n ng) p.val 26 (b2n st)
    (by decide) (by decide) b_.isLt (by decide) (by decide) (b2n_lt tm) (b2n_lt sw) (b2n_lt ng) p.isLt (by decide) (b2n_lt st)
    (show 0x68000000 + b2n st * 2147483648 + p.val * 8388608 + b2n ng * 4194304 + b2n sw * 2097152 + b2n tm * 1048576 + b_.val * 8 = _ by omega)
  generalize encode _ = w at *
  simp only [decodeWord, decodeMaj1A, sylE, f0, f1, f2, f3, f4, f5, f6, bit_of_fld _ f9, bit_of_fld _ f7, bit_of_fld _ f8, bit_of_fld _ f4, fin_self, ht, and_self, true_and, and_true, not_true_eq_false, ite_false, ite_true, reduceIte, ne_eq, not_false_eq_true]

theorem wdepth (a : Fin 32) (b : Fin 32) : Statement (.wdepth a b) := by
  intro st ng sw tm p b_ hw_
  obtain ⟨ho, rfl, rfl⟩ := wf_untimed rfl hw_
  obtain ⟨f0, f1, f2, f3, f4, f5, f6, f7, f8, f9, -, -⟩ := fields43 (encode ⟨st, p, ng, sw, false, 0, .wdepth a b⟩) 0 0 b.val a.val 1 0 (b2n sw) (b2n ng) p.val 26 (b2n st)
    (by decide) (by decide) b.isLt a.isLt (by decide) (by decide) (b2n_lt sw) (b2n_lt ng) p.isLt (by decide) (b2n_lt st)
    (show 0x68002000 + a.val * 256 + b.val * 8 + b2n st * 2147483648 + p.val * 8388608 + b2n ng * 4194304 + b2n sw * 2097152 + 0 * 1048576 + 0 * 8 = _ by omega)
  generalize encode _ = w at *
  simp only [decodeWord, decodeMaj1A, sylU, f0, f1, f2, f3, f4, f5, f6, bit_of_fld _ f9, bit_of_fld _ f7, bit_of_fld _ f8, fin_self, and_self, true_and, and_true, not_true_eq_false, ite_false, ite_true, reduceIte, ne_eq, not_false_eq_true]

theorem wrbk (a : Fin 32) (b : Fin 32) : Statement (.wrbk a b) := by
  intro st ng sw tm p b_ hw_
  obtain ⟨ho, rfl, rfl⟩ := wf_untimed rfl hw_
  obtain ⟨f0, f1, f2, f3, f4, f5, f6, f7, f8, f9, -, -⟩ := fields43 (encode ⟨st, p, ng, sw, false, 0, .wrbk a b⟩) 0 0 b.val a.val 2 0 (b2n sw) (b2n ng) p.val 26 (b2n st)
    (by decide) (by decide) b.isLt a.isLt (by decide) (by decide) (b2n_lt sw) (b2n_lt ng) p.isLt (by decide) (b2n_lt st)
    (show 0x68004000 + a.val * 256 + b.val * 8 + b2n st * 2147483648 + p.val * 8388608 + b2n ng * 4194304 + b2n sw * 2097152 + 0 * 1048576 + 0 * 8 = _ by omega)
  generalize encode _ = w at *
  simp only [decodeWord, decodeMaj1A, sylU, f0, f1, f2, f3, f4, f5, f6, bit_of_fld _ f9, bit_of_fld _ f7, bit_of_fld _ f8, fin_self, and_self, true_and, and_true, not_true_eq_false, ite_false, ite_true, reduceIte, ne_eq, not_false_eq_true]

theorem wtake (a : Fin 32) (b : Fin 32) : Statement (.wtake a b) := by
  intro st ng sw tm p b_ hw_
  obtain ⟨ho, rfl, rfl⟩ := wf_untimed rfl hw_
  obtain ⟨f0, f1, f2, f3, f4, f5, f6, f7, f8, f9, -, -⟩ := fields43 (encode ⟨st, p, ng, sw, false, 0, .wtake a b⟩) 0 0 b.val a.val 8 0 (b2n sw) (b2n ng) p.val 26 (b2n st)
    (by decide) (by decide) b.isLt a.isLt (by decide) (by decide) (b2n_lt sw) (b2n_lt ng) p.isLt (by decide) (b2n_lt st)
    (show 0x68010000 + a.val * 256 + b.val * 8 + b2n st * 2147483648 + p.val * 8388608 + b2n ng * 4194304 + b2n sw * 2097152 + 0 * 1048576 + 0 * 8 = _ by omega)
  generalize encode _ = w at *
  simp only [decodeWord, decodeMaj1A, sylU, f0, f1, f2, f3, f4, f5, f6, bit_of_fld _ f9, bit_of_fld _ f7, bit_of_fld _ f8, fin_self, and_self, true_and, and_true, not_true_eq_false, ite_false, ite_true, reduceIte, ne_eq, not_false_eq_true]

theorem wjudge (a : Fin 32) (b : Fin 32) : Statement (.wjudge a b) := by
  intro st ng sw tm p b_ hw_
  obtain ⟨ho, rfl, rfl⟩ := wf_untimed rfl hw_
  obtain ⟨f0, f1, f2, f3, f4, f5, f6, f7, f8, f9, -, -⟩ := fields43 (encode ⟨st, p, ng, sw, false, 0, .wjudge a b⟩) 0 0 b.val a.val 9 0 (b2n sw) (b2n ng) p.val 26 (b2n st)
    (by decide) (by decide) b.isLt a.isLt (by decide) (by decide) (b2n_lt sw) (b2n_lt ng) p.isLt (by decide) (b2n_lt st)
    (show 0x68012000 + a.val * 256 + b.val * 8 + b2n st * 2147483648 + p.val * 8388608 + b2n ng * 4194304 + b2n sw * 2097152 + 0 * 1048576 + 0 * 8 = _ by omega)
  generalize encode _ = w at *
  simp only [decodeWord, decodeMaj1A, sylU, f0, f1, f2, f3, f4, f5, f6, bit_of_fld _ f9, bit_of_fld _ f7, bit_of_fld _ f8, fin_self, and_self, true_and, and_true, not_true_eq_false, ite_false, ite_true, reduceIte, ne_eq, not_false_eq_true]

theorem wfinal (a : Fin 32) (b : Fin 32) : Statement (.wfinal a b) := by
  intro st ng sw tm p b_ hw_
  obtain ⟨ho, rfl, rfl⟩ := wf_untimed rfl hw_
  obtain ⟨f0, f1, f2, f3, f4, f5, f6, f7, f8, f9, -, -⟩ := fields43 (encode ⟨st, p, ng, sw, false, 0, .wfinal a b⟩) 0 0 b.val a.val 10 0 (b2n sw) (b2n ng) p.val 26 (b2n st)
    (by decide) (by decide) b.isLt a.isLt (by decide) (by decide) (b2n_lt sw) (b2n_lt ng) p.isLt (by decide) (b2n_lt st)
    (show 0x68014000 + a.val * 256 + b.val * 8 + b2n st * 2147483648 + p.val * 8388608 + b2n ng * 4194304 + b2n sw * 2097152 + 0 * 1048576 + 0 * 8 = _ by omega)
  generalize encode _ = w at *
  simp only [decodeWord, decodeMaj1A, sylU, f0, f1, f2, f3, f4, f5, f6, bit_of_fld _ f9, bit_of_fld _ f7, bit_of_fld _ f8, fin_self, and_self, true_and, and_true, not_true_eq_false, ite_false, ite_true, reduceIte, ne_eq, not_false_eq_true]

theorem wstat (a : Fin 32) (b : Fin 32) : Statement (.wstat a b) := by
  intro st ng sw tm p b_ hw_
  obtain ⟨ho, rfl, rfl⟩ := wf_untimed rfl hw_
  obtain ⟨f0, f1, f2, f3, f4, f5, f6, f7, f8, f9, -, -⟩ := fields43 (encode ⟨st, p, ng, sw, false, 0, .wstat a b⟩) 0 0 b.val a.val 11 0 (b2n sw) (b2n ng) p.val 26 (b2n st)
    (by decide) (by decide) b.isLt a.isLt (by decide) (by decide) (b2n_lt sw) (b2n_lt ng) p.isLt (by decide) (b2n_lt st)
    (show 0x68016000 + a.val * 256 + b.val * 8 + b2n st * 2147483648 + p.val * 8388608 + b2n ng * 4194304 + b2n sw * 2097152 + 0 * 1048576 + 0 * 8 = _ by omega)
  generalize encode _ = w at *
  simp only [decodeWord, decodeMaj1A, sylU, f0, f1, f2, f3, f4, f5, f6, bit_of_fld _ f9, bit_of_fld _ f7, bit_of_fld _ f8, fin_self, and_self, true_and, and_true, not_true_eq_false, ite_false, ite_true, reduceIte, ne_eq, not_false_eq_true]

theorem ftset (a : Fin 32) : Statement (.ftset a) := by
  intro st ng sw tm p b_ hw_
  obtain ⟨ho, rfl, rfl, rfl⟩ := wf_guarded rfl hw_
  obtain ⟨f0, f1, f2, f3, f4, f5, f6, f7⟩ := fields47 (encode ⟨st, p, ng, false, false, 0, .ftset a⟩) 0 a.val 0 0 (b2n ng) p.val 27 (b2n st)
    (by decide) a.isLt (by decide) (by decide) (b2n_lt ng) p.isLt (by decide) (b2n_lt st)
    (show 0x6C000000 + a.val * 256 + b2n st * 2147483648 + p.val * 8388608 + b2n ng * 4194304 + 0 * 2097152 + 0 * 1048576 + 0 * 8 = _ by omega)
  generalize encode _ = w at *
  simp only [decodeWord, decodeMaj1B, sylG, f0, f1, f2, f3, f4, f5, bit_of_fld _ f7, bit_of_fld _ f6, fin_self, and_self, true_and, and_true, not_true_eq_false, ite_false, ite_true, reduceIte, ne_eq, not_false_eq_true]

theorem scld (a : Fin 32) (b : Fin 32) (h : Bool) (t : Bool) : Statement (.scld a b h t) := by
  intro st ng sw tm p b_ hw_
  obtain ⟨ho, rfl, rfl, rfl⟩ := wf_guarded rfl hw_
  obtain ⟨f0, f1, f2, f3, f4, f5, f6, f7, f8, f9, f10⟩ := fields48 (encode ⟨st, p, ng, false, false, 0, .scld a b h t⟩) t.toNat h.toNat 0 b.val a.val 1 0 (b2n ng) p.val 27 (b2n st)
    (toNat_lt t) (toNat_lt h) (by decide) b.isLt a.isLt (by decide) (by decide) (b2n_lt ng) p.isLt (by decide) (b2n_lt st)
    (show 0x6C002000 + a.val * 256 + b.val * 8 + h.toNat * 2 + t.toNat + b2n st * 2147483648 + p.val * 8388608 + b2n ng * 4194304 + 0 * 2097152 + 0 * 1048576 + 0 * 8 = _ by omega)
  generalize encode _ = w at *
  simp only [decodeWord, decodeMaj1B, sylG, f0, f1, f2, f3, f4, f5, f8, bit_of_fld _ f10, bit_of_fld _ f9, bit_of_toNat _ f6, bit_of_toNat _ f7, fin_self, and_self, true_and, and_true, not_true_eq_false, ite_false, ite_true, reduceIte, ne_eq, not_false_eq_true]

theorem chset (a : Fin 32) (b : Fin 32) (j : Fin 4) : Statement (.chset a b j) := by
  intro st ng sw tm p b_ hw_
  obtain ⟨ho, rfl, rfl, rfl⟩ := wf_guarded rfl hw_
  obtain ⟨f0, f1, f2, f3, f4, f5, f6, f7, f8, f9⟩ := fields49 (encode ⟨st, p, ng, false, false, 0, .chset a b j⟩) j.val 0 b.val a.val 2 0 (b2n ng) p.val 27 (b2n st)
    j.isLt (by decide) b.isLt a.isLt (by decide) (by decide) (b2n_lt ng) p.isLt (by decide) (b2n_lt st)
    (show 0x6C004000 + a.val * 256 + b.val * 8 + j.val + b2n st * 2147483648 + p.val * 8388608 + b2n ng * 4194304 + 0 * 2097152 + 0 * 1048576 + 0 * 8 = _ by omega)
  generalize encode _ = w at *
  simp only [decodeWord, decodeMaj1B, sylG, f0, f1, f2, f3, f4, f5, f6, f7, bit_of_fld _ f9, bit_of_fld _ f8, fin_self, and_self, true_and, and_true, not_true_eq_false, ite_false, ite_true, reduceIte, ne_eq, not_false_eq_true]

theorem decl (a : Fin 32) : Statement (.decl a) := by
  intro st ng sw tm p b_ hw_
  obtain ⟨ho, rfl, rfl, rfl⟩ := wf_guarded rfl hw_
  obtain ⟨f0, f1, f2, f3, f4, f5, f6, f7⟩ := fields47 (encode ⟨st, p, ng, false, false, 0, .decl a⟩) 0 a.val 3 0 (b2n ng) p.val 27 (b2n st)
    (by decide) a.isLt (by decide) (by decide) (b2n_lt ng) p.isLt (by decide) (b2n_lt st)
    (show 0x6C006000 + a.val * 256 + b2n st * 2147483648 + p.val * 8388608 + b2n ng * 4194304 + 0 * 2097152 + 0 * 1048576 + 0 * 8 = _ by omega)
  generalize encode _ = w at *
  simp only [decodeWord, decodeMaj1B, sylG, f0, f1, f2, f3, f4, f5, bit_of_fld _ f7, bit_of_fld _ f6, fin_self, and_self, true_and, and_true, not_true_eq_false, ite_false, ite_true, reduceIte, ne_eq, not_false_eq_true]

theorem pwra (a : Fin 32) : Statement (.pwra a) := by
  intro st ng sw tm p b_ hw_
  obtain ⟨ho, rfl, rfl, rfl⟩ := wf_guarded rfl hw_
  obtain ⟨f0, f1, f2, f3, f4, f5, f6, f7⟩ := fields47 (encode ⟨st, p, ng, false, false, 0, .pwra a⟩) 0 a.val 4 0 (b2n ng) p.val 27 (b2n st)
    (by decide) a.isLt (by decide) (by decide) (b2n_lt ng) p.isLt (by decide) (b2n_lt st)
    (show 0x6C008000 + a.val * 256 + b2n st * 2147483648 + p.val * 8388608 + b2n ng * 4194304 + 0 * 2097152 + 0 * 1048576 + 0 * 8 = _ by omega)
  generalize encode _ = w at *
  simp only [decodeWord, decodeMaj1B, sylG, f0, f1, f2, f3, f4, f5, bit_of_fld _ f7, bit_of_fld _ f6, fin_self, and_self, true_and, and_true, not_true_eq_false, ite_false, ite_true, reduceIte, ne_eq, not_false_eq_true]

theorem pwrr : Statement (.pwrr) := by
  intro st ng sw tm p b_ hw_
  obtain ⟨ho, rfl, rfl, rfl⟩ := wf_guarded rfl hw_
  obtain ⟨f0, -, f2, -, -, -, -, f7, f8, f9, -, -, -, f13, f14⟩ := fields31 (encode ⟨st, p, ng, false, false, 0, .pwrr⟩) 0 1 1 0 0 0 0 0 (b2n ng) p.val 27 (b2n st)
    (by decide) (by decide) (by decide) (by decide) (by decide) (by decide) (by decide) (by decide) (b2n_lt ng) p.isLt (by decide) (b2n_lt st)
    (show 0x6C00A000 + b2n st * 2147483648 + p.val * 8388608 + b2n ng * 4194304 + 0 * 2097152 + 0 * 1048576 + 0 * 8 = _ by omega)
  generalize encode _ = w at *
  simp only [decodeWord, decodeMaj1B, sylG, f0, f13, f14, f2, f7, bit_of_fld _ f9, bit_of_fld _ f8, fin_self, and_self, true_and, and_true, not_true_eq_false, ite_false, ite_true, reduceIte, ne_eq, not_false_eq_true]

theorem qinit (a : Fin 32) (b : Fin 32) : Statement (.qinit a b) := by
  intro st ng sw tm p b_ hw_
  obtain ⟨ho, rfl, rfl, rfl⟩ := wf_guarded rfl hw_
  obtain ⟨f0, f1, f2, f3, f4, f5, f6, f7, f8⟩ := fields50 (encode ⟨st, p, ng, false, false, 0, .qinit a b⟩) 0 b.val a.val 6 0 (b2n ng) p.val 27 (b2n st)
    (by decide) b.isLt a.isLt (by decide) (by decide) (b2n_lt ng) p.isLt (by decide) (b2n_lt st)
    (show 0x6C00C000 + a.val * 256 + b.val * 8 + b2n st * 2147483648 + p.val * 8388608 + b2n ng * 4194304 + 0 * 2097152 + 0 * 1048576 + 0 * 8 = _ by omega)
  generalize encode _ = w at *
  simp only [decodeWord, decodeMaj1B, sylG, f0, f1, f2, f3, f4, f5, f6, bit_of_fld _ f8, bit_of_fld _ f7, fin_self, and_self, true_and, and_true, not_true_eq_false, ite_false, ite_true, reduceIte, ne_eq, not_false_eq_true]

theorem lnputCw (a : Fin 32) (b : Fin 32) (l : Fin 8) : Statement (.lnputCw a b l) := by
  intro st ng sw tm p b_ hw_
  obtain ⟨ho, rfl, rfl, rfl⟩ := wf_guarded rfl hw_
  obtain ⟨f0, f1, f2, f3, f4, f5, f6, f7, f8⟩ := fields51 (encode ⟨st, p, ng, false, false, 0, .lnputCw a b l⟩) l.val b.val a.val 0 0 (b2n ng) p.val 28 (b2n st)
    l.isLt b.isLt a.isLt (by decide) (by decide) (b2n_lt ng) p.isLt (by decide) (b2n_lt st)
    (show 0x70000000 + a.val * 256 + b.val * 8 + l.val + b2n st * 2147483648 + p.val * 8388608 + b2n ng * 4194304 + 0 * 2097152 + 0 * 1048576 + 0 * 8 = _ by omega)
  generalize encode _ = w at *
  simp only [decodeWord, decodeMaj1C, sylG, f0, f1, f2, f3, f4, f5, f6, bit_of_fld _ f8, bit_of_fld _ f7, fin_self, and_self, true_and, and_true, not_true_eq_false, ite_false, ite_true, reduceIte, ne_eq, not_false_eq_true]

theorem lnputAw (a : Fin 32) (b : Fin 32) (l : Fin 8) : Statement (.lnputAw a b l) := by
  intro st ng sw tm p b_ hw_
  obtain ⟨ho, rfl, rfl, rfl⟩ := wf_guarded rfl hw_
  obtain ⟨f0, f1, f2, f3, f4, f5, f6, f7, f8⟩ := fields51 (encode ⟨st, p, ng, false, false, 0, .lnputAw a b l⟩) l.val b.val a.val 1 0 (b2n ng) p.val 28 (b2n st)
    l.isLt b.isLt a.isLt (by decide) (by decide) (b2n_lt ng) p.isLt (by decide) (b2n_lt st)
    (show 0x70002000 + a.val * 256 + b.val * 8 + l.val + b2n st * 2147483648 + p.val * 8388608 + b2n ng * 4194304 + 0 * 2097152 + 0 * 1048576 + 0 * 8 = _ by omega)
  generalize encode _ = w at *
  simp only [decodeWord, decodeMaj1C, sylG, f0, f1, f2, f3, f4, f5, f6, bit_of_fld _ f8, bit_of_fld _ f7, fin_self, and_self, true_and, and_true, not_true_eq_false, ite_false, ite_true, reduceIte, ne_eq, not_false_eq_true]

theorem lntapCw (a : Fin 32) (b : Fin 32) (l : Fin 8) : Statement (.lntapCw a b l) := by
  intro st ng sw tm p b_ hw_
  obtain ⟨ho, rfl, rfl, rfl⟩ := wf_guarded rfl hw_
  obtain ⟨f0, f1, f2, f3, f4, f5, f6, f7, f8⟩ := fields51 (encode ⟨st, p, ng, false, false, 0, .lntapCw a b l⟩) l.val b.val a.val 2 0 (b2n ng) p.val 28 (b2n st)
    l.isLt b.isLt a.isLt (by decide) (by decide) (b2n_lt ng) p.isLt (by decide) (b2n_lt st)
    (show 0x70004000 + a.val * 256 + b.val * 8 + l.val + b2n st * 2147483648 + p.val * 8388608 + b2n ng * 4194304 + 0 * 2097152 + 0 * 1048576 + 0 * 8 = _ by omega)
  generalize encode _ = w at *
  simp only [decodeWord, decodeMaj1C, sylG, f0, f1, f2, f3, f4, f5, f6, bit_of_fld _ f8, bit_of_fld _ f7, fin_self, and_self, true_and, and_true, not_true_eq_false, ite_false, ite_true, reduceIte, ne_eq, not_false_eq_true]

theorem lntapAw (a : Fin 32) (b : Fin 32) (l : Fin 8) : Statement (.lntapAw a b l) := by
  intro st ng sw tm p b_ hw_
  obtain ⟨ho, rfl, rfl, rfl⟩ := wf_guarded rfl hw_
  obtain ⟨f0, f1, f2, f3, f4, f5, f6, f7, f8⟩ := fields51 (encode ⟨st, p, ng, false, false, 0, .lntapAw a b l⟩) l.val b.val a.val 3 0 (b2n ng) p.val 28 (b2n st)
    l.isLt b.isLt a.isLt (by decide) (by decide) (b2n_lt ng) p.isLt (by decide) (b2n_lt st)
    (show 0x70006000 + a.val * 256 + b.val * 8 + l.val + b2n st * 2147483648 + p.val * 8388608 + b2n ng * 4194304 + 0 * 2097152 + 0 * 1048576 + 0 * 8 = _ by omega)
  generalize encode _ = w at *
  simp only [decodeWord, decodeMaj1C, sylG, f0, f1, f2, f3, f4, f5, f6, bit_of_fld _ f8, bit_of_fld _ f7, fin_self, and_self, true_and, and_true, not_true_eq_false, ite_false, ite_true, reduceIte, ne_eq, not_false_eq_true]

theorem iterationBoundary : Statement (.iterationBoundary) := fun _ _ _ _ _ _ h => nomatch (show false = true from h)

theorem resultLatchCommit : Statement (.resultLatchCommit) := fun _ _ _ _ _ _ h => nomatch (show false = true from h)

theorem commandStart (x0 : Fin 4) : Statement (.commandStart x0) := fun _ _ _ _ _ _ h => nomatch (show false = true from h)

theorem unitWriteCommit (x0 : Fin 4) : Statement (.unitWriteCommit x0) := fun _ _ _ _ _ _ h => nomatch (show false = true from h)

theorem takingATrap : Statement (.takingATrap) := fun _ _ _ _ _ _ h => nomatch (show false = true from h)

theorem ringResume : Statement (.ringResume) := fun _ _ _ _ _ _ h => nomatch (show false = true from h)

theorem trailForcedIssue (x0 : Nat) : Statement (.trailForcedIssue x0) := fun _ _ _ _ _ _ h => nomatch (show false = true from h)

theorem waittExpiry : Statement (.waittExpiry) := fun _ _ _ _ _ _ h => nomatch (show false = true from h)

theorem copyCompletion (x0 : Nat) (x1 : Nat) : Statement (.copyCompletion x0 x1) := fun _ _ _ _ _ _ h => nomatch (show false = true from h)

theorem promiseMissed (x0 : Nat) : Statement (.promiseMissed x0) := fun _ _ _ _ _ _ h => nomatch (show false = true from h)

theorem keepWaitingNotice (x0 : Nat) (x1 : Nat) : Statement (.keepWaitingNotice x0 x1) := fun _ _ _ _ _ _ h => nomatch (show false = true from h)

theorem fillArrival (x0 : Nat) : Statement (.fillArrival x0) := fun _ _ _ _ _ _ h => nomatch (show false = true from h)

theorem atomAtHome (x0 : Nat) : Statement (.atomAtHome x0) := fun _ _ _ _ _ _ h => nomatch (show false = true from h)

theorem publicationCompletion (x0 : Nat) : Statement (.publicationCompletion x0) := fun _ _ _ _ _ _ h => nomatch (show false = true from h)

theorem deliveryLanding (x0 : Nat) : Statement (.deliveryLanding x0) := fun _ _ _ _ _ _ h => nomatch (show false = true from h)

theorem barRelease (x0 : Nat) : Statement (.barRelease x0) := fun _ _ _ _ _ _ h => nomatch (show false = true from h)

theorem collCombine (x0 : Nat) : Statement (.collCombine x0) := fun _ _ _ _ _ _ h => nomatch (show false = true from h)

theorem vpushStallRelease (x0 : Nat) : Statement (.vpushStallRelease x0) := fun _ _ _ _ _ _ h => nomatch (show false = true from h)

theorem qlnchQueueRoom (x0 : Nat) : Statement (.qlnchQueueRoom x0) := fun _ _ _ _ _ _ h => nomatch (show false = true from h)

theorem missedOperandRelease (x0 : Nat) : Statement (.missedOperandRelease x0) := fun _ _ _ _ _ _ h => nomatch (show false = true from h)

theorem taskRetirement (x0 : Nat) : Statement (.taskRetirement x0) := fun _ _ _ _ _ _ h => nomatch (show false = true from h)

theorem launchCompletion (x0 : Nat) : Statement (.launchCompletion x0) := fun _ _ _ _ _ _ h => nomatch (show false = true from h)

theorem gangAdmission : Statement (.gangAdmission) := fun _ _ _ _ _ _ h => nomatch (show false = true from h)

theorem queueAgeing (x0 : Nat) : Statement (.queueAgeing x0) := fun _ _ _ _ _ _ h => nomatch (show false = true from h)

theorem routerTableSwitch : Statement (.routerTableSwitch) := fun _ _ _ _ _ _ h => nomatch (show false = true from h)

theorem proposalRecordIntake (x0 : Nat) (x1 : List (BitVec 8)) : Statement (.proposalRecordIntake x0 x1) := fun _ _ _ _ _ _ h => nomatch (show false = true from h)

theorem wtakeRelease (x0 : Nat) : Statement (.wtakeRelease x0) := fun _ _ _ _ _ _ h => nomatch (show false = true from h)

theorem wdepthRelease (x0 : Nat) : Statement (.wdepthRelease x0) := fun _ _ _ _ _ _ h => nomatch (show false = true from h)

theorem wfinalPerformed (x0 : Nat) : Statement (.wfinalPerformed x0) := fun _ _ _ _ _ _ h => nomatch (show false = true from h)

theorem logitFault (x0 : Nat) : Statement (.logitFault x0) := fun _ _ _ _ _ _ h => nomatch (show false = true from h)

theorem timerExpiry (x0 : Nat) : Statement (.timerExpiry x0) := fun _ _ _ _ _ _ h => nomatch (show false = true from h)

theorem sliceExpiry (x0 : Nat) : Statement (.sliceExpiry x0) := fun _ _ _ _ _ _ h => nomatch (show false = true from h)

theorem preemptLate (x0 : Nat) : Statement (.preemptLate x0) := fun _ _ _ _ _ _ h => nomatch (show false = true from h)

theorem pwraGrant (x0 : Bool) : Statement (.pwraGrant x0) := fun _ _ _ _ _ _ h => nomatch (show false = true from h)

theorem staticChargeTick (x0 : Nat) : Statement (.staticChargeTick x0) := fun _ _ _ _ _ _ h => nomatch (show false = true from h)

theorem thermalSample (x0 : List (Nat × Nat)) : Statement (.thermalSample x0) := fun _ _ _ _ _ _ h => nomatch (show false = true from h)

theorem opSwitchQuiesce (x0 : Nat) : Statement (.opSwitchQuiesce x0) := fun _ _ _ _ _ _ h => nomatch (show false = true from h)

theorem opSwitchSettled (x0 : Nat) : Statement (.opSwitchSettled x0) := fun _ _ _ _ _ _ h => nomatch (show false = true from h)

theorem hangWatchdogExpiry (x0 : Nat) : Statement (.hangWatchdogExpiry x0) := fun _ _ _ _ _ _ h => nomatch (show false = true from h)

theorem waitWatchdogExpiry (x0 : Nat) : Statement (.waitWatchdogExpiry x0) := fun _ _ _ _ _ _ h => nomatch (show false = true from h)

theorem selfTestEnd (x0 : Nat) (x1 : Bool) : Statement (.selfTestEnd x0 x1) := fun _ _ _ _ _ _ h => nomatch (show false = true from h)

theorem svcSetEnergy (x0 : Nat) : Statement (.svcSetEnergy x0) := fun _ _ _ _ _ _ h => nomatch (show false = true from h)

theorem svcClearEnergyFlag (x0 : Nat) : Statement (.svcClearEnergyFlag x0) := fun _ _ _ _ _ _ h => nomatch (show false = true from h)

theorem partitionSwapOut (x0 : List Nat) : Statement (.partitionSwapOut x0) := fun _ _ _ _ _ _ h => nomatch (show false = true from h)

theorem partitionSwapIn (x0 : List Nat) : Statement (.partitionSwapIn x0) := fun _ _ _ _ _ _ h => nomatch (show false = true from h)

theorem ctxcmdResume (x0 : Nat) : Statement (.ctxcmdResume x0) := fun _ _ _ _ _ _ h => nomatch (show false = true from h)

theorem ctxcmdEndTask (x0 : Nat) : Statement (.ctxcmdEndTask x0) := fun _ _ _ _ _ _ h => nomatch (show false = true from h)

theorem ctxcmdPark (x0 : Nat) : Statement (.ctxcmdPark x0) := fun _ _ _ _ _ _ h => nomatch (show false = true from h)

theorem fdatRead (x0 : Fin 32) : Statement (.fdatRead x0) := fun _ _ _ _ _ _ h => nomatch (show false = true from h)

theorem fdatWrite (x0 : BitVec 64) : Statement (.fdatWrite x0) := fun _ _ _ _ _ _ h => nomatch (show false = true from h)

theorem tmrWrite (x0 : BitVec 64) : Statement (.tmrWrite x0) := fun _ _ _ _ _ _ h => nomatch (show false = true from h)

theorem lcntWrite (x0 : Fin 8) (x1 : BitVec 64) : Statement (.lcntWrite x0 x1) := fun _ _ _ _ _ _ h => nomatch (show false = true from h)

theorem islctlWrite (x0 : Nat) (x1 : BitVec 64) : Statement (.islctlWrite x0 x1) := fun _ _ _ _ _ _ h => nomatch (show false = true from h)

theorem registerWrite (x0 : RegTarget) (x1 : BitVec 64) : Statement (.registerWrite x0 x1) := fun _ _ _ _ _ _ h => nomatch (show false = true from h)

theorem vctDatagramDiscard (x0 : List (BitVec 8)) : Statement (.vctDatagramDiscard x0) := fun _ _ _ _ _ _ h => nomatch (show false = true from h)

theorem openSession (x0 : List (BitVec 8)) : Statement (.openSession x0) := fun _ _ _ _ _ _ h => nomatch (show false = true from h)

theorem closeSession (x0 : Nat) : Statement (.closeSession x0) := fun _ _ _ _ _ _ h => nomatch (show false = true from h)

theorem ack (x0 : Nat) (x1 : Nat) : Statement (.ack x0 x1) := fun _ _ _ _ _ _ h => nomatch (show false = true from h)

theorem retransmit (x0 : Nat) (x1 : Nat) : Statement (.retransmit x0 x1) := fun _ _ _ _ _ _ h => nomatch (show false = true from h)

theorem launch (x0 : Nat) (x1 : Nat) (x2 : Nat) (x3 : List (BitVec 8)) : Statement (.launch x0 x1 x2 x3) := fun _ _ _ _ _ _ h => nomatch (show false = true from h)

theorem hostcopyIn (x0 : Nat) (x1 : Nat) (x2 : BitVec 64) (x3 : List (BitVec 8)) : Statement (.hostcopyIn x0 x1 x2 x3) := fun _ _ _ _ _ _ h => nomatch (show false = true from h)

theorem hostcopyOut (x0 : Nat) (x1 : Nat) (x2 : BitVec 64) (x3 : Nat) : Statement (.hostcopyOut x0 x1 x2 x3) := fun _ _ _ _ _ _ h => nomatch (show false = true from h)

theorem signalTask (x0 : Nat) (x1 : Nat) (x2 : BitVec 64) (x3 : BitVec 64) (x4 : BitVec 64) : Statement (.signalTask x0 x1 x2 x3 x4) := fun _ _ _ _ _ _ h => nomatch (show false = true from h)

theorem signalOpenSlot (x0 : Nat) (x1 : Nat) (x2 : Nat) (x3 : List (BitVec 8)) : Statement (.signalOpenSlot x0 x1 x2 x3) := fun _ _ _ _ _ _ h => nomatch (show false = true from h)

theorem signalCancel (x0 : Nat) (x1 : Nat) (x2 : Nat) (x3 : BitVec 32) : Statement (.signalCancel x0 x1 x2 x3) := fun _ _ _ _ _ _ h => nomatch (show false = true from h)

theorem signalRelease (x0 : Nat) (x1 : Nat) (x2 : Nat) (x3 : BitVec 32) : Statement (.signalRelease x0 x1 x2 x3) := fun _ _ _ _ _ _ h => nomatch (show false = true from h)

theorem waitval (x0 : Nat) (x1 : Nat) (x2 : BitVec 64) (x3 : BitVec 64) (x4 : BitVec 64) (x5 : Nat) (x6 : Nat) : Statement (.waitval x0 x1 x2 x3 x4 x5 x6) := fun _ _ _ _ _ _ h => nomatch (show false = true from h)

theorem waitvalPoll (x0 : Nat) (x1 : Nat) : Statement (.waitvalPoll x0 x1) := fun _ _ _ _ _ _ h => nomatch (show false = true from h)

theorem queryManagement (x0 : Nat) (x1 : Nat) (x2 : Nat) (x3 : Nat) (x4 : Nat) : Statement (.queryManagement x0 x1 x2 x3 x4) := fun _ _ _ _ _ _ h => nomatch (show false = true from h)

theorem querySlotRecord (x0 : Nat) (x1 : Nat) (x2 : Nat) (x3 : Nat) (x4 : Nat) : Statement (.querySlotRecord x0 x1 x2 x3 x4) := fun _ _ _ _ _ _ h => nomatch (show false = true from h)

theorem queryTrapFrame (x0 : Nat) (x1 : Nat) (x2 : Nat) (x3 : Nat) (x4 : Nat) : Statement (.queryTrapFrame x0 x1 x2 x3 x4) := fun _ _ _ _ _ _ h => nomatch (show false = true from h)

theorem queryQueueState (x0 : Nat) (x1 : Nat) (x2 : Nat) (x3 : Nat) (x4 : Nat) : Statement (.queryQueueState x0 x1 x2 x3 x4) := fun _ _ _ _ _ _ h => nomatch (show false = true from h)

theorem querySlotTables (x0 : Nat) (x1 : Nat) (x2 : Nat) (x3 : Nat) (x4 : Nat) : Statement (.querySlotTables x0 x1 x2 x3 x4) := fun _ _ _ _ _ _ h => nomatch (show false = true from h)

theorem queryErrorLog (x0 : Nat) (x1 : Nat) (x2 : Nat) (x3 : Nat) (x4 : Nat) : Statement (.queryErrorLog x0 x1 x2 x3 x4) := fun _ _ _ _ _ _ h => nomatch (show false = true from h)

theorem queryAttestation (x0 : Nat) (x1 : Nat) (x2 : Nat) (x3 : Nat) (x4 : Nat) : Statement (.queryAttestation x0 x1 x2 x3 x4) := fun _ _ _ _ _ _ h => nomatch (show false = true from h)

theorem pageansMapped (x0 : Nat) (x1 : Nat) (x2 : Nat) : Statement (.pageansMapped x0 x1 x2) := fun _ _ _ _ _ _ h => nomatch (show false = true from h)

theorem pageansFailure (x0 : Nat) (x1 : Nat) (x2 : Nat) : Statement (.pageansFailure x0 x1 x2) := fun _ _ _ _ _ _ h => nomatch (show false = true from h)

theorem pageEntryWrite (x0 : Nat) (x1 : Nat) (x2 : Nat) (x3 : BitVec 64) (x4 : BitVec 64) : Statement (.pageEntryWrite x0 x1 x2 x3 x4) := fun _ _ _ _ _ _ h => nomatch (show false = true from h)

theorem segmentEntryWrite (x0 : Nat) (x1 : Nat) (x2 : Nat) (x3 : BitVec 64) (x4 : BitVec 64) (x5 : BitVec 64) : Statement (.segmentEntryWrite x0 x1 x2 x3 x4 x5) := fun _ _ _ _ _ _ h => nomatch (show false = true from h)

theorem pageMigrate (x0 : Nat) (x1 : Nat) (x2 : Nat) (x3 : BitVec 64) (x4 : BitVec 64) : Statement (.pageMigrate x0 x1 x2 x3 x4) := fun _ _ _ _ _ _ h => nomatch (show false = true from h)

theorem mapCacheInvalidate (x0 : Nat) (x1 : Nat) (x2 : Nat) (x3 : BitVec 64) : Statement (.mapCacheInvalidate x0 x1 x2 x3) := fun _ _ _ _ _ _ h => nomatch (show false = true from h)

theorem freeFrameAppend (x0 : Nat) (x1 : Nat) (x2 : Nat) (x3 : BitVec 64) : Statement (.freeFrameAppend x0 x1 x2 x3) := fun _ _ _ _ _ _ h => nomatch (show false = true from h)

theorem segmentWordsWrite (x0 : Nat) (x1 : Nat) (x2 : Nat) (x3 : BitVec 64) (x4 : BitVec 64) (x5 : BitVec 64) : Statement (.segmentWordsWrite x0 x1 x2 x3 x4 x5) := fun _ _ _ _ _ _ h => nomatch (show false = true from h)

theorem migrateTrigger (x0 : Nat) (x1 : BitVec 64) : Statement (.migrateTrigger x0 x1) := fun _ _ _ _ _ _ h => nomatch (show false = true from h)

theorem migrationCopy (x0 : BitVec 64) : Statement (.migrationCopy x0) := fun _ _ _ _ _ _ h => nomatch (show false = true from h)

theorem pieceAtHome (x0 : Nat) : Statement (.pieceAtHome x0) := fun _ _ _ _ _ _ h => nomatch (show false = true from h)

theorem farPieceRefusal (x0 : Nat) : Statement (.farPieceRefusal x0) := fun _ _ _ _ _ _ h => nomatch (show false = true from h)

theorem boot (x0 : List (BitVec 8)) (x1 : List (BitVec 8)) (x2 : List (BitVec 8)) (x3 : List (BitVec 8)) (x4 : List (Nat × Nat × Nat)) : Statement (.boot x0 x1 x2 x3 x4) := fun _ _ _ _ _ _ h => nomatch (show false = true from h)

theorem targetRefusal (x0 : Nat) : Statement (.targetRefusal x0) := fun _ _ _ _ _ _ h => nomatch (show false = true from h)

theorem linkError (x0 : Nat) (x1 : Nat) (x2 : Nat) : Statement (.linkError x0 x1 x2) := fun _ _ _ _ _ _ h => nomatch (show false = true from h)

theorem thresholdTableWrite (x0 : Fin 8) (x1 : List Nat) : Statement (.thresholdTableWrite x0 x1) := fun _ _ _ _ _ _ h => nomatch (show false = true from h)

end Sys2Proof.Laws.RoundTrip
end

