-- ==== Sys2Proof/Safety.lean ====
section
/-! DEFINITION. What the statements mean by a sound state, by a run that goes on, by the result of a scalar syllable and
by an engine instruction's issue: the checks it makes, the record it captures and the state that holds it. -/

namespace Sys2Proof.Machine

/-- The step answers a next state. -/
def goesOn (s : State) : Prop := ∃ t, step s = .next t

/-- The memory of a state stands in its canonical form. -/
def State.memWf (s : State) : Prop := s.mem.wf = true

/-! ## Scalar results -/

/-- R175, R336, R424: the state after an S syllable that acts: its charge and its latch. -/
def scalarNext (s : State) (lat : Nat) (d : Dest) (srcs : List (Fin 32)) (v : Word) : State :=
  addLatch (charge s (weight s 0)) lat d v 0 (badReg s s.ctx.iss.sslot srcs)

/-- R64, R65, R336: the state after a scalar floating-point syllable that acts. -/
def floatNext (s : State) (lat : Nat) (d : Dest) (srcs : List (Fin 32)) (r : Res) (v : Word) : State :=
  putLatch (charge s (weight s 0))
    { newLatch s lat d v r.fl ((badReg s s.ctx.iss.sslot srcs).or (fpBad s r)) with
      fp := some (BitVec.ofNat 6 r.fl, r.tiny, r.sn) }

/-- R175: an S syllable goes on to the state with its charge and the latch of one value, and the value is as `P` says. -/
def givesResult (o : Outcome State) (s : State) (lat : Nat) (d : Dest) (srcs : List (Fin 32)) (P : Word → Prop) : Prop :=
  ∃ v, o = .next (scalarNext s lat d srcs v) ∧ P v

/-- R149: a predicate as the value of a latch. -/
def predWord (b : Bool) : Word := if b then 1 else 0

/-! ## Numbers -/

/-- R45: the exact number that a finite value is. -/
def Val.rat : Val → Rat
  | .fin n m e => sInt n m * (2 : Rat) ^ e
  | _ => 0

/-- A value is a finite number. -/
def Val.finite (v : Val) : Prop := ∃ n m e, v = .fin n m e

/-- A value is a NaN. -/
def Val.isNan (v : Val) : Prop := ∃ g n, v = .nan g n

/-- A value is a signalling NaN. -/
def Val.isSig (v : Val) : Prop := ∃ n, v = .nan true n

/-- R68, R246: the elements of A and B at place kk of a group for cell (i, j); a place that B does not supply holds 0. -/
def cellPair (c : Cmd) (buf : List (List Nat)) (i j : Nat) (x : Nat × Bool) : Val × Val :=
  (mmaVal (c.sh 1).f (aElem c buf i x.1),
    if x.2 = true then mmaVal (c.sh 2).f (bElem c buf x.1 j) else .fin false 0 0)

/-! ## Frames -/

/-- What a syllable that reads and computes leaves: at most one latch, due at a later task cycle; beside it only the
charge of the context, its draw, and the count of its own island (R175, R424, R449). -/
def leavesLatch (s t : State) : Prop :=
  ∃ ls us e v d,
    t = { s with
      ctx := { s.ctx with latches := s.ctx.latches ++ ls, energy := e, energySat := v, draw := d }
      units := us } ∧
    ls.length ≤ 1 ∧ (∀ l ∈ ls, s.ctx.now < l.due ∧ l.issue = s.ctx.now) ∧ ∀ u ∈ us, u.n ≠ s.ctx.gunit → u ∈ s.units

/-- Nothing of the context's architectural state but what the statement names: its registers, and the bytes, codes and
accumulator cells of the part. -/
def sameStore (s t : State) : Prop := t.mem = s.mem ∧ t.synd = s.synd ∧ t.acc = s.acc ∧ t.asyn = s.asyn

/-- R150: the base register, mode, offset and size of an M access. -/
def access (i : Instr) : Option (Fin 32 × Fin 4 × BitVec 7 × Nat) :=
  match i with
  | .ldB _ b im o => some (b, im, o, 0)
  | .ldBn _ b im o => some (b, im, o, 0)
  | .ldH _ b im o => some (b, im, o, 1)
  | .ldHn _ b im o => some (b, im, o, 1)
  | .ldW _ b im o => some (b, im, o, 2)
  | .ldWn _ b im o => some (b, im, o, 2)
  | .ldD _ b im o => some (b, im, o, 3)
  | .stB _ b im o => some (b, im, o, 0)
  | .stH _ b im o => some (b, im, o, 1)
  | .stW _ b im o => some (b, im, o, 2)
  | .stD _ b im o => some (b, im, o, 3)
  | .stq _ b im o => some (b, im, o, 3)
  | _ => none

/-- R139, R198: the word at an address with its stop bit set is the last of the bundle at another of the same block. -/
def lastWord (c : Ctx) (a e : Word) : Prop :=
  ∃ n, (blockWords c a).findIdx? (fun w => bit w 31) = some n ∧ e = a + BitVec.ofNat 64 (4 * n)

/-- R139, R198: the bundle that follows the last word of another in address order: after the rest of its fetch block when
that is pad words, and after the whole blocks of pad words that come next. -/
def followingBundle (c : Ctx) (e b : Word) : Prop :=
  let pads := fun x : Word => ∀ w ∈ blockWords c x, w = padWord
  let run := fun x : Word => x.toNat % 64 = 0 ∧ c.inCode x = true ∧ pads x
  let r := e + 4
  ∃ r' k, ((r.toNat % 64 ≠ 0 ∧ pads r ∧ r' = BitVec.ofNat 64 (r.toNat / 64 * 64) + 64) ∨
      ((r.toNat % 64 = 0 ∨ ¬pads r) ∧ r' = r)) ∧
    k ≤ c.hdr.codelen / 64 ∧ b = r' + BitVec.ofNat 64 (64 * k) ∧
    (∀ j, j < k → run (r' + BitVec.ofNat 64 (64 * j))) ∧ ¬run b

/-- R142: the branch syllables. -/
def delays (i : Instr) : Bool :=
  match i with
  | .br _ | .brcNz .. | .brcZ .. | .call _ | .jmp _ | .rte | .lbrk _ => true
  | _ => false

/-- R189, R191: the state after a load whose checks pass: its base update, and a latch at +3 whose read is at +1. -/
def loadNext (s : State) (v b : Fin 32) (inc : Fin 4) (o : BitVec 7) (size : Nat) (signed : Bool) : State :=
  let t := baseUpdate (charge s (weight s 1)) b inc o size true
  putLatch t { newLatch t 3 (.g v) 0 0 (badReg t 5 [b]) with
    slot := 5, ld := some ⟨(memAddr (rdG s b) inc o size).toNat, 2 ^ size, signed⟩ }

/-- R189, R192: the state after a store whose checks pass: its base update, and a write of VAL's bytes at +1. -/
def storeNext (s : State) (val : Word) (b : Fin 32) (inc : Fin 4) (o : BitVec 7) (size : Nat) : State :=
  addDW (baseUpdate (charge s (weight s 1)) b inc o size true) 1 (.store (memAddr (rdG s b) inc o size).toNat (2 ^ size) val)

/-! ## Engine instructions at issue -/

/-- R214, R243, R263: what an engine instruction is at issue: its operation, the uses of its shape registers with the
checks that each takes, its operands, its own checks, and what completes its record. -/
structure EForm where
  op : CmdOp
  uses : (Fin 4 → Shape) → List Use
  ks : Use → List Nat
  ga : Word
  gb : Word
  aux : Nat
  dst : Fin 32
  lim : State → (Fin 4 → Shape) → Option Trap
  fin : State → Cmd → State × Cmd

/-- The record that the issue captures, with the state that goes with it. -/
def EForm.cmd (f : EForm) (s : State) : State × Cmd := issueCmd s f.op f.ga f.gb f.aux 0 f.dst f.fin

/-- R214, R344, R345: what the issue raises. -/
def EForm.trap (f : EForm) (s : State) : Option Trap := issueTrap s f.op.eng f.uses f.ks f.lim

/-- R164, R346, R352: the syllable acts, its issue raises nothing, and nothing holds it. -/
def EForm.runs (f : EForm) (s : State) : Prop :=
  acts s = true ∧ f.trap s = none ∧ issueMissed s (f.cmd s).2 = none ∧ issueSwitch s (f.cmd s).2 = false

/-- R344: the state in which the command holds an entry of its engine's queue. -/
def EForm.next (f : EForm) (s : State) : State := enqueueCmd (f.cmd s).1 (f.cmd s).2

/-- An instruction whose uses all take checks 1 to 8 and whose capture adds nothing (R28). -/
def plainForm (op : CmdOp) (uses : (Fin 4 → Shape) → List Use) (ga : Word) (aux : Nat) (dst : Fin 32)
    (lim : State → (Fin 4 → Shape) → Option Trap) : EForm := ⟨op, uses, allChecks, ga, 0, aux, dst, lim, plainCapture⟩

/-- R212, R213, R216: an element-wise V instruction: its sources, its formats, its modifier and its scalar. -/
def elemForm (s : State) (op : EOp) (reads : List (Fin 4)) (fmts : List Nat) (k : Field) (aux : Nat)
    (ga : Option (Fin 32)) : EForm :=
  ⟨.elem op ga.isSome, sameFmt fmts reads, allChecks, rdG s (ga.getD 0), 0, aux, 0,
    vLimits ga.toList fun s sh => if fieldBad k (sh 0).f aux then some (limitTrap s 15) else none,
    fun s c => (s, { c with mode := fieldMode s k (c.sh 0).f aux })⟩

/-- R227, R228: a reduction or a scan. -/
def reduceForm (op : CmdOp) (k : Field) (aux : Nat) : EForm :=
  ⟨op, sameFmt (grpI ++ grpF) [1], allChecks, 0, 0, aux, 0, vLimits [] fun _ _ => none,
    fun s c => (s, { c with mode := fieldMode s k (c.sh 0).f aux })⟩

/-- R221, R222: VCMP. -/
def compareForm (s : State) (r : Fin 8) (ga : Option (Fin 32)) : EForm :=
  plainForm (.elem (.cmp r.val) ga.isSome)
    (fun sh => [⟨0, true, [20]⟩, ⟨1, false, grpI ++ grpF⟩] ++
      if ga.isSome then []
      else [⟨2, false, if (grpI ++ grpF).contains (sh 1).f then [(sh 1).f] else grpI ++ grpF⟩])
    (rdG s (ga.getD 0)) r.val 0
    (vLimits ga.toList fun s sh => if r = 6 ∧ fmtIsInt (sh 1).f then some (limitTrap s 15) else none)

/-- R221: VSEL. -/
def selectForm (s : State) (ga : Option (Fin 32)) : EForm :=
  plainForm (.elem .sel ga.isSome)
    (fun sh => sameFmt grpNoBit (if ga.isSome then [1] else [1, 2]) sh ++ [⟨3, false, [20]⟩])
    (rdG s (ga.getD 0)) 0 0 (vLimits ga.toList fun _ _ => none)

/-- R227, R229: VARGMAX. -/
def argmaxForm (s : State) (ax : Axis) (a : Fin 32) : EForm :=
  plainForm (.argmax ax) (fun _ => [⟨0, true, [9]⟩, ⟨1, false, [11, 6, 7]⟩]) (rdG s a) 0 0 (vLimits [a] fun _ _ => none)

/-- R236, R237, R238: VPUSH, VPOP and VQCNT: the queue checks on the control word; VPUSH and VPOP claim their side. -/
def queueForm (s : State) (op : CmdOp) (uses : List Use) (fmt : (Fin 4 → Shape) → Option Nat) (push : Option Bool)
    (a b : Fin 32) : EForm :=
  ⟨op, fun _ => uses, allChecks, rdG s a, 0, 0, b,
    vLimits [a] fun s sh => queueCheckV s (rdG s a) (fmt sh) push,
    fun s c => ((match push with | some p => claimQ s c.ga.toNat p | none => s), c)⟩

/-- R220, R221: element-wise arithmetic, logic and shifts. -/
def vArithForm (s : State) (i : Instr) : Option EForm :=
  match i with
  | .vadd x => some (elemForm s .add [1, 2] (grpI ++ grpF) .rs x.val none)
  | .vaddS a x => some (elemForm s .add [1] (grpI ++ grpF) .rs x.val (some a))
  | .vsub x => some (elemForm s .sub [1, 2] (grpI ++ grpF) .rs x.val none)
  | .vsubS a x => some (elemForm s .sub [1] (grpI ++ grpF) .rs x.val (some a))
  | .vmul x => some (elemForm s .mul [1, 2] (grpI ++ grpF) .rs x.val none)
  | .vmulS a x => some (elemForm s .mul [1] (grpI ++ grpF) .rs x.val (some a))
  | .vmulh => some (elemForm s .mulh [1, 2] grpI .zero 0 none)
  | .vmulhS a => some (elemForm s .mulh [1] grpI .zero 0 (some a))
  | .vfma x => some (elemForm s .fma [1, 2, 3] (grpI ++ grpF) .rs x.val none)
  | .vfmaS a x => some (elemForm s .fma [1, 3] (grpI ++ grpF) .rs x.val (some a))
  | .vfms x => some (elemForm s .fms [1, 2, 3] (grpI ++ grpF) .rs x.val none)
  | .vfmsS a x => some (elemForm s .fms [1, 3] (grpI ++ grpF) .rs x.val (some a))
  | .vmin => some (elemForm s .min [1, 2] (grpI ++ grpF) .zero 0 none)
  | .vminS a => some (elemForm s .min [1] (grpI ++ grpF) .zero 0 (some a))
  | .vmax => some (elemForm s .max [1, 2] (grpI ++ grpF) .zero 0 none)
  | .vmaxS a => some (elemForm s .max [1] (grpI ++ grpF) .zero 0 (some a))
  | .vabs x => some (elemForm s .abs [1] (grpI ++ grpF ++ grpE) .s x.val none)
  | .vneg x => some (elemForm s .neg [1] (grpI ++ grpF ++ grpE) .s x.val none)
  | .vdiv x => some (elemForm s .div [1, 2] [10, 11] .r x.val none)
  | .vdivS a x => some (elemForm s .div [1] [10, 11] .r x.val (some a))
  | .vsqrt x => some (elemForm s .sqrt [1] [10, 11] .r x.val none)
  | .vmov => some (elemForm s .mov [1] grpNoBit .zero 0 none)
  | .vfill a => some (elemForm s .fill [] grpNoBit .zero 0 (some a))
  | .vand => some (elemForm s .and [1, 2] fmtsAll .zero 0 none)
  | .vandS a => some (elemForm s .and [1] fmtsAll .zero 0 (some a))
  | .vor => some (elemForm s .or [1, 2] fmtsAll .zero 0 none)
  | .vorS a => some (elemForm s .or [1] fmtsAll .zero 0 (some a))
  | .vxor => some (elemForm s .xor [1, 2] fmtsAll .zero 0 none)
  | .vxorS a => some (elemForm s .xor [1] fmtsAll .zero 0 (some a))
  | .vandn => some (elemForm s .andn [1, 2] fmtsAll .zero 0 none)
  | .vandnS a => some (elemForm s .andn [1] fmtsAll .zero 0 (some a))
  | .vnot => some (elemForm s .not [1] fmtsAll .zero 0 none)
  | .vshl => some (elemForm s .shl [1, 2] grpI .zero 0 none)
  | .vshlS a => some (elemForm s .shl [1] grpI .zero 0 (some a))
  | .vshr => some (elemForm s .shr [1, 2] grpI .zero 0 none)
  | .vshrS a => some (elemForm s .shr [1] grpI .zero 0 (some a))
  | .vsar => some (elemForm s .sar [1, 2] grpI .zero 0 none)
  | .vsarS a => some (elemForm s .sar [1] grpI .zero 0 (some a))
  | _ => none

/-- R221 to R225: compares, selection, element bit operations and conversions. -/
def vBitForm (s : State) (i : Instr) : Option EForm :=
  match i with
  | .vcmp r => some (compareForm s r none)
  | .vcmpS a r => some (compareForm s r (some a))
  | .vsel => some (selectForm s none)
  | .vselS a => some (selectForm s (some a))
  | .vpopc =>
    some (plainForm (if (captured (doSwap s 0) 0 1).f = 20 then .popcBit else .elem .popc false)
      (fun sh => if (sh 1).f == 20 then [⟨0, true, [5, 7]⟩, ⟨1, false, [20]⟩] else sameFmt grpI8 [1] sh) 0 0 0
      (vLimits [] fun _ _ => none))
  | .vclz => some (elemForm s .clz [1] grpI8 .zero 0 none)
  | .vbrev => some (elemForm s .brev [1] grpI8 .zero 0 none)
  | .vfns => some (elemForm s .fns [1, 2] grpW .zero 0 none)
  | .vfnsS a => some (elemForm s .fns [1] grpW .zero 0 (some a))
  | .vbfx => some (elemForm s .bfx [1, 2] grpW .zero 0 none)
  | .vbfxS a => some (elemForm s .bfx [1] grpW .zero 0 (some a))
  | .vbfi => some (elemForm s .bfi [1, 2, 3] grpW .zero 0 none)
  | .vbfiS a => some (elemForm s .bfi [1, 3] grpW .zero 0 (some a))
  | .vfshL => some (elemForm s .fshl [1, 2, 3] grpW .zero 0 none)
  | .vfshLS a => some (elemForm s .fshl [1, 3] grpW .zero 0 (some a))
  | .vfshR => some (elemForm s .fshr [1, 2, 3] grpW .zero 0 none)
  | .vfshRS a => some (elemForm s .fshr [1, 3] grpW .zero 0 (some a))
  | .vcvt x => some ⟨.elem .cvt false,
      fun sh => [⟨0, true, grpNoBit⟩, ⟨1, false, grpNoBit.filter fun f => f != (sh 0).f⟩], allChecks, 0, 0, x.val, 0,
      vLimits [] fun _ _ => none, fun s c => (s, { c with mode := resolveMode s x.val })⟩
  | .vexp2 => some (elemForm s .exp2 [1] [11] .zero 0 none)
  | .vlog2 => some (elemForm s .log2 [1] [11] .zero 0 none)
  | .vrcp => some (elemForm s .rcp [1] [11] .zero 0 none)
  | .vrsqrt => some (elemForm s .rsqrt [1] [11] .zero 0 none)
  | _ => none

/-- R226 to R240: splits, reductions, scans, gathers, transposes, queues and chains. -/
def vWholeForm (s : State) (i : Instr) : Option EForm :=
  match i with
  | .vsplit a => some (plainForm .split (fun _ => [⟨0, true, [0]⟩, ⟨1, false, [10]⟩]) (rdG s a) 0 0 (vLimits [a] (splitLimits a)))
  | .vredsumAll x => some (reduceForm (.redSum .all) .r x.val)
  | .vredsumRow x => some (reduceForm (.redSum .row) .r x.val)
  | .vredsumCol x => some (reduceForm (.redSum .col) .r x.val)
  | .vredmaxAll => some (reduceForm (.redMax .all) .zero 0)
  | .vredmaxRow => some (reduceForm (.redMax .row) .zero 0)
  | .vredmaxCol => some (reduceForm (.redMax .col) .zero 0)
  | .vredminAll => some (reduceForm (.redMin .all) .zero 0)
  | .vredminRow => some (reduceForm (.redMin .row) .zero 0)
  | .vredminCol => some (reduceForm (.redMin .col) .zero 0)
  | .vargmaxAll a => some (argmaxForm s .all a)
  | .vargmaxRow a => some (argmaxForm s .row a)
  | .vargmaxCol a => some (argmaxForm s .col a)
  | .vscan x => some (reduceForm .scan .r x.val)
  | .vgath => some (plainForm .gath indexUses 0 0 0 (vLimits [] fun _ _ => none))
  | .vscat => some (plainForm .scat indexUses 0 0 0 (vLimits [] fun _ _ => none))
  | .vtran => some (elemForm s .tran [1] grpNoBit .zero 0 none)
  | .vpush a => some (queueForm s .push [⟨1, false, wideFmts⟩, ⟨2, false, [20]⟩] (fun sh => some (sh 1).f) (some true) a 0)
  | .vpop a b => some (queueForm s .pop [⟨0, true, grpNoBit⟩] (fun sh => some (sh 0).f) (some false) a b)
  | .vqcnt a b => some (queueForm s .qcnt [] (fun _ => none) none a b)
  | .vchain a j =>
    let ws := chainWords s.ctx.r j.val
    some ⟨.chain [], sameFmt fmtsAll (chainReads ws), allChecks, rdG s a, 0, j.val, 0,
      vLimits [a] fun s sh => (chainFault s (sh 0).f ws).map fun i => limitTrap s 15 (some (BitVec.ofNat 64 i)),
      fun s c => (s, { c with op := .chain ((chainLead ws).filterMap (chainWord s (c.sh 0).f)) })⟩
  | _ => none

/-- R220 to R240: the V instructions. -/
def vForm (s : State) (i : Instr) : Option EForm := (vArithForm s i).or ((vBitForm s i).or (vWholeForm s i))

/-- R246, R247: a product. -/
def productForm (s : State) (scaled z : Bool) : EForm :=
  ⟨if scaled then .mmas z else .mma z, mmaUses s scaled, fun u => xChecks [1, 4] u, 0, 0, 0, 0,
    xLimits (fun sh => (sh 1).lr) (fun sh => (sh 2).lc) true (if scaled then scaleLimits else mmaLimits) true [],
    fun s c => (s, { c with st := if scaled then s.ctx.r.st.toList else [] })⟩

/-- R258, R259: a move of a whole accumulator. -/
def imageForm (s : State) (op : CmdOp) (a : Fin 32) : EForm :=
  ⟨op, fun sh => [⟨0, true, accFmts s sh (List.range 32)⟩], fun u => xChecks [1] u, rdG s a, 0, 0, 0,
    xLimits (fun _ => 0) (fun _ => 0) false (imageLimits a) false [a], plainCapture⟩

/-- R241 to R260: the X instructions. -/
def xForm (s : State) (i : Instr) : Option EForm :=
  match i with
  | .mma => some (productForm s false false)
  | .mmaZ => some (productForm s false true)
  | .mmas => some (productForm s true false)
  | .mmasZ => some (productForm s true true)
  | .accn a x => some ⟨.accn,
      fun sh => [⟨0, true, accFmts s sh [18, 19]⟩, ⟨1, true, accnFmts (sh 0).f⟩], fun u => xChecks [1, 4] u, rdG s a, 0,
      x.val, 0, xLimits (fun sh => (sh 1).lr) (fun sh => (sh 1).lc) true (accnLimits a) false [a],
      fun s c => (s, { c with mode := resolveMode s x.val, reqs := a.val })⟩
  | .accx a b => some ⟨.accx,
      fun sh => [⟨0, true, accFmts s sh [19]⟩, ⟨1, true, [10]⟩, ⟨2, false, [10]⟩], fun u => xChecks [1, 4] u, rdG s a,
      rdG s b, 0, 0, xLimits (fun sh => (sh 1).lr) (fun sh => (sh 1).lc) true (accxLimits a b) false [a, b], plainCapture⟩
  | .accz => some ⟨.accz, fun sh => [⟨0, true, accFmts s sh [18, 19]⟩], fun u => xChecks [1, 2, 3, 4] u, 0, 0, 0, 0,
      xLimits (fun sh => (sh 0).rows.toNat) (fun sh => (sh 0).cols.toNat) true (fun _ _ => none) false [], plainCapture⟩
  | .accst a => if s.ctx.status = .handler then none else some (imageForm s .accst a)
  | .accld a => if s.ctx.status = .handler then none else some (imageForm s .accld a)
  | _ => none

/-- R263: the checks that a tile of a C command takes: all but the fifth. -/
def tileChecks (_ : Use) : List Nat := [1, 2, 3, 4, 6, 7, 8]

/-- R269 to R271: a copy between cd0 and global rows, or another scratchpad. -/
def copyForm (s : State) (put x : Bool) (a : Fin 32) (k : Fin 8) : EForm :=
  let i := if put then Intent.write else Intent.read
  ⟨if put then .cps x else .cpg x, copyUses (!put) x, copyChecks [1, 2, 3, 4, 6, 7, 8], rdG s a, 0, k.val, 0,
    cLimits [a] (fun s sh => ((rowLimit s sh 0).or (pitchLimit s sh 2)).or (addrLimit s a (put && !x) 32))
      (fun s sh => (if x then none else homesCheck s (copyHomes s sh (rdG s a) x i)).or
        (if put then none else arrivalCheck s 0 (rowRanges (sh 0)))),
    fun s c => promise s c (latencyTo s ((copyHomes s c.sh c.ga x i).getD []))⟩

/-- R275: WFILL, WBACK and WUNMAP: the record keeps the region of the binding. -/
def windowForm (s : State) (op : CmdOp) (g k : Fin 8) : EForm :=
  let i := if op = .wfill then Intent.read else Intent.write
  let w := boundWin s.ctx k.val
  let rs := (w.map fun w => (w.va, w.len)).toList
  let v := w.getD ⟨0, 0, 0, 0, 0⟩
  ⟨op, fun _ => [], fun _ => [], 0, 0, k.val, 0,
    cLimits [] (fun s _ => if w.isNone then some (limitTrap s 15 (some (BitVec.ofNat 64 k.val))) else none)
      (fun s _ => (homesCheck s (homesOf s i rs)).or
        (if op = .wfill then arrivalCheck s 0 (winRange s.ctx k.val) else none)),
    fun s c => promise s { c with mode := g.val, buf := [[v.base, v.va]], reqs := v.len / 64 }
      (latencyTo s ((homesOf s i rs).getD []))⟩

/-- R278: an ATOM. -/
def atomForm (s : State) (op : Fin 8) (nr : Bool) (a : Fin 32) (k : Fin 8) : EForm :=
  ⟨.atom op nr, fun _ => [⟨0, !nr, wideFmts⟩] ++ if op = 7 then [⟨2, false, wideFmts⟩] else [], tileChecks, rdG s a, 0,
    k.val, 0,
    cLimits [a] (atomLimits op a)
      (fun s sh => (homesCheck s (homesOf s .atomic [(cAddr (rdG s a), (sh 0).rowLen)])).or
        (if nr then none else arrivalCheck s 0 (rowRanges (sh 0)))),
    fun s c => promise s c (latencyTo s ((homesOf s .atomic [(cAddr c.ga, (c.sh 0).rowLen)]).getD []))⟩

/-- R280, R281: a COLL; it counts the COLLs of its level. -/
def collForm (s : State) (op : Fin 4) (a : Fin 32) (k : Fin 8) : EForm :=
  let l := (rdG s a).toNat % 8
  ⟨.coll op, fun sh => [⟨0, false, collFmts op⟩, ⟨2, true, (collFmts op).filter (· == (sh 0).f)⟩], tileChecks, rdG s a, 0,
    k.val, 0,
    cLimits [a] (collLimits op a) (fun s sh => (collLevel a s).or (arrivalCheck s 2 (rowRanges (sh 2)))),
    fun s c =>
      let m := ((s.ctx.colls.find? fun x => x.1 == l).map (·.2)).getD 0
      promise (s.up fun x => { x with colls := (l, m + 1) :: x.colls.filter fun y => y.1 != l }) { c with reqs := m }
        (latencyColl s l)⟩

/-- R276, R284: a C command without a tile. -/
def bareForm (s : State) (op : CmdOp) (aux : Nat) (regs : List (Fin 32)) (a : Fin 32) (gb : Word) (b : Fin 32)
    (lim late : State → Option Trap) : EForm :=
  ⟨op, fun _ => [], fun _ => [], rdG s a, gb, aux, b, cLimits regs (fun s _ => lim s) (fun s _ => late s), unpromised⟩

/-- R261 to R287: the C instructions. -/
def cForm (s : State) (i : Instr) : Option EForm :=
  match i with
  | .cpg a k => some (copyForm s false false a k)
  | .cpgX a k => some (copyForm s false true a k)
  | .cps a k => some (copyForm s true false a k)
  | .cpsX a k => some (copyForm s true true a k)
  | .cpy a b k => some ⟨.cpy, fun _ => [⟨2, false, fmtsAll⟩, globalUse 3], copyChecks [1, 2, 3], rdG s a, rdG s b, k.val, 0,
      cLimits [a, b]
        (fun s sh => ((((rowLimit s sh 2).or (pitchLimit s sh 2)).or (pitchLimit s sh 3)).or (addrLimit s a true 32)).or
          (addrLimit s b false 32))
        (fun s sh => homesCheck s (cpyHomes s sh (rdG s a) (rdG s b))),
      fun s c => promise s c (latencyTo s ((cpyHomes s c.sh c.ga c.gb).getD []))⟩
  | .wmap a k => some ⟨.wmap, fun _ => [⟨0, true, wideFmts⟩], tileChecks, rdG s a, 0, k.val, 0,
      cLimits [a] (wmapLimits a k) (wmapLate a), unpromised⟩
  | .wfill g k => some (windowForm s .wfill g k)
  | .wback g k => some (windowForm s .wback g k)
  | .wunmap g k => some (windowForm s .wunmap g k)
  | .probeR a b => some (bareForm s (.probe false) 0 [a] a 0 b
      (probeLimit a) probePlace)
  | .probeW a b => some (bareForm s (.probe true) 1 [a] a 0 b
      (probeLimit a) probePlace)
  | .atomAdd a k => some (atomForm s 0 false a k)
  | .atomMin a k => some (atomForm s 1 false a k)
  | .atomMax a k => some (atomForm s 2 false a k)
  | .atomAnd a k => some (atomForm s 3 false a k)
  | .atomOr a k => some (atomForm s 4 false a k)
  | .atomXor a k => some (atomForm s 5 false a k)
  | .atomXchg a k => some (atomForm s 6 false a k)
  | .atomCas a k => some (atomForm s 7 false a k)
  | .atomAddNr a k => some (atomForm s 0 true a k)
  | .atomMinNr a k => some (atomForm s 1 true a k)
  | .atomMaxNr a k => some (atomForm s 2 true a k)
  | .atomAndNr a k => some (atomForm s 3 true a k)
  | .atomOrNr a k => some (atomForm s 4 true a k)
  | .atomXorNr a k => some (atomForm s 5 true a k)
  | .atomXchgNr a k => some (atomForm s 6 true a k)
  | .atomCasNr a k => some (atomForm s 7 true a k)
  | .mcast k => some ⟨.mcast, fun _ => [⟨0, false, fmtsAll⟩, ⟨1, false, [9]⟩, globalUse 2], copyChecks [1, 2, 3, 4, 6, 7, 8],
      0, 0, k.val, 0,
      cLimits [] mcastLimits fun _ _ => none, fun s c => promise s c (latencyTo s (mcastHomes s c.sh))⟩
  | .collSum a k => some (collForm s 0 a k)
  | .collMax a k => some (collForm s 1 a k)
  | .collArgmax a k => some (collForm s 2 a k)
  | .collBcast a k => some (collForm s 3 a k)
  | .qlnch a b => some ⟨.qlnch, fun _ => [], fun _ => [], rdG s a, 0, 0, b,
      cLimits [a] (fun s _ => if (rdG s a).toNat % 64 ≠ 0 then scalarLimit s a else none)
        (fun s _ => if s.ctx.inGrant (rdG s a).toNat 512 then none else some (fatalTrap s none none)),
      fun s c => unpromised s { c with reqs := 8 }⟩
  | .wprop => some ⟨.wprop, fun _ => [⟨0, false, [1]⟩], tileChecks, 0, 0, 0, 0,
      cLimits [] (fun s sh => (rowLimit s sh 0).or
        (if (sh 0).cols ≠ 576 ∨ (sh 0).rows.toNat > 16 ∨ (sh 0).t then some (limitTrap s 0) else none)) fun _ _ => none,
      unpromised⟩
  | .wdepth a b => some (bareForm s .wdepth 0 [a] a 0 b (slotLimit a) fun _ => none)
  | .wrbk a b => some (bareForm s .wrbk 0 [a] a (BitVec.ofNat 64 (rollbackWord s (rdG s a).toNat)) b (slotLimit a) fun _ => none)
  | .wtake a b => some ⟨.wtake, fun _ => [⟨0, true, [1]⟩], fun _ => [1, 2, 3, 6, 7, 8], rdG s a, 0, 0, b,
      cLimits [a] (fun s sh => ((rowLimit s sh 0).or (wtakeLimit s sh)).or (slotLimit a s)) fun _ _ => none,
      fun s c => unpromised (updSlot s c.ga.toNat fun x => { x with taker := some s.ctx.src }) c⟩
  | .wjudge a b => some ⟨.wjudge, fun _ => [⟨0, false, [11]⟩], tileChecks, rdG s a, 0, 0, b,
      cLimits [a] (fun s sh => ((rowLimit s sh 0).or (if (sh 0).t then some (limitTrap s 0) else none)).or (slotLimit a s))
        fun _ _ => none, unpromised⟩
  | .wfinal a b => some (bareForm s .wfinal 0 [a, b] a (rdG s b) 0 (slotLimit a) fun _ => none)
  | .wstat a b => some (bareForm s .wstat 0 [a] a 0 b (slotLimit a) fun _ => none)
  | _ => none

/-- An engine instruction of any class. -/
def engineForm (s : State) (i : Instr) : Option EForm := (vForm s i).or ((xForm s i).or (cForm s i))

/-- R97, R236: the V instructions whose issue writes a queue control word: the claim of its side. -/
def claims (i : Instr) : Bool := match i with | .vpush _ | .vpop .. => true | _ => false

/-! ## Steps -/

/-- The step that a row of the opcode table names when it is no syllable. -/
def instrEvent (i : Instr) : Option Event :=
  match i with
  | .iterationBoundary => some .iterationBoundary
  | .resultLatchCommit => some .resultLatchCommit
  | .commandStart e => some (.commandStart e)
  | .unitWriteCommit e => some (.unitWriteCommit e)
  | .takingATrap => some .takingATrap
  | .ringResume => some .ringResume
  | .trailForcedIssue core => some (.trailForcedIssue core)
  | .waittExpiry => some .waittExpiry
  | .copyCompletion cid cmd => some (.copyCompletion cid cmd)
  | .promiseMissed cid => some (.promiseMissed cid)
  | .keepWaitingNotice cid cmd => some (.keepWaitingNotice cid cmd)
  | .fillArrival pc => some (.fillArrival pc)
  | .atomAtHome pc => some (.atomAtHome pc)
  | .publicationCompletion src => some (.publicationCompletion src)
  | .deliveryLanding pc => some (.deliveryLanding pc)
  | .barRelease cid => some (.barRelease cid)
  | .collCombine cid => some (.collCombine cid)
  | .vpushStallRelease cid => some (.vpushStallRelease cid)
  | .qlnchQueueRoom cid => some (.qlnchQueueRoom cid)
  | .missedOperandRelease cid => some (.missedOperandRelease cid)
  | .taskRetirement cid => some (.taskRetirement cid)
  | .launchCompletion lid => some (.launchCompletion lid)
  | .gangAdmission => some .gangAdmission
  | .queueAgeing q => some (.queueAgeing q)
  | .routerTableSwitch => some .routerTableSwitch
  | .proposalRecordIntake cid rec => some (.proposalRecordIntake cid rec)
  | .wtakeRelease cid => some (.wtakeRelease cid)
  | .wdepthRelease cid => some (.wdepthRelease cid)
  | .wfinalPerformed cid => some (.wfinalPerformed cid)
  | .logitFault cid => some (.logitFault cid)
  | .timerExpiry cid => some (.timerExpiry cid)
  | .sliceExpiry cid => some (.sliceExpiry cid)
  | .preemptLate cid => some (.preemptLate cid)
  | .pwraGrant upper => some (.pwraGrant upper)
  | .staticChargeTick unit => some (.staticChargeTick unit)
  | .thermalSample temps => some (.thermalSample temps)
  | .opSwitchQuiesce unit => some (.opSwitchQuiesce unit)
  | .opSwitchSettled unit => some (.opSwitchSettled unit)
  | .hangWatchdogExpiry cid => some (.hangWatchdogExpiry cid)
  | .waitWatchdogExpiry cid => some (.waitWatchdogExpiry cid)
  | .selfTestEnd test pass => some (.selfTestEnd test pass)
  | .svcSetEnergy cid => some (.svcSetEnergy cid)
  | .svcClearEnergyFlag cid => some (.svcClearEnergyFlag cid)
  | .partitionSwapOut units => some (.partitionSwapOut units)
  | .partitionSwapIn units => some (.partitionSwapIn units)
  | .ctxcmdResume cid => some (.ctxcmdResume cid)
  | .ctxcmdEndTask cid => some (.ctxcmdEndTask cid)
  | .ctxcmdPark cid => some (.ctxcmdPark cid)
  | .fdatRead v => some (.fdatRead v)
  | .fdatWrite val => some (.fdatWrite val)
  | .tmrWrite val => some (.tmrWrite val)
  | .lcntWrite l val => some (.lcntWrite l val)
  | .islctlWrite isl val => some (.islctlWrite isl val)
  | .registerWrite r val => some (.registerWrite r val)
  | .vctDatagramDiscard dg => some (.vctDatagramDiscard dg)
  | .openSession body => some (.openSession body)
  | .closeSession sid => some (.closeSession sid)
  | .ack sid sq => some (.ack sid sq)
  | .retransmit sid sq => some (.retransmit sid sq)
  | .launch sid sq q hdr => some (.launch sid sq q hdr)
  | .hostcopyIn sid sq va dat => some (.hostcopyIn sid sq va dat)
  | .hostcopyOut sid sq va n => some (.hostcopyOut sid sq va n)
  | .signalTask sid sq tag wid val => some (.signalTask sid sq tag wid val)
  | .signalOpenSlot sid sq slot rec => some (.signalOpenSlot sid sq slot rec)
  | .signalCancel sid sq slot req => some (.signalCancel sid sq slot req)
  | .signalRelease sid sq slot req => some (.signalRelease sid sq slot req)
  | .waitval sid sq va msk val rel tmo => some (.waitval sid sq va msk val rel tmo)
  | .waitvalPoll sid sq => some (.waitvalPoll sid sq)
  | .queryManagement sid sq idx off cnt => some (.queryManagement sid sq idx off cnt)
  | .querySlotRecord sid sq idx off cnt => some (.querySlotRecord sid sq idx off cnt)
  | .queryTrapFrame sid sq idx off cnt => some (.queryTrapFrame sid sq idx off cnt)
  | .queryQueueState sid sq idx off cnt => some (.queryQueueState sid sq idx off cnt)
  | .querySlotTables sid sq idx off cnt => some (.querySlotTables sid sq idx off cnt)
  | .queryErrorLog sid sq idx off cnt => some (.queryErrorLog sid sq idx off cnt)
  | .queryAttestation sid sq idx off cnt => some (.queryAttestation sid sq idx off cnt)
  | .pageansMapped sid sq rseq => some (.pageansMapped sid sq rseq)
  | .pageansFailure sid sq rseq => some (.pageansFailure sid sq rseq)
  | .pageEntryWrite sid sq num va val => some (.pageEntryWrite sid sq num va val)
  | .segmentEntryWrite sid sq num va w0 w1 => some (.segmentEntryWrite sid sq num va w0 w1)
  | .pageMigrate sid sq num va val => some (.pageMigrate sid sq num va val)
  | .mapCacheInvalidate sid sq num va => some (.mapCacheInvalidate sid sq num va)
  | .freeFrameAppend sid sq num val => some (.freeFrameAppend sid sq num val)
  | .segmentWordsWrite sid sq num va w2 w3 => some (.segmentWordsWrite sid sq num va w2 w3)
  | .migrateTrigger cid va => some (.migrateTrigger cid va)
  | .migrationCopy va => some (.migrationCopy va)
  | .pieceAtHome pc => some (.pieceAtHome pc)
  | .farPieceRefusal pc => some (.farPieceRefusal pc)
  | .boot puf helper fw cfg failed => some (.boot puf helper fw cfg failed)
  | .targetRefusal pc => some (.targetRefusal pc)
  | .linkError ukind unit idx => some (.linkError ukind unit idx)
  | .thresholdTableWrite t es => some (.thresholdTableWrite t es)
  | _ => none

/-- R335: the context whose turn it is: the lead of a Sole core that takes part in the real cycle, with no blocked trail
due. -/
def leads (s : State) (cid : Nat) : Prop :=
  cid ≠ 1536 ∧ ∃ c, findCtx s cid = some c ∧ mayTurn s c = true ∧ c.role = .lead ∧ trailDue (focus s cid) = false ∧
    (focus s cid).ctx.frozen = false

/-- R344, R367: the context at its boundary, the entries of the commands that have ended freed. -/
def atBoundary (s : State) : State :=
  let s := s.up fun c => { c with lanes := 0, iss := { c.iss with trapped := false } }
  if s.ctx.status = .handler then s else freeEntries s s.ctx.now

/-- R205, R336, R456: the context once everything due at the boundary is made and its waits are looked at. -/
def afterWrites (s : State) : State :=
  let s := boundaryWrites (atBoundary s)
  nextOr s (execWaittExpiry s)

/-- R346, R352, R367: no event is taken at the boundary, no commit raises, no wait remains and nothing holds the bundle. -/
def reachesIssue (s : State) : Prop :=
  s.ctx.owed = false ∧ chosen (atBoundary s) (atBoundary s).ctx.now = none ∧
    (boundaryWrites (atBoundary s)).ctx.iss.trapped = false ∧ (afterWrites s).ctx.wait = .none ∧
    ((afterWrites s).ctx.status = .handler ∨ holdKind (afterWrites s) (afterWrites s).ctx.now = none)

/-- R120, R202, R139, R345: the context at which its bundle is fetched. -/
def atIssue (s : State) : State :=
  let s := afterWrites s
  starts (passPads (nextOr s (execIterationBoundary (entry s))))

/-- R160: the attributes of a syllable that stands alone in its bundle. -/
def aloneIssue (pc : Word) (w : Nat) (y : Syl) : Issue := (Placed.mk 1 0 w y).issue pc

/-- R312, R365, R373: a trap whose first destination is TVEC: outside a handler, no trap of a logit task but an interrupt,
with a TVEC, and no cause of the Cobbler. -/
def goesToHandler (s : State) (x : Trap) : Prop :=
  s.ctx.status ≠ .handler ∧ (logitSlot s.ctx = none ∨ x.cause = 0x30 ∨ x.cause = 0x31 ∨ x.cause = 0x33) ∧
    tvecDue s.ctx.r.tvec s.ctx.dws s.ctx.tclk ≠ 0 ∧ toCobbler x.cause (x.cause == 0x10 && x.i1 == 1) = false

/-- R196, R369: the eight dwords of a loop level in a frame, and its held LSTART and LEND. -/
def levelRecord (f : Nat → Word) (l : Nat) (x : Loop) : Prop :=
  f (96 + 8 * l) = x.cnt.setWidth 64 ∧ f (97 + 8 * l) = x.idx.setWidth 64 ∧ f (98 + 8 * l) = x.start ∧ f (99 + 8 * l) = x.stop ∧
    (∀ k : Fin 4, f (100 + 8 * l + k.val) = (x.strd[k]).toWord) ∧ f (144 + 2 * l) = x.hs.getD 0 ∧ f (145 + 2 * l) = x.he.getD 0

/-- R26, R369: a shape register in two dwords of a frame. -/
def shapeRecord (f : Nat → Word) (i : Nat) (h : Shape) : Prop := (f i).toNat + 2 ^ 64 * (f (i + 1)).toNat = h.toNat

/-- R371: latch record i of a frame of an event at T: V, RD, DEST, flags, the code, REM, and the value. -/
def latchRecord (f : Nat → Word) (t i : Nat) (l : Latch) : Prop :=
  let rd := l.ld.isSome
  let code := if rd = true then 0 else (wordCode l.val ^^^ l.syn).toNat
  (l.due - t < 2 ^ 20 → (f (256 + 2 * i)).toNat = 2 ^ 63 * b2n l.valid + 2 ^ 62 * b2n rd + 2 ^ 48 * l.dest.code +
      2 ^ 42 * l.flags.toNat + 2 ^ 20 * code + (l.due - t)) ∧
    f (257 + 2 * i) = if rd = true then 0 else l.val

/-- R372: a command record of a frame: shapes, scalar operands, the command word with its state, issue, start and rp; with no
write of its units pending its PEND is 0. -/
def commandRecord (f : Nat → Word) (b : Nat) (us : List UWrite) (k : Cmd) : Prop :=
  let st := match k.state with | .queued => if k.began.isSome = true then 2 else 1 | .running => 2 | .trapped => 3 | .done => 0
  (∀ n : Fin 4, shapeRecord f (b + 2 * n.val) (k.sh n)) ∧ f (b + 8) = k.ga ∧ f (b + 9) = k.gb ∧
    f (b + 10) = k.cmdw + BitVec.ofNat 64 (st * 2 ^ 10) ∧ f (b + 11) = BitVec.ofNat 64 k.issue ∧
    f (b + 12) = BitVec.ofNat 64 (k.began.getD k.nominal) ∧ f (b + 13) = BitVec.ofNat 64 k.rp ∧
    ((∀ u ∈ us, u.cmd ≠ k.id) → f (b + 14) = 0) ∧ f (b + 15) = 0

/-- R369, R371, R372: the records of a frame: what a list holds, and zeros beyond it. -/
def frameRecords (f : Nat → Word) (c : Ctx) : Prop :=
  (∀ i, i < 32 → match c.latches[i]? with
    | some l => latchRecord f c.tclk i l
    | none => f (256 + 2 * i) = 0 ∧ f (257 + 2 * i) = 0) ∧
  ∀ e : Fin 3, (∀ k ∈ c.queue e, k.freed = false) → ∀ i, i < 4 → match (c.queue e)[i]? with
    | some k => commandRecord f (320 + 64 * e.val + 16 * i) c.uws k
    | none => ∀ j, j < 16 → f (320 + 64 * e.val + 16 * i + j) = 0

/-- R368, R369, R373: the entry to the handler from a state, with the flags that the trap leaves. -/
def entersHandler (s : State) (x : Trap) (fl : BitVec 6) (t : State) : Prop :=
  let c := s.ctx
  let f := fun i => frameDword t i
  t.ctx.pc = tvecDue c.r.tvec c.dws c.tclk ∧ t.ctx.status = .handler ∧ t.ctx.sv = true ∧ t.ctx.hclk = 0 ∧
    t.ctx.tclk = c.tclk ∧ t.ctx.grant = [false, false, false] ∧ t.ctx.latches = [] ∧ t.ctx.dws = [] ∧ t.ctx.wait = .none ∧
    t.ctx.pend = .none ∧ t.ctx.dly = 0 ∧ t.ctx.swt = none ∧ t.ctx.fin = none ∧
    t.ctx.r = { c.r with flg := c.r.flg ||| fl } ∧ t.ctx.tcause = x.cause ∧ t.ctx.tinfo = #v[x.i0, x.i1, x.i2, x.i3] ∧
    t.ctx.vq = c.vq ∧ t.ctx.xq = c.xq ∧ t.ctx.cq = c.cq ∧ t.ctx.uws = c.uws ∧
    (∃ v, t.ctx.saved = some v ∧ v.latches = c.latches ∧ v.dws = c.dws ∧ v.redo = c.redo ∧ v.order = c.r.order ∧
      v.wait = c.wait ∧ v.grant = c.grant ∧ v.pc = c.pc ∧ v.fin = c.fin ∧ v.after = c.after ∧ v.t = c.tclk ∧ v.cause = x) ∧
    f 1 = BitVec.ofNat 64 x.cause ∧ f 2 = x.i0 ∧ f 3 = x.i1 ∧ f 4 = x.i2 ∧ f 5 = x.i3 ∧ f 6 = resumePc c ∧
    (∀ b, c.pend = .branch b → f 7 = b) ∧ f 8 = BitVec.ofNat 64 c.tclk ∧ f 11 = (c.r.flg ||| fl).setWidth 64 ∧ f 12 = c.r.fen.setWidth 64 ∧
    f 13 = c.r.rmode.setWidth 64 ∧ (f 14).toNat = c.r.ftlevel.toNat * 16 + c.r.ftbase.toNat ∧
    f 15 = c.r.grace.setWidth 64 ∧ f 16 = energyWord c ∧
    (∀ n : Fin 8, (f 17).getLsbD n.val = (n != 0 && c.r.p[n])) ∧ (f 17).toNat < 2 ^ 8 ∧
    (∀ n : Fin 32, f (32 + n.val) = c.r.g[n]) ∧ (∀ n : Fin 8, f (72 + n.val) = (c.r.pm[n]).setWidth 64) ∧
    (∀ n : Fin 4, f (80 + n.val) = c.r.q[n]) ∧ (∀ l : Fin 6, levelRecord f l.val c.r.loops[l]) ∧
    (∀ n : Fin 12, shapeRecord f (160 + 2 * n.val) c.r.sh[n] ∧ shapeRecord f (184 + 2 * n.val) c.r.sd[n]) ∧
    frameRecords f c ∧
    ∀ k, (k < heelKey (frameAddr c) ∨ heelKey (frameAddr c) + 4096 ≤ k) → memGet t.mem k = memGet s.mem k

/-- Of the part, only the context of a number has changed. -/
def onlyCtx (s t : State) (cid : Nat) (f : Ctx → Ctx) : Prop :=
  t = { s with ctx := t.ctx, others := t.others } ∧ findCtx t cid = (findCtx s cid).map f ∧
    ∀ k, k ≠ cid → findCtx t k = findCtx s k

/-- The bytes from a key on are those of a list, and every other byte is as before. -/
def holdsBytes (s t : State) (k : Nat) (bs : List Byte) : Prop :=
  (∀ i, i < bs.length → memGet t.mem (k + i) = bs.getD i 0) ∧
    ∀ a, (a < k ∨ k + bs.length ≤ a) → memGet t.mem a = memGet s.mem a

end Sys2Proof.Machine
end

