-- ==== Sys2Proof/Certificates/Slice0/Obligations.lean ====
section
/-! DEFINITION. The statements for the provers. -/

open Sys2Proof
open Sys2Proof.Machine

/-! ## S: scalar results -/

/-- R178: an integer register operation that acts leaves one latch at +1, whose value the rule's table states. -/
def Obligations.IntegerRegisterResults : Prop :=
  ∀ (s : State) (d a b : Fin 32), acts s = true →
    let x := rdG s a
    let y := rdG s b
    let two := fun i P => givesResult (exec i s) s 1 (.g d) [a, b] P
    let one := fun i P => givesResult (exec i s) s 1 (.g d) [a] P
    (two (.add d a b) fun v => v.toNat = (x.toNat + y.toNat) % 2 ^ 64) ∧
    (two (.sub d a b) fun v => v.toNat = (x.toNat + 2 ^ 64 - y.toNat) % 2 ^ 64) ∧
    (two (.addw d a b) fun v => v.toInt = Int.bmod (x.toNat + y.toNat) (2 ^ 32)) ∧
    (two (.subw d a b) fun v => v.toInt = Int.bmod (x.toNat - y.toNat) (2 ^ 32)) ∧
    (two (.and d a b) fun v => ∀ i, v.getLsbD i = (x.getLsbD i && y.getLsbD i)) ∧
    (two (.or d a b) fun v => ∀ i, v.getLsbD i = (x.getLsbD i || y.getLsbD i)) ∧
    (two (.xor d a b) fun v => ∀ i, v.getLsbD i = (x.getLsbD i != y.getLsbD i)) ∧
    (two (.andn d a b) fun v => ∀ i, v.getLsbD i = (x.getLsbD i && !y.getLsbD i)) ∧
    (two (.orn d a b) fun v => ∀ i, i < 64 → v.getLsbD i = (x.getLsbD i || !y.getLsbD i)) ∧
    (two (.shl d a b) fun v => v.toNat = x.toNat * 2 ^ (y.toNat % 64) % 2 ^ 64) ∧
    (two (.shr d a b) fun v => v.toNat = x.toNat / 2 ^ (y.toNat % 64)) ∧
    (two (.sar d a b) fun v => v.toInt = x.toInt / 2 ^ (y.toNat % 64)) ∧
    (two (.rotl d a b) fun v => ∀ i, i < 64 → v.getLsbD ((i + y.toNat) % 64) = x.getLsbD i) ∧
    (two (.min d a b) fun v => v.toInt = min x.toInt y.toInt) ∧
    (two (.max d a b) fun v => v.toInt = max x.toInt y.toInt) ∧
    (two (.minn d a b) fun v => v.toNat = min x.toNat y.toNat) ∧
    (two (.maxn d a b) fun v => v.toNat = max x.toNat y.toNat) ∧
    (one (.sextB d a) fun v => v.toInt = Int.bmod x.toNat (2 ^ 8)) ∧
    (one (.sextH d a) fun v => v.toInt = Int.bmod x.toNat (2 ^ 16)) ∧
    (one (.sextW d a) fun v => v.toInt = Int.bmod x.toNat (2 ^ 32)) ∧
    (one (.zextB d a) fun v => v.toNat = x.toNat % 2 ^ 8) ∧
    (one (.zextH d a) fun v => v.toNat = x.toNat % 2 ^ 16) ∧
    (one (.zextW d a) fun v => v.toNat = x.toNat % 2 ^ 32)

/-- R179, R180: the immediate operations, MOVI and MOVK. -/
def Obligations.IntegerImmediateResults : Prop :=
  ∀ (s : State) (d a : Fin 32) (im : BitVec 16) (i14 : BitVec 14) (n : BitVec 6) (h : Fin 4), acts s = true →
    let x := rdG s a
    let one := fun i P => givesResult (exec i s) s 1 (.g d) [a] P
    (one (.addi d a im) fun v => (v.toInt - (x.toInt + im.toInt)) % 2 ^ 64 = 0) ∧
    (one (.andi d a i14) fun v => ∀ i, i < 64 → v.getLsbD i = (x.getLsbD i && i14.getLsbD (min i 13))) ∧
    (one (.ori d a i14) fun v => ∀ i, v.getLsbD i = (x.getLsbD i || i14.getLsbD i)) ∧
    (one (.xori d a i14) fun v => ∀ i, v.getLsbD i = (x.getLsbD i != i14.getLsbD i)) ∧
    (one (.shli d a n) fun v => v.toNat = x.toNat * 2 ^ n.toNat % 2 ^ 64) ∧
    (one (.shri d a n) fun v => v.toNat = x.toNat / 2 ^ n.toNat) ∧
    (one (.sari d a n) fun v => v.toInt = x.toInt / 2 ^ n.toNat) ∧
    (one (.rotli d a n) fun v => ∀ i, i < 64 → v.getLsbD ((i + n.toNat) % 64) = x.getLsbD i) ∧
    (givesResult (exec (.movi d h im) s) s 1 (.g d) [] fun v => (v.toInt - im.toInt * 2 ^ (16 * h.val)) % 2 ^ 64 = 0) ∧
    (givesResult (exec (.movk d h im) s) s 1 (.g d) [d] fun v => ∀ i, i < 64 →
      v.getLsbD i = if i / 16 = h.val then im.getLsbD (i % 16) else (rdG s d).getLsbD i)

/-- R181: compares write their predicate at +1.
R183: predicate logic, SEL and the moves between predicates and registers. -/
def Obligations.ComparePredicateResults : Prop :=
  (∀ (s : State) (pd : Fin 8) (a b : Fin 32) (im : BitVec 16), acts s = true →
     let x := rdG s a
     let y := rdG s b
     let two := fun i q => exec i s = .next (scalarNext s 1 (.p pd) [a, b] (predWord q))
     let one := fun i q => exec i s = .next (scalarNext s 1 (.p pd) [a] (predWord q))
     two (.cmpeq pd a b) (decide (x.toNat = y.toNat)) ∧
     two (.cmpne pd a b) (decide (x.toNat ≠ y.toNat)) ∧
     two (.cmplt pd a b) (decide (x.toInt < y.toInt)) ∧
     two (.cmple pd a b) (decide (x.toInt ≤ y.toInt)) ∧
     two (.cmpltn pd a b) (decide (x.toNat < y.toNat)) ∧
     two (.cmplen pd a b) (decide (x.toNat ≤ y.toNat)) ∧
     one (.cmpeqi pd a im) (decide (x.toInt = im.toInt)) ∧
     one (.cmpnei pd a im) (decide (x.toInt ≠ im.toInt)) ∧
     one (.cmplti pd a im) (decide (x.toInt < im.toInt)) ∧
     one (.cmpltni pd a im) (decide (x.toNat < im.toNat))) ∧
  (∀ (s : State) (pd pa pb k : Fin 8) (d a b : Fin 32), acts s = true →
     let pr := fun i q => exec i s = .next (scalarNext s 1 (.p pd) [] (predWord q))
     pr (.pand pd pa pb) (rdP s pa && rdP s pb) ∧
     pr (.por pd pa pb) (rdP s pa || rdP s pb) ∧
     pr (.pxor pd pa pb) (rdP s pa != rdP s pb) ∧
     pr (.pandn pd pa pb) (rdP s pa && !rdP s pb) ∧
     pr (.psetFalse pd) false ∧
     pr (.psetTrue pd) true ∧
     pr (.pmovPred pd pa) (rdP s pa) ∧
     exec (.pmovFromReg pd a) s = .next (scalarNext s 1 (.p pd) [a] (predWord (decide (rdG s a ≠ 0)))) ∧
     exec (.sel d a b k) s = .next (scalarNext s 1 (.g d) [a, b] (if rdP s k = true then rdG s a else rdG s b)) ∧
     exec (.pmovToReg d pa) s = .next (scalarNext s 1 (.g d) [] (predWord (rdP s pa))))

/-- R187: scalar bit operations, by the bits of their results. -/
def Obligations.BitOperationResults : Prop :=
  ∀ (s : State) (d a b : Fin 32), acts s = true →
    let x := rdG s a
    let y := rdG s b
    let z := rdG s d
    let o := y.toNat % 64
    let w := min (min (y.toNat / 2 ^ 8 % 2 ^ 7) 64) (64 - o)
    let ones := fun n => ((List.range n).filter fun i => x.getLsbD i).length
    let one := fun i P => givesResult (exec i s) s 1 (.g d) [a] P
    let two := fun i P => givesResult (exec i s) s 1 (.g d) [a, b] P
    let three := fun i P => givesResult (exec i s) s 1 (.g d) [a, b, d] P
    (one (.clz d a) fun v => v.toNat ≤ 64 ∧ (∀ i, 64 - v.toNat ≤ i → x.getLsbD i = false) ∧
      (v.toNat < 64 → x.getLsbD (63 - v.toNat) = true)) ∧
    (one (.ctz d a) fun v => v.toNat ≤ 64 ∧ (∀ i, i < v.toNat → x.getLsbD i = false) ∧
      (v.toNat < 64 → x.getLsbD v.toNat = true)) ∧
    (one (.popc d a) fun v => v.toNat = ones 64) ∧
    (one (.brev d a) fun v => ∀ i, i < 64 → v.getLsbD (63 - i) = x.getLsbD i) ∧
    (two (.fns d a b) fun v => (v.toNat < 64 ∧ x.getLsbD v.toNat = true ∧ ones v.toNat = y.toNat) ∨
      (v.toNat = 64 ∧ ones 64 ≤ y.toNat)) ∧
    (two (.bfx d a b) fun v => ∀ i, i < 64 → v.getLsbD i = (decide (0 < w) && x.getLsbD (o + min i (w - 1)))) ∧
    (two (.bfxn d a b) fun v => ∀ i, i < 64 → v.getLsbD i = (decide (i < w) && x.getLsbD (o + i))) ∧
    (three (.bfi d a b) fun v => ∀ i, i < 64 →
      v.getLsbD i = if o ≤ i ∧ i < o + w then x.getLsbD (i - o) else z.getLsbD i) ∧
    (three (.fshl d a b) fun v => ∀ i, i < 64 → v.getLsbD i = if o ≤ i then z.getLsbD (i - o) else x.getLsbD (64 + i - o)) ∧
    (three (.fshr d a b) fun v => ∀ i, i < 64 → v.getLsbD i = if i + o < 64 then z.getLsbD (i + o) else x.getLsbD (i + o - 64))

/-- R188: multiplication at +3 and division at +20; no operand raises anything. -/
def Obligations.MultiplyDivideResults : Prop :=
  ∀ (s : State) (d a b : Fin 32), acts s = true →
    let x := rdG s a
    let y := rdG s b
    let m := fun i P => givesResult (exec i s) s 3 (.g d) [a, b] P
    let q := fun i P => givesResult (exec i s) s 20 (.g d) [a, b] P
    (m (.mul d a b) fun v => v.toNat = x.toNat * y.toNat % 2 ^ 64) ∧
    (m (.mulh d a b) fun v => v.toInt = x.toInt * y.toInt / 2 ^ 64) ∧
    (m (.mulhn d a b) fun v => v.toNat = x.toNat * y.toNat / 2 ^ 64) ∧
    (q (.div d a b) fun v => v.toInt = if y.toInt = 0 then -1
      else if x.toInt = -2 ^ 63 ∧ y.toInt = -1 then -2 ^ 63 else x.toInt.tdiv y.toInt) ∧
    (q (.divn d a b) fun v => v.toNat = if y.toNat = 0 then 2 ^ 64 - 1 else x.toNat / y.toNat) ∧
    (q (.rem d a b) fun v => v.toInt = if y.toInt = 0 then x.toInt
      else if x.toInt = -2 ^ 63 ∧ y.toInt = -1 then 0 else x.toInt.tmod y.toInt) ∧
    (q (.remn d a b) fun v => v.toNat = if y.toNat = 0 then x.toNat else x.toNat % y.toNat)

/-- R184: the scalar floating-point operations, their latencies and what their latches carry. -/
def Obligations.FloatResults : Prop :=
  ∀ (s : State) (d a b : Fin 32) (pd : Fin 8) (f : Bool) (m : Fin 8), acts s = true →
    let F := sFmt f
    let M := sMode s m
    let X := sVal s f a
    let Y := sVal s f b
    let Z := sVal s f d
    let fl := fun i lat srcs (r : Res) v => exec i s = .next (floatNext s lat (.g d) srcs r v)
    let bits := fun i lat srcs (r : Res) => exec i s = .next (floatNext s lat (.g d) srcs r (BitVec.ofNat 64 r.bits))
    let cmp := fun i fl sn q => exec i s = .next (floatNext s 2 (.p pd) [a, b] ⟨0, fl, false, sn⟩ (predWord q))
    let un := fpCompare X Y
    bits (.fadd d a b f m) 4 [a, b] (fpAdd F M X Y) ∧
    bits (.fsub d a b f m) 4 [a, b] (fpAdd F M X Y.negate) ∧
    bits (.fmul d a b f m) 4 [a, b] (fpMul F M X Y) ∧
    bits (.ffma d a b f m) 4 [a, b, d] (fpFma F M X Y Z) ∧
    bits (.ffms d a b f m) 4 [a, b, d] (fpFma F M X.negate Y Z) ∧
    bits (.fdiv d a b f m) 16 [a, b] (fpDiv F M X Y) ∧
    bits (.fsqrt d a f m) 16 [a] (fpSqrt F M X) ∧
    bits (.fmin d a b f) 2 [a, b] (fpMinMax F false (sBits s f a) (sBits s f b)) ∧
    bits (.fmax d a b f) 2 [a, b] (fpMinMax F true (sBits s f a) (sBits s f b)) ∧
    cmp (.fcmpeq pd a b f) (nanFlags [X, Y]).1 (nanFlags [X, Y]).2 (un == some .eq) ∧
    cmp (.fcmplt pd a b f) (if un.isNone then (nanFlags [X, Y]).1 ||| flNV else (nanFlags [X, Y]).1) (nanFlags [X, Y]).2
      (un == some .lt) ∧
    cmp (.fcmple pd a b f) (if un.isNone then (nanFlags [X, Y]).1 ||| flNV else (nanFlags [X, Y]).1) (nanFlags [X, Y]).2
      (un == some .lt || un == some .eq) ∧
    cmp (.fcmpun pd a b f) (nanFlags [X, Y]).1 (nanFlags [X, Y]).2 un.isNone ∧
    bits (.fcvtFloat d a f m) 4 [a] (convert F (sFmt !f) M (sBits s f a)) ∧
    bits (.fcvtToI64 d a f m) 4 [a] (convert F 8 M (sBits s f a)) ∧
    bits (.fcvtToN64 d a f m) 4 [a] (convert F 9 M (sBits s f a)) ∧
    fl (.fcvtToI32 d a f m) 4 [a] (convert F 6 M (sBits s f a))
      ((BitVec.ofNat 32 (convert F 6 M (sBits s f a)).bits).signExtend 64) ∧
    bits (.fcvtToN32 d a f m) 4 [a] (convert F 7 M (sBits s f a)) ∧
    bits (.fcvtFromI64 d a f m) 4 [a] (convert 8 F M (rdG s a).toNat) ∧
    bits (.fcvtFromN64 d a f m) 4 [a] (convert 9 F M (rdG s a).toNat) ∧
    bits (.fcvtFromI32 d a f m) 4 [a] (convert 6 F M ((rdG s a).toNat % 2 ^ 32)) ∧
    bits (.fcvtFromN32 d a f m) 4 [a] (convert 7 F M ((rdG s a).toNat % 2 ^ 32))

/-- R48, R49, R185: what scalar floating point does with a NaN: the canonical NaN from an arithmetic operation, with
invalid from a signalling NaN and no other flag; false from a compare but true from FCMPUN, invalid from any NaN in an
ordered compare and from a signalling one in the others; and the canonical NaN with invalid from a product of ∞ and 0, in
either order, in FMUL, FFMA and FFMS, in the last two whatever gd holds. -/
def Obligations.FloatNaNs : Prop :=
  ∀ (s : State) (d a b : Fin 32) (pd : Fin 8) (f : Bool) (m : Fin 8), acts s = true →
    let X := sVal s f a
    let Y := sVal s f b
    let Z := sVal s f d
    let nan := fun v : Val => ∃ g n, v = .nan g n
    let sig := fun v : Val => ∃ n, v = .nan true n
    let arith := fun i lat srcs (sn inv : Prop) => ∃ r,
      exec i s = .next (floatNext s lat (.g d) srcs r (BitVec.ofNat 64 r.bits)) ∧
      r.bits = canonNaN (sFmt f) ∧ (r.sn = true ↔ sn) ∧ (inv ∧ r.fl = 16 ∨ ¬inv ∧ r.fl = 0)
    let cmp := fun i (P : Res → Bool → Prop) => ∃ r q, exec i s = .next (floatNext s 2 (.p pd) [a, b] r (predWord q)) ∧ P r q
    let prod := ∃ n n' e, (X = .inf n ∧ Y = .fin n' 0 e) ∨ (X = .fin n' 0 e ∧ Y = .inf n)
    let two := sig X ∨ sig Y
    let three := sig X ∨ sig Y ∨ sig Z
    (nan X ∨ nan Y →
      arith (.fadd d a b f m) 4 [a, b] two two ∧ arith (.fsub d a b f m) 4 [a, b] two two ∧
      arith (.fmul d a b f m) 4 [a, b] two two ∧ arith (.fdiv d a b f m) 16 [a, b] two two) ∧
    (nan X → arith (.fsqrt d a f m) 16 [a] (sig X) (sig X)) ∧
    (prod → arith (.fmul d a b f m) 4 [a, b] False True) ∧
    (nan X ∨ nan Y ∨ nan Z ∨ prod →
      arith (.ffma d a b f m) 4 [a, b, d] three (three ∨ prod) ∧ arith (.ffms d a b f m) 4 [a, b, d] three (three ∨ prod)) ∧
    (cmp (.fcmpeq pd a b f) fun r q => (nan X ∨ nan Y → q = false) ∧ (r.fl = 16 ↔ two)) ∧
    (cmp (.fcmpun pd a b f) fun r q => (q = true ↔ nan X ∨ nan Y) ∧ (r.fl = 16 ↔ two)) ∧
    (cmp (.fcmplt pd a b f) fun r q => nan X ∨ nan Y → q = false ∧ r.fl = 16) ∧
    (cmp (.fcmple pd a b f) fun r q => nan X ∨ nan Y → q = false ∧ r.fl = 16)

/-- R186: FCLASS leaves at +2 a mask of exactly one bit, chosen by the operand's sign, exponent and fraction fields, and
no flag. -/
def Obligations.FloatClassMask : Prop :=
  ∀ (s : State) (d a : Fin 32) (f : Bool), acts s = true →
    let w := sBits s f a
    let fb := if f = true then 52 else 23
    let eb := if f = true then 11 else 8
    let frac := w % 2 ^ fb
    let ex := w / 2 ^ fb % 2 ^ eb
    let neg := w / 2 ^ (fb + eb) % 2 = 1
    givesResult (exec (.fclass d a f) s) s 2 (.g d) [a] fun v => v =
      if ex = 2 ^ eb - 1 then
        if frac = 0 then (if neg then 1 else 0x80) else (if frac < 2 ^ (fb - 1) then 0x100 else 0x200)
      else if ex = 0 then
        if frac = 0 then (if neg then 8 else 16) else (if neg then 4 else 32)
      else (if neg then 2 else 64)

/-! ## Frames, commits and syllables that do not act -/

/-- R175, R44: every S syllable answers a next state, which keeps every register, flag, byte and queue: at most one latch
is new, and it commits later. -/
def Obligations.ScalarSyllableFrame : Prop :=
  ∀ (s : State) (i : Instr), format i = .scalar → ∃ t, exec i s = .next t ∧ leavesLatch s t

/-- R164, R165: a syllable of any class that does not act changes no register, predicate, byte, flag, command, wait or
branch; its charge alone is made; an M access still updates its base register, and a branch still counts its delay
bundles. -/
def Obligations.SyllableThatDoesNotAct : Prop :=
  ∀ (s : State) (i : Instr), acts s = false → format i ≠ .none → format i ≠ .pfx →
    ∃ t, exec i s = .next t ∧ sameStore s t ∧ t.ctx.r = s.ctx.r ∧ t.ctx.dws = s.ctx.dws ∧ t.ctx.uws = s.ctx.uws ∧
      t.ctx.vq = s.ctx.vq ∧ t.ctx.xq = s.ctx.xq ∧ t.ctx.cq = s.ctx.cq ∧ t.ctx.wait = s.ctx.wait ∧
      t.ctx.pend = s.ctx.pend ∧ t.ctx.swt = s.ctx.swt ∧ t.ctx.ended = s.ctx.ended ∧ t.ctx.status = s.ctx.status ∧
      t.ctx.iss = s.ctx.iss ∧ t.net = s.net ∧ t.welt = s.welt ∧ t.host = s.host ∧ t.agenda = s.agenda ∧
      t.ctx.dly = (if delays i = true ∧ s.ctx.iss.trapped = false then 2 else s.ctx.dly) ∧
      t.ctx.latches = s.ctx.latches ++
        match access i with
        | some (b, inc, o, size) => ((memBase (rdG s b) inc o size).map fun v =>
            { newLatch s 1 (.g b) v 0 none with slot := 5 }).toList
        | none => []

/-- R159, R336: a latch that is due commits to its destination and ORs its flags into FLG; g0 and p0 discard it, and
nothing else changes.
R65, R91, R384: a latch whose result traps, or a value that fails its carried code, writes no register: its commit takes
the trap, and of the two the mismatch.
R160: of two latches that commit to one register at one TCLK the one whose syllable issued later gives the value, and
in one bundle the one at the higher position; the flags of both are ORed into FLG.
That the flags of a result are made with its trap is log entry 24. -/
def Obligations.LatchCommit : Prop :=
  (∀ (s : State) (l : Latch), s.ctx.latches = [l] → s.ctx.uws = [] → l.due ≤ s.ctx.now → l.bad = none → l.syn = 0 →
     ∃ t, exec .resultLatchCommit s = .next t ∧ t.ctx.latches = [] ∧ sameStore s t ∧
       (∀ n, rdG t n = if l.dest = .g n ∧ n ≠ 0 then l.val else rdG s n) ∧
       (∀ n, rdP t n = if l.dest = .p n ∧ n ≠ 0 then l.val.getLsbD 0 else rdP s n) ∧
       (∀ n : Fin 8, t.ctx.r.pm[n] = if l.dest = .pm n then l.val.setWidth 48 else s.ctx.r.pm[n]) ∧
       (∀ n : Fin 4, t.ctx.r.q[n] = if l.dest = .q n then l.val else s.ctx.r.q[n]) ∧
       t.ctx.r.flg = s.ctx.r.flg ||| l.flags ∧ t.ctx.r.sh = s.ctx.r.sh ∧ t.ctx.r.sd = s.ctx.r.sd ∧
       t.ctx.r.loops = s.ctx.r.loops ∧ t.ctx.r.fen = s.ctx.r.fen ∧ t.ctx.r.rmode = s.ctx.r.rmode ∧
       t.ctx.r.tvec = s.ctx.r.tvec ∧ t.ctx.pc = s.ctx.pc ∧ t.ctx.status = s.ctx.status) ∧
  (∀ (s : State) (l : Latch) (x : Trap), s.ctx.latches = [l] → s.ctx.uws = [] → l.due ≤ s.ctx.now →
     (l.bad = some x ∧ (l.syn = 0 ∨ x.cause = 0x16) ∨
       l.syn ≠ 0 ∧ (∀ y, l.bad = some y → y.cause ≠ 0x16) ∧ x = latchTrap s.ctx l) →
     ∃ u, exec .resultLatchCommit s = .next (takeTrap u x) ∧ u.ctx.r.g = s.ctx.r.g ∧ u.ctx.r.p = s.ctx.r.p ∧
       u.ctx.r.pm = s.ctx.r.pm ∧ u.ctx.r.q = s.ctx.r.q ∧ u.mem = s.mem) ∧
  (∀ (s : State) (l m : Latch) (n : Fin 32), n ≠ 0 → l.dest = .g n → m.dest = .g n → l.due ≤ s.ctx.now → m.due ≤ s.ctx.now →
     l.bad = none → m.bad = none → l.syn = 0 → m.syn = 0 → s.ctx.uws = [] →
     (s.ctx.latches = [l, m] ∨ s.ctx.latches = [m, l]) → (l.issue < m.issue ∨ l.issue = m.issue ∧ l.pos < m.pos) →
     ∃ t, exec .resultLatchCommit s = .next t ∧ rdG t n = m.val ∧ t.ctx.r.flg = s.ctx.r.flg ||| l.flags ||| m.flags ∧
       ∀ k, k ≠ n → rdG t k = rdG s k)

/-! ## M: loads, stores, shape fields and control registers -/

/-- R189 to R192: a load or a store that acts and passes its checks: its base update and its latch or its write.
R150, R190: an access that acts traps at issue, with no other effect, when its address has any of bits 63 to 24 or a
byte outside the grant, and then when it is not a multiple of its size; with neither, and outside deterministic mode and
STQ, it passes. -/
def Obligations.LoadsAndStores : Prop :=
  (∀ (s : State) (v b : Fin 32) (q im : Fin 4) (o : BitVec 7), acts s = true →
     let at_ := fun size => memAddr (rdG s b) im o size
     let ld := fun i size sg => memCheck s (at_ size) (2 ^ size) true false = none →
       exec i s = .next (loadNext s v b im o size sg)
     let st := fun i size => badReg s 5 [b, v] = none → memCheck s (at_ size) (2 ^ size) false false = none →
       exec i s = .next (storeNext s (rdG s v) b im o size)
     ld (.ldB v b im o) 0 true ∧ ld (.ldBn v b im o) 0 false ∧ ld (.ldH v b im o) 1 true ∧ ld (.ldHn v b im o) 1 false ∧
     ld (.ldW v b im o) 2 true ∧ ld (.ldWn v b im o) 2 false ∧ ld (.ldD v b im o) 3 true ∧
     st (.stB v b im o) 0 ∧ st (.stH v b im o) 1 ∧ st (.stW v b im o) 2 ∧ st (.stD v b im o) 3 ∧
     (badReg s 5 [b] = none → memCheck s (at_ 3) 8 false true = none →
       exec (.stq q b im o) s = .next (storeNext s s.ctx.r.q[q] b im o 3))) ∧
  (∀ (s : State) (i : Instr) (b : Fin 32) (inc : Fin 4) (o : BitVec 7) (size : Nat), acts s = true →
     access i = some (b, inc, o, size) →
     let a := if inc = 0 ∨ inc = 3 then rdG s b + BitVec.ofInt 64 (o.toInt * 2 ^ size) else rdG s b
     let inside := s.ctx.hdr.gbase ≤ a.toNat ∧ a.toNat + 2 ^ size ≤ s.ctx.hdr.gbase + s.ctx.hdr.quota
     (a.toNat ≥ 2 ^ 24 ∨ ¬inside → exec i s = .next (takeTrap s (fatalTrap s none none))) ∧
     (a.toNat < 2 ^ 24 → inside → a.toNat % 2 ^ size ≠ 0 →
       exec i s = .next (takeTrap s (mkTrap s 0x06 (some a) (some 1) none))) ∧
     (a.toNat < 2 ^ 24 → inside → a.toNat % 2 ^ size = 0 → s.ctx.hdr.det = false →
       ∀ load, memCheck s a (2 ^ size) load false = none))

/-- R191: a load reads its bytes, little-endian, at +1 and keeps them sign- or zero-extended to 64 bits for its commit.
R192: a store that is due writes the low bytes of its value, little-endian, at its address, and no other byte of
memory. -/
def Obligations.LocalBytesReadAndWritten : Prop :=
  (∀ (s : State) (l : Latch) (a n t : Nat) (sg : Bool), l.ld = some ⟨a, n, sg⟩ → n ∈ [1, 2, 4, 8] → s.ctx.latches = [l] →
     l.due = t + 2 → spadSyn s a = 0 →
     ∃ m, (doLoads s t).ctx.latches = [m] ∧ m.dest = l.dest ∧ m.due = l.due ∧ m.ld = none ∧ m.bad = l.bad ∧ m.syn = l.syn ∧
       let v := leNat ((List.range n).map fun i => spadByte s (a + i))
       if sg = true then m.val.toInt = Int.bmod v (2 ^ (8 * n)) else m.val.toNat = v) ∧
  (∀ (s : State) (w : DWrite) (a n : Nat) (v : Word), s.ctx.dws = [w] → w.act = .store a n v → w.due ≤ s.ctx.now →
     n ∈ [1, 2, 4, 8] → a % n = 0 → a + n ≤ 2 ^ 24 → s.ctx.upper = false → s.ctx.iss.trapped = false → spadSyn s a = 0 →
     (∀ i, i < n → spadByte (writesAt s s.ctx.now) (a + i) = BitVec.ofNat 8 (v.toNat / 2 ^ (8 * i))) ∧
     (∀ k, (k < spadKey s.ctx.gunit a ∨ spadKey s.ctx.gunit a + n ≤ k) →
       memGet (writesAt s s.ctx.now).mem k = memGet s.mem k) ∧
     (writesAt s s.ctx.now).ctx.r = s.ctx.r ∧ (writesAt s s.ctx.now).ctx.dws = [])

/-- R193, R194: SHW writes one field of one shadow at +1, never an active register; SHG reads a field of the active
register, or of the shadow, at +2. -/
def Obligations.ShapeFieldAccess : Prop :=
  ∀ (s : State) (v : Fin 32) (e r : Fin 4) (f : BitVec 4) (h : Bool), acts s = true → e.val < 3 → f.toNat < 10 →
    (badReg s 5 [v] = none → ∃ t w, exec (.shw v e r f) s = .next t ∧ t.ctx.dws = s.ctx.dws ++ [w] ∧
      w.due = s.ctx.now + 1 ∧ t.ctx.r = s.ctx.r ∧ t.ctx.latches = s.ctx.latches ∧ sameStore s t ∧
      ∀ u : State, (makeWrite u w).ctx.r.sh = u.ctx.r.sh ∧ (makeWrite u w).ctx.r.g = u.ctx.r.g ∧
        sameStore u (makeWrite u w) ∧
        ∀ e' r' : Fin 4, e'.val < 3 → getSd (makeWrite u w).ctx.r e' r' =
          if e' = e ∧ r' = r then (getSd u.ctx.r e r).setField f.toNat (rdG s v) else getSd u.ctx.r e' r') ∧
    (∃ t l, exec (.shg v e r f h) s = .next t ∧ t.ctx.latches = s.ctx.latches ++ [l] ∧ l.dest = .g v ∧
      l.due = s.ctx.now + 2 ∧ l.bad = none ∧ t.ctx.r = s.ctx.r ∧ t.ctx.dws = s.ctx.dws ∧ sameStore s t ∧
      l.val.toNat = ((if h = true then getSd s.ctx.r e r else getSh s.ctx.r e r).field f.toNat))

/-- R161, R193, R195: CTLR and CTLR.q read a control register at +2. In deterministic mode a CTLR of a marked register
raises DET_READ, unless the frame has supplied its value; CTLR.q never does.
R445: an access of the frame in a bank of the Heel that is under test is held; which accesses a fence holds is log entry 143. -/
def Obligations.ControlRegisterReads : Prop :=
  ∀ (s : State) (v : Fin 32) (q : Fin 4) (c : BitVec 12), acts s = true →
    let n := c.toNat
    let det := s.ctx.hdr.det = true ∧ detMarked n = true
    let reads := fun i d x => ∃ t l, exec i s = .next t ∧ t.ctx.latches = s.ctx.latches ++ [l] ∧ l.dest = d ∧ l.val = x ∧
      l.due = s.ctx.now + 2 ∧ l.bad = none ∧ t.ctx.r = s.ctx.r ∧ t.ctx.dws = s.ctx.dws ∧ sameStore s t ∧
      t.ctx.fidx = if n = 0xF01 then s.ctx.fidx + 1 else s.ctx.fidx
    (heelFenced s n = true → exec (.ctlr v c) s = .next (holdBundle s 4) ∧ exec (.ctlrQ q c) s = .next (holdBundle s 4)) ∧
    (n ≠ 0xF01 → heelFenced s n = false) ∧
    (heelFenced s n = false → ¬det → reads (.ctlr v c) (.g v) (readCtl s n)) ∧
    (∀ x, det → s.ctx.detval = some x → reads (.ctlr v c) (.g v) x) ∧
    (det → s.ctx.detval = none → exec (.ctlr v c) s =
      .next (takeTrap s (mkTrap s 0x13 (some (BitVec.ofNat 64 n)) (some (BitVec.ofNat 64 s.ctx.iss.pos)) none))) ∧
    (heelFenced s n = false → reads (.ctlrQ q c) (.q q) (readCtl s n)) ∧
    (s.ctx.uws = [] → readCtl s 0x000 = s.ctx.r.flg.setWidth 64) ∧
    (readCtl s 0x003).toNat = s.ctx.r.ftlevel.toNat * 16 + s.ctx.r.ftbase.toNat ∧
    (readCtl s 0x008).toNat = s.ctx.tclk % 2 ^ 48 ∧
    readCtl s 0x009 = s.ctx.wid ∧ readCtl s 0x00B = s.ctx.hdr.seed ∧ readCtl s 0x010 = s.ctx.r.tvec ∧
    (∀ k : Fin 4, readCtl s (0x012 + k.val) = s.ctx.tinfo[k]) ∧
    (∀ k : Fin 16, readCtl s (0x100 + k.val) = s.ctx.r.ft[k].setWidth 64) ∧
    (∀ k : Fin 8, readCtl s (0x120 + k.val) = s.ctx.r.cht[k])

/-- R8, R60, R71, R195: a CTLW writes its register at +1, but one of RMODE 6 or 7 or of FTLEVEL 6 raises ILLEGAL_ENCODING
with reason 28 at issue.
R8, R161, R195: what the commit of a CTLW leaves in the registers of user state; a read-only register keeps its
value.
R196: LCNT of an active level takes the count; LSTART and LEND are held for the next entry of their level; an LSTRDk takes
its entry, not enabled for an engine outside the grant, and an entry of engine 3 leaves it as it is.
R195, R373, R426: ENERGY takes its value from the Cobbler, and from no handler. -/
def Obligations.ControlRegisterWrite : Prop :=
  (∀ (s : State) (v : Fin 32) (c : BitVec 12), acts s = true →
     let x := rdG s v
     let bad := c = 0x002 ∧ x.toNat % 8 ≥ 6 ∨ c = 0x003 ∧ x.toNat / 16 % 8 = 6
     (heelFenced s c.toNat = true → exec (.ctlw v c) s = .next (holdBundle s 4)) ∧
     (heelFenced s c.toNat = false → ¬bad → badReg s 5 [v] = none → ∃ t w, exec (.ctlw v c) s = .next t ∧
       t.ctx.dws = s.ctx.dws ++ [w] ∧
       w.due = s.ctx.now + 1 ∧ w.act = .ctl c x ∧ t.ctx.r = s.ctx.r ∧ t.ctx.latches = s.ctx.latches ∧ sameStore s t) ∧
     (bad → ∃ y, exec (.ctlw v c) s = .next (takeTrap s y) ∧ y.cause = 0x01 ∧
       y.i0 = BitVec.ofNat 64 (28 * 256 + s.ctx.iss.pos) ∧ y.i2 = s.ctx.iss.pc ∧
       (s.ctx.iss.pos ≠ 15 → y.i1 = s.ctx.iss.word.setWidth 64))) ∧
  (∀ (s : State) (x : BitVec 64),
     let into := fun (c : BitVec 12) (r : Regs) => exec (.registerWrite (.ctl c) x) s = .next { s with ctx := { s.ctx with r := r } }
     let r := s.ctx.r
     into 0x000 { r with flg := x.setWidth 6 ||| s.ctx.flNow } ∧
     into 0x001 { r with fen := x.setWidth 6 } ∧
     into 0x002 { r with rmode := x.setWidth 3 } ∧
     into 0x003 { r with ftbase := x.setWidth 4, ftlevel := (x >>> 4).setWidth 3 } ∧
     into 0x004 { r with grace := x.setWidth 32 } ∧
     into 0x010 { r with tvec := BitVec.ofNat 64 (x.toNat / 64 * 64) } ∧
     ∀ c : BitVec 12, c.toNat ∈ [0x005, 0x008, 0x009, 0x00A, 0x00B, 0x011, 0x012, 0x013, 0x014, 0x015, 0x020, 0x021, 0x022,
       0x023, 0x030, 0x031, 0x032] ∨ (0x070 ≤ c.toNat ∧ c.toNat < 0xF00) → into c r) ∧
  (∀ (s : State) (x : BitVec 64), exec (.registerWrite (.ctl 0x00C) x) s = .next (if s.ctx.cobbler = true then
     { s with ctx := { s.ctx with energy := x.toNat % 2 ^ 48, energySat := x.getLsbD 63 } } else s)) ∧
  ∀ (s : State) (l : Fin 8) (x : BitVec 64), l.val < 6 →
    let y := getLoop s l
    let becomes := fun (k : Nat) (z : Loop) => ∃ t,
      exec (.registerWrite (.ctl (BitVec.ofNat 12 (0x040 + 8 * l.val + k))) x) s = .next t ∧
      t = { s with ctx := { s.ctx with r := { s.ctx.r with loops := t.ctx.r.loops } } } ∧
      ∀ j : Fin 8, j.val < 6 → getLoop t j = if j = l then z else getLoop s j
    let block := BitVec.ofNat 64 (x.toNat / 64 * 64)
    let eng := x.toNat / 2 ^ 26 % 4
    becomes 0 (if y.active = true then { y with cnt := x.setWidth 48 } else y) ∧ becomes 1 y ∧
    becomes 2 { y with hs := some block } ∧ becomes 3 { y with he := some block } ∧
    let entry : Stride :=
      ⟨x.getLsbD 63 && s.ctx.grant.getD eng false, Fin.ofNat 4 eng, Fin.ofNat 4 (x.toNat / 2 ^ 24), x.setWidth 24⟩
    ∀ k : Fin 4, becomes (4 + k.val) (if eng = 3 then y else { y with strd := y.strd.set k entry })

/-- R196, R374, R376, R418: with supervisor rights FDAT reads the frame's dword at FIDX at +2, a write through FDAT leaves
its value in an RW dword and nothing in an RO one, both move FIDX on, and a write of TMR sets it and its count to 0; a
write of the COUNT of an active level sets it; and a write of an island's ISLCTL sets its cap, its throttle point and its
hysteresis. Outside supervisor state, at an inactive level, or for a number that names no level or island, nothing
changes.
That a written RW dword keeps its reserved bits in the frame is log entry 100. -/
def Obligations.SupervisorWriteCommits : Prop :=
  (∀ (s : State) (v : Fin 32), s.ctx.sv = true → ∃ t l, exec (.fdatRead v) s = .next t ∧
     t.ctx.latches = s.ctx.latches ++ [l] ∧ l.dest = .g v ∧ l.due = s.ctx.now + 2 ∧ l.bad = none ∧
     l.val.toNat = leNat (memRead s.mem (heelKey (frameAddr s.ctx + 8 * s.ctx.fidx.toNat)) 8) ∧
     t.ctx.fidx = s.ctx.fidx + 1 ∧ t.ctx.r = s.ctx.r ∧ t.ctx.dws = s.ctx.dws ∧ sameStore s t) ∧
  (∀ (s : State) (x : BitVec 64), s.ctx.sv = true → ∃ t, exec (.fdatWrite x) s = .next t ∧
     let i := s.ctx.fidx.toNat
     t.ctx.fidx = s.ctx.fidx + 1 ∧ t.ctx.r = s.ctx.r ∧
     (i = 6 ∨ i = 9 ∨ (11 ≤ i ∧ i ≤ 15) ∨ i = 17 ∨ (32 ≤ i ∧ i < 64) ∨ (72 ≤ i ∧ i < 80) → frameDword t i = x) ∧
     ((1 ≤ i ∧ i ≤ 5) ∨ i = 7 ∨ i = 8 ∨ i = 10 ∨ i = 16 ∨ (18 ≤ i ∧ i < 32) ∨ (64 ≤ i ∧ i < 72) ∨ (80 ≤ i ∧ i < 256) ∨ 320 ≤ i →
       ∀ k, memGet t.mem k = memGet s.mem k) ∧
     ∀ k, (k < heelKey (frameAddr s.ctx) ∨ heelKey (frameAddr s.ctx) + 4096 ≤ k) → memGet t.mem k = memGet s.mem k) ∧
  (∀ (s : State) (x : BitVec 64), s.ctx.sv = true →
     exec (.tmrWrite x) s = .next { s with ctx := { s.ctx with tmr := x.setWidth 33, tmrCnt := 0 } }) ∧
  (∀ (s : State) (v : Fin 32) (x : BitVec 64), s.ctx.sv = false → exec (.fdatRead v) s = .next s ∧
     exec (.fdatWrite x) s = .next s ∧ exec (.tmrWrite x) s = .next s) ∧
  (∀ (s : State) (l : Fin 8) (x : BitVec 64),
     let y := s.ctx.r.loops.toList.getD l.val Loop.zero
     (l.val < 6 → y.active = true → exec (.lcntWrite l x) s = .next { s with ctx := { s.ctx with
       r := { s.ctx.r with loops := vset s.ctx.r.loops l.val { y with cnt := x.setWidth 48 } } } }) ∧
     (6 ≤ l.val ∨ y.active = false → exec (.lcntWrite l x) s = .next s)) ∧
  ∀ (s : State) (n : Nat) (x : BitVec 64),
    (n < 264 → ∃ t, exec (.islctlWrite n x) s = .next t ∧ t = { s with units := t.units } ∧
      (∀ k, k ≠ n → getIsland t k = getIsland s k) ∧
      let u := getIsland t n
      u.opcap.val = x.toNat / 2 ^ 8 % 8 ∧ u.thop.val = x.toNat / 2 ^ 5 % 8 ∧ u.hyst = x.toNat % 32 ∧
        u.req = (getIsland s n).req ∧ u.opc = (getIsland s n).opc ∧
        ((getIsland s n).settle = none → n ≤ 192 → u.pendOp = if u.point = u.opc then none else some u.point)) ∧
    (264 ≤ n → exec (.islctlWrite n x) s = .next s)

/-- R60: RMODE: a CTLW that writes 6 or 7 to MODE raises ILLEGAL_ENCODING at issue with reason 28, and RMODE keeps its value;
every other CTLW writes bits 2 to 0 at +1; a read gives MODE under zeros; a task starts with RMODE 0. -/
def Obligations.RoundingModeRegister : Prop :=
  (∀ (s : State) (v : Fin 32), acts s = true →
    let x := rdG s v
    (x.toNat % 8 = 6 ∨ x.toNat % 8 = 7 → ∃ y, exec (.ctlw v 0x002) s = .next (takeTrap s y) ∧ y.cause = 0x01 ∧
      y.i0 = BitVec.ofNat 64 (28 * 256 + s.ctx.iss.pos) ∧ (takeTrap s y).ctx.r.rmode = s.ctx.r.rmode) ∧
    (x.toNat % 8 < 6 → badReg s 5 [v] = none → ∃ t w, exec (.ctlw v 0x002) s = .next t ∧ t.ctx.dws = s.ctx.dws ++ [w] ∧
      w.due = s.ctx.now + 1 ∧ w.act = .ctl 0x002 x ∧ t.ctx.r = s.ctx.r)) ∧
  (∀ (s : State) (x : BitVec 64), ∃ t, exec (.registerWrite (.ctl 0x002) x) s = .next t ∧ t.ctx.r.rmode.toNat = x.toNat % 8 ∧
    (readCtl t 0x002).toNat = x.toNat % 8) ∧
  ∀ (s : State) (l : Launch) (o u : Nat), (newCtx s l o u).r.rmode = 0

/-! ## B: branches, loops, waits and system operations -/

/-- R142, R143, R197, R198: a branch that acts sends control to its target after two delay bundles, which count whether
it is taken or not; CALL also leaves its return address for g30 at +1; JMP to an address that is no block address raises
BRANCH_ALIGN. Beside its charge nothing else of the part changes.
R139, R198: the return address: the end of the second bundle that follows in address order, pads passed over, with bits
5 to 0 cleared, plus 64. -/
def Obligations.BranchResults : Prop :=
  (∀ (c : Ctx) (a e0 b1 e1 b2 e2 : Word), lastWord c a e0 → followingBundle c e0 b1 → lastWord c b1 e1 →
     followingBundle c e1 b2 → lastWord c b2 e2 → returnAddr c a = BitVec.ofNat 64 (e2.toNat / 64 * 64) + 64) ∧
  ∀ (s : State) (c a : Fin 32) (d : BitVec 20) (e : BitVec 14), acts s = true → s.ctx.iss.trapped = false →
    badReg s 6 [c] = none → badReg s 6 [a] = none →
    let rel := fun d : Int => BitVec.ofInt 64 ((s.ctx.iss.pc.toNat / 64 * 64 : Nat) + 64 * d)
    let goes := fun i (p : Pend) (ls : List Latch) => ∃ e v dr us, exec i s = .next { s with
      ctx := { s.ctx with pend := p, dly := 2, latches := s.ctx.latches ++ ls, energy := e, energySat := v, draw := dr }
      units := us }
    let link := { newLatch s 1 (.g 30) (returnAddr s.ctx s.ctx.iss.pc) 0 none with slot := 6 }
    goes (.br d) (.branch (rel d.toInt)) [] ∧
    goes (.brcNz c e) (if rdG s c = 0 then s.ctx.pend else .branch (rel e.toInt)) [] ∧
    goes (.brcZ c e) (if rdG s c = 0 then .branch (rel e.toInt) else s.ctx.pend) [] ∧
    goes (.call d) (.branch (rel d.toInt)) [link] ∧
    ((rdG s a).toNat % 64 = 0 → goes (.jmp a) (.branch (rdG s a)) []) ∧
    ((rdG s a).toNat % 64 ≠ 0 → ∃ t, exec (.jmp a) s = .next t ∧
      t = (let u := takeTrap s (mkTrap s 0x05 (some (rdG s a)) none none)
        if u.ctx.iss.trapped = true then u else u.up fun c => { c with dly := 2 }))

/-- R201: LOOP and LOOPI at a level that is not active: with a count of 0 the level is not entered, its stride entries are
cleared and the next bundle is the first after the end block; otherwise the level is active with LIDX 0, LCNT one less than
the count and its body's first and last block, or the held values, and the body's first bundle is next.
R201, R204: entering a level that is active, or leaving one that is not, raises LOOP_DEPTH at issue with the level in
TINFO0 and 0 or 1 in TINFO1.
That a count of 0 goes past the encoded end block even while a written LEND is held is log entry 124. -/
def Obligations.LoopEntry : Prop :=
  (∀ (s : State) (l : Fin 8) (c : Fin 32) (e : BitVec 12) (k : BitVec 9) (e8 : BitVec 8), acts s = true → l.val < 6 →
     (getLoop s l).active = false → badReg s 6 [c] = none →
     let x := getLoop s l
     let b := BitVec.ofNat 64 (s.ctx.iss.pc.toNat / 64 * 64)
     let enters := fun i (n m : Nat) => ∃ t, exec i s = .next t ∧ sameStore s t ∧ t.ctx.latches = s.ctx.latches ∧
       t.ctx.dws = s.ctx.dws ∧ t.ctx.r.g = s.ctx.r.g ∧ t.ctx.r.sh = s.ctx.r.sh ∧
       (∀ j : Fin 8, j.val < 6 → j ≠ l → getLoop t j = getLoop s j) ∧
       (n = 0 → (getLoop t l).active = false ∧ (∀ q : Fin 4, (getLoop t l).strd[q].en = false) ∧
         t.ctx.npc = b + BitVec.ofNat 64 (64 * (m + 1)) ∧ t.ctx.r.order = s.ctx.r.order) ∧
       (0 < n → (getLoop t l).active = true ∧ (getLoop t l).idx = 0 ∧ (getLoop t l).cnt.toNat = n - 1 ∧
         (getLoop t l).start = x.hs.getD (b + 64) ∧ (getLoop t l).stop = x.he.getD (b + BitVec.ofNat 64 (64 * m)) ∧
         (getLoop t l).strd = x.strd ∧ (getLoop t l).hs = none ∧ (getLoop t l).he = none ∧
         t.ctx.npc = (getLoop t l).start ∧ t.ctx.r.order = l :: s.ctx.r.order)
     enters (.loop l c e) (min (rdG s c).toNat (2 ^ 48 - 1)) e.toNat ∧
     enters (.loopi l k e8) k.toNat e8.toNat) ∧
  (∀ (s : State) (l : Fin 8) (c : Fin 32) (e : BitVec 12) (k : BitVec 9) (e8 : BitVec 8), acts s = true →
     let depth := fun n => takeTrap s (mkTrap s 0x0A (some (BitVec.ofNat 64 l.val)) (some n) none)
     ((getLoop s l).active = true → exec (.loop l c e) s = .next (depth 0) ∧ exec (.loopi l k e8) s = .next (depth 0)) ∧
     ((getLoop s l).active = false → ∃ t, exec (.lbrk l) s = .next t ∧ t.mem = (depth 1).mem ∧
       t.ctx.status = (depth 1).ctx.status ∧ t.ctx.tcause = (depth 1).ctx.tcause ∧ t.ctx.tinfo = (depth 1).ctx.tinfo))

/-- R202: an iteration boundary after the end block of one active level: its strides are added to their active shape
registers, and then the next iteration begins at LSTART with LCNT less by one and LIDX more by one, or at LCNT 0 the level
is left with its stride entries cleared. With two levels that end there the one entered last is taken first, and the other
only when that one is left.
R202: the strides of a level: the BASE of an active register plus the strides of the enabled entries that name it, modulo
2^24; nothing else of any register.
R203: LSTR sets its stride entry at +1, enabled unless its register is g0.
That a block of padding ends no body is log entry 17. -/
def Obligations.IterationBoundary : Prop :=
  (∀ (s : State) (l : Fin 8) (b : Word), l.val < 6 → s.ctx.fin = some b → s.ctx.r.order = [l] → s.ctx.pend = .none →
     (getLoop s l).active = true → (getLoop s l).stop = b →
     let x := getLoop s l
     ∃ t, exec .iterationBoundary s = .next t ∧ sameStore s t ∧ t.ctx.fin = none ∧ t.ctx.r.g = s.ctx.r.g ∧
       t.ctx.r.sh = (applyStrides s.ctx.r x).sh ∧ t.ctx.r.sd = s.ctx.r.sd ∧
       (x.cnt = 0 → getLoop t l = { x with active := false, cnt := 0, idx := 0, strd := clearStrides x.strd } ∧
         t.ctx.r.order = [] ∧ t.ctx.pc = skipPads s.ctx (s.ctx.hdr.codelen / 64) s.ctx.pc) ∧
       (x.cnt ≠ 0 → getLoop t l = { x with cnt := x.cnt - 1, idx := x.idx + 1 } ∧ t.ctx.r.order = [l] ∧
         t.ctx.pc = skipPads s.ctx (s.ctx.hdr.codelen / 64) x.start)) ∧
  (∀ (s : State) (i o : Fin 8) (b : Word), i.val < 6 → o.val < 6 → i ≠ o → s.ctx.fin = some b → s.ctx.r.order = [i, o] →
     s.ctx.pend = .none → (getLoop s i).active = true → (getLoop s o).active = true → (getLoop s i).stop = b →
     (getLoop s o).stop = b →
     let x := getLoop s i
     let y := getLoop s o
     let left := fun z : Loop => { z with active := false, cnt := 0, idx := 0, strd := clearStrides z.strd }
     let next := fun z : Loop => { z with cnt := z.cnt - 1, idx := z.idx + 1 }
     let pads := skipPads s.ctx (s.ctx.hdr.codelen / 64)
     ∃ t, exec .iterationBoundary s = .next t ∧ sameStore s t ∧ t.ctx.fin = none ∧ t.ctx.r.g = s.ctx.r.g ∧
       (x.cnt ≠ 0 → getLoop t i = next x ∧ getLoop t o = y ∧ t.ctx.r.order = [i, o] ∧
         t.ctx.r.sh = (applyStrides s.ctx.r x).sh ∧ t.ctx.pc = pads x.start) ∧
       (x.cnt = 0 → getLoop t i = left x ∧ t.ctx.r.sh = (applyStrides (applyStrides s.ctx.r x) y).sh ∧
         (y.cnt ≠ 0 → getLoop t o = next y ∧ t.ctx.r.order = [o] ∧ t.ctx.pc = pads y.start) ∧
         (y.cnt = 0 → getLoop t o = left y ∧ t.ctx.r.order = [] ∧ t.ctx.pc = pads s.ctx.pc))) ∧
  (∀ (r : Regs) (x : Loop) (e n : Fin 4), e.val < 3 → (∀ k : Fin 4, x.strd[k].en = true → x.strd[k].eng.val < 3) →
     let h := getSh r e n
     let adds := fun k : Fin 4 => if x.strd[k].en = true ∧ x.strd[k].eng = e ∧ x.strd[k].reg = n then x.strd[k].by_.toNat
       else 0
     getSh (applyStrides r x) e n =
       { h with base := BitVec.ofNat 24 (h.base.toNat + adds 0 + adds 1 + adds 2 + adds 3) }) ∧
  (∀ (s : State) (l : Fin 8) (k e r : Fin 4) (g : Fin 32), acts s = true → badReg s 6 [g] = none →
     ∃ t w, exec (.lstr l k e r g) s = .next t ∧ t.ctx.dws = s.ctx.dws ++ [w] ∧ w.due = s.ctx.now + 1 ∧
       t.ctx.r = s.ctx.r ∧ t.ctx.latches = s.ctx.latches ∧ sameStore s t ∧
       ∀ u : State, l.val < 6 → (getLoop (makeWrite u w) l).strd =
         (getLoop u l).strd.set k ⟨g != 0, e, r, (rdG s g).setWidth 24⟩ ∧
         (makeWrite u w).ctx.r.sh = u.ctx.r.sh ∧ (makeWrite u w).ctx.r.g = u.ctx.r.g ∧
         ∀ j : Fin 8, j.val < 6 → j ≠ l → getLoop (makeWrite u w) j = getLoop u j)

/-- R142, R204: LBRK at an active level passes control beyond it after two delay bundles; until then every level keeps
its state.
R204: after LBRK's second delay bundle its level and every level entered after it are inactive, with their stride
entries cleared and no stride applied, the levels entered before keep their state, and the next bundle is the one after
the level's end block. -/
def Obligations.LoopBreak : Prop :=
  (∀ (s : State) (l : Fin 8), acts s = true → s.ctx.iss.trapped = false → (getLoop s l).active = true →
     ∃ t, exec (.lbrk l) s = .next t ∧ t.ctx.pend = .lbrk l ∧ t.ctx.dly = 2 ∧ t.ctx.r = s.ctx.r ∧
       t.ctx.latches = s.ctx.latches ∧ t.ctx.dws = s.ctx.dws ∧ sameStore s t) ∧
  (∀ (s : State) (l : Fin 8) (inner outer : List (Fin 8)), s.ctx.pend = .lbrk l → l.val < 6 →
     s.ctx.r.order = inner ++ l :: outer → l ∉ inner → (∀ j ∈ outer, j ∉ l :: inner) →
     let t := divert s
     t.ctx.pc = (getLoop s l).stop + 64 ∧ t.ctx.pend = .none ∧ t.ctx.r.order = outer ∧ t.ctx.r.sh = s.ctx.r.sh ∧
       (∀ j : Fin 8, j.val < 6 → j ∈ l :: inner →
         (getLoop t j).active = false ∧ ∀ q : Fin 4, (getLoop t j).strd[q].en = false) ∧
       (∀ j : Fin 8, j.val < 6 → j ∉ l :: inner → getLoop t j = getLoop s j))

/-- R205, R206: a wait that acts leaves the wait of its context, with its target or its promise as they stand at its
issue, and changes no register, byte or latch.
R205, R206: WAITT is over at its target, WAITP at its promise once its commands are complete; before that the context
waits on. -/
def Obligations.WaitResults : Prop :=
  (∀ (s : State) (a : Fin 32) (n : BitVec 19) (k : Fin 8), acts s = true → badReg s 6 [a] = none →
     let waits := fun i w => ∃ t, exec i s = .next t ∧ t.ctx.wait = w ∧ t.ctx.r = s.ctx.r ∧ t.ctx.latches = s.ctx.latches ∧
       t.ctx.dws = s.ctx.dws ∧ t.ctx.pend = s.ctx.pend ∧ sameStore s t
     waits (.waittAbs a) (.waitt (max (s.ctx.now + 1) ((rdG s a).toNat % 2 ^ 48))) ∧
     waits (.waittRel n) (.waitt (s.ctx.now + 1 + n.toNat)) ∧
     waits (.waitp k) (.waitp k (max (s.ctx.now + 1) s.ctx.r.pm[k].toNat) (registered s.ctx k)
       s.ctx.r.grace.toNat s.ctx.iss.pc.toNat 0)) ∧
  (∀ (s : State), ∃ t, exec .waittExpiry s = .next t ∧ t.ctx.r = s.ctx.r ∧ sameStore s t ∧
     (∀ g, s.ctx.wait = .waitt g → t.ctx.wait = if g ≤ s.ctx.now then .none else .waitt g) ∧
     (∀ n g cs gr pc k, s.ctx.wait = .waitp n g cs gr pc k → t.ctx.wait =
       if g ≤ s.ctx.now ∧ ∀ c ∈ s.ctx.cq, c.id ∈ cs → c.left = 0 then .none else .waitp n g cs gr pc k) ∧
     (∀ l sc m, s.ctx.wait = .bar l sc m → t = s) ∧ (s.ctx.wait = .ending → t = s))

/-- R20, R117, R121, R127, R207: BAR and PHASE: PHASE.p closes the open phase at the prefix's scope; PHASE.a acquires at it
and waits for the deliveries of its snapshot; PHASE.pa does both; BAR at a level of its launch
closes the phase and waits for its participants, at level 0 it acquires at once, and at a level beyond its launch's it
raises ILLEGAL_ENCODING with the level.
That BAR at level 0 waits for its own deliveries alone is log entry 148. -/
def Obligations.PhaseAndBarrier : Prop :=
  ∀ (s : State) (l : Fin 8), acts s = true →
    let sc := s.ctx.pfx.scope
    let closed := fun t : State => t.ctx.openPh = s.ctx.openPh + 1 ∧ t.ctx.closing = s.ctx.closing ++ [(s.ctx.openPh, sc)]
    let acquired := fun t : State => ∀ k : Fin 5, t.ctx.stamps[k] = if k.val ≤ sc then s.net.pubs.length else s.ctx.stamps[k]
    let keeps := fun t : State => t.ctx.openPh = s.ctx.openPh ∧ t.ctx.closing = s.ctx.closing
    let next := fun i (P : State → Prop) => ∃ t, exec i s = .next t ∧ P t ∧ t.ctx.r = s.ctx.r ∧
      t.ctx.latches = s.ctx.latches ∧ t.net = s.net ∧ sameStore s t
    next .phaseP (fun t => closed t ∧ t.ctx.stamps = s.ctx.stamps ∧ t.ctx.wait = s.ctx.wait) ∧
    next .phaseA (fun t => keeps t ∧ acquired t ∧ t.ctx.wait = .phaseA sc s.net.pubs.length) ∧
    next .phasePa (fun t => closed t ∧ acquired t ∧ t.ctx.wait = .phaseA sc s.net.pubs.length) ∧
    next (.bar 0) (fun t => closed t ∧ acquired t ∧ t.ctx.bars = s.ctx.bars ∧ t.ctx.wait = .phaseA sc s.net.pubs.length) ∧
    (l ≠ 0 → l.val ≤ s.ctx.hdr.gang → l.val ≤ s.ctx.hdr.nf →
      next (.bar l) fun t => closed t ∧ t.ctx.stamps = s.ctx.stamps ∧ t.ctx.bars = s.ctx.bars ++ [(l.val, s.ctx.openPh)] ∧
        ∃ m, t.ctx.wait = .bar l.val sc m) ∧
    (l.val > s.ctx.hdr.gang ∨ l.val > s.ctx.hdr.nf →
      exec (.bar l) s = .next (takeTrap s (mkTrap s 0x01 (some (BitVec.ofNat 64 l.val)) none none)))

/-- R141, R208, R209, R210: the system operations that act: NOP does nothing; TRAP and SVC wait for the boundary after
their bundle; RTE returns after two delay bundles, and outside a handler raises FATAL_CONTEXT; END waits for the end of
the task and abandons a branch; YLD parks at the next boundary when a pre-emption is requested; HALT stops there. -/
def Obligations.SystemOperations : Prop :=
  ∀ (s : State) (im : BitVec 15), acts s = true → s.ctx.iss.trapped = false →
    let keeps := fun t : State => t.ctx.r = s.ctx.r ∧ t.ctx.latches = s.ctx.latches ∧ t.ctx.dws = s.ctx.dws ∧ sameStore s t
    let next := fun i (P : State → Prop) => ∃ t, exec i s = .next t ∧ keeps t ∧ P t
    next .nop (fun t => t.ctx.wait = s.ctx.wait ∧ t.ctx.pend = s.ctx.pend ∧ t.ctx.swt = s.ctx.swt ∧ t.ctx.after = s.ctx.after) ∧
    next (.trap im) (fun t => t.ctx.swt = some (im.toNat, false) ∧ t.ctx.wait = s.ctx.wait) ∧
    next (.svc im) (fun t => t.ctx.swt = some (im.toNat, true) ∧ t.ctx.wait = s.ctx.wait) ∧
    (s.ctx.status = .handler → next .rte fun t => t.ctx.pend = .rte s.ctx.iss.pc ∧ t.ctx.dly = 2) ∧
    (s.ctx.status ≠ .handler → ∃ t, exec .rte s = .next t ∧ t.ctx.tcause = (takeTrap s (fatalTrap s none none)).ctx.tcause ∧
      t.mem = (takeTrap s (fatalTrap s none none)).mem) ∧
    next .endTask (fun t => t.ctx.wait = .ending ∧ t.ctx.ended = true ∧ t.ctx.pend = .none) ∧
    next .yld (fun t => t.ctx.after = if s.ctx.preReq = true then 1 else s.ctx.after) ∧
    next .halt (fun t => t.ctx.after = 2)

/-- R144 to R147, R352: the prefix sets its bundle's scope and masks, and with OPV a request for its operating point:
nothing when that point is in force or on a station but 0, otherwise the island's pending point, but none while it settles.
R146: FIRST and LAST gate a syllable of an active level: it does not act in an iteration that is not the first, or not
the last. -/
def Obligations.PrefixResults : Prop :=
  (∀ (s : State) (sc op lv : Fin 8) (opv : Bool) (f z : BitVec 8),
     ∃ t, exec (.pfx sc opv op f z lv) s = .next t ∧ t.ctx.pfx = ⟨sc.val, f, z, lv⟩ ∧ t.ctx.r = s.ctx.r ∧
       t.ctx.latches = s.ctx.latches ∧ sameStore s t ∧
       (opv = true → (s.ctx.upper = false ∧ s.ctx.unit < 192 ∨ s.ctx.upper = true ∧ s.ctx.unit = 0) →
         (getIsland s s.ctx.gunit).opc ≠ op →
         (getIsland t s.ctx.gunit).req = op ∧
         (getIsland t s.ctx.gunit).pendOp = (if (getIsland s s.ctx.gunit).settle.isSome then (getIsland s s.ctx.gunit).pendOp
           else if (getIsland t s.ctx.gunit).point = (getIsland t s.ctx.gunit).opc then none
           else some (getIsland t s.ctx.gunit).point)) ∧
       (opv = false ∨ (getIsland s s.ctx.gunit).opc = op ∨ s.ctx.upper = true ∧ s.ctx.unit ≠ 0 →
         (getIsland t s.ctx.gunit).req = (getIsland s s.ctx.gunit).req ∧
         (getIsland t s.ctx.gunit).pendOp = (getIsland s s.ctx.gunit).pendOp)) ∧
  (∀ (s : State), rdP s s.ctx.iss.p ≠ s.ctx.iss.ng →
     let x := s.ctx.pfx
     let l := getLoop s x.lv
     let f := x.fst.getLsbD (s.ctx.iss.pos - 1)
     let z := x.lst.getLsbD (s.ctx.iss.pos - 1)
     acts s = (!l.active || (!f && !z) || (f && l.idx == 0) || (z && l.cnt == 0)))

/-! ## Encodings -/

/-- R137, R138, R144, R148, R149, R150, R151, R152, R153, R154: words written out from the encodings of the spec, with the
syllables that they stand for: the stop bit,
guard, swap and timed attributes, and the operands. -/
def Obligations.DecodeWords : Prop :=
  ∀ x ∈ ([
    (0x04C60001, ⟨false, 0, false, false, false, 0, .addi 6 6 1⟩),
    (0xAD0E4802, ⟨true, 2, false, false, false, 0, .ldW 7 4 0 2⟩),
    (0x10200006, ⟨false, 0, false, false, false, 0, .movi 1 0 6⟩),
    (0x28611000, ⟨false, 0, false, false, false, 0, .mul 3 1 2⟩),
    (0xBC200301, ⟨true, 0, false, false, false, 0, .loopi 0 3 1⟩),
    (0xC0020000, ⟨true, 0, false, false, false, 0, .endTask⟩),
    (0xC8090004, ⟨true, 0, false, false, false, 0, .vcmpS 0 4⟩),
    (0xD8000500, ⟨true, 0, false, false, false, 0, .vpush 5⟩),
    (0xD8202530, ⟨true, 0, false, true, false, 0, .vpop 5 6⟩),
    (0x5C002000, ⟨false, 0, false, false, false, 0, .mmaZ⟩),
    (0xDC310048, ⟨true, 0, false, true, true, 9, .accn 0 0⟩),
    (0xE0000403, ⟨true, 0, false, false, false, 0, .cpg 4 3⟩),
    (0xE0204503, ⟨true, 0, false, true, false, 0, .cps 5 3⟩),
    (0xC0260000, ⟨true, 0, false, false, false, 0, .waitp 3⟩),
    (0xEC006300, ⟨true, 0, false, false, false, 0, .decl 3⟩),
    (0xB4023008, ⟨true, 0, false, false, false, 0, .ctlrQ 1 8⟩),
    (0xC4100048, ⟨true, 0, false, false, true, 9, .vadd 0⟩),
    (0x912000F6, ⟨true, 0, false, false, false, 0, .movi 9 0 0xF6⟩),
    (0x1028FFFE, ⟨false, 0, false, false, false, 0, .movi 1 1 0xFFFE⟩),
    (0x9024042F, ⟨true, 0, false, false, false, 0, .movk 1 0 0x42F⟩),
    (0xC0010E01, ⟨true, 0, false, false, false, 0, .svc 0xE01⟩),
    (0xB086CC00, ⟨true, 1, false, false, false, 0, .stD 3 12 0 0⟩),
    (0x4429A200, ⟨false, 0, false, true, false, 0, .vfill 2⟩),
    (0x6C00A000, ⟨false, 0, false, false, false, 0, .pwrr⟩),
    (0x7C000008, ⟨false, 0, false, false, false, 0, .pfx 0 false 0 0 1 0⟩),
    (0xC010003C, ⟨true, 0, false, false, false, 0, .waittRel 0x3C⟩),
    (0xB8200003, ⟨true, 0, false, false, false, 0, .call 3⟩),
    (0x38C00001, ⟨false, 1, true, false, false, 0, .br 1⟩),
    (0x40018000, ⟨false, 0, false, false, false, 0, .rte⟩),
    (0xB4004F02, ⟨true, 0, false, false, false, 0, .ctlw 0 0xF02⟩),
    (0xBC104001, ⟨true, 0, false, false, false, 0, .loop 0 4 1⟩),
    (0xA142A003, ⟨true, 0, false, false, false, 0, .ffma 10 2 20 false 0⟩)] : List (Nat × Syl)),
    decodeWord x.1 = .ok x.2

/-- R137, R138, R144, R148, R149, R150, R151, R152, R153, R154: decoding the word of a well-formed syllable gives the syllable
back, with its stop bit, its guard, its
attributes and every operand. -/
def Obligations.DecodeOfEncode : Prop :=
  ∀ y : Syl, wellFormed y = true → encode y < 2 ^ 32 ∧ decodeWord (encode y) = .ok y

/-! ## The machine -/

/-- R101, R301, R418, R440: the machine right after reset: no context, no session, no launch, no segment and no queue; the
defaults of the configuration image and PQCAP at its value from boot; an island at its reset point; memory in its form.
That these values stand before boot, the zero of unlisted bytes and an island's first operating point are the model's choice
(log entries 1, 96 and 97). -/
def Obligations.ResetState : Prop :=
  let s := State.reset
  s.memWf ∧ (∀ a, memGet s.mem a = 0) ∧ allCtx s = [Ctx.vacant] ∧ s.agenda = [] ∧ s.rota = [] ∧ s.edge = [] ∧
    s.host.sessions = [] ∧ s.host.queues = [] ∧ s.host.launches = [] ∧ s.net.segs = [] ∧ s.net.pieces = [] ∧
    s.welt.slots = [] ∧ s.welt.pqcap = 16384 ∧ s.tick = 0 ∧ s.booted = false ∧
    s.img.kwp = 10000 ∧ s.img.slice = 1000 ∧ s.img.lvmax = 480 ∧ s.img.deflvl = 260 ∧ s.img.solebud = 44000 ∧
    s.img.upbud = 7200 ∧ s.img.thresh = 95 ∧ s.img.tcrit = 110 ∧ s.img.hangt = 10000000 ∧ s.img.dwait = 1000000000 ∧
    s.img.pstat = 800 ∧ s.img.age = List.replicate 8 1000 ∧
    ∀ n, (getIsland s n).opc = 0 ∧ (getIsland s n).req = 0 ∧ (getIsland s n).opcap = 7 ∧ (getIsland s n).lreq = 0 ∧
      (getIsland s n).rreq = 0

/-- R174, R350, R376: the registers of a task at its start: general registers, predicates, promise and quarantined registers
hold zero, each with the code of its value; no level is active and no stride entry set; FTBASE 0 and FTLEVEL 7; TVEC,
RMODE, FLG, FEN and PWRLVL 0; GRACE 100,000; TMR the preset of the header when TMEN is 1; the entry label as the program
counter; no window and no claim.
That the program counter is PROG plus ENTRY is log entry 16. -/
def Obligations.TaskStart : Prop :=
  ∀ (s : State) (l : Launch) (o u : Nat),
    let c := newCtx s l o u
    (∀ n, rdG { s with ctx := c } n = 0) ∧ (∀ n : Fin 32, c.r.gsyn[n] = 0) ∧ (∀ n : Fin 8, c.r.p[n] = false) ∧
      (∀ n : Fin 8, c.r.pm[n] = 0) ∧ (∀ n : Fin 4, c.r.q[n] = 0) ∧
      (∀ n : Fin 6, c.r.loops[n].active = false ∧ ∀ k : Fin 4, c.r.loops[n].strd[k].en = false) ∧
      c.r.ftbase = 0 ∧ c.r.ftlevel = 7 ∧ c.r.tvec = 0 ∧ c.r.rmode = 0 ∧ c.r.flg = 0 ∧ c.r.fen = 0 ∧ c.r.grace = 100000 ∧
      c.tmr = (if l.hdr.tmen = true then BitVec.ofNat 33 (2 ^ 32 + l.hdr.period) else 0) ∧ c.pwrlvl = 0 ∧
      c.pc = BitVec.ofNat 64 (l.hdr.prog + l.hdr.entry) ∧ c.wins = [] ∧ c.claims = [] ∧ c.tclk = 0 ∧ c.sv = false

/-- R5, R80, R415: every step keeps the form of memory: its keys rise strictly and no zero byte is listed. The form, and that
an unlisted byte reads 0, is the model's choice (log entry 1). -/
def Obligations.StepKeepsMemory : Prop := ∀ s t : State, s.memWf → step s = .next t → t.memWf

/-- R333, R367: how a step proceeds, which is the model's order of things (log entries 91 and 95). A step that is due is the row
of the opcode table that it names, and each is named by one row; with nothing due the
step is the turn of the next context of the real cycle. -/
def Obligations.StepRunsDueSteps : Prop :=
  (∀ (s : State) (e : Event) (es : List Event) (i : Instr), s.agenda = e :: es → instrEvent i = some e →
    step s = exec i { s with agenda := es }) ∧
  (∀ e : Event, ∃ i : Instr, instrEvent i = some e) ∧
  (∀ (s : State) (cid : Nat) (cs : List Nat), s.agenda = [] → s.rota = cid :: cs →
    step s = .next (turn { s with rota := cs } cid)) ∧
  (∀ s : State, s.agenda = [] → s.rota = [] → s.edge = [] → step s = .next (advance s)) ∧
  (∀ s : State, s.agenda = [] → s.rota = [] → s.edge ≠ [] → step s = .next { s with agenda := s.edge, edge := [] })

/-- R137, R157, R158, R160, R335: a step of the lead of a core that reaches its issue fetches the bundle at its program
counter and issues it. A word with its stop bit set that decodes to a syllable, which its context may use, is a bundle of
that syllable alone; and its issue is the instruction's own meaning at that state, after which the program counter moves on
and the task cycle is made.
The order of a bundle's refusals is log entry 18. -/
def Obligations.StepRunsTheDecodedInstruction : Prop :=
  (∀ (s : State) (cid : Nat) (cs : List Nat) (b : Bundle), s.agenda = [] → s.rota = cid :: cs →
    leads { s with rota := cs } cid →
    let f := focus { s with rota := cs } cid
    let u := atIssue f
    let v := u.up fun c => { c with iss := { Issue.alone with pc := c.pc } }
    reachesIssue f → u.ctx.inCode u.ctx.pc = true → decodeBundle u.ctx u.ctx.pc = .ok b →
      step s = .next (settleHang f (issueBundle v b))) ∧
  (∀ (c : Ctx) (a : Word) (w : Nat) (y : Syl), (blockWords c a).head? = some w → bit w 31 = true → decodeWord w = .ok y →
    (classOf (major w) < 7) → ctxReason c w = none → (c.dly = 0 ∨ isBranch w = false) →
      decodeBundle c a = .ok ⟨none, [(w, y)], 4⟩) ∧
  (∀ (u t0 t : State) (w : Nat) (y : Syl), classOf (major w) < 7 →
    let b : Bundle := ⟨none, [(w, y)], 4⟩
    let v := (prepare u b).up fun c => { c with iss := aloneIssue u.ctx.pc w y }
    exec y.op (u.up fun c => { c with pfx := Pfx.none, iss := aloneIssue u.ctx.pc w y }) = .next t0 →
    (t0.ctx.iss.trapped = true → issueBundle u b = t0) ∧
    (t0.ctx.iss.trapped = false → exec y.op v = .next t → t.ctx.latches.length ≤ 32 →
      let r := closeCycle ((advancePc (sortLatches t) u.ctx.pc u.ctx.dly).up fun c => { c with lanes := laneMask b })
      issueBundle u b = match rteDone t u.ctx.dly with | some p => endHandler r p | none => r))

/-! ## Traps -/

/-- R365, R367, R368, R369, R373: a trap whose first destination is TVEC, taken outside a handler by a context that has a
TVEC, be it raised at issue or chosen at a boundary: the frame in the Heel holds the cause, its info words and the
context's registers, and no other byte of memory changes; the context then stands at TVEC in handler state with
supervisor rights, its handler clock at 0, its engine grant empty, no latch, write, wait or branch of its own pending, and
its registers at their trapped values; what was pending is kept.
R371, R372: the frame holds the pending latches and the commands of the engines too.
TVEC is the one in force at the boundary (log 126). What is kept beside the frame, and the program counter of an event that
meets a pending iteration boundary, is log entry 22. -/
def Obligations.TrapEntry : Prop :=
  (∀ (s : State) (x : Trap), goesToHandler s x → entersHandler s x 0 (takeTrap s x)) ∧
  ∀ (s : State) (x : Trap) (fl : Nat), chosen s s.ctx.now = some (.trap x fl) → goesToHandler s x →
    ∃ t, exec .takingATrap s = .next t ∧ entersHandler s x (BitVec.ofNat 6 fl) t

/-- R366, R367, R373, R376, R377, R378: at its boundary a context takes the event that comes first; a software trap, a
signal, a timer period and a notice enter the handler with their cause and info words. A trap in handler state, a fatal
cause, and any cause when TVEC is 0, end the launch: its record keeps the cause, the info words and the work identifier of the
first task that failed. Every task of a launch that ends retires, without its latches, its commands and the pieces of its open
phase, its closed phases kept; and once none lives, the completion record says what failed, with a digest of zero.
A cause of the Cobbler leaves the context in its hands with its frame written: a mismatch on a unit not yet classified has
the unit tested; POWER_OVER, and an SVC of a reserved immediate, go to TVEC, or are fatal when TVEC is 0; the other SVC waits
for its service; PREEMPT_LATE parks the context; and a logit task that traps is to be ended with LOGIT_FAULT.
The info words of a trap that becomes FATAL_CONTEXT are log entry 21, the TVEC in force at the boundary is log entry 126,
and that every trap of a logit task is its fault is log entry 127. -/
def Obligations.TrapDestinations : Prop :=
  (∀ (s : State), let c := s.ctx
     (∀ t, chosen s c.now = some t → exec .takingATrap s = .next (takeEvent s c.now t)) ∧
     (chosen s c.now = none → exec .takingATrap s = .next s) ∧
     let enters := fun (x : Trap) (P : Vector Word 4 → Prop) => goesToHandler s x → ∃ t, exec .takingATrap s = .next t ∧
       t.ctx.status = .handler ∧ t.ctx.pc = tvecDue c.r.tvec c.dws c.tclk ∧ t.ctx.r = c.r ∧ t.ctx.tcause = x.cause ∧
       P t.ctx.tinfo
     (∀ im, chosen s c.now = some (.soft im false) → enters ⟨0x10, BitVec.ofNat 64 im, 0, 0, 0⟩ fun v =>
       v[0] = BitVec.ofNat 64 im ∧ v[1] = 0) ∧
     (∀ w, chosen s c.now = some (.signal w) → enters ⟨0x30, w, 0, 0, 0⟩ fun v => v[0] = w) ∧
     (∀ n, chosen s c.now = some (.timer n) → enters ⟨0x31, 0, BitVec.ofNat 64 n, 0, 0⟩ fun v =>
       v[0] = 0 ∧ v[1] = BitVec.ofNat 64 n) ∧
     (∀ k, chosen s c.now = some (.notice k) → enters ⟨0x33, BitVec.ofNat 64 k, 0, 0, 0⟩ fun v =>
       v[0] = BitVec.ofNat 64 k)) ∧
  (∀ (s : State) (x : Trap), let c := s.ctx; let t := takeTrap s x
    let info : Vector Word 4 := #v[x.i0, x.i1, x.i2, x.i3]
    let framed := fun cause => frameDword t 1 = BitVec.ofNat 64 cause ∧ frameDword t 2 = x.i0 ∧ frameDword t 3 = x.i1 ∧
      frameDword t 4 = x.i2 ∧ frameDword t 5 = x.i3 ∧ t.ctx.tcause = cause ∧ t.ctx.tinfo = info
    let ends := fun cause => t.ctx.status = .trapped ∧ t.ctx.tcause = cause ∧ t.ctx.tinfo = info ∧
      t.agenda = s.agenda ++ [.taskRetirement c.cid] ∧
      t.host.launches = s.host.launches.map fun l => if l.lid = c.lid then
        { l with ending := true, failed := l.failed.or (some (cause, c.wid, info)) } else l
    let tvec := tvecDue c.r.tvec c.dws c.tclk
    let handled := (tvec ≠ 0 → t.ctx.status = .handler ∧ t.ctx.pc = tvec ∧ framed x.cause) ∧ (tvec = 0 → ends 0x21)
    (logitSlot c = none → c.status = .handler → ends 0x21 ∧
      (c.saved.isSome = true → frameDword t 1 = 0x21 ∧ frameDword t 2 = x.i0 ∧
        ∀ k, (k < heelKey (frameAddr c + 8) ∨ heelKey (frameAddr c + 8) + 40 ≤ k) → memGet t.mem k = memGet s.mem k)) ∧
    (c.status ≠ .handler → logitSlot c = none →
      (x.cause = 0x21 ∨ x.cause = 0x25 → ends x.cause ∧ framed x.cause) ∧
      (toCobbler x.cause (x.cause == 0x10 && x.i1 == 1) = false → tvec = 0 → ends 0x21) ∧
      (x.cause = 0x16 → (∀ y ∈ s.cob.classified, y.cid ≠ c.cid) → t.ctx.status = .trapped ∧ framed 0x16 ∧ t.agenda = s.agenda ∧
        ∃ y ∈ t.cob.tests, (y.ukind, y.idx) = implicated t.ctx x ∧ (c.cid, s.tick) ∈ y.cids ∧
          (s.cob.tests = [] → s.tick < y.ends ∧ y.ends ≤ s.tick + 5000)) ∧
      (x.cause = 0x22 → handled) ∧
      (x.cause = 0x10 → x.i1 = 1 → x.i0 ≠ 0xE01 → x.i0 ≠ 0xE02 → handled) ∧
      (x.cause = 0x10 → x.i1 = 1 → x.i0 = 0xE01 ∨ x.i0 = 0xE02 → t.ctx.status = .trapped ∧ framed 0x10 ∧ t.agenda = s.agenda) ∧
      (x.cause = 0x24 ∨ x.cause = 0x20 → t.ctx.status = .trapped ∧ framed x.cause)) ∧
    (c.status ≠ .handler → x.cause = 0x23 → t.ctx.role = .parked ∧ t.ctx.status = .running ∧ t.ctx.preReq = false ∧
      t.ctx.preLate = false ∧ t.ctx.saved.isSome = true ∧ framed 0x23 ∧ t.agenda = s.agenda) ∧
    (c.status ≠ .handler → (logitSlot c).isSome = true → x.cause < 0x16 ∨ x.cause = 0x21 ∨ x.cause = 0x22 →
      t.ctx.status = .trapped ∧ t.ctx.tcause = 0x24 ∧ frameDword t 1 = 0x24 ∧ t.agenda = s.agenda ++ [.logitFault c.cid])) ∧
  (∀ (s : State) (cid : Nat) (c : Ctx) (l : Launch), findCtx s cid = some c → findLaunch s c.lid = some l → l.ending = true →
    ∃ t d, exec (.taskRetirement cid) s = .next t ∧ t.ctx = Ctx.vacant ∧ d ∈ t.others ∧ d.cid = cid ∧ d.status = .retired ∧
      d.latches = [] ∧ d.dws = [] ∧ d.uws = [] ∧ d.vq = [] ∧ d.xq = [] ∧ d.cq = [] ∧ d.closing = c.closing ∧ d.openPh = c.openPh ∧
      ∀ p, p ∈ t.net.pieces ↔ p ∈ s.net.pieces ∧ ¬(p.src = c.src ∧ p.phase = c.openPh)) ∧
  ∀ (s : State) (lid cause : Nat) (wid : Word) (v : Vector Word 4) (l : Launch) (q : WorkQueue), findLaunch s lid = some l →
    launchDone s l = true → l.failed = some (cause, wid, v) → findQueue s l.hdr.queue = some q →
    (findSession s q.sid).isSome = true → ∃ t p, exec (.launchCompletion lid) s = .next t ∧ t.host.out = s.host.out ++ [p] ∧
      p.sid = q.sid ∧ p.type = 0x81 ∧ p.body = leBytes 8 1 ++ leBytes 8 l.hdr.tag.toNat ++ leBytes 2 cause ++ leBytes 6 0 ++
        leBytes 8 wid.toNat ++ v.toList.flatMap (fun w => leBytes 8 w.toNat) ++ List.replicate 32 0

/-- R339, R349, R370, R371, R375: whatever a handler has done to its registers and latches, as long as the frame stands, RTE
resumes the context at its trapped program counter and TCLK with its registers, g0 and p0 zero, the pending branch and its
count, the YLD, its wait, a WAITP counting its GRACE anew, a software trap not yet taken, its energy, and with the supervisor
rights of before.
R371, R375: its pending latches are pending again, due when they were, each with the address of its record.
R456: its deferred writes are pending again.
That TVEC is the handler's, and that the order of the levels, the engine grant, the YLD and a pending iteration boundary come
back from beside the frame, is log entry 22. -/
def Obligations.TrapReturn : Prop :=
  ∀ (s u : State) (x : Trap) (pc : Word), goesToHandler s x → s.ctx.r.rmode.toNat < 6 → s.ctx.r.ftlevel ≠ 6 →
    s.ctx.dly < 4 → s.ctx.energy < 2 ^ 48 → (∀ y, s.ctx.swt = some y → y.1 < 2 ^ 16) → u.mem = (takeTrap s x).mem →
    u.ctx.saved = (takeTrap s x).ctx.saved → frameAddr u.ctx = frameAddr s.ctx → u.ctx.cobbler = s.ctx.cobbler →
    let t := returnFromTrap u pc
    let c := s.ctx
    t.ctx.status = .running ∧ t.ctx.sv = c.cobbler ∧ t.ctx.pc = c.pc ∧ t.ctx.tclk = c.tclk ∧
      t.ctx.saved = none ∧ t.ctx.dws = c.dws ∧ t.ctx.grant = c.grant ∧ t.ctx.fin = c.fin ∧
      t.ctx.after = c.after ∧ t.ctx.wait = resumeWait c.wait c.r.grace.toNat ∧ t.ctx.swt = c.swt ∧ t.ctx.detval = none ∧
      t.ctx.energy = c.energy ∧ t.ctx.energySat = c.energySat ∧
      t.ctx.dly = c.dly ∧ (∀ b, c.pend = .branch b → t.ctx.pend = .branch b) ∧
      (∀ l, c.pend = .lbrk l → t.ctx.pend = .lbrk l) ∧ (c.pend = .none → t.ctx.pend = .none) ∧
      (c.redo = [] → c.latches.length ≤ 32 → (∀ l ∈ c.latches, l.valid = true ∧ c.tclk ≤ l.due ∧ l.due < c.tclk + 2 ^ 20) →
        t.ctx.latches.length = c.latches.length ∧ ∀ (i : Nat) (l : Latch), c.latches[i]? = some l →
          t.ctx.latches[i]? = some { l with frm := some (frameAddr c + 0x808 + 16 * i) }) ∧
      t.ctx.r = { s.ctx.r with
        g := s.ctx.r.g.set 0 0, gsyn := s.ctx.r.gsyn.set 0 0, p := s.ctx.r.p.set 0 false, tvec := u.ctx.r.tvec } ∧
      t.ctx.vq = u.ctx.vq ∧ t.ctx.xq = u.ctx.xq ∧ t.ctx.cq = u.ctx.cq ∧ t.ctx.uws = u.ctx.uws ∧ t.mem = u.mem

/-! ## V, X and C: engine instructions -/

/-- R164, R214, R243, R263, R344: every V, X and C instruction: one that acts, whose issue raises nothing and that nothing
holds, takes an entry of its engine's queue; one whose checks fail takes its trap. -/
def Obligations.EngineInstructionsIssue : Prop :=
  ∀ (s : State) (i : Instr),
    ((engineForm s i).isSome = true → format i = .timed ∨ format i = .untimed) ∧
    (format i = .timed ∨ format i = .untimed → (engineForm s i).isSome = true ∨
      s.ctx.status = .handler ∧ ∃ a, i = .accst a ∨ i = .accld a) ∧
    ∀ f, engineForm s i = some f →
      (f.runs s → exec i s = .next (f.next s)) ∧
      ∀ x, acts s = true → f.trap s = some x → exec i s = .next (takeTrap s x)

/-- R93, R258, R259, R373: ACCST and ACCLD of a trap handler move the trapped context's tile that xd0 names: ACCST writes every
cell of it to the image at ga in the Heel and changes no byte outside the image, and ACCLD reads every cell back.
That the whole tile moves at the issue is log entry 27. -/
def Obligations.AccumulatorImages : Prop :=
  ∀ (s : State) (a : Fin 32), s.ctx.status = .handler → acts s = true → imageTrap s a = none →
    let at_ := (rdG s a).toNat
    let tile := (captured (swapped s 1) 1 0).acc.toNat
    (∃ t, exec (.accst a) s = .next t ∧ t.ctx.xq = s.ctx.xq ∧ t.acc = s.acc ∧
      (∀ r c, r < 128 → c < 128 → leNat (memRead t.mem (heelKey (at_ + 6 * (128 * r + c))) 6) = accGet s tile r c) ∧
      ∀ k, (k < heelKey at_ ∨ heelKey at_ + 100352 ≤ k) → memGet t.mem k = memGet s.mem k) ∧
    (∃ t, exec (.accld a) s = .next t ∧ t.ctx.xq = s.ctx.xq ∧ t.mem = s.mem ∧
      (∀ r c, r < 128 → c < 128 → accGet t tile r c = leNat (memRead s.mem (heelKey (at_ + 6 * (128 * r + c))) 6)) ∧
      ∀ k r c, k ≠ tile → accGet t k r c = accGet s k r c)

/-- R28, R29, R31, R72, R97, R99, R267, R344, R345, R424: what the issue of an engine instruction leaves: its record at the end of
its own engine's queue, with the resolved shape registers after the swap, its scalar operands, its issue and its nominal start;
a promise latch at +2 at most; the engine's shape registers exchanged when SW is set; its charge; and of the rest of the context
nothing but the count of its COLLs and the claim that VPUSH or VPOP takes: a side that no context claims gets this context's
number in the control word, whose other bytes, like all of memory, are kept. -/
def Obligations.EngineIssueLeaves : Prop :=
  ∀ (s : State) (i : Instr) (f : EForm), engineForm s i = some f → f.runs s →
    let t := f.next s
    let e := f.op.eng
    let c := s.ctx
    let a := f.ga.toNat
    let word := fun u : State => QWord.ofNat (leNat (spadRead u a 32))
    t.ctx = { c.charge (weight s 5) true with
      r := t.ctx.r, latches := t.ctx.latches, vq := t.ctx.vq, xq := t.ctx.xq, cq := t.ctx.cq, claims := t.ctx.claims
      colls := t.ctx.colls } ∧
      t.ctx.r = (if c.iss.sw = true then swapRegs c.r e.castSucc else c.r) ∧
      t.net = s.net ∧ t.host = s.host ∧ t.agenda = s.agenda ∧ t.others = s.others ∧
      (∀ e', e' ≠ e → t.ctx.queue e' = c.queue e') ∧
      (∃ k, t.ctx.queue e = c.queue e ++ [k] ∧ k.ga = f.ga ∧ k.gb = f.gb ∧ k.issue = c.now ∧ k.pc = c.iss.pc ∧
        k.state = .queued ∧ k.nominal = (if c.iss.tm = true then (rdG s c.iss.b).toNat % 2 ^ 48 else c.now) ∧
        ∀ n, k.sh n = captured (swapped s e) e n) ∧
      (∃ ls, t.ctx.latches = c.latches ++ ls ∧ ls.length ≤ 1 ∧ ∀ l ∈ ls, l.due = c.now + 2 ∧ ∃ n, l.dest = .pm n) ∧
      ((∀ o, f.op ≠ .coll o) → t.ctx.colls = c.colls) ∧
      (claims i = false → sameStore s t ∧ t.ctx.claims = c.claims) ∧
      t.synd = s.synd ∧ t.acc = s.acc ∧ t.asyn = s.asyn ∧
      (∀ n, n ∈ c.claims → n ∈ t.ctx.claims) ∧ (∀ n, n ∈ t.ctx.claims → n ∈ c.claims ∨ n = a) ∧
      (∀ x, i = .vpush x → c.ctxno < 16 → (readQ s a).pctx = 15 → (word t).pctx = c.ctxno ∧ a ∈ t.ctx.claims) ∧
      (∀ x y, i = .vpop x y → c.ctxno < 16 → (readQ s a).cctx = 15 → (word t).cctx = c.ctxno ∧ a ∈ t.ctx.claims) ∧
      ∀ k, (k < spadKey c.gunit (a + 1) ∨ spadKey c.gunit (a + 1) + 2 ≤ k) → memGet t.mem k = memGet s.mem k

/-- R29: an engine syllable with its swap bit set exchanges, at issue, all four shape registers of its engine with their
shadows, before it reads any of them, and no register of another engine; one that does not act swaps nothing. -/
def Obligations.SwapExchangesShapes : Prop :=
  ∀ (s : State) (i : Instr) (f : EForm), engineForm s i = some f → s.ctx.iss.sw = true →
    let e := f.op.eng
    (f.runs s → ∃ t k, exec i s = .next t ∧ t.ctx.queue e = s.ctx.queue e ++ [k] ∧
      ∀ n : Fin 4, getSh t.ctx.r e.castSucc n = getSd s.ctx.r e.castSucc n ∧
        getSd t.ctx.r e.castSucc n = getSh s.ctx.r e.castSucc n ∧
        ((getSd s.ctx.r e.castSucc n).fmt ≠ 31 → k.sh n = getSd s.ctx.r e.castSucc n) ∧
        ∀ e' : Fin 4, e'.val < 3 → e' ≠ e.castSucc →
          getSh t.ctx.r e' n = getSh s.ctx.r e' n ∧ getSd t.ctx.r e' n = getSd s.ctx.r e' n) ∧
    (acts s = false → ∃ t, exec i s = .next t ∧ t.ctx.r = s.ctx.r)

/-- R43, R61, R213, R220, R221, R223: the elements of the V operations on integer formats: sums, differences, products and
multiply-adds wrap to the width of the format with modifier 0, and are clamped to its range with modifier 1, IS being raised
when they are; minimum, maximum, bit by bit operations, shifts by the second element modulo the width, funnel shifts and bit
reversal; and the bit counts, field extracts and field inserts. R57, R68, R246: a cell of an integer product: the old cell
plus the sum of the products of a k-group, clamped to 48 bits.
R220: the elements of formats in group F by the operations of IEEE 754; absolute value and negation change the sign bit
alone. R221, R222: VCMP writes 1 or 0 by its relation, with invalid as a NaN makes it; VSEL chooses. R66: conversions between
integer formats clamp; one of a floating value to an integer format gives 0 for a NaN and the bound it passes otherwise.
R73, R74: the special functions at their special inputs, and where they are exact; VRCP is the quotient 1/x.
R69, R247, R246: a cell of a floating product: the old cell plus the exact sum of the products, times the scales of MMAS,
rounded once to FX48; the canonical NaN when an element is a NaN. R253, R257: the elements of ACCN and of ACCX.
That a quiet NaN among the products raises invalid is log entry 46; that stochastic rounding to an integer format clamps after its
draw is log entry 122. -/
def Obligations.ElementResults : Prop :=
  (∀ (f g a b d : Nat) (md : Mode), fmtIsInt f = true → a < 2 ^ fmtBits f → b < 2 ^ fmtBits f → d < 2 ^ fmtBits f →
    let w := fmtBits f
    let o := b % w
    let lo : Int := if fmtSigned f = true then -(2 ^ (w - 1)) else 0
    let hi : Int := lo + 2 ^ w - 1
    let el := fun op mode => elemOp op f g mode md a b d
    let arith := fun op (v : Int) =>
      ((el op 0).bits < 2 ^ w ∧ ((el op 0).bits - v) % 2 ^ w = 0 ∧ (el op 0).fl = 0) ∧
      ((el op 1).bits < 2 ^ w ∧ intDecode f (el op 1).bits = max lo (min hi v) ∧
        (el op 1).fl = if v < lo ∨ hi < v then flIS else 0)
    let bit := fun op (P : Nat → Bool) => (el op 0).bits < 2 ^ w ∧ ∀ i, i < w → (el op 0).bits.testBit i = P i
    arith .add (intDecode f a + intDecode f b) ∧ arith .sub (intDecode f a - intDecode f b) ∧
    arith .mul (intDecode f a * intDecode f b) ∧ arith .fma (intDecode f a * intDecode f b + intDecode f d) ∧
    arith .fms (intDecode f d - intDecode f a * intDecode f b) ∧ arith .neg (-intDecode f a) ∧
    (fmtSigned f = true → arith .abs (intDecode f a).natAbs) ∧
    ((el .mulh 0).bits < 2 ^ w ∧ ((el .mulh 0).bits - intDecode f a * intDecode f b / 2 ^ w) % 2 ^ w = 0) ∧
    intDecode f (el .min 0).bits = min (intDecode f a) (intDecode f b) ∧
    intDecode f (el .max 0).bits = max (intDecode f a) (intDecode f b) ∧
    bit .and (fun i => a.testBit i && b.testBit i) ∧ bit .or (fun i => a.testBit i || b.testBit i) ∧
    bit .xor (fun i => a.testBit i ^^ b.testBit i) ∧ bit .andn (fun i => a.testBit i && !b.testBit i) ∧
    bit .not (fun i => !a.testBit i) ∧ bit .brev (fun i => a.testBit (w - 1 - i)) ∧
    bit .shl (fun i => decide (o ≤ i) && a.testBit (i - o)) ∧ bit .shr (fun i => a.testBit (i + o)) ∧
    bit .sar (fun i => a.testBit (min (i + o) (w - 1))) ∧
    bit .fshl (fun i => if o ≤ i then a.testBit (i - o) else d.testBit (w + i - o)) ∧
    bit .fshr (fun i => if i + o < w then d.testBit (i + o) else a.testBit (i + o - w))) ∧
  (∀ (c : Cmd) (buf : List (List Nat)) (g i j old : Nat), (c.sh 0).f = 19 → groupKs c g ≠ [] →
    let v := intDecode 19 old + ((groupKs c g).map fun x => intDecode (c.sh 1).f (aElem c buf i x.1) *
      (if x.2 = true then intDecode (c.sh 2).f (bElem c buf x.1 j) else 0)).sum
    let r := groupCell c buf g i j old
    r.bits < 2 ^ 48 ∧ intDecode 19 r.bits = max (-(2 ^ 47)) (min (2 ^ 47 - 1) v) ∧
      r.fl = if v < -(2 ^ 47) ∨ 2 ^ 47 - 1 < v then flIS else 0) ∧
  (∀ (f g mode a b d : Nat) (md : Mode),
    let w := fmtBits f
    let X := fpDecode f a
    let Y := fpDecode f b
    let Z := fpDecode f d
    let el := fun op => elemOp op f g mode md a b d
    let inv := X.isSig ∨ Y.isSig
    let rel := fun (r : Nat) (P : Prop) => (el (.cmp r)).bits ≤ 1 ∧ ((el (.cmp r)).bits = 1 ↔ P)
    let quiet := fun r => (el (.cmp r)).fl = 0 ∧ ¬inv ∨ (el (.cmp r)).fl = flNV ∧ inv
    let ordered := fun r => (el (.cmp r)).fl = 0 ∧ ¬(X.isNan ∨ Y.isNan) ∨ (el (.cmp r)).fl = flNV ∧ (X.isNan ∨ Y.isNan)
    (fmtF f = true →
      el .add = fpAdd f md X Y ∧ el .sub = fpAdd f md X Y.negate ∧ el .mul = fpMul f md X Y ∧ el .fma = fpFma f md X Y Z ∧
      el .fms = fpFma f md X.negate Y Z ∧ el .min = fpMinMax f false a b ∧ el .max = fpMinMax f true a b ∧
      el .div = fpDiv f md X Y ∧ el .sqrt = fpSqrt f md X) ∧
    (fmtF f = true ∨ fmtE f = true → a < 2 ^ w →
      (∀ i, i < w → (el .abs).bits.testBit i = (a.testBit i && i != w - 1)) ∧ (el .abs).bits < 2 ^ w ∧ (el .abs).fl = 0 ∧
      (∀ i, i < w → (el .neg).bits.testBit i = (a.testBit i ^^ i == w - 1)) ∧ (el .neg).bits < 2 ^ w ∧ (el .neg).fl = 0) ∧
    (fmtIsInt f = true →
      rel 0 (intDecode f a = intDecode f b) ∧ rel 1 (intDecode f a ≠ intDecode f b) ∧ rel 2 (intDecode f a < intDecode f b) ∧
      rel 3 (intDecode f a ≤ intDecode f b) ∧ rel 4 (intDecode f b < intDecode f a) ∧ rel 5 (intDecode f b ≤ intDecode f a) ∧
      ∀ r, (el (.cmp r)).fl = 0) ∧
    (fmtF f = true →
      let o := fpCompare X Y
      rel 0 (o = some .eq) ∧ quiet 0 ∧ rel 1 (o ≠ some .eq) ∧ quiet 1 ∧ rel 2 (o = some .lt) ∧ ordered 2 ∧
      rel 3 (o = some .lt ∨ o = some .eq) ∧ ordered 3 ∧ rel 4 (o = some .gt) ∧ ordered 4 ∧
      rel 5 (o = some .gt ∨ o = some .eq) ∧ ordered 5 ∧ rel 6 (X.isNan ∨ Y.isNan) ∧ quiet 6 ∧
      (o = none ↔ X.isNan ∨ Y.isNan)) ∧
    (el .sel).bits = (if d = 0 then b else a) ∧ (el .sel).fl = 0 ∧ el .mov = .plain a ∧ el .tran = .plain a ∧
    (fmtI8 f = true → a < 2 ^ w → d < 2 ^ w →
      let ones := fun n => ((List.range n).filter fun i => a.testBit i).length
      let o := b % w
      let n := min (min (b / 2 ^ 8 % 128) w) (w - o)
      let k := (el .clz).bits
      let j := (el .fns).bits
      (el .popc).bits = ones w ∧ k ≤ w ∧ (∀ i, w - k ≤ i → a.testBit i = false) ∧ (k < w → a.testBit (w - 1 - k) = true) ∧
      ((j < w ∧ a.testBit j = true ∧ ones j = b) ∨ (j = w ∧ ones w ≤ b)) ∧
      (∀ i, (el .bfx).bits.testBit i = (decide (0 < n) && (if i < n then a.testBit (o + i)
        else fmtSigned f && decide (i < w) && a.testBit (o + n - 1)))) ∧
      ∀ i, (el .bfi).bits.testBit i = if o ≤ i ∧ i < o + n then a.testBit (i - o) else d.testBit i)) ∧
  (∀ (f g mode a : Nat) (md : Mode), fmtIsInt g = true →
    let r := elemOp .cvt f g mode md a 0 0
    let w := fmtBits g
    let lo : Int := if fmtSigned g = true then -(2 ^ (w - 1)) else 0
    let hi : Int := lo + 2 ^ w - 1
    r.bits < 2 ^ w ∧
    (fmtIsInt f = true → let v := intDecode f a
      intDecode g r.bits = max lo (min hi v) ∧ r.fl = if v < lo ∨ hi < v then flIS else 0) ∧
    (fmtIsFloat f = true →
      ((fpDecode f a).isNan → r.bits = 0 ∧ r.fl = flNV) ∧
      (∀ n, fpDecode f a = .inf n → intDecode g r.bits = (if n = true then lo else hi) ∧ r.fl = flNV) ∧
      (∀ n m e, fpDecode f a = .fin n m e → let v := (fpDecode f a).rat
        ∃ k : Int, (k : Rat) < v + 1 ∧ v < k + 1 ∧ (md.code = 0 ∨ md.code = 4 → 2 * (k : Rat) ≤ 2 * v + 1 ∧ 2 * v ≤ 2 * k + 1) ∧
          (md.code = 1 → (0 ≤ v → (k : Rat) ≤ v) ∧ (v ≤ 0 → v ≤ k)) ∧ (md.code = 2 → v ≤ k) ∧ (md.code = 3 → (k : Rat) ≤ v) ∧
          intDecode g r.bits = max lo (min hi k) ∧
          r.fl = if k < lo ∨ hi < k then flNV else if (k : Rat) = v then 0 else flNX))) ∧
  (∀ (g mode : Nat) (md : Mode),
    let el := fun op a => elemOp op 11 g mode md a 0 0
    (∀ a, el .rcp a = fpDiv 11 ⟨0, 0⟩ (.fin false 1 0) (fpDecode 11 a)) ∧
    el .exp2 0xFF800000 = .plain 0 ∧ el .exp2 0x80000000 = .plain 0x3F800000 ∧ el .exp2 0 = .plain 0x3F800000 ∧
    el .exp2 0x7F800000 = .plain 0x7F800000 ∧
    el .log2 0xFF800000 = ⟨0x7FC00000, flNV, false, false⟩ ∧ el .log2 0x80000000 = ⟨0xFF800000, flDZ, false, false⟩ ∧
    el .log2 0 = ⟨0xFF800000, flDZ, false, false⟩ ∧ el .log2 0x7F800000 = .plain 0x7F800000 ∧
    el .rsqrt 0xFF800000 = ⟨0x7FC00000, flNV, false, false⟩ ∧ el .rsqrt 0x80000000 = ⟨0xFF800000, flDZ, false, false⟩ ∧
    el .rsqrt 0 = ⟨0x7F800000, flDZ, false, false⟩ ∧ el .rsqrt 0x7F800000 = .plain 0 ∧
    (∀ a m e, fpDecode 11 a = .fin true m e → m ≠ 0 →
      el .log2 a = ⟨0x7FC00000, flNV, false, false⟩ ∧ el .rsqrt a = ⟨0x7FC00000, flNV, false, false⟩) ∧
    (∀ a, (fpDecode 11 a).isNan → ∀ op, op = EOp.exp2 ∨ op = EOp.log2 ∨ op = EOp.rsqrt →
      (el op a).bits = 0x7FC00000 ∧ ((fpDecode 11 a).isSig ↔ (el op a).fl = flNV)) ∧
    (∀ (a : Nat) (k : Int), (fpDecode 11 a).finite → (fpDecode 11 a).rat = k → -126 ≤ k → k ≤ 127 → k ≠ 0 →
      el .exp2 a = .plain ((k + 127).toNat * 2 ^ 23)) ∧
    ∀ k : Nat, 0 < k → k < 255 → (el .log2 (k * 2 ^ 23)).fl = 0 ∧
      (fpDecode 11 (el .log2 (k * 2 ^ 23)).bits).rat = (k : Rat) - 127) ∧
  (∀ (c : Cmd) (buf : List (List Nat)) (g i j old : Nat), (c.sh 0).f = 18 → groupKs c g ≠ [] →
    let ks := groupKs c g
    let A := fun x => (cellPair c buf i j x).1
    let B := fun x => (cellPair c buf i j x).2
    let r := groupCell c buf g i j old
    let exact := fun q : Rat => ∃ n m e, (Val.fin n m e).rat = q ∧
      r = fpAdd 18 ⟨0, 0⟩ (fpDecode 18 old) (.fin n m e)
    let sc := fun at_ row => fpDecode 13 (c.st.getD (at_ + (keptRow buf 3 row).getD g 0) 0).toNat
    ((∃ z, c.op = .mma z) →
      ((∀ x ∈ ks, (A x).finite ∧ (B x).finite) → exact (ks.map fun x => (A x).rat * (B x).rat).sum) ∧
      ((∃ x ∈ ks, (A x).isNan ∨ (B x).isNan) → r.bits = canonNaN 18 ∧ r.fl = flNV)) ∧
    ((∃ z, c.op = .mmas z) → let a := sc 0 i; let b := sc 16 ((c.sh 1).lr + j)
      (a.finite → b.finite → (∀ x ∈ ks, (A x).finite ∧ (B x).finite) →
        exact ((ks.map fun x => (A x).rat * (B x).rat).sum * a.rat * b.rat)) ∧
      ((∃ x ∈ ks, (A x).isNan ∨ (B x).isNan) ∨ a.isNan ∨ b.isNan → r.bits = canonNaN 18))) ∧
  (∀ (s : State) (c : Cmd) (i j cell : Nat),
    let d := c.sh 1
    let md := modeOf s.ctx c.mode (i * d.lc + j) c.issue 3
    let r := accnElem s c i j cell
    let w := fmtBits d.f
    let v := intDecode 19 cell
    let lo : Int := if fmtSigned d.f = true then -(2 ^ (w - 1)) else 0
    let hi : Int := lo + 2 ^ w - 1
    let n := if c.reqs = 0 then 0 else c.ga.toNat % 64
    let scale := if c.reqs = 0 then Val.fin false 1 0 else fpDecode 11 (c.ga.toNat % 2 ^ 32)
    (fmtIsInt d.f = true → r.bits < 2 ^ w ∧ ∃ k : Int, (k * 2 ^ n - v).natAbs < 2 ^ n ∧
      (md.code = 0 ∨ md.code = 4 → 2 * (k * 2 ^ n - v).natAbs ≤ 2 ^ n) ∧ (md.code = 2 → v ≤ k * 2 ^ n) ∧ (md.code = 3 → k * 2 ^ n ≤ v) ∧
      intDecode d.f r.bits = max lo (min hi k) ∧
      r.fl = if k < lo ∨ hi < k then flIS else if k * 2 ^ n = v then 0 else flNX) ∧
    (fmtIsInt d.f = false → r = fpMul d.f md (if (c.sh 0).f = 19 then .fin (decide (v < 0)) v.natAbs 0 else fpDecode 18 cell) scale)) ∧
  ∀ (c : Cmd) (ea : Int) (za eb zb prior cell : Nat),
    let r := accxElem c (ea, za) [eb, zb] prior cell
    let w := intDecode 19 cell
    let p := fpDecode 10 prior
    (za = 1 ∨ zb = 1 → r.bits = canonNaN 10 ∧ r.fl = flNV) ∧
    (za ≠ 1 → zb ≠ 1 →
      (p.isNan → r.bits = canonNaN 10) ∧
      (¬p.isNan → r = fpAdd 10 ⟨0, 0⟩ p (.fin (decide (w < 0)) w.natAbs (ea + intDecode 4 eb - 7 * (c.ga.toNat % 32)))))

/-! ## Q: tables, declarations, power levels, queues and lanes -/

/-- R288: FTSET, SCLD and CHSET write their table entries at +1; an FTSET whose register has any of bits 63 to 36, or whose
entry has bit 0 or 1, fails check 10.
R290, R291, R292, R420: DECL reads its record at issue and replaces the six declarations of its engine at +2; PWRA of a
level not above the held one is granted at once and otherwise asks the power manager and stalls; PWRR gives its level up at
+1; QINIT writes its control word at +1, with HEAD and TAIL 0 and both claims ended. The checks of DECL and QINIT, in their
order, with the causes and words that they raise.
That a failed check of no shape register names register 15 is log entry 41. -/
def Obligations.TablesDeclarationsAndPower : Prop :=
  (∀ (s : State) (a b : Fin 32) (h t : Bool) (j : Fin 4), acts s = true → badReg s 4 [a] = none → badReg s 4 [a, b] = none →
     let x := rdG s a
     let y := rdG s b
     let writes := fun i (P : State → Regs → Prop) => ∃ t w, exec i s = .next t ∧ t.ctx.dws = s.ctx.dws ++ [w] ∧
       w.due = s.ctx.now + 1 ∧ t.ctx.r = s.ctx.r ∧ t.ctx.latches = s.ctx.latches ∧ sameStore s t ∧
       ∀ u, (∃ r, makeWrite u w = { u with ctx := { u.ctx with r := r } } ∧ P u r)
     (x.toNat < 2 ^ 36 → x.toNat % 4 = 0 → writes (.ftset a) fun u r => r = { u.ctx.r with ft := r.ft } ∧
       ∀ k : Fin 16, r.ft[k] = if k.val = x.toNat / 2 ^ 32 then x.setWidth 32 else u.ctx.r.ft[k]) ∧
     (x.toNat ≥ 2 ^ 36 ∨ x.toNat % 4 ≠ 0 → exec (.ftset a) s = .next (takeTrap s (shapeTrap s 0x02 10 15))) ∧
     (writes (.scld a b h t) fun u r => r = { u.ctx.r with st := r.st } ∧
       ∀ k : Fin 32, r.st[k] = if k.val / 16 = b2n t ∧ k.val / 8 % 2 = b2n h then
         ((if k.val % 8 < 4 then x else y) >>> (16 * (k.val % 4))).setWidth 16 else u.ctx.r.st[k]) ∧
     (writes (.chset a b j) fun u r => r = { u.ctx.r with cht := r.cht } ∧
       ∀ k : Fin 8, r.cht[k] = if k.val = 2 * j.val then x else if k.val = 2 * j.val + 1 then y else u.ctx.r.cht[k])) ∧
  (∀ (s : State) (a b : Fin 32), acts s = true →
     let v := (rdG s a).toNat
     let keeps := fun t : State => t.ctx.r = s.ctx.r ∧ t.ctx.latches = s.ctx.latches ∧ sameStore s t
     let writes := fun i d (P : DWrite → Prop) => ∃ t w, exec i s = .next t ∧ t.ctx.dws = s.ctx.dws ++ [w] ∧
       w.due = s.ctx.now + d ∧ keeps t ∧ P w
     (declCheck s a = none → writes (.decl a) 2 fun w => ∀ u, ∃ r, makeWrite u w = { u with ctx := { u.ctx with r := r } } ∧
       r = { u.ctx.r with dset := r.dset } ∧ ∀ k : Fin 18, r.dset[k] =
         if k.val / 6 = declDword s v 0 % 4 then BitVec.ofNat 64 (declDword s v (k.val % 6 + 1)) else u.ctx.r.dset[k]) ∧
     (∀ x, declCheck s a = some x → exec (.decl a) s = .next (takeTrap s x)) ∧
     (badReg s 4 [a] = none → 0 < v → v < 2 ^ 16 → v ≤ s.img.lvmax →
       (v ≤ s.ctx.pwrlvl → writes (.pwra a) 1 fun w => ∀ u, (makeWrite u w).ctx.pwrlvl = v) ∧
       (s.ctx.pwrlvl < v → ∃ t, exec (.pwra a) s = .next t ∧ keeps t ∧ t.ctx.dws = s.ctx.dws ∧ t.ctx.pwrWait = true ∧
         t.cob.pwr = s.cob.pwr ++ [⟨s.ctx.cid, v⟩])) ∧
     (badReg s 4 [a] = none → (v = 0 ∨ v > s.img.lvmax) →
       exec (.pwra a) s = .next (takeTrap s (shapeTrap s 0x02 10 15))) ∧
     (writes .pwrr 1 fun w => ∀ u, (makeWrite u w).ctx.pwrlvl = 0) ∧
     (qinitCheck s a b = none → writes (.qinit a b) 1 fun w => w.act = .qinit v (rdG s b)) ∧
     (∀ x, qinitCheck s a b = some x → exec (.qinit a b) s = .next (takeTrap s x)) ∧
     (v % 32 = 0 → (rdG s b).toNat % 2 ^ 21 = 0 →
       readQ (writeQinit s v (rdG s b)) v =
         ⟨0, 0, (rdG s b).toNat / 2 ^ 40, (rdG s b).toNat / 2 ^ 24 % 2 ^ 16, (rdG s b).toNat / 2 ^ 21 % 8, 15, 15, 0⟩ ∧
       ∀ k, (k < spadKey s.ctx.gunit v ∨ spadKey s.ctx.gunit v + 32 ≤ k) →
         memGet (writeQinit s v (rdG s b)).mem k = memGet s.mem k)) ∧
  (∀ (s : State) (a b : Fin 32),
     let v := (rdG s a).toNat
     let w := declDword s v
     let sound := fun k => w (k + 1) < 2 ^ 48 ∧ w (k + 1) % 2 ^ 24 + w (k + 1) / 2 ^ 24 ≤ 2 ^ 24
     let declFails := fun cause (P : Trap → Prop) => ∃ x, declCheck s a = some x ∧ x.cause = cause ∧ x.i3 = s.ctx.iss.pc ∧ P x
     let check10 := fun i1 => declFails 2 fun x => x.i0 = 10 * 16 + 15 ∧ x.i1 = i1
     (badReg s 4 [a] = none →
       (v % 64 ≠ 0 → declFails 6 fun x => x.i0 = rdG s a ∧ x.i1 = 1) ∧
       (v % 64 = 0 → 2 ^ 24 ≤ v ∨ s.ctx.inGrant v 64 = false → declFails 0x21 fun _ => True) ∧
       (v % 64 = 0 → v < 2 ^ 24 → s.ctx.inGrant v 64 = true →
         (3 ≤ w 0 → check10 0) ∧
         (∀ k, w 0 < 3 → k < 6 → (∀ j, j < k → sound j) → ¬sound k → check10 (BitVec.ofNat 64 (8 + 8 * k))) ∧
         (w 0 < 3 → (∀ k, k < 6 → sound k) → w 7 ≠ 0 → check10 56) ∧
         (w 0 < 3 → (∀ k, k < 6 → sound k) → w 7 = 0 → s.ctx.hdr.det = false → declCheck s a = none))) ∧
     let g := (rdG s b).toNat
     let depth := g / 2 ^ 24 % 2 ^ 16
     let size := 2 ^ (g / 2 ^ 21 % 8)
     let base := g / 2 ^ 40
     let fails := fun cause (P : Trap → Prop) => ∃ x, qinitCheck s a b = some x ∧ x.cause = cause ∧ x.i3 = s.ctx.iss.pc ∧ P x
     let form := fun n => fails 0x0B fun x => x.i0 = rdG s a ∧ x.i1 = n
     badReg s 4 [a, b] = none →
       (v % 32 ≠ 0 → fails 6 fun x => x.i0 = rdG s a ∧ x.i1 = 1) ∧
       (v % 32 = 0 → 2 ^ 24 ≤ v ∨ s.ctx.inGrant v 32 = false → fails 0x21 fun _ => True) ∧
       (v % 32 = 0 → v < 2 ^ 24 → s.ctx.inGrant v 32 = true →
         (g % 2 ^ 21 ≠ 0 ∨ size = 128 ∨ depth = 0 → form 1) ∧
         (g % 2 ^ 21 = 0 → size ≠ 128 → depth ≠ 0 →
           (base % size ≠ 0 → form 3) ∧
           (base % size = 0 → s.ctx.inGrant base (depth * size) = false → form 4) ∧
           (base % size = 0 → s.ctx.inGrant base (depth * size) = true → s.ctx.ctxno < 16 → qinitCheck s a b = none))))

/-- R110, R293, R294: a lane command whose fields are within their limits, whose rows lie in the grant and whose start is
in the future joins the lane commands of its station; with four of them unfinished it holds the ring; a start that is not
in the future raises RING_TIMING.
The hold of a fifth command, the info words and the ignored start bits are log entries 50 to 52. -/
def Obligations.LaneCommands : Prop :=
  ∀ (s : State) (a b : Fin 32) (l : Fin 8), acts s = true → badReg s 4 [a, b] = none →
    let base := (rdG s a).toNat / 2 ^ 40
    let rows := (rdG s a).toNat / 2 ^ 24 % 2 ^ 16
    let hops := (rdG s a).toNat / 2 ^ 18 % 64
    let t := (rdG s b).toNat % 2 ^ 48
    let mine := s.lanes.filter fun x => x.station == s.ctx.unit
    let lane := fun i (put aw : Bool) => (rdG s a).toNat % 2 ^ 18 = 0 → base % 128 = 0 → 0 < rows → (put = true ↔ 0 < hops) →
      s.ctx.inGrant base (128 * rows) = true →
      (t ≤ s.ctx.now → exec i s =
        .next (takeTrap s ⟨0x17, BitVec.ofNat 64 (l.val + if aw = true then 8 else 0), BitVec.ofNat 64 s.ctx.unit,
          BitVec.ofNat 64 t, s.ctx.iss.pc⟩)) ∧
      (s.ctx.now < t → mine.length < 4 → ∃ u, exec i s = .next u ∧ u.lanes = s.lanes ++
        [⟨put, aw, l.val, s.ctx.unit, base, rows, hops, t, s.ctx.iss.pos, s.ctx.iss.pc, s.ctx.now, [], 0⟩] ∧ u.rows = s.rows ∧
        u.ctx.r = s.ctx.r ∧ u.ctx.latches = s.ctx.latches ∧ u.ctx.dws = s.ctx.dws ∧ sameStore s u) ∧
      (s.ctx.now < t → 4 ≤ mine.length → ∃ u, exec i s = .next u ∧ u.ctx.wait = .hold 2 ∧ u.lanes = s.lanes)
    lane (.lnputCw a b l) true false ∧ lane (.lnputAw a b l) true true ∧ lane (.lntapCw a b l) false false ∧
      lane (.lntapAw a b l) false true

/-! ## Engines, copies and waits: steps that fall due -/

/-- R338, R345, R346: the command at the head of its engine's queue starts when its start has come; with an operand that an
incomplete copy still writes it raises TIMING_FAULT in throughput mode and holds the task cycle in deterministic mode.
R27, R64, R90, R106: a unit's write of accumulator cells puts its values into them, and one of elements puts their bytes into
the scratchpad; each brings its flags to FLG, changes nothing else, and marks the windows it writes. R96, R98, R236, R238: a
write of VPUSH puts its elements into their slots and moves TAIL on; one of VPOP moves HEAD on.
R33, R216, R217: the write of a chunk of an element-wise command: the elements of its positions, but no position beyond a source
whose EDGE is MASK; a position beyond one whose EDGE is ZERO takes a zero. R232: VTRAN reads its source transposed. R230: VGATH
takes the elements that its indices name. R231: of several elements for one target of VSCAT the last stays. R237, R238: VPUSH
takes the elements whose mask bit is 1, in order; VPOP takes the oldest elements, as many as there are positions; VQCNT counts.
R75, R76, R228: sums: integers wrap; of floating values the sum of two halves of one power-of-two length is the rounded sum of
their sums, a shorter group is padded with zeros, and one element is its own sum. R50, R228: extremes. R229: the winner of
VARGMAX. R235: VSCAN adds each element to what stands before it. R77, R226: the exponent and the digits of VSPLIT.
R249, R253, R254, R257: the rows of ACCZ, ACCN and ACCX.
That the first element of a scan is the element itself is log entry 47; that element numbers of a queue are taken modulo 2^32
before DEPTH is log entry 153. -/
def Obligations.EngineSteps : Prop :=
  (∀ (s : State) (e : Fin 3) (k : Cmd) (q : List Cmd), s.ctx.status ≠ .handler → s.ctx.queue e = k :: q →
    k.state = .queued → k.freed = false → k.nominal ≤ s.ctx.now → (∀ x ∈ q, x.state ≠ .trapped ∧ x.id ≠ k.id) →
    let run := exec (.commandStart e.castSucc) s
    (missed s k = none → ∃ t x, run = .next t ∧ t.ctx.queue e = x :: q ∧
      x = { k with state := .running, base := x.base, began := k.began.or (some s.ctx.now) } ∧
      (k.began = none → x.base = s.ctx.now) ∧ (k.began.isSome = true → x.base = restartBase s.ctx k s.ctx.now) ∧
      (∀ e', e' ≠ e → t.ctx.queue e' = s.ctx.queue e') ∧ t.ctx.r = s.ctx.r ∧ t.ctx.latches = s.ctx.latches ∧
      t.ctx.uws = s.ctx.uws ∧ sameStore s t) ∧
    (∀ a, missed s k = some a → s.ctx.hdr.det = false → ∃ x, run = .next (takeTrap s x) ∧ x.cause = 0x14 ∧
      x.i1 = BitVec.ofNat 64 k.nominal ∧ x.i2 = BitVec.ofNat 64 a) ∧
    (∀ a, missed s k = some a → s.ctx.hdr.det = true → ∃ t, run = .next t ∧ t.ctx.wait = .hold 0 ∧
      t.ctx.tclk = s.ctx.tclk ∧ t.ctx.queue e = k :: q ∧ sameStore s t)) ∧
  (∀ (s : State) (w : UWrite) (k : Cmd) (tile row col : Nat) (vs : List Nat), s.ctx.status ≠ .handler → s.ctx.uws = [w] →
    w.due ≤ s.ctx.now → w.eng = 1 → s.ctx.xq = [k] → k.id = w.cmd → w.act = .cells tile row col vs →
    ∃ t, exec (.unitWriteCommit 1) s = .next t ∧ t.ctx.uws = [] ∧ t.mem = s.mem ∧ t.ctx.latches = s.ctx.latches ∧
      t.ctx.r = { s.ctx.r with flg := s.ctx.r.flg ||| BitVec.ofNat 6 w.flags } ∧
      (∀ j, j < vs.length → accGet t tile row (col + j) = vs.getD j 0 % 2 ^ 48) ∧
      ∀ tile' row' col', (tile' ≠ tile ∨ row' ≠ row ∨ col' < col ∨ col + vs.length ≤ col') →
        accGet t tile' row' col' = accGet s tile' row' col') ∧
  (∀ (s : State) (e : Fin 3) (w : UWrite) (k : Cmd), s.ctx.status ≠ .handler → s.ctx.uws = [w] → w.due ≤ s.ctx.now →
    w.eng = e → s.ctx.queue e = [k] → k.id = w.cmd → s.ctx.upper = false → s.ctx.hdr.det = false → s.synd = [] →
    (∀ r ∈ workReqs s s.ctx.now (.write w), r.meet false [] = none) →
    let key := spadKey s.ctx.gunit
    let a := k.ga.toNat
    let q := readQ s a
    let size := 2 ^ q.esize
    let slot := fun i => q.slot (q.tail + i)
    let made := fun (P : State → Prop) => ∃ t, exec (.unitWriteCommit e.castSucc) s = .next t ∧ t.ctx.uws = [] ∧
      t.acc = s.acc ∧ t.ctx.latches = s.ctx.latches ∧ t.ctx.wins = s.ctx.wins ∧
      t.ctx.r = { s.ctx.r with flg := s.ctx.r.flg ||| BitVec.ofNat 6 w.flags } ∧ P t
    let field := fun (t : State) o => leNat (spadRead t (a + o) 4)
    let keeps := fun (t : State) (rs : List (Nat × Nat)) =>
      ∀ b, (∀ x ∈ rs, b < key x.1 ∨ key x.1 + x.2 ≤ b) → memGet t.mem b = memGet s.mem b
    (∀ h l, w.act = .elems h l →
      let at_ := fun x : Nat × Nat × Nat => (h.elemAt x.1 x.2.1).1
      let n := fmtBits h.f
      made fun t => keeps t (l.map fun x => (at_ x, max 1 (n / 8))) ∧
        (8 ≤ n → l.Pairwise (fun x y => at_ x + n / 8 ≤ at_ y ∨ at_ y + n / 8 ≤ at_ x) → ∀ x ∈ l, ∀ i, i < n / 8 →
          memGet t.mem (key (at_ x) + i) = BitVec.ofNat 8 (x.2.2 / 2 ^ (8 * i))) ∧
        (∀ x, n < 8 → l = [x] → elemBits (spadByte t) h x.1 x.2.1 = x.2.2 % 2 ^ n ∧
          ∀ i, i < 8 → (i < (h.elemAt x.1 x.2.1).2 ∨ (h.elemAt x.1 x.2.1).2 + n ≤ i) →
            (memGet t.mem (key (at_ x))).getLsbD i = (memGet s.mem (key (at_ x))).getLsbD i) ∧
        (s.ctx.live = true → 0 < n → ∀ x ∈ l, ∀ v ∈ s.ctx.wins, v.base ≤ at_ x → at_ x < v.base + v.len →
          key (at_ x) / 32 ∈ t.dirty)) ∧
    (∀ es, w.act = .push es → q.count + es.length ≤ q.depth →
      (∀ i j, i < j → j < es.length → slot i + size ≤ slot j ∨ slot j + size ≤ slot i) →
      (∀ i, i < es.length → slot i + size ≤ a ∨ a + 32 ≤ slot i) →
      made fun t => field t 12 = (q.tail + es.length) % 2 ^ 32 ∧
        keeps t ((a + 12, 4) :: (List.range es.length).map fun i => (slot i, size)) ∧
        ∀ i b, i < es.length → b < size → memGet t.mem (key (slot i) + b) = BitVec.ofNat 8 (es.getD i 0 / 2 ^ (8 * b))) ∧
    (∀ n, w.act = .head n → made fun t => field t 8 = (q.head + n) % 2 ^ 32 ∧ keeps t [(a + 8, 4)])) ∧
  (∀ (s : State) (c : Cmd) (i : Nat),
    let r := (c.span i).1
    let lo := (c.span i).2.1
    let hi := (c.span i).2.2
    let cols := c.chunkGeo.2.2
    let row := (List.range (hi - lo)).map (lo + ·)
    let rd := spadByte s
    let leaves := fun (p : Perf) off (act : UAct) fl => ∃ w, p.uws = [w] ∧ w.eng = 0 ∧ w.cmd = c.id ∧ w.due = c.base + off ∧
      w.act = act ∧ w.flags = fl
    (∀ op sc, c.op = .elem op sc → c.op.quad = false →
      let out := fun j col => (c.src j).beyond r col
      let val := fun col => c.compute s.ctx (r * cols + col)
        (c.reads.map fun j => if out j col = true then 0 else elemBits rd (c.src j) r col)
      let kept := row.filter fun col => !(c.reads.any fun j => out j col && (c.src j).edge == 0)
      (∀ j ∈ c.reads, ∀ col ∈ row, out j col = true → (c.src j).edge ≠ 2) → kept ≠ [] →
      leaves (vPerform s c i none) (6 + i) (.elems (c.sh 0) (kept.map fun col => (r, col, (val col).bits)))
        ((kept.map fun col => (val col).fl).foldl (· ||| ·) 0)) ∧
    (∀ op sc x idx a b d, c.op = .elem op sc → op ≠ .fill →
      let k := c.ga.toNat % 2 ^ fmtBits (c.sh 1).f
      let el := elemOp op (c.sh 1).f (c.sh 0).f c.mode (modeOf x c.mode idx c.issue 2)
      (sc = false → (c.reads = [1] → c.compute x idx [a] = el a 0 0) ∧ (c.reads = [1, 2] → c.compute x idx [a, b] = el a b 0) ∧
        (c.reads = [1, 2, 3] → c.compute x idx [a, b, d] = el a b d)) ∧
      (sc = true → (c.reads = [1] → c.compute x idx [a] = el a k 0) ∧ (c.reads = [1, 3] → c.compute x idx [a, d] = el a k d))) ∧
    (∀ sc x idx, c.op = .elem .fill sc → c.compute x idx [] = .plain (c.ga.toNat % 2 ^ fmtBits (c.sh 0).f)) ∧
    (∀ sc r col, c.op = .elem .tran sc → elemBits rd (c.src 1) r col = elemBits rd (c.sh 1) col r) ∧
    (c.op = .gath → (c.sh 1).edge ≠ 2 → ∀ xs es, xs ≠ [] →
      (gatherData s c (i :: 3 :: xs)).uws.map (·.act) = [.elems (c.sh 0) es] →
      let h := c.sh 1
      let at_ := (laneSpan c.chunkGeo.1 lo hi 3).1
      (∀ k x, xs[k]? = some (x + 1) → x < h.lr * h.lc → (r, at_ + k, elemBits rd h (x / h.lc) (x % h.lc)) ∈ es) ∧
      (h.edge = 1 → ∀ k x, xs[k]? = some (x + 1) → h.lr * h.lc ≤ x → (r, at_ + k, 0) ∈ es) ∧
      ∀ e ∈ c.buf, e.headD 9 = 1 → (e.getD 1 0, e.getD 2 0, e.getD 3 0) ∈ es) ∧
    (c.op = .scat → ∀ es, (scatterUnit s c i 3).uws.map (·.act) = [.elems (c.sh 0) es] →
      let d := c.sh 0
      let lane := laneSpan c.chunkGeo.1 lo hi 3
      let here := ((List.range (lane.2 - lane.1)).map (lane.1 + ·)).filterMap fun col =>
        match posVals rd c [1, 2] r col with
        | .vals [v, t] => if t < d.lr * d.lc then some (t, v) else none
        | _ => none
      let pairs := (c.buf.map fun e => (e.getD 0 0, e.getD 1 0)) ++ here
      (∀ x ∈ es, ∃ t v, (t, v) ∈ pairs ∧ x = (t / d.lc, t % d.lc, v)) ∧
      ∀ pre t v post, pairs = pre ++ (t, v) :: post → (∀ y ∈ post, y.1 ≠ t) → (t / d.lc, t % d.lc, v) ∈ es) ∧
    (c.op = .push → (c.sh 2).edge ≠ 2 →
      let on := row.filter fun col => !(c.sh 2).beyond r col && elemBits rd (c.sh 2) r col == 1
      (on ≠ [] → leaves (vPerform s c i none) (6 + i) (.push (on.map fun col => elemBits rd (c.sh 1) r col)) 0) ∧
      (on = [] → (vPerform s c i none).uws = [])) ∧
    (c.op = .pop → c.reqs = 0 → c.rp = 0 →
      let q := readQ s c.ga.toNat
      let n := min q.count ((c.sh 0).lr * (c.sh 0).lc)
      let ws := (vPerform s c i none).uws
      let put := fun w : UWrite => ∃ j l, j < c.chunks ∧ w.due = c.base + 6 + j ∧ w.act = .elems (c.sh 0) l ∧ ∀ x ∈ l,
        x.1 = (c.span j).1 ∧ (c.span j).2.1 ≤ x.2.1 ∧ x.2.1 < (c.span j).2.2 ∧ x.1 * cols + x.2.1 < n ∧
          x.2.2 = leNat (spadRead s (q.slot (q.head + (x.1 * cols + x.2.1))) (2 ^ q.esize))
      (∀ w ∈ ws, w.due = c.base + 5 + c.chunks ∧ (w.act = .head n ∨ w.act = .gb c.dst (BitVec.ofNat 64 n)) ∨ put w) ∧
      (∃ w ∈ ws, w.act = .head n) ∧ (∃ w ∈ ws, w.act = .gb c.dst (BitVec.ofNat 64 n)) ∧
      ∀ j col, j < c.chunks → (c.span j).2.1 ≤ col → col < (c.span j).2.2 → (c.span j).1 * cols + col < n →
        ∃ w ∈ ws, ∃ l, w.act = .elems (c.sh 0) l ∧ ((c.span j).1, col,
          leNat (spadRead s (q.slot (q.head + ((c.span j).1 * cols + col))) (2 ^ q.esize))) ∈ l) ∧
    (c.op = .qcnt → leaves (vPerform s c i none) 2 (.gb c.dst (BitVec.ofNat 64 (readQ s c.ga.toNat).count)) 0) ∧
    (∀ r lo xs,
      let d := c.sh 0
      let out := (scanSums s c r lo xs).out
      let md := fun k => modeOf s.ctx c.mode (r * cols + lo + k) c.issue 2
      (∀ x ∈ xs, 0 < x ∧ x ≤ 2 ^ fmtBits d.f) → out.length = xs.length ∧
        (∀ k y, out[k]? = some y → y.1 = r ∧ y.2.1 = lo + k) ∧
        (fmtIsInt d.f = true → ∀ k y, out[k]? = some y → y.2.2 < 2 ^ fmtBits d.f ∧
          (intDecode d.f y.2.2 - ((if lo = 0 then 0 else intDecode d.f (elemBits rd d r (lo - 1))) +
            ((xs.take (k + 1)).map fun x => intDecode d.f (x - 1)).sum)) % 2 ^ fmtBits d.f = 0) ∧
        (fmtIsInt d.f = false →
          (∀ k y z x, out[k]? = some y → out[k + 1]? = some z → xs[k + 1]? = some x →
            z.2.2 = (fpAdd d.f (md (k + 1)) (fpDecode d.f y.2.2) (fpDecode d.f (x - 1))).bits) ∧
          (∀ y x, lo ≠ 0 → out[0]? = some y → xs[0]? = some x → y.2.2 =
            (fpAdd d.f (md 0) (fpDecode d.f (elemBits rd d r (lo - 1))) (fpDecode d.f (x - 1))).bits) ∧
          ∀ y x, lo = 0 → out[0]? = some y → xs[0]? = some x → fmtF d.f = true →
            (¬(fpDecode d.f (x - 1)).isNan → y.2.2 = x - 1) ∧ ((fpDecode d.f (x - 1)).isNan → y.2.2 = canonNaN d.f))) ∧
    (∀ xs g a, c.op = .argmax a → (groupResult s c g xs).1 =
      (argmaxGroup (c.sh 1).f (xs.map (·.1))).1 * 2 ^ 32 + (c.ga.toNat + (argmaxGroup (c.sh 1).f (xs.map (·.1))).2) % 2 ^ 32)) ∧
  (∀ (f : Nat) (m : Mode) (fen : BitVec 6) (xs ys : List (Nat × Nat)),
    let sum := fun l => sumGroup f (fun _ => m) fen l
    let w := fmtBits f
    let dec := fun l => fpDecode f (sum l).1
    (fmtIsInt f = true → (sum xs).1 < 2 ^ w ∧ (intDecode f (sum xs).1 - (xs.map fun x => intDecode f x.1).sum) % 2 ^ w = 0 ∧
      (sum xs).2.1 = 0) ∧
    (fmtF f = true →
      (∀ k, xs.length = 2 ^ k → ys.length = 2 ^ k → (sum (xs ++ ys)).1 = (fpAdd f m (dec xs) (dec ys)).bits ∧
        (0 < k → (sum (xs ++ ys)).2.1 = (sum xs).2.1 ||| (sum ys).2.1 ||| (fpAdd f m (dec xs) (dec ys)).fl)) ∧
      (∀ k n, 2 ≤ xs.length → 2 ^ k < xs.length → xs.length + n = 2 ^ (k + 1) →
        (sum (xs ++ List.replicate n (0, 2 ^ 64))).1 = (sum xs).1) ∧
      ∀ x, (¬(fpDecode f x.1).isNan → (sum [x]).1 = x.1 ∧ (sum [x]).2.1 = 0) ∧
        ((fpDecode f x.1).isNan → (sum [x]).1 = canonNaN f ∧ ((fpDecode f x.1).isSig ↔ (sum [x]).2.1 = flNV)))) ∧
  (∀ (hi : Bool) (f : Nat) (fen : BitVec 6) (x : Nat × Nat) (xs : List (Nat × Nat)),
    let ext := fun l => extremeGroup hi f fen l
    (fmtIsInt f = true → (∃ y ∈ x :: xs, (ext (x :: xs)).1 = y.1) ∧ (ext (x :: xs)).2.1 = 0 ∧ ∀ y ∈ x :: xs,
      if hi = true then intDecode f y.1 ≤ intDecode f (ext (x :: xs)).1 else intDecode f (ext (x :: xs)).1 ≤ intDecode f y.1) ∧
    (fmtF f = true → (¬(fpDecode f x.1).isNan → (ext [x]).1 = x.1) ∧ ((fpDecode f x.1).isNan → (ext [x]).1 = canonNaN f) ∧
      ∀ y, (ext (x :: xs ++ [y])).1 = (fpMinMax f hi (ext (x :: xs)).1 y.1).bits ∧
        (ext (x :: xs ++ [y])).2.1 = (ext (x :: xs)).2.1 ||| (fpMinMax f hi (ext (x :: xs)).1 y.1).fl) ∧
    (f = 11 ∨ f = 6 ∨ f = 7 → ∀ vs : List Nat, vs ≠ [] → (∀ v ∈ vs, v < 2 ^ 32) →
      let best := argmaxGroup f vs
      vs[best.2]? = some best.1 ∧ ∀ i v, vs[i]? = some v → ranksAbove f v best.1 ≠ .gt ∧
        (i < best.2 → ranksAbove f v best.1 = .lt)) ∧
    ∀ a b, (fmtIsInt f = true → ranksAbove f a b = compare (intDecode f a) (intDecode f b)) ∧
      (f = 11 → let A := fpDecode 11 a
        let B := fpDecode 11 b
        (A.isNan → ¬B.isNan → ranksAbove f a b = .lt) ∧ (A.isNan → B.isNan → ranksAbove f a b = .eq) ∧
        (A.finite → B.finite → A.rat < B.rat → ranksAbove f a b = .lt) ∧ ranksAbove f 0x80000000 0 = .lt)) ∧
  (∀ (n : Nat) (ea : Int) (a : Nat) (row : List Nat), 0 < n → n < 10 →
    let ds := (splitDigits n ea a).1
    let total := ((List.range n).map fun k => intDecode 0 (ds.getD k 0) * 128 ^ (n - 1 - k)).sum
    ds.length = n ∧ (∀ d ∈ ds, d < 256 ∧ -64 ≤ intDecode 0 d ∧ intDecode 0 d ≤ 63) ∧
    ((fpDecode 10 a).finite → ∃ N : Int,
      2 * (N : Rat) ≤ 2 * (fpDecode 10 a).rat * 2 ^ (7 * n - ea) + 1 ∧ 2 * (fpDecode 10 a).rat * 2 ^ (7 * n - ea) ≤ 2 * (N : Rat) + 1 ∧
      (total - N) % 128 ^ n = 0 ∧ (N.natAbs ≤ 2 ^ (7 * n - 2) → total = N) ∧
      ((splitDigits n ea a).2 = true ↔ (N : Rat) ≠ (fpDecode 10 a).rat * 2 ^ (7 * n - ea))) ∧
    (¬(fpDecode 10 a).finite → ds = List.replicate n 0 ∧ (splitDigits n ea a).2 = false) ∧
    let large := row.filter fun x => splitSpecial x == false && x % 2 ^ 63 != 0
    (large = [] → splitEa row = -1071) ∧
    (large ≠ [] → (∀ x ∈ large, (fpDecode 10 x).rat < (2 : Rat) ^ (splitEa row - 2) ∧
        -((2 : Rat) ^ (splitEa row - 2)) < (fpDecode 10 x).rat) ∧
      ∃ x ∈ large, (2 : Rat) ^ (splitEa row - 3) ≤ (fpDecode 10 x).rat ∨
        (fpDecode 10 x).rat ≤ -((2 : Rat) ^ (splitEa row - 3)))) ∧
  ∀ (s : State) (c : Cmd) (i : Nat),
    let d := c.sh 1
    let acc := (c.sh 0).acc.toNat
    let cell := fun j => accGet s acc ((c.sh 0).off.toNat + i) ((c.sh 0).coff.toNat + j)
    let leaves := fun off (act : UAct) fl => ∃ p w, xPerform s c off = some p ∧ p.uws = [w] ∧ w.eng = 1 ∧ w.cmd = c.id ∧
      w.unit = i ∧ w.act = act ∧ w.flags = fl
    let flags := fun rs : List (Nat × Res) => rs.foldl (fun x r => x ||| r.2.fl) 0
    (c.op = .accz → i < (c.sh 0).rows.toNat → leaves i (.cells acc ((c.sh 0).off.toNat + i) (c.sh 0).coff.toNat
      (List.replicate (c.sh 0).cols.toNat 0)) 0) ∧
    (c.op = .accn → i < d.lr → let rs := (List.range d.lc).map fun j => (j, accnElem s c i j (cell j))
      leaves i (.elems d (rs.map fun x => (i, x.1, x.2.bits))) (flags rs)) ∧
    (c.op = .accx → i < d.lr → c.buf ≠ [] → (∀ j, j < d.lc → (c.sh 2).beyond i j = false) →
      let rs := (List.range d.lc).map fun j => (j, accxElem c (infoEntry s c.ga i) (c.buf.getD j [])
        (elemBits (spadByte s) (c.sh 2) i j) (cell j))
      leaves (i + 1) (.elems d (rs.map fun x => (i, x.1, x.2.bits))) (flags rs))

/-- R206, R267, R349, R410: a copy command that is complete leaves its queue and the waits for it; a WAITP frozen past its
promise for longer than its GRACE meets PROMISE_MISSED in throughput mode; a keep-waiting notice starts its count again.
R104, R274: a WMAP puts one window into its context's table, bound from +1, and raises ILLEGAL_FORMAT with its index when that
index is bound or its region meets another's. R106, R275: a granule of WBACK or WUNMAP sends every byte of its dirty sectors to
the window's addresses and clears their bits, and a clean one does nothing; a WUNMAP whose occupancy has ended releases its
window and no other, and the bytes stay. R106, R273: a WFILL's arrival leaves its sectors clean, any other in a window dirty. -/
def Obligations.PromiseSteps : Prop :=
  (∀ (s : State) (c : Cmd), c.op = .wmap → ∃ p, cPerform s c 0 = some p ∧ p.perf.causes = [] ∧ p.perf.uws = [] ∧
    let h := c.sh 0
    let w : Win := ⟨Fin.ofNat 8 c.aux, h.base.toNat, h.rows.toNat * h.pitch.toNat, cAddr c.ga, c.base + 1⟩
    p.eff s = { s with ctx := { s.ctx with wins := s.ctx.wins ++ [w] } } ∧
      ((∀ v ∈ s.ctx.wins, v.idx ≠ w.idx) → ∀ x : Ctx, x.wins = s.ctx.wins ++ [w] →
        boundWin x w.idx.val = if c.base + 1 ≤ x.now then some w else none)) ∧
  (∀ (s : State) (sh : Fin 4 → Shape) (a : Fin 32) (k : Fin 8) (v : Win),
    let h := sh 0
    let va := (rdG s a).toNat
    v ∈ s.ctx.wins → (v.idx = k ∨ h.base.toNat < v.base + v.len ∧ v.base < h.base.toNat + h.rows.toNat * h.pitch.toNat ∧
      0 < v.len ∧ 0 < h.rows.toNat * h.pitch.toNat) →
    h.rowLen % 32 = 0 → h.base.toNat % 64 = 0 → h.pitch.toNat % 64 = 0 → va % 64 = 0 → va < 2 ^ 56 →
    ∃ t, wmapLimits a k s sh = some t ∧ t.cause = 0x02 ∧ t.i0 = BitVec.ofNat 64 k.val) ∧
  (∀ (s : State) (c : Cmd) (i : Nat), c.op = .wback ∨ c.op = .wunmap → i < c.reqs → c.region.1 % 32 = 0 →
    let ds := dirtySectors s c i
    let va := (c.buf.headD []).getD 1 0
    ∃ p, cPerform s c i = some p ∧ (p.eff s).mem = s.mem ∧ (ds = [] → p.perf.causes = [] ∧ p.eff s = s) ∧
      (p.perf.causes = [] → (∀ d, d ∈ (p.eff s).dirty ↔ d ∈ s.dirty ∧ ∀ x ∈ ds, d ≠ spadKey s.ctx.gunit (32 * x) / 32) ∧
        ∃ qs, (p.eff s).net.pieces = s.net.pieces ++ qs ∧ (∀ q ∈ qs, q.kind = .write ∧ q.cmd = c.id ∧ q.phase = c.phase) ∧
          ∀ x ∈ ds, ∀ b, b < 32 → ∃ q ∈ qs, ∃ j, q.data[j]? = some (spadByte s (32 * x + b)) ∧
            q.va.toNat + j = (va + (32 * x - c.region.1) + b) % 2 ^ 56)) ∧
  (∀ (s : State) (n : Nat),
    let ends := fun k : Cmd => k ∈ s.ctx.cq ∧ k.op = .wunmap ∧ k.state = .running ∧ k.freed = false ∧
      k.base + k.occ s.ctx.upper ≤ n
    (∀ w, w ∈ (freeEntries s n).ctx.wins ↔ w ∈ s.ctx.wins ∧ ∀ k, ends k → Fin.ofNat 8 k.aux ≠ w.idx) ∧
      (freeEntries s n).mem = s.mem) ∧
  (∀ (s : State) (u a : Nat) (bs : List Byte) (syn : List (BitVec 16)) (keep : Nat → Bool) (k : Nat), k ∈ sectorsOf a bs.length →
    (∀ d, d ∈ (fillPut s u a bs syn true keep).dirty → d ≠ spadKey u (32 * k) / 32) ∧
      ∀ c ∈ allCtx s, c.live = true → c.gunit = u → ∀ v ∈ c.wins, v.base < 32 * k + 32 → 32 * k < v.base + v.len → 0 < v.len →
        spadKey u (32 * k) / 32 ∈ (fillPut s u a bs syn false keep).dirty) ∧
  ∀ (s : State) (cid cmd : Nat) (c : Ctx), findCtx s cid = some c →
    ((∃ k ∈ c.cq, k.id = cmd ∧ k.left = 0) → ∃ t, exec (.copyCompletion cid cmd) s = .next t ∧
      onlyCtx s t cid fun c => { c with
        cq := c.cq.filter fun k => !(k.id == cmd && k.freed)
        wait := match c.wait with
          | .waitp n g cs gr p k => .waitp n g (cs.filter (· != cmd)) gr p k
          | w => w }) ∧
    (∀ n g cs gr p k, c.wait = .waitp n g cs gr p k → c.role ≠ .parked →
      (cs ≠ [] → g ≤ c.now → c.hdr.det = false → gr ≠ 0 → gr < k → ∃ t, exec (.promiseMissed cid) s = .next t ∧
        onlyCtx s t cid fun c => { c with cands := c.cands ++ [(c.now, 9, ⟨0x15, BitVec.ofNat 64 n.val, (c.r.pm[n]).setWidth 64,
          BitVec.ofNat 64 k, BitVec.ofNat 64 p⟩, 0)] }) ∧
      (gr = 0 ∨ c.hdr.det = true → exec (.promiseMissed cid) s = .next s) ∧
      (cmd ∈ cs → (∃ x ∈ s.net.pieces, x.state = .parked ∧ x.cid = cid ∧ x.cmd = cmd) →
        ∃ t, exec (.keepWaitingNotice cid cmd) s = .next t ∧
          findCtx t cid = some { c with wait := .waitp n g cs gr p 0 } ∧ t.mem = s.mem ∧ t.net = s.net))

/-- R17, R41, R342: a trail that has been blocked for 64 cycles issues while the lead of its core, if it is ready, is held. When
no station
of the ring is trapped any longer, the stopped ones resume: a single one at its saved TCLK with its saved writes; until then
nothing happens. -/
def Obligations.MergeAndRingSteps : Prop :=
  (∀ (s : State) (core cid : Nat) (x : Ctx), findCtx s cid = some x → x.gunit = core → x.role = .trail → 64 ≤ x.blocked →
    ∃ t, exec (.trailForcedIssue core) s = .next t ∧ t = { s with ctx := t.ctx, others := t.others } ∧
      ∀ k c, findCtx s k = some c → findCtx t k = some (if c.gunit ≠ core then c
        else if c.role = .lead ∧ standsReady c = true then { c with frozen := true, lanes := 0, blkc := c.blkc + 1 }
        else if c.role = .trail then { c with blocked := 0 } else c)) ∧
  (∀ (s : State) (v : Saved), s.ctx.status = .ringStop → s.ctx.upper = true → s.ctx.swapped = false →
    s.ctx.saved = some v → (∀ d ∈ s.others, d.upper = true → d.live = true → d.swapped = false → d.status = .running) →
    ∃ t, exec .ringResume s = .next t ∧ t.ctx.status = .running ∧ t.ctx.tclk = v.t ∧ t.ctx.dws = v.dws ∧
      t.ctx.saved = none ∧ t.others = s.others ∧ t.mem = s.mem) ∧
  (∀ s : State, (∃ d ∈ ring s, d.status = .trapped) → exec .ringResume s = .next s)

/-- R102, R115, R265, R272, R409, R410, R413: a piece that arrives at its home: a read takes its bytes and turns back, a plain
write and a delivery stand there until their phase is published, a copy between global ranges takes its source bytes first,
a piece whose page is not mapped parks with one request for its page, and one that is refused raises a refusal; a page that
is being moved holds it. A far home takes no atomic, and a plain piece when its package accepts it.
Whether another package accepts a piece is log entry 7; that a page is asked for once for a piece is log entry 135. -/
def Obligations.PiecesAtHome : Prop :=
  ∀ (s : State) (n : Nat) (p : Piece), findPiece s n = some p → arrived s p = true →
    let at_ := fun (P : State → Piece → Prop) => ∃ t q, exec (.pieceAtHome n) s = .next t ∧ findPiece t n = some q ∧ P t q
    let refused := fun (t : State) (q : Piece) => q = { p with state := .refused } ∧
      t.agenda = s.agenda ++ [.targetRefusal p.id] ∧ t.mem = s.mem
    (∀ h k, gateOf s p = .go h k → p.second = none → p.kind = .read → at_ fun t q => q.state = .atHome ∧ q.home = h ∧
      q.key = k ∧ q.data = pieceBytes s p p.va.toNat k ∧ s.cycle < q.due ∧ t.mem = s.mem ∧ t.net.hist = s.net.hist) ∧
    (∀ h k, gateOf s p = .go h k → p.second = none → p.kind = .write → at_ fun t q => q.state = .atHome ∧ q.home = h ∧
      q.key = k ∧ q.data = p.data ∧ q.phase = p.phase ∧ t.net.hist = s.net.hist ∧
      (p.comp = 0 ∨ 4096 ≤ writeSize s p → t.mem = s.mem)) ∧
    (∀ h k, gateOf s p = .go h k → p.second = none → p.kind = .deliver → at_ fun t q =>
      q = { p with state := .atHome } ∧ t.mem = s.mem ∧ t.net.hist = s.net.hist) ∧
    (∀ h k, gateOf s p = .go h k → p.second.isSome = true → at_ fun t q => q.second = none ∧ q.state = p.state ∧
      q.data = pieceBytes s p p.peer k ∧ s.cycle < q.due ∧ t.mem = s.mem) ∧
    (gateOf s p = .park → at_ fun t q => q = { p with state := .parked } ∧ t.mem = s.mem ∧
      ((∀ r ∈ s.host.preqs, r.kind = 2 → ∀ q, findPiece s r.cid = some q → samePage p q = false) →
        ∃ r, t.host.preqs = s.host.preqs ++ [r] ∧ r.kind = 2 ∧ r.va = BitVec.ofNat 64 p.target.1)) ∧
    (gateOf s p = .refuse → at_ refused) ∧
    (gateOf s p = .wait → exec (.pieceAtHome n) s = .next s) ∧
    (gateOf s p = .refuse → farTarget s p = true →
      ∃ t q, exec (.farPieceRefusal n) s = .next t ∧ findPiece t n = some q ∧ refused t q) ∧
    (gateOf s p ≠ .refuse ∨ farTarget s p = false → exec (.farPieceRefusal n) s = .next s) ∧
    (farHome p.target.2.1 = true → (p.delivers = false ∨ p.second.isSome = true) →
      ((∃ op f c r, p.kind = .atom op f c r) ∨ Config.remoteAccepts p.id = false → gateOf s p = .refuse) ∧
      ((∀ op f c r, p.kind ≠ .atom op f c r) → Config.remoteAccepts p.id = true →
        gateOf s p = .go p.target.2.1 p.target.2.2))

/-- R87, R89, R105, R124, R265, R295, R359: a read's bytes that come back land at their destination, and so does a delivery
whose phase is published and whose receivers may take it; one that escapes their declared ranges, or comes from another
core with codes that fail, is discarded whole; a copy into the own scratchpad lands whatever its codes. A refused copy
piece raises FATAL_CONTEXT in its context. Each leaves the fabric, and no other byte changes.
That a delivery whose codes fail is discarded whole is log entry 110. -/
def Obligations.PiecesLand : Prop :=
  ∀ (s : State) (n : Nat) (p : Piece), findPiece s n = some p → settling s p.dstUnit = false →
    (∀ c, p.kind = .read → p.state = .atHome → p.due ≤ s.cycle → srcCtx s p.src = some c → c.upper = false → s.synd = [] →
      ∃ t, exec (.fillArrival n) s = .next t ∧ findPiece t n = none ∧ holdsBytes s t (spadKey p.dstUnit p.dst) p.data) ∧
    (deliverable s p = true → p.home = ownHome s → receivers s p ≠ [] → (∀ c ∈ receivers s p, c.upper = false) →
      ∃ t, exec (.deliveryLanding n) s = .next t ∧ findPiece t n = none ∧
        let keep := arrivalKeep s p (receivers s p)
        (undeclared p (receivers s p) keep = none → (∀ c ∈ p.syn, c = 0) ∨ landsFar s p = false → s.synd = [] →
          holdsBytes s t (spadKey p.dstUnit p.dst) p.data) ∧
        (undeclared p (receivers s p) keep ≠ none ∨ landingBad s p keep ≠ none → t.mem = s.mem)) ∧
    (p.kind = .read ∨ p.kind = .write ∨ p.kind = .deliver → p.state = .refused →
      ∃ t, exec (.targetRefusal n) s = .next t ∧ findPiece t n = none ∧ t.mem = s.mem ∧
        ∀ d ∈ allCtx t, d.status ≠ .vacant → d.src = p.src → ∃ x, d.fatal = some x ∧
          ((∀ c ∈ allCtx s, c.src = p.src → c.fatal = none) → x.cause = 0x21 ∧ x.i1 = 0 ∧ x.i2 = 0))

/-- R122, R125, R126, R278: an atomic operation at its home, its phase's turn come: the bytes in force are combined with its
operand, element by element, as one entry of the home order that covers their granule; with return the old bytes turn back, and
without it the
piece is complete. -/
def Obligations.AtomicsAtHome : Prop :=
  (∀ (s : State) (n h k f : Nat) (p : Piece) (op : Fin 8) (cmp : List Byte) (ret : Bool), findPiece s n = some p →
    p.kind = .atom op f cmp ret → arrived s p = true → atomReady s p = true → gateOf s p = .go h k →
    (∀ x ∈ p.syn ++ homeSyn s k p.len, x = 0) → k % 64 + p.len ≤ 64 →
    let u := expandPage (enterService s p) p.comp h p.va.toNat k p.len
    let bytes := fun a m => (List.range m).map fun i => readLatest u (a + i)
    let old := bytes k p.len
    ∃ t e, exec (.atomAtHome n) s = .next t ∧ t.net.hist = e :: u.net.hist ∧ e.key = k / 64 * 64 ∧ e.src = p.src ∧
      e.atom = true ∧
      e.bytes = bytes (k / 64 * 64) (k % 64) ++ atomBytes op f old p.data cmp ++ bytes (k + p.len) (64 - k % 64 - p.len) ∧
      t.mem = u.mem ∧
      (ret = true → ∃ q, findPiece t n = some q ∧ q.data = old ∧ q.state = .atHome ∧ s.cycle < q.due) ∧
      (ret = false → findPiece t n = none)) ∧
  (∀ (f old x : Nat), atomElem 0 f old x = (old + x) % 2 ^ fmtBits f ∧
    intDecode f (atomElem 1 f old x) = min (intDecode f old) (intDecode f x) ∧
    intDecode f (atomElem 2 f old x) = max (intDecode f old) (intDecode f x) ∧ atomElem 3 f old x = old &&& x ∧
    atomElem 4 f old x = old ||| x ∧ atomElem 5 f old x = old ^^^ x ∧ atomElem 6 f old x = x) ∧
  (∀ (f : Nat) (old x cmp : List Byte), atomBytes 7 f old x cmp = if old = cmp then x else old)

/-- R117, R118, R125: a publication that is ready: its phase is published at its scope, the plain writes of that phase and
the earlier ones enter the home order and leave the fabric, and the context's next phase to publish is the one after. -/
def Obligations.PublicationCompletes : Prop :=
  ∀ (s : State) (src n sc : Nat) (c : Ctx), srcCtx s src = some c → pubReady s c = some (n, sc) →
    ∃ t, exec (.publicationCompletion src) s = .next t ∧ t.net.pubs = s.net.pubs ++ [⟨src, c.gunit, n, sc⟩] ∧ t.mem = s.mem ∧
      (∀ d ∈ allCtx t, d.status ≠ .vacant → d.src = src → d.pubd = n + 1) ∧
      (∀ p ∈ s.net.pieces, p.kind = .write → p.src = src → p.phase ≤ n → p.state = .atHome →
        (⟨src, c.gunit, p.phase, false, p.key, p.data⟩ ∈ t.net.hist) ∧ p ∉ t.net.pieces) ∧
      ∀ e ∈ s.net.hist, e ∈ t.net.hist

/-- R20, R40, R98, R127, R282, R286, R299, R346: the waits that other contexts end: a barrier whose participants have all come
and, on the Sole, published becomes an acquire at its scope; a stall ends when its cause has cleared; a hold for a missed operand ends
when no operand is missed; a collective of one participant is complete. A participant of another package counts once it has
reported, and its reports come from outside (log entry 71). -/
def Obligations.StallsAreReleased : Prop :=
  ∀ (s : State) (cid : Nat) (c : Ctx), findCtx s cid = some c →
    let one := fun i (d : Ctx) => ∃ t, exec i s = .next t ∧ findCtx t cid = some d ∧
      (∀ k, k ≠ cid → findCtx t k = findCtx s k) ∧ t.mem = s.mem ∧ t.net = s.net
    (∀ l sc m, c.wait = .bar l sc m → barDone s c l m = true → one (.barRelease cid) { c with
      stamps := Vector.ofFn fun k => if k.val ≤ sc then s.net.pubs.length else c.stamps[k]
      wait := .phaseA sc s.net.pubs.length }) ∧
    (∀ l m, barDone s c l m = true ↔ (∀ d ∈ participants s c l, ∃ b, (d.bars.filter fun b => b.1 == l)[m]? = some b ∧
        (c.upper = true ∨ b.2 < d.pubd)) ∧ ∀ x ∈ farMates s c l, (mateReport s c x.2.2 false l m).isSome = true) ∧
    (∀ l sc m, c.wait = .bar l sc m → barDone s c l m = false → exec (.barRelease cid) s = .next s) ∧
    (∀ k i, (k, i) ∈ [(0, Instr.vpushStallRelease cid), (1, .qlnchQueueRoom cid), (2, .wtakeRelease cid), (3, .wdepthRelease cid)] →
      c.wait = .stall k → cycleStall (focus s cid) c.now ≠ some k → one i { c with wait := .cycle }) ∧
    (∀ k, c.wait = .hold k → k = 0 ∨ k = 3 → holdKind (focus s cid) c.tclk ≠ some k →
      one (.missedOperandRelease cid) { c with wait := .none }) ∧
    (∀ k l, collPending s c = some k → l = k.ga.toNat % 8 → participants s c l = [c] → farMates s c l = [] →
      collOf c l k.reqs = some k →
      k.ga.toNat / 2 ^ 16 % 2 ^ 16 = 0 → ∃ t d, exec (.collCombine cid) s = .next t ∧ findCtx t cid = some d ∧
        (∀ y ∈ d.cq, y.id = k.id → y.left = 0) ∧ d.r = c.r ∧ d.fatal = c.fatal)

/-! ## Tasks, launches and queues -/

/-- R23, R128, R399, R401, R452: the steps of tasks, launches and queues: a task whose END waits for nothing retires, its
accumulators are dropped, its launch counts it and admission runs; a launch that is done leaves the part, its queue counting it; a
gang that admission picks has a context, parked at the entry label, for each of its tasks; a queue that has waited its time
rises one level; and a launch whose tables are taken over is routed.
Admission in detail is log entries 73 to 76; that a queue counts a launch whatever its session is log entry 90, and the place of
the entry label log entry 16. -/
def Obligations.TaskAndLaunchSteps : Prop :=
  (∀ (s : State) (cid : Nat) (c : Ctx) (l : Launch), findCtx s cid = some c → endReady c = true →
    findLaunch s c.lid = some l → l.ending = false → ∃ t, exec (.taskRetirement cid) s = .next t ∧ t.ctx = Ctx.vacant ∧
      (∃ d ∈ t.others, d.cid = cid ∧ d.status = .retired ∧ d.r = c.r) ∧ (∀ x ∈ t.acc, x.1.1 ≠ c.src) ∧
      (∃ m, findLaunch t c.lid = some m ∧ m.retired = l.retired + 1) ∧ .gangAdmission ∈ t.agenda) ∧
  (∀ (s : State) (lid : Nat) (l : Launch) (q : WorkQueue), findLaunch s lid = some l → launchDone s l = true →
    findQueue s l.hdr.queue = some q → ∃ t, exec (.launchCompletion lid) s = .next t ∧ findLaunch t lid = none ∧
      (∃ p, findQueue t l.hdr.queue = some p ∧ p.doneN = q.doneN + 1 ∧ lid ∉ p.heads) ∧ .gangAdmission ∈ t.agenda ∧
      ((findSession s q.sid).isSome = true → ∃ p ∈ t.host.out, p.sid = q.sid ∧ p.type = 0x81)) ∧
  (∀ (s u : State) (l : Launch) (ts : List (Nat × Nat)), (pickGang s).found = some (l, ts) →
    needsDisabled (markBubbles s (pickGang s).kept) l ts = false → firstAdmission (markBubbles s (pickGang s).kept) l = .ok u →
    ∃ t, exec .gangAdmission s = .next t ∧ .gangAdmission ∈ t.agenda ∧
      ∀ x ∈ ts, ∃ c ∈ t.others, c.lid = l.lid ∧ c.wid = BitVec.ofNat 64 (l.hdr.widOf x.1) ∧ c.role = .parked ∧
        c.status = .running ∧ c.pc = BitVec.ofNat 64 (l.hdr.prog + l.hdr.entry) ∧ c.r = startRegs l.hdr ∧ c.tclk = 0) ∧
  (∀ (s : State) (q : Nat) (x : WorkQueue), findQueue s q = some x → isWaiting s x = true → s.img.age.getD x.level 0 ≠ 0 →
    s.img.age.getD x.level 0 * 100 ≤ x.waited → x.level < 7 → ∃ t, exec (.queueAgeing q) s = .next t ∧
      findQueue t q = some { x with level := x.level + 1, waited := 0 } ∧ t.mem = s.mem ∧ t.ctx = s.ctx) ∧
  (∀ (s : State) (l : Launch), s.host.launches = [l] → l.routed = false → 0 < l.readyAt → l.readyAt ≤ s.tick →
    s.cob.pendTables = [] → s.tick % 16 = 0 → ∃ t, exec .routerTableSwitch s = .next t ∧
      let n := ((l.hdr.imglen - l.hdr.codelen) * 21 + 1023) / 1024
      t.host.launches = [{ l with routed := true, readyAt := s.tick + 50 + n / 21, readySub := n % 21 }] ∧ t.mem = s.mem)

/-! ## The Welt -/

/-- R285, R296, R297, R300, R301, R305, R306, R308, R312, R313: a sound record of the current epoch joins its slot's round, a stale one
is counted and dropped, a future one raises WELT_STATE with TINFO1 10, one that finds the queue full waits, and one that fails
the Welt's checks raises WELT_STATE with its row, the offset of the first field that fails, and its WPROP's bundle; WFINAL's
round moves rate,
depth, epoch and length on; a logit task's deadline faults its slot; a table that does not decrease is taken; a management
write of RSEED changes it and leaves the seed of the round that is open; and a change of a launch's seed reaches the tasks
that start afterwards and no context that has started.
The info words of a record that fails are log entry 63; the step by which the last two come is log entry 118. -/
def Obligations.WeltSteps : Prop :=
  (∀ (s : State) (cid : Nat) (r : List Byte) (x : Slot), recFault s r = none → findSlot s (recField r 8 2) = some x →
    let a := (x.epoch + 2 ^ 16 - recField r 10 2 % 2 ^ 16) % 2 ^ 16
    let one := fun (y : Slot) => ∃ t, exec (.proposalRecordIntake cid r) s = .next t ∧
      findSlot t (recField r 8 2) = some y ∧ t.ctx = s.ctx ∧ t.mem = s.mem
    (x.st = 0 ∨ 0 < a ∧ a < 32768 → one { x with flushed := x.flushed + 1 }) ∧
    (x.st = 1 → a = 0 → x.recs.length < x.depth → recField r 4 4 = x.slen + x.recs.length →
      (proposalsFull s = false →
        one { x with recs := x.recs ++ [r], st := if x.recs.length + 1 = x.depth then 2 else 1 }) ∧
      (proposalsFull s = true → exec (.proposalRecordIntake cid r) s = .next s)) ∧
    (x.st ≠ 0 → 32768 ≤ a → ∃ t, exec (.proposalRecordIntake cid r) s = .next t ∧ t.welt = s.welt ∧
      ∀ c, findCtx s cid = some c → ∃ y, findCtx t cid = some { c with cands := c.cands ++ [(c.tclk, 6, y, 0)] } ∧
        y.cause = 0x25 ∧ y.i0 = BitVec.ofNat 64 (weltRow c).1 ∧ y.i1 = 10 ∧ y.i3 = (weltRow c).2)) ∧
  (∀ (s : State) (cid o : Nat) (r : List Byte) (c : Ctx), recFault s r = some o → findCtx s cid = some c →
    ∃ t y, exec (.proposalRecordIntake cid r) s = .next t ∧ t.welt = s.welt ∧ t.mem = s.mem ∧
      findCtx t cid = some { c with cands := c.cands ++ [(c.tclk, 6, y, 0)] } ∧ y.cause = 0x25 ∧
      y.i0 = BitVec.ofNat 64 (weltRow c).1 ∧ y.i1 = BitVec.ofNat 64 o ∧ y.i3 = (weltRow c).2) ∧
  (∀ (s : State) (r : List Byte), recFault s r = none ↔
    (∀ i, 13 ≤ i → i < 64 → recField r i 1 = 0) ∧ 0 < recField r 12 1 ∧ recField r 12 1 ≤ 64 ∧
      (∀ i, 2 * recField r 12 1 ≤ i → i < 128 → recField r (64 + 4 * i) 4 = 0) ∧
      (∃ p ∈ recPairs r, p.1 = recField r 0 4) ∧ recField r 8 2 < 1024 ∧ (findSlot s (recField r 8 2)).isSome = true) ∧
  (∀ (s : State) (cid : Nat) (f : FinalReq) (x : Slot), s.welt.finals = [f] → f.cid = cid → finalReady s f = true →
    findSlot s f.slot = some x → x.st = 4 → x.done = false → x.fault = false → 0 < x.jstar →
    let a := x.jstar - 1
    let rate := nextRate x.arate a x.depth x.ksh
    ∃ t y, exec (.wfinalPerformed cid) s = .next t ∧ t.welt.finals = [] ∧ findSlot t f.slot = some y ∧ y.arate = rate ∧
      y.depth = nextDepth (s.welt.thr.toList.getD x.ttab.val []) rate x.depth x.dmin x.dmax x.h ∧
      y.vlen = x.slen + a ∧ y.epoch = (x.epoch + 1) % 2 ^ 16 ∧ y.rbVlen = y.vlen ∧ y.rbEpoch = y.epoch ∧ y.recs = [] ∧
      y.round = (x.round + 1) % 2 ^ 32 ∧ y.jstar = 0 ∧ t.mem = s.mem) ∧
  (∀ (s : State) (cid n : Nat) (c : Ctx) (x : Slot), findCtx s cid = some c → logitSlot c = some n →
    findSlot s n = some x → ∃ t, exec (.logitFault cid) s = .next t ∧ findSlot t n = some { x with fault := true } ∧
      t.ctx = Ctx.vacant ∧ ∃ d ∈ t.others, d.cid = cid ∧ d.status = .retired) ∧
  (∀ (s : State) (k : Fin 8) (es : List Nat),
    (es.length = 16 → (∀ e ∈ es, e < 2 ^ 16) → (∀ i, i < 15 → es.getD i 0 ≤ es.getD (i + 1) 0) →
      ∃ t, exec (.thresholdTableWrite k es) s = .next t ∧ t.welt.slots = s.welt.slots ∧ t.ctx = s.ctx ∧
        ∀ j : Fin 8, t.welt.thr[j] = if j = k then es else s.welt.thr[j]) ∧
    (∀ i, i < 15 → es.getD (i + 1) 0 < es.getD i 0 → exec (.thresholdTableWrite k es) s = .next s)) ∧
  (∀ (s : State) (n : Nat) (x : Slot) (v : BitVec 64), findSlot s n = some x → ∃ t, exec (.registerWrite (.slot n 4) v) s = .next t ∧
    findSlot t n = some { x with rseed := v } ∧ t.ctx = s.ctx ∧ t.others = s.others ∧ t.mem = s.mem) ∧
  (∀ (s : State) (lid : Nat) (l : Launch) (v : BitVec 64), findLaunch s lid = some l →
    ∃ t m, exec (.registerWrite (.seed lid) v) s = .next t ∧ findLaunch t lid = some m ∧
      m = { l with hdr := { l.hdr with seed := v } } ∧ t.ctx = s.ctx ∧ t.others = s.others ∧ t.mem = s.mem ∧
      (t.ctx.lid = lid → (startTask t).ctx.hdr.seed = v))

/-- R306: the depth of a slot at the end of a round: one more when it is below DMAX and ARATE has reached the threshold of
the next depth plus H, one less when it is above DMIN and ARATE plus H lies below the threshold of this depth, and
otherwise the same. -/
def Obligations.DepthOfTheNextRound : Prop :=
  ∀ (s : State) (cid : Nat) (f : FinalReq) (x : Slot), s.welt.finals = [f] → f.cid = cid → finalReady s f = true →
    findSlot s f.slot = some x → x.st = 4 → x.done = false → x.fault = false → 0 < x.jstar →
    let thr := fun n : Nat => s.welt.thr[x.ttab].getD (n - 1) 0
    ∃ t y, exec (.wfinalPerformed cid) s = .next t ∧ findSlot t f.slot = some y ∧
      y.depth = if x.depth < x.dmax ∧ thr (x.depth + 1) + x.h ≤ y.arate then x.depth + 1
        else if x.dmin < x.depth ∧ y.arate + x.h < thr x.depth then x.depth - 1 else x.depth

/-! ## Scheduling, power, heat and the Cobbler -/

/-- R15, R352, R376, R380, R381, R419 to R422, R425, R428: a vacant role goes to the eligible context that has waited longest,
then to the lower work identifier, then to the one admitted first; it is the lead if it issues alone, starts at its entry, and
resumes at its TCLK. A pre-emption is taken at a wait of the Sole, an iteration boundary or a YLD, on the Upper at station 0
alone; the context then parks with the cause PREEMPT in its frame, and a trail becomes the lead. A timer that has run its
period, a slice that has ended, a pre-emption that is late, a power request at the head of its die's queue that fits the
budget, the static charge of a tick, a sample of an island's temperature, and a switch of an operating point.
In which cycle a role is filled is log entry 74; from which task cycle a granted level holds is log entry 38. -/
def Obligations.SchedulerSteps : Prop :=
  (∀ (s : State) (u : Nat), (nextRole s u = none ↔ eligible s u = []) ∧ ∀ c, nextRole s u = some c →
    (c ∈ allCtx s ∧ c.gunit = u ∧ c.role = .parked ∧ c.status = .running ∧ ∀ d ∈ issuers s u, enginesApart c d = true) ∧
    ∀ d ∈ eligible s u, c.parkedAt < d.parkedAt ∨ c.parkedAt = d.parkedAt ∧
      (c.wid.toNat < d.wid.toNat ∨ c.wid = d.wid ∧ c.src ≤ d.src)) ∧
  (∀ (s : State) (u : Nat) (c : Ctx), nextRole s u = some c → findCtx s c.cid = some c → (∀ d ∈ issuers s u, d.cid ≠ c.cid) →
    openRoles s u ≠ 0 → (getIsland s u).disabled = false → (∀ p ∈ s.cob.swaps, u ∉ p) → ∃ d, findCtx (fillRole s u) c.cid = some d ∧
      d.role = (if issuers s u = [] then .lead else .trail) ∧ d.slice = 0 ∧ d.collides = false ∧
      (c.started = false → d.started = true ∧ d.status = .running ∧ d.pc = c.pc ∧ d.r = c.r ∧ d.tclk = c.tclk) ∧
      (∀ v, c.started = true → c.haltH = false → c.saved = some v → d.status = .running ∧ d.tclk = v.t ∧ d.saved = none)) ∧
  (∀ c : Ctx, takesPreempt c = true → c.status = .running ∧ c.preReq = true ∧
    (c.wait = .none ∨ c.upper = true → c.after = 1 ∨ (endingLevel c).isSome = true) ∧ (c.upper = true → c.unit = 0)) ∧
  (∀ s : State, chosen s s.ctx.now = some .park → s.ctx.role ≠ .parked → ∃ t v, exec .takingATrap s = .next t ∧
    t.ctx.role = .parked ∧ t.ctx.status = .running ∧ t.ctx.preReq = false ∧ t.ctx.parkedAt = s.tick ∧ t.ctx.saved = some v ∧
    v.t = s.ctx.tclk ∧ v.latches = s.ctx.latches ∧ v.dws = s.ctx.dws ∧ v.wait = s.ctx.wait ∧ t.ctx.tclk = s.ctx.tclk ∧
    t.ctx.r = s.ctx.r ∧ t.ctx.vq = s.ctx.vq ∧ t.ctx.xq = s.ctx.xq ∧ t.ctx.cq = s.ctx.cq ∧ frameDword t 1 = 0x32 ∧
    s.tick ∈ (getIsland t s.ctx.gunit).freedAt ∧
    ∀ k d, k ≠ s.ctx.cid → findCtx s k = some d → findCtx t k = some (if d.gunit = s.ctx.gunit ∧ d.role = .trail then
      { d with role := .lead, blocked := 0 } else d)) ∧
  (∀ (s : State) (cid : Nat) (c : Ctx), findCtx s cid = some c →
    (timerRuns c = true → c.tmr.toNat % 2 ^ 32 ≤ c.tmrCnt → ∃ t, exec (.timerExpiry cid) s = .next t ∧
      onlyCtx s t cid fun x => { x with tmrCnt := 0, tmrPend := x.tmrPend + 1 }) ∧
    (c.preReq = true → c.role ≠ .parked → c.hdr.ibound ≤ c.preCnt → ∃ t, exec (.preemptLate cid) s = .next t ∧
      onlyCtx s t cid fun x => { x with preLate := true }) ∧
    (c.role = .parked → s.img.slice ≠ 0 → c.slice = s.img.slice → ∃ t, exec (.sliceExpiry cid) s = .next t ∧
      t = { s with ctx := t.ctx, others := t.others } ∧
      ∀ k d, findCtx s k = some d → findCtx t k = some (if d.role ≠ .parked ∧ d.preReq = false ∧ d.gunit = c.gunit ∧
        enginesApart c d = false then { d with preReq := true, preCnt := 0 } else d))) ∧
  (∀ (s : State) (r : PwrReq) (c : Ctx), s.cob.pwr = [r] → findCtx s r.cid = some c →
    budgetUsed s r ≤ (if cidUpper r.cid = true then s.img.upbud else s.img.solebud) →
    ∃ t, exec (.pwraGrant (cidUpper r.cid)) s = .next t ∧ t.cob.pwr = [] ∧ t.mem = s.mem ∧
      (c.saved = none → findCtx t r.cid =
        some { c with pwrWait := false, dws := c.dws ++ [⟨c.tclk + 1, c.tclk, 15, 0, .pwrlvl r.level⟩] }) ∧
      (∀ v, c.saved = some v → findCtx t r.cid = some { c with
        pwrWait := false, saved := some { v with dws := v.dws ++ [⟨v.t + 1, v.t, 15, 0, .pwrlvl r.level⟩] } })) ∧
  (∀ (s : State) (u cid : Nat) (c : Ctx), issuers s u = [c] → findCtx s cid = some c → c.role = .lead →
    c.energySat = false → c.energy + s.img.pstat * 10 < 2 ^ 48 → ∃ t, exec (.staticChargeTick u) s = .next t ∧
      findCtx t cid = some { c with energy := c.energy + s.img.pstat * 10 } ∧ t.mem = s.mem) ∧
  (∀ (s : State) (n x : Nat), n < 192 → x < 4 * s.img.tcrit → (getIsland s n).thrAt = none →
    ∃ t, exec (.thermalSample [(n, x)]) s = .next t ∧ (getIsland t n).temp = x ∧ t.ctx = s.ctx ∧ t.mem = s.mem ∧
      (getIsland t n).thr = if (getIsland s n).thr = true then !decide (x + 4 * (getIsland s n).hyst ≤ 4 * s.img.thresh)
        else decide (4 * s.img.thresh ≤ x)) ∧
  (∀ (s : State) (n : Nat) (p : Fin 8), (getIsland s n).pendOp = some p →
    ((getIsland s n).settle = none → coreQuiet s n = true → ∃ t k, exec (.opSwitchQuiesce n) s = .next t ∧
      getIsland t n = { getIsland s n with settle := some k } ∧ s.tick < k ∧ t.ctx = s.ctx ∧ t.mem = s.mem) ∧
    (∀ k, n ≠ 192 → (getIsland s n).settle = some k → k ≤ s.tick → ∃ t, exec (.opSwitchSettled n) s = .next t ∧
      (getIsland t n).opc = p ∧ (getIsland t n).settle = none ∧ t.ctx = s.ctx ∧ t.mem = s.mem))

/-- R14, R377, R416 to R418, R423, R426, R430, R444 to R446: watchdogs end their contexts with FATAL_CONTEXT. A test that passes
gives every trap that waited for it to TVEC, its info words kept, and ends the context where TVEC is 0; one that fails retires
the unit and ends each with FATAL_CONTEXT, its info words kept; every error is counted in the log. A task cycle that reaches a
unit under test stands still, and its context is classified with that test. The energy services answer through the frame;
CTXCMD resumes a halted context, ends a task and parks one; a link error starts a test. A partition that is not yet halted is
asked to park; one that stands parked swaps out, its contexts keeping their registers and their grants and frames going to
the swap region, and back in.
The verdict for joined errors is log entry 79, which accesses a fence holds is log entry 143, and where the swap region holds
what is log entries 82 and 109. -/
def Obligations.CobblerSteps : Prop :=
  (∀ (s : State) (cid : Nat) (c : Ctx), findCtx s cid = some c → logitSlot c = none →
    let ends := fun i (k n : Nat) => ∃ t, exec i s = .next t ∧ t.ctx.cid = cid ∧ t.ctx.status = .trapped ∧
      t.ctx.tcause = 0x21 ∧ t.ctx.tinfo[0] = BitVec.ofNat 64 k ∧ t.ctx.tinfo[1] = BitVec.ofNat 64 n ∧
      .taskRetirement cid ∈ t.agenda
    (s.img.hangt ≠ 0 → s.img.hangt ≤ c.hang → ends (.hangWatchdogExpiry cid) 1 c.hang) ∧
    (s.img.hangt = 0 ∨ c.hang < s.img.hangt → exec (.hangWatchdogExpiry cid) s = .next s) ∧
    (s.img.dwait ≠ 0 → s.img.dwait ≤ c.dwait → ends (.waitWatchdogExpiry cid) 2 c.dwait) ∧
    (s.img.dwait = 0 ∨ c.dwait < s.img.dwait → exec (.waitWatchdogExpiry cid) s = .next s) ∧
    (∃ t, exec (.ctxcmdEndTask cid) s = .next t ∧ t.ctx.cid = cid ∧ t.ctx.status = .trapped ∧ t.ctx.tcause = 0x21 ∧
      .taskRetirement cid ∈ t.agenda) ∧
    (c.status = .halted → ∃ t, exec (.ctxcmdResume cid) s = .next t ∧ onlyCtx s t cid fun c =>
      { c with status := .running, parkedAt := s.tick }) ∧
    (c.upper = false → canPark c = true →
      ∃ t d, exec (.ctxcmdPark cid) s = .next t ∧ findCtx t cid = some d ∧ d.role = .parked ∧ d.saved.isSome = true ∧
        d.tclk = c.tclk ∧ d.r = c.r)) ∧
  (∀ (s : State) (cid : Nat) (c : Ctx) (v : Saved), findCtx s cid = some c → c.status = .trapped → c.tcause = 0x10 →
    c.tinfo[1] = 1 → c.saved = some v →
    let w := fun (t : State) i => leNat (memRead t.mem (heelKey (frameAddr c + 8 * i)) 8)
    let serves := fun i (n : Nat) => ∃ t d, exec i s = .next t ∧ findCtx t cid = some d ∧ d.status = .running ∧
      d.energy = n ∧ d.energySat = false ∧ d.tclk = v.t ∧ d.saved = none
    (c.tinfo[0] = 0xE01 → serves (.svcSetEnergy cid) (w s 33 % 2 ^ 48)) ∧
    (c.tinfo[0] = 0xE02 → serves (.svcClearEnergyFlag cid) (w s 16 % 2 ^ 48))) ∧
  (∀ (s : State) (x : SelfTest) (pass : Bool), s.cob.tests = [x] → x.ends ≤ s.tick →
    ∃ t, exec (.selfTestEnd x.n pass) s = .next t ∧ t.cob.tests = [] ∧ t.cob.total = s.cob.total + max 1 x.cids.length ∧
      t.cob.retired = s.cob.retired + (if pass = true then 0 else 1) ∧
      (pass = false → x.ukind = 1 ∨ x.ukind = 2 → (getIsland t x.unit).disabled = true) ∧
      (∀ y ∈ x.cids, ∀ c, findCtx s y.1 = some c → c.status = .trapped → c.tcause = 0x16 →
        ∃ d, findCtx t y.1 = some d ∧ d.r = c.r ∧ d.tinfo = c.tinfo ∧
          (pass = true → tvecAt c ≠ 0 → d.status = .handler ∧ d.pc = tvecAt c ∧ d.tcause = 0x16 ∧ d.saved = c.saved) ∧
          (pass = false ∨ tvecAt c = 0 → d.status = .trapped ∧ d.tcause = 0x21 ∧ .taskRetirement y.1 ∈ t.agenda)) ∧
      (x.cids = [] → s.others = [] → s.ctx.live = true → s.ctx.owed = true → s.ctx.gunit = x.unit → x.ukind = 1 →
        (∃ l ∈ s.ctx.latches, l.ld.isSome = true ∧ l.due = s.ctx.now + 2) → t.ctx = s.ctx ∧
          t.cob.classified = s.cob.classified ++ [⟨s.ctx.cid, 1, x.idx, s.ctx.tclk, pass⟩])) ∧
  (∀ s : State, fenced s s.ctx.now = true → s.ctx.wait = .none →
    engineCycle s = { s with ctx := { s.ctx with owed := true, wait := .stall 5 } }) ∧
  (∀ (s : State) (k u i : Nat), (∀ x ∈ s.cob.tests, (x.ukind, x.unit, x.idx) ≠ (k, u, i)) →
    ∃ t x, exec (.linkError k u i) s = .next t ∧ t.cob.tests = s.cob.tests ++ [x] ∧ (x.ukind, x.unit, x.idx) = (k, u, i) ∧
      s.tick < x.ends ∧ x.ends ≤ s.tick + 5000 ∧ t.ctx = s.ctx ∧ t.mem = s.mem) ∧
  (∀ (s : State) (us : List Nat), partitionHalted s us = false → ∃ t, exec (.partitionSwapOut us) s = .next t ∧
    us ∈ t.cob.swaps ∧ t.mem = s.mem ∧
    ∀ k d, findCtx s k = some d → findCtx t k = some (if d.role ≠ .parked ∧ d.preReq = false ∧ us.contains d.gunit = true then
      { d with preReq := true, preCnt := 0 } else d)) ∧
  (∀ (s : State) (us : List Nat), partitionHalted s us = true →
    (∀ c ∈ partition s us, findCtx s c.cid = some c ∧ c.cid < 4096 ∧ findCtx s (c.cid + 4096) = none) →
    ∃ t, exec (.partitionSwapOut us) s = .next t ∧ us ∉ t.cob.swaps ∧ .gangAdmission ∈ t.agenda ∧
      (∀ c ∈ partition s us, ∃ d, findCtx t (c.cid + 4096) = some d ∧ d.swapped = true ∧ d.r = c.r ∧ d.tclk = c.tclk ∧
        d.saved = c.saved ∧ d.status = c.status) ∧
      ∀ c, partition s us = [c] → c.upper = false → c.unit < 192 → c.ctxno < 8 → c.hdr.gbase + c.hdr.quota ≤ 2 ^ 21 →
        c.hdr.engines.getD 1 false = false →
        (∀ i, i < c.hdr.quota → memGet t.mem (swapSpad s c.gunit + c.hdr.gbase + i) = spadByte (focus s c.cid) (c.hdr.gbase + i)) ∧
        ∀ i, i < 0x1000 → memGet t.mem (swapFrame s c.cid + i) = memGet s.mem (heelKey (frameAddr c) + i)) ∧
  (∀ (s : State) (u : Nat), s.ctx.live = true → s.ctx.swapped = true → s.ctx.gunit = u → s.others = [] →
    4096 ≤ s.ctx.cid → ∃ t, exec (.partitionSwapIn [u]) s = .next t ∧ t.ctx.swapped = false ∧
      t.ctx.cid = s.ctx.cid - 4096 ∧ t.ctx.r = s.ctx.r ∧
      (s.ctx.upper = false → s.ctx.unit < 192 → s.ctx.ctxno < 8 → s.ctx.hdr.gbase + s.ctx.hdr.quota ≤ 2 ^ 21 →
        (∀ i, i < s.ctx.hdr.quota → spadByte t (s.ctx.hdr.gbase + i) = memGet s.mem (swapSpad s u + s.ctx.hdr.gbase + i)) ∧
        ∀ i, i < 0x1000 → memGet t.mem (heelKey (frameAddr s.ctx) + i) = memGet s.mem (swapFrame s (s.ctx.cid - 4096) + i)))

/-! ## Sessions and host commands -/

/-- R387, R388, R389, R390, R393, R441: datagrams that are malformed, or whose UDP checksum fails, are counted and discarded, one
whose TAG is wrong is discarded, a repeated command is answered by its
kept ACK, a fresh one that parses is acknowledged and due; a session opens only with an authorised key, free queues and a good
signature, and closes with its waits and its unsent packets; an ACK ends a packet's sending, and one without an answer is sent
again, and after 64 sends its session closes with a CLOSE; a packet to a session carries its next SEQ and its TAG; a boot whose
images do not verify leaves the part in recovery.
The numbers of sessions are log entry 98, the empty body of a CLOSE log entry 84, the published algorithms log entries 13
and 14, the IPv6 framing log entry 114, and the units that fail at boot log entry 142. -/
def Obligations.SessionSteps : Prop :=
  (∀ (s : State) (dg : List Byte), let d := dg.drop 48
     let sid := recField d 4 4
     let sq := recField d 8 8
     let n := recField d 18 2
     let run := exec (.vctDatagramDiscard dg) s
     let counted := run = .next { s with host := { s.host with discards := s.host.discards + 1 } }
     (48 ≤ dg.length → udpPort dg ≠ 7523 → run = .next s) ∧ (dg.length < 48 → counted) ∧
     (udpPort dg = 7523 → badChecksum dg = true → counted) ∧
     (udpPort dg = 7523 → badChecksum dg = false → (badDatagram d = true → counted) ∧
       ∀ x, badDatagram d = false → recField d 3 1 ≠ 0x40 → findSession s sid = some x →
         ((hmac256 x.khd (d.take (24 + n))).take 16 ≠ d.drop (24 + n) → run = .next s) ∧
         ((hmac256 x.khd (d.take (24 + n))).take 16 = d.drop (24 + n) →
           (∀ a, x.acks.find? (fun a => a.1 == sq) = some a → run = .next (sendAck s sid sq a.2)) ∧
           (∀ es, x.acks.find? (fun a => a.1 == sq) = none → launchPending s sid sq = false → sq ∉ x.seen → x.high < sq + 64 → 0 < sq →
             packetEvents (stalePageans s sid) sid sq d = some es →
             ∃ t y, run = .next t ∧ t.agenda = s.agenda ++ es ∧ t.mem = s.mem ∧ findSession t sid = some y ∧
               y.high = max x.high sq ∧ sq ∈ y.seen)))) ∧
  (∀ (s : State) (b : List Byte), s.recovery = false → s.booted = true →
    (openOk s b = false → exec (.openSession b) s = .next (sendBare s 0x42 (leBytes 2 0x10D))) ∧
    (openOk s b = true → ∃ t x, exec (.openSession b) s = .next t ∧ t.host.sessions = s.host.sessions ++ [x] ∧
      x.sid = s.fresh ∧ x.hkey = b.take 64 ∧ x.qfirst = recField b 160 2 ∧ x.qcount = recField b 162 2 ∧ x.high = 0 ∧
      ∃ p, t.host.out = s.host.out ++ [p] ∧ p.type = 0x41 ∧ p.tag = List.replicate 16 0)) ∧
  (∀ (s : State) (sid : Nat) (x : Session), findSession s sid = some x → ∃ t, exec (.closeSession sid) s = .next t ∧
    findSession t sid = none ∧ (∀ p ∈ t.host.out, p.sid ≠ sid) ∧ ∀ w ∈ t.host.waits, w.sid ≠ sid) ∧
  (∀ (s : State) (sid sq : Nat), ∃ t, exec (.ack sid sq) s = .next t ∧ t = { s with host := t.host } ∧
    ∀ p, p ∈ t.host.out ↔ p ∈ s.host.out ∧ ¬(p.sid = sid ∧ p.sq = sq ∧ p.sends ≠ 0)) ∧
  (∀ (s : State) (p : OutPkt), s.host.out = [p] → 0 < p.sends → p.sends < 64 → p.due ≤ s.tick →
    ∃ t, exec (.retransmit p.sid p.sq) s = .next t ∧
      t.host.out = [{ p with sends := p.sends + 1, due := s.tick + 10000 }] ∧ t.mem = s.mem) ∧
  (∀ (s : State) (p : OutPkt) (x : Session), s.host.out = [p] → 64 ≤ p.sends → p.due ≤ s.tick →
    findSession s p.sid = some x → ∃ t q, exec (.retransmit p.sid p.sq) s = .next t ∧ findSession t p.sid = none ∧
      t.host.out = [q] ∧ q.sid = p.sid ∧ q.type = 0x43 ∧ q.tag = packetTag x q.sq 0x43 []) ∧
  (∀ (s : State) (sid type : Nat) (b : List Byte) (x : Session), findSession s sid = some x →
    ∃ p y, (sendPkt s sid type b).host.out = s.host.out ++ [p] ∧ p.sid = sid ∧ p.sq = x.next ∧ p.type = type ∧ p.body = b ∧
      p.tag = packetTag x x.next type b ∧ findSession (sendPkt s sid type b) sid = some y ∧ y.next = x.next + 1) ∧
  (∀ (s : State) (puf helper fw cfg : List Byte) (failed : List (Nat × Nat × Nat)),
    ∃ t, exec (.boot puf helper fw cfg failed) s = .next t ∧ t.recovery = !t.booted ∧ t.agenda = s.agenda ∧
      t.booted = (imageOk fw 1 [rootKey] && imageOk cfg 2 (configKeys fw cfg) && (parseConfig (configBody cfg)).isSome &&
        (identity puf helper).isSome) ∧
      (t.booted = true → ∃ im d, parseConfig (configBody cfg) = some im ∧ identity puf helper = some d ∧
        t.img = bootImage fw cfg d im ∧ t.cob.retired = failed.length) ∧
      t.host.sessions = [] ∧ allCtx t = [Ctx.vacant])

/-- R389 to R398, R407: the commands of a host: a launch whose answer is kept is answered so again; one on a queue that its
session has bound is refused by the first of its header's faults, by a full queue, and otherwise joins the queue; HOSTCOPY
writes published bytes or returns the bytes in force, or DATA with RANGE; a signal waits for the end of its tick
and reaches its task then, or is answered NO_TARGET, and a slot is opened, cancelled or released; each read of a WAITVAL is
counted, and it ends when its
relation holds or its time is over.
What an ACK carries is log entry 83; the numbers of launches are log entry 98; that HOLD delays no HOSTCOPY is log entry 69,
and that a signal waits for the end of its tick log entry 140. -/
def Obligations.HostCommands : Prop :=
  (∀ (s : State) (sid sq q : Nat) (hdr : List Byte) (y : Session), findSession s sid = some y →
    let kept := y.acks.find? fun a => a.1 == sq
    (∀ a, kept = some a → exec (.launch sid sq q hdr) s = .next (sendAck s sid sq a.2)) ∧
    (kept = none → (∀ x, findQueue s q = some x → x.sid ≠ sid) → exec (.launch sid sq q hdr) s = .next (sendAck s sid sq 0x108)) ∧
    (kept = none → ∀ x, findQueue s q = some x → x.sid = sid → headerStatus s hdr (some q) ≠ 0 →
      exec (.launch sid sq q hdr) s = .next (sendAck s sid sq (headerStatus s hdr (some q)))) ∧
    (kept = none → ∀ x, findQueue s q = some x → x.sid = sid → headerStatus s hdr (some q) = 0 → queueFull s q = true →
      exec (.launch sid sq q hdr) s = .next (sendAck s sid sq 0x107)) ∧
    (kept = none → ∀ x, findQueue s q = some x → x.sid = sid → headerStatus s hdr (some q) = 0 → queueFull s q = false →
      ∃ t l y, exec (.launch sid sq q hdr) s = .next t ∧ t.host.launches = s.host.launches ++ [l] ∧ l.hdr = parseHdr hdr ∧
        l.lid = s.fresh ∧ findQueue t q = some y ∧ y.heads = x.heads ++ [s.fresh] ∧ y.intake = x.intake + 1 ∧
        t.agenda = s.agenda ++ [.gangAdmission] ∧ t.mem = s.mem)) ∧
  (∀ (s : State) (sid sq : Nat) (va : Word) (x : Session) (bs : List Byte) (n : Nat), findSession s sid = some x →
    (rangeHomes s va.toNat bs.length .write = false →
      exec (.hostcopyIn sid sq va bs) s = .next (completeCmd s sid sq 0x10B 0)) ∧
    (rangeHomes s va.toNat bs.length .write = true → ∃ t y, exec (.hostcopyIn sid sq va bs) s = .next t ∧
      t.net.pubs = s.net.pubs ++ [⟨x.src, hostUnit, x.openPh, 4⟩] ∧ findSession t sid = some y ∧ y.openPh = x.openPh + 1) ∧
    (rangeHomes s va.toNat n .read = true → let u := hostCount s va.toNat n .read
      hostBad u va.toNat n = none → exec (.hostcopyOut sid sq va n) s =
        .next (sendData u sid sq 0 ((List.range n).map fun i => hostByte u (va.toNat + i)))) ∧
    (rangeHomes s va.toNat n .read = false → exec (.hostcopyOut sid sq va n) s = .next (sendData s sid sq 0x10B []))) ∧
  (∀ (s : State) (sid sq : Nat) (tag wid v : Word), let x := (sid, sq, tag, wid, v)
    (exec (.signalTask sid sq tag wid v) s = .next { s with host := { s.host with sigs := s.host.sigs ++ [x] } }) ∧
    (∀ c, s.ctx = c → c.live = true → c.hdr.tag = tag → c.wid = wid →
      (giveSignal s x).ctx = { c with signals := c.signals ++ [v] } ∧ (giveSignal s x).mem = s.mem) ∧
    ((∀ c ∈ allCtx s, c.live = true → c.hdr.tag = tag → c.wid ≠ wid) → (∀ l ∈ s.host.launches, l.hdr.tag ≠ tag) →
      giveSignal s x = completeCmd s sid sq 0x10A 0)) ∧
  (∀ (s : State) (sid sq n : Nat) (rec : List Byte), let x := slotOfRecord n sid rec
    (slotRefused s x ((List.range 8).map fun k => recField rec (64 + k) 1) = false →
      ∃ t, exec (.signalOpenSlot sid sq n rec) s = .next t ∧ t.welt.slots = s.welt.slots ++ [x] ∧ t.mem = s.mem) ∧
    (slotRefused s x ((List.range 8).map fun k => recField rec (64 + k) 1) = true →
      exec (.signalOpenSlot sid sq n rec) s = .next (completeCmd s sid sq 0x109 0))) ∧
  (∀ (s : State) (sid sq n : Nat) (req : BitVec 32) (x : Slot), findSlot s n = some x →
    (x.req = req → x.done = false → ∃ t y, exec (.signalCancel sid sq n req) s = .next t ∧ findSlot t n = some y ∧
      y.done = true ∧ y.st = 0 ∧ y.recs = [] ∧ y.hold = []) ∧
    (x.req = req → x.done = true → ∃ t, exec (.signalRelease sid sq n req) s = .next t ∧ findSlot t n = none ∧
      ∀ i ∈ t.welt.installs, i.slot ≠ n) ∧
    (x.req ≠ req → exec (.signalCancel sid sq n req) s = .next (completeCmd s sid sq 0x10A 0) ∧
      exec (.signalRelease sid sq n req) s = .next (completeCmd s sid sq 0x10A 0))) ∧
  (∀ (s : State) (sid sq rel tmo : Nat) (va msk v : Word), (findSession s sid).isSome = true →
    rangeHomes s va.toNat 8 .read = true → ∃ t, exec (.waitval sid sq va msk v rel tmo) s = .next t ∧
      t.host.waits = s.host.waits ++ [⟨sid, sq, va, msk, v, rel, s.tick + 100 * tmo, s.tick⟩] ∧
      t.agenda = s.agenda ++ [.waitvalPoll sid sq]) ∧
  (∀ (s u : State) (w : WaitVal), s.host.waits = [w] → w.next ≤ s.tick → u = hostCount s w.va.toNat 8 .read →
    rangeHomes u w.va.toNat 8 .read = true →
    let v := leNat ((List.range 8).map fun i => hostByte s (w.va.toNat + i))
    let run := exec (.waitvalPoll w.sid w.sq) s
    let ended := { u with host := { u.host with waits := [] } }
    (relHolds w.rel (v &&& w.msk.toNat) w.val.toNat = true → run = .next (completeCmd ended w.sid w.sq 0 v)) ∧
    (relHolds w.rel (v &&& w.msk.toNat) w.val.toNat = false → w.until_ ≤ s.tick →
      run = .next (completeCmd ended w.sid w.sq 0x10C v)) ∧
    (relHolds w.rel (v &&& w.msk.toNat) w.val.toNat = false → s.tick < w.until_ →
      ∃ t, run = .next t ∧ t.host.waits = [{ w with next := s.tick + 100 }] ∧ t.host.out = s.host.out))

/-- R391, R393, R446: a query's answer is a DATA packet on its session that holds CNT dwords from the offset on, and nothing
else of the part changes: the management registers, a slot's record, a trap frame, a queue, the loaded slot-table records,
the error log, and the attestation report.
The layout of space 4 is log entry 87; the flush counter in dword 73 of a slot's record is log entry 119. -/
def Obligations.Queries : Prop :=
  ∀ (s : State) (sid sq i o n : Nat) (x : Session), findSession s sid = some x →
    let ans := fun q (w : Nat → Nat) => ∃ t p, exec q s = .next t ∧ t.host.out = s.host.out ++ [p] ∧ p.sid = sid ∧
      p.type = 0x82 ∧ p.sq = x.next ∧ t = { s with host := { s.host with out := t.host.out, sessions := t.host.sessions } } ∧
      p.body = leBytes 8 sq ++ leBytes 2 0 ++ leBytes 6 0 ++ (List.range n).flatMap fun k => leBytes 8 (w (o + k))
    ans (.queryManagement sid sq i o n) (fun k => (managementWords s i).getD k 0) ∧
    ans (.querySlotRecord sid sq i o n) (fun k => (slotWords s i).getD k 0) ∧
    (∀ y, findSlot s i = some y → (slotWords s i).getD 73 0 = y.flushed) ∧
    (i < 1600 → o + n ≤ 512 → ans (.queryTrapFrame sid sq i o n) fun k => leNat (memRead s.mem (heelKey (frameOf i + 8 * k)) 8)) ∧
    (∀ q, findQueue s i = some q → ans (.queryQueueState sid sq i o n) fun k =>
      if k = 0 then at' q.level 35 + at' (((headOf s q).map fun l => l.hdr.prio).getD q.level) 32 + q.sid % 2 ^ 32
      else if k = 1 then q.heads.length else if k = 2 then q.intake else if k = 3 then q.doneN
      else if k < 16 then leNat ((q.last.drop (8 * (k - 4))).take 8) else 0) ∧
    (∀ r, s.cob.tables[i]? = some r → ans (.querySlotTables sid sq i o n) fun k => (tableWords r).getD k 0) ∧
    ans (.queryErrorLog sid sq i o n) (fun k => leNat (memRead s.mem (heelKey (0x5C00000 + 8 * k)) 8)) ∧
    ans (.queryAttestation sid sq i o n) fun k =>
      let r := if o = 0 then attestation s x else x.report
      if k < (r.length + 7) / 8 then leNat ((r.drop (8 * k)).take 8) else 0

/-! ## Translation and migration -/

/-- R402, R403, R404, R407, R409 to R412: the records of a driver's answer: a page entry, a segment's words, a frame for the free
list, an emptied map cache; a page whose migration starts is held at its home, and the end of its answer completes the
packet; a page fault's answer lets the parked pieces of its home go on or refuses its own; a page moves with its bytes, its entry and a
forward once no piece is in service.
Which status a failing record has is log entry 86; HOLD of the whole segment is log entry 68; when a forward ends is log entry 117,
and what an answer lets go is log entry 135. -/
def Obligations.MapSteps : Prop :=
  (∀ (s : State) (sid sq k : Nat) (va v : Word) (g : Seg),
    let fails := fun i c => ∃ t, exec i s = .next t ∧ t.net = s.net ∧ t.mem = s.mem ∧
      ((∀ a ∈ s.host.ansFails, (a.1, a.2.1) ≠ (sid, sq)) → t.host.ansFails = s.host.ansFails ++ [(sid, sq, c, k)])
    let e := entryAt s g va.toNat
    let peer := v.toNat % 256
    let frame := v.toNat / 2 ^ 8 % 2 ^ 28
    let migs := s.net.migs.any fun m => m.va.toNat / 65536 == va.toNat / 65536
    (v.getLsbD 63 = true → malformed s v = true → fails (.pageEntryWrite sid sq k va v) 0x10D) ∧
    (v.getLsbD 63 = false ∨ malformed s v = false → segAt s va.toNat = none → fails (.pageEntryWrite sid sq k va v) 0x10B) ∧
    (v.getLsbD 63 = false ∨ malformed s v = false → segAt s va.toNat = some g →
      (g.hold = true → fails (.pageEntryWrite sid sq k va v) 0x107) ∧
      (g.hold = false →
        ∃ t, exec (.pageEntryWrite sid sq k va v) s = .next t ∧ entryAt t g va.toNat = cleanEntry v ∧
          (∀ a, a ≠ g.slot va.toNat → pteAt t a = pteAt s a) ∧ t.net.segs = s.net.segs ∧
          (compField v = false → t.mem = s.mem))) ∧
    (segOf s va.toNat = some g → v.toNat < 2 ^ 40 → frame % 16 = 0 → frameFits frame = true → (peerOf s peer).isSome = true →
      (pageHome s g va.toNat = none ∨ e.getLsbD 63 = false ∨ malformed s e = true →
        fails (.pageMigrate sid sq k va v) 0x10B) ∧
      (∀ h a, migs = true → pageHome s g va.toNat = some (h, a) → e.getLsbD 63 = true → malformed s e = false →
        fails (.pageMigrate sid sq k va v) 0x107) ∧
      (∀ h a, migs = false → pageHome s g va.toNat = some (h, a) → e.getLsbD 63 = true → malformed s e = false →
        ∃ t, exec (.pageMigrate sid sq k va v) s = .next t ∧ t.mem = s.mem ∧
          t.net.migs = s.net.migs ++ [⟨h, va, peer, frame, v.toNat / 2 ^ 36, sid⟩] ∧
          (h = ownHome s → ∃ u, segOf t va.toNat = some u ∧ u.hold = true))) ∧
    (∀ cid f fs p h a, segOf s va.toNat = some g → migs = false → pageHome s g va.toNat = some (h, a) →
      s.net.frames = f :: fs → s.net.peers.find? (fun p => p.kind == 1 && p.home == ownHome s) = some p →
      ∃ t, exec (.migrateTrigger cid va) s = .next t ∧ t.net.frames = fs ∧
        t.net.migs = s.net.migs ++ [⟨h, va, p.n, f, 0, 0⟩]) ∧
    (∀ cid, migs = true → exec (.migrateTrigger cid va) s = .next s)) ∧
  (∀ (s : State) (sid sq k : Nat) (va w0 w1 : Word), va.toNat % 2 ^ 16 = 0 → va.toNat + w1.toNat % 2 ^ 32 * 2 ^ 16 ≤ 2 ^ 56 →
    0 < w1.toNat % 2 ^ 32 → w0.toNat / 2 ^ 16 = va.toNat / 2 ^ 16 → s.net.segs = [] →
    ∃ t g, exec (.segmentEntryWrite sid sq k va w0 w1) s = .next t ∧ t.net.segs = [g] ∧ g.base = va.toNat ∧
      g.pagesN = w1.toNat % 2 ^ 32 ∧ g.valid = w0.getLsbD 15 ∧ g.hold = false ∧ t.net.lastOp2 = some va.toNat ∧ t.mem = s.mem) ∧
  (∀ (s : State) (sid sq k base : Nat) (va w2 w3 : Word),
    (s.net.lastOp2 = some base → w2.toNat % 64 = 0 → irectOk w3 = true →
      ∃ t, exec (.segmentWordsWrite sid sq k va w2 w3) s = .next t ∧ t.net.lastOp2 = some base ∧ t.mem = s.mem ∧
        t.net.segs = s.net.segs.map fun g => if g.base = base then { g with w2 := w2, w3 := w3 } else g) ∧
    ∃ t, exec (.mapCacheInvalidate sid sq k va) s = .next t ∧ t.net.segs = s.net.segs ∧ t.mem = s.mem ∧
      ∀ g, segOf s va.toNat = some g → ∀ e ∈ t.net.cache, e.1 ≠ g.base) ∧
  (∀ (s : State) (sid sq k : Nat) (v : Word), v.toNat < 2 ^ 28 → v.toNat % 16 = 0 → frameFits v.toNat = true →
    s.net.frames.length < 1024 →
    ∃ t, exec (.freeFrameAppend sid sq k v) s = .next t ∧ t.net.frames = s.net.frames ++ [v.toNat] ∧ t.mem = s.mem) ∧
  (∀ (s : State) (sid sq rseq : Nat) (r : PageReq) (p : Piece), s.host.preqs = [r] → r.rseq = rseq → r.sid = sid →
    r.kind = 2 → findPiece s r.cid = some p → p.state = .parked → s.host.ansFails = [] → rseq ≠ 0 →
    (∃ t, exec (.pageansMapped sid sq rseq) s = .next t ∧ findPiece t r.cid = some { p with state := .flight, due := s.cycle } ∧
      t.host.preqs = [] ∧ ∀ q ∈ s.net.pieces, q.state = .parked → q.goesTo s = p.goesTo s →
        { q with state := .flight, due := s.cycle } ∈ t.net.pieces) ∧
    (∃ t, exec (.pageansFailure sid sq rseq) s = .next t ∧ findPiece t r.cid = some { p with state := .refused } ∧
      t.host.preqs = [] ∧ .targetRefusal p.id ∈ t.agenda)) ∧
  (∀ (s : State) (va : Word) (m : Migration) (g : Seg) (h a : Nat) (p : Peer), s.net.migs = [m] → m.va = va →
    segOf s va.toNat = some g → busyPieces s g m.home = 0 → pageHome s g va.toNat = some (h, a) →
    peerOf s m.peer = some p → p.kind ≠ 2 → migrationFits (entryAt s g va.toNat) false m.cap = true →
    ∃ t, exec (.migrationCopy va) s = .next t ∧ t.net.migs = [] ∧
      (m.home = ownHome s → (∃ u, segOf t va.toNat = some u ∧ u.hold = false) ∧
        entryAt t g va.toNat = movedEntry (entryAt s g va.toNat) m.peer m.frame false) ∧
      (m.home ≠ ownHome s → t.net.segs = s.net.segs ∧ t.net.ptes = s.net.ptes) ∧
      t.net.fwds = s.net.fwds ++ [⟨m.home, a / 4096, p.home, m.frame⟩] ∧
      ∀ i, i < 65536 → memGet t.mem (hbmKey p.home (m.frame * 4096) + i) = memGet s.mem (hbmKey m.home a + i))
end

