-- ==== Sys2Proof/Laws/Memory.lean ====
section
/-! SUPPORT. The laws of memory: what a write leaves at every key, and that it keeps the canonical form. -/

-- one proof at a time
set_option Elab.async false

namespace Sys2Proof.Laws

open Sys2Proof.Machine

/-! ## The canonical form -/

/-- A list whose keys start at a bound has the form for every lower bound. -/
theorem wfFrom_mono {lo lo' : Nat} (h : lo' ≤ lo) : ∀ {m : Memory}, Memory.wfFrom lo m = true → Memory.wfFrom lo' m = true
  | [], _ => rfl
  | (a, b) :: t, w => by
    simp only [Memory.wfFrom, Bool.and_eq_true, decide_eq_true_eq] at w ⊢
    exact ⟨⟨by omega, w.1.2⟩, w.2⟩

/-- A filter keeps the form. -/
theorem wfFrom_filter (f : Host.Cell → Bool) : ∀ {lo : Nat} {m : Memory}, Memory.wfFrom lo m = true →
    Memory.wfFrom lo (m.filter f) = true
  | _, [], _ => rfl
  | lo, (a, b) :: t, w => by
    simp only [Memory.wfFrom, Bool.and_eq_true, decide_eq_true_eq] at w
    have r := wfFrom_filter f w.2
    by_cases h : f (a, b) = true
    · rw [List.filter_cons_of_pos h]
      simp only [Memory.wfFrom, Bool.and_eq_true, decide_eq_true_eq]
      exact ⟨w.1, r⟩
    · rw [List.filter_cons_of_neg h]
      exact wfFrom_mono (by omega) r

/-- Two lists, the first of which stays below a bound from which the second has the form. -/
theorem wfFrom_append {k : Nat} {n : Memory} (hn : Memory.wfFrom k n = true) : ∀ {lo : Nat} {m : Memory},
    lo ≤ k → Memory.wfFrom lo m = true → (∀ c ∈ m, c.1 < k) → Memory.wfFrom lo (m ++ n) = true
  | _, [], hl, _, _ => wfFrom_mono hl hn
  | lo, (a, b) :: t, hl, w, hb => by
    simp only [Memory.wfFrom, Bool.and_eq_true, decide_eq_true_eq, List.cons_append] at w ⊢
    have := hb (a, b) (by simp)
    exact ⟨w.1, wfFrom_append hn (by simpa using this) w.2 fun c hc => hb c (by simp [hc])⟩

/-- A block of nonzero bytes has the form from its first key on. -/
theorem wfFrom_block : ∀ (k : Nat) (bs : List Byte), Memory.wfFrom k (blockCells k bs) = true
  | _, [] => rfl
  | k, b :: bs => by
    unfold blockCells
    split
    · exact wfFrom_mono (by omega) (wfFrom_block (k + 1) bs)
    · simp only [Memory.wfFrom, Bool.and_eq_true, decide_eq_true_eq]
      exact ⟨⟨le_refl k, by simpa using ‹¬b = 0›⟩, wfFrom_block (k + 1) bs⟩

/-- The keys of a block. -/
theorem block_bounds : ∀ {k : Nat} {bs : List Byte} {c : Host.Cell}, c ∈ blockCells k bs → k ≤ c.1 ∧ c.1 < k + bs.length
  | _, [], _, h => by simp [blockCells] at h
  | k, b :: bs, c, h => by
    unfold blockCells at h
    have step : c ∈ blockCells (k + 1) bs → k ≤ c.1 ∧ c.1 < k + (b :: bs).length := fun h' => by
      have := block_bounds h'
      simp only [List.length_cons]
      omega
    split at h
    · exact step h
    · rcases List.mem_cons.mp h with rfl | h'
      · simp
      · exact step h'

/-- Cells from a bound on have the form from that bound. -/
theorem wfFrom_above {k : Nat} : ∀ {lo : Nat} {m : Memory}, Memory.wfFrom lo m = true →
    Memory.wfFrom k (m.filter fun c => k ≤ c.1) = true
  | _, [], _ => rfl
  | lo, (a, b) :: t, w => by
    simp only [Memory.wfFrom, Bool.and_eq_true, decide_eq_true_eq] at w
    by_cases h : k ≤ a
    · rw [List.filter_cons_of_pos (by simpa using h)]
      simp only [Memory.wfFrom, Bool.and_eq_true, decide_eq_true_eq]
      exact ⟨⟨h, w.1.2⟩, wfFrom_filter _ w.2⟩
    · rw [List.filter_cons_of_neg (by simpa using h)]
      exact wfFrom_above w.2

/-- A write of bytes keeps the canonical form. -/
@[simp] theorem memPut_wf {m : Memory} (h : m.wf = true) (k : Nat) (bs : List Byte) : (memPut m k bs).wf = true := by
  unfold Memory.wf at *
  have top := wfFrom_above (k := k + bs.length) h
  have mid : Memory.wfFrom k (blockCells k bs ++ m.filter fun c => k + bs.length ≤ c.1) = true :=
    wfFrom_append top (by omega) (wfFrom_block k bs) fun c hc => (block_bounds hc).2
  unfold memPut
  rw [List.append_assoc]
  exact wfFrom_append mid (Nat.zero_le k) (wfFrom_filter _ h) fun c hc => by simpa using (List.mem_filter.mp hc).2

/-! ## What a write leaves -/

/-- A byte of two lists. -/
theorem memGet_append (k : Nat) (n : Memory) : ∀ m : Memory,
    memGet (m ++ n) k = if m.any (fun c => c.1 == k) then memGet m k else memGet n k
  | [] => by simp
  | (a, b) :: t => by
    simp only [List.cons_append, memGet, List.any_cons]
    by_cases h : a = k
    · simp [h]
    · simp [h, memGet_append k n t]

/-- A key that no cell has reads zero. -/
theorem memGet_none (k : Nat) : ∀ {m : Memory}, m.any (fun c => c.1 == k) = false → memGet m k = 0
  | [], _ => rfl
  | (a, b) :: t, h => by
    simp only [List.any_cons, Bool.or_eq_false_iff, beq_eq_false_iff_ne] at h
    simp only [memGet, if_neg h.1]
    exact memGet_none k h.2

/-- A filter that keeps the cells of a key keeps its byte. -/
theorem memGet_filter {f : Host.Cell → Bool} {k : Nat} (hf : ∀ b, f (k, b) = true) : ∀ m : Memory,
    memGet (m.filter f) k = memGet m k
  | [] => rfl
  | (a, b) :: t => by
    by_cases ha : a = k
    · subst ha
      rw [List.filter_cons_of_pos (hf b)]
      simp [memGet]
    · by_cases h : f (a, b) = true
      · rw [List.filter_cons_of_pos h]
        simp [memGet, ha, memGet_filter hf t]
      · rw [List.filter_cons_of_neg h]
        simp [memGet, ha, memGet_filter hf t]

/-- A filter that drops a key leaves none of its cells. -/
theorem any_filter_none {f : Host.Cell → Bool} {k : Nat} (hf : ∀ b, f (k, b) = false) (m : Memory) :
    (m.filter f).any (fun c => c.1 == k) = false := by
  rw [List.any_eq_false]
  intro c hc h
  have hk : c.1 = k := by simpa using h
  have := (List.mem_filter.mp hc).2
  obtain ⟨x, y⟩ := c
  simp only at hk
  subst hk
  simp [hf y] at this

/-- A byte of a block. -/
theorem memGet_block : ∀ (a : Nat) (bs : List Byte) (k : Nat), a ≤ k → k < a + bs.length →
    memGet (blockCells a bs) k = bs.getD (k - a) 0
  | _, [], _, h, h' => by simp at h'; omega
  | a, b :: bs, k, h, h' => by
    have rest : a ≠ k → memGet (blockCells (a + 1) bs) k = (b :: bs).getD (k - a) 0 := fun hk => by
      rw [memGet_block (a + 1) bs k (by omega) (by simp only [List.length_cons] at h'; omega)]
      rw [show k - a = (k - (a + 1)) + 1 by omega, List.getD_cons_succ]
    have here : memGet (blockCells (a + 1) bs) a = 0 := memGet_none a (by
      rw [List.any_eq_false]
      intro c hc t
      have := (block_bounds hc).1
      have : c.1 = a := by simpa using t
      omega)
    unfold blockCells
    by_cases hk : a = k
    · subst hk
      split
      · rw [here]
        simp_all
      · simp [memGet]
    · split
      · exact rest hk
      · simp only [memGet, if_neg hk]
        exact rest hk

/-- The bytes of a write read as they were written. -/
theorem memGet_memPut_in (m : Memory) {a k : Nat} {bs : List Byte} (h : a ≤ k) (h' : k < a + bs.length) :
    memGet (memPut m a bs) k = bs.getD (k - a) 0 := by
  have lo : (m.filter fun c => c.1 < a).any (fun c => c.1 == k) = false :=
    any_filter_none (by intro b; simp; omega) m
  have hi : (m.filter fun c => a + bs.length ≤ c.1).any (fun c => c.1 == k) = false :=
    any_filter_none (by intro b; simp; omega) m
  unfold memPut
  rw [← memGet_block a bs k h h', memGet_append, List.any_append, lo, Bool.false_or, memGet_append, lo]
  by_cases e : (blockCells a bs).any (fun c => c.1 == k) = true
  · simp [e]
  · rw [Bool.not_eq_true] at e
    rw [e, memGet_none k hi, memGet_none k e]
    simp

/-- A write leaves every other byte alone. -/
theorem memGet_memPut_out (m : Memory) {a k : Nat} {bs : List Byte} (h : k < a ∨ a + bs.length ≤ k) :
    memGet (memPut m a bs) k = memGet m k := by
  have nb : (blockCells a bs).any (fun c => c.1 == k) = false := by
    rw [List.any_eq_false]
    intro c hc t
    have := block_bounds hc
    have : c.1 = k := by simpa using t
    omega
  unfold memPut
  rcases h with h | h
  · have hi : (m.filter fun c => a + bs.length ≤ c.1).any (fun c => c.1 == k) = false :=
      any_filter_none (by intro b; simp; omega) m
    have lo : memGet (m.filter fun c => c.1 < a) k = memGet m k := memGet_filter (by intro b; simpa using h) m
    rw [memGet_append, List.any_append, nb, Bool.or_false, memGet_append]
    by_cases e : (m.filter fun c => c.1 < a).any (fun c => c.1 == k) = true
    · simp [e, lo]
    · rw [Bool.not_eq_true] at e
      rw [← lo, memGet_none k e, memGet_none k hi]
      simp [e]
  · have lo : (m.filter fun c => c.1 < a).any (fun c => c.1 == k) = false :=
      any_filter_none (by intro b; simp; omega) m
    rw [memGet_append, List.any_append, nb, lo]
    simp only [Bool.or_self, Bool.false_eq_true, if_false]
    exact memGet_filter (by intro b; simpa using h) m

end Sys2Proof.Laws
end

