-- ==== Sys2Proof/Laws/Keep.lean ====
section
/-! SUPPORT. What each definition of the scalar, vector, matrix, table and copy families does to memory: a `_mem` lemma says that it
leaves memory as it is, a `_wf` lemma that it keeps the canonical form. `OutMem` and `OutWf` say the same of an outcome.
From the shared operations (Machine/Ops.lean) on, in the order in which the model is built. -/

-- one proof at a time
set_option Elab.async false

set_option linter.all false

namespace Sys2Proof.Laws
open Sys2Proof.Machine

/-! ## Machine/Ops.lean -/

/-- An outcome whose next state, if it has one, keeps the form. -/
def OutWf (o : Outcome State) : Prop := match o with | .next t => t.mem.wf = true | _ => True
@[simp] theorem outWf_next (t : State) : OutWf (.next t) ↔ t.mem.wf = true := Iff.rfl
@[simp] theorem foldl_wf {α : Type} {f : State → α → State} (hf : ∀ s x, s.mem.wf = true → (f s x).mem.wf = true) :
    ∀ (l : List α) {s : State}, s.mem.wf = true → (l.foldl f s).mem.wf = true
  | [], _, h => h
  | x :: t, s, h => foldl_wf hf t (hf s x h)
@[simp] theorem nil_wf : Memory.wf [] = true := rfl
/-- An outcome whose next state, if it has one, has the memory of `s`. -/
def OutMem (s : State) (o : Outcome State) : Prop := match o with | .next t => t.mem = s.mem | _ => True
@[simp] theorem outMem_next (s t : State) : OutMem s (.next t) ↔ t.mem = s.mem := Iff.rfl
@[simp] theorem outMem_fault (s : State) (f : Fault) : OutMem s (.fault f) := trivial
@[simp] theorem outMem_refused (s : State) (f : Refusal) : OutMem s (.refused f) := trivial
@[simp] theorem outWf_fault (f : Fault) : OutWf (.fault f) := trivial
@[simp] theorem outWf_refused (f : Refusal) : OutWf (.refused f) := trivial
theorem OutMem.wf {s : State} {o : Outcome State} (h : OutMem s o) (hs : s.mem.wf = true) : OutWf o := by
  cases o <;> simp_all [OutMem, OutWf]
@[simp] theorem foldl_mem {α : Type} {f : State → α → State} (hf : ∀ s x, (f s x).mem = s.mem) :
    ∀ (l : List α) (s : State), (l.foldl f s).mem = s.mem
  | [], _ => rfl
  | x :: t, s => (foldl_mem hf t (f s x)).trans (hf s x)
@[simp] theorem ite_mem {c : Prop} [Decidable c] (a b : State) : (if c then a else b).mem = if c then a.mem else b.mem := apply_ite State.mem c a b
@[simp] theorem ite_wf {c : Prop} [Decidable c] {a b : Memory} (ha : a.wf = true) (hb : b.wf = true) : (if c then a else b).wf = true := by
  split <;> assumption
@[simp] theorem ite_outWf {c : Prop} [Decidable c] {a b : Outcome State} (ha : OutWf a) (hb : OutWf b) : OutWf (if c then a else b) := by
  split <;> assumption
@[simp] theorem ite_outMem {c : Prop} [Decidable c] {s : State} {a b : Outcome State} (ha : OutMem s a) (hb : OutMem s b) : OutMem s (if c then a else b) := by
  split <;> assumption
@[simp] theorem reset_mem_nil : State.reset.mem = [] := rfl
@[simp] theorem State_up_mem (s : State) (f : Ctx → Ctx) :
    (State.up s f).mem = s.mem := by
  unfold State.up
  rfl

@[simp] theorem State_upR_mem (s : State) (f : Regs → Regs) :
    (State.upR s f).mem = s.mem := by
  unfold State.upR
  rfl

@[simp] theorem putLatch_mem (s : State) (l : Latch) :
    (putLatch s l).mem = s.mem := by
  unfold putLatch
  rfl

@[simp] theorem addLatch_mem (s : State) (lat : Nat) (d : Dest) (v : Word) (flags : Nat) (bad : Option Trap) :
    (addLatch s lat d v flags bad).mem = s.mem := by
  unfold addLatch
  rfl

@[simp] theorem addDW_mem (s : State) (lat : Nat) (a : DAct) :
    (addDW s lat a).mem = s.mem := by
  unfold addDW
  rfl

@[simp] theorem charge_mem (s : State) (pj : Nat) :
    (charge s pj).mem = s.mem := by
  unfold charge
  rfl

@[simp] theorem refund_mem (s : State) (pj drawn : Nat) :
    (refund s pj drawn).mem = s.mem := by
  unfold refund
  rfl

@[simp] theorem updCtx_mem (s : State) (cid : Nat) (f : Ctx → Ctx) :
    (updCtx s cid f).mem = s.mem := by
  unfold updCtx
  rfl

@[simp] theorem mapCtx_mem (s : State) (f : Ctx → Ctx) :
    (mapCtx s f).mem = s.mem := by
  unfold mapCtx
  rfl

@[simp] theorem focus_mem (s : State) (cid : Nat) :
    (focus s cid).mem = s.mem := by
  unfold focus
  (repeat' split) <;> simp [*]

@[simp] theorem post_mem (s : State) (e : Event) :
    (post s e).mem = s.mem := by
  unfold post
  rfl

@[simp] theorem updLaunch_mem (s : State) (lid : Nat) (f : Launch → Launch) :
    (updLaunch s lid f).mem = s.mem := by
  unfold updLaunch
  rfl

@[simp] theorem leaveRole_mem (s : State) (cid : Nat) :
    (leaveRole s cid).mem = s.mem := by
  unfold leaveRole
  split <;> simp [*]

@[simp] theorem startTest_mem (s : State) (ukind unit idx : Nat) (addr : Word) (cids : List Nat) :
    (startTest s ukind unit idx addr cids).mem = s.mem := by
  unfold startTest
  simp

@[simp] theorem setFrameDword_wf (s : State) (i : Nat) (v : Word) (h_ : s.mem.wf = true) :
    (setFrameDword s i v).mem.wf = true := by
  unfold setFrameDword
  simp [*]

@[simp] theorem writeFrame_wf (s : State) (t : Trap) (h_ : s.mem.wf = true) :
    (writeFrame s t).mem.wf = true := by
  unfold writeFrame
  simp [*]

@[simp] theorem writeCause_wf (s : State) (t : Trap) (h_ : s.mem.wf = true) :
    (writeCause s t).mem.wf = true := by
  unfold writeCause
  simp [*]

@[simp] theorem failLaunch_mem (s : State) (t : Trap) :
    (failLaunch s t).mem = s.mem := by
  unfold failLaunch
  rfl

@[simp] theorem saveFrame_wf (s : State) (t : Trap) (h_ : s.mem.wf = true) :
    (saveFrame s t).mem.wf = true := by
  unfold saveFrame
  simp [*]

@[simp] theorem enterHandler_mem (s : State) :
    (enterHandler s).mem = s.mem := by
  unfold enterHandler
  rfl

@[simp] theorem deliverTvec_mem (s : State) (t : Trap) :
    (deliverTvec s t).mem = s.mem := by
  unfold deliverTvec
  simp

@[simp] theorem fatalNow_wf (s : State) (t : Trap) (h_ : s.mem.wf = true) :
    (fatalNow s t).mem.wf = true := by
  unfold fatalNow
  split <;> simp [*]

@[simp] theorem takeLogitFault_wf (s : State) (pc : Word) (h_ : s.mem.wf = true) :
    (takeLogitFault s pc).mem.wf = true := by
  unfold takeLogitFault
  simp only [post_mem, State_up_mem]
  split <;> simp [*]

@[simp] theorem logEntry_wf (s : State) (tick cause cls ukind unit : Nat) (addr : Word) (ctx : Nat) (h_ : s.mem.wf = true) :
    (logEntry s tick cause cls ukind unit addr ctx).mem.wf = true := by
  unfold logEntry
  simp [*]

@[simp] theorem takeClass_wf (s : State) (tick : Nat) (t : Trap) (ukind unit idx : Nat) (pass : Bool) (h_ : s.mem.wf = true) :
    (takeClass s tick t ukind unit idx pass).mem.wf = true := by
  unfold takeClass
  dsimp only
  split <;> simp (maxDischargeDepth := 60) [*]

@[simp] theorem testMismatch_mem (s : State) (t : Trap) : (testMismatch s t).mem = s.mem := by
  unfold testMismatch
  simp

@[simp] theorem takeMismatch_wf (s : State) (t : Trap) (h_ : s.mem.wf = true) : (takeMismatch s t).mem.wf = true := by
  unfold takeMismatch
  dsimp only
  split
  · exact takeClass_wf _ _ _ _ _ _ _ h_
  · simpa using h_

@[simp] theorem takeTrap_wf (s : State) (t : Trap) (h_ : s.mem.wf = true) :
    (takeTrap s t).mem.wf = true := by
  unfold takeTrap
  (repeat' split) <;> (try simp (maxDischargeDepth := 60) [*]) <;> (repeat' split) <;>
    simp (maxDischargeDepth := 60) [*]

@[simp] theorem resume_mem (s : State) :
    (resume s).mem = s.mem := by
  unfold resume
  split <;> simp [*]

@[simp] theorem returnFromTrap_wf (s : State) (pc : Word) (h_ : s.mem.wf = true) :
    (returnFromTrap s pc).mem.wf = true := by
  unfold returnFromTrap
  split <;> simp [*]

/-! ## Machine/Packets.lean -/

@[simp] theorem updSession_mem (s : State) (sid : Nat) (f : Session → Session) :
    (updSession s sid f).mem = s.mem := by
  unfold updSession
  rfl

@[simp] theorem sessionPkt_mem (s : State) (x : Session) (type : Nat) (body : List Byte) (due sends : Nat) :
    (sessionPkt s x type body due sends).mem = s.mem := by
  unfold sessionPkt
  simp

@[simp] theorem sendPkt_mem (s : State) (sid type : Nat) (body : List Byte) :
    (sendPkt s sid type body).mem = s.mem := by
  unfold sendPkt
  split <;> simp [*]

@[simp] theorem sendAck_mem (s : State) (sid sq status : Nat) :
    (sendAck s sid sq status).mem = s.mem := by
  unfold sendAck
  dsimp only
  split <;> simp [*]

@[simp] theorem completeCmd_mem (s : State) (sid sq status value : Nat) :
    (completeCmd s sid sq status value).mem = s.mem := by
  unfold completeCmd
  simp

@[simp] theorem sendData_mem (s : State) (sid sq status : Nat) (bytes : List Byte) :
    (sendData s sid sq status bytes).mem = s.mem := by
  unfold sendData
  simp

@[simp] theorem sendDwords_mem (s : State) (sid sq : Nat) (ws : List Nat) :
    (sendDwords s sid sq ws).mem = s.mem := by
  unfold sendDwords
  simp

/-! ## Machine/Operands.lean -/

@[simp] theorem doSwap_mem (s : State) (e : Fin 4) :
    (doSwap s e).mem = s.mem := by
  unfold doSwap
  simp

/-! ## Machine/Scalar.lean -/

@[simp] theorem idle_mem (s : State) :
    (idle s).mem = s.mem := by
  unfold idle
  rfl

@[simp] theorem sOp_mem (s : State) (lat : Nat) (d : Dest) (srcs : List (Fin 32)) (v : Word) (fl : Nat) (bad : Option Trap) (u_ : State) (h_ : s.mem = u_.mem) :
    OutMem u_ (sOp s lat d srcs v fl bad) := by
  unfold sOp
  simp [*]

@[simp] theorem sInt1_mem (s : State) (lat : Nat) (d : Fin 32) (srcs : List (Fin 32)) (v : Word) (u_ : State) (h_ : s.mem = u_.mem) :
    OutMem u_ (sInt1 s lat d srcs v) := by
  unfold sInt1
  simp [*]

@[simp] theorem execAdd_mem (d a b : Fin 32) (s : State) (u_ : State) (h_ : s.mem = u_.mem) :
    OutMem u_ (execAdd d a b s) := by
  unfold execAdd
  simp [*]

@[simp] theorem execSub_mem (d a b : Fin 32) (s : State) (u_ : State) (h_ : s.mem = u_.mem) :
    OutMem u_ (execSub d a b s) := by
  unfold execSub
  simp [*]

@[simp] theorem execAddw_mem (d a b : Fin 32) (s : State) (u_ : State) (h_ : s.mem = u_.mem) :
    OutMem u_ (execAddw d a b s) := by
  unfold execAddw
  simp [*]

@[simp] theorem execSubw_mem (d a b : Fin 32) (s : State) (u_ : State) (h_ : s.mem = u_.mem) :
    OutMem u_ (execSubw d a b s) := by
  unfold execSubw
  simp [*]

@[simp] theorem execAnd_mem (d a b : Fin 32) (s : State) (u_ : State) (h_ : s.mem = u_.mem) :
    OutMem u_ (execAnd d a b s) := by
  unfold execAnd
  simp [*]

@[simp] theorem execOr_mem (d a b : Fin 32) (s : State) (u_ : State) (h_ : s.mem = u_.mem) :
    OutMem u_ (execOr d a b s) := by
  unfold execOr
  simp [*]

@[simp] theorem execXor_mem (d a b : Fin 32) (s : State) (u_ : State) (h_ : s.mem = u_.mem) :
    OutMem u_ (execXor d a b s) := by
  unfold execXor
  simp [*]

@[simp] theorem execAndn_mem (d a b : Fin 32) (s : State) (u_ : State) (h_ : s.mem = u_.mem) :
    OutMem u_ (execAndn d a b s) := by
  unfold execAndn
  simp [*]

@[simp] theorem execOrn_mem (d a b : Fin 32) (s : State) (u_ : State) (h_ : s.mem = u_.mem) :
    OutMem u_ (execOrn d a b s) := by
  unfold execOrn
  simp [*]

@[simp] theorem execShl_mem (d a b : Fin 32) (s : State) (u_ : State) (h_ : s.mem = u_.mem) :
    OutMem u_ (execShl d a b s) := by
  unfold execShl
  simp [*]

@[simp] theorem execShr_mem (d a b : Fin 32) (s : State) (u_ : State) (h_ : s.mem = u_.mem) :
    OutMem u_ (execShr d a b s) := by
  unfold execShr
  simp [*]

@[simp] theorem execSar_mem (d a b : Fin 32) (s : State) (u_ : State) (h_ : s.mem = u_.mem) :
    OutMem u_ (execSar d a b s) := by
  unfold execSar
  simp [*]

@[simp] theorem execRotl_mem (d a b : Fin 32) (s : State) (u_ : State) (h_ : s.mem = u_.mem) :
    OutMem u_ (execRotl d a b s) := by
  unfold execRotl
  simp [*]

@[simp] theorem execMin_mem (d a b : Fin 32) (s : State) (u_ : State) (h_ : s.mem = u_.mem) :
    OutMem u_ (execMin d a b s) := by
  unfold execMin
  simp [*]

@[simp] theorem execMax_mem (d a b : Fin 32) (s : State) (u_ : State) (h_ : s.mem = u_.mem) :
    OutMem u_ (execMax d a b s) := by
  unfold execMax
  simp [*]

@[simp] theorem execMinn_mem (d a b : Fin 32) (s : State) (u_ : State) (h_ : s.mem = u_.mem) :
    OutMem u_ (execMinn d a b s) := by
  unfold execMinn
  simp [*]

@[simp] theorem execMaxn_mem (d a b : Fin 32) (s : State) (u_ : State) (h_ : s.mem = u_.mem) :
    OutMem u_ (execMaxn d a b s) := by
  unfold execMaxn
  simp [*]

@[simp] theorem execSextB_mem (d a : Fin 32) (s : State) (u_ : State) (h_ : s.mem = u_.mem) :
    OutMem u_ (execSextB d a s) := by
  unfold execSextB
  simp [*]

@[simp] theorem execSextH_mem (d a : Fin 32) (s : State) (u_ : State) (h_ : s.mem = u_.mem) :
    OutMem u_ (execSextH d a s) := by
  unfold execSextH
  simp [*]

@[simp] theorem execSextW_mem (d a : Fin 32) (s : State) (u_ : State) (h_ : s.mem = u_.mem) :
    OutMem u_ (execSextW d a s) := by
  unfold execSextW
  simp [*]

@[simp] theorem execZextB_mem (d a : Fin 32) (s : State) (u_ : State) (h_ : s.mem = u_.mem) :
    OutMem u_ (execZextB d a s) := by
  unfold execZextB
  simp [*]

@[simp] theorem execZextH_mem (d a : Fin 32) (s : State) (u_ : State) (h_ : s.mem = u_.mem) :
    OutMem u_ (execZextH d a s) := by
  unfold execZextH
  simp [*]

@[simp] theorem execZextW_mem (d a : Fin 32) (s : State) (u_ : State) (h_ : s.mem = u_.mem) :
    OutMem u_ (execZextW d a s) := by
  unfold execZextW
  simp [*]

@[simp] theorem execAddi_mem (d a : Fin 32) (im : BitVec 16) (s : State) (u_ : State) (h_ : s.mem = u_.mem) :
    OutMem u_ (execAddi d a im s) := by
  unfold execAddi
  simp [*]

@[simp] theorem execAndi_mem (d a : Fin 32) (im : BitVec 14) (s : State) (u_ : State) (h_ : s.mem = u_.mem) :
    OutMem u_ (execAndi d a im s) := by
  unfold execAndi
  simp [*]

@[simp] theorem execOri_mem (d a : Fin 32) (im : BitVec 14) (s : State) (u_ : State) (h_ : s.mem = u_.mem) :
    OutMem u_ (execOri d a im s) := by
  unfold execOri
  simp [*]

@[simp] theorem execXori_mem (d a : Fin 32) (im : BitVec 14) (s : State) (u_ : State) (h_ : s.mem = u_.mem) :
    OutMem u_ (execXori d a im s) := by
  unfold execXori
  simp [*]

@[simp] theorem execShli_mem (d a : Fin 32) (n : BitVec 6) (s : State) (u_ : State) (h_ : s.mem = u_.mem) :
    OutMem u_ (execShli d a n s) := by
  unfold execShli
  simp [*]

@[simp] theorem execShri_mem (d a : Fin 32) (n : BitVec 6) (s : State) (u_ : State) (h_ : s.mem = u_.mem) :
    OutMem u_ (execShri d a n s) := by
  unfold execShri
  simp [*]

@[simp] theorem execSari_mem (d a : Fin 32) (n : BitVec 6) (s : State) (u_ : State) (h_ : s.mem = u_.mem) :
    OutMem u_ (execSari d a n s) := by
  unfold execSari
  simp [*]

@[simp] theorem execRotli_mem (d a : Fin 32) (n : BitVec 6) (s : State) (u_ : State) (h_ : s.mem = u_.mem) :
    OutMem u_ (execRotli d a n s) := by
  unfold execRotli
  simp [*]

@[simp] theorem execMovi_mem (d : Fin 32) (h : Fin 4) (im : BitVec 16) (s : State) (u_ : State) (h_ : s.mem = u_.mem) :
    OutMem u_ (execMovi d h im s) := by
  unfold execMovi
  simp [*]

@[simp] theorem execMovk_mem (d : Fin 32) (h : Fin 4) (im : BitVec 16) (s : State) (u_ : State) (h_ : s.mem = u_.mem) :
    OutMem u_ (execMovk d h im s) := by
  unfold execMovk
  simp [*]

@[simp] theorem execClz_mem (d a : Fin 32) (s : State) (u_ : State) (h_ : s.mem = u_.mem) :
    OutMem u_ (execClz d a s) := by
  unfold execClz
  simp [*]

@[simp] theorem execCtz_mem (d a : Fin 32) (s : State) (u_ : State) (h_ : s.mem = u_.mem) :
    OutMem u_ (execCtz d a s) := by
  unfold execCtz
  simp [*]

@[simp] theorem execPopc_mem (d a : Fin 32) (s : State) (u_ : State) (h_ : s.mem = u_.mem) :
    OutMem u_ (execPopc d a s) := by
  unfold execPopc
  simp [*]

@[simp] theorem execBrev_mem (d a : Fin 32) (s : State) (u_ : State) (h_ : s.mem = u_.mem) :
    OutMem u_ (execBrev d a s) := by
  unfold execBrev
  simp [*]

@[simp] theorem execFns_mem (d a b : Fin 32) (s : State) (u_ : State) (h_ : s.mem = u_.mem) :
    OutMem u_ (execFns d a b s) := by
  unfold execFns
  simp [*]

@[simp] theorem execBfx_mem (d a b : Fin 32) (s : State) (u_ : State) (h_ : s.mem = u_.mem) :
    OutMem u_ (execBfx d a b s) := by
  unfold execBfx
  simp [*]

@[simp] theorem execBfxn_mem (d a b : Fin 32) (s : State) (u_ : State) (h_ : s.mem = u_.mem) :
    OutMem u_ (execBfxn d a b s) := by
  unfold execBfxn
  simp [*]

@[simp] theorem execBfi_mem (d a b : Fin 32) (s : State) (u_ : State) (h_ : s.mem = u_.mem) :
    OutMem u_ (execBfi d a b s) := by
  unfold execBfi
  simp [*]

@[simp] theorem execFshl_mem (d a b : Fin 32) (s : State) (u_ : State) (h_ : s.mem = u_.mem) :
    OutMem u_ (execFshl d a b s) := by
  unfold execFshl
  simp [*]

@[simp] theorem execFshr_mem (d a b : Fin 32) (s : State) (u_ : State) (h_ : s.mem = u_.mem) :
    OutMem u_ (execFshr d a b s) := by
  unfold execFshr
  simp [*]

@[simp] theorem execMul_mem (d a b : Fin 32) (s : State) (u_ : State) (h_ : s.mem = u_.mem) :
    OutMem u_ (execMul d a b s) := by
  unfold execMul
  simp [*]

@[simp] theorem execMulh_mem (d a b : Fin 32) (s : State) (u_ : State) (h_ : s.mem = u_.mem) :
    OutMem u_ (execMulh d a b s) := by
  unfold execMulh
  simp [*]

@[simp] theorem execMulhn_mem (d a b : Fin 32) (s : State) (u_ : State) (h_ : s.mem = u_.mem) :
    OutMem u_ (execMulhn d a b s) := by
  unfold execMulhn
  simp [*]

@[simp] theorem execDiv_mem (d a b : Fin 32) (s : State) (u_ : State) (h_ : s.mem = u_.mem) :
    OutMem u_ (execDiv d a b s) := by
  unfold execDiv
  simp [*]

@[simp] theorem execDivn_mem (d a b : Fin 32) (s : State) (u_ : State) (h_ : s.mem = u_.mem) :
    OutMem u_ (execDivn d a b s) := by
  unfold execDivn
  simp [*]

@[simp] theorem execRem_mem (d a b : Fin 32) (s : State) (u_ : State) (h_ : s.mem = u_.mem) :
    OutMem u_ (execRem d a b s) := by
  unfold execRem
  simp [*]

@[simp] theorem execRemn_mem (d a b : Fin 32) (s : State) (u_ : State) (h_ : s.mem = u_.mem) :
    OutMem u_ (execRemn d a b s) := by
  unfold execRemn
  simp [*]

/-! ## Machine/Pred.lean -/

@[simp] theorem sPred_mem (s : State) (d : Fin 8) (srcs : List (Fin 32)) (v : Bool) (u_ : State) (h_ : s.mem = u_.mem) :
    OutMem u_ (sPred s d srcs v) := by
  unfold sPred
  simp [*]

@[simp] theorem execCmpeq_mem (pd : Fin 8) (a b : Fin 32) (s : State) (u_ : State) (h_ : s.mem = u_.mem) :
    OutMem u_ (execCmpeq pd a b s) := by
  unfold execCmpeq
  simp [*]

@[simp] theorem execCmpne_mem (pd : Fin 8) (a b : Fin 32) (s : State) (u_ : State) (h_ : s.mem = u_.mem) :
    OutMem u_ (execCmpne pd a b s) := by
  unfold execCmpne
  simp [*]

@[simp] theorem execCmplt_mem (pd : Fin 8) (a b : Fin 32) (s : State) (u_ : State) (h_ : s.mem = u_.mem) :
    OutMem u_ (execCmplt pd a b s) := by
  unfold execCmplt
  simp [*]

@[simp] theorem execCmple_mem (pd : Fin 8) (a b : Fin 32) (s : State) (u_ : State) (h_ : s.mem = u_.mem) :
    OutMem u_ (execCmple pd a b s) := by
  unfold execCmple
  simp [*]

@[simp] theorem execCmpltn_mem (pd : Fin 8) (a b : Fin 32) (s : State) (u_ : State) (h_ : s.mem = u_.mem) :
    OutMem u_ (execCmpltn pd a b s) := by
  unfold execCmpltn
  simp [*]

@[simp] theorem execCmplen_mem (pd : Fin 8) (a b : Fin 32) (s : State) (u_ : State) (h_ : s.mem = u_.mem) :
    OutMem u_ (execCmplen pd a b s) := by
  unfold execCmplen
  simp [*]

@[simp] theorem execCmpeqi_mem (pd : Fin 8) (a : Fin 32) (im : BitVec 16) (s : State) (u_ : State) (h_ : s.mem = u_.mem) :
    OutMem u_ (execCmpeqi pd a im s) := by
  unfold execCmpeqi
  simp [*]

@[simp] theorem execCmpnei_mem (pd : Fin 8) (a : Fin 32) (im : BitVec 16) (s : State) (u_ : State) (h_ : s.mem = u_.mem) :
    OutMem u_ (execCmpnei pd a im s) := by
  unfold execCmpnei
  simp [*]

@[simp] theorem execCmplti_mem (pd : Fin 8) (a : Fin 32) (im : BitVec 16) (s : State) (u_ : State) (h_ : s.mem = u_.mem) :
    OutMem u_ (execCmplti pd a im s) := by
  unfold execCmplti
  simp [*]

@[simp] theorem execCmpltni_mem (pd : Fin 8) (a : Fin 32) (im : BitVec 16) (s : State) (u_ : State) (h_ : s.mem = u_.mem) :
    OutMem u_ (execCmpltni pd a im s) := by
  unfold execCmpltni
  simp [*]

@[simp] theorem execPand_mem (d a b : Fin 8) (s : State) (u_ : State) (h_ : s.mem = u_.mem) :
    OutMem u_ (execPand d a b s) := by
  unfold execPand
  simp [*]

@[simp] theorem execPor_mem (d a b : Fin 8) (s : State) (u_ : State) (h_ : s.mem = u_.mem) :
    OutMem u_ (execPor d a b s) := by
  unfold execPor
  simp [*]

@[simp] theorem execPxor_mem (d a b : Fin 8) (s : State) (u_ : State) (h_ : s.mem = u_.mem) :
    OutMem u_ (execPxor d a b s) := by
  unfold execPxor
  simp [*]

@[simp] theorem execPandn_mem (d a b : Fin 8) (s : State) (u_ : State) (h_ : s.mem = u_.mem) :
    OutMem u_ (execPandn d a b s) := by
  unfold execPandn
  simp [*]

@[simp] theorem execPsetFalse_mem (d : Fin 8) (s : State) (u_ : State) (h_ : s.mem = u_.mem) :
    OutMem u_ (execPsetFalse d s) := by
  unfold execPsetFalse
  simp [*]

@[simp] theorem execPsetTrue_mem (d : Fin 8) (s : State) (u_ : State) (h_ : s.mem = u_.mem) :
    OutMem u_ (execPsetTrue d s) := by
  unfold execPsetTrue
  simp [*]

@[simp] theorem execPmovPred_mem (d a : Fin 8) (s : State) (u_ : State) (h_ : s.mem = u_.mem) :
    OutMem u_ (execPmovPred d a s) := by
  unfold execPmovPred
  simp [*]

@[simp] theorem execPmovFromReg_mem (d : Fin 8) (a : Fin 32) (s : State) (u_ : State) (h_ : s.mem = u_.mem) :
    OutMem u_ (execPmovFromReg d a s) := by
  unfold execPmovFromReg
  simp [*]

@[simp] theorem execSel_mem (d a b : Fin 32) (k : Fin 8) (s : State) (u_ : State) (h_ : s.mem = u_.mem) :
    OutMem u_ (execSel d a b k s) := by
  unfold execSel
  simp [*]

@[simp] theorem execPmovToReg_mem (d : Fin 32) (a : Fin 8) (s : State) (u_ : State) (h_ : s.mem = u_.mem) :
    OutMem u_ (execPmovToReg d a s) := by
  unfold execPmovToReg
  simp [*]

/-! ## Machine/ScalarFloat.lean -/

@[simp] theorem fpLatch_mem (s : State) (lat : Nat) (d : Dest) (srcs : List (Fin 32)) (r : Res) (v : Word) (u_ : State) (h_ : s.mem = u_.mem) :
    OutMem u_ (fpLatch s lat d srcs r v) := by
  unfold fpLatch
  simp [*]

@[simp] theorem fpOp_mem (s : State) (lat : Nat) (d : Fin 32) (srcs : List (Fin 32)) (r : Res) (v : Word) (u_ : State) (h_ : s.mem = u_.mem) :
    OutMem u_ (fpOp s lat d srcs r v) := by
  unfold fpOp
  simp [*]

@[simp] theorem fpRes_mem (s : State) (lat : Nat) (d : Fin 32) (srcs : List (Fin 32)) (r : Res) (u_ : State) (h_ : s.mem = u_.mem) :
    OutMem u_ (fpRes s lat d srcs r) := by
  unfold fpRes
  simp [*]

@[simp] theorem fpCmp_mem (s : State) (pd : Fin 8) (a b : Fin 32) (f ordered : Bool) (rel : Option Ordering → Bool) (u_ : State) (h_ : s.mem = u_.mem) :
    OutMem u_ (fpCmp s pd a b f ordered rel) := by
  unfold fpCmp
  simp [*]

@[simp] theorem execFadd_mem (d a b : Fin 32) (f : Bool) (m : Fin 8) (s : State) (u_ : State) (h_ : s.mem = u_.mem) :
    OutMem u_ (execFadd d a b f m s) := by
  unfold execFadd
  simp [*]

@[simp] theorem execFsub_mem (d a b : Fin 32) (f : Bool) (m : Fin 8) (s : State) (u_ : State) (h_ : s.mem = u_.mem) :
    OutMem u_ (execFsub d a b f m s) := by
  unfold execFsub
  simp [*]

@[simp] theorem execFmul_mem (d a b : Fin 32) (f : Bool) (m : Fin 8) (s : State) (u_ : State) (h_ : s.mem = u_.mem) :
    OutMem u_ (execFmul d a b f m s) := by
  unfold execFmul
  simp [*]

@[simp] theorem execFfma_mem (d a b : Fin 32) (f : Bool) (m : Fin 8) (s : State) (u_ : State) (h_ : s.mem = u_.mem) :
    OutMem u_ (execFfma d a b f m s) := by
  unfold execFfma
  simp [*]

@[simp] theorem execFfms_mem (d a b : Fin 32) (f : Bool) (m : Fin 8) (s : State) (u_ : State) (h_ : s.mem = u_.mem) :
    OutMem u_ (execFfms d a b f m s) := by
  unfold execFfms
  simp [*]

@[simp] theorem execFdiv_mem (d a b : Fin 32) (f : Bool) (m : Fin 8) (s : State) (u_ : State) (h_ : s.mem = u_.mem) :
    OutMem u_ (execFdiv d a b f m s) := by
  unfold execFdiv
  simp [*]

@[simp] theorem execFsqrt_mem (d a : Fin 32) (f : Bool) (m : Fin 8) (s : State) (u_ : State) (h_ : s.mem = u_.mem) :
    OutMem u_ (execFsqrt d a f m s) := by
  unfold execFsqrt
  simp [*]

@[simp] theorem execFmin_mem (d a b : Fin 32) (f : Bool) (s : State) (u_ : State) (h_ : s.mem = u_.mem) :
    OutMem u_ (execFmin d a b f s) := by
  unfold execFmin
  simp [*]

@[simp] theorem execFmax_mem (d a b : Fin 32) (f : Bool) (s : State) (u_ : State) (h_ : s.mem = u_.mem) :
    OutMem u_ (execFmax d a b f s) := by
  unfold execFmax
  simp [*]

@[simp] theorem execFcmpeq_mem (pd : Fin 8) (a b : Fin 32) (f : Bool) (s : State) (u_ : State) (h_ : s.mem = u_.mem) :
    OutMem u_ (execFcmpeq pd a b f s) := by
  unfold execFcmpeq
  simp [*]

@[simp] theorem execFcmplt_mem (pd : Fin 8) (a b : Fin 32) (f : Bool) (s : State) (u_ : State) (h_ : s.mem = u_.mem) :
    OutMem u_ (execFcmplt pd a b f s) := by
  unfold execFcmplt
  simp [*]

@[simp] theorem execFcmple_mem (pd : Fin 8) (a b : Fin 32) (f : Bool) (s : State) (u_ : State) (h_ : s.mem = u_.mem) :
    OutMem u_ (execFcmple pd a b f s) := by
  unfold execFcmple
  simp [*]

@[simp] theorem execFcmpun_mem (pd : Fin 8) (a b : Fin 32) (f : Bool) (s : State) (u_ : State) (h_ : s.mem = u_.mem) :
    OutMem u_ (execFcmpun pd a b f s) := by
  unfold execFcmpun
  simp [*]

@[simp] theorem execFclass_mem (d a : Fin 32) (f : Bool) (s : State) (u_ : State) (h_ : s.mem = u_.mem) :
    OutMem u_ (execFclass d a f s) := by
  unfold execFclass
  simp [*]

@[simp] theorem execFcvtFloat_mem (d a : Fin 32) (f : Bool) (m : Fin 8) (s : State) (u_ : State) (h_ : s.mem = u_.mem) :
    OutMem u_ (execFcvtFloat d a f m s) := by
  unfold execFcvtFloat
  simp [*]

@[simp] theorem execFcvtToI64_mem (d a : Fin 32) (f : Bool) (m : Fin 8) (s : State) (u_ : State) (h_ : s.mem = u_.mem) :
    OutMem u_ (execFcvtToI64 d a f m s) := by
  unfold execFcvtToI64
  simp [*]

@[simp] theorem execFcvtToN64_mem (d a : Fin 32) (f : Bool) (m : Fin 8) (s : State) (u_ : State) (h_ : s.mem = u_.mem) :
    OutMem u_ (execFcvtToN64 d a f m s) := by
  unfold execFcvtToN64
  simp [*]

@[simp] theorem execFcvtToI32_mem (d a : Fin 32) (f : Bool) (m : Fin 8) (s : State) (u_ : State) (h_ : s.mem = u_.mem) :
    OutMem u_ (execFcvtToI32 d a f m s) := by
  unfold execFcvtToI32
  simp [*]

@[simp] theorem execFcvtToN32_mem (d a : Fin 32) (f : Bool) (m : Fin 8) (s : State) (u_ : State) (h_ : s.mem = u_.mem) :
    OutMem u_ (execFcvtToN32 d a f m s) := by
  unfold execFcvtToN32
  simp [*]

@[simp] theorem execFcvtFromI64_mem (d a : Fin 32) (f : Bool) (m : Fin 8) (s : State) (u_ : State) (h_ : s.mem = u_.mem) :
    OutMem u_ (execFcvtFromI64 d a f m s) := by
  unfold execFcvtFromI64
  simp [*]

@[simp] theorem execFcvtFromN64_mem (d a : Fin 32) (f : Bool) (m : Fin 8) (s : State) (u_ : State) (h_ : s.mem = u_.mem) :
    OutMem u_ (execFcvtFromN64 d a f m s) := by
  unfold execFcvtFromN64
  simp [*]

@[simp] theorem execFcvtFromI32_mem (d a : Fin 32) (f : Bool) (m : Fin 8) (s : State) (u_ : State) (h_ : s.mem = u_.mem) :
    OutMem u_ (execFcvtFromI32 d a f m s) := by
  unfold execFcvtFromI32
  simp [*]

@[simp] theorem execFcvtFromN32_mem (d a : Fin 32) (f : Bool) (m : Fin 8) (s : State) (u_ : State) (h_ : s.mem = u_.mem) :
    OutMem u_ (execFcvtFromN32 d a f m s) := by
  unfold execFcvtFromN32
  simp [*]

/-! ## Machine/Local.lean -/

@[simp] theorem baseUpdate_mem (s : State) (b : Fin 32) (inc : Fin 4) (o : BitVec 7) (size : Nat) (act : Bool) :
    (baseUpdate s b inc o size act).mem = s.mem := by
  unfold baseUpdate
  split <;> simp [*]

@[simp] theorem loadOp_wf (s : State) (v b : Fin 32) (inc : Fin 4) (o : BitVec 7) (size : Nat) (signed : Bool) (h_ : s.mem.wf = true) :
    OutWf (loadOp s v b inc o size signed) := by
  unfold loadOp
  (repeat' split) <;> (try simp (maxDischargeDepth := 60) [*]) <;> (repeat' split) <;>
    (try simp (maxDischargeDepth := 60) [*]) <;> try simp_all (maxDischargeDepth := 60)

@[simp] theorem storeOp_wf (s : State) (val : Word) (srcs : List (Fin 32)) (b : Fin 32) (inc : Fin 4) (o : BitVec 7) (size : Nat) (quar : Bool) (h_ : s.mem.wf = true) :
    OutWf (storeOp s val srcs b inc o size quar) := by
  unfold storeOp
  (repeat' split) <;> (try simp (maxDischargeDepth := 60) [*]) <;> (repeat' split) <;>
    (try simp (maxDischargeDepth := 60) [*]) <;> try simp_all (maxDischargeDepth := 60)

@[simp] theorem execLdB_wf (v b : Fin 32) (im : Fin 4) (o : BitVec 7) (s : State) (h_ : s.mem.wf = true) :
    OutWf (execLdB v b im o s) := by
  unfold execLdB
  simp [*]

@[simp] theorem execLdBn_wf (v b : Fin 32) (im : Fin 4) (o : BitVec 7) (s : State) (h_ : s.mem.wf = true) :
    OutWf (execLdBn v b im o s) := by
  unfold execLdBn
  simp [*]

@[simp] theorem execLdH_wf (v b : Fin 32) (im : Fin 4) (o : BitVec 7) (s : State) (h_ : s.mem.wf = true) :
    OutWf (execLdH v b im o s) := by
  unfold execLdH
  simp [*]

@[simp] theorem execLdHn_wf (v b : Fin 32) (im : Fin 4) (o : BitVec 7) (s : State) (h_ : s.mem.wf = true) :
    OutWf (execLdHn v b im o s) := by
  unfold execLdHn
  simp [*]

@[simp] theorem execLdW_wf (v b : Fin 32) (im : Fin 4) (o : BitVec 7) (s : State) (h_ : s.mem.wf = true) :
    OutWf (execLdW v b im o s) := by
  unfold execLdW
  simp [*]

@[simp] theorem execLdWn_wf (v b : Fin 32) (im : Fin 4) (o : BitVec 7) (s : State) (h_ : s.mem.wf = true) :
    OutWf (execLdWn v b im o s) := by
  unfold execLdWn
  simp [*]

@[simp] theorem execLdD_wf (v b : Fin 32) (im : Fin 4) (o : BitVec 7) (s : State) (h_ : s.mem.wf = true) :
    OutWf (execLdD v b im o s) := by
  unfold execLdD
  simp [*]

@[simp] theorem execStB_wf (v b : Fin 32) (im : Fin 4) (o : BitVec 7) (s : State) (h_ : s.mem.wf = true) :
    OutWf (execStB v b im o s) := by
  unfold execStB
  simp [*]

@[simp] theorem execStH_wf (v b : Fin 32) (im : Fin 4) (o : BitVec 7) (s : State) (h_ : s.mem.wf = true) :
    OutWf (execStH v b im o s) := by
  unfold execStH
  simp [*]

@[simp] theorem execStW_wf (v b : Fin 32) (im : Fin 4) (o : BitVec 7) (s : State) (h_ : s.mem.wf = true) :
    OutWf (execStW v b im o s) := by
  unfold execStW
  simp [*]

@[simp] theorem execStD_wf (v b : Fin 32) (im : Fin 4) (o : BitVec 7) (s : State) (h_ : s.mem.wf = true) :
    OutWf (execStD v b im o s) := by
  unfold execStD
  simp [*]

@[simp] theorem execStq_wf (q : Fin 4) (b : Fin 32) (im : Fin 4) (o : BitVec 7) (s : State) (h_ : s.mem.wf = true) :
    OutWf (execStq q b im o s) := by
  unfold execStq
  simp [*]

/-! ## Machine/Ctl.lean -/

@[simp] theorem stepFidx_mem (s : State) :
    (stepFidx s).mem = s.mem := by
  unfold stepFidx
  rfl

@[simp] theorem healLatch_mem (s : State) (k : Nat) :
    (healLatch s k).mem = s.mem := by
  unfold healLatch
  simp

@[simp] theorem writeFdat_wf (s : State) (v : Word) (h_ : s.mem.wf = true) :
    (writeFdat s v).mem.wf = true := by
  unfold writeFdat
  simp (maxDischargeDepth := 60) [*]

@[simp] theorem writeTmr_mem (s : State) (v : Word) :
    (writeTmr s v).mem = s.mem := by
  unfold writeTmr
  rfl

@[simp] theorem writeLcnt_mem (s : State) (l : Nat) (v : Word) :
    (writeLcnt s l v).mem = s.mem := by
  unfold writeLcnt
  rfl

@[simp] theorem writeLoop_mem (s : State) (l k : Nat) (v : Word) :
    (writeLoop s l k v).mem = s.mem := by
  unfold writeLoop
  split <;> simp [*]

@[simp] theorem writeIslctl_mem (s : State) (n : Nat) (v : Word) :
    (writeIslctl s n v).mem = s.mem := by
  unfold writeIslctl
  rfl

@[simp] theorem writeCtl_wf (s : State) (n : Nat) (v : Word) (h_ : s.mem.wf = true) :
    (writeCtl s n v).mem.wf = true := by
  unfold writeCtl
  (repeat' split) <;> simp [*]

@[simp] theorem mOp_wf (s : State) (chk : Option Trap) (eff : State → State) (h_ : s.mem.wf = true) (heff : ∀ s : State, s.mem.wf = true → (eff s).mem.wf = true) :
    OutWf (mOp s chk eff) := by
  unfold mOp
  (repeat' split) <;> simp [*]

@[simp] theorem regWrite_mem (s : State) (v : Fin 32) (act : DAct) :
    (regWrite s v act).mem = s.mem := by
  unfold regWrite
  rfl

@[simp] theorem execShw_wf (v : Fin 32) (e r : Fin 4) (f : BitVec 4) (s : State) (h_ : s.mem.wf = true) :
    OutWf (execShw v e r f s) := by
  unfold execShw
  simp [*]

@[simp] theorem execShg_wf (v : Fin 32) (e r : Fin 4) (f : BitVec 4) (h : Bool) (s : State) (h_ : s.mem.wf = true) :
    OutWf (execShg v e r f h s) := by
  unfold execShg
  simp [*]

@[simp] theorem unfenced_wf (s : State) (n : Nat) (r : Host.Outcome State Fault Refusal) (h_ : s.mem.wf = true) (hr : OutWf r) :
    OutWf (unfenced s n r) := by
  unfold unfenced
  split
  · unfold holdBundle
    simpa using h_
  · exact hr

@[simp] theorem execCtlr_wf (v : Fin 32) (c : BitVec 12) (s : State) (h_ : s.mem.wf = true) :
    OutWf (execCtlr v c s) := by
  unfold execCtlr
  refine unfenced_wf _ _ _ h_ ?_
  simp [*]

@[simp] theorem execCtlrQ_wf (q : Fin 4) (c : BitVec 12) (s : State) (h_ : s.mem.wf = true) :
    OutWf (execCtlrQ q c s) := by
  unfold execCtlrQ
  refine unfenced_wf _ _ _ h_ ?_
  simp [*]

@[simp] theorem execCtlw_wf (v : Fin 32) (c : BitVec 12) (s : State) (h_ : s.mem.wf = true) :
    OutWf (execCtlw v c s) := by
  unfold execCtlw
  refine unfenced_wf _ _ _ h_ ?_
  simp [*]

@[simp] theorem execFdatRead_mem (v : Fin 32) (s : State) (u_ : State) (h_ : s.mem = u_.mem) :
    OutMem u_ (execFdatRead v s) := by
  unfold execFdatRead
  simp [*]

@[simp] theorem execFdatWrite_wf (val : Word) (s : State) (h_ : s.mem.wf = true) :
    OutWf (execFdatWrite val s) := by
  unfold execFdatWrite
  simp [*]

@[simp] theorem execTmrWrite_wf (val : Word) (s : State) (h_ : s.mem.wf = true) :
    OutWf (execTmrWrite val s) := by
  unfold execTmrWrite
  simp [*]

@[simp] theorem execLcntWrite_wf (l : Fin 8) (val : Word) (s : State) (h_ : s.mem.wf = true) :
    OutWf (execLcntWrite l val s) := by
  unfold execLcntWrite
  simp [*]

@[simp] theorem execIslctlWrite_mem (isl : Nat) (val : Word) (s : State) (u_ : State) (h_ : s.mem = u_.mem) :
    OutMem u_ (execIslctlWrite isl val s) := by
  unfold execIslctlWrite
  simp [*]

/-! ## Machine/Phase.lean -/

@[simp] theorem closePhase_mem (s : State) (scope : Nat) :
    (closePhase s scope).mem = s.mem := by
  unfold closePhase
  rfl

@[simp] theorem acquire_mem (s : State) (scope : Nat) :
    (acquire s scope).mem = s.mem := by
  unfold acquire
  rfl

/-! ## Machine/Branch.lean -/

@[simp] theorem bOp_wf (s : State) (chk : Option Trap) (eff : State → State) (h_ : s.mem.wf = true) (heff : ∀ s : State, s.mem.wf = true → (eff s).mem.wf = true) :
    OutWf (bOp s chk eff) := by
  unfold bOp
  (repeat' split) <;> simp [*]

@[simp] theorem markDelay_wf (o : Outcome State)  (ho : OutWf o) :
    OutWf (markDelay o) := by
  unfold markDelay
  (repeat' split) <;> (try simp (maxDischargeDepth := 60) [*]) <;> (repeat' split) <;>
    (try simp (maxDischargeDepth := 60) [*]) <;> try simp_all (maxDischargeDepth := 60)

@[simp] theorem consumed_mem (s : State) (ns : List (Fin 32)) :
    (consumed s ns).mem = s.mem := by
  unfold consumed
  split <;> simp [*]

@[simp] theorem goTo_mem (s : State) (t : Word) :
    (goTo s t).mem = s.mem := by
  unfold goTo
  rfl

@[simp] theorem execBr_wf (d : BitVec 20) (s : State) (h_ : s.mem.wf = true) :
    OutWf (execBr d s) := by
  unfold execBr
  simp [*]

@[simp] theorem execBrcNz_wf (c : Fin 32) (d : BitVec 14) (s : State) (h_ : s.mem.wf = true) :
    OutWf (execBrcNz c d s) := by
  unfold execBrcNz
  simp [*]

@[simp] theorem execBrcZ_wf (c : Fin 32) (d : BitVec 14) (s : State) (h_ : s.mem.wf = true) :
    OutWf (execBrcZ c d s) := by
  unfold execBrcZ
  simp [*]

@[simp] theorem execCall_wf (d : BitVec 20) (s : State) (h_ : s.mem.wf = true) :
    OutWf (execCall d s) := by
  unfold execCall
  simp [*]

@[simp] theorem execJmp_wf (a : Fin 32) (s : State) (h_ : s.mem.wf = true) :
    OutWf (execJmp a s) := by
  unfold execJmp
  simp [*]

@[simp] theorem enterLoop_mem (s : State) (l : Fin 8) (count e : Nat) :
    (enterLoop s l count e).mem = s.mem := by
  unfold enterLoop
  simp

@[simp] theorem execLoop_wf (l : Fin 8) (c : Fin 32) (e : BitVec 12) (s : State) (h_ : s.mem.wf = true) :
    OutWf (execLoop l c e s) := by
  unfold execLoop
  simp [*]

@[simp] theorem execLoopi_wf (l : Fin 8) (k : BitVec 9) (e : BitVec 8) (s : State) (h_ : s.mem.wf = true) :
    OutWf (execLoopi l k e s) := by
  unfold execLoopi
  simp [*]

@[simp] theorem execLstr_wf (l : Fin 8) (k e r : Fin 4) (g : Fin 32) (s : State) (h_ : s.mem.wf = true) :
    OutWf (execLstr l k e r g s) := by
  unfold execLstr
  simp [*]

@[simp] theorem execNop_wf (s : State) (h_ : s.mem.wf = true) :
    OutWf (execNop s) := by
  unfold execNop
  simp [*]

@[simp] theorem execTrap_wf (im : BitVec 15) (s : State) (h_ : s.mem.wf = true) :
    OutWf (execTrap im s) := by
  unfold execTrap
  simp [*]

@[simp] theorem execSvc_wf (im : BitVec 15) (s : State) (h_ : s.mem.wf = true) :
    OutWf (execSvc im s) := by
  unfold execSvc
  simp [*]

@[simp] theorem execRte_wf (s : State) (h_ : s.mem.wf = true) :
    OutWf (execRte s) := by
  unfold execRte
  simp [*]

@[simp] theorem execEndTask_wf (s : State) (h_ : s.mem.wf = true) :
    OutWf (execEndTask s) := by
  unfold execEndTask
  simp [*]

@[simp] theorem execYld_wf (s : State) (h_ : s.mem.wf = true) :
    OutWf (execYld s) := by
  unfold execYld
  simp [*]

@[simp] theorem execHalt_wf (s : State) (h_ : s.mem.wf = true) :
    OutWf (execHalt s) := by
  unfold execHalt
  simp [*]

@[simp] theorem execLbrk_wf (l : Fin 8) (s : State) (h_ : s.mem.wf = true) :
    OutWf (execLbrk l s) := by
  unfold execLbrk
  simp [*]

@[simp] theorem waitUntil_mem (s : State) (t : Nat) :
    (waitUntil s t).mem = s.mem := by
  unfold waitUntil
  rfl

@[simp] theorem execWaittAbs_wf (a : Fin 32) (s : State) (h_ : s.mem.wf = true) :
    OutWf (execWaittAbs a s) := by
  unfold execWaittAbs
  simp [*]

@[simp] theorem execWaittRel_wf (n : BitVec 19) (s : State) (h_ : s.mem.wf = true) :
    OutWf (execWaittRel n s) := by
  unfold execWaittRel
  simp [*]

@[simp] theorem execWaitp_wf (k : Fin 8) (s : State) (h_ : s.mem.wf = true) :
    OutWf (execWaitp k s) := by
  unfold execWaitp
  simp [*]

@[simp] theorem acquireWait_mem (s : State) :
    (acquireWait s).mem = s.mem := by
  unfold acquireWait
  rfl

@[simp] theorem execBar_wf (l : Fin 8) (s : State) (h_ : s.mem.wf = true) :
    OutWf (execBar l s) := by
  unfold execBar
  refine bOp_wf _ _ _ h_ fun s hs => ?_
  dsimp only
  split <;> simp [*]

@[simp] theorem execPhaseP_wf (s : State) (h_ : s.mem.wf = true) :
    OutWf (execPhaseP s) := by
  unfold execPhaseP
  simp [*]

@[simp] theorem execPhaseA_wf (s : State) (h_ : s.mem.wf = true) :
    OutWf (execPhaseA s) := by
  unfold execPhaseA
  simp [*]

@[simp] theorem execPhasePa_wf (s : State) (h_ : s.mem.wf = true) :
    OutWf (execPhasePa s) := by
  unfold execPhasePa
  simp [*]

@[simp] theorem requestOp_mem (s : State) (op : Fin 8) :
    (requestOp s op).mem = s.mem := by
  unfold requestOp
  simp

@[simp] theorem execPfx_mem (sc : Fin 8) (opv : Bool) (op : Fin 8) (fst lst : BitVec 8) (lv : Fin 8) (s : State) (u_ : State) (h_ : s.mem = u_.mem) :
    OutMem u_ (execPfx sc opv op fst lst lv s) := by
  unfold execPfx
  simp [*]

/-! ## Machine/Command.lean -/

@[simp] theorem holdBundle_mem (s : State) (k : Nat) :
    (holdBundle s k).mem = s.mem := by
  unfold holdBundle
  rfl

@[simp] theorem swapped_mem (s : State) (e : Fin 3) :
    (swapped s e).mem = s.mem := by
  unfold swapped
  (repeat' split) <;> (try simp (maxDischargeDepth := 60) [*]) <;> (repeat' split) <;>
    (try simp (maxDischargeDepth := 60) [*]) <;> try simp_all (maxDischargeDepth := 60)

@[simp] theorem issueCmd_wf (s : State) (op : CmdOp) (ga gb : Word) (aux mode : Nat) (dst : Fin 32) (fin : State → Cmd → State × Cmd) (h_ : s.mem.wf = true) (hfin : ∀ (s : State) (c : Cmd), s.mem.wf = true → (fin s c).1.mem.wf = true) :
    (issueCmd s op ga gb aux mode dst fin).1.mem.wf = true := by
  unfold issueCmd
  (repeat' split) <;> (try simp (maxDischargeDepth := 60) [*]) <;> (repeat' split) <;>
    (try simp (maxDischargeDepth := 60) [*]) <;> try simp_all (maxDischargeDepth := 60)

@[simp] theorem enqueueCmd_mem (s : State) (cmd : Cmd) :
    (enqueueCmd s cmd).mem = s.mem := by
  unfold enqueueCmd
  (repeat' split) <;> (try simp (maxDischargeDepth := 60) [*]) <;> (repeat' split) <;>
    (try simp (maxDischargeDepth := 60) [*]) <;> try simp_all (maxDischargeDepth := 60)

@[simp] theorem engineOp_wf (s : State) (op : CmdOp) (uses : (Fin 4 → Shape) → List Use) (ks : Use → List Nat) (ga gb : Word) (aux mode : Nat) (dst : Fin 32) (lim : State → (Fin 4 → Shape) → Option Trap) (fin : State → Cmd → State × Cmd) (h_ : s.mem.wf = true) (hfin : ∀ (s : State) (c : Cmd), s.mem.wf = true → (fin s c).1.mem.wf = true) :
    OutWf (engineOp s op uses ks ga gb aux mode dst lim fin) := by
  unfold engineOp
  (repeat' split) <;> (try simp (maxDischargeDepth := 60) [*]) <;> (repeat' split) <;>
    (try simp (maxDischargeDepth := 60) [*]) <;> try simp_all (maxDischargeDepth := 60)

@[simp] theorem plainCapture_mem (s : State) (c : Cmd) :
    (plainCapture s c).1.mem = s.mem := by
  unfold plainCapture
  rfl

/-! ## Machine/Global.lean -/

@[simp] theorem addPiece_mem (s : State) (p : Piece) :
    (addPiece s p).mem = s.mem := by
  unfold addPiece
  rfl

@[simp] theorem countPiece_mem (s : State) (home : Nat) :
    (countPiece s home).mem = s.mem := by
  unfold countPiece
  rfl

@[simp] theorem ptePut_mem (s : State) (a : Nat) (e : Word) :
    (ptePut s a e).mem = s.mem := by
  unfold ptePut
  rfl

@[simp] theorem countAccess_mem (s : State) (cid home va : Nat) :
    (countAccess s cid home va).mem = s.mem := by
  unfold countAccess
  (repeat' split) <;> (try simp (maxDischargeDepth := 60) [*]) <;> (repeat' split) <;>
    (try simp (maxDischargeDepth := 60) [*]) <;> try simp_all (maxDischargeDepth := 60)

@[simp] theorem sendPiece_mem (s : State) (c : Cmd) (p : Piece) :
    (sendPiece s c p).mem = s.mem := by
  unfold sendPiece
  rfl

@[simp] theorem cachePage_mem (s : State) (va : Nat) :
    (cachePage s va).mem = s.mem := by
  unfold cachePage
  split <;> simp [*]

@[simp] theorem countRequest_mem (s : State) (l : List (Nat × Nat)) :
    (countRequest s l).mem = s.mem := by
  unfold countRequest
  simp

/-! ## Machine/Store.lean -/

@[simp] theorem markDirty_mem (s : State) (a n : Nat) :
    (markDirty s a n).mem = s.mem := by
  unfold markDirty
  rfl

@[simp] theorem putCells_wf (s : State) (cells : List (Nat × Byte)) (h_ : s.mem.wf = true) :
    (putCells s cells).mem.wf = true := by
  unfold putCells
  (repeat' split) <;> (try simp (maxDischargeDepth := 60) [*]) <;> (repeat' split) <;>
    (try simp (maxDischargeDepth := 60) [*]) <;> try simp_all (maxDischargeDepth := 60)

@[simp] theorem fillPut_wf (s : State) (unit a : Nat) (bs : List Byte) (syn : List (BitVec 16)) (fill : Bool) (keep : Nat → Bool) (h_ : s.mem.wf = true) :
    (fillPut s unit a bs syn fill keep).mem.wf = true := by
  unfold fillPut
  simp [*]

/-! ## Machine/Welt.lean -/

@[simp] theorem updSlot_mem (s : State) (n : Nat) (f : Slot → Slot) :
    (updSlot s n f).mem = s.mem := by
  unfold updSlot
  rfl

@[simp] theorem manageSlot_mem (s : State) (n k : Nat) (v : Word) :
    (manageSlot s n k v).mem = s.mem := by
  unfold manageSlot
  (repeat' split) <;> simp [*]

@[simp] theorem takeRecord_mem (s : State) (r : List Byte) :
    (takeRecord s r).mem = s.mem := by
  unfold takeRecord
  split <;> simp [*]

@[simp] theorem execProposalRecordIntake_mem (cid : Nat) (rec : List (BitVec 8)) (s : State) (u_ : State) (h_ : s.mem = u_.mem) :
    OutMem u_ (execProposalRecordIntake cid rec s) := by
  unfold execProposalRecordIntake
  split <;> simp [*]

@[simp] theorem streamOut_mem (s : State) (x : Slot) (toks : List Nat) :
    (streamOut s x toks).mem = s.mem := by
  unfold streamOut
  simp

@[simp] theorem release_mem (s : State) (n keep : Nat) :
    (release s n keep).mem = s.mem := by
  unfold release
  split <;> simp [*]

@[simp] theorem endRequest_mem (s : State) (n cause : Nat) :
    (endRequest s n cause).mem = s.mem := by
  unfold endRequest
  (repeat' split) <;> (try simp (maxDischargeDepth := 60) [*]) <;> (repeat' split) <;>
    (try simp (maxDischargeDepth := 60) [*]) <;> try simp_all (maxDischargeDepth := 60)

@[simp] theorem commitToken_mem (s : State) (n tok : Nat) :
    (commitToken s n tok).mem = s.mem := by
  unfold commitToken
  (repeat' split) <;> (try simp (maxDischargeDepth := 60) [*]) <;> (repeat' split) <;>
    (try simp (maxDischargeDepth := 60) [*]) <;> try simp_all (maxDischargeDepth := 60)

@[simp] theorem finishRound_mem (s : State) (n tok : Nat) :
    (finishRound s n tok).mem = s.mem := by
  unfold finishRound
  split <;> simp [*]

@[simp] theorem execWfinalPerformed_mem (cid : Nat) (s : State) (u_ : State) (h_ : s.mem = u_.mem) :
    OutMem u_ (execWfinalPerformed cid s) := by
  unfold execWfinalPerformed
  split <;> simp [*]

@[simp] theorem installRecord_mem (s : State) (n t : Nat) :
    (installRecord s n t).mem = s.mem := by
  unfold installRecord
  split <;> simp [*]

@[simp] theorem execThresholdTableWrite_mem (t : Fin 8) (es : List Nat) (s : State) (u_ : State) (h_ : s.mem = u_.mem) :
    OutMem u_ (execThresholdTableWrite t es s) := by
  unfold execThresholdTableWrite
  simp [*]

@[simp] theorem execSignalOpenSlot_mem (sid sq slot : Nat) (rec : List (BitVec 8)) (s : State) (u_ : State) (h_ : s.mem = u_.mem) :
    OutMem u_ (execSignalOpenSlot sid sq slot rec s) := by
  unfold execSignalOpenSlot
  simp [*]

@[simp] theorem cancelSlot_mem (s : State) (x : Slot) :
    (cancelSlot s x).mem = s.mem := by
  unfold cancelSlot
  split <;> simp [*]

@[simp] theorem execSignalCancel_mem (sid sq slot : Nat) (req : BitVec 32) (s : State) (u_ : State) (h_ : s.mem = u_.mem) :
    OutMem u_ (execSignalCancel sid sq slot req s) := by
  unfold execSignalCancel
  split <;> simp [*]

@[simp] theorem execSignalRelease_mem (sid sq slot : Nat) (req : BitVec 32) (s : State) (u_ : State) (h_ : s.mem = u_.mem) :
    OutMem u_ (execSignalRelease sid sq slot req s) := by
  unfold execSignalRelease
  split <;> simp [*]

/-! ## Machine/Header.lean -/

@[simp] theorem updQueue_mem (s : State) (q : Nat) (f : WorkQueue → WorkQueue) :
    (updQueue s q f).mem = s.mem := by
  unfold updQueue
  rfl

@[simp] theorem enqueue_mem (s : State) (r : List Byte) (sid sq : Nat) (after : Option (Nat × Nat)) :
    (enqueue s r sid sq after).mem = s.mem := by
  unfold enqueue
  (repeat' split) <;> (try simp (maxDischargeDepth := 60) [*]) <;> (repeat' split) <;>
    (try simp (maxDischargeDepth := 60) [*]) <;> try simp_all (maxDischargeDepth := 60)

@[simp] theorem execLaunch_mem (sid sq q : Nat) (hdr : List (BitVec 8)) (s : State) (u_ : State) (h_ : s.mem = u_.mem) :
    OutMem u_ (execLaunch sid sq q hdr s) := by
  unfold execLaunch
  (repeat' split) <;> (try simp [*]) <;> (repeat' split) <;> simp [*]

/-! ## Machine/Vector.lean -/

@[simp] theorem vElem_wf (s : State) (op : EOp) (reads : List (Fin 4)) (fmts : List Nat) (k : Field) (aux : Nat) (ga : Option (Fin 32)) (h_ : s.mem.wf = true) :
    OutWf (vElem s op reads fmts k aux ga) := by
  unfold vElem
  simp [*]

@[simp] theorem vArith_wf (s : State) (op : EOp) (aux : Fin 8) (h_ : s.mem.wf = true) :
    OutWf (vArith s op aux) := by
  unfold vArith
  simp [*]

@[simp] theorem vArithS_wf (s : State) (op : EOp) (a : Fin 32) (aux : Fin 8) (h_ : s.mem.wf = true) :
    OutWf (vArithS s op a aux) := by
  unfold vArithS
  simp [*]

@[simp] theorem vFused_wf (s : State) (op : EOp) (aux : Fin 8) (h_ : s.mem.wf = true) :
    OutWf (vFused s op aux) := by
  unfold vFused
  simp [*]

@[simp] theorem vFusedS_wf (s : State) (op : EOp) (a : Fin 32) (aux : Fin 8) (h_ : s.mem.wf = true) :
    OutWf (vFusedS s op a aux) := by
  unfold vFusedS
  simp [*]

@[simp] theorem vTwo_wf (s : State) (op : EOp) (fmts : List Nat) (h_ : s.mem.wf = true) :
    OutWf (vTwo s op fmts) := by
  unfold vTwo
  simp [*]

@[simp] theorem vTwoS_wf (s : State) (op : EOp) (fmts : List Nat) (a : Fin 32) (h_ : s.mem.wf = true) :
    OutWf (vTwoS s op fmts a) := by
  unfold vTwoS
  simp [*]

@[simp] theorem vOne_wf (s : State) (op : EOp) (fmts : List Nat) (h_ : s.mem.wf = true) :
    OutWf (vOne s op fmts) := by
  unfold vOne
  simp [*]

@[simp] theorem vThree_wf (s : State) (op : EOp) (fmts : List Nat) (h_ : s.mem.wf = true) :
    OutWf (vThree s op fmts) := by
  unfold vThree
  simp [*]

@[simp] theorem vThreeS_wf (s : State) (op : EOp) (fmts : List Nat) (a : Fin 32) (h_ : s.mem.wf = true) :
    OutWf (vThreeS s op fmts a) := by
  unfold vThreeS
  simp [*]

@[simp] theorem vCompare_wf (s : State) (r : Fin 8) (ga : Option (Fin 32)) (h_ : s.mem.wf = true) :
    OutWf (vCompare s r ga) := by
  unfold vCompare
  simp [*]

@[simp] theorem vSelect_wf (s : State) (ga : Option (Fin 32)) (h_ : s.mem.wf = true) :
    OutWf (vSelect s ga) := by
  unfold vSelect
  simp [*]

@[simp] theorem vReduce_wf (s : State) (op : CmdOp) (k : Field) (aux : Nat) (h_ : s.mem.wf = true) :
    OutWf (vReduce s op k aux) := by
  unfold vReduce
  simp [*]

@[simp] theorem vArgmax_wf (s : State) (ax : Axis) (a : Fin 32) (h_ : s.mem.wf = true) :
    OutWf (vArgmax s ax a) := by
  unfold vArgmax
  simp [*]

@[simp] theorem noteQ_mem (s : State) (a : Nat) :
    (noteQ s a).mem = s.mem := by
  unfold noteQ
  rfl

@[simp] theorem claimQ_wf (s : State) (a : Nat) (push : Bool) (h_ : s.mem.wf = true) :
    (claimQ s a push).mem.wf = true := by
  unfold claimQ
  simp [*]

@[simp] theorem vChain_wf (s : State) (a : Fin 32) (j : Fin 4) (h_ : s.mem.wf = true) :
    OutWf (vChain s a j) := by
  unfold vChain
  simp [*]

@[simp] theorem execVadd_wf (x : Fin 8) (s : State) (h_ : s.mem.wf = true) :
    OutWf (execVadd x s) := by
  unfold execVadd
  simp [*]

@[simp] theorem execVaddS_wf (a : Fin 32) (x : Fin 8) (s : State) (h_ : s.mem.wf = true) :
    OutWf (execVaddS a x s) := by
  unfold execVaddS
  simp [*]

@[simp] theorem execVsub_wf (x : Fin 8) (s : State) (h_ : s.mem.wf = true) :
    OutWf (execVsub x s) := by
  unfold execVsub
  simp [*]

@[simp] theorem execVsubS_wf (a : Fin 32) (x : Fin 8) (s : State) (h_ : s.mem.wf = true) :
    OutWf (execVsubS a x s) := by
  unfold execVsubS
  simp [*]

@[simp] theorem execVmul_wf (x : Fin 8) (s : State) (h_ : s.mem.wf = true) :
    OutWf (execVmul x s) := by
  unfold execVmul
  simp [*]

@[simp] theorem execVmulS_wf (a : Fin 32) (x : Fin 8) (s : State) (h_ : s.mem.wf = true) :
    OutWf (execVmulS a x s) := by
  unfold execVmulS
  simp [*]

@[simp] theorem execVmulh_wf (s : State) (h_ : s.mem.wf = true) :
    OutWf (execVmulh s) := by
  unfold execVmulh
  simp [*]

@[simp] theorem execVmulhS_wf (a : Fin 32) (s : State) (h_ : s.mem.wf = true) :
    OutWf (execVmulhS a s) := by
  unfold execVmulhS
  simp [*]

@[simp] theorem execVfma_wf (x : Fin 8) (s : State) (h_ : s.mem.wf = true) :
    OutWf (execVfma x s) := by
  unfold execVfma
  simp [*]

@[simp] theorem execVfmaS_wf (a : Fin 32) (x : Fin 8) (s : State) (h_ : s.mem.wf = true) :
    OutWf (execVfmaS a x s) := by
  unfold execVfmaS
  simp [*]

@[simp] theorem execVfms_wf (x : Fin 8) (s : State) (h_ : s.mem.wf = true) :
    OutWf (execVfms x s) := by
  unfold execVfms
  simp [*]

@[simp] theorem execVfmsS_wf (a : Fin 32) (x : Fin 8) (s : State) (h_ : s.mem.wf = true) :
    OutWf (execVfmsS a x s) := by
  unfold execVfmsS
  simp [*]

@[simp] theorem execVmin_wf (s : State) (h_ : s.mem.wf = true) :
    OutWf (execVmin s) := by
  unfold execVmin
  simp [*]

@[simp] theorem execVminS_wf (a : Fin 32) (s : State) (h_ : s.mem.wf = true) :
    OutWf (execVminS a s) := by
  unfold execVminS
  simp [*]

@[simp] theorem execVmax_wf (s : State) (h_ : s.mem.wf = true) :
    OutWf (execVmax s) := by
  unfold execVmax
  simp [*]

@[simp] theorem execVmaxS_wf (a : Fin 32) (s : State) (h_ : s.mem.wf = true) :
    OutWf (execVmaxS a s) := by
  unfold execVmaxS
  simp [*]

@[simp] theorem execVabs_wf (x : Fin 8) (s : State) (h_ : s.mem.wf = true) :
    OutWf (execVabs x s) := by
  unfold execVabs
  simp [*]

@[simp] theorem execVneg_wf (x : Fin 8) (s : State) (h_ : s.mem.wf = true) :
    OutWf (execVneg x s) := by
  unfold execVneg
  simp [*]

@[simp] theorem execVdiv_wf (x : Fin 8) (s : State) (h_ : s.mem.wf = true) :
    OutWf (execVdiv x s) := by
  unfold execVdiv
  simp [*]

@[simp] theorem execVdivS_wf (a : Fin 32) (x : Fin 8) (s : State) (h_ : s.mem.wf = true) :
    OutWf (execVdivS a x s) := by
  unfold execVdivS
  simp [*]

@[simp] theorem execVsqrt_wf (x : Fin 8) (s : State) (h_ : s.mem.wf = true) :
    OutWf (execVsqrt x s) := by
  unfold execVsqrt
  simp [*]

@[simp] theorem execVmov_wf (s : State) (h_ : s.mem.wf = true) :
    OutWf (execVmov s) := by
  unfold execVmov
  simp [*]

@[simp] theorem execVfill_wf (a : Fin 32) (s : State) (h_ : s.mem.wf = true) :
    OutWf (execVfill a s) := by
  unfold execVfill
  simp [*]

@[simp] theorem execVand_wf (s : State) (h_ : s.mem.wf = true) :
    OutWf (execVand s) := by
  unfold execVand
  simp [*]

@[simp] theorem execVandS_wf (a : Fin 32) (s : State) (h_ : s.mem.wf = true) :
    OutWf (execVandS a s) := by
  unfold execVandS
  simp [*]

@[simp] theorem execVor_wf (s : State) (h_ : s.mem.wf = true) :
    OutWf (execVor s) := by
  unfold execVor
  simp [*]

@[simp] theorem execVorS_wf (a : Fin 32) (s : State) (h_ : s.mem.wf = true) :
    OutWf (execVorS a s) := by
  unfold execVorS
  simp [*]

@[simp] theorem execVxor_wf (s : State) (h_ : s.mem.wf = true) :
    OutWf (execVxor s) := by
  unfold execVxor
  simp [*]

@[simp] theorem execVxorS_wf (a : Fin 32) (s : State) (h_ : s.mem.wf = true) :
    OutWf (execVxorS a s) := by
  unfold execVxorS
  simp [*]

@[simp] theorem execVandn_wf (s : State) (h_ : s.mem.wf = true) :
    OutWf (execVandn s) := by
  unfold execVandn
  simp [*]

@[simp] theorem execVandnS_wf (a : Fin 32) (s : State) (h_ : s.mem.wf = true) :
    OutWf (execVandnS a s) := by
  unfold execVandnS
  simp [*]

@[simp] theorem execVnot_wf (s : State) (h_ : s.mem.wf = true) :
    OutWf (execVnot s) := by
  unfold execVnot
  simp [*]

@[simp] theorem execVshl_wf (s : State) (h_ : s.mem.wf = true) :
    OutWf (execVshl s) := by
  unfold execVshl
  simp [*]

@[simp] theorem execVshlS_wf (a : Fin 32) (s : State) (h_ : s.mem.wf = true) :
    OutWf (execVshlS a s) := by
  unfold execVshlS
  simp [*]

@[simp] theorem execVshr_wf (s : State) (h_ : s.mem.wf = true) :
    OutWf (execVshr s) := by
  unfold execVshr
  simp [*]

@[simp] theorem execVshrS_wf (a : Fin 32) (s : State) (h_ : s.mem.wf = true) :
    OutWf (execVshrS a s) := by
  unfold execVshrS
  simp [*]

@[simp] theorem execVsar_wf (s : State) (h_ : s.mem.wf = true) :
    OutWf (execVsar s) := by
  unfold execVsar
  simp [*]

@[simp] theorem execVsarS_wf (a : Fin 32) (s : State) (h_ : s.mem.wf = true) :
    OutWf (execVsarS a s) := by
  unfold execVsarS
  simp [*]

@[simp] theorem execVcmp_wf (r : Fin 8) (s : State) (h_ : s.mem.wf = true) :
    OutWf (execVcmp r s) := by
  unfold execVcmp
  simp [*]

@[simp] theorem execVcmpS_wf (a : Fin 32) (r : Fin 8) (s : State) (h_ : s.mem.wf = true) :
    OutWf (execVcmpS a r s) := by
  unfold execVcmpS
  simp [*]

@[simp] theorem execVsel_wf (s : State) (h_ : s.mem.wf = true) :
    OutWf (execVsel s) := by
  unfold execVsel
  simp [*]

@[simp] theorem execVselS_wf (a : Fin 32) (s : State) (h_ : s.mem.wf = true) :
    OutWf (execVselS a s) := by
  unfold execVselS
  simp [*]

@[simp] theorem execVpopc_wf (s : State) (h_ : s.mem.wf = true) :
    OutWf (execVpopc s) := by
  unfold execVpopc
  simp [*]

@[simp] theorem execVclz_wf (s : State) (h_ : s.mem.wf = true) :
    OutWf (execVclz s) := by
  unfold execVclz
  simp [*]

@[simp] theorem execVbrev_wf (s : State) (h_ : s.mem.wf = true) :
    OutWf (execVbrev s) := by
  unfold execVbrev
  simp [*]

@[simp] theorem execVfns_wf (s : State) (h_ : s.mem.wf = true) :
    OutWf (execVfns s) := by
  unfold execVfns
  simp [*]

@[simp] theorem execVfnsS_wf (a : Fin 32) (s : State) (h_ : s.mem.wf = true) :
    OutWf (execVfnsS a s) := by
  unfold execVfnsS
  simp [*]

@[simp] theorem execVbfx_wf (s : State) (h_ : s.mem.wf = true) :
    OutWf (execVbfx s) := by
  unfold execVbfx
  simp [*]

@[simp] theorem execVbfxS_wf (a : Fin 32) (s : State) (h_ : s.mem.wf = true) :
    OutWf (execVbfxS a s) := by
  unfold execVbfxS
  simp [*]

@[simp] theorem execVbfi_wf (s : State) (h_ : s.mem.wf = true) :
    OutWf (execVbfi s) := by
  unfold execVbfi
  simp [*]

@[simp] theorem execVbfiS_wf (a : Fin 32) (s : State) (h_ : s.mem.wf = true) :
    OutWf (execVbfiS a s) := by
  unfold execVbfiS
  simp [*]

@[simp] theorem execVfshL_wf (s : State) (h_ : s.mem.wf = true) :
    OutWf (execVfshL s) := by
  unfold execVfshL
  simp [*]

@[simp] theorem execVfshLS_wf (a : Fin 32) (s : State) (h_ : s.mem.wf = true) :
    OutWf (execVfshLS a s) := by
  unfold execVfshLS
  simp [*]

@[simp] theorem execVfshR_wf (s : State) (h_ : s.mem.wf = true) :
    OutWf (execVfshR s) := by
  unfold execVfshR
  simp [*]

@[simp] theorem execVfshRS_wf (a : Fin 32) (s : State) (h_ : s.mem.wf = true) :
    OutWf (execVfshRS a s) := by
  unfold execVfshRS
  simp [*]

@[simp] theorem execVcvt_wf (x : Fin 8) (s : State) (h_ : s.mem.wf = true) :
    OutWf (execVcvt x s) := by
  unfold execVcvt
  simp [*]

@[simp] theorem execVexp2_wf (s : State) (h_ : s.mem.wf = true) :
    OutWf (execVexp2 s) := by
  unfold execVexp2
  simp [*]

@[simp] theorem execVlog2_wf (s : State) (h_ : s.mem.wf = true) :
    OutWf (execVlog2 s) := by
  unfold execVlog2
  simp [*]

@[simp] theorem execVrcp_wf (s : State) (h_ : s.mem.wf = true) :
    OutWf (execVrcp s) := by
  unfold execVrcp
  simp [*]

@[simp] theorem execVrsqrt_wf (s : State) (h_ : s.mem.wf = true) :
    OutWf (execVrsqrt s) := by
  unfold execVrsqrt
  simp [*]

@[simp] theorem execVsplit_wf (a : Fin 32) (s : State) (h_ : s.mem.wf = true) :
    OutWf (execVsplit a s) := by
  unfold execVsplit
  simp [*]

@[simp] theorem execVredsumAll_wf (x : Fin 8) (s : State) (h_ : s.mem.wf = true) :
    OutWf (execVredsumAll x s) := by
  unfold execVredsumAll
  simp [*]

@[simp] theorem execVredmaxAll_wf (s : State) (h_ : s.mem.wf = true) :
    OutWf (execVredmaxAll s) := by
  unfold execVredmaxAll
  simp [*]

@[simp] theorem execVredminAll_wf (s : State) (h_ : s.mem.wf = true) :
    OutWf (execVredminAll s) := by
  unfold execVredminAll
  simp [*]

@[simp] theorem execVargmaxAll_wf (a : Fin 32) (s : State) (h_ : s.mem.wf = true) :
    OutWf (execVargmaxAll a s) := by
  unfold execVargmaxAll
  simp [*]

@[simp] theorem execVredsumRow_wf (x : Fin 8) (s : State) (h_ : s.mem.wf = true) :
    OutWf (execVredsumRow x s) := by
  unfold execVredsumRow
  simp [*]

@[simp] theorem execVredmaxRow_wf (s : State) (h_ : s.mem.wf = true) :
    OutWf (execVredmaxRow s) := by
  unfold execVredmaxRow
  simp [*]

@[simp] theorem execVredminRow_wf (s : State) (h_ : s.mem.wf = true) :
    OutWf (execVredminRow s) := by
  unfold execVredminRow
  simp [*]

@[simp] theorem execVargmaxRow_wf (a : Fin 32) (s : State) (h_ : s.mem.wf = true) :
    OutWf (execVargmaxRow a s) := by
  unfold execVargmaxRow
  simp [*]

@[simp] theorem execVredsumCol_wf (x : Fin 8) (s : State) (h_ : s.mem.wf = true) :
    OutWf (execVredsumCol x s) := by
  unfold execVredsumCol
  simp [*]

@[simp] theorem execVredmaxCol_wf (s : State) (h_ : s.mem.wf = true) :
    OutWf (execVredmaxCol s) := by
  unfold execVredmaxCol
  simp [*]

@[simp] theorem execVredminCol_wf (s : State) (h_ : s.mem.wf = true) :
    OutWf (execVredminCol s) := by
  unfold execVredminCol
  simp [*]

@[simp] theorem execVargmaxCol_wf (a : Fin 32) (s : State) (h_ : s.mem.wf = true) :
    OutWf (execVargmaxCol a s) := by
  unfold execVargmaxCol
  simp [*]

@[simp] theorem execVscan_wf (x : Fin 8) (s : State) (h_ : s.mem.wf = true) :
    OutWf (execVscan x s) := by
  unfold execVscan
  simp [*]

@[simp] theorem execVgath_wf (s : State) (h_ : s.mem.wf = true) :
    OutWf (execVgath s) := by
  unfold execVgath
  simp [*]

@[simp] theorem execVscat_wf (s : State) (h_ : s.mem.wf = true) :
    OutWf (execVscat s) := by
  unfold execVscat
  simp [*]

@[simp] theorem execVtran_wf (s : State) (h_ : s.mem.wf = true) :
    OutWf (execVtran s) := by
  unfold execVtran
  simp [*]

@[simp] theorem execVpush_wf (a : Fin 32) (s : State) (h_ : s.mem.wf = true) :
    OutWf (execVpush a s) := by
  unfold execVpush
  (repeat' split) <;> (try simp (maxDischargeDepth := 60) [*]) <;> (repeat' split) <;>
    (try simp (maxDischargeDepth := 60) [*]) <;> try simp_all (maxDischargeDepth := 60)

@[simp] theorem execVpop_wf (a b : Fin 32) (s : State) (h_ : s.mem.wf = true) :
    OutWf (execVpop a b s) := by
  unfold execVpop
  (repeat' split) <;> (try simp (maxDischargeDepth := 60) [*]) <;> (repeat' split) <;>
    (try simp (maxDischargeDepth := 60) [*]) <;> try simp_all (maxDischargeDepth := 60)

@[simp] theorem execVqcnt_wf (a b : Fin 32) (s : State) (h_ : s.mem.wf = true) :
    OutWf (execVqcnt a b s) := by
  unfold execVqcnt
  simp [*]

@[simp] theorem execVchain_wf (a : Fin 32) (c : Fin 4) (s : State) (h_ : s.mem.wf = true) :
    OutWf (execVchain a c s) := by
  unfold execVchain
  simp [*]

/-! ## Machine/Tables.lean -/

@[simp] theorem qOp_wf (s : State) (chk : Option Trap) (eff : State → State) (h_ : s.mem.wf = true) (heff : ∀ s : State, s.mem.wf = true → (eff s).mem.wf = true) :
    OutWf (qOp s chk eff) := by
  unfold qOp
  (repeat' split) <;> simp [*]

@[simp] theorem tableWrite_mem (s : State) (ns : List (Fin 32)) (act : DAct) :
    (tableWrite s ns act).mem = s.mem := by
  unfold tableWrite
  rfl

@[simp] theorem execFtset_wf (a : Fin 32) (s : State) (h_ : s.mem.wf = true) :
    OutWf (execFtset a s) := by
  unfold execFtset
  simp [*]

@[simp] theorem execScld_wf (a b : Fin 32) (h t : Bool) (s : State) (h_ : s.mem.wf = true) :
    OutWf (execScld a b h t s) := by
  unfold execScld
  simp [*]

@[simp] theorem execChset_wf (a b : Fin 32) (j : Fin 4) (s : State) (h_ : s.mem.wf = true) :
    OutWf (execChset a b j s) := by
  unfold execChset
  simp [*]

@[simp] theorem execDecl_wf (a : Fin 32) (s : State) (h_ : s.mem.wf = true) :
    OutWf (execDecl a s) := by
  unfold execDecl
  simp [*]

@[simp] theorem execPwra_wf (a : Fin 32) (s : State) (h_ : s.mem.wf = true) :
    OutWf (execPwra a s) := by
  unfold execPwra
  simp [*]

@[simp] theorem execPwrr_wf (s : State) (h_ : s.mem.wf = true) :
    OutWf (execPwrr s) := by
  unfold execPwrr
  simp [*]

@[simp] theorem execQinit_wf (a b : Fin 32) (s : State) (h_ : s.mem.wf = true) :
    OutWf (execQinit a b s) := by
  unfold execQinit
  simp [*]

@[simp] theorem writeQinit_wf (s : State) (a : Nat) (b : Word) (h_ : s.mem.wf = true) :
    (writeQinit s a b).mem.wf = true := by
  unfold writeQinit
  simp [*]

/-! ## Machine/Lanes.lean -/

@[simp] theorem laneOp_wf (s : State) (put aw : Bool) (a b : Fin 32) (l : Fin 8) (h_ : s.mem.wf = true) :
    OutWf (laneOp s put aw a b l) := by
  unfold laneOp
  simp [*]

@[simp] theorem execLnputCw_wf (a b : Fin 32) (l : Fin 8) (s : State) (h_ : s.mem.wf = true) :
    OutWf (execLnputCw a b l s) := by
  unfold execLnputCw
  simp [*]

@[simp] theorem execLnputAw_wf (a b : Fin 32) (l : Fin 8) (s : State) (h_ : s.mem.wf = true) :
    OutWf (execLnputAw a b l s) := by
  unfold execLnputAw
  simp [*]

@[simp] theorem execLntapCw_wf (a b : Fin 32) (l : Fin 8) (s : State) (h_ : s.mem.wf = true) :
    OutWf (execLntapCw a b l s) := by
  unfold execLntapCw
  simp [*]

@[simp] theorem execLntapAw_wf (a b : Fin 32) (l : Fin 8) (s : State) (h_ : s.mem.wf = true) :
    OutWf (execLntapAw a b l s) := by
  unfold execLntapAw
  simp [*]

@[simp] theorem ringRaise_mem (s : State) (x : Trap) (t : Nat) :
    (ringRaise s x t).mem = s.mem := by
  unfold ringRaise
  rfl

@[simp] theorem lanePut_mem (s : State) (l : LaneCmd) (t i : Nat) :
    (lanePut s l t i).mem = s.mem := by
  unfold lanePut
  simp

@[simp] theorem laneTap_mem (s : State) (l : LaneCmd) (t i : Nat) :
    (laneTap s l t i).mem = s.mem := by
  unfold laneTap
  (repeat' split) <;> simp [*]

@[simp] theorem laneWrite_wf (s : State) (l : LaneCmd) (t i : Nat) (h_ : s.mem.wf = true) :
    (laneWrite s l t i).mem.wf = true := by
  unfold laneWrite
  dsimp only
  (repeat' split) <;> simp (maxDischargeDepth := 60) [*]

@[simp] theorem laneSweep_mem (s : State) (t : Nat) :
    (laneSweep s t).mem = s.mem := by
  unfold laneSweep
  rfl

/-! ## Machine/Matrix.lean -/

@[simp] theorem xProduct_wf (s : State) (scaled z : Bool) (h_ : s.mem.wf = true) :
    OutWf (xProduct s scaled z) := by
  unfold xProduct
  simp [*]

@[simp] theorem execMma_wf (s : State) (h_ : s.mem.wf = true) :
    OutWf (execMma s) := by
  unfold execMma
  simp [*]

@[simp] theorem execMmaZ_wf (s : State) (h_ : s.mem.wf = true) :
    OutWf (execMmaZ s) := by
  unfold execMmaZ
  simp [*]

@[simp] theorem execMmas_wf (s : State) (h_ : s.mem.wf = true) :
    OutWf (execMmas s) := by
  unfold execMmas
  simp [*]

@[simp] theorem execMmasZ_wf (s : State) (h_ : s.mem.wf = true) :
    OutWf (execMmasZ s) := by
  unfold execMmasZ
  simp [*]

@[simp] theorem execAccn_wf (a : Fin 32) (x : Fin 8) (s : State) (h_ : s.mem.wf = true) :
    OutWf (execAccn a x s) := by
  unfold execAccn
  simp [*]

@[simp] theorem execAccx_wf (a b : Fin 32) (s : State) (h_ : s.mem.wf = true) :
    OutWf (execAccx a b s) := by
  unfold execAccx
  simp [*]

@[simp] theorem execAccz_wf (s : State) (h_ : s.mem.wf = true) :
    OutWf (execAccz s) := by
  unfold execAccz
  simp [*]

@[simp] theorem accImage_wf (s : State) (op : CmdOp) (a : Fin 32) (h_ : s.mem.wf = true) :
    OutWf (accImage s op a) := by
  unfold accImage
  simp [*]

@[simp] theorem accSet_mem (s : State) (tile row col v : Nat) :
    (accSet s tile row col v).mem = s.mem := by
  unfold accSet
  rfl

@[simp] theorem accPut_mem (s : State) (tile row col : Nat) (vs : List Nat) :
    (accPut s tile row col vs).mem = s.mem := by
  unfold accPut
  simp

@[simp] theorem putTileRow_mem (s : State) (tile row : Nat) (vs codes : List Nat) :
    (putTileRow s tile row vs codes).mem = s.mem := by
  simp [putTileRow]

@[simp] theorem putImageRow_wf (s : State) (a row : Nat) (vs codes : List Nat) (h_ : s.mem.wf = true) :
    (putImageRow s a row vs codes).mem.wf = true :=
  memPut_wf (memPut_wf h_ _ _) _ _

theorem handlerImage_wf (s : State) (a : Fin 32) (move : State → Nat → Nat → Nat → State) (h_ : s.mem.wf = true)
    (hm : ∀ u t k i, u.mem.wf = true → (move u t k i).mem.wf = true) : OutWf (handlerImage s a move) := by
  unfold handlerImage
  split
  · split
    · simp [*]
    · exact foldl_wf (fun u i hu => hm u _ _ i hu) _ (by simpa using h_)
  · simp [*]

@[simp] theorem execAccst_wf (a : Fin 32) (s : State) (h_ : s.mem.wf = true) :
    OutWf (execAccst a s) := by
  unfold execAccst
  split
  · exact handlerImage_wf s a moveOut h_ fun u t k i hu => putImageRow_wf u _ _ _ _ hu
  · simp [*]

@[simp] theorem execAccld_wf (a : Fin 32) (s : State) (h_ : s.mem.wf = true) :
    OutWf (execAccld a s) := by
  unfold execAccld
  split
  · exact handlerImage_wf s a moveIn h_ fun u t k i hu => by simpa [moveIn] using hu
  · simp [*]

/-! ## Machine/Copy.lean -/

@[simp] theorem promise_mem (s : State) (c : Cmd) (latency : Nat) :
    (promise s c latency).1.mem = s.mem := by
  unfold promise
  split <;> simp [*]

@[simp] theorem unpromised_mem (s : State) (c : Cmd) :
    (unpromised s c).1.mem = s.mem := by
  unfold unpromised
  rfl

@[simp] theorem copyOp_wf (s : State) (put x : Bool) (a : Fin 32) (k : Fin 8) (h_ : s.mem.wf = true) :
    OutWf (copyOp s put x a k) := by
  unfold copyOp
  simp [*]

@[simp] theorem execCpg_wf (a : Fin 32) (k : Fin 8) (s : State) (h_ : s.mem.wf = true) :
    OutWf (execCpg a k s) := by
  unfold execCpg
  simp [*]

@[simp] theorem execCpgX_wf (a : Fin 32) (k : Fin 8) (s : State) (h_ : s.mem.wf = true) :
    OutWf (execCpgX a k s) := by
  unfold execCpgX
  simp [*]

@[simp] theorem execCps_wf (a : Fin 32) (k : Fin 8) (s : State) (h_ : s.mem.wf = true) :
    OutWf (execCps a k s) := by
  unfold execCps
  simp [*]

@[simp] theorem execCpsX_wf (a : Fin 32) (k : Fin 8) (s : State) (h_ : s.mem.wf = true) :
    OutWf (execCpsX a k s) := by
  unfold execCpsX
  simp [*]

@[simp] theorem execCpy_wf (a b : Fin 32) (k : Fin 8) (s : State) (h_ : s.mem.wf = true) :
    OutWf (execCpy a b k s) := by
  unfold execCpy
  simp [*]

@[simp] theorem execWmap_wf (a : Fin 32) (k : Fin 8) (s : State) (h_ : s.mem.wf = true) :
    OutWf (execWmap a k s) := by
  unfold execWmap
  simp [*]

@[simp] theorem windowOp_wf (s : State) (op : CmdOp) (g k : Fin 8) (h_ : s.mem.wf = true) :
    OutWf (windowOp s op g k) := by
  unfold windowOp
  simp [*]

@[simp] theorem execWfill_wf (g k : Fin 8) (s : State) (h_ : s.mem.wf = true) :
    OutWf (execWfill g k s) := by
  unfold execWfill
  simp [*]

@[simp] theorem execWback_wf (g k : Fin 8) (s : State) (h_ : s.mem.wf = true) :
    OutWf (execWback g k s) := by
  unfold execWback
  simp [*]

@[simp] theorem execWunmap_wf (g k : Fin 8) (s : State) (h_ : s.mem.wf = true) :
    OutWf (execWunmap g k s) := by
  unfold execWunmap
  simp [*]

@[simp] theorem probeOp_wf (s : State) (w : Bool) (a b : Fin 32) (h_ : s.mem.wf = true) :
    OutWf (probeOp s w a b) := by
  unfold probeOp
  simp [*]

@[simp] theorem execProbeR_wf (a b : Fin 32) (s : State) (h_ : s.mem.wf = true) :
    OutWf (execProbeR a b s) := by
  unfold execProbeR
  simp [*]

@[simp] theorem execProbeW_wf (a b : Fin 32) (s : State) (h_ : s.mem.wf = true) :
    OutWf (execProbeW a b s) := by
  unfold execProbeW
  simp [*]

@[simp] theorem atomOp_wf (s : State) (op : Fin 8) (nr : Bool) (a : Fin 32) (k : Fin 8) (h_ : s.mem.wf = true) :
    OutWf (atomOp s op nr a k) := by
  unfold atomOp
  simp [*]

@[simp] theorem execAtomAdd_wf (a : Fin 32) (k : Fin 8) (s : State) (h_ : s.mem.wf = true) :
    OutWf (execAtomAdd a k s) := by
  unfold execAtomAdd
  simp [*]

@[simp] theorem execAtomMin_wf (a : Fin 32) (k : Fin 8) (s : State) (h_ : s.mem.wf = true) :
    OutWf (execAtomMin a k s) := by
  unfold execAtomMin
  simp [*]

@[simp] theorem execAtomMax_wf (a : Fin 32) (k : Fin 8) (s : State) (h_ : s.mem.wf = true) :
    OutWf (execAtomMax a k s) := by
  unfold execAtomMax
  simp [*]

@[simp] theorem execAtomAnd_wf (a : Fin 32) (k : Fin 8) (s : State) (h_ : s.mem.wf = true) :
    OutWf (execAtomAnd a k s) := by
  unfold execAtomAnd
  simp [*]

@[simp] theorem execAtomOr_wf (a : Fin 32) (k : Fin 8) (s : State) (h_ : s.mem.wf = true) :
    OutWf (execAtomOr a k s) := by
  unfold execAtomOr
  simp [*]

@[simp] theorem execAtomXor_wf (a : Fin 32) (k : Fin 8) (s : State) (h_ : s.mem.wf = true) :
    OutWf (execAtomXor a k s) := by
  unfold execAtomXor
  simp [*]

@[simp] theorem execAtomXchg_wf (a : Fin 32) (k : Fin 8) (s : State) (h_ : s.mem.wf = true) :
    OutWf (execAtomXchg a k s) := by
  unfold execAtomXchg
  simp [*]

@[simp] theorem execAtomCas_wf (a : Fin 32) (k : Fin 8) (s : State) (h_ : s.mem.wf = true) :
    OutWf (execAtomCas a k s) := by
  unfold execAtomCas
  simp [*]

@[simp] theorem execAtomAddNr_wf (a : Fin 32) (k : Fin 8) (s : State) (h_ : s.mem.wf = true) :
    OutWf (execAtomAddNr a k s) := by
  unfold execAtomAddNr
  simp [*]

@[simp] theorem execAtomMinNr_wf (a : Fin 32) (k : Fin 8) (s : State) (h_ : s.mem.wf = true) :
    OutWf (execAtomMinNr a k s) := by
  unfold execAtomMinNr
  simp [*]

@[simp] theorem execAtomMaxNr_wf (a : Fin 32) (k : Fin 8) (s : State) (h_ : s.mem.wf = true) :
    OutWf (execAtomMaxNr a k s) := by
  unfold execAtomMaxNr
  simp [*]

@[simp] theorem execAtomAndNr_wf (a : Fin 32) (k : Fin 8) (s : State) (h_ : s.mem.wf = true) :
    OutWf (execAtomAndNr a k s) := by
  unfold execAtomAndNr
  simp [*]

@[simp] theorem execAtomOrNr_wf (a : Fin 32) (k : Fin 8) (s : State) (h_ : s.mem.wf = true) :
    OutWf (execAtomOrNr a k s) := by
  unfold execAtomOrNr
  simp [*]

@[simp] theorem execAtomXorNr_wf (a : Fin 32) (k : Fin 8) (s : State) (h_ : s.mem.wf = true) :
    OutWf (execAtomXorNr a k s) := by
  unfold execAtomXorNr
  simp [*]

@[simp] theorem execAtomXchgNr_wf (a : Fin 32) (k : Fin 8) (s : State) (h_ : s.mem.wf = true) :
    OutWf (execAtomXchgNr a k s) := by
  unfold execAtomXchgNr
  simp [*]

@[simp] theorem execAtomCasNr_wf (a : Fin 32) (k : Fin 8) (s : State) (h_ : s.mem.wf = true) :
    OutWf (execAtomCasNr a k s) := by
  unfold execAtomCasNr
  simp [*]

@[simp] theorem execMcast_wf (k : Fin 8) (s : State) (h_ : s.mem.wf = true) :
    OutWf (execMcast k s) := by
  unfold execMcast
  simp [*]

@[simp] theorem collOp_wf (s : State) (op : Fin 4) (a : Fin 32) (k : Fin 8) (h_ : s.mem.wf = true) :
    OutWf (collOp s op a k) := by
  unfold collOp
  simp [*]

@[simp] theorem execCollSum_wf (a : Fin 32) (k : Fin 8) (s : State) (h_ : s.mem.wf = true) :
    OutWf (execCollSum a k s) := by
  unfold execCollSum
  simp [*]

@[simp] theorem execCollMax_wf (a : Fin 32) (k : Fin 8) (s : State) (h_ : s.mem.wf = true) :
    OutWf (execCollMax a k s) := by
  unfold execCollMax
  simp [*]

@[simp] theorem execCollArgmax_wf (a : Fin 32) (k : Fin 8) (s : State) (h_ : s.mem.wf = true) :
    OutWf (execCollArgmax a k s) := by
  unfold execCollArgmax
  simp [*]

@[simp] theorem execCollBcast_wf (a : Fin 32) (k : Fin 8) (s : State) (h_ : s.mem.wf = true) :
    OutWf (execCollBcast a k s) := by
  unfold execCollBcast
  simp [*]

@[simp] theorem execQlnch_wf (a b : Fin 32) (s : State) (h_ : s.mem.wf = true) :
    OutWf (execQlnch a b s) := by
  unfold execQlnch
  simp [*]

@[simp] theorem execWprop_wf (s : State) (h_ : s.mem.wf = true) :
    OutWf (execWprop s) := by
  unfold execWprop
  simp [*]

@[simp] theorem weltOp_wf (s : State) (op : CmdOp) (regs : List (Fin 32)) (a : Fin 32) (gb : Word) (b : Fin 32) (h_ : s.mem.wf = true) :
    OutWf (weltOp s op regs a gb b) := by
  unfold weltOp
  simp [*]

@[simp] theorem execWdepth_wf (a b : Fin 32) (s : State) (h_ : s.mem.wf = true) :
    OutWf (execWdepth a b s) := by
  unfold execWdepth
  simp [*]

@[simp] theorem execWrbk_wf (a b : Fin 32) (s : State) (h_ : s.mem.wf = true) :
    OutWf (execWrbk a b s) := by
  unfold execWrbk
  simp [*]

@[simp] theorem execWtake_wf (a b : Fin 32) (s : State) (h_ : s.mem.wf = true) :
    OutWf (execWtake a b s) := by
  unfold execWtake
  simp [*]

@[simp] theorem execWjudge_wf (a b : Fin 32) (s : State) (h_ : s.mem.wf = true) :
    OutWf (execWjudge a b s) := by
  unfold execWjudge
  simp [*]

@[simp] theorem execWfinal_wf (a b : Fin 32) (s : State) (h_ : s.mem.wf = true) :
    OutWf (execWfinal a b s) := by
  unfold execWfinal
  simp [*]

@[simp] theorem execWstat_wf (a b : Fin 32) (s : State) (h_ : s.mem.wf = true) :
    OutWf (execWstat a b s) := by
  unfold execWstat
  simp [*]

end Sys2Proof.Laws
end

