-- ==== Sys2Proof/Laws/KeepUnits.lean ====
section
/-! SUPPORT. What each definition of the engines, the fabric, the scheduler and the host does to memory (see Laws/Keep.lean). -/

-- one proof at a time
set_option Elab.async false

set_option linter.all false

namespace Sys2Proof.Laws
open Sys2Proof.Machine

/-! ## Machine/CopyUnits.lean -/

@[simp] theorem sendAll_mem (s : State) (c : Cmd) (cuts : List (Nat × Nat × Nat × Nat × Nat)) (f : Nat → Nat → Piece → Piece) :
    (sendAll s c cuts f).mem = s.mem := by
  unfold sendAll
  simp

@[simp] theorem deliverFrom_mem (s : State) (c : Cmd) (tgt : Word) (off len a : Nat) (count : Bool) :
    (deliverFrom s c tgt off len a count).mem = s.mem := by
  unfold deliverFrom
  simp

/-- An effect that keeps the form of memory. -/
def Keeps (f : State → State) : Prop := ∀ u : State, u.mem.wf = true → (f u).mem.wf = true
@[simp] theorem keeps_id : Keeps id := fun _ h => h
theorem keeps_of_mem {f : State → State} (h : ∀ u, (f u).mem = u.mem) : Keeps f := fun u hu => by rw [h]; exact hu
theorem keeps_foldl : ∀ (l : List (State → State)), (∀ f ∈ l, Keeps f) → Keeps fun s => l.foldl (fun s f => f s) s
  | [], _, _, h => h
  | f :: t, hl, u, h => keeps_foldl t (fun g hg => hl g (List.mem_cons_of_mem _ hg)) (f u) (hl f List.mem_cons_self u h)
theorem keeps_mapM {α : Type} {f : α → Option (State → State)} (hf : ∀ x g, f x = some g → Keeps g) :
    ∀ (l : List α) (gs : List (State → State)), l.mapM f = some gs → ∀ g ∈ gs, Keeps g
  | [], gs, h => by simp at h; subst h; simp
  | x :: t, gs, h => by
    simp only [List.mapM_cons, bind, Option.bind_eq_some_iff, pure, Option.some.injEq] at h
    obtain ⟨g, hg, gs', hgs, rfl⟩ := h
    intro k hk
    rcases List.mem_cons.1 hk with rfl | hk
    · exact hf x _ hg
    · exact keeps_mapM hf t gs' hgs k hk

theorem readInto_keeps (s : State) (c : Cmd) (va len d : Nat) (g : State → State) (h : readInto s c va len d = some g) :
    Keeps g := by
  simp only [readInto, Option.map_eq_some_iff] at h
  obtain ⟨_, _, rfl⟩ := h
  exact keeps_of_mem fun u => by simp
theorem writeFrom_keeps (s : State) (c : Cmd) (va len a : Nat) (g : State → State) (h : writeFrom s c va len a = some g) :
    Keeps g := by
  simp only [writeFrom, Option.map_eq_some_iff] at h
  obtain ⟨_, _, rfl⟩ := h
  exact keeps_of_mem fun u => by simp
theorem putTo_keeps (s : State) (c : Cmd) (tgt : Word) (off len a : Nat) (n : Bool) (g : State → State)
    (h : putTo s c tgt off len a n = some g) : Keeps g := by
  unfold putTo at h
  split at h
  · cases h; exact keeps_of_mem fun u => by simp
  · exact writeFrom_keeps _ _ _ _ _ _ h
theorem copyGlobal_keeps (s : State) (c : Cmd) (src len : Nat) (tgt : Word) (off : Nat) (g : State → State)
    (h : copyGlobal s c src len tgt off = some g) : Keeps g := by
  simp only [copyGlobal, Option.map_eq_some_iff] at h
  obtain ⟨_, _, rfl⟩ := h
  refine keeps_of_mem fun u => ?_
  rw [foldl_mem]
  · split <;> simp
  · rintro s ⟨_, _, _, _, _, _⟩
    exact sendPiece_mem _ _ _
theorem sent_keeps (s : State) (c : Cmd) (i : Nat) (buf : List (List Nat)) (f : Option (State → State))
    (h : ∀ g, f = some g → Keeps g) : Keeps (sent s c i buf f).eff := by
  unfold sent
  split
  · exact h _ rfl
  · exact keeps_id
theorem copyUnit_keeps (s : State) (c : Cmd) (put : Bool) (i : Nat) : Keeps (copyUnit s c put i).eff := by
  have key : ∀ (x : Bool × Bool × Nat × List (List Nat)) (r p lo a len : Nat) (u : Trap), Keeps (match x with
      | (skip, edge, row, buf) => if edge then (⟨⟨i, [(3, u, 0)], [], c.buf, 0⟩, id⟩ : CPerf)
        else if skip then ⟨⟨i, [], [], buf, 0⟩, id⟩
        else sent s c i buf
          (if put then (if c.indexed then writeFrom s c (cAddr c.ga + row * p + lo) len a
            else putTo s c c.ga (r * p + lo) len a false)
           else readInto s c (cAddr c.ga + row * p + lo) len a)).eff := by
    rintro ⟨skip, edge, row, buf⟩ r p lo a len u
    dsimp only
    split
    · exact keeps_id
    · split
      · exact keeps_id
      · refine sent_keeps _ _ _ _ _ fun g hg => ?_
        split at hg
        · split at hg
          · exact writeFrom_keeps _ _ _ _ _ _ hg
          · exact putTo_keeps _ _ _ _ _ _ _ _ hg
        · exact readInto_keeps _ _ _ _ _ _ hg
  exact key _ _ _ _ _ _ _
theorem cpyUnit_keeps (s : State) (c : Cmd) (i : Nat) : Keeps (cpyUnit s c i).eff :=
  sent_keeps _ _ _ _ _ fun _ hg => copyGlobal_keeps _ _ _ _ _ _ _ hg
theorem wmapUnit_keeps (c : Cmd) : Keeps (wmapUnit c).eff := keeps_of_mem fun u => by simp [wmapUnit, onlyEff]
theorem wfillUnit_keeps (s : State) (c : Cmd) (i : Nat) : Keeps (wfillUnit s c i).eff :=
  sent_keeps _ _ _ _ _ fun _ hg => readInto_keeps _ _ _ _ _ _ hg
theorem wbackUnit_keeps (s : State) (c : Cmd) (i : Nat) : Keeps (wbackUnit s c i).eff := by
  unfold wbackUnit
  dsimp only
  split
  · exact keeps_of_mem fun u => rfl
  · refine sent_keeps _ _ _ _ _ fun g hg => ?_
    simp only [Option.map_eq_some_iff] at hg
    obtain ⟨f, hf, rfl⟩ := hg
    exact fun u hu => writeFrom_keeps _ _ _ _ _ _ hf u hu
theorem probeUnit_keeps (s : State) (c : Cmd) (w : Bool) : Keeps (probeUnit s c w).eff := by
  unfold probeUnit; split <;> exact keeps_id
theorem atomUnit_keeps (s : State) (c : Cmd) (op : Fin 8) (nr : Bool) (off : Nat) : Keeps (atomUnit s c op nr off).eff := by
  unfold atomUnit
  dsimp only
  split
  · exact keeps_id
  · refine sent_keeps _ _ _ _ _ fun g hg => ?_
    simp only [Option.map_eq_some_iff] at hg
    obtain ⟨_, _, rfl⟩ := hg
    exact keeps_of_mem fun u => by simp
theorem mcastUnit_keeps (s : State) (c : Cmd) (off : Nat) : Keeps (mcastUnit s c off).eff := by
  unfold mcastUnit
  dsimp only
  split
  · exact keeps_id
  · refine sent_keeps _ _ _ _ _ fun g hg => ?_
    simp only [Option.map_eq_some_iff] at hg
    obtain ⟨l, hl, rfl⟩ := hg
    exact keeps_foldl l (keeps_mapM (fun x g h => putTo_keeps _ _ _ _ _ _ _ _ h) _ l hl)
theorem qlnchUnit_keeps (s : State) (c : Cmd) (i : Nat) : Keeps (qlnchUnit s c i).eff := by
  unfold qlnchUnit
  dsimp only
  split
  · refine keeps_of_mem fun u => ?_
    dsimp only; split <;> simp
  · refine keeps_of_mem fun u => ?_
    dsimp only; split <;> simp
theorem wpropUnit_keeps (s : State) (c : Cmd) (i : Nat) : Keeps (wpropUnit s c i).eff := by
  unfold wpropUnit
  dsimp only
  split
  · split
    · exact keeps_id
    · exact keeps_of_mem fun u => by simp
  · exact keeps_id
theorem wtakeUnit_keeps (s : State) (c : Cmd) (off : Nat) : Keeps (wtakeUnit s c off).eff := by
  unfold wtakeUnit
  dsimp only
  split
  · split
    · exact keeps_id
    · exact keeps_of_mem fun u => by simp
  · split
    · intro u hu; simp [hu]
    · exact keeps_id
theorem wjudgeUnit_keeps (s : State) (c : Cmd) (i : Nat) : Keeps (wjudgeUnit s c i).eff := by
  unfold wjudgeUnit
  dsimp only
  split
  · exact keeps_id
  · split
    · exact keeps_id
    · refine keeps_of_mem fun u => ?_
      dsimp only; split <;> (try split) <;> simp
theorem wfinalUnit_keeps (s : State) (c : Cmd) : Keeps (wfinalUnit s c).eff := by
  unfold wfinalUnit
  dsimp only
  split
  · exact keeps_id
  · refine keeps_of_mem fun u => ?_
    simp only [onlyEff]; split <;> simp
theorem cPerform_keeps (s : State) (c : Cmd) (off : Nat) (p : CPerf) (h : cPerform s c off = some p) : Keeps p.eff := by
  simp only [cPerform, Option.map_eq_some_iff] at h
  obtain ⟨i, _, rfl⟩ := h
  split
  · apply copyUnit_keeps
  · apply copyUnit_keeps
  · apply cpyUnit_keeps
  · apply wmapUnit_keeps
  · apply wfillUnit_keeps
  · apply wbackUnit_keeps
  · apply wbackUnit_keeps
  · apply probeUnit_keeps
  · apply atomUnit_keeps
  · apply mcastUnit_keeps
  · exact keeps_id
  · apply qlnchUnit_keeps
  · apply wpropUnit_keeps
  · apply wtakeUnit_keeps
  · apply wjudgeUnit_keeps
  · apply wfinalUnit_keeps
  · exact keeps_of_mem fun u => by simp [weltRead]
  · exact keeps_id
  · exact keeps_id

/-! ## Machine/Engine.lean -/

@[simp] theorem unitFail_mem (s : State) (e : Fin 3) (id unit at_ : Nat) (t : Trap) (fl : Nat) :
    (unitFail s e id unit at_ t fl).mem = s.mem := by
  unfold unitFail
  dsimp only
  split <;> simp

theorem unitCells_keeps (s : State) (c : Cmd) (opnd : Nat) (cells : List (Nat × Byte)) :
    Keeps (unitCells s c opnd cells).2 := by
  unfold unitCells
  dsimp only
  split
  · exact keeps_id
  · intro u hu; simp (maxDischargeDepth := 60) [hu]

theorem memPut2_keeps (k1 k2 : Nat) (v1 v2 : List Byte) :
    Keeps fun s => { s with mem := memPut (memPut s.mem k1 v1) k2 v2 } :=
  fun u hu => memPut_wf (memPut_wf hu k1 v1) k2 v2

theorem noted_keeps (c : Cmd) {x : List (Nat × Trap × Nat) × (State → State)} (h : Keeps x.2) : Keeps (noted c x).2 :=
  fun u hu => h _ (by simpa using hu)

theorem writeEffect_keeps (s : State) (c : Cmd) (w : UWrite) : Keeps (writeEffect s c w).2 := by
  cases h : w.act <;> simp only [writeEffect, h]
  case elems => exact unitCells_keeps _ _ _ _
  case tiles => exact unitCells_keeps _ _ _ _
  case scan => exact unitCells_keeps _ _ _ _
  case push =>
    split
    · exact keeps_id
    · exact noted_keeps _ (unitCells_keeps _ _ _ _)
  case head => exact noted_keeps _ (unitCells_keeps _ _ _ _)
  case cells => exact keeps_of_mem fun u => accPut_mem _ _ _ _ _
  case accRow => exact keeps_of_mem fun u => putTileRow_mem _ _ _ _ _
  case heel => exact fun u hu => putImageRow_wf u _ _ _ _ hu
  all_goals exact keeps_id

@[simp] theorem orFlags_mem (s : State) (fl : Nat) :
    (orFlags s fl).mem = s.mem := by
  unfold orFlags
  rfl

@[simp] theorem doWrite_wf (s : State) (t : Nat) (w : UWrite) (l : List (Req × Option (Nat × Req)))
    (h_ : s.mem.wf = true) : (doWrite s t w l).mem.wf = true := by
  unfold doWrite
  split
  · exact h_
  · split
    · exact h_
    · dsimp only
      split
      · simp [h_]
      · have := writeEffect_keeps s ‹Cmd› w (s.up fun x => { x with uws := x.uws.erase w }) (by simp [h_])
        split <;> split <;> (try rw [charge_mem]) <;> (try rw [orFlags_mem]) <;> exact this

@[simp] theorem unitDone_mem (s : State) (e : Fin 3) (c : Cmd) (p : Perf) (next : Nat) :
    (unitDone s e c p next).mem = s.mem := by
  unfold unitDone
  simp

@[simp] theorem readStep_mem (s : State) (e : Fin 3) (c : Cmd) (t : Nat) (last : Bool) (cs : List (Nat × Trap × Nat)) (p : Perf)
    (next : Nat) : (readStep s e c t last cs p next).mem = s.mem := by
  unfold readStep
  dsimp only
  split
  · split <;> simp
  · simp

@[simp] theorem undoQinit_wf (s : State) (a : Nat) (bs : List Byte) (syn : BitVec 16) (cids : List Nat) (h_ : s.mem.wf = true) :
    (undoQinit s a bs syn cids).mem.wf = true := by
  unfold undoQinit
  simp [*]

@[simp] theorem doVread_mem (s : State) (t id i : Nat) (lane : Option Nat) (l : List (Req × Option (Nat × Req))) :
    (doVread s t id i lane l).mem = s.mem := by
  unfold doVread
  (repeat' split) <;> (try simp (maxDischargeDepth := 60) [*]) <;> (repeat' split) <;>
    (try simp (maxDischargeDepth := 60) [*]) <;> try simp_all (maxDischargeDepth := 60)

@[simp] theorem doGather_mem (s : State) (t id : Nat) (l : List (Req × Option (Nat × Req))) :
    (doGather s t id l).mem = s.mem := by
  unfold doGather
  (repeat' split) <;> (try simp (maxDischargeDepth := 60) [*]) <;> (repeat' split) <;>
    (try simp (maxDischargeDepth := 60) [*]) <;> try simp_all (maxDischargeDepth := 60)

@[simp] theorem doXread_mem (s : State) (t id : Nat) (l : List (Req × Option (Nat × Req))) :
    (doXread s t id l).mem = s.mem := by
  unfold doXread
  (repeat' split) <;> (try simp (maxDischargeDepth := 60) [*]) <;> (repeat' split) <;>
    (try simp (maxDischargeDepth := 60) [*]) <;> try simp_all (maxDischargeDepth := 60)

@[simp] theorem doCread_wf (s : State) (t id : Nat) (l : List (Req × Option (Nat × Req)))
    (h_ : s.mem.wf = true) : (doCread s t id l).mem.wf = true := by
  unfold doCread
  split
  · exact h_
  · split
    · exact h_
    · rename_i c _ _ p hp
      split
      · simp [h_]
      · refine cPerform_keeps s c (t - c.base) p ?_ _ (by simp [h_])
        split at hp
        · exact hp
        · cases hp

@[simp] theorem doTouch_wf (s : State) (t : Nat) (x : Touch) (l : List (Req × Option (Nat × Req))) (h_ : s.mem.wf = true) :
    (doTouch s t x l).mem.wf = true := by
  unfold doTouch
  (repeat' split) <;> simp [*]

@[simp] theorem doLane_wf (s : State) (t : Nat) (c : LaneCmd) (wr : Bool) (l : List (Req × Option (Nat × Req))) (h_ : s.mem.wf = true) :
    (doLane s t c wr l).mem.wf = true := by
  unfold doLane
  (repeat' split) <;> simp [*]

@[simp] theorem doLoads_mem (s : State) (t : Nat) :
    (doLoads s t).mem = s.mem := by
  unfold doLoads
  rfl

@[simp] theorem doWork_wf (s : State) (t : Nat) (w : Work) (l : List (Req × Option (Nat × Req))) (h_ : s.mem.wf = true) :
    (doWork s t w l).mem.wf = true := by
  unfold doWork
  split <;> simp [*]

@[simp] theorem doCycle_wf (s : State) (t : Nat) (h_ : s.mem.wf = true) :
    (doCycle s t).mem.wf = true := by
  unfold doCycle
  (repeat' split) <;> (try simp (maxDischargeDepth := 60) [*]) <;> (repeat' split) <;>
    (try simp (maxDischargeDepth := 60) [*]) <;> try simp_all (maxDischargeDepth := 60)

@[simp] theorem standStill_mem (s : State) (k : Nat) : (standStill s k).mem = s.mem := rfl

@[simp] theorem engineCycle_wf (s : State) (h_ : s.mem.wf = true) :
    (engineCycle s).mem.wf = true := by
  unfold engineCycle
  (repeat' split) <;> (try simp (maxDischargeDepth := 60) [*]) <;> (repeat' split) <;>
    (try simp (maxDischargeDepth := 60) [*]) <;> try simp_all (maxDischargeDepth := 60)

@[simp] theorem freeEntries_mem (s : State) (t : Nat) :
    (freeEntries s t).mem = s.mem := by
  unfold freeEntries
  rfl

@[simp] theorem startCmd_mem (s : State) (e : Fin 3) (k : Cmd) (t : Nat) :
    (startCmd s e k t).mem = s.mem := by
  unfold startCmd
  rfl

@[simp] theorem startAll_mem (s : State) (t : Nat) :
    (startAll s t).mem = s.mem := by
  unfold startAll
  (repeat' split) <;> (try simp (maxDischargeDepth := 60) [*]) <;> (repeat' split) <;>
    (try simp (maxDischargeDepth := 60) [*]) <;> try simp_all (maxDischargeDepth := 60)

/-! ## Machine/Fabric.lean -/

@[simp] theorem updPiece_mem (s : State) (id : Nat) (f : Piece → Piece) :
    (updPiece s id f).mem = s.mem := by
  unfold updPiece
  rfl

@[simp] theorem dropPiece_mem (s : State) (id : Nat) :
    (dropPiece s id).mem = s.mem := by
  unfold dropPiece
  rfl

@[simp] theorem updSrc_mem (s : State) (src : Nat) (f : Ctx → Ctx) :
    (updSrc s src f).mem = s.mem := by
  unfold updSrc
  rfl

@[simp] theorem chargeTo_mem (s : State) (src pj : Nat) :
    (chargeTo s src pj).mem = s.mem := by
  unfold chargeTo
  (repeat' split) <;> simp [*]

@[simp] theorem pieceDone_mem (s : State) (p : Piece) :
    (pieceDone s p).mem = s.mem := by
  unfold pieceDone
  simp

@[simp] theorem pageReq_mem (s : State) (sid : Nat) (va : Word) (kind intent status cid src : Nat) (wid : Word) (keep : Bool) :
    (pageReq s sid va kind intent status cid src wid keep).mem = s.mem := by
  unfold pageReq
  simp

@[simp] theorem parkPiece_mem (s : State) (p : Piece) :
    (parkPiece s p).mem = s.mem := by
  unfold parkPiece
  simp

@[simp] theorem refusePiece_mem (s : State) (p : Piece) :
    (refusePiece s p).mem = s.mem := by
  unfold refusePiece
  rfl

@[simp] theorem setEntry_mem (s : State) (va : Nat) (f : Word → Word) :
    (setEntry s va f).mem = s.mem := by
  unfold setEntry
  split <;> simp

@[simp] theorem expandPage_wf (s : State) (form home va key n : Nat) (h_ : s.mem.wf = true) :
    (expandPage s form home va key n).mem.wf = true := by
  unfold expandPage
  (repeat' split) <;> (try dsimp only) <;> simp (maxDischargeDepth := 60) [*]

@[simp] theorem putHomeSyn_mem (s : State) (key n : Nat) (syn : List (BitVec 16)) :
    (putHomeSyn s key n syn).mem = s.mem := by
  unfold putHomeSyn
  rfl

@[simp] theorem enterService_mem (s : State) (p : Piece) :
    (enterService s p).mem = s.mem := by
  unfold enterService
  split <;> rfl

@[simp] theorem performPiece_wf (s : State) (p : Piece) (home key : Nat) (h_ : s.mem.wf = true) :
    (performPiece s p home key).mem.wf = true := by
  unfold performPiece
  (repeat' split) <;> simp [*]

@[simp] theorem execPieceAtHome_wf (pc : Nat) (s : State) (h_ : s.mem.wf = true) :
    OutWf (execPieceAtHome pc s) := by
  unfold execPieceAtHome
  (repeat' split) <;> simp [*]

@[simp] theorem execFarPieceRefusal_mem (pc : Nat) (s : State) (u_ : State) (h_ : s.mem = u_.mem) :
    OutMem u_ (execFarPieceRefusal pc s) := by
  unfold execFarPieceRefusal
  split <;> simp [*]

@[simp] theorem performAtom_wf (s : State) (p : Piece) (home key : Nat) (op : Fin 8) (f : Nat) (cmp : List Byte) (ret : Bool)
    (h_ : s.mem.wf = true) : (performAtom s p home key op f cmp ret).mem.wf = true := by
  unfold performAtom
  simp [*]

@[simp] theorem execAtomAtHome_wf (pc : Nat) (s : State) (h_ : s.mem.wf = true) :
    OutWf (execAtomAtHome pc s) := by
  unfold execAtomAtHome
  (repeat' split) <;> simp [*]

@[simp] theorem execFillArrival_wf (pc : Nat) (s : State) (h_ : s.mem.wf = true) :
    OutWf (execFillArrival pc s) := by
  unfold execFillArrival
  (repeat' split) <;> (try simp (maxDischargeDepth := 60) [*]) <;> (repeat' split) <;>
    (try simp (maxDischargeDepth := 60) [*]) <;> try simp_all (maxDischargeDepth := 60)

@[simp] theorem placeWrites_mem (s : State) (src unit n : Nat) :
    (placeWrites s src unit n).mem = s.mem := by
  unfold placeWrites
  simp

@[simp] theorem execPublicationCompletion_mem (src : Nat) (s : State) (u_ : State) (h_ : s.mem = u_.mem) :
    OutMem u_ (execPublicationCompletion src s) := by
  unfold execPublicationCompletion
  (repeat' split) <;> simp [*]

@[simp] theorem raiseAt_mem (s : State) (rs : List Ctx) (t : Ctx → Trap) :
    (raiseAt s rs t).mem = s.mem := by
  unfold raiseAt
  dsimp only
  split <;> simp

@[simp] theorem landDelivery_wf (s : State) (p : Piece) (rs : List Ctx) (h_ : s.mem.wf = true) :
    (landDelivery s p rs).mem.wf = true := by
  unfold landDelivery
  dsimp only
  (repeat' split) <;> simp (maxDischargeDepth := 60) [*]

@[simp] theorem execDeliveryLanding_wf (pc : Nat) (s : State) (h_ : s.mem.wf = true) :
    OutWf (execDeliveryLanding pc s) := by
  unfold execDeliveryLanding
  (repeat' split) <;> (try simp (maxDischargeDepth := 60) [*]) <;> (repeat' split) <;>
    (try simp (maxDischargeDepth := 60) [*]) <;> try simp_all (maxDischargeDepth := 60)

@[simp] theorem execTargetRefusal_mem (pc : Nat) (s : State) (u_ : State) (h_ : s.mem = u_.mem) :
    OutMem u_ (execTargetRefusal pc s) := by
  unfold execTargetRefusal
  (repeat' split) <;> (try simp (maxDischargeDepth := 60) [*]) <;> (repeat' split) <;>
    (try simp (maxDischargeDepth := 60) [*]) <;> try simp_all (maxDischargeDepth := 60)

@[simp] theorem execCopyCompletion_mem (cid cmd : Nat) (s : State) (u_ : State) (h_ : s.mem = u_.mem) :
    OutMem u_ (execCopyCompletion cid cmd s) := by
  unfold execCopyCompletion
  split <;> simp [*]

@[simp] theorem execPromiseMissed_mem (cid : Nat) (s : State) (u_ : State) (h_ : s.mem = u_.mem) :
    OutMem u_ (execPromiseMissed cid s) := by
  unfold execPromiseMissed
  (repeat' split) <;> simp [*]

@[simp] theorem execKeepWaitingNotice_mem (cid cmd : Nat) (s : State) (u_ : State) (h_ : s.mem = u_.mem) :
    OutMem u_ (execKeepWaitingNotice cid cmd s) := by
  unfold execKeepWaitingNotice
  simp [*]

@[simp] theorem execBarRelease_mem (cid : Nat) (s : State) (u_ : State) (h_ : s.mem = u_.mem) :
    OutMem u_ (execBarRelease cid s) := by
  unfold execBarRelease
  (repeat' split) <;> simp [*]

@[simp] theorem landColl_wf (s : State) (d : Ctx) (k : Cmd) (vs : List Nat) (fl : Nat) (h_ : s.mem.wf = true) :
    (landColl s d k vs fl).mem.wf = true := by
  unfold landColl
  (repeat' split) <;> (try simp (maxDischargeDepth := 60) [*]) <;> (repeat' split) <;>
    (try simp (maxDischargeDepth := 60) [*]) <;> try simp_all (maxDischargeDepth := 60)

@[simp] theorem collCombine_wf (s : State) (c : Ctx) (k : Cmd) (h_ : s.mem.wf = true) :
    (collCombine s c k).mem.wf = true := by
  unfold collCombine
  (repeat' split) <;> (try simp (maxDischargeDepth := 60) [*]) <;> (repeat' split) <;>
    (try simp (maxDischargeDepth := 60) [*]) <;> try simp_all (maxDischargeDepth := 60)

@[simp] theorem execCollCombine_wf (cid : Nat) (s : State) (h_ : s.mem.wf = true) :
    OutWf (execCollCombine cid s) := by
  unfold execCollCombine
  (repeat' split) <;> simp [*]

@[simp] theorem releaseStall_mem (s : State) (cid k : Nat) :
    (releaseStall s cid k).mem = s.mem := by
  unfold releaseStall
  split <;> simp [*]

@[simp] theorem execVpushStallRelease_mem (cid : Nat) (s : State) (u_ : State) (h_ : s.mem = u_.mem) :
    OutMem u_ (execVpushStallRelease cid s) := by
  unfold execVpushStallRelease
  simp [*]

@[simp] theorem execQlnchQueueRoom_mem (cid : Nat) (s : State) (u_ : State) (h_ : s.mem = u_.mem) :
    OutMem u_ (execQlnchQueueRoom cid s) := by
  unfold execQlnchQueueRoom
  simp [*]

@[simp] theorem execWtakeRelease_mem (cid : Nat) (s : State) (u_ : State) (h_ : s.mem = u_.mem) :
    OutMem u_ (execWtakeRelease cid s) := by
  unfold execWtakeRelease
  simp [*]

@[simp] theorem execWdepthRelease_mem (cid : Nat) (s : State) (u_ : State) (h_ : s.mem = u_.mem) :
    OutMem u_ (execWdepthRelease cid s) := by
  unfold execWdepthRelease
  simp [*]

@[simp] theorem execMissedOperandRelease_mem (cid : Nat) (s : State) (u_ : State) (h_ : s.mem = u_.mem) :
    OutMem u_ (execMissedOperandRelease cid s) := by
  unfold execMissedOperandRelease
  (repeat' split) <;> simp [*]

/-! ## Machine/Roles.lean -/

@[simp] theorem parkNow_wf (s : State) (h_ : s.mem.wf = true) :
    (parkNow s).mem.wf = true := by
  unfold parkNow
  simp [*]

@[simp] theorem clearArea_wf (s : State) (u : Nat) (h_ : s.mem.wf = true) :
    (clearArea s u).mem.wf = true := by
  unfold clearArea
  (repeat' split) <;> simp (maxDischargeDepth := 60) [*]

@[simp] theorem saveFile_wf (s : State) (c : Ctx) (h_ : s.mem.wf = true) :
    (saveFile s c).mem.wf = true := by
  unfold saveFile
  simp (maxDischargeDepth := 60) [*]

@[simp] theorem loadFile_mem (s : State) (c : Ctx) (k : Nat) :
    (loadFile s c k).mem = s.mem := by
  unfold loadFile
  rfl

@[simp] theorem restoreFile_wf (s : State) (c : Ctx) (h_ : s.mem.wf = true) :
    (restoreFile s c).mem.wf = true := by
  unfold restoreFile
  dsimp only
  (repeat' split) <;> simp (maxDischargeDepth := 60) [*]

@[simp] theorem switchFile_wf (s : State) (c : Ctx) (h_ : s.mem.wf = true) :
    (switchFile s c).mem.wf = true := by
  unfold switchFile
  (repeat' split) <;> (try simp (maxDischargeDepth := 60) [*]) <;> (repeat' split) <;>
    (try simp (maxDischargeDepth := 60) [*]) <;> try simp_all (maxDischargeDepth := 60)

@[simp] theorem startTask_mem (s : State) :
    (startTask s).mem = s.mem := by
  unfold startTask
  simp

@[simp] theorem resumeRing_mem (s : State) : (resumeRing s).mem = s.mem := by
  unfold resumeRing
  split
  · exact foldl_mem (fun _ _ => by simp) _ _
  · rfl

@[simp] theorem takeRole_wf (s : State) (c : Ctx) (h_ : s.mem.wf = true) :
    (takeRole s c).mem.wf = true := by
  unfold takeRole
  simp [*]

@[simp] theorem fillRole_wf (s : State) (u : Nat) (h_ : s.mem.wf = true) :
    (fillRole s u).mem.wf = true := by
  unfold fillRole
  (repeat' split) <;> simp [*]

@[simp] theorem fillRoles_wf (s : State) (u : Nat) (h_ : s.mem.wf = true) :
    (fillRoles s u).mem.wf = true := by
  unfold fillRoles
  simp [*]

/-! ## Machine/Launch.lean -/

@[simp] theorem nextHead_mem (s : State) (q base : Nat) :
    (nextHead s q base).mem = s.mem := by
  unfold nextHead
  rfl

@[simp] theorem unbindQueue_mem (s : State) (q : Nat) :
    (unbindQueue s q).mem = s.mem := by
  unfold unbindQueue
  rfl

@[simp] theorem completeLaunch_mem (s : State) (l : Launch) (body : List Byte) :
    (completeLaunch s l body).mem = s.mem := by
  unfold completeLaunch
  simp

@[simp] theorem rejectLaunch_mem (s : State) (l : Launch) (status : Nat) (i0 : Word) :
    (rejectLaunch s l status i0).mem = s.mem := by
  unfold rejectLaunch
  simp

@[simp] theorem routeLaunch_mem (s : State) (l : Launch) :
    (routeLaunch s l).mem = s.mem := by
  unfold routeLaunch
  rfl

@[simp] theorem changeSeed_mem (s : State) (lid : Nat) (seed : Word) :
    (changeSeed s lid seed).mem = s.mem := by
  unfold changeSeed
  simp

@[simp] theorem execRegisterWrite_wf (r : RegTarget) (val : Word) (s : State) (h_ : s.mem.wf = true) :
    OutWf (execRegisterWrite r val s) := by
  unfold execRegisterWrite
  split <;> simp [*]

@[simp] theorem execRouterTableSwitch_mem (s : State) (u_ : State) (h_ : s.mem = u_.mem) :
    OutMem u_ (execRouterTableSwitch s) := by
  unfold execRouterTableSwitch
  simp [*]

@[simp] theorem loadRecords_wf (s : State) (l : Launch) (u : Nat) (h_ : s.mem.wf = true) :
    (loadRecords s l u).mem.wf = true := by
  unfold loadRecords
  (repeat' split) <;> (try simp (maxDischargeDepth := 60) [*]) <;> (repeat' split) <;>
    (try simp (maxDischargeDepth := 60) [*]) <;> try simp_all (maxDischargeDepth := 60)

@[simp] theorem admitTask_wf (s : State) (l : Launch) (o u : Nat) (h_ : s.mem.wf = true) :
    (admitTask s l o u).mem.wf = true := by
  unfold admitTask
  simp [*]

@[simp] theorem startRing_mem (s : State) (l : Launch) (ts : List (Nat × Nat)) :
    (startRing s l ts).mem = s.mem := by
  unfold startRing
  split <;> rfl

@[simp] theorem markBubbles_mem (s : State) (kept : List (Nat × Nat)) :
    (markBubbles s kept).mem = s.mem := by
  unfold markBubbles
  rfl

@[simp] theorem requestPreempt_mem (s : State) (p : Ctx → Bool) :
    (requestPreempt s p).mem = s.mem := by
  unfold requestPreempt
  rfl

@[simp] theorem admitGang_wf (s : State) (l : Launch) (ts : List (Nat × Nat)) (h_ : s.mem.wf = true) :
    (admitGang s l ts).mem.wf = true := by
  unfold admitGang
  (repeat' split) <;> (try simp (maxDischargeDepth := 60) [*]) <;> (repeat' split) <;>
    (try simp (maxDischargeDepth := 60) [*]) <;> try simp_all (maxDischargeDepth := 60)

/-- Both answers of the first admission leave memory as it is. -/
theorem firstAdmission_mem (s t : State) (l : Launch) (h : firstAdmission s l = .ok t ∨ firstAdmission s l = .error t) :
    t.mem = s.mem := by
  unfold firstAdmission at h
  split at h
  · rcases h with h | h <;> cases h; rfl
  · split at h <;> rcases h with h | h <;> cases h <;> simp

@[simp] theorem execGangAdmission_wf (s : State) (h_ : s.mem.wf = true) : OutWf (execGangAdmission s) := by
  unfold execGangAdmission
  dsimp only
  split
  · split
    · simp [h_]
    · split <;> rename_i h
      · simp [firstAdmission_mem _ _ _ (.inr h), h_]
      · simp [firstAdmission_mem _ _ _ (.inl h), h_]
  · split
    · simp [h_]
    · split
      · simp [h_]
      · split
        · simp [h_]
        · split <;> rename_i h
          · simp [firstAdmission_mem _ _ _ (.inr h), h_]
          · simp [firstAdmission_mem _ _ _ (.inl h), h_]

@[simp] theorem execQueueAgeing_mem (q : Nat) (s : State) (u_ : State) (h_ : s.mem = u_.mem) :
    OutMem u_ (execQueueAgeing q s) := by
  unfold execQueueAgeing
  split <;> simp [*]

@[simp] theorem endClaim_wf (s : State) (a : Nat) (h_ : s.mem.wf = true) :
    (endClaim s a).mem.wf = true := by
  unfold endClaim
  (repeat' split) <;> simp (maxDischargeDepth := 60) [*]

@[simp] theorem freeCtx_wf (s : State) (h_ : s.mem.wf = true) :
    (freeCtx s).mem.wf = true := by
  unfold freeCtx
  (repeat' split) <;> (try simp (maxDischargeDepth := 60) [*]) <;> (repeat' split) <;>
    (try simp (maxDischargeDepth := 60) [*]) <;> try simp_all (maxDischargeDepth := 60)

@[simp] theorem dropOpenPhase_mem (s : State) :
    (dropOpenPhase s).mem = s.mem := by
  unfold dropOpenPhase
  rfl

@[simp] theorem execTaskRetirement_wf (cid : Nat) (s : State) (h_ : s.mem.wf = true) :
    OutWf (execTaskRetirement cid s) := by
  unfold execTaskRetirement
  (repeat' split) <;> simp [*]

@[simp] theorem logitTaken_wf (s : State) (h_ : s.mem.wf = true) :
    (logitTaken s).mem.wf = true := by
  unfold logitTaken
  split <;> simp [*]

@[simp] theorem execLogitFault_wf (cid : Nat) (s : State) (h_ : s.mem.wf = true) :
    OutWf (execLogitFault cid s) := by
  unfold execLogitFault
  (repeat' split) <;> simp [*]

@[simp] theorem execLaunchCompletion_mem (lid : Nat) (s : State) (u_ : State) (h_ : s.mem = u_.mem) :
    OutMem u_ (execLaunchCompletion lid s) := by
  unfold execLaunchCompletion
  split <;> simp [*]

/-! ## Machine/Sched.lean -/

@[simp] theorem execTimerExpiry_mem (cid : Nat) (s : State) (u_ : State) (h_ : s.mem = u_.mem) :
    OutMem u_ (execTimerExpiry cid s) := by
  unfold execTimerExpiry
  split <;> simp [*]

@[simp] theorem execSliceExpiry_mem (cid : Nat) (s : State) (u_ : State) (h_ : s.mem = u_.mem) :
    OutMem u_ (execSliceExpiry cid s) := by
  unfold execSliceExpiry
  split <;> simp [*]

@[simp] theorem execPreemptLate_mem (cid : Nat) (s : State) (u_ : State) (h_ : s.mem = u_.mem) :
    OutMem u_ (execPreemptLate cid s) := by
  unfold execPreemptLate
  split <;> simp [*]

@[simp] theorem setHeld_mem (s : State) (cid level : Nat) :
    (setHeld s cid level).mem = s.mem := by
  unfold setHeld
  rfl

@[simp] theorem execPwraGrant_mem (upper : Bool) (s : State) (u_ : State) (h_ : s.mem = u_.mem) :
    OutMem u_ (execPwraGrant upper s) := by
  unfold execPwraGrant
  split <;> simp [*]

@[simp] theorem execStaticChargeTick_mem (unit : Nat) (s : State) (u_ : State) (h_ : s.mem = u_.mem) :
    OutMem u_ (execStaticChargeTick unit s) := by
  unfold execStaticChargeTick
  simp [*]

@[simp] theorem criticalHeat_wf (s : State) (isl : Nat) (h_ : s.mem.wf = true) :
    (criticalHeat s isl).mem.wf = true := by
  unfold criticalHeat
  simp [*]

@[simp] theorem execThermalSample_wf (temps : List (Nat × Nat)) (s : State) (h_ : s.mem.wf = true) :
    OutWf (execThermalSample temps s) := by
  unfold execThermalSample
  (repeat' split) <;> (try simp (maxDischargeDepth := 60) [*]) <;> (repeat' split) <;>
    (try simp (maxDischargeDepth := 60) [*]) <;> try simp_all (maxDischargeDepth := 60)

@[simp] theorem execOpSwitchQuiesce_mem (unit : Nat) (s : State) (u_ : State) (h_ : s.mem = u_.mem) :
    OutMem u_ (execOpSwitchQuiesce unit s) := by
  unfold execOpSwitchQuiesce
  (repeat' split) <;> (try simp (maxDischargeDepth := 60) [*]) <;> (repeat' split) <;>
    (try simp (maxDischargeDepth := 60) [*]) <;> try simp_all (maxDischargeDepth := 60)

@[simp] theorem execOpSwitchSettled_mem (unit : Nat) (s : State) (u_ : State) (h_ : s.mem = u_.mem) :
    OutMem u_ (execOpSwitchSettled unit s) := by
  unfold execOpSwitchSettled
  (repeat' split) <;> (try simp (maxDischargeDepth := 60) [*]) <;> (repeat' split) <;>
    (try simp (maxDischargeDepth := 60) [*]) <;> try simp_all (maxDischargeDepth := 60)

@[simp] theorem watchdogFatal_wf (s : State) (cid kind count : Nat) (h_ : s.mem.wf = true) :
    (watchdogFatal s cid kind count).mem.wf = true := by
  unfold watchdogFatal
  simp [*]

@[simp] theorem execHangWatchdogExpiry_wf (cid : Nat) (s : State) (h_ : s.mem.wf = true) :
    OutWf (execHangWatchdogExpiry cid s) := by
  unfold execHangWatchdogExpiry
  split <;> simp [*]

@[simp] theorem execWaitWatchdogExpiry_wf (cid : Nat) (s : State) (h_ : s.mem.wf = true) :
    OutWf (execWaitWatchdogExpiry cid s) := by
  unfold execWaitWatchdogExpiry
  split <;> simp [*]

@[simp] theorem dropLane_mem (s : State) (port : Nat) :
    (dropLane s port).mem = s.mem := by
  unfold dropLane
  simp

@[simp] theorem retireUnit_mem (s : State) (x : SelfTest) :
    (retireUnit s x).mem = s.mem := by
  unfold retireUnit
  split <;> simp [*]

@[simp] theorem classifyWaiting_mem (s : State) (x : SelfTest) (pass : Bool) :
    (classifyWaiting s x pass).mem = s.mem := rfl

@[simp] theorem classifyTrapped_wf (s : State) (x : SelfTest) (pass : Bool) (h_ : s.mem.wf = true) :
    (classifyTrapped s x pass).mem.wf = true := by
  unfold classifyTrapped
  refine foldl_wf (fun u cid hu => ?_) _ h_
  dsimp only
  split
  · exact takeClass_wf _ _ _ _ _ _ _ (by simpa using hu)
  · exact logEntry_wf _ _ _ _ _ _ _ _ hu

@[simp] theorem logQuiet_wf (s : State) (x : SelfTest) (pass : Bool) (h_ : s.mem.wf = true) :
    (logQuiet s x pass).mem.wf = true := by
  unfold logQuiet
  split <;> simp [*]

@[simp] theorem testPassed_wf (s : State) (x : SelfTest) (h_ : s.mem.wf = true) : (testPassed s x).mem.wf = true := by
  unfold testPassed
  simp [*]

@[simp] theorem testFailed_wf (s : State) (x : SelfTest) (h_ : s.mem.wf = true) : (testFailed s x).mem.wf = true := by
  unfold testFailed
  simp [*]

@[simp] theorem execSelfTestEnd_wf (test : Nat) (pass : Bool) (s : State) (h_ : s.mem.wf = true) :
    OutWf (execSelfTestEnd test pass s) := by
  unfold execSelfTestEnd
  (repeat' split) <;> simp [*]

@[simp] theorem execLinkError_mem (ukind unit idx : Nat) (s : State) (u_ : State) (h_ : s.mem = u_.mem) :
    OutMem u_ (execLinkError ukind unit idx s) := by
  unfold execLinkError
  simp [*]

@[simp] theorem serveEnergy_wf (s : State) (cid imm : Nat) (f : State → Nat) (h_ : s.mem.wf = true) :
    (serveEnergy s cid imm f).mem.wf = true := by
  unfold serveEnergy
  split
  · exact h_
  · split <;> simp [*]

@[simp] theorem execSvcSetEnergy_wf (cid : Nat) (s : State) (h_ : s.mem.wf = true) :
    OutWf (execSvcSetEnergy cid s) := by
  unfold execSvcSetEnergy
  simp [*]

@[simp] theorem execSvcClearEnergyFlag_wf (cid : Nat) (s : State) (h_ : s.mem.wf = true) :
    OutWf (execSvcClearEnergyFlag cid s) := by
  unfold execSvcClearEnergyFlag
  simp [*]

@[simp] theorem execCtxcmdResume_mem (cid : Nat) (s : State) (u_ : State) (h_ : s.mem = u_.mem) :
    OutMem u_ (execCtxcmdResume cid s) := by
  unfold execCtxcmdResume
  simp [*]

@[simp] theorem execCtxcmdEndTask_wf (cid : Nat) (s : State) (h_ : s.mem.wf = true) :
    OutWf (execCtxcmdEndTask cid s) := by
  unfold execCtxcmdEndTask
  split <;> simp [*]

@[simp] theorem execCtxcmdPark_wf (cid : Nat) (s : State) (h_ : s.mem.wf = true) :
    OutWf (execCtxcmdPark cid s) := by
  unfold execCtxcmdPark
  (repeat' split) <;> (try simp (maxDischargeDepth := 60) [*]) <;> (repeat' split) <;>
    (try simp (maxDischargeDepth := 60) [*]) <;> try simp_all (maxDischargeDepth := 60)

@[simp] theorem moveRegion_wf (s : State) (a b n : Nat) (h_ : s.mem.wf = true) :
    (moveRegion s a b n).mem.wf = true := by
  unfold moveRegion
  simp [*]

@[simp] theorem renumber_mem (s : State) (a b : Nat) (out : Bool) :
    (renumber s a b out).mem = s.mem := by
  unfold renumber
  rfl

@[simp] theorem swapOutFile_wf (s : State) (c : Ctx) (h_ : s.mem.wf = true) :
    (swapOutFile s c).mem.wf = true := by
  unfold swapOutFile
  (repeat' split) <;> simp (maxDischargeDepth := 60) [*]

@[simp] theorem swapInFile_mem (s : State) (c : Ctx) :
    (swapInFile s c).mem = s.mem := by
  unfold swapInFile
  split <;> simp

@[simp] theorem swapOutCtx_wf (s : State) (c : Ctx) (h_ : s.mem.wf = true) :
    (swapOutCtx s c).mem.wf = true := by
  unfold swapOutCtx
  simp (maxDischargeDepth := 60) [*]

@[simp] theorem execPartitionSwapOut_wf (us : List Nat) (s : State) (h_ : s.mem.wf = true) :
    OutWf (execPartitionSwapOut us s) := by
  unfold execPartitionSwapOut
  (repeat' split) <;> (try simp (maxDischargeDepth := 60) [*]) <;> (repeat' split) <;>
    (try simp (maxDischargeDepth := 60) [*]) <;> try simp_all (maxDischargeDepth := 60)

@[simp] theorem swapInCtx_wf (s : State) (c : Ctx) (h_ : s.mem.wf = true) :
    (swapInCtx s c).mem.wf = true := by
  unfold swapInCtx
  simp (maxDischargeDepth := 60) [*]

@[simp] theorem execPartitionSwapIn_wf (us : List Nat) (s : State) (h_ : s.mem.wf = true) :
    OutWf (execPartitionSwapIn us s) := by
  unfold execPartitionSwapIn
  (repeat' split) <;> (try simp (maxDischargeDepth := 60) [*]) <;> (repeat' split) <;>
    (try simp (maxDischargeDepth := 60) [*]) <;> try simp_all (maxDischargeDepth := 60)

/-! ## Machine/Host.lean -/

@[simp] theorem sendBare_mem (s : State) (type : Nat) (body : List Byte) :
    (sendBare s type body).mem = s.mem := by
  unfold sendBare
  rfl

@[simp] theorem bindQueues_mem (s : State) (sid q n : Nat) :
    (bindQueues s sid q n).mem = s.mem := by
  unfold bindQueues
  rfl

@[simp] theorem acceptOpen_mem (s : State) (b : List Byte) :
    (acceptOpen s b).mem = s.mem := by
  unfold acceptOpen
  rfl

@[simp] theorem execOpenSession_mem (body : List (BitVec 8)) (s : State) (u_ : State) (h_ : s.mem = u_.mem) :
    OutMem u_ (execOpenSession body s) := by
  unfold execOpenSession
  split <;> simp [*]

@[simp] theorem answerProbe_mem (s : State) (r : PageReq) (status : Nat) :
    (answerProbe s r status).mem = s.mem := by
  unfold answerProbe
  (repeat' split) <;> simp [*]

@[simp] theorem unparkPieces_mem (s : State) (home : Nat) : (unparkPieces s home).mem = s.mem := rfl

@[simp] theorem failPiece_mem (s : State) (id : Nat) :
    (failPiece s id).mem = s.mem := by
  unfold failPiece
  exact foldl_mem (fun t x => by split <;> simp) _ _

@[simp] theorem answerReq_mem (s : State) (r : PageReq) (status : Nat) :
    (answerReq s r status).mem = s.mem := by
  unfold answerReq
  dsimp only
  split
  · simp
  · split
    · split
      · cases faultHome { s with host := { s.host with preqs := s.host.preqs.erase r } } r <;> simp
      · simp
    · rfl

@[simp] theorem closeNow_mem (s : State) (sid : Nat) :
    (closeNow s sid).mem = s.mem := by
  unfold closeNow
  dsimp only
  rw [foldl_mem (fun _ _ => unbindQueue_mem _ _)]
  dsimp only
  rw [foldl_mem (fun _ _ => cancelSlot_mem _ _), foldl_mem (fun _ _ => answerReq_mem _ _ _), foldl_mem (fun _ _ => nextHead_mem _ _ _)]

@[simp] theorem execCloseSession_mem (sid : Nat) (s : State) (u_ : State) (h_ : s.mem = u_.mem) :
    OutMem u_ (execCloseSession sid s) := by
  unfold execCloseSession
  split <;> simp [*]

@[simp] theorem execAck_mem (sid sq : Nat) (s : State) (u_ : State) (h_ : s.mem = u_.mem) :
    OutMem u_ (execAck sid sq s) := by
  unfold execAck
  simp [*]

@[simp] theorem closeByDevice_mem (s : State) (x : Session) :
    (closeByDevice s x).mem = s.mem := by
  unfold closeByDevice
  simp

@[simp] theorem execRetransmit_mem (sid sq : Nat) (s : State) (u_ : State) (h_ : s.mem = u_.mem) :
    OutMem u_ (execRetransmit sid sq s) := by
  unfold execRetransmit
  (repeat' split) <;> simp [*]

@[simp] theorem takePacket_mem (s : State) (dg : List Byte) :
    (takePacket s dg).mem = s.mem := by
  unfold takePacket
  (repeat' split) <;> (try simp (maxDischargeDepth := 60) [*]) <;> (repeat' split) <;>
    (try simp (maxDischargeDepth := 60) [*]) <;> try simp_all (maxDischargeDepth := 60)

@[simp] theorem execVctDatagramDiscard_mem (dg : List (BitVec 8)) (s : State) (u_ : State) (h_ : s.mem = u_.mem) :
    OutMem u_ (execVctDatagramDiscard dg s) := by
  unfold execVctDatagramDiscard
  (repeat' split) <;> simp [*]

@[simp] theorem hostWrite_wf (s : State) (x : Session) (va : Nat) (bs : List Byte) (h_ : s.mem.wf = true) :
    (hostWrite s x va bs).mem.wf = true := by
  unfold hostWrite
  refine foldl_wf (fun u y hu => ?_) _ h_
  obtain ⟨a, o, n⟩ := y
  dsimp only
  split
  · exact hu
  · exact foldl_wf (fun v z hv => by rw [startTest_mem]; exact hv) _ (expandPage_wf _ _ _ _ _ _ hu)

@[simp] theorem hostCount_mem (s : State) (va n : Nat) (i : Intent) :
    (hostCount s va n i).mem = s.mem := by
  unfold hostCount
  exact foldl_mem (fun t x => by obtain ⟨a, o, n⟩ := x; dsimp only; split <;> simp) _ _

@[simp] theorem execHostcopyIn_wf (sid sq : Nat) (va : BitVec 64) (dat : List (BitVec 8)) (s : State) (h_ : s.mem.wf = true) :
    OutWf (execHostcopyIn sid sq va dat s) := by
  unfold execHostcopyIn
  (repeat' split) <;> simp [*]

@[simp] theorem execHostcopyOut_mem (sid sq : Nat) (va : BitVec 64) (n : Nat) (s : State) (u_ : State) (h_ : s.mem = u_.mem) :
    OutMem u_ (execHostcopyOut sid sq va n s) := by
  unfold execHostcopyOut
  split
  · simp [*]
  · dsimp only
    split <;> simp [*]

@[simp] theorem execWaitval_mem (sid sq : Nat) (va msk val : BitVec 64) (rel tmo : Nat) (s : State) (u_ : State) (h_ : s.mem = u_.mem) :
    OutMem u_ (execWaitval sid sq va msk val rel tmo s) := by
  unfold execWaitval
  simp [*]

@[simp] theorem execWaitvalPoll_mem (sid sq : Nat) (s : State) (u_ : State) (h_ : s.mem = u_.mem) :
    OutMem u_ (execWaitvalPoll sid sq s) := by
  unfold execWaitvalPoll
  split
  · simp [*]
  · split
    · simp [*]
    · dsimp only
      (repeat' split) <;> simp [*]

@[simp] theorem execSignalTask_mem (sid sq : Nat) (tag wid val : BitVec 64) (s : State) (u_ : State) (h_ : s.mem = u_.mem) :
    OutMem u_ (execSignalTask sid sq tag wid val s) := by
  unfold execSignalTask
  (repeat' split) <;> simp [*]

@[simp] theorem answerQuery_mem (s : State) (sid sq off cnt : Nat) (ws : List Nat) (u_ : State) (h_ : s.mem = u_.mem) :
    OutMem u_ (answerQuery s sid sq off cnt ws) := by
  unfold answerQuery
  simp [*]

@[simp] theorem execQueryManagement_mem (sid sq idx off cnt : Nat) (s : State) (u_ : State) (h_ : s.mem = u_.mem) :
    OutMem u_ (execQueryManagement sid sq idx off cnt s) := by
  unfold execQueryManagement
  simp [*]

@[simp] theorem execQuerySlotRecord_mem (sid sq idx off cnt : Nat) (s : State) (u_ : State) (h_ : s.mem = u_.mem) :
    OutMem u_ (execQuerySlotRecord sid sq idx off cnt s) := by
  unfold execQuerySlotRecord
  simp [*]

@[simp] theorem execQueryTrapFrame_mem (sid sq idx off cnt : Nat) (s : State) (u_ : State) (h_ : s.mem = u_.mem) :
    OutMem u_ (execQueryTrapFrame sid sq idx off cnt s) := by
  unfold execQueryTrapFrame
  simp [*]

@[simp] theorem execQueryQueueState_mem (sid sq idx off cnt : Nat) (s : State) (u_ : State) (h_ : s.mem = u_.mem) :
    OutMem u_ (execQueryQueueState sid sq idx off cnt s) := by
  unfold execQueryQueueState
  simp [*]

@[simp] theorem execQuerySlotTables_mem (sid sq idx off cnt : Nat) (s : State) (u_ : State) (h_ : s.mem = u_.mem) :
    OutMem u_ (execQuerySlotTables sid sq idx off cnt s) := by
  unfold execQuerySlotTables
  simp [*]

@[simp] theorem execQueryErrorLog_mem (sid sq _idx off cnt : Nat) (s : State) (u_ : State) (h_ : s.mem = u_.mem) :
    OutMem u_ (execQueryErrorLog sid sq _idx off cnt s) := by
  unfold execQueryErrorLog
  simp [*]

@[simp] theorem execQueryAttestation_mem (sid sq _idx off cnt : Nat) (s : State) (u_ : State) (h_ : s.mem = u_.mem) :
    OutMem u_ (execQueryAttestation sid sq _idx off cnt s) := by
  unfold execQueryAttestation
  split <;> simp [*]

@[simp] theorem recFail_mem (s : State) (sid sq num status : Nat) :
    (recFail s sid sq num status).mem = s.mem := by
  unfold recFail
  simp

@[simp] theorem noOp2_mem (s : State) :
    (noOp2 s).mem = s.mem := by
  unfold noOp2
  rfl

@[simp] theorem endForwards_mem (s : State) (home : Nat → Bool) (frame : Nat) :
    (endForwards s home frame).mem = s.mem := by
  unfold endForwards
  rfl

@[simp] theorem endOldForward_mem (s : State) (g : Seg) (va : Nat) : (endOldForward s g va).mem = s.mem := by
  unfold endOldForward
  (repeat' split) <;> simp

@[simp] theorem packFrame_wf (s : State) (k : Nat) (h_ : s.mem.wf = true) : (packFrame s k).mem.wf = true := by
  unfold packFrame
  simp [*]

@[simp] theorem writeEntry_wf (s : State) (g : Seg) (va : Nat) (e : Word) (h_ : s.mem.wf = true) :
    (writeEntry s g va e).mem.wf = true := by
  unfold writeEntry
  dsimp only
  (repeat' split) <;> simp [*]

@[simp] theorem execPageEntryWrite_wf (sid sq num : Nat) (va val : BitVec 64) (s : State) (h_ : s.mem.wf = true) :
    OutWf (execPageEntryWrite sid sq num va val s) := by
  unfold execPageEntryWrite
  (repeat' split) <;> simp [*]

@[simp] theorem execSegmentEntryWrite_mem (sid sq num : Nat) (va w0 w1 : BitVec 64) (s : State) (u_ : State) (h_ : s.mem = u_.mem) :
    OutMem u_ (execSegmentEntryWrite sid sq num va w0 w1 s) := by
  unfold execSegmentEntryWrite
  simp (maxDischargeDepth := 60) [*]

@[simp] theorem execSegmentWordsWrite_mem (sid sq num : Nat) (_va w2 w3 : BitVec 64) (s : State) (u_ : State) (h_ : s.mem = u_.mem) :
    OutMem u_ (execSegmentWordsWrite sid sq num _va w2 w3 s) := by
  unfold execSegmentWordsWrite
  split <;> simp [*]

@[simp] theorem execMapCacheInvalidate_mem (_sid _sq _num : Nat) (va : BitVec 64) (s : State) (u_ : State) (h_ : s.mem = u_.mem) :
    OutMem u_ (execMapCacheInvalidate _sid _sq _num va s) := by
  unfold execMapCacheInvalidate
  simp [*]

@[simp] theorem execFreeFrameAppend_mem (sid sq num : Nat) (val : BitVec 64) (s : State) (u_ : State) (h_ : s.mem = u_.mem) :
    OutMem u_ (execFreeFrameAppend sid sq num val s) := by
  unfold execFreeFrameAppend
  dsimp only
  (repeat' split) <;> simp [*]

@[simp] theorem setHold_mem (s : State) (base : Nat) (on : Bool) :
    (setHold s base on).mem = s.mem := by
  unfold setHold
  rfl

@[simp] theorem startMigration_mem (s : State) (g : Seg) (va : Word) (home peer frame cap sid : Nat) :
    (startMigration s g va home peer frame cap sid).mem = s.mem := by
  unfold startMigration
  dsimp only
  split <;> simp

@[simp] theorem execPageMigrate_mem (sid sq num : Nat) (va val : BitVec 64) (s : State) (u_ : State) (h_ : s.mem = u_.mem) :
    OutMem u_ (execPageMigrate sid sq num va val s) := by
  unfold execPageMigrate
  (repeat' split) <;> (try simp (maxDischargeDepth := 60) [*]) <;> (repeat' split) <;>
    (try simp (maxDischargeDepth := 60) [*]) <;> try simp_all (maxDischargeDepth := 60)

@[simp] theorem execMigrateTrigger_mem (cid : Nat) (va : BitVec 64) (s : State) (u_ : State) (h_ : s.mem = u_.mem) :
    OutMem u_ (execMigrateTrigger cid va s) := by
  unfold execMigrateTrigger
  (repeat' split) <;> simp [*]

@[simp] theorem moveFrame_wf (s : State) (home a b : Nat) (plain : Option (List Byte)) (h_ : s.mem.wf = true) :
    (moveFrame s home a b plain).mem.wf = true := by
  unfold moveFrame
  simp [*]

@[simp] theorem endMigration_mem (s : State) (m : Migration) (g : Seg) (status : Nat) :
    (endMigration s m g status).mem = s.mem := by
  unfold endMigration
  split
  · rfl
  · dsimp only
    rw [pageReq_mem]
    split <;> simp

@[simp] theorem movePage_wf (s : State) (m : Migration) (g : Seg) (a : Nat) (p : Peer) (h_ : s.mem.wf = true) :
    (movePage s m g a p).mem.wf = true := by
  unfold movePage
  dsimp only
  split
  · split
    · rw [setEntry_mem]; exact moveFrame_wf _ _ _ _ _ h_
    · exact moveFrame_wf _ _ _ _ _ h_
  · split
    · rw [setEntry_mem]; exact moveFrame_wf _ _ _ _ _ h_
    · exact moveFrame_wf _ _ _ _ _ h_

@[simp] theorem execMigrationCopy_wf (va : BitVec 64) (s : State) (h_ : s.mem.wf = true) :
    OutWf (execMigrationCopy va s) := by
  unfold execMigrationCopy
  (repeat' split) <;> (try simp (maxDischargeDepth := 60) [*]) <;> (repeat' split) <;>
    (try simp (maxDischargeDepth := 60) [*]) <;> try simp_all (maxDischargeDepth := 60)

@[simp] theorem pageAnswer_wf (s : State) (sid sq rseq status : Nat) (h_ : s.mem.wf = true) :
    (pageAnswer s sid sq rseq status).mem.wf = true := by
  unfold pageAnswer
  (repeat' split) <;> (try simp (maxDischargeDepth := 60) [*]) <;> (repeat' split) <;>
    (try simp (maxDischargeDepth := 60) [*]) <;> try simp_all (maxDischargeDepth := 60)

@[simp] theorem execPageansMapped_wf (sid sq rseq : Nat) (s : State) (h_ : s.mem.wf = true) :
    OutWf (execPageansMapped sid sq rseq s) := by
  unfold execPageansMapped
  simp [*]

@[simp] theorem execPageansFailure_wf (sid sq rseq : Nat) (s : State) (h_ : s.mem.wf = true) :
    OutWf (execPageansFailure sid sq rseq s) := by
  unfold execPageansFailure
  simp [*]

/-! ## Machine/Boot.lean -/

@[simp] theorem recoveryState_wf (s : State) : (recoveryState s).mem.wf = true :=
  logEntry_wf _ _ _ _ _ _ _ _ rfl

@[simp] theorem bootRetire_wf (s : State) (x : Nat × Nat × Nat) (h_ : s.mem.wf = true) : (bootRetire s x).mem.wf = true := by
  unfold bootRetire
  exact logEntry_wf _ _ _ _ _ _ _ _ (by simpa using h_)

@[simp] theorem bootedState_wf (s : State) (im : Image) (failed : List (Nat × Nat × Nat)) :
    (bootedState s im failed).mem.wf = true := by
  unfold bootedState
  exact foldl_wf (fun u x h => bootRetire_wf u x h) _ rfl

@[simp] theorem execBoot_wf (puf helper fw cfg : List (BitVec 8)) (failed : List (Nat × Nat × Nat)) (s : State) (h_ : s.mem.wf = true) :
    OutWf (execBoot puf helper fw cfg failed s) := by
  unfold execBoot
  (repeat' split) <;> simp [*]

end Sys2Proof.Laws
end

