-- ==== Sys2Proof/Laws/KeepTurn.lean ====
section
/-! SUPPORT. What the boundary, the arms of `exec`, a turn, an event and the passing of time do to memory (see Laws/Keep.lean):
`exec_wf`, `runEvent_wf`, `turn_wf` and `advance_wf` are what a proof about a step cites. -/

-- one proof at a time
set_option Elab.async false

set_option linter.all false

namespace Sys2Proof.Laws
open Sys2Proof.Machine

/-! ## Machine/Boundary.lean -/

@[simp] theorem suspendProbe_wf (s : State) (t : Trap) (h_ : s.mem.wf = true) :
    (suspendProbe s t).mem.wf = true := by
  unfold suspendProbe
  simp [*]

@[simp] theorem haltNow_wf (s : State) (h_ : s.mem.wf = true) :
    (haltNow s).mem.wf = true := by
  unfold haltNow
  simp [*]

@[simp] theorem takeEvent_wf (s : State) (t : Nat) (e : Taken) (h_ : s.mem.wf = true) :
    (takeEvent s t e).mem.wf = true := by
  unfold takeEvent
  split <;> simp [*]

@[simp] theorem execTakingATrap_wf (s : State) (h_ : s.mem.wf = true) :
    OutWf (execTakingATrap s) := by
  unfold execTakingATrap
  split <;> simp [*]

@[simp] theorem setDest_mem (s : State) (d : Dest) (v : Word) :
    (setDest s d v).mem = s.mem := by
  unfold setDest
  rfl

@[simp] theorem registerPromise_mem (s : State) (l : Latch) :
    (registerPromise s l).mem = s.mem := by
  unfold registerPromise
  split <;> simp [*]

@[simp] theorem commitLatch_mem (s : State) (l : Latch) :
    (commitLatch s l).mem = s.mem := by
  unfold commitLatch
  simp

@[simp] theorem failLatch_mem (s : State) (l : Latch) (x : Trap) :
    (failLatch s l x).mem = s.mem := by
  unfold failLatch
  simp

@[simp] theorem commitOne_mem (s : State) (x : Commit) (tr : Option Trap) :
    (commitOne s x tr).1.mem = s.mem := by
  unfold commitOne
  (repeat' split) <;> simp [*]

@[simp] theorem sortLatches_mem (s : State) :
    (sortLatches s).mem = s.mem := by
  unfold sortLatches
  rfl

@[simp] theorem dueTaken_mem (s : State) (t : Nat) :
    (dueTaken s t).mem = s.mem := by
  unfold dueTaken
  (repeat' split) <;> (try simp (maxDischargeDepth := 60) [*]) <;> (repeat' split) <;>
    (try simp (maxDischargeDepth := 60) [*]) <;> try simp_all (maxDischargeDepth := 60)

@[simp] theorem commitEach_mem : ∀ (xs : List Commit) (s : State) (tr : Option Trap), (commitEach xs s tr).1.mem = s.mem
  | [], _, _ => rfl
  | x :: xs, s, tr => by
    unfold commitEach
    dsimp only
    rw [commitEach_mem xs]
    exact commitOne_mem s x tr

@[simp] theorem commitAll_wf (s : State) (t : Nat) (h_ : s.mem.wf = true) : (commitAll s t).mem.wf = true := by
  unfold commitAll
  dsimp only
  split
  · exact takeTrap_wf _ _ (by rw [sortLatches_mem, commitEach_mem, dueTaken_mem]; exact h_)
  · rw [sortLatches_mem, commitEach_mem, dueTaken_mem]; exact h_

@[simp] theorem execResultLatchCommit_wf (s : State) (h_ : s.mem.wf = true) :
    OutWf (execResultLatchCommit s) := by
  unfold execResultLatchCommit
  simp [*]

@[simp] theorem orUnitFlags_mem (s : State) (fl : Nat) :
    (orUnitFlags s fl).mem = s.mem := by
  unfold orUnitFlags
  simp

@[simp] theorem commitGroup_mem (s : State) (w : UWrite) :
    (commitGroup s w).mem = s.mem := by
  unfold commitGroup
  split <;> simp [*]

@[simp] theorem unitBoundary_mem (s : State) (e : Fin 3) (t : Nat) :
    (unitBoundary s e t).mem = s.mem := by
  unfold unitBoundary
  simp

@[simp] theorem execUnitWriteCommit_wf (e : Fin 4) (s : State) (h_ : s.mem.wf = true) :
    OutWf (execUnitWriteCommit e s) := by
  unfold execUnitWriteCommit
  (repeat' split) <;> (try simp (maxDischargeDepth := 60) [*]) <;> (repeat' split) <;>
    (try simp (maxDischargeDepth := 60) [*]) <;> try simp_all (maxDischargeDepth := 60)

@[simp] theorem makeStore_wf (s : State) (w : DWrite) (a n : Nat) (v : Word) (h_ : s.mem.wf = true) :
    (makeStore s w a n v).mem.wf = true := by
  unfold makeStore
  (repeat' split) <;> (try simp (maxDischargeDepth := 60) [*]) <;> (repeat' split) <;>
    (try simp (maxDischargeDepth := 60) [*]) <;> try simp_all (maxDischargeDepth := 60)

@[simp] theorem makeQinit_wf (s : State) (w : DWrite) (a : Nat) (v : Word) (h_ : s.mem.wf = true) :
    (makeQinit s w a v).mem.wf = true := by
  unfold makeQinit
  (repeat' split) <;> simp [*]

@[simp] theorem makeWrite_wf (s : State) (w : DWrite) (h_ : s.mem.wf = true) :
    (makeWrite s w).mem.wf = true := by
  unfold makeWrite
  split <;> simp [*]

@[simp] theorem makeWrites_wf : ∀ (ws : List DWrite) (s : State) (h_ : s.mem.wf = true), (makeWrites ws s).mem.wf = true
  | [], _, h => h
  | w :: ws, s, h => by
    unfold makeWrites
    split
    · exact h
    · exact makeWrites_wf ws _ (makeWrite_wf _ _ (by simpa using h))

@[simp] theorem writesAt_wf (s : State) (t : Nat) (h_ : s.mem.wf = true) :
    (writesAt s t).mem.wf = true := by
  unfold writesAt
  simp [*]

@[simp] theorem levelBoundary_mem (s : State) (l : Fin 8) :
    (levelBoundary s l).1.mem = s.mem := by
  unfold levelBoundary
  (repeat' split) <;> (try simp (maxDischargeDepth := 60) [*]) <;> (repeat' split) <;>
    (try simp (maxDischargeDepth := 60) [*]) <;> try simp_all (maxDischargeDepth := 60)

@[simp] theorem boundaryGo_mem : ∀ (n : Nat) (s : State), (boundaryGo n s).mem = s.mem
  | 0, _ => rfl
  | n + 1, s => by
    unfold boundaryGo
    split
    · rfl
    · rename_i l _
      have := levelBoundary_mem s l
      split <;> rename_i h <;> rw [h] at this
      · exact this
      · exact (boundaryGo_mem n _).trans this

@[simp] theorem passPads_mem (s : State) :
    (passPads s).mem = s.mem := by
  unfold passPads
  rfl

@[simp] theorem execIterationBoundary_mem (s : State) (u_ : State) (h_ : s.mem = u_.mem) :
    OutMem u_ (execIterationBoundary s) := by
  unfold execIterationBoundary
  simp [*]

@[simp] theorem execCommandStart_wf (e : Fin 4) (s : State) (h_ : s.mem.wf = true) :
    OutWf (execCommandStart e s) := by
  unfold execCommandStart
  (repeat' split) <;> (try simp (maxDischargeDepth := 60) [*]) <;> (repeat' split) <;>
    (try simp (maxDischargeDepth := 60) [*]) <;> try simp_all (maxDischargeDepth := 60)

@[simp] theorem execWaittExpiry_mem (s : State) (u_ : State) (h_ : s.mem = u_.mem) :
    OutMem u_ (execWaittExpiry s) := by
  unfold execWaittExpiry
  simp [*]

@[simp] theorem execTrailForcedIssue_mem (core : Nat) (s : State) (u_ : State) (h_ : s.mem = u_.mem) :
    OutMem u_ (execTrailForcedIssue core s) := by
  unfold execTrailForcedIssue
  simp [*]

@[simp] theorem execRingResume_mem (s : State) (u_ : State) (h_ : s.mem = u_.mem) :
    OutMem u_ (execRingResume s) := by
  unfold execRingResume
  simp [*]

/-! ## Machine/Dispatch.lean -/

@[simp] theorem exec_wf (i : Instr) (s : State) (h_ : s.mem.wf = true) : OutWf (exec i s) :=
  match i with
  | .add d a b => (execAdd_mem d a b s s rfl).wf h_
  | .sub d a b => (execSub_mem d a b s s rfl).wf h_
  | .addw d a b => (execAddw_mem d a b s s rfl).wf h_
  | .subw d a b => (execSubw_mem d a b s s rfl).wf h_
  | .and d a b => (execAnd_mem d a b s s rfl).wf h_
  | .or d a b => (execOr_mem d a b s s rfl).wf h_
  | .xor d a b => (execXor_mem d a b s s rfl).wf h_
  | .andn d a b => (execAndn_mem d a b s s rfl).wf h_
  | .orn d a b => (execOrn_mem d a b s s rfl).wf h_
  | .shl d a b => (execShl_mem d a b s s rfl).wf h_
  | .shr d a b => (execShr_mem d a b s s rfl).wf h_
  | .sar d a b => (execSar_mem d a b s s rfl).wf h_
  | .rotl d a b => (execRotl_mem d a b s s rfl).wf h_
  | .min d a b => (execMin_mem d a b s s rfl).wf h_
  | .max d a b => (execMax_mem d a b s s rfl).wf h_
  | .minn d a b => (execMinn_mem d a b s s rfl).wf h_
  | .maxn d a b => (execMaxn_mem d a b s s rfl).wf h_
  | .sextB d a => (execSextB_mem d a s s rfl).wf h_
  | .sextH d a => (execSextH_mem d a s s rfl).wf h_
  | .sextW d a => (execSextW_mem d a s s rfl).wf h_
  | .zextB d a => (execZextB_mem d a s s rfl).wf h_
  | .zextH d a => (execZextH_mem d a s s rfl).wf h_
  | .zextW d a => (execZextW_mem d a s s rfl).wf h_
  | .addi d a im => (execAddi_mem d a im s s rfl).wf h_
  | .andi d a im => (execAndi_mem d a im s s rfl).wf h_
  | .ori d a im => (execOri_mem d a im s s rfl).wf h_
  | .xori d a im => (execXori_mem d a im s s rfl).wf h_
  | .shli d a n => (execShli_mem d a n s s rfl).wf h_
  | .shri d a n => (execShri_mem d a n s s rfl).wf h_
  | .sari d a n => (execSari_mem d a n s s rfl).wf h_
  | .rotli d a n => (execRotli_mem d a n s s rfl).wf h_
  | .movi d h im => (execMovi_mem d h im s s rfl).wf h_
  | .movk d h im => (execMovk_mem d h im s s rfl).wf h_
  | .cmpeq pd a b => (execCmpeq_mem pd a b s s rfl).wf h_
  | .cmpne pd a b => (execCmpne_mem pd a b s s rfl).wf h_
  | .cmplt pd a b => (execCmplt_mem pd a b s s rfl).wf h_
  | .cmple pd a b => (execCmple_mem pd a b s s rfl).wf h_
  | .cmpltn pd a b => (execCmpltn_mem pd a b s s rfl).wf h_
  | .cmplen pd a b => (execCmplen_mem pd a b s s rfl).wf h_
  | .cmpeqi pd a im => (execCmpeqi_mem pd a im s s rfl).wf h_
  | .cmpnei pd a im => (execCmpnei_mem pd a im s s rfl).wf h_
  | .cmplti pd a im => (execCmplti_mem pd a im s s rfl).wf h_
  | .cmpltni pd a im => (execCmpltni_mem pd a im s s rfl).wf h_
  | .pand d a b => (execPand_mem d a b s s rfl).wf h_
  | .por d a b => (execPor_mem d a b s s rfl).wf h_
  | .pxor d a b => (execPxor_mem d a b s s rfl).wf h_
  | .pandn d a b => (execPandn_mem d a b s s rfl).wf h_
  | .psetFalse d => (execPsetFalse_mem d s s rfl).wf h_
  | .psetTrue d => (execPsetTrue_mem d s s rfl).wf h_
  | .pmovPred d a => (execPmovPred_mem d a s s rfl).wf h_
  | .pmovFromReg d a => (execPmovFromReg_mem d a s s rfl).wf h_
  | .sel d a b k => (execSel_mem d a b k s s rfl).wf h_
  | .pmovToReg d a => (execPmovToReg_mem d a s s rfl).wf h_
  | .fadd d a b f m => (execFadd_mem d a b f m s s rfl).wf h_
  | .fsub d a b f m => (execFsub_mem d a b f m s s rfl).wf h_
  | .fmul d a b f m => (execFmul_mem d a b f m s s rfl).wf h_
  | .ffma d a b f m => (execFfma_mem d a b f m s s rfl).wf h_
  | .ffms d a b f m => (execFfms_mem d a b f m s s rfl).wf h_
  | .fdiv d a b f m => (execFdiv_mem d a b f m s s rfl).wf h_
  | .fsqrt d a f m => (execFsqrt_mem d a f m s s rfl).wf h_
  | .fmin d a b f => (execFmin_mem d a b f s s rfl).wf h_
  | .fmax d a b f => (execFmax_mem d a b f s s rfl).wf h_
  | .fcmpeq pd a b f => (execFcmpeq_mem pd a b f s s rfl).wf h_
  | .fcmplt pd a b f => (execFcmplt_mem pd a b f s s rfl).wf h_
  | .fcmple pd a b f => (execFcmple_mem pd a b f s s rfl).wf h_
  | .fcmpun pd a b f => (execFcmpun_mem pd a b f s s rfl).wf h_
  | .fclass d a f => (execFclass_mem d a f s s rfl).wf h_
  | .fcvtFloat d a f m => (execFcvtFloat_mem d a f m s s rfl).wf h_
  | .fcvtToI64 d a f m => (execFcvtToI64_mem d a f m s s rfl).wf h_
  | .fcvtToN64 d a f m => (execFcvtToN64_mem d a f m s s rfl).wf h_
  | .fcvtToI32 d a f m => (execFcvtToI32_mem d a f m s s rfl).wf h_
  | .fcvtToN32 d a f m => (execFcvtToN32_mem d a f m s s rfl).wf h_
  | .fcvtFromI64 d a f m => (execFcvtFromI64_mem d a f m s s rfl).wf h_
  | .fcvtFromN64 d a f m => (execFcvtFromN64_mem d a f m s s rfl).wf h_
  | .fcvtFromI32 d a f m => (execFcvtFromI32_mem d a f m s s rfl).wf h_
  | .fcvtFromN32 d a f m => (execFcvtFromN32_mem d a f m s s rfl).wf h_
  | .clz d a => (execClz_mem d a s s rfl).wf h_
  | .ctz d a => (execCtz_mem d a s s rfl).wf h_
  | .popc d a => (execPopc_mem d a s s rfl).wf h_
  | .brev d a => (execBrev_mem d a s s rfl).wf h_
  | .fns d a b => (execFns_mem d a b s s rfl).wf h_
  | .bfx d a b => (execBfx_mem d a b s s rfl).wf h_
  | .bfxn d a b => (execBfxn_mem d a b s s rfl).wf h_
  | .bfi d a b => (execBfi_mem d a b s s rfl).wf h_
  | .fshl d a b => (execFshl_mem d a b s s rfl).wf h_
  | .fshr d a b => (execFshr_mem d a b s s rfl).wf h_
  | .mul d a b => (execMul_mem d a b s s rfl).wf h_
  | .mulh d a b => (execMulh_mem d a b s s rfl).wf h_
  | .mulhn d a b => (execMulhn_mem d a b s s rfl).wf h_
  | .div d a b => (execDiv_mem d a b s s rfl).wf h_
  | .divn d a b => (execDivn_mem d a b s s rfl).wf h_
  | .rem d a b => (execRem_mem d a b s s rfl).wf h_
  | .remn d a b => (execRemn_mem d a b s s rfl).wf h_
  | .ldB v b im o => execLdB_wf v b im o s h_
  | .ldBn v b im o => execLdBn_wf v b im o s h_
  | .ldH v b im o => execLdH_wf v b im o s h_
  | .ldHn v b im o => execLdHn_wf v b im o s h_
  | .ldW v b im o => execLdW_wf v b im o s h_
  | .ldWn v b im o => execLdWn_wf v b im o s h_
  | .ldD v b im o => execLdD_wf v b im o s h_
  | .stB v b im o => execStB_wf v b im o s h_
  | .stH v b im o => execStH_wf v b im o s h_
  | .stW v b im o => execStW_wf v b im o s h_
  | .stD v b im o => execStD_wf v b im o s h_
  | .stq q b im o => execStq_wf q b im o s h_
  | .shw v e r f => execShw_wf v e r f s h_
  | .shg v e r f h => execShg_wf v e r f h s h_
  | .ctlr v c => execCtlr_wf v c s h_
  | .ctlrQ q c => execCtlrQ_wf q c s h_
  | .ctlw v c => execCtlw_wf v c s h_
  | .br d => execBr_wf d s h_
  | .brcNz c d => execBrcNz_wf c d s h_
  | .brcZ c d => execBrcZ_wf c d s h_
  | .call d => execCall_wf d s h_
  | .jmp a => execJmp_wf a s h_
  | .loop l c e => execLoop_wf l c e s h_
  | .loopi l k e => execLoopi_wf l k e s h_
  | .lstr l k e r g => execLstr_wf l k e r g s h_
  | .trap im => execTrap_wf im s h_
  | .svc im => execSvc_wf im s h_
  | .lbrk l => execLbrk_wf l s h_
  | .waittAbs a => execWaittAbs_wf a s h_
  | .waittRel n => execWaittRel_wf n s h_
  | .waitp k => execWaitp_wf k s h_
  | .bar l => execBar_wf l s h_
  | .pfx sc opv op fst lst lv => (execPfx_mem sc opv op fst lst lv s s rfl).wf h_
  | .vadd x => execVadd_wf x s h_
  | .vaddS a x => execVaddS_wf a x s h_
  | .vsub x => execVsub_wf x s h_
  | .vsubS a x => execVsubS_wf a x s h_
  | .vmul x => execVmul_wf x s h_
  | .vmulS a x => execVmulS_wf a x s h_
  | .vmulhS a => execVmulhS_wf a s h_
  | .vfma x => execVfma_wf x s h_
  | .vfmaS a x => execVfmaS_wf a x s h_
  | .vfms x => execVfms_wf x s h_
  | .vfmsS a x => execVfmsS_wf a x s h_
  | .vminS a => execVminS_wf a s h_
  | .vmaxS a => execVmaxS_wf a s h_
  | .vabs x => execVabs_wf x s h_
  | .vneg x => execVneg_wf x s h_
  | .vdiv x => execVdiv_wf x s h_
  | .vdivS a x => execVdivS_wf a x s h_
  | .vsqrt x => execVsqrt_wf x s h_
  | .vfill a => execVfill_wf a s h_
  | .vandS a => execVandS_wf a s h_
  | .vorS a => execVorS_wf a s h_
  | .vxorS a => execVxorS_wf a s h_
  | .vandnS a => execVandnS_wf a s h_
  | .vshlS a => execVshlS_wf a s h_
  | .vshrS a => execVshrS_wf a s h_
  | .vsarS a => execVsarS_wf a s h_
  | .vcmp r => execVcmp_wf r s h_
  | .vcmpS a r => execVcmpS_wf a r s h_
  | .vselS a => execVselS_wf a s h_
  | .vfnsS a => execVfnsS_wf a s h_
  | .vbfxS a => execVbfxS_wf a s h_
  | .vbfiS a => execVbfiS_wf a s h_
  | .vfshLS a => execVfshLS_wf a s h_
  | .vfshRS a => execVfshRS_wf a s h_
  | .vcvt x => execVcvt_wf x s h_
  | .vsplit a => execVsplit_wf a s h_
  | .vredsumAll x => execVredsumAll_wf x s h_
  | .vredsumRow x => execVredsumRow_wf x s h_
  | .vredsumCol x => execVredsumCol_wf x s h_
  | .vargmaxAll a => execVargmaxAll_wf a s h_
  | .vargmaxRow a => execVargmaxRow_wf a s h_
  | .vargmaxCol a => execVargmaxCol_wf a s h_
  | .vscan x => execVscan_wf x s h_
  | .vpush a => execVpush_wf a s h_
  | .vpop a b => execVpop_wf a b s h_
  | .vqcnt a b => execVqcnt_wf a b s h_
  | .vchain a c => execVchain_wf a c s h_
  | .accn a x => execAccn_wf a x s h_
  | .accx a b => execAccx_wf a b s h_
  | .accst a => execAccst_wf a s h_
  | .accld a => execAccld_wf a s h_
  | .cpg a k => execCpg_wf a k s h_
  | .cpgX a k => execCpgX_wf a k s h_
  | .cps a k => execCps_wf a k s h_
  | .cpsX a k => execCpsX_wf a k s h_
  | .cpy a b k => execCpy_wf a b k s h_
  | .wmap a k => execWmap_wf a k s h_
  | .wfill g k => execWfill_wf g k s h_
  | .wback g k => execWback_wf g k s h_
  | .wunmap g k => execWunmap_wf g k s h_
  | .probeR a b => execProbeR_wf a b s h_
  | .probeW a b => execProbeW_wf a b s h_
  | .atomAdd a k => execAtomAdd_wf a k s h_
  | .atomMin a k => execAtomMin_wf a k s h_
  | .atomMax a k => execAtomMax_wf a k s h_
  | .atomAnd a k => execAtomAnd_wf a k s h_
  | .atomOr a k => execAtomOr_wf a k s h_
  | .atomXor a k => execAtomXor_wf a k s h_
  | .atomXchg a k => execAtomXchg_wf a k s h_
  | .atomCas a k => execAtomCas_wf a k s h_
  | .atomAddNr a k => execAtomAddNr_wf a k s h_
  | .atomMinNr a k => execAtomMinNr_wf a k s h_
  | .atomMaxNr a k => execAtomMaxNr_wf a k s h_
  | .atomAndNr a k => execAtomAndNr_wf a k s h_
  | .atomOrNr a k => execAtomOrNr_wf a k s h_
  | .atomXorNr a k => execAtomXorNr_wf a k s h_
  | .atomXchgNr a k => execAtomXchgNr_wf a k s h_
  | .atomCasNr a k => execAtomCasNr_wf a k s h_
  | .mcast k => execMcast_wf k s h_
  | .collSum a k => execCollSum_wf a k s h_
  | .collMax a k => execCollMax_wf a k s h_
  | .collArgmax a k => execCollArgmax_wf a k s h_
  | .collBcast a k => execCollBcast_wf a k s h_
  | .qlnch a b => execQlnch_wf a b s h_
  | .wdepth a b => execWdepth_wf a b s h_
  | .wrbk a b => execWrbk_wf a b s h_
  | .wtake a b => execWtake_wf a b s h_
  | .wjudge a b => execWjudge_wf a b s h_
  | .wfinal a b => execWfinal_wf a b s h_
  | .wstat a b => execWstat_wf a b s h_
  | .ftset a => execFtset_wf a s h_
  | .scld a b h t => execScld_wf a b h t s h_
  | .chset a b j => execChset_wf a b j s h_
  | .decl a => execDecl_wf a s h_
  | .pwra a => execPwra_wf a s h_
  | .qinit a b => execQinit_wf a b s h_
  | .lnputCw a b l => execLnputCw_wf a b l s h_
  | .lnputAw a b l => execLnputAw_wf a b l s h_
  | .lntapCw a b l => execLntapCw_wf a b l s h_
  | .lntapAw a b l => execLntapAw_wf a b l s h_
  | .nop => execNop_wf s h_
  | .rte => execRte_wf s h_
  | .endTask => execEndTask_wf s h_
  | .yld => execYld_wf s h_
  | .halt => execHalt_wf s h_
  | .phaseP => execPhaseP_wf s h_
  | .phaseA => execPhaseA_wf s h_
  | .phasePa => execPhasePa_wf s h_
  | .vmulh => execVmulh_wf s h_
  | .vmin => execVmin_wf s h_
  | .vmax => execVmax_wf s h_
  | .vmov => execVmov_wf s h_
  | .vand => execVand_wf s h_
  | .vor => execVor_wf s h_
  | .vxor => execVxor_wf s h_
  | .vandn => execVandn_wf s h_
  | .vnot => execVnot_wf s h_
  | .vshl => execVshl_wf s h_
  | .vshr => execVshr_wf s h_
  | .vsar => execVsar_wf s h_
  | .vsel => execVsel_wf s h_
  | .vpopc => execVpopc_wf s h_
  | .vclz => execVclz_wf s h_
  | .vbrev => execVbrev_wf s h_
  | .vfns => execVfns_wf s h_
  | .vbfx => execVbfx_wf s h_
  | .vbfi => execVbfi_wf s h_
  | .vfshL => execVfshL_wf s h_
  | .vfshR => execVfshR_wf s h_
  | .vexp2 => execVexp2_wf s h_
  | .vlog2 => execVlog2_wf s h_
  | .vrcp => execVrcp_wf s h_
  | .vrsqrt => execVrsqrt_wf s h_
  | .vredmaxAll => execVredmaxAll_wf s h_
  | .vredmaxRow => execVredmaxRow_wf s h_
  | .vredmaxCol => execVredmaxCol_wf s h_
  | .vredminAll => execVredminAll_wf s h_
  | .vredminRow => execVredminRow_wf s h_
  | .vredminCol => execVredminCol_wf s h_
  | .vgath => execVgath_wf s h_
  | .vscat => execVscat_wf s h_
  | .vtran => execVtran_wf s h_
  | .mma => execMma_wf s h_
  | .mmaZ => execMmaZ_wf s h_
  | .mmas => execMmas_wf s h_
  | .mmasZ => execMmasZ_wf s h_
  | .accz => execAccz_wf s h_
  | .wprop => execWprop_wf s h_
  | .pwrr => execPwrr_wf s h_
  | .iterationBoundary => (execIterationBoundary_mem s s rfl).wf h_
  | .resultLatchCommit => execResultLatchCommit_wf s h_
  | .commandStart e => execCommandStart_wf e s h_
  | .unitWriteCommit e => execUnitWriteCommit_wf e s h_
  | .takingATrap => execTakingATrap_wf s h_
  | .ringResume => (execRingResume_mem s s rfl).wf h_
  | .trailForcedIssue core => (execTrailForcedIssue_mem core s s rfl).wf h_
  | .waittExpiry => (execWaittExpiry_mem s s rfl).wf h_
  | .copyCompletion cid cmd => (execCopyCompletion_mem cid cmd s s rfl).wf h_
  | .promiseMissed cid => (execPromiseMissed_mem cid s s rfl).wf h_
  | .keepWaitingNotice cid cmd => (execKeepWaitingNotice_mem cid cmd s s rfl).wf h_
  | .fillArrival pc => execFillArrival_wf pc s h_
  | .atomAtHome pc => execAtomAtHome_wf pc s h_
  | .publicationCompletion src => (execPublicationCompletion_mem src s s rfl).wf h_
  | .deliveryLanding pc => execDeliveryLanding_wf pc s h_
  | .barRelease cid => (execBarRelease_mem cid s s rfl).wf h_
  | .collCombine cid => execCollCombine_wf cid s h_
  | .vpushStallRelease cid => (execVpushStallRelease_mem cid s s rfl).wf h_
  | .qlnchQueueRoom cid => (execQlnchQueueRoom_mem cid s s rfl).wf h_
  | .missedOperandRelease cid => (execMissedOperandRelease_mem cid s s rfl).wf h_
  | .taskRetirement cid => execTaskRetirement_wf cid s h_
  | .launchCompletion lid => (execLaunchCompletion_mem lid s s rfl).wf h_
  | .gangAdmission => execGangAdmission_wf s h_
  | .queueAgeing q => (execQueueAgeing_mem q s s rfl).wf h_
  | .routerTableSwitch => (execRouterTableSwitch_mem s s rfl).wf h_
  | .proposalRecordIntake cid rec => (execProposalRecordIntake_mem cid rec s s rfl).wf h_
  | .wtakeRelease cid => (execWtakeRelease_mem cid s s rfl).wf h_
  | .wdepthRelease cid => (execWdepthRelease_mem cid s s rfl).wf h_
  | .wfinalPerformed cid => (execWfinalPerformed_mem cid s s rfl).wf h_
  | .logitFault cid => execLogitFault_wf cid s h_
  | .timerExpiry cid => (execTimerExpiry_mem cid s s rfl).wf h_
  | .sliceExpiry cid => (execSliceExpiry_mem cid s s rfl).wf h_
  | .preemptLate cid => (execPreemptLate_mem cid s s rfl).wf h_
  | .pwraGrant upper => (execPwraGrant_mem upper s s rfl).wf h_
  | .staticChargeTick unit => (execStaticChargeTick_mem unit s s rfl).wf h_
  | .thermalSample temps => execThermalSample_wf temps s h_
  | .opSwitchQuiesce unit => (execOpSwitchQuiesce_mem unit s s rfl).wf h_
  | .opSwitchSettled unit => (execOpSwitchSettled_mem unit s s rfl).wf h_
  | .hangWatchdogExpiry cid => execHangWatchdogExpiry_wf cid s h_
  | .waitWatchdogExpiry cid => execWaitWatchdogExpiry_wf cid s h_
  | .selfTestEnd test pass => execSelfTestEnd_wf test pass s h_
  | .svcSetEnergy cid => execSvcSetEnergy_wf cid s h_
  | .svcClearEnergyFlag cid => execSvcClearEnergyFlag_wf cid s h_
  | .partitionSwapOut units => execPartitionSwapOut_wf units s h_
  | .partitionSwapIn units => execPartitionSwapIn_wf units s h_
  | .ctxcmdResume cid => (execCtxcmdResume_mem cid s s rfl).wf h_
  | .ctxcmdEndTask cid => execCtxcmdEndTask_wf cid s h_
  | .ctxcmdPark cid => execCtxcmdPark_wf cid s h_
  | .fdatRead v => (execFdatRead_mem v s s rfl).wf h_
  | .fdatWrite val => execFdatWrite_wf val s h_
  | .tmrWrite val => execTmrWrite_wf val s h_
  | .lcntWrite l val => execLcntWrite_wf l val s h_
  | .islctlWrite isl val => (execIslctlWrite_mem isl val s s rfl).wf h_
  | .registerWrite r val => execRegisterWrite_wf r val s h_
  | .vctDatagramDiscard dg => (execVctDatagramDiscard_mem dg s s rfl).wf h_
  | .openSession body => (execOpenSession_mem body s s rfl).wf h_
  | .closeSession sid => (execCloseSession_mem sid s s rfl).wf h_
  | .ack sid sq => (execAck_mem sid sq s s rfl).wf h_
  | .retransmit sid sq => (execRetransmit_mem sid sq s s rfl).wf h_
  | .launch sid sq q hdr => (execLaunch_mem sid sq q hdr s s rfl).wf h_
  | .hostcopyIn sid sq va dat => execHostcopyIn_wf sid sq va dat s h_
  | .hostcopyOut sid sq va n => (execHostcopyOut_mem sid sq va n s s rfl).wf h_
  | .signalTask sid sq tag wid val => (execSignalTask_mem sid sq tag wid val s s rfl).wf h_
  | .signalOpenSlot sid sq slot rec => (execSignalOpenSlot_mem sid sq slot rec s s rfl).wf h_
  | .signalCancel sid sq slot req => (execSignalCancel_mem sid sq slot req s s rfl).wf h_
  | .signalRelease sid sq slot req => (execSignalRelease_mem sid sq slot req s s rfl).wf h_
  | .waitval sid sq va msk val rel tmo => (execWaitval_mem sid sq va msk val rel tmo s s rfl).wf h_
  | .waitvalPoll sid sq => (execWaitvalPoll_mem sid sq s s rfl).wf h_
  | .queryManagement sid sq idx off cnt => (execQueryManagement_mem sid sq idx off cnt s s rfl).wf h_
  | .querySlotRecord sid sq idx off cnt => (execQuerySlotRecord_mem sid sq idx off cnt s s rfl).wf h_
  | .queryTrapFrame sid sq idx off cnt => (execQueryTrapFrame_mem sid sq idx off cnt s s rfl).wf h_
  | .queryQueueState sid sq idx off cnt => (execQueryQueueState_mem sid sq idx off cnt s s rfl).wf h_
  | .querySlotTables sid sq idx off cnt => (execQuerySlotTables_mem sid sq idx off cnt s s rfl).wf h_
  | .queryErrorLog sid sq idx off cnt => (execQueryErrorLog_mem sid sq idx off cnt s s rfl).wf h_
  | .queryAttestation sid sq idx off cnt => (execQueryAttestation_mem sid sq idx off cnt s s rfl).wf h_
  | .pageansMapped sid sq rseq => execPageansMapped_wf sid sq rseq s h_
  | .pageansFailure sid sq rseq => execPageansFailure_wf sid sq rseq s h_
  | .pageEntryWrite sid sq num va val => execPageEntryWrite_wf sid sq num va val s h_
  | .segmentEntryWrite sid sq num va w0 w1 => (execSegmentEntryWrite_mem sid sq num va w0 w1 s s rfl).wf h_
  | .pageMigrate sid sq num va val => (execPageMigrate_mem sid sq num va val s s rfl).wf h_
  | .mapCacheInvalidate sid sq num va => (execMapCacheInvalidate_mem sid sq num va s s rfl).wf h_
  | .freeFrameAppend sid sq num val => (execFreeFrameAppend_mem sid sq num val s s rfl).wf h_
  | .segmentWordsWrite sid sq num va w2 w3 => (execSegmentWordsWrite_mem sid sq num va w2 w3 s s rfl).wf h_
  | .migrateTrigger cid va => (execMigrateTrigger_mem cid va s s rfl).wf h_
  | .migrationCopy va => execMigrationCopy_wf va s h_
  | .pieceAtHome pc => execPieceAtHome_wf pc s h_
  | .farPieceRefusal pc => (execFarPieceRefusal_mem pc s s rfl).wf h_
  | .boot puf helper fw cfg failed => execBoot_wf puf helper fw cfg failed s h_
  | .targetRefusal pc => (execTargetRefusal_mem pc s s rfl).wf h_
  | .linkError ukind unit idx => (execLinkError_mem ukind unit idx s s rfl).wf h_
  | .thresholdTableWrite t es => (execThresholdTableWrite_mem t es s s rfl).wf h_

/-! ## Machine/Turn.lean -/

@[simp] theorem nextOr_wf {s : State} {o : Outcome State} (hs : s.mem.wf = true) (ho : OutWf o) :
    (nextOr s o).mem.wf = true := by
  cases o <;> simp_all [nextOr, OutWf]
@[simp] theorem nextOr_mem {s : State} {o : Outcome State} (ho : OutMem s o) : (nextOr s o).mem = s.mem := by
  cases o <;> simp_all [nextOr, OutMem]

@[simp] theorem perform_wf (pc : Word) (s : State) (x : Placed) (h_ : s.mem.wf = true) :
    (perform pc s x).mem.wf = true := by
  unfold perform
  simp [*]

theorem refusal_wf (pc : Word) (s : State) (xs : List Placed) (r : State) (h : refusal pc s xs = some r)
    (h_ : s.mem.wf = true) : r.mem.wf = true := by
  unfold refusal at h
  obtain ⟨x, _, hx⟩ := List.exists_of_findSome?_eq_some h
  dsimp only at hx
  split at hx
  · cases hx; exact perform_wf _ _ _ h_
  · cases hx

@[simp] theorem firstEdge_mem (s : State) : (firstEdge s).mem = s.mem := by
  unfold firstEdge
  split
  · rfl
  · dsimp only
    split <;> rfl

@[simp] theorem prepare_mem (s : State) (b : Bundle) :
    (prepare s b).mem = s.mem := by
  unfold prepare
  exact firstEdge_mem s

@[simp] theorem divert_mem (s : State) :
    (divert s).mem = s.mem := by
  unfold divert
  split <;> simp [*]

@[simp] theorem standAtEnd_mem (s : State) (pc : Word) :
    (standAtEnd s pc).mem = s.mem := by
  unfold standAtEnd
  rfl

@[simp] theorem advancePc_mem (s : State) (pc : Word) (dly : Nat) :
    (advancePc s pc dly).mem = s.mem := by
  unfold advancePc
  simp

@[simp] theorem starts_mem (s : State) :
    (starts s).mem = s.mem := by
  unfold starts
  simp

@[simp] theorem closeCycle_wf (s : State) (h_ : s.mem.wf = true) :
    (closeCycle s).mem.wf = true := by
  unfold closeCycle
  simp [*]

@[simp] theorem endHandler_wf (s : State) (pc : Word) (h_ : s.mem.wf = true) :
    (endHandler s pc).mem.wf = true := by
  unfold endHandler
  dsimp only
  split <;> simp (maxDischargeDepth := 60) [*]

@[simp] theorem latchFull_wf (s : State) (n : Nat) (h_ : s.mem.wf = true) :
    (latchFull s n).mem.wf = true := by
  unfold latchFull
  simp [*]

@[simp] theorem issueBundle_wf (s : State) (b : Bundle) (h_ : s.mem.wf = true) : (issueBundle s b).mem.wf = true := by
  unfold issueBundle
  dsimp only
  split
  · rename_i r h
    exact refusal_wf _ _ _ r h (by simpa using h_)
  · have key : (sortLatches ((effectOrder b.placed).foldl (perform s.ctx.pc) (prepare s b))).mem.wf = true := by
      rw [sortLatches_mem]
      exact foldl_wf (fun u x hu => perform_wf _ _ _ hu) _ (by simpa using h_)
    split
    · simp (maxDischargeDepth := 60) [h_]
    · have close : ∀ n : Nat, (closeCycle ((advancePc (sortLatches ((effectOrder b.placed).foldl (perform s.ctx.pc)
          (prepare s b))) s.ctx.pc n).up fun c => { c with lanes := laneMask b })).mem.wf = true := fun n =>
        closeCycle_wf _ (by rw [State_up_mem, advancePc_mem]; exact key)
      split
      · exact endHandler_wf _ _ (close _)
      · exact close _

@[simp] theorem fetchIssue_wf (s : State) (h_ : s.mem.wf = true) :
    (fetchIssue s).mem.wf = true := by
  unfold fetchIssue
  (repeat' split) <;> (try simp (maxDischargeDepth := 60) [*]) <;> (repeat' split) <;>
    (try simp (maxDischargeDepth := 60) [*]) <;> try simp_all (maxDischargeDepth := 60)

@[simp] theorem boundaryWrites_wf (s : State) (h_ : s.mem.wf = true) :
    (boundaryWrites s).mem.wf = true := by
  unfold boundaryWrites
  have key : ∀ u : State, u.mem.wf = true → (if storeHeld u u.ctx.now then u else writesAt u u.ctx.now).mem.wf = true :=
    fun u hu => by split <;> simp [hu]
  have h1 : (nextOr s (execResultLatchCommit s)).mem.wf = true := by simp (maxDischargeDepth := 60) [*]
  dsimp only
  split
  · exact h1
  · have h2 : (if (nextOr s (execResultLatchCommit s)).ctx.status = .handler then nextOr s (execResultLatchCommit s)
        else ([0, 1, 2] : List (Fin 3)).foldl (fun s e => unitBoundary s e s.ctx.now)
          (nextOr s (execResultLatchCommit s))).mem.wf = true := by
      split
      · exact h1
      · rw [foldl_mem (fun t e => unitBoundary_mem t e t.ctx.now)]; exact h1
    exact key _ h2

@[simp] theorem endUnmap_wf (s : State) (w : Win) (h_ : s.mem.wf = true) :
    (endUnmap s w).mem.wf = true := by
  unfold endUnmap
  dsimp only
  (repeat' split) <;> simp (maxDischargeDepth := 60) [*]

@[simp] theorem entry_mem (s : State) :
    (entry s).mem = s.mem := by
  unfold entry
  split <;> simp

@[simp] theorem issueTurn_wf (s : State) (h_ : s.mem.wf = true) :
    (issueTurn s).mem.wf = true := by
  unfold issueTurn
  simp (maxDischargeDepth := 60) [*]

@[simp] theorem endTurn_wf (s : State) (h_ : s.mem.wf = true) :
    (endTurn s).mem.wf = true := by
  unfold endTurn
  (repeat' split) <;> simp [*]

@[simp] theorem waitTurn_wf (s : State) (h_ : s.mem.wf = true) :
    (waitTurn s).mem.wf = true := by
  unfold waitTurn
  (repeat' split) <;> (try simp (maxDischargeDepth := 60) [*]) <;> (repeat' split) <;>
    (try simp (maxDischargeDepth := 60) [*]) <;> try simp_all (maxDischargeDepth := 60)

@[simp] theorem owedTurn_wf (s : State) (h_ : s.mem.wf = true) :
    (owedTurn s).mem.wf = true := by
  unfold owedTurn
  (repeat' split) <;> simp [*]

@[simp] theorem solo_wf (s : State) (h_ : s.mem.wf = true) :
    (solo s).mem.wf = true := by
  unfold solo
  simp (maxDischargeDepth := 60) [*]

@[simp] theorem settleHang_wf (before after_ : State) (h_ : before.mem.wf = true) (h_ : after_.mem.wf = true) :
    (settleHang before after_).mem.wf = true := by
  unfold settleHang
  simp [*]

@[simp] theorem leadTurn_wf (s : State) (h_ : s.mem.wf = true) :
    (leadTurn s).mem.wf = true := by
  unfold leadTurn
  simp (maxDischargeDepth := 60) [*]

@[simp] theorem trailTurn_wf (s : State) (h_ : s.mem.wf = true) :
    (trailTurn s).mem.wf = true := by
  unfold trailTurn
  simp (maxDischargeDepth := 60) [*]

@[simp] theorem stationTurn_wf (s : State) (c : Ctx) (h_ : s.mem.wf = true) :
    (stationTurn s c).mem.wf = true := by
  unfold stationTurn
  simp [*]

@[simp] theorem ringStopAt_wf (s : State) (station : Nat) (c : Ctx) (h_ : s.mem.wf = true) :
    (ringStopAt s station c).mem.wf = true := by
  unfold ringStopAt
  simp [*]

@[simp] theorem ringEvent_wf (s : State) (cs hit : List Ctx) (h_ : s.mem.wf = true) :
    (ringEvent s cs hit).mem.wf = true := by
  unfold ringEvent
  (repeat' split) <;> (try simp (maxDischargeDepth := 60) [*]) <;> (repeat' split) <;>
    (try simp (maxDischargeDepth := 60) [*]) <;> try simp_all (maxDischargeDepth := 60)

@[simp] theorem ringTurn_wf (s : State) (h_ : s.mem.wf = true) :
    (ringTurn s).mem.wf = true := by
  unfold ringTurn
  (repeat' split) <;> (try simp (maxDischargeDepth := 60) [*]) <;> (repeat' split) <;>
    (try simp (maxDischargeDepth := 60) [*]) <;> try simp_all (maxDischargeDepth := 60)

@[simp] theorem turn_wf (s : State) (cid : Nat) (h_ : s.mem.wf = true) :
    (turn s cid).mem.wf = true := by
  unfold turn
  (repeat' split) <;> simp [*]

/-! ## Machine/Clock.lean -/

@[simp] theorem beginCycle_mem (s : State) :
    (beginCycle s).mem = s.mem := by
  unfold beginCycle
  rfl

@[simp] theorem endWindow_mem (s : State) :
    (endWindow s).mem = s.mem := by
  unfold endWindow
  rfl

@[simp] theorem fillAll_wf (s : State) (h_ : s.mem.wf = true) :
    (fillAll s).mem.wf = true := by
  unfold fillAll
  (repeat' split) <;> (try simp (maxDischargeDepth := 60) [*]) <;> (repeat' split) <;>
    (try simp (maxDischargeDepth := 60) [*]) <;> try simp_all (maxDischargeDepth := 60)

@[simp] theorem giveSignal_mem (s : State) (x : Nat × Nat × Word × Word × Word) :
    (giveSignal s x).mem = s.mem := by
  unfold giveSignal
  obtain ⟨a, b, c, d, e⟩ := x
  dsimp only
  (repeat' split) <;> simp

@[simp] theorem giveSignals_mem (s : State) :
    (giveSignals s).mem = s.mem := by
  unfold giveSignals
  exact foldl_mem giveSignal_mem _ _

@[simp] theorem dropClassified_mem (s : State) : (dropClassified s).mem = s.mem := rfl

@[simp] theorem tickEdge_wf (s : State) (h_ : s.mem.wf = true) :
    (tickEdge s).mem.wf = true := by
  unfold tickEdge
  simp [*]

@[simp] theorem advance_wf (s : State) (h_ : s.mem.wf = true) :
    (advance s).mem.wf = true := by
  unfold advance
  simp [*]

/-! ## Machine/Events.lean -/

@[simp] theorem runEvent_wf (e : Event) (s : State) (h_ : s.mem.wf = true) : OutWf (runEvent e s) :=
  match e with
  | .iterationBoundary => (execIterationBoundary_mem s s rfl).wf h_
  | .resultLatchCommit => execResultLatchCommit_wf s h_
  | .commandStart e => execCommandStart_wf e s h_
  | .unitWriteCommit e => execUnitWriteCommit_wf e s h_
  | .takingATrap => execTakingATrap_wf s h_
  | .ringResume => (execRingResume_mem s s rfl).wf h_
  | .trailForcedIssue core => (execTrailForcedIssue_mem core s s rfl).wf h_
  | .waittExpiry => (execWaittExpiry_mem s s rfl).wf h_
  | .copyCompletion cid cmd => (execCopyCompletion_mem cid cmd s s rfl).wf h_
  | .promiseMissed cid => (execPromiseMissed_mem cid s s rfl).wf h_
  | .keepWaitingNotice cid cmd => (execKeepWaitingNotice_mem cid cmd s s rfl).wf h_
  | .fillArrival pc => execFillArrival_wf pc s h_
  | .atomAtHome pc => execAtomAtHome_wf pc s h_
  | .publicationCompletion src => (execPublicationCompletion_mem src s s rfl).wf h_
  | .deliveryLanding pc => execDeliveryLanding_wf pc s h_
  | .barRelease cid => (execBarRelease_mem cid s s rfl).wf h_
  | .collCombine cid => execCollCombine_wf cid s h_
  | .vpushStallRelease cid => (execVpushStallRelease_mem cid s s rfl).wf h_
  | .qlnchQueueRoom cid => (execQlnchQueueRoom_mem cid s s rfl).wf h_
  | .missedOperandRelease cid => (execMissedOperandRelease_mem cid s s rfl).wf h_
  | .taskRetirement cid => execTaskRetirement_wf cid s h_
  | .launchCompletion lid => (execLaunchCompletion_mem lid s s rfl).wf h_
  | .gangAdmission => execGangAdmission_wf s h_
  | .queueAgeing q => (execQueueAgeing_mem q s s rfl).wf h_
  | .routerTableSwitch => (execRouterTableSwitch_mem s s rfl).wf h_
  | .proposalRecordIntake cid rec => (execProposalRecordIntake_mem cid rec s s rfl).wf h_
  | .wtakeRelease cid => (execWtakeRelease_mem cid s s rfl).wf h_
  | .wdepthRelease cid => (execWdepthRelease_mem cid s s rfl).wf h_
  | .wfinalPerformed cid => (execWfinalPerformed_mem cid s s rfl).wf h_
  | .logitFault cid => execLogitFault_wf cid s h_
  | .timerExpiry cid => (execTimerExpiry_mem cid s s rfl).wf h_
  | .sliceExpiry cid => (execSliceExpiry_mem cid s s rfl).wf h_
  | .preemptLate cid => (execPreemptLate_mem cid s s rfl).wf h_
  | .pwraGrant upper => (execPwraGrant_mem upper s s rfl).wf h_
  | .staticChargeTick unit => (execStaticChargeTick_mem unit s s rfl).wf h_
  | .thermalSample temps => execThermalSample_wf temps s h_
  | .opSwitchQuiesce unit => (execOpSwitchQuiesce_mem unit s s rfl).wf h_
  | .opSwitchSettled unit => (execOpSwitchSettled_mem unit s s rfl).wf h_
  | .hangWatchdogExpiry cid => execHangWatchdogExpiry_wf cid s h_
  | .waitWatchdogExpiry cid => execWaitWatchdogExpiry_wf cid s h_
  | .selfTestEnd test pass => execSelfTestEnd_wf test pass s h_
  | .svcSetEnergy cid => execSvcSetEnergy_wf cid s h_
  | .svcClearEnergyFlag cid => execSvcClearEnergyFlag_wf cid s h_
  | .partitionSwapOut units => execPartitionSwapOut_wf units s h_
  | .partitionSwapIn units => execPartitionSwapIn_wf units s h_
  | .ctxcmdResume cid => (execCtxcmdResume_mem cid s s rfl).wf h_
  | .ctxcmdEndTask cid => execCtxcmdEndTask_wf cid s h_
  | .ctxcmdPark cid => execCtxcmdPark_wf cid s h_
  | .fdatRead v => (execFdatRead_mem v s s rfl).wf h_
  | .fdatWrite val => execFdatWrite_wf val s h_
  | .tmrWrite val => execTmrWrite_wf val s h_
  | .lcntWrite l val => execLcntWrite_wf l val s h_
  | .islctlWrite isl val => (execIslctlWrite_mem isl val s s rfl).wf h_
  | .registerWrite r val => execRegisterWrite_wf r val s h_
  | .vctDatagramDiscard dg => (execVctDatagramDiscard_mem dg s s rfl).wf h_
  | .openSession body => (execOpenSession_mem body s s rfl).wf h_
  | .closeSession sid => (execCloseSession_mem sid s s rfl).wf h_
  | .ack sid sq => (execAck_mem sid sq s s rfl).wf h_
  | .retransmit sid sq => (execRetransmit_mem sid sq s s rfl).wf h_
  | .launch sid sq q hdr => (execLaunch_mem sid sq q hdr s s rfl).wf h_
  | .hostcopyIn sid sq va dat => execHostcopyIn_wf sid sq va dat s h_
  | .hostcopyOut sid sq va n => (execHostcopyOut_mem sid sq va n s s rfl).wf h_
  | .signalTask sid sq tag wid val => (execSignalTask_mem sid sq tag wid val s s rfl).wf h_
  | .signalOpenSlot sid sq slot rec => (execSignalOpenSlot_mem sid sq slot rec s s rfl).wf h_
  | .signalCancel sid sq slot req => (execSignalCancel_mem sid sq slot req s s rfl).wf h_
  | .signalRelease sid sq slot req => (execSignalRelease_mem sid sq slot req s s rfl).wf h_
  | .waitval sid sq va msk val rel tmo => (execWaitval_mem sid sq va msk val rel tmo s s rfl).wf h_
  | .waitvalPoll sid sq => (execWaitvalPoll_mem sid sq s s rfl).wf h_
  | .queryManagement sid sq idx off cnt => (execQueryManagement_mem sid sq idx off cnt s s rfl).wf h_
  | .querySlotRecord sid sq idx off cnt => (execQuerySlotRecord_mem sid sq idx off cnt s s rfl).wf h_
  | .queryTrapFrame sid sq idx off cnt => (execQueryTrapFrame_mem sid sq idx off cnt s s rfl).wf h_
  | .queryQueueState sid sq idx off cnt => (execQueryQueueState_mem sid sq idx off cnt s s rfl).wf h_
  | .querySlotTables sid sq idx off cnt => (execQuerySlotTables_mem sid sq idx off cnt s s rfl).wf h_
  | .queryErrorLog sid sq idx off cnt => (execQueryErrorLog_mem sid sq idx off cnt s s rfl).wf h_
  | .queryAttestation sid sq idx off cnt => (execQueryAttestation_mem sid sq idx off cnt s s rfl).wf h_
  | .pageansMapped sid sq rseq => execPageansMapped_wf sid sq rseq s h_
  | .pageansFailure sid sq rseq => execPageansFailure_wf sid sq rseq s h_
  | .pageEntryWrite sid sq num va val => execPageEntryWrite_wf sid sq num va val s h_
  | .segmentEntryWrite sid sq num va w0 w1 => (execSegmentEntryWrite_mem sid sq num va w0 w1 s s rfl).wf h_
  | .pageMigrate sid sq num va val => (execPageMigrate_mem sid sq num va val s s rfl).wf h_
  | .mapCacheInvalidate sid sq num va => (execMapCacheInvalidate_mem sid sq num va s s rfl).wf h_
  | .freeFrameAppend sid sq num val => (execFreeFrameAppend_mem sid sq num val s s rfl).wf h_
  | .segmentWordsWrite sid sq num va w2 w3 => (execSegmentWordsWrite_mem sid sq num va w2 w3 s s rfl).wf h_
  | .migrateTrigger cid va => (execMigrateTrigger_mem cid va s s rfl).wf h_
  | .migrationCopy va => execMigrationCopy_wf va s h_
  | .pieceAtHome pc => execPieceAtHome_wf pc s h_
  | .farPieceRefusal pc => (execFarPieceRefusal_mem pc s s rfl).wf h_
  | .boot puf helper fw cfg failed => execBoot_wf puf helper fw cfg failed s h_
  | .targetRefusal pc => (execTargetRefusal_mem pc s s rfl).wf h_
  | .linkError ukind unit idx => (execLinkError_mem ukind unit idx s s rfl).wf h_
  | .thresholdTableWrite t es => (execThresholdTableWrite_mem t es s s rfl).wf h_

end Sys2Proof.Laws
end

