-- ==== Sys2Proof/Laws/State.lean ====
section
/-! SUPPORT. What each shared update leaves of a state, field by field (memory: Laws/Keep.lean). -/

-- one proof at a time
set_option Elab.async false

namespace Sys2Proof.Laws
open Sys2Proof.Machine

/-! ## State.up and State.upR -/

@[simp] theorem up_ctx (s : State) (f : Ctx → Ctx) : (s.up f).ctx = f s.ctx := rfl
@[simp] theorem upR_ctx (s : State) (f : Regs → Regs) : (s.upR f).ctx = { s.ctx with r := f s.ctx.r } := rfl
@[simp] theorem up_others (s : State) (f : Ctx → Ctx) : (s.up f).others = s.others := rfl
@[simp] theorem upR_others (s : State) (f : Regs → Regs) : (s.upR f).others = s.others := rfl
@[simp] theorem up_agenda (s : State) (f : Ctx → Ctx) : (s.up f).agenda = s.agenda := rfl
@[simp] theorem upR_agenda (s : State) (f : Regs → Regs) : (s.upR f).agenda = s.agenda := rfl
@[simp] theorem up_rota (s : State) (f : Ctx → Ctx) : (s.up f).rota = s.rota := rfl
@[simp] theorem upR_rota (s : State) (f : Regs → Regs) : (s.upR f).rota = s.rota := rfl
@[simp] theorem up_edge (s : State) (f : Ctx → Ctx) : (s.up f).edge = s.edge := rfl
@[simp] theorem upR_edge (s : State) (f : Regs → Regs) : (s.upR f).edge = s.edge := rfl
@[simp] theorem up_tick (s : State) (f : Ctx → Ctx) : (s.up f).tick = s.tick := rfl
@[simp] theorem upR_tick (s : State) (f : Regs → Regs) : (s.upR f).tick = s.tick := rfl
@[simp] theorem up_sub (s : State) (f : Ctx → Ctx) : (s.up f).sub = s.sub := rfl
@[simp] theorem upR_sub (s : State) (f : Regs → Regs) : (s.upR f).sub = s.sub := rfl
@[simp] theorem up_cycle (s : State) (f : Ctx → Ctx) : (s.up f).cycle = s.cycle := rfl
@[simp] theorem upR_cycle (s : State) (f : Regs → Regs) : (s.upR f).cycle = s.cycle := rfl
@[simp] theorem up_fresh (s : State) (f : Ctx → Ctx) : (s.up f).fresh = s.fresh := rfl
@[simp] theorem upR_fresh (s : State) (f : Regs → Regs) : (s.upR f).fresh = s.fresh := rfl
@[simp] theorem up_free (s : State) (f : Ctx → Ctx) : (s.up f).free = s.free := rfl
@[simp] theorem upR_free (s : State) (f : Regs → Regs) : (s.upR f).free = s.free := rfl
@[simp] theorem up_mem (s : State) (f : Ctx → Ctx) : (s.up f).mem = s.mem := rfl
@[simp] theorem upR_mem (s : State) (f : Regs → Regs) : (s.upR f).mem = s.mem := rfl
@[simp] theorem up_synd (s : State) (f : Ctx → Ctx) : (s.up f).synd = s.synd := rfl
@[simp] theorem upR_synd (s : State) (f : Regs → Regs) : (s.upR f).synd = s.synd := rfl
@[simp] theorem up_dirty (s : State) (f : Ctx → Ctx) : (s.up f).dirty = s.dirty := rfl
@[simp] theorem upR_dirty (s : State) (f : Regs → Regs) : (s.upR f).dirty = s.dirty := rfl
@[simp] theorem up_acc (s : State) (f : Ctx → Ctx) : (s.up f).acc = s.acc := rfl
@[simp] theorem upR_acc (s : State) (f : Regs → Regs) : (s.upR f).acc = s.acc := rfl
@[simp] theorem up_asyn (s : State) (f : Ctx → Ctx) : (s.up f).asyn = s.asyn := rfl
@[simp] theorem upR_asyn (s : State) (f : Regs → Regs) : (s.upR f).asyn = s.asyn := rfl
@[simp] theorem up_qprev (s : State) (f : Ctx → Ctx) : (s.up f).qprev = s.qprev := rfl
@[simp] theorem upR_qprev (s : State) (f : Regs → Regs) : (s.upR f).qprev = s.qprev := rfl
@[simp] theorem up_lanes (s : State) (f : Ctx → Ctx) : (s.up f).lanes = s.lanes := rfl
@[simp] theorem upR_lanes (s : State) (f : Regs → Regs) : (s.upR f).lanes = s.lanes := rfl
@[simp] theorem up_rows (s : State) (f : Ctx → Ctx) : (s.up f).rows = s.rows := rfl
@[simp] theorem upR_rows (s : State) (f : Regs → Regs) : (s.upR f).rows = s.rows := rfl
@[simp] theorem up_units (s : State) (f : Ctx → Ctx) : (s.up f).units = s.units := rfl
@[simp] theorem upR_units (s : State) (f : Regs → Regs) : (s.upR f).units = s.units := rfl
@[simp] theorem up_net (s : State) (f : Ctx → Ctx) : (s.up f).net = s.net := rfl
@[simp] theorem upR_net (s : State) (f : Regs → Regs) : (s.upR f).net = s.net := rfl
@[simp] theorem up_host (s : State) (f : Ctx → Ctx) : (s.up f).host = s.host := rfl
@[simp] theorem upR_host (s : State) (f : Regs → Regs) : (s.upR f).host = s.host := rfl
@[simp] theorem up_welt (s : State) (f : Ctx → Ctx) : (s.up f).welt = s.welt := rfl
@[simp] theorem upR_welt (s : State) (f : Regs → Regs) : (s.upR f).welt = s.welt := rfl
@[simp] theorem up_cob (s : State) (f : Ctx → Ctx) : (s.up f).cob = s.cob := rfl
@[simp] theorem upR_cob (s : State) (f : Regs → Regs) : (s.upR f).cob = s.cob := rfl
@[simp] theorem up_img (s : State) (f : Ctx → Ctx) : (s.up f).img = s.img := rfl
@[simp] theorem upR_img (s : State) (f : Regs → Regs) : (s.upR f).img = s.img := rfl
@[simp] theorem up_booted (s : State) (f : Ctx → Ctx) : (s.up f).booted = s.booted := rfl
@[simp] theorem upR_booted (s : State) (f : Regs → Regs) : (s.upR f).booted = s.booted := rfl
@[simp] theorem up_recovery (s : State) (f : Ctx → Ctx) : (s.up f).recovery = s.recovery := rfl
@[simp] theorem upR_recovery (s : State) (f : Regs → Regs) : (s.upR f).recovery = s.recovery := rfl

/-! ## Latches and deferred writes -/

@[simp] theorem putLatch_others (s : State) (l : Latch) : (putLatch s l).others = s.others := rfl
@[simp] theorem addDW_others (s : State) (n : Nat) (a : DAct) : (addDW s n a).others = s.others := rfl
@[simp] theorem putLatch_agenda (s : State) (l : Latch) : (putLatch s l).agenda = s.agenda := rfl
@[simp] theorem addDW_agenda (s : State) (n : Nat) (a : DAct) : (addDW s n a).agenda = s.agenda := rfl
@[simp] theorem putLatch_rota (s : State) (l : Latch) : (putLatch s l).rota = s.rota := rfl
@[simp] theorem addDW_rota (s : State) (n : Nat) (a : DAct) : (addDW s n a).rota = s.rota := rfl
@[simp] theorem putLatch_edge (s : State) (l : Latch) : (putLatch s l).edge = s.edge := rfl
@[simp] theorem addDW_edge (s : State) (n : Nat) (a : DAct) : (addDW s n a).edge = s.edge := rfl
@[simp] theorem putLatch_tick (s : State) (l : Latch) : (putLatch s l).tick = s.tick := rfl
@[simp] theorem addDW_tick (s : State) (n : Nat) (a : DAct) : (addDW s n a).tick = s.tick := rfl
@[simp] theorem putLatch_sub (s : State) (l : Latch) : (putLatch s l).sub = s.sub := rfl
@[simp] theorem addDW_sub (s : State) (n : Nat) (a : DAct) : (addDW s n a).sub = s.sub := rfl
@[simp] theorem putLatch_cycle (s : State) (l : Latch) : (putLatch s l).cycle = s.cycle := rfl
@[simp] theorem addDW_cycle (s : State) (n : Nat) (a : DAct) : (addDW s n a).cycle = s.cycle := rfl
@[simp] theorem putLatch_fresh (s : State) (l : Latch) : (putLatch s l).fresh = s.fresh := rfl
@[simp] theorem addDW_fresh (s : State) (n : Nat) (a : DAct) : (addDW s n a).fresh = s.fresh := rfl
@[simp] theorem putLatch_free (s : State) (l : Latch) : (putLatch s l).free = s.free := rfl
@[simp] theorem addDW_free (s : State) (n : Nat) (a : DAct) : (addDW s n a).free = s.free := rfl
@[simp] theorem putLatch_synd (s : State) (l : Latch) : (putLatch s l).synd = s.synd := rfl
@[simp] theorem addDW_synd (s : State) (n : Nat) (a : DAct) : (addDW s n a).synd = s.synd := rfl
@[simp] theorem putLatch_dirty (s : State) (l : Latch) : (putLatch s l).dirty = s.dirty := rfl
@[simp] theorem addDW_dirty (s : State) (n : Nat) (a : DAct) : (addDW s n a).dirty = s.dirty := rfl
@[simp] theorem putLatch_acc (s : State) (l : Latch) : (putLatch s l).acc = s.acc := rfl
@[simp] theorem addDW_acc (s : State) (n : Nat) (a : DAct) : (addDW s n a).acc = s.acc := rfl
@[simp] theorem putLatch_asyn (s : State) (l : Latch) : (putLatch s l).asyn = s.asyn := rfl
@[simp] theorem addDW_asyn (s : State) (n : Nat) (a : DAct) : (addDW s n a).asyn = s.asyn := rfl
@[simp] theorem putLatch_lanes (s : State) (l : Latch) : (putLatch s l).lanes = s.lanes := rfl
@[simp] theorem putLatch_qprev (s : State) (l : Latch) : (putLatch s l).qprev = s.qprev := rfl
@[simp] theorem addDW_lanes (s : State) (n : Nat) (a : DAct) : (addDW s n a).lanes = s.lanes := rfl
@[simp] theorem addDW_qprev (s : State) (n : Nat) (a : DAct) : (addDW s n a).qprev = s.qprev := rfl
@[simp] theorem putLatch_rows (s : State) (l : Latch) : (putLatch s l).rows = s.rows := rfl
@[simp] theorem addDW_rows (s : State) (n : Nat) (a : DAct) : (addDW s n a).rows = s.rows := rfl
@[simp] theorem putLatch_units (s : State) (l : Latch) : (putLatch s l).units = s.units := rfl
@[simp] theorem addDW_units (s : State) (n : Nat) (a : DAct) : (addDW s n a).units = s.units := rfl
@[simp] theorem putLatch_net (s : State) (l : Latch) : (putLatch s l).net = s.net := rfl
@[simp] theorem addDW_net (s : State) (n : Nat) (a : DAct) : (addDW s n a).net = s.net := rfl
@[simp] theorem putLatch_host (s : State) (l : Latch) : (putLatch s l).host = s.host := rfl
@[simp] theorem addDW_host (s : State) (n : Nat) (a : DAct) : (addDW s n a).host = s.host := rfl
@[simp] theorem putLatch_welt (s : State) (l : Latch) : (putLatch s l).welt = s.welt := rfl
@[simp] theorem addDW_welt (s : State) (n : Nat) (a : DAct) : (addDW s n a).welt = s.welt := rfl
@[simp] theorem putLatch_cob (s : State) (l : Latch) : (putLatch s l).cob = s.cob := rfl
@[simp] theorem addDW_cob (s : State) (n : Nat) (a : DAct) : (addDW s n a).cob = s.cob := rfl
@[simp] theorem putLatch_img (s : State) (l : Latch) : (putLatch s l).img = s.img := rfl
@[simp] theorem addDW_img (s : State) (n : Nat) (a : DAct) : (addDW s n a).img = s.img := rfl
@[simp] theorem putLatch_booted (s : State) (l : Latch) : (putLatch s l).booted = s.booted := rfl
@[simp] theorem addDW_booted (s : State) (n : Nat) (a : DAct) : (addDW s n a).booted = s.booted := rfl
@[simp] theorem putLatch_recovery (s : State) (l : Latch) : (putLatch s l).recovery = s.recovery := rfl
@[simp] theorem addDW_recovery (s : State) (n : Nat) (a : DAct) : (addDW s n a).recovery = s.recovery := rfl
@[simp] theorem putLatch_latches (s : State) (l : Latch) : (putLatch s l).ctx.latches = s.ctx.latches ++ [l] := rfl
@[simp] theorem addDW_dws (s : State) (n : Nat) (a : DAct) :
    (addDW s n a).ctx.dws = s.ctx.dws ++ [⟨s.ctx.now + n, s.ctx.now, s.ctx.iss.pos, s.ctx.iss.pc, a⟩] := rfl
@[simp] theorem putLatch_ctx_cid (s : State) (l : Latch) : (putLatch s l).ctx.cid = s.ctx.cid := rfl
@[simp] theorem addDW_ctx_cid (s : State) (n : Nat) (a : DAct) : (addDW s n a).ctx.cid = s.ctx.cid := rfl
@[simp] theorem putLatch_ctx_src (s : State) (l : Latch) : (putLatch s l).ctx.src = s.ctx.src := rfl
@[simp] theorem addDW_ctx_src (s : State) (n : Nat) (a : DAct) : (addDW s n a).ctx.src = s.ctx.src := rfl
@[simp] theorem putLatch_ctx_lid (s : State) (l : Latch) : (putLatch s l).ctx.lid = s.ctx.lid := rfl
@[simp] theorem addDW_ctx_lid (s : State) (n : Nat) (a : DAct) : (addDW s n a).ctx.lid = s.ctx.lid := rfl
@[simp] theorem putLatch_ctx_wid (s : State) (l : Latch) : (putLatch s l).ctx.wid = s.ctx.wid := rfl
@[simp] theorem addDW_ctx_wid (s : State) (n : Nat) (a : DAct) : (addDW s n a).ctx.wid = s.ctx.wid := rfl
@[simp] theorem putLatch_ctx_core (s : State) (l : Latch) : (putLatch s l).ctx.core = s.ctx.core := rfl
@[simp] theorem addDW_ctx_core (s : State) (n : Nat) (a : DAct) : (addDW s n a).ctx.core = s.ctx.core := rfl
@[simp] theorem putLatch_ctx_unit (s : State) (l : Latch) : (putLatch s l).ctx.unit = s.ctx.unit := rfl
@[simp] theorem addDW_ctx_unit (s : State) (n : Nat) (a : DAct) : (addDW s n a).ctx.unit = s.ctx.unit := rfl
@[simp] theorem putLatch_ctx_ctxno (s : State) (l : Latch) : (putLatch s l).ctx.ctxno = s.ctx.ctxno := rfl
@[simp] theorem addDW_ctx_ctxno (s : State) (n : Nat) (a : DAct) : (addDW s n a).ctx.ctxno = s.ctx.ctxno := rfl
@[simp] theorem putLatch_ctx_upper (s : State) (l : Latch) : (putLatch s l).ctx.upper = s.ctx.upper := rfl
@[simp] theorem addDW_ctx_upper (s : State) (n : Nat) (a : DAct) : (addDW s n a).ctx.upper = s.ctx.upper := rfl
@[simp] theorem putLatch_ctx_role (s : State) (l : Latch) : (putLatch s l).ctx.role = s.ctx.role := rfl
@[simp] theorem addDW_ctx_role (s : State) (n : Nat) (a : DAct) : (addDW s n a).ctx.role = s.ctx.role := rfl
@[simp] theorem putLatch_ctx_status (s : State) (l : Latch) : (putLatch s l).ctx.status = s.ctx.status := rfl
@[simp] theorem addDW_ctx_status (s : State) (n : Nat) (a : DAct) : (addDW s n a).ctx.status = s.ctx.status := rfl
@[simp] theorem putLatch_ctx_sv (s : State) (l : Latch) : (putLatch s l).ctx.sv = s.ctx.sv := rfl
@[simp] theorem addDW_ctx_sv (s : State) (n : Nat) (a : DAct) : (addDW s n a).ctx.sv = s.ctx.sv := rfl
@[simp] theorem putLatch_ctx_cobbler (s : State) (l : Latch) : (putLatch s l).ctx.cobbler = s.ctx.cobbler := rfl
@[simp] theorem addDW_ctx_cobbler (s : State) (n : Nat) (a : DAct) : (addDW s n a).ctx.cobbler = s.ctx.cobbler := rfl
@[simp] theorem putLatch_ctx_r (s : State) (l : Latch) : (putLatch s l).ctx.r = s.ctx.r := rfl
@[simp] theorem addDW_ctx_r (s : State) (n : Nat) (a : DAct) : (addDW s n a).ctx.r = s.ctx.r := rfl
@[simp] theorem putLatch_ctx_pc (s : State) (l : Latch) : (putLatch s l).ctx.pc = s.ctx.pc := rfl
@[simp] theorem addDW_ctx_pc (s : State) (n : Nat) (a : DAct) : (addDW s n a).ctx.pc = s.ctx.pc := rfl
@[simp] theorem putLatch_ctx_npc (s : State) (l : Latch) : (putLatch s l).ctx.npc = s.ctx.npc := rfl
@[simp] theorem addDW_ctx_npc (s : State) (n : Nat) (a : DAct) : (addDW s n a).ctx.npc = s.ctx.npc := rfl
@[simp] theorem putLatch_ctx_fin (s : State) (l : Latch) : (putLatch s l).ctx.fin = s.ctx.fin := rfl
@[simp] theorem addDW_ctx_fin (s : State) (n : Nat) (a : DAct) : (addDW s n a).ctx.fin = s.ctx.fin := rfl
@[simp] theorem putLatch_ctx_flNow (s : State) (l : Latch) : (putLatch s l).ctx.flNow = s.ctx.flNow := rfl
@[simp] theorem addDW_ctx_flNow (s : State) (n : Nat) (a : DAct) : (addDW s n a).ctx.flNow = s.ctx.flNow := rfl
@[simp] theorem putLatch_ctx_redo (s : State) (l : Latch) : (putLatch s l).ctx.redo = s.ctx.redo := rfl
@[simp] theorem addDW_ctx_redo (s : State) (n : Nat) (a : DAct) : (addDW s n a).ctx.redo = s.ctx.redo := rfl
@[simp] theorem putLatch_ctx_tclk (s : State) (l : Latch) : (putLatch s l).ctx.tclk = s.ctx.tclk := rfl
@[simp] theorem addDW_ctx_tclk (s : State) (n : Nat) (a : DAct) : (addDW s n a).ctx.tclk = s.ctx.tclk := rfl
@[simp] theorem putLatch_ctx_hclk (s : State) (l : Latch) : (putLatch s l).ctx.hclk = s.ctx.hclk := rfl
@[simp] theorem addDW_ctx_hclk (s : State) (n : Nat) (a : DAct) : (addDW s n a).ctx.hclk = s.ctx.hclk := rfl
@[simp] theorem putLatch_ctx_hdr (s : State) (l : Latch) : (putLatch s l).ctx.hdr = s.ctx.hdr := rfl
@[simp] theorem addDW_ctx_hdr (s : State) (n : Nat) (a : DAct) : (addDW s n a).ctx.hdr = s.ctx.hdr := rfl
@[simp] theorem putLatch_ctx_code (s : State) (l : Latch) : (putLatch s l).ctx.code = s.ctx.code := rfl
@[simp] theorem addDW_ctx_code (s : State) (n : Nat) (a : DAct) : (addDW s n a).ctx.code = s.ctx.code := rfl
@[simp] theorem putLatch_ctx_grant (s : State) (l : Latch) : (putLatch s l).ctx.grant = s.ctx.grant := rfl
@[simp] theorem addDW_ctx_grant (s : State) (n : Nat) (a : DAct) : (addDW s n a).ctx.grant = s.ctx.grant := rfl
@[simp] theorem putLatch_ctx_iss (s : State) (l : Latch) : (putLatch s l).ctx.iss = s.ctx.iss := rfl
@[simp] theorem addDW_ctx_iss (s : State) (n : Nat) (a : DAct) : (addDW s n a).ctx.iss = s.ctx.iss := rfl
@[simp] theorem putLatch_ctx_pfx (s : State) (l : Latch) : (putLatch s l).ctx.pfx = s.ctx.pfx := rfl
@[simp] theorem addDW_ctx_pfx (s : State) (n : Nat) (a : DAct) : (addDW s n a).ctx.pfx = s.ctx.pfx := rfl
@[simp] theorem addDW_ctx_latches (s : State) (n : Nat) (a : DAct) : (addDW s n a).ctx.latches = s.ctx.latches := rfl
@[simp] theorem putLatch_ctx_dws (s : State) (l : Latch) : (putLatch s l).ctx.dws = s.ctx.dws := rfl
@[simp] theorem putLatch_ctx_vq (s : State) (l : Latch) : (putLatch s l).ctx.vq = s.ctx.vq := rfl
@[simp] theorem addDW_ctx_vq (s : State) (n : Nat) (a : DAct) : (addDW s n a).ctx.vq = s.ctx.vq := rfl
@[simp] theorem putLatch_ctx_xq (s : State) (l : Latch) : (putLatch s l).ctx.xq = s.ctx.xq := rfl
@[simp] theorem addDW_ctx_xq (s : State) (n : Nat) (a : DAct) : (addDW s n a).ctx.xq = s.ctx.xq := rfl
@[simp] theorem putLatch_ctx_cq (s : State) (l : Latch) : (putLatch s l).ctx.cq = s.ctx.cq := rfl
@[simp] theorem addDW_ctx_cq (s : State) (n : Nat) (a : DAct) : (addDW s n a).ctx.cq = s.ctx.cq := rfl
@[simp] theorem putLatch_ctx_uws (s : State) (l : Latch) : (putLatch s l).ctx.uws = s.ctx.uws := rfl
@[simp] theorem addDW_ctx_uws (s : State) (n : Nat) (a : DAct) : (addDW s n a).ctx.uws = s.ctx.uws := rfl
@[simp] theorem putLatch_ctx_touch (s : State) (l : Latch) : (putLatch s l).ctx.touch = s.ctx.touch := rfl
@[simp] theorem addDW_ctx_touch (s : State) (n : Nat) (a : DAct) : (addDW s n a).ctx.touch = s.ctx.touch := rfl
@[simp] theorem putLatch_ctx_wait (s : State) (l : Latch) : (putLatch s l).ctx.wait = s.ctx.wait := rfl
@[simp] theorem addDW_ctx_wait (s : State) (n : Nat) (a : DAct) : (addDW s n a).ctx.wait = s.ctx.wait := rfl
@[simp] theorem putLatch_ctx_pend (s : State) (l : Latch) : (putLatch s l).ctx.pend = s.ctx.pend := rfl
@[simp] theorem addDW_ctx_pend (s : State) (n : Nat) (a : DAct) : (addDW s n a).ctx.pend = s.ctx.pend := rfl
@[simp] theorem putLatch_ctx_dly (s : State) (l : Latch) : (putLatch s l).ctx.dly = s.ctx.dly := rfl
@[simp] theorem addDW_ctx_dly (s : State) (n : Nat) (a : DAct) : (addDW s n a).ctx.dly = s.ctx.dly := rfl
@[simp] theorem putLatch_ctx_swt (s : State) (l : Latch) : (putLatch s l).ctx.swt = s.ctx.swt := rfl
@[simp] theorem addDW_ctx_swt (s : State) (n : Nat) (a : DAct) : (addDW s n a).ctx.swt = s.ctx.swt := rfl
@[simp] theorem putLatch_ctx_swtPc (s : State) (l : Latch) : (putLatch s l).ctx.swtPc = s.ctx.swtPc := rfl
@[simp] theorem addDW_ctx_swtPc (s : State) (n : Nat) (a : DAct) : (addDW s n a).ctx.swtPc = s.ctx.swtPc := rfl
@[simp] theorem putLatch_ctx_cands (s : State) (l : Latch) : (putLatch s l).ctx.cands = s.ctx.cands := rfl
@[simp] theorem addDW_ctx_cands (s : State) (n : Nat) (a : DAct) : (addDW s n a).ctx.cands = s.ctx.cands := rfl
@[simp] theorem putLatch_ctx_fatal (s : State) (l : Latch) : (putLatch s l).ctx.fatal = s.ctx.fatal := rfl
@[simp] theorem addDW_ctx_fatal (s : State) (n : Nat) (a : DAct) : (addDW s n a).ctx.fatal = s.ctx.fatal := rfl
@[simp] theorem putLatch_ctx_tcause (s : State) (l : Latch) : (putLatch s l).ctx.tcause = s.ctx.tcause := rfl
@[simp] theorem addDW_ctx_tcause (s : State) (n : Nat) (a : DAct) : (addDW s n a).ctx.tcause = s.ctx.tcause := rfl
@[simp] theorem putLatch_ctx_tinfo (s : State) (l : Latch) : (putLatch s l).ctx.tinfo = s.ctx.tinfo := rfl
@[simp] theorem addDW_ctx_tinfo (s : State) (n : Nat) (a : DAct) : (addDW s n a).ctx.tinfo = s.ctx.tinfo := rfl
@[simp] theorem putLatch_ctx_saved (s : State) (l : Latch) : (putLatch s l).ctx.saved = s.ctx.saved := rfl
@[simp] theorem addDW_ctx_saved (s : State) (n : Nat) (a : DAct) : (addDW s n a).ctx.saved = s.ctx.saved := rfl
@[simp] theorem putLatch_ctx_detval (s : State) (l : Latch) : (putLatch s l).ctx.detval = s.ctx.detval := rfl
@[simp] theorem addDW_ctx_detval (s : State) (n : Nat) (a : DAct) : (addDW s n a).ctx.detval = s.ctx.detval := rfl
@[simp] theorem putLatch_ctx_fidx (s : State) (l : Latch) : (putLatch s l).ctx.fidx = s.ctx.fidx := rfl
@[simp] theorem addDW_ctx_fidx (s : State) (n : Nat) (a : DAct) : (addDW s n a).ctx.fidx = s.ctx.fidx := rfl
@[simp] theorem putLatch_ctx_tmr (s : State) (l : Latch) : (putLatch s l).ctx.tmr = s.ctx.tmr := rfl
@[simp] theorem addDW_ctx_tmr (s : State) (n : Nat) (a : DAct) : (addDW s n a).ctx.tmr = s.ctx.tmr := rfl
@[simp] theorem putLatch_ctx_tmrCnt (s : State) (l : Latch) : (putLatch s l).ctx.tmrCnt = s.ctx.tmrCnt := rfl
@[simp] theorem addDW_ctx_tmrCnt (s : State) (n : Nat) (a : DAct) : (addDW s n a).ctx.tmrCnt = s.ctx.tmrCnt := rfl
@[simp] theorem putLatch_ctx_tmrPend (s : State) (l : Latch) : (putLatch s l).ctx.tmrPend = s.ctx.tmrPend := rfl
@[simp] theorem addDW_ctx_tmrPend (s : State) (n : Nat) (a : DAct) : (addDW s n a).ctx.tmrPend = s.ctx.tmrPend := rfl
@[simp] theorem putLatch_ctx_signals (s : State) (l : Latch) : (putLatch s l).ctx.signals = s.ctx.signals := rfl
@[simp] theorem addDW_ctx_signals (s : State) (n : Nat) (a : DAct) : (addDW s n a).ctx.signals = s.ctx.signals := rfl
@[simp] theorem putLatch_ctx_notices (s : State) (l : Latch) : (putLatch s l).ctx.notices = s.ctx.notices := rfl
@[simp] theorem addDW_ctx_notices (s : State) (n : Nat) (a : DAct) : (addDW s n a).ctx.notices = s.ctx.notices := rfl
@[simp] theorem putLatch_ctx_preReq (s : State) (l : Latch) : (putLatch s l).ctx.preReq = s.ctx.preReq := rfl
@[simp] theorem addDW_ctx_preReq (s : State) (n : Nat) (a : DAct) : (addDW s n a).ctx.preReq = s.ctx.preReq := rfl
@[simp] theorem putLatch_ctx_preCnt (s : State) (l : Latch) : (putLatch s l).ctx.preCnt = s.ctx.preCnt := rfl
@[simp] theorem addDW_ctx_preCnt (s : State) (n : Nat) (a : DAct) : (addDW s n a).ctx.preCnt = s.ctx.preCnt := rfl
@[simp] theorem putLatch_ctx_preLate (s : State) (l : Latch) : (putLatch s l).ctx.preLate = s.ctx.preLate := rfl
@[simp] theorem addDW_ctx_preLate (s : State) (n : Nat) (a : DAct) : (addDW s n a).ctx.preLate = s.ctx.preLate := rfl
@[simp] theorem putLatch_ctx_slice (s : State) (l : Latch) : (putLatch s l).ctx.slice = s.ctx.slice := rfl
@[simp] theorem addDW_ctx_slice (s : State) (n : Nat) (a : DAct) : (addDW s n a).ctx.slice = s.ctx.slice := rfl
@[simp] theorem putLatch_ctx_ended (s : State) (l : Latch) : (putLatch s l).ctx.ended = s.ctx.ended := rfl
@[simp] theorem addDW_ctx_ended (s : State) (n : Nat) (a : DAct) : (addDW s n a).ctx.ended = s.ctx.ended := rfl
@[simp] theorem putLatch_ctx_energy (s : State) (l : Latch) : (putLatch s l).ctx.energy = s.ctx.energy := rfl
@[simp] theorem addDW_ctx_energy (s : State) (n : Nat) (a : DAct) : (addDW s n a).ctx.energy = s.ctx.energy := rfl
@[simp] theorem putLatch_ctx_energySat (s : State) (l : Latch) : (putLatch s l).ctx.energySat = s.ctx.energySat := rfl
@[simp] theorem addDW_ctx_energySat (s : State) (n : Nat) (a : DAct) : (addDW s n a).ctx.energySat = s.ctx.energySat := rfl
@[simp] theorem putLatch_ctx_draw (s : State) (l : Latch) : (putLatch s l).ctx.draw = s.ctx.draw := rfl
@[simp] theorem addDW_ctx_draw (s : State) (n : Nat) (a : DAct) : (addDW s n a).ctx.draw = s.ctx.draw := rfl
@[simp] theorem putLatch_ctx_powOver (s : State) (l : Latch) : (putLatch s l).ctx.powOver = s.ctx.powOver := rfl
@[simp] theorem addDW_ctx_powOver (s : State) (n : Nat) (a : DAct) : (addDW s n a).ctx.powOver = s.ctx.powOver := rfl
@[simp] theorem putLatch_ctx_overDone (s : State) (l : Latch) : (putLatch s l).ctx.overDone = s.ctx.overDone := rfl
@[simp] theorem addDW_ctx_overDone (s : State) (n : Nat) (a : DAct) : (addDW s n a).ctx.overDone = s.ctx.overDone := rfl
@[simp] theorem putLatch_ctx_rcyc (s : State) (l : Latch) : (putLatch s l).ctx.rcyc = s.ctx.rcyc := rfl
@[simp] theorem addDW_ctx_rcyc (s : State) (n : Nat) (a : DAct) : (addDW s n a).ctx.rcyc = s.ctx.rcyc := rfl
@[simp] theorem putLatch_ctx_blkc (s : State) (l : Latch) : (putLatch s l).ctx.blkc = s.ctx.blkc := rfl
@[simp] theorem addDW_ctx_blkc (s : State) (n : Nat) (a : DAct) : (addDW s n a).ctx.blkc = s.ctx.blkc := rfl
@[simp] theorem putLatch_ctx_blocked (s : State) (l : Latch) : (putLatch s l).ctx.blocked = s.ctx.blocked := rfl
@[simp] theorem addDW_ctx_blocked (s : State) (n : Nat) (a : DAct) : (addDW s n a).ctx.blocked = s.ctx.blocked := rfl
@[simp] theorem putLatch_ctx_parkedAt (s : State) (l : Latch) : (putLatch s l).ctx.parkedAt = s.ctx.parkedAt := rfl
@[simp] theorem addDW_ctx_parkedAt (s : State) (n : Nat) (a : DAct) : (addDW s n a).ctx.parkedAt = s.ctx.parkedAt := rfl
@[simp] theorem putLatch_ctx_openPh (s : State) (l : Latch) : (putLatch s l).ctx.openPh = s.ctx.openPh := rfl
@[simp] theorem addDW_ctx_openPh (s : State) (n : Nat) (a : DAct) : (addDW s n a).ctx.openPh = s.ctx.openPh := rfl
@[simp] theorem putLatch_ctx_pubd (s : State) (l : Latch) : (putLatch s l).ctx.pubd = s.ctx.pubd := rfl
@[simp] theorem addDW_ctx_pubd (s : State) (n : Nat) (a : DAct) : (addDW s n a).ctx.pubd = s.ctx.pubd := rfl
@[simp] theorem putLatch_ctx_closing (s : State) (l : Latch) : (putLatch s l).ctx.closing = s.ctx.closing := rfl
@[simp] theorem addDW_ctx_closing (s : State) (n : Nat) (a : DAct) : (addDW s n a).ctx.closing = s.ctx.closing := rfl
@[simp] theorem putLatch_ctx_stamps (s : State) (l : Latch) : (putLatch s l).ctx.stamps = s.ctx.stamps := rfl
@[simp] theorem addDW_ctx_stamps (s : State) (n : Nat) (a : DAct) : (addDW s n a).ctx.stamps = s.ctx.stamps := rfl
@[simp] theorem putLatch_ctx_bars (s : State) (l : Latch) : (putLatch s l).ctx.bars = s.ctx.bars := rfl
@[simp] theorem addDW_ctx_bars (s : State) (n : Nat) (a : DAct) : (addDW s n a).ctx.bars = s.ctx.bars := rfl
@[simp] theorem putLatch_ctx_colls (s : State) (l : Latch) : (putLatch s l).ctx.colls = s.ctx.colls := rfl
@[simp] theorem addDW_ctx_colls (s : State) (n : Nat) (a : DAct) : (addDW s n a).ctx.colls = s.ctx.colls := rfl
@[simp] theorem putLatch_ctx_after (s : State) (l : Latch) : (putLatch s l).ctx.after = s.ctx.after := rfl
@[simp] theorem addDW_ctx_after (s : State) (n : Nat) (a : DAct) : (addDW s n a).ctx.after = s.ctx.after := rfl
@[simp] theorem putLatch_ctx_wins (s : State) (l : Latch) : (putLatch s l).ctx.wins = s.ctx.wins := rfl
@[simp] theorem addDW_ctx_wins (s : State) (n : Nat) (a : DAct) : (addDW s n a).ctx.wins = s.ctx.wins := rfl
@[simp] theorem putLatch_ctx_claims (s : State) (l : Latch) : (putLatch s l).ctx.claims = s.ctx.claims := rfl
@[simp] theorem addDW_ctx_claims (s : State) (n : Nat) (a : DAct) : (addDW s n a).ctx.claims = s.ctx.claims := rfl
@[simp] theorem putLatch_ctx_pwrlvl (s : State) (l : Latch) : (putLatch s l).ctx.pwrlvl = s.ctx.pwrlvl := rfl
@[simp] theorem addDW_ctx_pwrlvl (s : State) (n : Nat) (a : DAct) : (addDW s n a).ctx.pwrlvl = s.ctx.pwrlvl := rfl
@[simp] theorem putLatch_ctx_pwrWait (s : State) (l : Latch) : (putLatch s l).ctx.pwrWait = s.ctx.pwrWait := rfl
@[simp] theorem addDW_ctx_pwrWait (s : State) (n : Nat) (a : DAct) : (addDW s n a).ctx.pwrWait = s.ctx.pwrWait := rfl
@[simp] theorem putLatch_ctx_hang (s : State) (l : Latch) : (putLatch s l).ctx.hang = s.ctx.hang := rfl
@[simp] theorem addDW_ctx_hang (s : State) (n : Nat) (a : DAct) : (addDW s n a).ctx.hang = s.ctx.hang := rfl
@[simp] theorem putLatch_ctx_dwait (s : State) (l : Latch) : (putLatch s l).ctx.dwait = s.ctx.dwait := rfl
@[simp] theorem addDW_ctx_dwait (s : State) (n : Nat) (a : DAct) : (addDW s n a).ctx.dwait = s.ctx.dwait := rfl
@[simp] theorem putLatch_ctx_lanes (s : State) (l : Latch) : (putLatch s l).ctx.lanes = s.ctx.lanes := rfl
@[simp] theorem addDW_ctx_lanes (s : State) (n : Nat) (a : DAct) : (addDW s n a).ctx.lanes = s.ctx.lanes := rfl
@[simp] theorem putLatch_ctx_frozen (s : State) (l : Latch) : (putLatch s l).ctx.frozen = s.ctx.frozen := rfl
@[simp] theorem addDW_ctx_frozen (s : State) (n : Nat) (a : DAct) : (addDW s n a).ctx.frozen = s.ctx.frozen := rfl
@[simp] theorem putLatch_ctx_owed (s : State) (l : Latch) : (putLatch s l).ctx.owed = s.ctx.owed := rfl
@[simp] theorem addDW_ctx_owed (s : State) (n : Nat) (a : DAct) : (addDW s n a).ctx.owed = s.ctx.owed := rfl
@[simp] theorem putLatch_ctx_swapped (s : State) (l : Latch) : (putLatch s l).ctx.swapped = s.ctx.swapped := rfl
@[simp] theorem addDW_ctx_swapped (s : State) (n : Nat) (a : DAct) : (addDW s n a).ctx.swapped = s.ctx.swapped := rfl
@[simp] theorem putLatch_ctx_started (s : State) (l : Latch) : (putLatch s l).ctx.started = s.ctx.started := rfl
@[simp] theorem putLatch_ctx_begun (s : State) (l : Latch) : (putLatch s l).ctx.begun = s.ctx.begun := rfl
@[simp] theorem putLatch_ctx_haltH (s : State) (l : Latch) : (putLatch s l).ctx.haltH = s.ctx.haltH := rfl
@[simp] theorem putLatch_ctx_fileAt (s : State) (l : Latch) : (putLatch s l).ctx.fileAt = s.ctx.fileAt := rfl
@[simp] theorem addDW_ctx_started (s : State) (n : Nat) (a : DAct) : (addDW s n a).ctx.started = s.ctx.started := rfl
@[simp] theorem addDW_ctx_begun (s : State) (n : Nat) (a : DAct) : (addDW s n a).ctx.begun = s.ctx.begun := rfl
@[simp] theorem addDW_ctx_haltH (s : State) (n : Nat) (a : DAct) : (addDW s n a).ctx.haltH = s.ctx.haltH := rfl
@[simp] theorem addDW_ctx_fileAt (s : State) (n : Nat) (a : DAct) : (addDW s n a).ctx.fileAt = s.ctx.fileAt := rfl
@[simp] theorem putLatch_ctx_collides (s : State) (l : Latch) : (putLatch s l).ctx.collides = s.ctx.collides := rfl
@[simp] theorem addDW_ctx_collides (s : State) (n : Nat) (a : DAct) : (addDW s n a).ctx.collides = s.ctx.collides := rfl

/-! ## Charges -/

@[simp] theorem charge_others (s : State) (n : Nat) : (charge s n).others = s.others := rfl
@[simp] theorem charge_agenda (s : State) (n : Nat) : (charge s n).agenda = s.agenda := rfl
@[simp] theorem charge_rota (s : State) (n : Nat) : (charge s n).rota = s.rota := rfl
@[simp] theorem charge_edge (s : State) (n : Nat) : (charge s n).edge = s.edge := rfl
@[simp] theorem charge_tick (s : State) (n : Nat) : (charge s n).tick = s.tick := rfl
@[simp] theorem charge_sub (s : State) (n : Nat) : (charge s n).sub = s.sub := rfl
@[simp] theorem charge_cycle (s : State) (n : Nat) : (charge s n).cycle = s.cycle := rfl
@[simp] theorem charge_fresh (s : State) (n : Nat) : (charge s n).fresh = s.fresh := rfl
@[simp] theorem charge_free (s : State) (n : Nat) : (charge s n).free = s.free := rfl
@[simp] theorem charge_synd (s : State) (n : Nat) : (charge s n).synd = s.synd := rfl
@[simp] theorem charge_dirty (s : State) (n : Nat) : (charge s n).dirty = s.dirty := rfl
@[simp] theorem charge_acc (s : State) (n : Nat) : (charge s n).acc = s.acc := rfl
@[simp] theorem charge_asyn (s : State) (n : Nat) : (charge s n).asyn = s.asyn := rfl
@[simp] theorem charge_lanes (s : State) (n : Nat) : (charge s n).lanes = s.lanes := rfl
@[simp] theorem charge_qprev (s : State) (n : Nat) : (charge s n).qprev = s.qprev := rfl
@[simp] theorem charge_rows (s : State) (n : Nat) : (charge s n).rows = s.rows := rfl
@[simp] theorem charge_net (s : State) (n : Nat) : (charge s n).net = s.net := rfl
@[simp] theorem charge_host (s : State) (n : Nat) : (charge s n).host = s.host := rfl
@[simp] theorem charge_welt (s : State) (n : Nat) : (charge s n).welt = s.welt := rfl
@[simp] theorem charge_cob (s : State) (n : Nat) : (charge s n).cob = s.cob := rfl
@[simp] theorem charge_img (s : State) (n : Nat) : (charge s n).img = s.img := rfl
@[simp] theorem charge_booted (s : State) (n : Nat) : (charge s n).booted = s.booted := rfl
@[simp] theorem charge_recovery (s : State) (n : Nat) : (charge s n).recovery = s.recovery := rfl
@[simp] theorem charge_ctx_cid (s : State) (n : Nat) : (charge s n).ctx.cid = s.ctx.cid := by
  simp only [charge, up_ctx, Ctx.charge]; (repeat' split) <;> rfl
@[simp] theorem charge_ctx_src (s : State) (n : Nat) : (charge s n).ctx.src = s.ctx.src := by
  simp only [charge, up_ctx, Ctx.charge]; (repeat' split) <;> rfl
@[simp] theorem charge_ctx_lid (s : State) (n : Nat) : (charge s n).ctx.lid = s.ctx.lid := by
  simp only [charge, up_ctx, Ctx.charge]; (repeat' split) <;> rfl
@[simp] theorem charge_ctx_wid (s : State) (n : Nat) : (charge s n).ctx.wid = s.ctx.wid := by
  simp only [charge, up_ctx, Ctx.charge]; (repeat' split) <;> rfl
@[simp] theorem charge_ctx_core (s : State) (n : Nat) : (charge s n).ctx.core = s.ctx.core := by
  simp only [charge, up_ctx, Ctx.charge]; (repeat' split) <;> rfl
@[simp] theorem charge_ctx_unit (s : State) (n : Nat) : (charge s n).ctx.unit = s.ctx.unit := by
  simp only [charge, up_ctx, Ctx.charge]; (repeat' split) <;> rfl
@[simp] theorem charge_ctx_ctxno (s : State) (n : Nat) : (charge s n).ctx.ctxno = s.ctx.ctxno := by
  simp only [charge, up_ctx, Ctx.charge]; (repeat' split) <;> rfl
@[simp] theorem charge_ctx_upper (s : State) (n : Nat) : (charge s n).ctx.upper = s.ctx.upper := by
  simp only [charge, up_ctx, Ctx.charge]; (repeat' split) <;> rfl
@[simp] theorem charge_ctx_role (s : State) (n : Nat) : (charge s n).ctx.role = s.ctx.role := by
  simp only [charge, up_ctx, Ctx.charge]; (repeat' split) <;> rfl
@[simp] theorem charge_ctx_status (s : State) (n : Nat) : (charge s n).ctx.status = s.ctx.status := by
  simp only [charge, up_ctx, Ctx.charge]; (repeat' split) <;> rfl
@[simp] theorem charge_ctx_sv (s : State) (n : Nat) : (charge s n).ctx.sv = s.ctx.sv := by
  simp only [charge, up_ctx, Ctx.charge]; (repeat' split) <;> rfl
@[simp] theorem charge_ctx_cobbler (s : State) (n : Nat) : (charge s n).ctx.cobbler = s.ctx.cobbler := by
  simp only [charge, up_ctx, Ctx.charge]; (repeat' split) <;> rfl
@[simp] theorem charge_ctx_r (s : State) (n : Nat) : (charge s n).ctx.r = s.ctx.r := by
  simp only [charge, up_ctx, Ctx.charge]; (repeat' split) <;> rfl
@[simp] theorem charge_ctx_pc (s : State) (n : Nat) : (charge s n).ctx.pc = s.ctx.pc := by
  simp only [charge, up_ctx, Ctx.charge]; (repeat' split) <;> rfl
@[simp] theorem charge_ctx_npc (s : State) (n : Nat) : (charge s n).ctx.npc = s.ctx.npc := by
  simp only [charge, up_ctx, Ctx.charge]; (repeat' split) <;> rfl
@[simp] theorem charge_ctx_fin (s : State) (n : Nat) : (charge s n).ctx.fin = s.ctx.fin := by
  simp only [charge, up_ctx, Ctx.charge]; (repeat' split) <;> rfl
@[simp] theorem charge_ctx_flNow (s : State) (n : Nat) : (charge s n).ctx.flNow = s.ctx.flNow := by
  simp only [charge, up_ctx, Ctx.charge]; (repeat' split) <;> rfl
@[simp] theorem charge_ctx_redo (s : State) (n : Nat) : (charge s n).ctx.redo = s.ctx.redo := by
  simp only [charge, up_ctx, Ctx.charge]; (repeat' split) <;> rfl
@[simp] theorem charge_ctx_tclk (s : State) (n : Nat) : (charge s n).ctx.tclk = s.ctx.tclk := by
  simp only [charge, up_ctx, Ctx.charge]; (repeat' split) <;> rfl
@[simp] theorem charge_ctx_hclk (s : State) (n : Nat) : (charge s n).ctx.hclk = s.ctx.hclk := by
  simp only [charge, up_ctx, Ctx.charge]; (repeat' split) <;> rfl
@[simp] theorem charge_ctx_hdr (s : State) (n : Nat) : (charge s n).ctx.hdr = s.ctx.hdr := by
  simp only [charge, up_ctx, Ctx.charge]; (repeat' split) <;> rfl
@[simp] theorem charge_ctx_code (s : State) (n : Nat) : (charge s n).ctx.code = s.ctx.code := by
  simp only [charge, up_ctx, Ctx.charge]; (repeat' split) <;> rfl
@[simp] theorem charge_ctx_grant (s : State) (n : Nat) : (charge s n).ctx.grant = s.ctx.grant := by
  simp only [charge, up_ctx, Ctx.charge]; (repeat' split) <;> rfl
@[simp] theorem charge_ctx_iss (s : State) (n : Nat) : (charge s n).ctx.iss = s.ctx.iss := by
  simp only [charge, up_ctx, Ctx.charge]; (repeat' split) <;> rfl
@[simp] theorem charge_ctx_pfx (s : State) (n : Nat) : (charge s n).ctx.pfx = s.ctx.pfx := by
  simp only [charge, up_ctx, Ctx.charge]; (repeat' split) <;> rfl
@[simp] theorem charge_ctx_latches (s : State) (n : Nat) : (charge s n).ctx.latches = s.ctx.latches := by
  simp only [charge, up_ctx, Ctx.charge]; (repeat' split) <;> rfl
@[simp] theorem charge_ctx_dws (s : State) (n : Nat) : (charge s n).ctx.dws = s.ctx.dws := by
  simp only [charge, up_ctx, Ctx.charge]; (repeat' split) <;> rfl
@[simp] theorem charge_ctx_vq (s : State) (n : Nat) : (charge s n).ctx.vq = s.ctx.vq := by
  simp only [charge, up_ctx, Ctx.charge]; (repeat' split) <;> rfl
@[simp] theorem charge_ctx_xq (s : State) (n : Nat) : (charge s n).ctx.xq = s.ctx.xq := by
  simp only [charge, up_ctx, Ctx.charge]; (repeat' split) <;> rfl
@[simp] theorem charge_ctx_cq (s : State) (n : Nat) : (charge s n).ctx.cq = s.ctx.cq := by
  simp only [charge, up_ctx, Ctx.charge]; (repeat' split) <;> rfl
@[simp] theorem charge_ctx_uws (s : State) (n : Nat) : (charge s n).ctx.uws = s.ctx.uws := by
  simp only [charge, up_ctx, Ctx.charge]; (repeat' split) <;> rfl
@[simp] theorem charge_ctx_touch (s : State) (n : Nat) : (charge s n).ctx.touch = s.ctx.touch := by
  simp only [charge, up_ctx, Ctx.charge]; (repeat' split) <;> rfl
@[simp] theorem charge_ctx_wait (s : State) (n : Nat) : (charge s n).ctx.wait = s.ctx.wait := by
  simp only [charge, up_ctx, Ctx.charge]; (repeat' split) <;> rfl
@[simp] theorem charge_ctx_pend (s : State) (n : Nat) : (charge s n).ctx.pend = s.ctx.pend := by
  simp only [charge, up_ctx, Ctx.charge]; (repeat' split) <;> rfl
@[simp] theorem charge_ctx_dly (s : State) (n : Nat) : (charge s n).ctx.dly = s.ctx.dly := by
  simp only [charge, up_ctx, Ctx.charge]; (repeat' split) <;> rfl
@[simp] theorem charge_ctx_swt (s : State) (n : Nat) : (charge s n).ctx.swt = s.ctx.swt := by
  simp only [charge, up_ctx, Ctx.charge]; (repeat' split) <;> rfl
@[simp] theorem charge_ctx_swtPc (s : State) (n : Nat) : (charge s n).ctx.swtPc = s.ctx.swtPc := by
  simp only [charge, up_ctx, Ctx.charge]; (repeat' split) <;> rfl
@[simp] theorem charge_ctx_cands (s : State) (n : Nat) : (charge s n).ctx.cands = s.ctx.cands := by
  simp only [charge, up_ctx, Ctx.charge]; (repeat' split) <;> rfl
@[simp] theorem charge_ctx_fatal (s : State) (n : Nat) : (charge s n).ctx.fatal = s.ctx.fatal := by
  simp only [charge, up_ctx, Ctx.charge]; (repeat' split) <;> rfl
@[simp] theorem charge_ctx_tcause (s : State) (n : Nat) : (charge s n).ctx.tcause = s.ctx.tcause := by
  simp only [charge, up_ctx, Ctx.charge]; (repeat' split) <;> rfl
@[simp] theorem charge_ctx_tinfo (s : State) (n : Nat) : (charge s n).ctx.tinfo = s.ctx.tinfo := by
  simp only [charge, up_ctx, Ctx.charge]; (repeat' split) <;> rfl
@[simp] theorem charge_ctx_saved (s : State) (n : Nat) : (charge s n).ctx.saved = s.ctx.saved := by
  simp only [charge, up_ctx, Ctx.charge]; (repeat' split) <;> rfl
@[simp] theorem charge_ctx_detval (s : State) (n : Nat) : (charge s n).ctx.detval = s.ctx.detval := by
  simp only [charge, up_ctx, Ctx.charge]; (repeat' split) <;> rfl
@[simp] theorem charge_ctx_fidx (s : State) (n : Nat) : (charge s n).ctx.fidx = s.ctx.fidx := by
  simp only [charge, up_ctx, Ctx.charge]; (repeat' split) <;> rfl
@[simp] theorem charge_ctx_tmr (s : State) (n : Nat) : (charge s n).ctx.tmr = s.ctx.tmr := by
  simp only [charge, up_ctx, Ctx.charge]; (repeat' split) <;> rfl
@[simp] theorem charge_ctx_tmrCnt (s : State) (n : Nat) : (charge s n).ctx.tmrCnt = s.ctx.tmrCnt := by
  simp only [charge, up_ctx, Ctx.charge]; (repeat' split) <;> rfl
@[simp] theorem charge_ctx_tmrPend (s : State) (n : Nat) : (charge s n).ctx.tmrPend = s.ctx.tmrPend := by
  simp only [charge, up_ctx, Ctx.charge]; (repeat' split) <;> rfl
@[simp] theorem charge_ctx_signals (s : State) (n : Nat) : (charge s n).ctx.signals = s.ctx.signals := by
  simp only [charge, up_ctx, Ctx.charge]; (repeat' split) <;> rfl
@[simp] theorem charge_ctx_notices (s : State) (n : Nat) : (charge s n).ctx.notices = s.ctx.notices := by
  simp only [charge, up_ctx, Ctx.charge]; (repeat' split) <;> rfl
@[simp] theorem charge_ctx_preReq (s : State) (n : Nat) : (charge s n).ctx.preReq = s.ctx.preReq := by
  simp only [charge, up_ctx, Ctx.charge]; (repeat' split) <;> rfl
@[simp] theorem charge_ctx_preCnt (s : State) (n : Nat) : (charge s n).ctx.preCnt = s.ctx.preCnt := by
  simp only [charge, up_ctx, Ctx.charge]; (repeat' split) <;> rfl
@[simp] theorem charge_ctx_preLate (s : State) (n : Nat) : (charge s n).ctx.preLate = s.ctx.preLate := by
  simp only [charge, up_ctx, Ctx.charge]; (repeat' split) <;> rfl
@[simp] theorem charge_ctx_slice (s : State) (n : Nat) : (charge s n).ctx.slice = s.ctx.slice := by
  simp only [charge, up_ctx, Ctx.charge]; (repeat' split) <;> rfl
@[simp] theorem charge_ctx_ended (s : State) (n : Nat) : (charge s n).ctx.ended = s.ctx.ended := by
  simp only [charge, up_ctx, Ctx.charge]; (repeat' split) <;> rfl
@[simp] theorem charge_ctx_powOver (s : State) (n : Nat) : (charge s n).ctx.powOver = s.ctx.powOver := by
  simp only [charge, up_ctx, Ctx.charge]; (repeat' split) <;> rfl
@[simp] theorem charge_ctx_overDone (s : State) (n : Nat) : (charge s n).ctx.overDone = s.ctx.overDone := by
  simp only [charge, up_ctx, Ctx.charge]; (repeat' split) <;> rfl
@[simp] theorem charge_ctx_rcyc (s : State) (n : Nat) : (charge s n).ctx.rcyc = s.ctx.rcyc := by
  simp only [charge, up_ctx, Ctx.charge]; (repeat' split) <;> rfl
@[simp] theorem charge_ctx_blkc (s : State) (n : Nat) : (charge s n).ctx.blkc = s.ctx.blkc := by
  simp only [charge, up_ctx, Ctx.charge]; (repeat' split) <;> rfl
@[simp] theorem charge_ctx_blocked (s : State) (n : Nat) : (charge s n).ctx.blocked = s.ctx.blocked := by
  simp only [charge, up_ctx, Ctx.charge]; (repeat' split) <;> rfl
@[simp] theorem charge_ctx_parkedAt (s : State) (n : Nat) : (charge s n).ctx.parkedAt = s.ctx.parkedAt := by
  simp only [charge, up_ctx, Ctx.charge]; (repeat' split) <;> rfl
@[simp] theorem charge_ctx_openPh (s : State) (n : Nat) : (charge s n).ctx.openPh = s.ctx.openPh := by
  simp only [charge, up_ctx, Ctx.charge]; (repeat' split) <;> rfl
@[simp] theorem charge_ctx_pubd (s : State) (n : Nat) : (charge s n).ctx.pubd = s.ctx.pubd := by
  simp only [charge, up_ctx, Ctx.charge]; (repeat' split) <;> rfl
@[simp] theorem charge_ctx_closing (s : State) (n : Nat) : (charge s n).ctx.closing = s.ctx.closing := by
  simp only [charge, up_ctx, Ctx.charge]; (repeat' split) <;> rfl
@[simp] theorem charge_ctx_stamps (s : State) (n : Nat) : (charge s n).ctx.stamps = s.ctx.stamps := by
  simp only [charge, up_ctx, Ctx.charge]; (repeat' split) <;> rfl
@[simp] theorem charge_ctx_bars (s : State) (n : Nat) : (charge s n).ctx.bars = s.ctx.bars := by
  simp only [charge, up_ctx, Ctx.charge]; (repeat' split) <;> rfl
@[simp] theorem charge_ctx_colls (s : State) (n : Nat) : (charge s n).ctx.colls = s.ctx.colls := by
  simp only [charge, up_ctx, Ctx.charge]; (repeat' split) <;> rfl
@[simp] theorem charge_ctx_after (s : State) (n : Nat) : (charge s n).ctx.after = s.ctx.after := by
  simp only [charge, up_ctx, Ctx.charge]; (repeat' split) <;> rfl
@[simp] theorem charge_ctx_wins (s : State) (n : Nat) : (charge s n).ctx.wins = s.ctx.wins := by
  simp only [charge, up_ctx, Ctx.charge]; (repeat' split) <;> rfl
@[simp] theorem charge_ctx_claims (s : State) (n : Nat) : (charge s n).ctx.claims = s.ctx.claims := by
  simp only [charge, up_ctx, Ctx.charge]; (repeat' split) <;> rfl
@[simp] theorem charge_ctx_pwrlvl (s : State) (n : Nat) : (charge s n).ctx.pwrlvl = s.ctx.pwrlvl := by
  simp only [charge, up_ctx, Ctx.charge]; (repeat' split) <;> rfl
@[simp] theorem charge_ctx_pwrWait (s : State) (n : Nat) : (charge s n).ctx.pwrWait = s.ctx.pwrWait := by
  simp only [charge, up_ctx, Ctx.charge]; (repeat' split) <;> rfl
@[simp] theorem charge_ctx_hang (s : State) (n : Nat) : (charge s n).ctx.hang = s.ctx.hang := by
  simp only [charge, up_ctx, Ctx.charge]; (repeat' split) <;> rfl
@[simp] theorem charge_ctx_dwait (s : State) (n : Nat) : (charge s n).ctx.dwait = s.ctx.dwait := by
  simp only [charge, up_ctx, Ctx.charge]; (repeat' split) <;> rfl
@[simp] theorem charge_ctx_lanes (s : State) (n : Nat) : (charge s n).ctx.lanes = s.ctx.lanes := by
  simp only [charge, up_ctx, Ctx.charge]; (repeat' split) <;> rfl
@[simp] theorem charge_ctx_frozen (s : State) (n : Nat) : (charge s n).ctx.frozen = s.ctx.frozen := by
  simp only [charge, up_ctx, Ctx.charge]; (repeat' split) <;> rfl
@[simp] theorem charge_ctx_owed (s : State) (n : Nat) : (charge s n).ctx.owed = s.ctx.owed := by
  simp only [charge, up_ctx, Ctx.charge]; (repeat' split) <;> rfl
@[simp] theorem charge_ctx_swapped (s : State) (n : Nat) : (charge s n).ctx.swapped = s.ctx.swapped := by
  simp only [charge, up_ctx, Ctx.charge]; (repeat' split) <;> rfl
@[simp] theorem charge_ctx_started (s : State) (n : Nat) : (charge s n).ctx.started = s.ctx.started := by
  simp only [charge, up_ctx, Ctx.charge]; (repeat' split) <;> rfl
@[simp] theorem charge_ctx_begun (s : State) (n : Nat) : (charge s n).ctx.begun = s.ctx.begun := by
  simp only [charge, up_ctx, Ctx.charge]; (repeat' split) <;> rfl
@[simp] theorem charge_ctx_haltH (s : State) (n : Nat) : (charge s n).ctx.haltH = s.ctx.haltH := by
  simp only [charge, up_ctx, Ctx.charge]; (repeat' split) <;> rfl
@[simp] theorem charge_ctx_fileAt (s : State) (n : Nat) : (charge s n).ctx.fileAt = s.ctx.fileAt := by
  simp only [charge, up_ctx, Ctx.charge]; (repeat' split) <;> rfl
@[simp] theorem charge_ctx_collides (s : State) (n : Nat) : (charge s n).ctx.collides = s.ctx.collides := by
  simp only [charge, up_ctx, Ctx.charge]; (repeat' split) <;> rfl

/-! ## What follows from the context's registers and issue attributes alone -/

@[simp] theorem charge_now (s : State) (n : Nat) : (charge s n).ctx.now = s.ctx.now := by simp [Ctx.now]
@[simp] theorem charge_rdG (s : State) (n : Nat) (r : Fin 32) : rdG (charge s n) r = rdG s r := by simp [rdG]
@[simp] theorem charge_rdP (s : State) (n : Nat) (r : Fin 8) : rdP (charge s n) r = rdP s r := by simp [rdP]
@[simp] theorem charge_weight (s : State) (n k : Nat) : weight (charge s n) k = weight s k := rfl
@[simp] theorem rdG_zero (s : State) : rdG s 0 = 0 := rfl
@[simp] theorem rdP_zero (s : State) : rdP s 0 = true := rfl

end Sys2Proof.Laws
end

