-- ==== Sys2Proof/Laws/Scalar.lean ====
section
/-! SUPPORT. The shared operations of the scalar classes when their syllable acts, and a charge seen through the values
that a latch takes. -/

-- one proof at a time
set_option Elab.async false

namespace Sys2Proof.Laws

open Sys2Proof.Machine

@[simp] theorem charge_fw (s : State) (n k : Nat) : fw (charge s n) k = fw s k := rfl

@[simp] theorem charge_mkTrap (s : State) (n c : Nat) (a b d : Option Word) :
    mkTrap (charge s n) c a b d = mkTrap s c a b d := by simp [mkTrap]

@[simp] theorem charge_requester (s : State) (n a b c : Nat) : requester (charge s n).ctx a b c = requester s.ctx a b c := by
  simp [requester]

@[simp] theorem charge_badReg (s : State) (n k : Nat) (ns : List (Fin 32)) : badReg (charge s n) k ns = badReg s k ns := by
  have : regTrap (charge s n) k = regTrap s k := by funext m; simp [regTrap]
  simp [badReg, this]

@[simp] theorem charge_fpBad (s : State) (n : Nat) (r : Res) : fpBad (charge s n) r = fpBad s r := by simp [fpBad]

@[simp] theorem charge_newLatch (s : State) (n lat : Nat) (d : Dest) (v : Word) (fl : Nat) (bad : Option Trap) :
    newLatch (charge s n) lat d v fl bad = newLatch s lat d v fl bad := by simp [newLatch, Ctx.now]

/-- An S syllable that acts. -/
theorem sOp_next (s : State) (h : acts s = true) (lat : Nat) (d : Dest) (srcs : List (Fin 32)) (v : Word) :
    sOp s lat d srcs v 0 none = .next (scalarNext s lat d srcs v) := by
  simp [sOp, h, scalarNext]

/-- An S syllable with an integer result that acts. -/
theorem sInt1_next (s : State) (h : acts s = true) (lat : Nat) (d : Fin 32) (srcs : List (Fin 32)) (v : Word) :
    sInt1 s lat d srcs v = .next (scalarNext s lat (.g d) srcs v) := sOp_next s h lat (.g d) srcs v

/-- An S syllable with a predicate result that acts. -/
theorem sPred_next (s : State) (h : acts s = true) (d : Fin 8) (srcs : List (Fin 32)) (v : Bool) :
    sPred s d srcs v = .next (scalarNext s 1 (.p d) srcs (predWord v)) := sOp_next s h 1 (.p d) srcs (predWord v)

/-- A scalar floating-point syllable that acts. -/
theorem fpLatch_next (s : State) (h : acts s = true) (lat : Nat) (d : Dest) (srcs : List (Fin 32)) (r : Res) (v : Word) :
    fpLatch s lat d srcs r v = .next (floatNext s lat d srcs r v) := by
  simp [fpLatch, h, floatNext]

end Sys2Proof.Laws
end

