-- ==== Sys2Proof/Laws/Commit.lean ====
section
/-! SUPPORT. Commits at a boundary (R336): what one commit does to registers, and the boundary of a single latch. -/

-- one proof at a time
set_option Elab.async false

namespace Sys2Proof.Laws

open Sys2Proof.Machine

@[simp] theorem dueTaken_r (s : State) (t : Nat) : (dueTaken s t).ctx.r = s.ctx.r := rfl
@[simp] theorem dueTaken_status (s : State) (t : Nat) : (dueTaken s t).ctx.status = s.ctx.status := rfl
@[simp] theorem dueTaken_pc (s : State) (t : Nat) : (dueTaken s t).ctx.pc = s.ctx.pc := rfl
@[simp] theorem dueTaken_mem' (s : State) (t : Nat) : (dueTaken s t).mem = s.mem := rfl
@[simp] theorem dueTaken_latches (s : State) (t : Nat) :
    (dueTaken s t).ctx.latches = s.ctx.latches.filter fun l => !(l.due ≤ t) := rfl

@[simp] theorem sortLatches_r (s : State) : (sortLatches s).ctx.r = s.ctx.r := rfl
@[simp] theorem sortLatches_status (s : State) : (sortLatches s).ctx.status = s.ctx.status := rfl
@[simp] theorem sortLatches_pc (s : State) : (sortLatches s).ctx.pc = s.ctx.pc := rfl

/-- A general register but g0 after a result is written to its destination. -/
theorem setDest_g (s : State) (d : Dest) (v : Word) (n : Fin 32) (hn : n ≠ 0) :
    (setDest s d v).ctx.r.g[n] = if d = .g n then v else s.ctx.r.g[n] := by
  cases d with
  | g m =>
    by_cases hm : m = 0
    · have hd : (setDest s (.g m) v).ctx.r.g = s.ctx.r.g := by simp [setDest, hm]
      have he : ¬m = n := fun h => hn (by rw [← h, hm])
      simp only [hd, Dest.g.injEq, he, if_false]
    · have hd : (setDest s (.g m) v).ctx.r.g = s.ctx.r.g.set m v := by simp [setDest, hm]
      simp only [hd, Dest.g.injEq]
      by_cases he : m = n
      · subst he; simp
      · simp only [he, if_false]; exact Vector.getElem_set_ne _ _ fun h => he (Fin.ext h)
  | p m =>
    have hd : (setDest s (.p m) v).ctx.r.g = s.ctx.r.g := by simp only [setDest, upR_ctx]; split <;> rfl
    simp [hd]
  | pm m => simp [setDest]
  | q m => simp [setDest]

/-- A general register after a result is written to its destination. -/
theorem rdG_setDest (s : State) (d : Dest) (v : Word) (n : Fin 32) :
    rdG (setDest s d v) n = if d = .g n ∧ n ≠ 0 then v else rdG s n := by
  by_cases hn : n = 0
  · simp [rdG, hn]
  · simp only [rdG, hn, if_false, setDest_g s d v n hn, ne_eq, not_false_eq_true, and_true]

/-- A predicate but p0 after a result is written to its destination. -/
theorem setDest_p (s : State) (d : Dest) (v : Word) (n : Fin 8) (hn : n ≠ 0) :
    (setDest s d v).ctx.r.p[n] = if d = .p n then v.getLsbD 0 else s.ctx.r.p[n] := by
  cases d with
  | p m =>
    by_cases hm : m = 0
    · have hd : (setDest s (.p m) v).ctx.r.p = s.ctx.r.p := by simp [setDest, hm]
      have he : ¬m = n := fun h => hn (by rw [← h, hm])
      simp only [hd, Dest.p.injEq, he, if_false]
    · have hd : (setDest s (.p m) v).ctx.r.p = s.ctx.r.p.set m (v.getLsbD 0) := by simp [setDest, hm]
      simp only [hd, Dest.p.injEq]
      by_cases he : m = n
      · subst he; simp
      · simp only [he, if_false]; exact Vector.getElem_set_ne _ _ fun h => he (Fin.ext h)
  | g m =>
    have hd : (setDest s (.g m) v).ctx.r.p = s.ctx.r.p := by simp only [setDest, upR_ctx]; split <;> rfl
    simp [hd]
  | pm m => simp [setDest]
  | q m => simp [setDest]

/-- A predicate after a result is written to its destination. -/
theorem rdP_setDest (s : State) (d : Dest) (v : Word) (n : Fin 8) :
    rdP (setDest s d v) n = if d = .p n ∧ n ≠ 0 then v.getLsbD 0 else rdP s n := by
  by_cases hn : n = 0
  · simp [rdP, hn]
  · simp only [rdP, hn, setDest_p s d v n hn, ne_eq, not_false_eq_true, and_true]
    split <;> simp [hn]

/-- A latch alone that is due is all that commits. -/
theorem commitsAt_one (c : Ctx) (l : Latch) (t : Nat) (h : c.latches = [l]) (hu : c.uws = []) (hd : l.due ≤ t) :
    commitsAt c t = [.latch l] := by
  simp [commitsAt, h, hu, hd, sortBy, insertBy]

/-- The boundary at which one latch commits and raises nothing. -/
theorem commitAll_one (s : State) (l : Latch) (t : Nat) (hc : commitsAt s.ctx t = [.latch l]) (hb : l.bad = none)
    (hs : l.syn = 0) : commitAll s t = sortLatches (commitLatch (dueTaken s t) l) := by
  have : latchRaises (dueTaken s t).ctx l = none := by simp [latchRaises, hb, hs]
  simp only [commitAll, hc, commitEach, commitOne, this]

/-- The boundary at which one latch raises a trap. -/
theorem commitAll_trap (s : State) (l : Latch) (t : Nat) (x : Trap) (hc : commitsAt s.ctx t = [.latch l])
    (hx : latchRaises (dueTaken s t).ctx l = some x) :
    commitAll s t = takeTrap (sortLatches (failLatch (dueTaken s t) l x)) x := by
  simp only [commitAll, hc, commitEach, commitOne, hx, Option.isSome_none, Bool.false_eq_true, if_false]

end Sys2Proof.Laws
end

