-- ==== Sys2Proof/Laws/Engine.lean ====
section
/-! SUPPORT. What the issue of an engine instruction does: each V, X and C instruction is the one shared operation on
its form, which queues its command, raises its trap, or does nothing but its charge. -/

-- one proof at a time
set_option Elab.async false

namespace Sys2Proof.Laws

open Sys2Proof.Machine

theorem vArithForm_exec (s : State) (i : Instr) (f : EForm) (h : vArithForm s i = some f) :
    exec i s = engineOp s f.op f.uses f.ks f.ga f.gb f.aux 0 f.dst f.lim f.fin := by
  unfold vArithForm at h; split at h <;> first | (cases h; done) | (cases h; rfl)

theorem vBitForm_exec (s : State) (i : Instr) (f : EForm) (h : vBitForm s i = some f) :
    exec i s = engineOp s f.op f.uses f.ks f.ga f.gb f.aux 0 f.dst f.lim f.fin := by
  unfold vBitForm at h; split at h <;> first | (cases h; done) | (cases h; rfl)

theorem vWholeForm_exec (s : State) (i : Instr) (f : EForm) (h : vWholeForm s i = some f) :
    exec i s = engineOp s f.op f.uses f.ks f.ga f.gb f.aux 0 f.dst f.lim f.fin := by
  unfold vWholeForm at h; split at h <;> first | (cases h; done) | (cases h; rfl)

theorem vForm_exec (s : State) (i : Instr) (f : EForm) (h : vForm s i = some f) :
    exec i s = engineOp s f.op f.uses f.ks f.ga f.gb f.aux 0 f.dst f.lim f.fin := by
  simp only [vForm, Option.or_eq_some_iff] at h
  rcases h with h | ⟨-, h | ⟨-, h⟩⟩
  · exact vArithForm_exec s i f h
  · exact vBitForm_exec s i f h
  · exact vWholeForm_exec s i f h

theorem xForm_exec (s : State) (i : Instr) (f : EForm) (h : xForm s i = some f) :
    exec i s = engineOp s f.op f.uses f.ks f.ga f.gb f.aux 0 f.dst f.lim f.fin := by
  unfold xForm at h
  split at h <;> first | (cases h; done) | (cases h; rfl) | skip
  all_goals
    split at h
    · cases h
    · rename_i hs
      cases h
      simp only [exec, execAccst, execAccld, if_neg hs]
      rfl

theorem cForm_exec (s : State) (i : Instr) (f : EForm) (h : cForm s i = some f) :
    exec i s = engineOp s f.op f.uses f.ks f.ga f.gb f.aux 0 f.dst f.lim f.fin := by
  unfold cForm at h; split at h <;> first | (cases h; done) | (cases h; rfl)

/-- An engine instruction is the shared operation on its form. -/
theorem engineForm_exec (s : State) (i : Instr) (f : EForm) (h : engineForm s i = some f) :
    exec i s = engineOp s f.op f.uses f.ks f.ga f.gb f.aux 0 f.dst f.lim f.fin := by
  simp only [engineForm, Option.or_eq_some_iff] at h
  rcases h with h | ⟨-, h | ⟨-, h⟩⟩
  · exact vForm_exec s i f h
  · exact xForm_exec s i f h
  · exact cForm_exec s i f h

/-- The shared operation when nothing stands against the issue. -/
theorem engineOp_runs (s : State) (f : EForm) (h : f.runs s) :
    engineOp s f.op f.uses f.ks f.ga f.gb f.aux 0 f.dst f.lim f.fin = .next (f.next s) := by
  obtain ⟨ha, ht, hm, hw⟩ := h
  simp only [EForm.trap] at ht
  simp only [EForm.cmd] at hm hw
  simp only [engineOp, ha, ht, hm, hw, if_true, Bool.false_eq_true, if_false, EForm.next, EForm.cmd]

/-- The shared operation when the issue raises a trap. -/
theorem engineOp_trap (s : State) (f : EForm) (t : Trap) (ha : acts s = true) (ht : f.trap s = some t) :
    engineOp s f.op f.uses f.ks f.ga f.gb f.aux 0 f.dst f.lim f.fin = .next (takeTrap s t) := by
  simp only [EForm.trap] at ht
  simp only [engineOp, ha, ht, if_true]

/-- The shared operation when the syllable does not act. -/
theorem engineOp_idle (s : State) (f : EForm) (ha : acts s = false) :
    engineOp s f.op f.uses f.ks f.ga f.gb f.aux 0 f.dst f.lim f.fin = .next (idle s) := by
  simp only [engineOp, ha, Bool.false_eq_true, if_false]

end Sys2Proof.Laws
end

