-- ==== Sys2Proof/Laws/Turn.lean ====
section
/-! SUPPORT. The turn of a context taken apart: its boundary, its writes and waits, and the issue of its bundle. -/

-- one proof at a time
set_option Elab.async false

namespace Sys2Proof.Laws

open Sys2Proof.Machine

/-- The turn of a context that owes no accesses, from its boundary on. -/
theorem solo_eq (s : State) (ho : s.ctx.owed = false) :
    solo s =
      if (chosen (atBoundary s) (atBoundary s).ctx.now).isSome = true then
        nextOr (atBoundary s) (execTakingATrap (atBoundary s))
      else if (boundaryWrites (atBoundary s)).ctx.iss.trapped = true then boundaryWrites (atBoundary s)
      else waitTurn (boundaryWrites (atBoundary s)) := by
  have h : (s.up fun c => { c with lanes := 0, iss := { c.iss with trapped := false } }).ctx.owed = false := ho
  simp only [solo, h, Bool.false_eq_true, if_false]
  rfl

/-- A context with no wait left and nothing that holds its bundle comes to its issue. -/
theorem waitTurn_issues (s : State) (hw : (nextOr s (execWaittExpiry s)).ctx.wait = .none)
    (hh : (nextOr s (execWaittExpiry s)).ctx.status = .handler ∨
      holdKind (nextOr s (execWaittExpiry s)) (nextOr s (execWaittExpiry s)).ctx.now = none) :
    waitTurn s = issueTurn (nextOr s (execWaittExpiry s)) := by
  simp only [waitTurn, hw, if_true]
  split
  · rename_i k hk
    rcases hh with h | h <;> simp [h] at hk
  · rfl

/-- The turn of a context that reaches its issue. -/
theorem solo_issues (s : State) (h : reachesIssue s) : solo s = fetchIssue (atIssue s) := by
  obtain ⟨ho, hc, ht, hw, hh⟩ := h
  rw [solo_eq s ho, hc, ht]
  simp only [Option.isSome_none, Bool.false_eq_true, if_false]
  exact waitTurn_issues _ hw hh

end Sys2Proof.Laws
end

