-- ==== Sys2Proof/Tests/Slice0.lean ====
section
/-! SUPPORT. Tests: ill-formed terms, words written out from the encodings, single steps on small states, and for each
statement a state and operands that meet its hypotheses. Expected results come from the rules named beside them. -/

namespace Sys2Proof.Tests

-- one kernel evaluation at a time
set_option Elab.async false

open Sys2Proof.Machine

/-! ## Ill-formed terms (R144, R145, R156, R161, R193, R200, R203, R213, R222) -/

/-- A syllable without guard or attributes. -/
def plain (i : Instr) : Syl := ⟨true, 0, false, false, false, 0, i⟩

theorem test_illformed_rounding : wellFormed (plain (.fadd 1 2 3 true 7)) = false := by decide
theorem test_illformed_fsqrt : wellFormed (plain (.fsqrt 1 2 true 7)) = false := by decide
theorem test_illformed_shw_field : wellFormed (plain (.shw 1 0 0 10)) = false := by decide
theorem test_illformed_shw_engine : wellFormed (plain (.shw 1 3 0 0)) = false := by decide
theorem test_illformed_shg : wellFormed (plain (.shg 1 3 0 0 true)) = false := by decide
theorem test_illformed_ctlr : wellFormed (plain (.ctlr 1 0x006)) = false := by decide
theorem test_illformed_ctlw : wellFormed (plain (.ctlw 1 0x128)) = false := by decide
theorem test_illformed_loop_level : wellFormed (plain (.loop 6 1 1)) = false := by decide
theorem test_illformed_loop_end : wellFormed (plain (.loopi 0 1 0)) = false := by decide
theorem test_illformed_lstr : wellFormed (plain (.lstr 0 0 3 0 1)) = false := by decide
theorem test_illformed_pfx_level : wellFormed ⟨false, 0, false, false, false, 0, .pfx 0 false 0 0 0 6⟩ = false := by decide
theorem test_illformed_pfx_stop : wellFormed (plain (.pfx 0 false 0 0 0 0)) = false := by decide
theorem test_illformed_pfx_op : wellFormed ⟨false, 0, false, false, false, 0, .pfx 0 false 1 0 0 0⟩ = false := by decide
theorem test_illformed_vector_mode : wellFormed (plain (.vadd 7)) = false := by decide
theorem test_illformed_vcmp : wellFormed (plain (.vcmp 7)) = false := by decide
theorem test_illformed_accn : wellFormed (plain (.accn 1 7)) = false := by decide
theorem test_illformed_scalar_guard : wellFormed ⟨true, 1, false, false, false, 0, .add 1 2 3⟩ = false := by decide
theorem test_illformed_memory_swap : wellFormed ⟨true, 0, false, true, false, 0, .ldD 1 2 0 0⟩ = false := by decide
theorem test_illformed_untimed : wellFormed ⟨true, 0, false, false, true, 0, .wdepth 1 2⟩ = false := by decide
theorem test_illformed_start : wellFormed ⟨true, 0, false, false, false, 9, .vadd 0⟩ = false := by decide
theorem test_illformed_event : wellFormed (plain .gangAdmission) = false := by decide
theorem test_wellformed_add : wellFormed (plain (.add 1 2 3)) = true := by decide

/-! ## Words written out from the encodings -/

/-- R149: major 0x00, func 0, gd = 1, ga = 2, gb = 3, stop. -/
theorem test_decode_add : decodeWord 0x80221800 = .ok (plain (.add 1 2 3)) := rfl
/-- R179: major 0x01, gd = 6, ga = 6, imm = 1. -/
theorem test_decode_addi : decodeWord 0x84C60001 = .ok (plain (.addi 6 6 1)) := rfl
/-- R184: major 0x08, D = 1, RM = 6, OP = 0. -/
theorem test_decode_fadd : decodeWord (2 ^ 31 + 8 * 2 ^ 26 + 1 * 2 ^ 21 + 2 * 2 ^ 16 + 3 * 2 ^ 11 + 2 ^ 10 + 6 * 2 ^ 7) =
    .ok (plain (.fadd 1 2 3 true 6)) := rfl
/-- R190: LD.w under p2. -/
theorem test_decode_load : decodeWord 0xAD0E4802 = .ok ⟨true, 2, false, false, false, 0, .ldW 7 4 0 2⟩ := rfl
/-- R193: CTLR.q q1, TCLK. -/
theorem test_decode_ctlrq : decodeWord 0xB4023008 = .ok (plain (.ctlrQ 1 8)) := rfl
/-- R197: CALL. -/
theorem test_decode_call : decodeWord 0xB8200003 = .ok (plain (.call 3)) := rfl
/-- R153, R220: VADD under a start register. -/
theorem test_decode_vadd : decodeWord 0xC4100048 = .ok ⟨true, 0, false, false, true, 9, .vadd 0⟩ := rfl
/-- R153, R253: ACCN with swap and start register. -/
theorem test_decode_accn : decodeWord 0xDC310048 = .ok ⟨true, 0, false, true, true, 9, .accn 0 0⟩ := rfl
/-- R153, R269: CPG. -/
theorem test_decode_cpg : decodeWord 0xE0000403 = .ok (plain (.cpg 4 3)) := rfl
/-- R288: DECL. -/
theorem test_decode_decl : decodeWord 0xEC006300 = .ok (plain (.decl 3)) := rfl
/-- R144: a prefix with LAST for position 1. -/
theorem test_decode_pfx : decodeWord 0x7C000008 = .ok ⟨false, 0, false, false, false, 0, .pfx 0 false 0 0 1 0⟩ := rfl
/-- R156: major 0x1D is unallocated. -/
theorem test_decode_unallocated : (decodeWord 0xF4000000).toOption = none := rfl

/-! ## Small states -/

/-- A Sole task at work as the lead of core 0, its grant the whole scratchpad. -/
def base : State :=
  { State.reset with
    ctx := { Ctx.vacant with
      status := .running, role := .lead, started := true, src := 1, grant := [true, true, true]
      hdr := { Hdr.zero with quota := 0x200000, gang := 1, nf := 1, codelen := 64, engines := [true, true, true] } } }

/-- The same with a general register. -/
def withG (n : Nat) (v : Word) (s : State) : State := s.upR fun r => { r with g := vset r.g n v }

/-- What is kept beside a frame written at TCLK t, with the grant and the cause of the trap. -/
def savedAt (t : Nat) (g : List Bool) (x : Trap) : Saved :=
  { latches := [], dws := [], redo := [], order := [], wait := .none, grant := g, pc := 0, next := 0, fin := none, held := []
    after := 0, missed := [], t := t, cause := x }

/-- What a state's only latch holds. -/
def latched (o : Outcome State) : Option Word :=
  match o with
  | .next t => (match t.ctx.latches with | [l] => some l.val | _ => none)
  | _ => none

/-! ## Single steps (R178 to R193) -/

theorem test_add_wraps : latched (exec (.add 3 1 2) (withG 1 0xFFFFFFFFFFFFFFFF (withG 2 2 base))) = some 1 := by decide +kernel
theorem test_sar_sign : latched (exec (.sar 3 1 2) (withG 1 0x8000000000000000 (withG 2 127 base))) = some 0xFFFFFFFFFFFFFFFF := by decide +kernel
theorem test_div_overflow : latched (exec (.div 3 1 2) (withG 1 0x8000000000000000 (withG 2 0xFFFFFFFFFFFFFFFF base))) = some 0x8000000000000000 := by decide +kernel
theorem test_div_zero : latched (exec (.div 3 1 2) (withG 1 7 base)) = some 0xFFFFFFFFFFFFFFFF := by decide +kernel
theorem test_movk_keeps : latched (exec (.movk 1 1 0xBEEF) (withG 1 0x1234567890ABCDEF base)) = some 0x12345678BEEFCDEF :=
  by decide +kernel
theorem test_clz_zero : latched (exec (.clz 3 1) base) = some 64 := by decide +kernel
theorem test_bfx_sign : latched (exec (.bfx 3 1 2) (withG 1 0xF0 (withG 2 0x404 base))) = some 0xFFFFFFFFFFFFFFFF := by decide +kernel
/-- IEEE 754: 1.5 + 2.25 = 3.75 in FP64. -/
theorem test_fadd : latched (exec (.fadd 3 1 2 true 0) (withG 1 0x3FF8000000000000 (withG 2 0x4002000000000000 base))) =
    some 0x400E000000000000 := by decide +kernel
/-- R186: −0 in FP32 is class 3. -/
theorem test_fclass : latched (exec (.fclass 3 1 false) (withG 1 0x80000000 base)) = some 8 := by decide +kernel
/-- R48: 0 × ∞ in FP32 is the canonical NaN. -/
theorem test_fmul_nan : latched (exec (.fmul 3 1 2 false 0) (withG 1 0x7F800000 base)) = some 0x7FC00000 := by decide +kernel

/-- R186: the ten classes of FP64. -/
theorem test_fclass_all :
    ([((0xFFF0000000000000 : Word), (1 : Word)), (0xBFF0000000000000, 2), (0x8000000000000001, 4), (0x8000000000000000, 8),
      (0, 16), (1, 32), (0x3FF0000000000000, 64), (0x7FF0000000000000, 0x80), (0x7FF0000000000001, 0x100),
      (0x7FF8000000000000, 0x200)].all fun x => latched (exec (.fclass 3 1 true) (withG 1 x.1 base)) == some x.2) = true := by
  decide +kernel

/-! ## Witnesses: states and operands that meet the hypotheses of the statements -/

/-- What a step leaves, as a function of its next state. -/
def leaves {α : Type} (o : Outcome State) (f : State → α) : Option α := match o with | .next t => some (f t) | _ => none

/-- The state with its context changed. -/
def withC (f : Ctx → Ctx) (s : State) : State := s.up f

/-- A latch of the bundle before, due now. -/
def late (d : Dest) (v : Word) : Latch := ⟨0, 0, 1, 0, d, v, 0, 0, none, none, none, 0, none, none, true⟩

/-! ### Scalar results -/

/-- Integer, immediate, compare, bit, multiply, divide, float and class results. -/
theorem witness_acts : acts base = true := by decide
/-- A NaN as the first, and as the second operand; and ∞ · 0 beside a NaN in gd. -/
theorem witness_FloatNaNs :
    sVal (withG 1 0x7FF0000000000001 base) true 1 = .nan true false ∧
    sVal (withG 2 0x7FC00000 base) false 2 = .nan false false ∧
    sVal (withG 1 0x7F800000 base) false 1 = .inf false ∧ sVal base false 2 = .fin false 0 (-149) := by decide +kernel
/-- ∞ and 0 in either order, and a signalling NaN in gd. -/
theorem witness_FloatNaNs_products :
    sVal (withG 2 0x7F800000 base) false 2 = .inf false ∧ sVal base false 1 = .fin false 0 (-149) ∧
    sVal (withG 3 0x7F800001 base) false 3 = .nan true false := by decide +kernel
theorem witness_ScalarSyllableFrame : format (.add 1 2 3) = .scalar ∧ format (.fdiv 1 2 3 true 0) = .scalar := by decide

/-! ### Syllables that do not act -/

/-- The syllable's guard p1 does not hold; and one that a prefix gates, its level in the second iteration. -/
def off : State := withC (fun c => { c with iss := { c.iss with p := 1 } }) base
/-- Level 0 active in its second iteration of three. -/
def looping : State := base.upR fun r =>
  { r with loops := vset r.loops 0 ⟨true, 1, 1, 64, 64, none, none,
    #v[⟨true, 0, 1, 32⟩, ⟨false, 0, 1, 32⟩, ⟨false, 0, 0, 0⟩, ⟨false, 0, 0, 0⟩]⟩, order := [0] }
/-- R146: the first position acts in the first iteration alone. -/
def gatedOut : State := withC (fun c => { c with pfx := ⟨0, 1, 0, 0⟩ }) looping
theorem witness_SyllableThatDoesNotAct : acts off = false ∧ acts gatedOut = false ∧ format (.br 1) ≠ .none ∧
    format (.br 1) ≠ .pfx ∧ format (.ldD 1 2 1 3) ≠ .none ∧ format (.ldD 1 2 1 3) ≠ .pfx := by decide +kernel
/-- R164: the base register of a load that does not act is updated. -/
theorem test_inactive_base : latched (exec (.ldD 1 2 2 3) (withG 2 64 off)) = some 88 := by decide +kernel

/-! ### Latches -/

theorem witness_LatchCommit_one : ∀ d ∈ [Dest.g 3, .g 0, .p 0, .p 1, .pm 7, .q 3],
    let l := late d 5
    let s := withC (fun c => { c with latches := [l] }) base
    s.ctx.latches = [l] ∧ s.ctx.uws = [] ∧ l.due ≤ s.ctx.now ∧ l.bad = none ∧ l.syn = 0 ∧
      leaves (exec .resultLatchCommit s) (fun t => t.ctx.latches) = some [] := by decide +kernel
theorem witness_LatchCommit_bad :
    let l := { late (.g 3) 5 with bad := some ⟨0x12, 0, 0, 0, 0⟩ }
    let m := { late (.g 3) 5 with syn := 1 }
    (withC (fun c => { c with latches := [l] }) base).ctx.latches = [l] ∧ l.due ≤ base.ctx.now ∧ base.ctx.uws = [] ∧
      l.bad = some ⟨0x12, 0, 0, 0, 0⟩ ∧ m.bad = none ∧ m.syn ≠ 0 := by decide +kernel
/-- R160: the later issue, and in one bundle the higher position. -/
theorem witness_LatchCommit_two :
    let l := late (.g 3) 5
    let m := { late (.g 3) 6 with pos := 2 }
    let k := { late (.g 3) 7 with issue := 1, due := 0 }
    let s := fun ls => withC (fun c => { c with tclk := 2, latches := ls }) base
    (l.issue = m.issue ∧ l.pos < m.pos ∧ m.issue < k.issue) ∧
      leaves (exec .resultLatchCommit (s [l, m])) (fun t => rdG t 3) = some 6 ∧
      leaves (exec .resultLatchCommit (s [m, l])) (fun t => rdG t 3) = some 6 ∧
      leaves (exec .resultLatchCommit (s [k, m])) (fun t => rdG t 3) = some 7 := by decide +kernel

/-! ### Loads and stores -/

/-- The cause of the trap that a step leaves. -/
def causeOf (o : Outcome State) : Option Nat := leaves o fun t => t.ctx.tcause

/-- The last dword of the grant passes for a load, a store and STQ; its profiling range holds it. -/
theorem witness_LoadsAndStores_pass :
    let s := withC (fun c => { c with hdr := { c.hdr with profs := [(0x1FFFF8, 0x200000)] } }) (withG 1 9 (withG 2 0x1FFFF8 base))
    memCheck s 0x1FFFF8 8 true false = none ∧ memCheck s 0x1FFFF8 8 false false = none ∧
    memCheck s 0x1FFFF8 8 false true = none ∧ badReg s 5 [2, 1] = none ∧
    leaves (exec (.ldD 1 2 0 0) s) (fun t => t.ctx.latches.map fun l => (l.due, l.ld)) = some [(3, some ⟨0x1FFFF8, 8, true⟩)] ∧
    leaves (exec (.stD 1 2 0 0) s) (fun t => t.ctx.dws.map (·.act)) = some [.store 0x1FFFF8 8 9] ∧
    leaves (exec (.stq 1 2 0 0) s) (fun t => t.ctx.dws.map (·.act)) = some [.store 0x1FFFF8 8 0] := by decide +kernel
/-- R150, R190: one byte past the grant, an address of 25 bits, and a dword that is not aligned. -/
theorem witness_LoadsAndStores_traps :
    access (.ldB 1 2 0 0) = some (2, 0, 0, 0) ∧
    causeOf (exec (.ldB 1 2 0 0) (withG 2 0x200000 base)) = some 0x21 ∧
    causeOf (exec (.stB 1 2 0 0) (withG 2 0x1000000 base)) = some 0x21 ∧
    causeOf (exec (.stW 1 2 0 0) (withG 2 0x1FFFFD base)) = some 0x21 ∧
    causeOf (exec (.stW 1 2 0 0) (withG 2 0x1FFFFA base)) = some 0x21 ∧
    leaves (exec (.stW 1 2 0 0) (withG 2 0x1FFFFA (base.upR fun r => { r with tvec := 64 }))) (fun t => t.ctx.tcause) =
      some 0x06 := by decide +kernel
/-- R191: a load of one byte, and of eight at the top of the scratchpad, whose read is due. -/
theorem witness_LocalBytes_read : ∀ x ∈ [(0, 1), (0x1FFFF8, 8)],
    let l := { late (.g 3) 0 with due := 2, ld := some ⟨x.1, x.2, true⟩ }
    let s := withC (fun c => { c with latches := [l] }) base
    l.ld = some ⟨x.1, x.2, true⟩ ∧ x.2 ∈ [1, 2, 4, 8] ∧ s.ctx.latches = [l] ∧ l.due = 0 + 2 ∧ spadSyn s x.1 = 0 := by
  decide +kernel
/-- R192: a byte, and eight at the top of the scratchpad, that are due. -/
theorem witness_LocalBytes_written : ∀ x ∈ [(0, 1), (0xFFFFF8, 8)],
    let w : DWrite := ⟨0, 0, 1, 0, .store x.1 x.2 0x8877665544332211⟩
    let s := withC (fun c => { c with dws := [w] }) base
    w.due ≤ s.ctx.now ∧ x.2 ∈ [1, 2, 4, 8] ∧ x.1 % x.2 = 0 ∧ x.1 + x.2 ≤ 2 ^ 24 ∧ s.ctx.upper = false ∧
      s.ctx.iss.trapped = false ∧ spadSyn s x.1 = 0 ∧ spadByte (writesAt s 0) x.1 = 0x11 := by decide +kernel

/-! ### Shape fields and control registers -/

theorem witness_ShapeFieldAccess : acts (withG 1 0xFFFF base) = true ∧ badReg (withG 1 0xFFFF base) 5 [1] = none ∧
    leaves (exec (.shw 1 2 3 9) (withG 1 0xFFFF base)) (fun t => t.ctx.dws.map fun w => (w.due, w.act)) =
      some [(1, .shadow 2 3 9 0xFFFF)] ∧
    latched (exec (.shg 1 0 0 2 false) (base.upR fun r => { r with sh := vset r.sh 0 { Shape.zero with rows := 7 } })) =
      some 7 := by decide +kernel
/-- R195: a marked register in deterministic mode, with and without a supplied value; an unmarked one; and outside it. -/
theorem witness_ControlRegisterReads :
    let d := withC (fun c => { c with hdr := { c.hdr with det := true } }) base
    let v := withC (fun c => { c with detval := some 9 }) d
    detMarked 0x00A = true ∧ detMarked 0x000 = false ∧ base.ctx.hdr.det = false ∧ d.ctx.detval = none ∧
    latched (exec (.ctlr 1 0x00A) v) = some 9 ∧ causeOf (exec (.ctlr 1 0x00A) (d.upR fun r => { r with tvec := 64 })) =
      some 0x13 ∧ latched (exec (.ctlrQ 1 0x00A) d) ≠ none ∧ latched (exec (.ctlr 1 0x003) base) = some 0x70 := by
  decide +kernel
/-- R8, R60: RMODE 6 and 7, FTLEVEL 6, and the values beside them. -/
theorem witness_ControlRegisterWrite :
    let h := fun s : State => s.upR fun r => { r with tvec := 64 }
    causeOf (exec (.ctlw 1 0x002) (h (withG 1 6 base))) = some 1 ∧ causeOf (exec (.ctlw 1 0x002) (h (withG 1 7 base))) = some 1 ∧
    causeOf (exec (.ctlw 1 0x003) (h (withG 1 0x60 base))) = some 1 ∧ badReg (withG 1 5 base) 5 [1] = none ∧
    leaves (exec (.ctlw 1 0x002) (withG 1 5 base)) (fun t => t.ctx.dws.map (·.act)) = some [.ctl 0x002 5] ∧
    leaves (exec (.ctlw 1 0x003) (withG 1 0x50 base)) (fun t => t.ctx.dws.map (·.act)) = some [.ctl 0x003 0x50] := by
  decide +kernel
/-- Supervisor state, and an active and an inactive level. -/
theorem witness_SupervisorWriteCommits :
    let s := withC (fun c => { c with sv := true }) looping
    s.ctx.sv = true ∧ base.ctx.sv = false ∧ (s.ctx.r.loops.toList.getD 0 Loop.zero).active = true ∧
    leaves (exec (.lcntWrite 0 9) s) (fun t => (getLoop t 0).cnt) = some 9 ∧
    leaves (exec (.tmrWrite 9) s) (fun t => t.ctx.tmr) = some 9 ∧
    leaves (exec (.fdatWrite 9) s) (fun t => t.ctx.fidx) = some 1 ∧
    leaves (exec (.fdatWrite 9) (withC (fun c => { c with fidx := 6 }) s)) (fun t => frameDword t 6) = some 9 ∧
    leaves (exec (.fdatRead 3) s) (fun t => (t.ctx.latches.map (·.dest), t.ctx.fidx)) = some ([.g 3], 1) ∧
    leaves (exec (.fdatRead 3) base) (fun t => t.ctx.fidx) = some 0 ∧
    (base.ctx.r.loops.toList.getD 5 Loop.zero).active = false ∧
    leaves (exec (.lcntWrite 6 9) s) (fun t => (getLoop t 0).cnt) = some 1 ∧
    leaves (exec (.islctlWrite 263 0x100) s) (fun t => (getIsland t 263).opcap) = some 1 ∧
    leaves (exec (.islctlWrite 264 0x100) s) (fun t => t.units.length) = some s.units.length ∧ (getIsland s 192).settle = none ∧
    leaves (exec (.islctlWrite 192 0) s) (fun t => (getIsland t 192).pendOp) = some none := by decide +kernel
theorem witness_RoundingModeRegister : acts (withG 1 5 base) = true ∧ (rdG (withG 1 6 base) 1).toNat % 8 = 6 ∧
    (rdG (withG 1 7 base) 1).toNat % 8 = 7 ∧ (rdG (withG 1 5 base) 1).toNat % 8 < 6 := by decide +kernel

/-! ### Branches, loops, waits and system operations -/

/-- Untaken and taken conditions; a block address and one that is none. -/
theorem witness_BranchResults : base.ctx.iss.trapped = false ∧ badReg (withG 1 64 base) 6 [1] = none ∧
    (rdG (withG 1 64 base) 1).toNat % 64 = 0 ∧ (rdG (withG 1 65 base) 1).toNat % 64 ≠ 0 ∧
    leaves (exec (.jmp 1) (withG 1 64 base)) (fun t => t.ctx.pend) = some (.branch 64) ∧
    leaves (exec (.brcNz 1 1) base) (fun t => (t.ctx.pend, t.ctx.dly)) = some (.none, 2) ∧
    leaves (exec (.brcZ 1 1) base) (fun t => (t.ctx.pend, t.ctx.dly)) = some (.branch 64, 2) := by decide +kernel
/-- Counts 0 and 1 at an inactive level; the lowest and the highest level; an active level. -/
theorem witness_LoopEntry : (getLoop base 5).active = false ∧ (getLoop looping 0).active = true ∧ badReg base 6 [1] = none ∧
    leaves (exec (.loopi 5 0 3) base) (fun t => ((getLoop t 5).active, t.ctx.npc)) = some (false, 256) ∧
    leaves (exec (.loopi 5 1 3) base) (fun t => ((getLoop t 5).active, (getLoop t 5).stop)) = some (true, 192) ∧
    leaves (exec (.loop 0 1 3) (withG 1 0xFFFFFFFFFFFFFFFF base)) (fun t => (getLoop t 0).cnt) = some 0xFFFFFFFFFFFE ∧
    leaves (exec (.loopi 0 1 3) (looping.upR fun r => { r with tvec := 64 })) (fun t => t.ctx.tcause) = some 0x0A ∧
    leaves (exec (.lbrk 1) (looping.upR fun r => { r with tvec := 64 })) (fun t => t.ctx.tcause) = some 0x0A := by
  decide +kernel
/-- R202: the end block of level 0 has been issued: with iterations left, and in the last. -/
theorem witness_IterationBoundary :
    let s := withC (fun c => { c with fin := some 64, pc := 128 }) looping
    let z := s.upR fun r => { r with loops := vset r.loops 0 { (getLoop s 0) with cnt := 0 } }
    s.ctx.fin = some 64 ∧ s.ctx.r.order = [0] ∧ s.ctx.pend = .none ∧ (getLoop s 0).active = true ∧ (getLoop s 0).stop = 64 ∧
      (getLoop s 0).cnt ≠ 0 ∧ (getLoop z 0).cnt = 0 ∧ (getLoop z 0).active = true ∧
      leaves (exec .iterationBoundary s) (fun t => ((getLoop t 0).idx, (getSh t.ctx.r 0 1).base)) = some (2, 32) ∧
      leaves (exec .iterationBoundary z) (fun t => ((getLoop t 0).active, t.ctx.r.order)) = some (false, []) := by
  decide +kernel
theorem witness_Strides : (⟨true, 2, 3, 0xFFFFFF⟩ : Stride).en = true ∧ (⟨true, 2, 3, 0xFFFFFF⟩ : Stride).eng.val < 3 ∧
    badReg base 6 [0] = none ∧ leaves (exec (.lstr 5 3 2 1 0) base) (fun t => t.ctx.dws.map (·.act)) =
      some [.stride 5 3 ⟨false, 2, 1, 0⟩] := by decide +kernel
/-- R204: LBRK at an active level, and its end with one level inside and one outside. -/
theorem witness_LoopBreak :
    let s := withC (fun c => { c with pend := .lbrk 1 }) (looping.upR fun r => { r with
      loops := vset (vset r.loops 1 { (getLoop looping 0) with stop := 640 }) 2 (getLoop looping 0), order := [2, 1, 0] })
    (getLoop looping 0).active = true ∧ looping.ctx.iss.trapped = false ∧ s.ctx.pend = .lbrk 1 ∧
      s.ctx.r.order = [2] ++ 1 :: [0] ∧ (1 : Fin 8) ∉ [(2 : Fin 8)] ∧ (∀ j ∈ [(0 : Fin 8)], j ∉ [(1 : Fin 8), 2]) ∧
      (divert s).ctx.pc = 704 ∧ (divert s).ctx.r.order = [0] := by decide +kernel
/-- Each wait, before and at its end. -/
theorem witness_WaitResults : badReg (withG 1 9 base) 6 [1] = none ∧
    leaves (exec (.waittAbs 1) (withG 1 9 base)) (fun t => t.ctx.wait) = some (.waitt 9) ∧
    leaves (exec (.waittRel 0) base) (fun t => t.ctx.wait) = some (.waitt 1) ∧
    leaves (exec .waittExpiry (withC (fun c => { c with wait := .waitt 1 }) base)) (fun t => t.ctx.wait) = some (.waitt 1) ∧
    leaves (exec .waittExpiry (withC (fun c => { c with wait := .waitt 0 }) base)) (fun t => t.ctx.wait) = some .none ∧
    leaves (exec .waittExpiry (withC (fun c => { c with wait := .waitp 0 0 [] 0 0 0 }) base)) (fun t => t.ctx.wait) =
      some .none := by decide +kernel
/-- R20: level 0, the highest level of the launch, and one above. -/
theorem witness_PhaseAndBarrier : (1 : Fin 8).val ≤ base.ctx.hdr.gang ∧ (1 : Fin 8).val ≤ base.ctx.hdr.nf ∧
    (2 : Fin 8).val > base.ctx.hdr.gang ∧ leaves (exec (.bar 1) base) (fun t => t.ctx.wait) = some (.bar 1 0 0) ∧
    leaves (exec (.bar 0) base) (fun t => t.ctx.openPh) = some 1 ∧
    leaves (exec (.bar 2) (base.upR fun r => { r with tvec := 64 })) (fun t => t.ctx.tcause) = some 1 := by decide +kernel
/-- In a handler and outside one. -/
theorem witness_SystemOperations : base.ctx.status ≠ .handler ∧ base.ctx.iss.trapped = false ∧
    leaves (exec .rte (withC (fun c => { c with status := .handler }) base)) (fun t => t.ctx.pend) = some (.rte 0) ∧
    leaves (exec (.svc 7) base) (fun t => t.ctx.swt) = some (some (7, true)) := by decide +kernel
/-- The point in force, and another; FIRST and LAST in the first, a middle and the last iteration. -/
theorem witness_PrefixResults : base.ctx.upper = false ∧ (getIsland base base.ctx.gunit).opc ≠ 3 ∧
    (getIsland base base.ctx.gunit).opc = 0 ∧ rdP base base.ctx.iss.p ≠ base.ctx.iss.ng ∧
    leaves (exec (.pfx 0 true 3 0 0 0) base) (fun t => (getIsland t 0).pendOp) = some (some 3) ∧
    acts gatedOut = false ∧ acts (withC (fun c => { c with pfx := ⟨0, 2, 0, 0⟩ }) looping) = true ∧
    acts (withC (fun c => { c with pfx := ⟨0, 0, 1, 0⟩ }) looping) = false := by decide +kernel

/-- R198: a CALL whose block ends in pad words, and two bundles of one ADDI each in the next. -/
def calling : Ctx :=
  { base.ctx with
    hdr := { base.ctx.hdr with codelen := 128 }
    code := ([0xB8200003] ++ List.replicate 15 0x40000000 ++ [0x84C60001, 0x84C60001]).flatMap fun w => leBytes 4 w }
theorem witness_BranchResults_return :
    lastWord calling 0 0 ∧ followingBundle calling 0 64 ∧ lastWord calling 64 64 ∧ followingBundle calling 64 68 ∧
      lastWord calling 68 68 ∧ returnAddr calling 0 = 128 := by
  refine ⟨⟨0, ?_, ?_⟩, ⟨64, 0, .inl ⟨?_, ?_, ?_⟩, ?_, ?_, ?_, ?_⟩, ⟨0, ?_, ?_⟩, ⟨68, 0, .inr ⟨.inr ?_, ?_⟩, ?_, ?_, ?_, ?_⟩, ⟨0, ?_, ?_⟩, ?_⟩ <;>
    decide +kernel

/-- R202: two levels that end with one block: the inner in its last iteration, the outer with one left. -/
theorem witness_IterationBoundary_nested :
    let s := withC (fun c => { c with fin := some 64, pc := 128 }) (looping.upR fun r => { r with
      loops := vset (vset r.loops 1 (getLoop looping 0)) 0 { (getLoop looping 0) with cnt := 0 }, order := [0, 1] })
    s.ctx.fin = some 64 ∧ s.ctx.r.order = [0, 1] ∧ s.ctx.pend = .none ∧ (getLoop s 0).active = true ∧ (getLoop s 1).active = true ∧
      (getLoop s 0).stop = 64 ∧ (getLoop s 1).stop = 64 ∧ (getLoop s 0).cnt = 0 ∧ (getLoop s 1).cnt ≠ 0 ∧
      leaves (exec .iterationBoundary s) (fun t => ((getLoop t 1).idx, t.ctx.r.order, (getSh t.ctx.r 0 1).base)) =
        some (2, [1], 64) := by decide +kernel
/-- R196: LCNT of an active level, LEND, an entry for an engine of the grant, for one outside it and for engine 3. -/
theorem witness_ControlRegisterWrite_loops :
    let w := fun (s : State) (c : BitVec 12) (x : BitVec 64) => leaves (exec (.registerWrite (.ctl c) x) s) fun t => getLoop t 0
    let n := withC (fun c => { c with grant := [false, false, false] }) base
    (w looping 0x040 7).map (·.cnt) = some 7 ∧ (w base 0x040 7).map (·.cnt) = some 0 ∧
    (w base 0x043 0x9F).map (·.he) = some (some 0x80) ∧
    (w base 0x045 0x8000000001000008).map (fun l => l.strd[1]) = some ⟨true, 0, 1, 8⟩ ∧
    (w n 0x045 0x8000000001000008).map (fun l => l.strd[1].en) = some false ∧
    (w base 0x045 0x800000000D000008).map (fun l => l.strd[1].en) = some false := by decide +kernel
/-- R445: the frame of context 0 while bank 1,024 of its Heel is under test. -/
theorem witness_ControlRegisterReads_fence :
    let s : State := { base with cob := { base.cob with tests := [⟨1, 0, 0, 1024 + frameAddr base.ctx / 32 % 64, 0, 0, [], 5⟩] } }
    acts s = true ∧ heelFenced s 0xF01 = true ∧ heelFenced base 0xF01 = false ∧
      leaves (exec (.ctlr 3 0xF01) s) (fun t => t.ctx.wait) = some (.hold 4) := by decide +kernel

/-! ### Engine instructions: each runs on some state -/

/-- The instruction has a form that runs (EForm.runs). -/
def runsOn (s : State) (i : Instr) : Bool :=
  match engineForm s i with
  | some f => acts s && (f.trap s).isNone && (issueMissed s (f.cmd s).2).isNone && !issueSwitch s (f.cmd s).2
  | none => false

theorem runs_of_runsOn (s : State) (i : Instr) (h : runsOn s i = true) : ∃ f, engineForm s i = some f ∧ f.runs s := by
  unfold runsOn at h
  split at h
  · refine ⟨_, ‹_›, ?_⟩
    simp only [Bool.and_eq_true, Option.isNone_iff_eq_none, Bool.not_eq_true'] at h
    exact ⟨h.1.1.1, h.1.1.2, h.1.2, h.2⟩
  · cases h

/-- A shape: base, format, rows, columns, pitch. -/
def tile (b f r c p : Nat) : Shape :=
  { Shape.zero with
    base := BitVec.ofNat 24 b
    pitch := BitVec.ofNat 24 p
    rows := BitVec.ofNat 16 r
    cols := BitVec.ofNat 16 c
    fmt := BitVec.ofNat 5 f }
/-- The four active shape registers of an engine set. -/
def tiles (e : Nat) (hs : List Shape) (s : State) : State :=
  s.upR fun r => { r with sh := Vector.ofFn fun k => if k.val / 4 = e then hs.getD (k.val % 4) Shape.zero else r.sh[k] }
/-- V tiles of one element of the formats given. -/
def elems (fs : List Nat) : State := tiles 0 (((List.range 4).zip fs).map fun x => tile (4096 * x.1) x.2 1 1 128) base
/-- The own package as peer 0, and its page of frame 0 at address 0, with every permission. -/
def paged (s : State) : State :=
  { s with net := { s.net with
      peers := [⟨0, 1, 0, 0, 0, 0, 0, []⟩]
      segs := [⟨0x8000, 16, 0, 0⟩]
      ptes := [(0, 0x8006000000000000)] } }
/-- Tiles of one row for copies, and a list of one index. -/
def copies : State := tiles 2 [tile 4096 9 1 8 64, tile 8192 9 1 1 64, tile 12288 9 1 8 64, tile 0 0 1 1 64] (paged base)
/-- A queue of four dwords of 32 bits whose control word lies at g1. -/
def queued : State :=
  withG 1 0x8000 (writeQinit (elems [7, 7, 20, 7]) 0x8000 (BitVec.ofNat 64 (0x9000 * 2 ^ 40 + 4 * 2 ^ 24 + 2 * 2 ^ 21)))
/-- Operands of a product on 8-bit integers and on a scaled 4-bit format. -/
def products (f g : Nat) : State :=
  tiles 1 [tile 0 g 1 1 128, tile 0 f 1 8 128, tile 0x80000 f 8 1 128, tile 0x100000 3 128 128 128] base

theorem witness_V_integer : ∀ i ∈ [Instr.vadd 0, .vaddS 1 0, .vsub 0, .vsubS 1 0, .vmul 0, .vmulS 1 0, .vmulh, .vmulhS 1, .vfma 0,
    .vfmaS 1 0, .vfms 0, .vfmsS 1 0, .vmin, .vminS 1, .vmax, .vmaxS 1, .vabs 0, .vneg 0, .vmov, .vfill 1, .vand, .vandS 1, .vor,
    .vorS 1, .vxor, .vxorS 1, .vandn, .vandnS 1, .vnot, .vshl, .vshlS 1, .vshr, .vshrS 1, .vsar, .vsarS 1], 
    runsOn (elems [9, 9, 9, 9]) i = true := by decide +kernel
theorem witness_V_bits : ∀ i ∈ [Instr.vclz, .vbrev, .vfns, .vfnsS 1, .vbfx, .vbfxS 1, .vbfi, .vbfiS 1, .vfshL, .vfshLS 1, .vfshR,
    .vfshRS 1, .vpopc, .vredsumAll 0, .vredsumRow 0, .vredsumCol 0, .vredmaxAll, .vredmaxRow, .vredmaxCol, .vredminAll,
    .vredminRow, .vredminCol, .vscan 0, .vtran], runsOn (elems [9, 9, 9, 9]) i = true := by decide +kernel
theorem witness_V_float : ∀ i ∈ [Instr.vdiv 0, .vdivS 1 0, .vsqrt 0, .vexp2, .vlog2, .vrcp, .vrsqrt, .vadd 6, .vchain 1 0],
    runsOn ((elems [11, 11, 11, 11]).upR fun r => { r with cht := vset r.cht 0 32832 }) i = true := by decide +kernel
theorem witness_V_mixed :
    (∀ i ∈ [Instr.vcmp 4, .vcmpS 0 4], runsOn (elems [20, 9, 9, 9]) i = true) ∧
    (∀ i ∈ [Instr.vsel, .vselS 1], runsOn (elems [9, 9, 9, 20]) i = true) ∧ runsOn (elems [11, 9, 9, 9]) (.vcvt 0) = true ∧
    runsOn (withG 1 0x1000001000080 (elems [0, 10, 0, 0])) (.vsplit 1) = true ∧
    (∀ i ∈ [Instr.vargmaxAll 0, .vargmaxRow 0, .vargmaxCol 0], runsOn (elems [9, 11, 0, 0]) i = true) ∧
    (∀ i ∈ [Instr.vgath, .vscat], runsOn (elems [9, 9, 7, 0]) i = true) ∧
    ∀ i ∈ [Instr.vpush 1, .vpop 1 2, .vqcnt 1 2], runsOn queued i = true := by decide +kernel
theorem witness_X :
    (∀ i ∈ [Instr.mma, .mmaZ], runsOn (products 5 19) i = true) ∧ (∀ i ∈ [Instr.mmas, .mmasZ], runsOn (products 2 18) i = true) ∧
    runsOn (tiles 1 [tile 0 19 1 1 128, tile 0x8000 5 1 1 128] base) (.accn 0 0) = true ∧
    runsOn (tiles 1 [tile 0 19 1 1 128] base) .accz = true ∧ (∀ i ∈ [Instr.accst 1, .accld 1], runsOn base i = true) ∧
    runsOn (withG 1 0x1000001000000 (withG 2 0x1000001000000
      (tiles 1 [tile 0 19 1 1 128, tile 0x8000 10 1 1 128, tile 0xC000 10 1 1 128] base))) (.accx 1 2) = true := by decide +kernel
theorem witness_C_copies : ∀ i ∈ [Instr.cpg 1 0, .cpgX 1 0, .cps 1 0, .cpsX 1 0, .cpy 1 1 0, .wmap 1 0, .probeR 1 2, .probeW 1 2,
    .mcast 0, .collSum 1 0, .collMax 1 0, .collArgmax 1 0, .collBcast 1 0, .qlnch 1 2, .wdepth 1 2, .wrbk 1 2, .wfinal 1 2,
    .wstat 1 2], runsOn copies i = true := by decide +kernel
theorem witness_C_atoms : ∀ i ∈ [Instr.atomAdd 1 0, .atomMin 1 0, .atomMax 1 0, .atomAnd 1 0, .atomOr 1 0, .atomXor 1 0,
    .atomXchg 1 0, .atomCas 1 0, .atomAddNr 1 0, .atomMinNr 1 0, .atomMaxNr 1 0, .atomAndNr 1 0, .atomOrNr 1 0, .atomXorNr 1 0,
    .atomXchgNr 1 0, .atomCasNr 1 0], runsOn copies i = true := by decide +kernel
theorem witness_C_windows :
    (∀ i ∈ [Instr.wfill 0 0, .wback 0 0, .wunmap 0 0], runsOn (withC (fun c => { c with wins := [⟨0, 4096, 64, 0, 0⟩] }) copies) i = true) ∧
    (∀ i ∈ [Instr.wprop, .wtake 1 2], runsOn (tiles 2 [tile 4096 1 16 576 640] base) i = true) ∧
    runsOn (tiles 2 [tile 4096 11 1 8 64] base) (.wjudge 1 2) = true := by decide +kernel
/-- A V instruction whose destination has no rows raises ILLEGAL_FORMAT. -/
theorem witness_EngineInstructionsIssue_trap : (engineForm base (.vadd 0)).any (fun f => (f.trap base).isSome) = true := by
  decide +kernel
/-- R29: an instruction with SW, and one that does not act. -/
theorem witness_SwapExchangesShapes :
    let s := withC (fun c => { c with iss := { c.iss with sw := true } })
      (base.upR fun r => { r with sd := (elems [9, 9, 9, 9]).ctx.r.sh })
    s.ctx.iss.sw = true ∧ runsOn s (.vadd 0) = true ∧ (getSd s.ctx.r 0 1).fmt ≠ 31 ∧
      acts (withC (fun c => { c with iss := { c.iss with p := 1 } }) s) = false ∧
      leaves (exec (.vadd 0) s) (fun t => (getSh t.ctx.r 0 1).fmt) = some 9 := by decide +kernel
/-- R93, R259: ACCST and ACCLD of a handler whose trapped context owns X. -/
theorem witness_AccumulatorImages :
    let s := withC (fun c => { c with
      status := .handler, sv := true, grant := [false, false, false]
      saved := some (savedAt 0 [true, true, true] ⟨6, 0, 0, 0, 0⟩) }) (withG 1 0x400000 base)
    s.ctx.status = .handler ∧ acts s = true ∧ imageTrap s 1 = none := by decide +kernel

/-! ### Integer elements -/

/-- R43: the largest elements of every integer format, whose sum leaves the range. -/
theorem witness_ElementResults : ∀ f ∈ [0, 1, 2, 3, 4, 5, 6, 7, 8, 9], fmtIsInt f = true ∧
    2 ^ fmtBits f - 1 < 2 ^ fmtBits f ∧
    (elemOp .add f f 1 ⟨0, 0⟩ (2 ^ fmtBits f - 1) (2 ^ fmtBits f - 1) 0).bits < 2 ^ fmtBits f := by decide +kernel
/-- R247: a k-group of a product of integers. -/
theorem witness_ElementResults_group : (engineForm (products 5 19) .mma).any (fun f =>
    let c := (f.cmd (products 5 19)).2
    (c.sh 0).f == 19 && groupKs c 0 != []) = true := by decide +kernel


/-! ### Encodings and the machine -/

theorem witness_DecodeOfEncode : wellFormed ⟨true, 0, false, true, true, 9, .accn 31 6⟩ = true ∧
    wellFormed (plain (.movi 31 3 0xFFFF)) = true ∧ wellFormed (plain (.br 0xFFFFF)) = true := by decide

/-- The machine right after reset with an ADDI placed where its next step fetches. -/
def placed : State := State.reset.withFetchWord 32 0x84C60001

theorem witness_StepKeepsMemory : placed.memWf ∧ (leaves (step placed) fun t => t.ctx.tclk) = some 1 := by
  constructor
  · unfold State.memWf; decide +kernel
  · decide +kernel
/-- R333: one state for each of the five: a step that is due, a turn, a tick, and the steps of an edge. -/
theorem witness_StepRunsDueSteps :
    let a : State := { State.reset with agenda := [.gangAdmission] }
    let e : State := { State.reset with edge := [.gangAdmission] }
    a.agenda = .gangAdmission :: [] ∧ instrEvent .gangAdmission = some .gangAdmission ∧ placed.agenda = [] ∧
      placed.rota = 0 :: [] ∧ State.reset.agenda = [] ∧ State.reset.rota = [] ∧ State.reset.edge = [] ∧ e.agenda = [] ∧
      e.rota = [] ∧ e.edge ≠ [] := by decide +kernel
/-- R335: the placed context leads its core and reaches its issue; its bundle is the ADDI alone. -/
theorem witness_StepRuns_one :
    let s : State := { placed with rota := [] }
    leads s 0 ∧ reachesIssue (focus s 0) ∧ (atIssue (focus s 0)).ctx.inCode (atIssue (focus s 0)).ctx.pc = true := by
  refine ⟨⟨by decide, (focus { placed with rota := [] } 0).ctx, ?_, ?_, ?_, ?_, ?_⟩, ⟨?_, ?_, ?_, ?_, ?_⟩, ?_⟩ <;> decide +kernel
theorem witness_StepRuns_two :
    let c := placed.ctx
    (blockWords c c.pc).head? = some 0x84C60001 ∧ bit 0x84C60001 31 = true ∧
      decodeWord 0x84C60001 = .ok (plain (.addi 6 6 1)) ∧ classOf (major 0x84C60001) < 7 ∧ ctxReason c 0x84C60001 = none ∧
      c.dly = 0 ∧ decodeBundle c c.pc = .ok ⟨none, [(0x84C60001, plain (.addi 6 6 1))], 4⟩ := by
  refine ⟨?_, ?_, rfl, ?_, ?_, ?_, ?_⟩ <;> decide +kernel
/-- R158: the ADDI at its issue. -/
theorem witness_StepRuns_three :
    (leaves (exec (.addi 6 6 1) (placed.up fun c => { c with iss := aloneIssue c.pc 0x84C60001 (plain (.addi 6 6 1)) }))
      fun t => (t.ctx.iss.trapped, t.ctx.latches.length)) = some (false, 1) := by decide +kernel

/-! ### Traps -/

/-- A running context with a handler, and one in it. -/
def handled : State := (withG 5 7 base).upR fun r => { r with tvec := 640 }
def inHandler : State := withC (fun c => { c with status := .handler }) handled

/-- A trap at issue and one chosen at a boundary; a TVEC that a write due at the boundary gives; a signal to a logit task. -/
theorem witness_TrapEntry :
    let s := withC (fun c => { c with cands := [(0, 4, ⟨6, 1, 2, 3, 4⟩, 5)] }) handled
    let w := withC (fun c => { c with dws := [⟨0, 0, 1, 0, .ctl 0x010 0x480⟩] }) base
    let l := withC (fun c => { c with hdr := { c.hdr with logit := some 0 } }) handled
    goesToHandler handled ⟨6, 1, 2, 3, 4⟩ ∧ goesToHandler s ⟨6, 1, 2, 3, 4⟩ ∧
      chosen s s.ctx.now = some (.trap ⟨6, 1, 2, 3, 4⟩ 5) ∧ goesToHandler w ⟨6, 1, 2, 3, 4⟩ ∧ goesToHandler l ⟨0x30, 7, 0, 0, 0⟩ ∧
      (takeTrap handled ⟨6, 1, 2, 3, 4⟩).ctx.pc = 640 ∧ (takeTrap w ⟨6, 1, 2, 3, 4⟩).ctx.pc = 0x480 := by
  unfold goesToHandler; decide +kernel
/-- R367: TRAP, a signal, a timer period and a notice, each the event of its boundary; and a boundary without one. -/
theorem witness_TrapDestinations_events :
    let h := fun f => withC f handled
    let ch := fun s : State => chosen s s.ctx.now
    let i := h fun c => { c with swt := some (5, false) }
    let g := h fun c => { c with signals := [9] }
    let t := h fun c => { c with tmrPend := 2 }
    let n := h fun c => { c with notices := [3] }
    ch i = some (.soft 5 false) ∧ ch g = some (.signal 9) ∧ ch t = some (.timer 2) ∧ ch n = some (.notice 3) ∧
      ch handled = none ∧ goesToHandler i ⟨0x10, 5, 0, 0, 0⟩ ∧ goesToHandler g ⟨0x30, 9, 0, 0, 0⟩ ∧
      goesToHandler t ⟨0x31, 0, 2, 0, 0⟩ ∧ goesToHandler n ⟨0x33, 3, 0, 0, 0⟩ := by
  unfold goesToHandler; decide +kernel
/-- A trap in a handler, whose cause goes into the frame that stands. -/
theorem witness_TrapDestinations_handler :
    let v : Saved := savedAt 5 [] ⟨6, 1, 2, 3, 4⟩
    let s := withC (fun c => { c with saved := some v }) inHandler
    logitSlot s.ctx = none ∧ s.ctx.status = .handler ∧ s.ctx.saved.isSome = true ∧
      frameDword (takeTrap s ⟨6, 1, 2, 3, 4⟩) 1 = 0x21 := by decide +kernel
/-- A unit trap that is chosen; a handler; a fatal cause; no TVEC; a cause of the Cobbler. -/
theorem witness_TrapDestinations :
    let s := withC (fun c => { c with cands := [(0, 4, ⟨6, 1, 2, 3, 4⟩, 0)] }) handled
    (chosen s s.ctx.now = some (.trap ⟨6, 1, 2, 3, 4⟩ 0)) ∧ inHandler.ctx.status = .handler ∧ base.ctx.r.tvec = 0 ∧
      toCobbler 0x06 false = false ∧ handled.ctx.status ≠ .handler ∧ logitSlot handled.ctx = none := by decide +kernel
/-- The state of a handler's RTE is that right after the trap; a branch was pending. -/
theorem witness_TrapReturn :
    let s := withC (fun c => { c with pend := .branch 128, dly := 1 }) handled
    s.ctx.r.rmode.toNat < 6 ∧ s.ctx.r.ftlevel ≠ 6 ∧ s.ctx.pc.toNat % 4 = 0 ∧ s.ctx.dly < 4 ∧
      frameAddr (takeTrap s ⟨6, 1, 2, 3, 4⟩).ctx = frameAddr s.ctx ∧
      (takeTrap s ⟨6, 1, 2, 3, 4⟩).ctx.cobbler = s.ctx.cobbler ∧
      (returnFromTrap (takeTrap s ⟨6, 1, 2, 3, 4⟩) 0).ctx.pend = .branch 128 := by decide +kernel

/-! ### Tables, declarations, power and lanes -/

/-- R288, R291: entry 15, an entry with bit 0 and one beyond; the lowest and the highest level, level 0 and one above. -/
theorem witness_Tables :
    let v := fun x : Word => withG 1 x base
    let h := fun x : Word => (v x).upR fun r => { r with tvec := 64 }
    badReg base 4 [1, 2] = none ∧ (0xFFFFFFFFC : Word).toNat < 2 ^ 36 ∧ (0xFFFFFFFFC : Word).toNat % 4 = 0 ∧
    leaves (exec (.ftset 1) (v 0xF00000004)) (fun t => t.ctx.dws.map (·.act)) = some [.ft 15 4] ∧
    leaves (exec (.ftset 1) (h 0x1000000000)) (fun t => t.ctx.tcause) = some 2 ∧
    leaves (exec (.ftset 1) (h 1)) (fun t => t.ctx.tcause) = some 2 ∧
    leaves (exec (.ftset 1) (h 2)) (fun t => t.ctx.tcause) = some 2 ∧
    leaves (exec (.pwra 1) (v 1)) (fun t => t.cob.pwr) = some [⟨0, 1⟩] ∧
    leaves (exec (.pwra 1) (withC (fun c => { c with pwrlvl := 480 }) (v 480))) (fun t => t.ctx.dws.map (·.act)) = some [.pwrlvl 480] ∧
    leaves (exec (.pwra 1) (h 0)) (fun t => t.ctx.tcause) = some 2 ∧
    leaves (exec (.pwra 1) (h 481)) (fun t => t.ctx.tcause) = some 2 := by
  decide +kernel
/-- R290, R292: a record and a control word that pass their checks, and ones that fail. -/
theorem witness_Declarations :
    let q := withG 1 0x8000 (withG 2 (0x9000 * 0x10000000000 + 0x4400000) base)
    declCheck base 1 = none ∧ (declCheck (withG 1 1 base) 1).isSome = true ∧ qinitCheck q 1 2 = none ∧
    (qinitCheck (withG 1 1 q) 1 2).isSome = true ∧ (rdG q 1).toNat % 32 = 0 ∧ (rdG q 2).toNat % 2 ^ 21 = 0 := by decide +kernel
/-- R293: a put of one row over one hop from the next cycle on, a start that is now, and a fifth command. -/
theorem witness_LaneCommands :
    let g := fun t : Word => withG 2 t (withG 1 0x1040000 (withC (fun c => { c with upper := true, hdr := { c.hdr with upper := true } }) base))
    let full := { g 1 with lanes := List.replicate 4 ⟨true, false, 0, 0, 0, 1, 1, 9, 1, 0, 0, [], 0⟩ }
    badReg (g 1) 4 [1, 2] = none ∧ (g 1).ctx.inGrant 0 128 = true ∧
    leaves (exec (.lnputCw 1 2 0) (g 1)) (fun t => t.lanes.map fun l => (l.put, l.rows, l.hops, l.t)) = some [(true, 1, 1, 1)] ∧
    leaves (exec (.lnputAw 1 2 7) ((g 0).upR fun r => { r with tvec := 64 })) (fun t => t.ctx.tcause) = some 0x17 ∧
    leaves (exec (.lntapCw 1 2 0) (withG 1 0x1000000 (g 1))) (fun t => t.lanes.map fun l => (l.put, l.hops)) = some [(false, 0)] ∧
    (leaves (exec (.lnputCw 1 2 0) full) fun t => t.ctx.wait) = some (.hold 2) := by decide +kernel

/-! ### Engines, copies and waits: steps that fall due -/

/-- A queued command of a number. -/
def cmdOf (id : Nat) (op : CmdOp) : Cmd :=
  { newCmd { base with fresh := id } op (fun _ => Shape.zero) 0 0 0 0 0 with left := 0 }

/-- R346: a V command whose operands no copy writes, and one whose first operand a copy has still to fill. -/
theorem witness_EngineSteps_start :
    let k := { cmdOf 1 (.elem .add false) with sr := Vector.replicate 4 (tile 4096 9 1 8 128) }
    let x := { cmdOf 2 (.cpg false) with sr := Vector.replicate 4 (tile 4096 9 1 8 64), left := 1, state := .running }
    let s := withC (fun c => { c with vq := [k] }) base
    let m := withC (fun c => { c with vq := [k], cq := [x] }) base
    let d := withC (fun c => { c with hdr := { c.hdr with det := true } }) m
    s.ctx.status ≠ .handler ∧ s.ctx.queue 0 = [k] ∧ k.state = .queued ∧ k.freed = false ∧ k.nominal ≤ s.ctx.now ∧
      missed s k = none ∧ missed m k = some 4096 ∧ m.ctx.hdr.det = false ∧ missed d k = some 4096 ∧ d.ctx.hdr.det = true := by
  decide +kernel
/-- R251: the last cells of the last row. -/
theorem witness_EngineSteps_cells :
    let w : UWrite := ⟨1, 1, 0, 0, 0, .cells 3 127 126 [5, 0xFFFFFFFFFFFF], 0, 0⟩
    let s := withC (fun c => { c with uws := [w], xq := [cmdOf 1 .accz] }) base
    s.ctx.status ≠ .handler ∧ s.ctx.uws = [w] ∧ w.due ≤ s.ctx.now ∧ w.eng = 1 ∧ s.ctx.xq = [cmdOf 1 .accz] ∧
      leaves (exec (.unitWriteCommit 1) s) (fun t => accGet t 3 127 127) = some 0xFFFFFFFFFFFF := by decide +kernel
/-- A command of a number with its shape registers, at work since task cycle 20. -/
def cmdSh (id : Nat) (op : CmdOp) (hs : List Shape) : Cmd :=
  { cmdOf id op with sr := Vector.ofFn fun k => hs.getD k.val Shape.zero, base := 20, state := .running }

/-- R220, R48, R221, R222: elements of FP32, a compare, a choice, bits of a byte, and the sign bit of FP8. -/
theorem witness_ElementResults_floats :
    let el := fun op f a b d => elemOp op f f 0 ⟨0, 0⟩ a b d
    fmtF 11 = true ∧ fmtE 14 = true ∧ fmtI8 1 = true ∧ 0x80 < 2 ^ fmtBits 14 ∧ 0xF0 < 2 ^ fmtBits 1 ∧
    (el .add 11 0x3FC00000 0x40100000 0).bits = 0x40700000 ∧ (el (.cmp 2) 11 0x3FC00000 0x40100000 0).bits = 1 ∧
    (el (.cmp 6) 11 0x7FC00000 0 0).bits = 1 ∧ (el (.cmp 2) 0 0x80 1 0).bits = 1 ∧ (el .sel 1 7 9 1).bits = 7 ∧
    (el .neg 14 0x3C 0 0).bits = 0xBC ∧ (el .popc 1 0xF0 0 0).bits = 4 ∧ (el .bfx 1 0xF0 0x304 0).bits = 7 := by decide +kernel
/-- R66: a NaN, an infinity and 2.5 into INT16. -/
theorem witness_ElementResults_conversions :
    let cv := fun a => elemOp .cvt 11 4 0 ⟨0, 0⟩ a 0 0
    fmtIsInt 4 = true ∧ fmtIsFloat 11 = true ∧ (fpDecode 11 0x7FC00000) = .nan false false ∧ fpDecode 11 0xFF800000 = .inf true ∧
    fpDecode 11 0x40200000 = .fin false 0xA00000 (-22) ∧ (cv 0x7FC00000).bits = 0 ∧ (cv 0xFF800000).bits = 0x8000 ∧
    ((cv 0x40200000).bits, (cv 0x40200000).fl) = (2, flNX) := by decide +kernel
/-- R73, R74: −2 has no logarithm; 2 to the power of 3; and a quiet NaN. -/
theorem witness_ElementResults_special :
    (∃ m e, fpDecode 11 0xC0000000 = .fin true m e ∧ m ≠ 0) ∧ (fpDecode 11 0x40400000).finite ∧ (fpDecode 11 0x7FC00000).isNan ∧
    elemOp .exp2 11 11 0 ⟨0, 0⟩ 0x40400000 0 0 = .plain 0x41000000 := by
  refine ⟨⟨_, _, rfl, ?_⟩, ⟨_, _, _, rfl⟩, ⟨_, _, rfl⟩, ?_⟩ <;> decide +kernel
/-- R69, R247: a k-group of one product of FP16 elements: 1.5 times 2, and a NaN times 2; scales of 1. -/
theorem witness_ElementResults_cells :
    let hs := [tile 0 18 1 1 128, tile 0 12 1 1 128, tile 0x8000 12 1 1 128, tile 0xC000 0 1 1 128]
    let k := cmdSh 1 (.mma false) hs
    let z := { cmdSh 1 (.mmas false) hs with st := List.replicate 32 0x3F80 }
    let buf := fun a => [[1, 0, a], [2, 0, 0x4000]]
    (k.sh 0).f = 18 ∧ groupKs k 0 = [(0, true)] ∧ groupKs z 0 = [(0, true)] ∧
      cellPair k (buf 0x3E00) 0 0 (0, true) = (.fin false 1536 (-10), .fin false 1024 (-9)) ∧
      (cellPair k (buf 0x7E00) 0 0 (0, true)).1 = .nan false false ∧
      (fpDecode 13 (z.st.getD 0 0).toNat) = .fin false 128 (-7) ∧
      (groupCell k (buf 0x3E00) 0 0 0 0).bits = (fpAdd 18 ⟨0, 0⟩ (.fin false 3 0) (.fin false 0 0)).bits ∧
      (groupCell k (buf 0x7E00) 0 0 0 0).bits = canonNaN 18 := by decide +kernel
/-- R253, R255, R257: 5 shifted by one into INT16, to even; the same to FP32; and the elements of ACCX beside a NaN. -/
theorem witness_ElementResults_moves :
    let a := fun g => { cmdSh 1 .accn [tile 0 19 1 1 128, tile 0x8000 g 1 1 128] with ga := 1, reqs := 1 }
    let f := { cmdSh 1 .accn [tile 0 19 1 1 128, tile 0x8000 11 1 1 128] with reqs := 0 }
    let x := cmdSh 1 .accx [tile 0 19 1 1 128, tile 0x8000 10 1 1 128, tile 0xC000 10 1 1 128]
    fmtIsInt ((a 4).sh 1).f = true ∧ fmtIsInt (f.sh 1).f = false ∧
      ((accnElem base (a 4) 0 0 5).bits, (accnElem base (a 4) 0 0 5).fl) = (2, flNX) ∧ (accnElem base f 0 0 5).bits = 0x40A00000 ∧
      (accxElem x (0, 1) [0, 0] 0 5).bits = canonNaN 10 ∧ (fpDecode 10 0x7FF8000000000000) = .nan false false ∧
      (accxElem x (0, 0) [0, 0] 0 5).bits = 0x4014000000000000 := by decide +kernel

/-- The queue with its slots in another bank than its control word. -/
def queuedApart : State :=
  withG 1 0x8000 (writeQinit base 0x8000 (BitVec.ofNat 64 (0x9020 * 2 ^ 40 + 4 * 2 ^ 24 + 2 * 2 ^ 21)))
/-- R27, R64, R90: the write of two dwords in a bound window; of one bit beside others; of two elements of a queue, and of HEAD. -/
theorem witness_EngineSteps_writes :
    let w := fun act => UWrite.mk 0 1 0 0 0 act 0 0
    let s := fun act (s : State) => withC (fun c => { c with uws := [w act], vq := [{ cmdOf 1 .push with ga := 0x8000 }], wins := [⟨0, 4096, 64, 0, 0⟩] }) s
    let h := tile 4096 9 1 2 128
    let b := tile 4096 20 1 8 128
    let e := UAct.elems h [(0, 0, 0x0102), (0, 1, 0x0304)]
    let one := UAct.elems b [(0, 3, 1)]
    let free := fun act u => (workReqs (s act u) (s act u).ctx.now (.write (w act))).all fun r => (r.meet false []).isNone
    (s e base).ctx.status ≠ .handler ∧ (s e base).ctx.uws = [w e] ∧ (w e).due ≤ (s e base).ctx.now ∧ (s e base).ctx.upper = false ∧
      (s e base).ctx.hdr.det = false ∧ (s e base).synd = [] ∧ free e base = true ∧ free one base = true ∧
      (s e base).ctx.live = true ∧
      leaves (exec (.unitWriteCommit 0) (s e base)) (fun t => (spadByte t 4096, spadByte t 4104, t.dirty.contains (spadKey 0 4096 / 32))) =
        some (2, 4, true) ∧
      leaves (exec (.unitWriteCommit 0) (s one base)) (fun t => spadByte t 4096) = some 8 ∧
      (readQ queuedApart 0x8000).count + 2 ≤ (readQ queuedApart 0x8000).depth ∧ free (.push [5, 6]) queuedApart = true ∧
      free (.head 1) queuedApart = true ∧
      (readQ queuedApart 0x8000).slot 0 + 4 ≤ (readQ queuedApart 0x8000).slot 1 ∧
      (readQ queuedApart 0x8000).slot 0 = 0x9020 ∧ queuedApart.synd = [] ∧ queuedApart.ctx.hdr.det = false ∧
      leaves (exec (.unitWriteCommit 0) (s (.push [5, 6]) queuedApart)) (fun t => (spadByte t 0x9020, spadByte t 0x9024, (readQ t 0x8000).tail)) =
        some (5, 6, 2) ∧
      leaves (exec (.unitWriteCommit 0) (s (.head 1) queuedApart)) (fun t => (readQ t 0x8000).head) = some 1 := by decide +kernel
/-- R33, R216: an addition of rows of two whose second source has one column, with EDGE MASK and with EDGE ZERO; a scalar, a
fill and a transposed read. -/
theorem witness_EngineSteps_elements :
    let c := fun e => cmdSh 1 (.elem .add false) [tile 4096 9 1 2 128, tile 8192 9 1 2 128, { tile 12288 9 1 1 128 with edge := e }]
    (c 0).op.quad = false ∧ (c 0).reads = [1, 2] ∧ ((c 0).src 2).beyond 0 0 = false ∧ ((c 0).src 2).beyond 0 1 = true ∧
      (vPerform base (c 0) 0 none).uws.map (fun w => (w.due, w.act)) = [(26, .elems (tile 4096 9 1 2 128) [(0, 0, 0)])] ∧
      (vPerform base (c 1) 0 none).uws.map (·.act) = [.elems (tile 4096 9 1 2 128) [(0, 0, 0), (0, 1, 0)]] ∧
      ({ cmdSh 1 (.elem .add true) [tile 4096 9 1 2 128, tile 8192 9 1 2 128] with ga := 3 }.compute base.ctx 0 [4]).bits = 7 ∧
      ({ cmdSh 1 (.elem .fill true) [tile 4096 9 1 2 128] with ga := 3 }.compute base.ctx 0 []).bits = 3 ∧
      (cmdSh 1 (.elem .fill true) []).reads = [] ∧ (cmdSh 1 (.elem .fma false) []).reads = [1, 2, 3] ∧
      (cmdSh 1 (.elem .fma true) []).reads = [1, 3] := by decide +kernel
/-- R230, R231: the last lane of a chunk of VGATH whose index names element 1 and one beyond, with EDGE ZERO; two elements of VSCAT
for one target. -/
theorem witness_EngineSteps_indices :
    let g := { cmdSh 1 .gath [tile 4096 9 1 16 128, { tile 8192 9 1 2 128 with edge := 1 }, tile 12288 7 1 16 128] with buf := [[1, 0, 0, 9]] }
    let c := { cmdSh 1 .scat [tile 4096 9 1 4 128, tile 8192 9 1 16 128, tile 12288 7 1 16 128] with buf := [[2, 5], [2, 6]] }
    (gatherData base g [0, 3, 2, 7]).uws.map (·.act) = [.elems (g.sh 0) [(0, 0, 9), (0, 12, 0), (0, 13, 0)]] ∧
      (g.sh 1).edge ≠ 2 ∧ (1 : Nat) < (g.sh 1).lr * (g.sh 1).lc ∧ (g.sh 1).lr * (g.sh 1).lc ≤ 6 ∧
      (scatterUnit base c 0 3).uws.map (·.act) = [.elems (c.sh 0) [(0, 0, 0), (0, 2, 6)]] := by decide +kernel
/-- R237, R238: a chunk of VPUSH whose mask holds one 1, and none; VPOP of two elements, and VQCNT. -/
theorem witness_EngineSteps_queues :
    let s := putCells queuedApart [(12288, 2), (4096, 7), (4100, 9), (0x9024, 3)]
    let two := putCells s [(0x800C, 2)]
    let p := { cmdSh 1 .push [tile 0 7 1 1 128, tile 4096 7 1 2 128, tile 12288 20 1 2 128] with ga := 0x8000 }
    let v := { cmdSh 1 .pop [tile 16384 7 1 4 128] with ga := 0x8000, dst := 5 }
    (p.sh 2).edge ≠ 2 ∧ (vPerform s p 0 none).uws.map (fun w => (w.due, w.act)) = [(26, .push [9])] ∧
      (vPerform queuedApart p 0 none).uws = [] ∧ v.reqs = 0 ∧ v.rp = 0 ∧ v.chunks = 1 ∧
      (vPerform two v 0 none).uws.map (fun w => (w.due, w.act)) =
        [(26, .elems (v.sh 0) [(0, 0, 0), (0, 1, 3)]), (26, .head 2), (26, .gb 5 2)] ∧
      (vPerform two { v with op := .qcnt } 0 none).uws.map (fun w => (w.due, w.act)) = [(22, .gb 5 2)] := by decide +kernel
/-- R235, R229: the sums of a row in INT16 and FP32, and from a carry; the winner of VARGMAX with the base of its indices. -/
theorem witness_EngineSteps_scan :
    let c := fun f => { cmdSh 1 .scan [tile 4096 f 1 4 128, tile 8192 f 1 4 128] with ga := 100 }
    let a := { cmdSh 1 (.argmax .all) [tile 0 9 1 1 128, tile 8192 11 1 3 128] with ga := 100 }
    let s := putCells base [(4096, 10)]
    (scanSums base (c 4) 0 0 [3, 1, 5]).out = [(0, 0, 2), (0, 1, 2), (0, 2, 6)] ∧
      (scanSums s (c 4) 0 1 [3]).out = [(0, 1, 12)] ∧ fmtIsInt 4 = true ∧ fmtIsInt 11 = false ∧ fmtF 11 = true ∧
      (scanSums base (c 11) 0 0 [0x3F800001, 0x40000001, 0x7FA00001]).out.map (·.2.2) = [0x3F800000, 0x40400000, canonNaN 11] ∧
      (groupResult base a 0 [(0x3F800000, 0), (0x40000000, 1), (0x40000000, 2)]).1 = 0x40000000 * 2 ^ 32 + 101 := by decide +kernel
/-- R75, R76, R50: sums of 2 and of 3 elements, one NaN; the smallest of two zeros, and of a number and a NaN. -/
theorem witness_EngineSteps_groups :
    let sum := fun f l => (sumGroup f (fun _ => ⟨0, 0⟩) 0 l).1
    fmtF 11 = true ∧ [(0x3F800000, 0)].length = 2 ^ 0 ∧ sum 11 [(0x3F800000, 0), (0x40000000, 1)] = 0x40400000 ∧
      2 ≤ 3 ∧ 2 ^ 1 < 3 ∧ 3 + 1 = 2 ^ (1 + 1) ∧ sum 11 [(0x3F800000, 0), (0x40000000, 1), (0x40400000, 2)] = 0x40C00000 ∧
      sum 0 [(0x7F, 0), (1, 1)] = 0x80 ∧ sum 11 [(0x7FA00000, 0)] = canonNaN 11 ∧
      (extremeGroup false 11 0 [(0, 0), (0x80000000, 1)]).1 = 0x80000000 ∧ (extremeGroup true 0 0 [(0x80, 0), (1, 1)]).1 = 1 ∧
      (argmaxGroup 6 [5, 7, 7]) = (7, 1) ∧ ranksAbove 11 0x7FC00000 0xFF800000 = .lt := by decide +kernel
/-- R77: three digits of 1.5 with ea 3, and of an infinity; the exponent of a row, and of one of zeros. -/
theorem witness_EngineSteps_split :
    (∃ m e, fpDecode 10 0x3FF8000000000000 = .fin false m e) ∧ fpDecode 10 0x7FF0000000000000 = .inf false ∧
      splitDigits 3 3 0x3FF8000000000000 = ([24, 0, 0], false) ∧ splitDigits 3 3 0x7FF0000000000000 = ([0, 0, 0], false) ∧
      splitEa [0x3FF8000000000000, 0] = 3 ∧ splitEa [0] = -1071 := by
  refine ⟨⟨_, _, rfl⟩, ?_⟩; decide +kernel
/-- R249, R253, R257: the first rows of ACCZ, ACCN and ACCX. -/
theorem witness_EngineSteps_rows :
    let z := cmdSh 1 .accz [tile 0 19 1 2 128]
    let n := cmdSh 1 .accn [tile 0 19 1 1 128, tile 0x8000 10 1 1 128]
    let x := { cmdSh 1 .accx [tile 0 19 1 1 128, tile 0x8000 10 1 1 128, tile 0xC000 10 1 1 128] with buf := [[0, 0]] }
    (0 : Nat) < (z.sh 0).rows.toNat ∧ (0 : Nat) < (n.sh 1).lr ∧ x.buf ≠ [] ∧ (x.sh 2).beyond 0 0 = false ∧
      (xPerform base z 0).map (·.uws.map (·.act)) = some [.cells 0 0 0 [0, 0]] ∧
      (xPerform base n 0).map (·.uws.map (·.act)) = some [.elems (n.sh 1) [(0, 0, 0)]] ∧
      (xPerform base x 1).map (·.uws.map (·.act)) = some [.elems (x.sh 1) [(0, 0, 0)]] := by decide +kernel
/-- R97: VPUSH and VPOP on a queue whose sides are free take them. -/
theorem witness_EngineIssueLeaves_claims :
    (readQ queued 0x8000).pctx = 15 ∧ (readQ queued 0x8000).cctx = 15 ∧ queued.ctx.ctxno < 16 ∧ claims (.vpush 1) = true ∧
      claims (.vadd 0) = false ∧
      leaves (exec (.vpush 1) queued) (fun t => ((readQ t 0x8000).pctx, t.ctx.claims)) = some (0, [0x8000]) ∧
      leaves (exec (.vpop 1 2) queued) (fun t => ((readQ t 0x8000).cctx, t.ctx.claims)) = some (0, [0x8000]) := by decide +kernel
/-- R104, R274: WMAP of two rows of 64 bytes; the same index, and a region that meets another's. -/
theorem witness_PromiseSteps_binding :
    let h := tile 4096 1 2 64 64
    let k := { cmdSh 5 .wmap [h] with aux := 3, ga := 8192 }
    let v : Win := ⟨3, 4096, 128, 8192, 21⟩
    let u : Win := ⟨3, 16384, 64, 0, 0⟩
    let m : Win := ⟨2, 4160, 64, 0, 0⟩
    let sh := fun n : Fin 4 => if n = 0 then h else Shape.zero
    let s := withG 1 8192 base
    let w := fun x => withC (fun c => { c with wins := [x] }) s
    (cPerform base k 0).map (fun p => (p.eff base).ctx.wins) = some [v] ∧
      boundWin { base.ctx with wins := [v], tclk := 21 } 3 = some v ∧ boundWin { base.ctx with wins := [v], tclk := 20 } 3 = none ∧
      h.rowLen % 32 = 0 ∧ h.base.toNat % 64 = 0 ∧ h.pitch.toNat % 64 = 0 ∧ (rdG s 1).toNat % 64 = 0 ∧
      h.base.toNat < m.base + m.len ∧ m.base < h.base.toNat + h.rows.toNat * h.pitch.toNat ∧
      (wmapLimits 1 3 (w u) sh).map (fun t => (t.cause, t.i0)) = some (2, 3) ∧
      (wmapLimits 1 3 (w m) sh).map (fun t => (t.cause, t.i0)) = some (2, 3) ∧ wmapLimits 1 3 s sh = none := by decide +kernel
/-- R106, R275: a granule of WBACK with one dirty sector, and a clean one; a WUNMAP whose occupancy has ended, and one short. -/
theorem witness_PromiseSteps_granules :
    let k := { cmdSh 5 .wback [] with reqs := 2, buf := [[4096, 8192]], aux := 3 }
    let v : Win := ⟨3, 4096, 128, 8192, 0⟩
    let s : State := { withC (fun c => { c with wins := [v], cq := [k] }) (paged base) with dirty := [spadKey 0 4128 / 32] }
    let z := { k with op := .wunmap }
    let n := z.base + z.occ false
    let f := withC (fun c => { c with cq := [z] }) s
    k.region.1 % 32 = 0 ∧ (0 : Nat) < k.reqs ∧ dirtySectors s k 0 = [129] ∧ dirtySectors s k 1 = [] ∧
      (cPerform s k 0).map (fun p => (p.perf.causes, (p.eff s).dirty, (p.eff s).net.pieces.map fun q => (q.va, q.len))) =
        some ([], [], [(8224, 32)]) ∧
      (freeEntries f n).ctx.wins = [] ∧ (freeEntries f (n - 1)).ctx.wins = [v] := by decide +kernel
/-- R106, R273: a WFILL's bytes, and others, in a window. -/
theorem witness_PromiseSteps_arrivals :
    let s : State := { withC (fun c => { c with wins := [⟨3, 4096, 128, 8192, 0⟩] }) base with dirty := [spadKey 0 4096 / 32] }
    let put := fun f => (fillPut s 0 4096 (List.replicate 64 1) [0, 0] f fun _ => true).dirty
    128 ∈ sectorsOf 4096 64 ∧ base.ctx.live = true ∧ base.ctx.gunit = 0 ∧ put true = [] ∧
      put false = [spadKey 0 4096 / 32, spadKey 0 4128 / 32] := by decide +kernel
/-- R20, R40: a barrier of the Upper counts a phase that is not published, one of the Sole does not. -/
theorem witness_StallsAreReleased_upper :
    let b := fun u => withC (fun c => { c with wait := .bar 1 2 0, bars := [(1, 0)], pubd := 0, upper := u }) base
    participants (b true) (b true).ctx 1 = [(b true).ctx] ∧ barDone (b true) (b true).ctx 1 0 = true ∧
      barDone (b false) (b false).ctx 1 0 = false := by decide +kernel
/-- R342: a lead that stands in a wait is not held by a trail that is due. -/
theorem witness_MergeAndRingSteps_lead :
    let x : Ctx := { base.ctx with cid := 1, ctxno := 1, role := .trail, blocked := 64 }
    let m := fun w => { withC (fun c => { c with wait := w }) base with others := [x] }
    standsReady (m .none).ctx = true ∧ standsReady (m (.waitt 9)).ctx = false ∧
      leaves (exec (.trailForcedIssue 0) (m (.waitt 9))) (fun t => (t.ctx.frozen, t.ctx.blkc)) = some (false, 0) := by decide +kernel
/-- R267, R349: a complete copy; a WAITP past its promise and its grace; one with GRACE 0; one whose piece is parked. -/
theorem witness_PromiseSteps :
    let c : Ctx := { base.ctx with cq := [{ cmdOf 5 (.cpg false) with freed := true }], wait := .waitp 1 0 [5] 3 64 4 }
    let s := withC (fun _ => c) base
    findCtx s 0 = some c ∧ (c.cq.any fun k => k.id == 5 && k.left == 0) = true ∧ c.role ≠ .parked ∧ c.hdr.det = false ∧
      0 ≤ c.now ∧ (3 : Nat) < 4 ∧
      leaves (exec (.promiseMissed 0) s) (fun t => t.ctx.cands.map fun x => x.2.2.1.cause) = some [0x15] ∧
      leaves (exec (.promiseMissed 0) (withC (fun c => { c with wait := .waitp 1 0 [5] 0 64 4 }) s)) (fun t => t.ctx.cands) = some [] ∧
      leaves (exec (.copyCompletion 0 5) s) (fun t => t.ctx.cq.length) = some 0 := by decide +kernel
/-- R17, R41: a trail blocked for 64 cycles; a ring that stands stopped, and one with a station trapped. -/
theorem witness_MergeAndRingSteps :
    let x : Ctx := { base.ctx with cid := 1, ctxno := 1, role := .trail, blocked := 64 }
    let m : State := { base with others := [x] }
    let v : Saved := savedAt 77 [] ⟨6, 0, 0, 0, 0⟩
    let r := withC (fun c => { c with upper := true, cid := 1536, status := .ringStop, saved := some v }) base
    let z : State := { r with others := [{ r.ctx with cid := 1537, unit := 1, status := .trapped }] }
    findCtx m 1 = some x ∧ x.gunit = 0 ∧ x.role = .trail ∧ 64 ≤ x.blocked ∧
      leaves (exec (.trailForcedIssue 0) m) (fun t => t.ctx.frozen) = some true ∧
      r.ctx.status = .ringStop ∧ r.ctx.upper = true ∧ r.ctx.swapped = false ∧ r.ctx.saved = some v ∧ r.others = [] ∧
      leaves (exec .ringResume r) (fun t => (t.ctx.status, t.ctx.tclk)) = some (.running, 77) ∧
      (ring z).any (fun d => d.status == .trapped) = true := by decide +kernel

/-! ### Pieces, atomics and publications -/

/-- A piece of the context's command 5 of eight bytes. -/
def pieceOf (k : PieceKind) (st : PieceState) : Piece :=
  { blankPiece { base with fresh := 9 } base.ctx with
    kind := k, src := 1, cmd := 5, seq := 1, key := hbmKey 0 0, dst := 4096, len := 8, data := [1, 2, 3, 4, 5, 6, 7, 8]
    stamps := [0, 0, 0, 0, 0], due := 0, state := st, rect := [0, 0, 1, 1], span := (4096, 8) }
/-- The page mapped, and pieces on their way. -/
def fabric (ps : List Piece) : State := { paged base with net := { (paged base).net with pieces := ps } }

/-- A page that is mapped, none, a full fault queue, a page that is held, and a far home. -/
theorem witness_PiecesAtHome :
    let r := pieceOf .read .flight
    let w := pieceOf .write .flight
    let s := fabric [r]
    let u : State := { s with net := { s.net with segs := [] } }
    let f : State := { u with net := { u.net with pieces := r :: (List.range 64).map fun k => { r with id := 100 + k, src := 2, cmd := k, state := .parked } } }
    let h : State := { s with net := { s.net with segs := [⟨0xC000, 16, 0, 0⟩] } }
    findPiece s 9 = some r ∧ arrived s r = true ∧ r.second = none ∧ gateOf s r = .go 0 (hbmKey 0 0) ∧ r.kind = .read ∧
      gateOf (fabric [w]) w = .go 0 (hbmKey 0 0) ∧ w.kind = .write ∧ gateOf u r = .park ∧ findPiece f 9 = some r ∧
      arrived f r = true ∧ gateOf f r = .refuse ∧ gateOf h r = .wait ∧ farHome 1024 = true ∧ r.delivers = false := by
  decide +kernel
/-- R87, R124: a read's bytes that are back; a delivery whose phase is published at task scope and wider; a refused piece. -/
theorem witness_PiecesLand :
    let r := pieceOf .read .atHome
    let d := pieceOf .deliver .atHome
    let s : State := { fabric [d] with net := { (fabric [d]).net with pubs := [⟨1, 0, 0, 4⟩] } }
    settling s 0 = false ∧ findPiece (fabric [r]) 9 = some r ∧ r.due ≤ (fabric [r]).cycle ∧
      srcCtx (fabric [r]) 1 = some base.ctx ∧ base.ctx.upper = false ∧ (fabric [r]).synd = [] ∧
      deliverable s d = true ∧ d.home = ownHome s ∧ receivers s d = [base.ctx] ∧
      undeclared d [base.ctx] (arrivalKeep s d [base.ctx]) = none ∧
      findPiece (fabric [{ r with state := .refused }]) 9 = some { r with state := .refused } ∧
      leaves (exec (.deliveryLanding 9) s) (fun t => (spadByte t 4103, t.net.pieces.length)) = some (8, 0) := by decide +kernel
/-- R89, R359: a delivery from another core to a deterministic task that has declared nothing, and one whose sector's code fails. -/
theorem witness_PiecesLand_discards :
    let d := { pieceOf .deliver .atHome with src := 2, data := List.replicate 32 1, len := 32, syn := [1], span := (4096, 32) }
    let far : Ctx := { base.ctx with src := 2, unit := 1, cid := 8 }
    let s : State := { fabric [d] with others := [far], net := { (fabric [d]).net with pubs := [⟨2, 1, 0, 4⟩] } }
    let e := withC (fun c => { c with hdr := { c.hdr with det := true } }) s
    landsFar s d = true ∧ deliverable s d = true ∧ receivers s d = [base.ctx] ∧
    landingBad s d (arrivalKeep s d [base.ctx]) = some 0 ∧ deliverable e d = true ∧
      undeclared d (receivers e d) (arrivalKeep e d (receivers e d)) = some 4096 ∧
      leaves (exec (.deliveryLanding 9) e) (fun t => spadByte t 4096) = some 0 := by
  decide +kernel
/-- R272, R413: a copy whose source page is mapped; an atomic for a far home. -/
theorem witness_PiecesAtHome_more :
    let c := { pieceOf .write .flight with second := some (0, hbmKey 0 64), peer := 64 }
    let a := { pieceOf (.atom 0 8 [] true) .flight with home := 1024 }
    findPiece (fabric [c]) 9 = some c ∧ arrived (fabric [c]) c = true ∧ gateOf (fabric [c]) c = .go 0 (hbmKey 0 64) ∧
      c.second.isSome = true ∧ findPiece (fabric [a]) 9 = some a ∧ arrived (fabric [a]) a = true ∧
      farHome a.target.2.1 = true ∧ gateOf (fabric [a]) a = .refuse ∧ farTarget (fabric [a]) a = true := by decide +kernel
/-- R278: an ADD of dwords, with and without return. -/
theorem witness_AtomicsAtHome : ∀ b ∈ [true, false],
    let p := pieceOf (.atom 0 8 [] b) .flight
    findPiece (fabric [p]) 9 = some p ∧ arrived (fabric [p]) p = true ∧ atomReady (fabric [p]) p = true ∧
      gateOf (fabric [p]) p = .go 0 (hbmKey 0 0) ∧ (p.syn ++ homeSyn (fabric [p]) (hbmKey 0 0) 8).all (· == 0) = true ∧
      hbmKey 0 0 % 64 + p.len ≤ 64 ∧
      leaves (exec (.atomAtHome 9) (fabric [p])) (fun t => t.net.hist.map fun e => (e.atom, e.bytes)) =
        some [(true, [1, 2, 3, 4, 5, 6, 7, 8] ++ List.replicate 56 0)] := by decide +kernel
theorem witness_PublicationCompletes :
    let p := pieceOf .write .atHome
    let s := withC (fun c => { c with closing := [(0, 4)], openPh := 1 }) (fabric [p])
    srcCtx s 1 = some s.ctx ∧ pubReady s s.ctx = some (0, 4) ∧ s.net.pieces = [p] ∧ p.src = 1 ∧ p.phase ≤ 0 ∧
      leaves (exec (.publicationCompletion 1) s) (fun t => (t.net.pubs, t.net.hist.length, t.ctx.pubd)) =
        some ([⟨1, 0, 0, 4⟩], 1, 1) := by decide +kernel
/-- R127, R268, R280: a barrier that is made and one that is not; each stall with its cause cleared; a hold whose operand has
come; a collective of one participant. -/
theorem witness_StallsAreReleased :
    let b := withC (fun c => { c with wait := .bar 1 2 0, bars := [(1, 0)], pubd := 1 }) base
    let k := { cmdOf 5 (.coll 0) with sr := Vector.replicate 4 (tile 4096 9 1 8 64), left := 1, rp := 2, buf := [List.replicate 64 1] }
    let c := withC (fun c => { c with cq := [k] }) base
    let z := withC (fun c => { c with wait := .bar 0 2 0, bars := [(0, 0)], pubd := 1 }) base
    (findCtx b 0 = some b.ctx ∧ barDone b b.ctx 1 0 = true) ∧
    barDone (withC (fun c => { c with pubd := 0 }) b) (withC (fun c => { c with pubd := 0 }) b).ctx 1 0 = false ∧
    ([0, 1, 2, 3].all fun n => cycleStall (withC (fun c => { c with wait := .stall n }) base) 0 == none) = true ∧
    holdKind (focus (withC (fun c => { c with wait := .hold 0 }) base) 0) 0 = none ∧
    findCtx z 0 = some z.ctx ∧ barDone z z.ctx 0 0 = true ∧
    collPending c c.ctx = some k ∧ participants c c.ctx 0 = [c.ctx] ∧ farMates c c.ctx 0 = [] ∧
    collOf c.ctx 0 0 = some k := by decide +kernel

/-! ### Tasks, launches and queues -/

/-- A header of one task on core 0, as bytes: its image is the block of code at address 0. -/
def header : List Byte :=
  (List.range 512).map fun i => (([(0, 0x48), (1, 0x4C), (2, 1), (3, 8), (32, 64), (36, 64), (45, 0x10), (64, 1), (65, 1), (66, 1),
    (76, 1), (130, 1), (131, 1), (136, 1)] : List (Nat × Byte)).find? fun x => x.1 == i).elim 0 (·.2)
/-- A launch of that header, routed. -/
def launch1 : Launch :=
  { lid := 3, hdr := parseHdr header, raw := header, code := List.replicate 64 0, recs := [], sid := 7, sq := 1, gangsDone := 0
    started := [], retired := 0, failed := none, ending := false, adm := 0, routed := true, readyAt := 1, readySub := 0, sigs := [], early := false
    after := none }
/-- An open session with queue 0, and the launch at the head of the queue. -/
def session1 : Session := ⟨7, 70, [], [], [], [], 0, 1, 0, [], [], 1, [], 0⟩
def queue1 : WorkQueue := ⟨0, 7, [3], 0, 0, 1, 0, [], 0⟩
def hosted : State :=
  let s := paged base
  { s with ctx := Ctx.vacant, fresh := 80, booted := true, host := { s.host with sessions := [session1], queues := [queue1], launches := [launch1] } }

/-- R23, R128: an END that waits for nothing, and a launch whose one task has retired. -/
theorem witness_TaskAndLaunch_end :
    let c : Ctx := { base.ctx with lid := 3, wait := .ending }
    let s : State := { hosted with ctx := c }
    let l := { launch1 with gangsDone := 1, retired := 1 }
    let d : State := { hosted with host := { hosted.host with launches := [l] } }
    findCtx s 0 = some c ∧ endReady c = true ∧ findLaunch s 3 = some launch1 ∧ launch1.ending = false ∧
      findLaunch d 3 = some l ∧ launchDone d l = true ∧ findQueue d l.hdr.queue = some queue1 ∧
      (findSession d 7).isSome = true := by
  decide +kernel
/-- R399, R401: a gang of one task; a queue at the end of its time; a launch that has waited for its switch. -/
theorem witness_TaskAndLaunch_admission :
    let q := { queue1 with waited := 100000 }
    let s : State := { hosted with host := { hosted.host with queues := [q] } }
    let l := { launch1 with routed := false }
    let r : State := { hosted with tick := 16, host := { hosted.host with launches := [l] } }
    (pickGang hosted).found = some (launch1, [(0, 0)]) ∧ (markBubbles hosted (pickGang hosted).kept == hosted) = true ∧
    needsDisabled hosted launch1 [(0, 0)] = false ∧
      (match firstAdmission hosted launch1 with | .ok u => u == hosted | .error _ => false) = true ∧
      findQueue s 0 = some q ∧ isWaiting s q = true ∧ s.img.age.getD q.level 0 ≠ 0 ∧
      s.img.age.getD q.level 0 * 100 ≤ q.waited ∧ q.level < 7 ∧ r.host.launches = [l] ∧ l.routed = false ∧ 0 < l.readyAt ∧
      l.readyAt ≤ r.tick ∧ r.cob.pendTables = [] ∧ r.tick % 16 = 0 ∧
      leaves (exec .gangAdmission hosted) (fun t => t.others.map fun c => (c.lid, c.pc)) = some [(3, 0)] := by decide +kernel

/-! ### The Welt -/

/-- An open slot, and a record of one token for it. -/
def slot1 : Slot := { slotOfRecord 0 7 [] with epoch := 5, depth := 2, dmin := 1, dmax := 16, ksh := 1, st := 1, maxlen := 64, vocab := 2 }
def record1 (age : Nat) : List Byte := List.replicate 10 0 ++ leBytes 2 ((5 + 65536 - age) % 65536) ++ [1]
def welt (x : Slot) : State := { base with welt := { base.welt with slots := [x] } }

/-- R300, R301: ages 1, 32767, 32768 and 0; a slot between rounds; a full queue. -/
theorem witness_WeltSteps_records :
    let s := welt slot1
    let age := fun r => (slot1.epoch + 2 ^ 16 - recField r 10 2 % 2 ^ 16) % 2 ^ 16
    (∀ a ∈ [0, 1, 32767, 32768], recFault s (record1 a) = none ∧ age (record1 a) = a) ∧
    findSlot s (recField (record1 0) 8 2) = some slot1 ∧ slot1.st = 1 ∧ slot1.recs.length < slot1.depth ∧
    recField (record1 0) 4 4 = slot1.slen + slot1.recs.length ∧ proposalsFull s = false ∧
    proposalsFull { s with welt := { s.welt with pqcap := 0 } } = true ∧
    findSlot (welt { slot1 with st := 0 }) 0 = some { slot1 with st := 0 } := by decide +kernel
/-- R305, R306: a judged round that ends; ARATE at the threshold of the next depth, and below this one's. -/
theorem witness_WeltSteps_final :
    let x := { slot1 with st := 4, jstar := 1, recs := [record1 0, record1 0] }
    let f : FinalReq := ⟨0, 1, 0, 1, 0⟩
    let s : State := { welt x with welt := { (welt x).welt with finals := [f] } }
    s.welt.finals = [f] ∧ f.cid = 0 ∧ finalReady s f = true ∧ findSlot s f.slot = some x ∧ x.st = 4 ∧ x.done = false ∧
      x.fault = false ∧ 0 < x.jstar ∧
      leaves (exec (.wfinalPerformed 0) s) (fun t => t.welt.slots.map fun y => (y.depth, y.epoch, y.vlen)) = some [(3, 6, 0)] := by
  decide +kernel
theorem witness_WeltSteps_rest :
    let s := withC (fun c => { c with hdr := { c.hdr with logit := some 0, widths := [8] } }) (welt slot1)
    let es := List.range 16
    findCtx s 0 = some s.ctx ∧ logitSlot s.ctx = some 0 ∧ findSlot s 0 = some slot1 ∧ es.length = 16 ∧ (∀ e ∈ es, e < 2 ^ 16) ∧
      (∀ i ∈ List.range 15, es.getD i 0 ≤ es.getD (i + 1) 0) ∧ ([2, 1] : List Nat).getD 1 0 < ([2, 1] : List Nat).getD 0 0 := by
  decide +kernel
/-- R296, R313: a slot whose RSEED is written, with two words of its stop sequences, and a launch whose seed changes. -/
theorem witness_WeltSteps_management :
    let s := welt slot1
    let e : State := { hosted with ctx := { hosted.ctx with lid := 3 } }
    findSlot s 0 = some slot1 ∧ findLaunch e 3 = some launch1 ∧ e.ctx.lid = 3 ∧
      leaves (exec (.registerWrite (.slot 0 4) 9) s) (fun t => t.welt.slots.map (·.rseed)) = some [9] ∧
      (manageStops (List.replicate 8 (List.range 16)) 18 0x0000000900000008).getD 1 [] = [0, 1, 8, 9] ++ (List.range 16).drop 4 ∧
      (manageSlot s 0 8 0x0200).welt.slots.map (fun y => (y.slens, y.stops == slot1.stops)) = [([0, 2, 0, 0, 0, 0, 0, 0], true)] ∧
      leaves (exec (.registerWrite (.seed 3) 9) e) (fun t => (startTask t).ctx.hdr.seed) = some 9 := by decide +kernel
/-- R306: one less when ARATE plus H lies below this depth's threshold. -/
theorem witness_DepthOfTheNextRound :
    let x := { slot1 with st := 4, jstar := 1, recs := [record1 0, record1 0] }
    let f : FinalReq := ⟨0, 1, 0, 1, 0⟩
    let s : State := { welt x with welt := { (welt x).welt with finals := [f], thr := Vector.replicate 8 (List.replicate 16 65535) } }
    finalReady s f = true ∧ findSlot s f.slot = some x ∧
      leaves (exec (.wfinalPerformed 0) s) (fun t => t.welt.slots.map (·.depth)) = some [1] := by decide +kernel

/-! ### Scheduling, power, heat and the Cobbler -/

theorem witness_SchedulerSteps_contexts :
    let t := withC (fun c => { c with tmr := 0x100000005, tmrCnt := 5, begun := true }) base
    let p := withC (fun c => { c with preReq := true, preCnt := 0 }) base
    let k := withC (fun c => { c with role := .parked, slice := 1000 }) base
    let w : State := { base with cob := { base.cob with pwr := [⟨0, 480⟩] } }
    let v : Saved := savedAt 5 [] ⟨6, 0, 0, 0, 0⟩
    leaves (exec (.pwraGrant false) (withC (fun c => { c with saved := some v }) w)) (fun t => (t.ctx.saved.map fun x =>
        x.dws.map (·.act))) = some (some [.pwrlvl 480]) ∧ findCtx t 0 = some t.ctx ∧ timerRuns t.ctx = true ∧ t.ctx.tmr.toNat % 2 ^ 32 ≤ t.ctx.tmrCnt ∧ p.ctx.preReq = true ∧
      p.ctx.role ≠ .parked ∧ p.ctx.hdr.ibound ≤ p.ctx.preCnt ∧ k.ctx.role = .parked ∧ k.img.slice ≠ 0 ∧ k.ctx.slice = k.img.slice ∧
      w.cob.pwr = [⟨0, 480⟩] ∧ findCtx w 0 = some w.ctx ∧ w.ctx.saved = none ∧ cidUpper 0 = false ∧
      budgetUsed w ⟨0, 480⟩ ≤ w.img.solebud ∧ issuers base 0 = [base.ctx] ∧ base.ctx.role = .lead ∧
      base.ctx.energySat = false ∧ base.ctx.energy + base.img.pstat * 10 < 2 ^ 48 := by decide +kernel
/-- R352, R422: the threshold and one below; an island at its quiesce point, and one that has settled. -/
theorem witness_SchedulerSteps_islands :
    let i : Island := { Island.fresh 5 with pendOp := some 3 }
    let q : State := { base with units := [i] }
    let d : State := { base with tick := 9, units := [{ i with settle := some 9 }] }
    (379 : Nat) < 4 * base.img.tcrit ∧ (getIsland base 5).thrAt = none ∧
      leaves (exec (.thermalSample [(5, 379)]) base) (fun t => (getIsland t 5).thr) = some false ∧
      leaves (exec (.thermalSample [(5, 380)]) base) (fun t => (getIsland t 5).thr) = some true ∧
      (getIsland q 5).pendOp = some 3 ∧ (getIsland q 5).settle = none ∧ coreQuiet q 5 = true ∧ (getIsland d 5).settle = some 9 ∧
      leaves (exec (.opSwitchSettled 5) d) (fun t => (getIsland t 5).opc) = some 3 := by decide +kernel
/-- R423: a watchdog one short of its limit, and at it; R430: a halted context, and one that may park. -/
theorem witness_CobblerSteps_contexts :
    let h := fun n => withC (fun c => { c with hang := n, dwait := 100 * n }) base
    (h 10000000).img.hangt ≤ (h 10000000).ctx.hang ∧ (h 9999999).ctx.hang < (h 9999999).img.hangt ∧
      (h 10000000).img.dwait ≤ (h 10000000).ctx.dwait ∧ (h 9999999).ctx.dwait < (h 9999999).img.dwait ∧
      base.ctx.status ≠ .handler ∧ logitSlot base.ctx = none ∧ canPark base.ctx = true ∧ base.ctx.upper = false ∧
      (withC (fun c => { c with status := .halted }) base).ctx.status = .halted ∧
      leaves (exec (.hangWatchdogExpiry 0) (h 10000000)) (fun t => t.ctx.tcause) = some 0x21 := by decide +kernel
/-- R426: a context trapped by SVC 0xE01. -/
theorem witness_CobblerSteps_services :
    let v : Saved := savedAt 5 [] ⟨0x10, 0xE01, 1, 0, 0⟩
    let s := withC (fun c => { c with status := .trapped, tcause := 0x10, tinfo := #v[0xE01, 1, 0, 0], saved := some v }) base
    findCtx s 0 = some s.ctx ∧ s.ctx.status = .trapped ∧ s.ctx.tcause = 0x10 ∧ s.ctx.tinfo[1] = 1 ∧ s.ctx.saved = some v ∧
      s.ctx.tinfo[0] = 0xE01 ∧ leaves (exec (.svcSetEnergy 0) s) (fun t => (t.ctx.status, t.ctx.tclk)) = some (.running, 5) := by
  decide +kernel
theorem witness_CobblerSteps_units :
    let x : SelfTest := ⟨1, 2, 9, 0, 0, 0, [], 5⟩
    let s : State := { base with tick := 5, cob := { base.cob with tests := [x] } }
    let o : State := { base with ctx := { base.ctx with swapped := true, cid := 4096 } }
    s.cob.tests = [x] ∧ x.ends ≤ s.tick ∧ x.cids = [] ∧ x.ukind = 2 ∧ base.cob.tests = [] ∧ partition base [9] = [] ∧
      partitionHalted base [0] = false ∧ o.ctx.live = true ∧ o.ctx.swapped = true ∧ o.ctx.gunit = 0 ∧ o.others = [] ∧
      4096 ≤ o.ctx.cid := by decide +kernel

/-- R445: a load of a byte in bank 0 while that bank is under test, and its context as it waits there. -/
theorem witness_CobblerSteps_fence :
    let x : SelfTest := ⟨1, 1, 0, 0, 0, 0, [], 5⟩
    let s : State := { withC (fun c => { c with latches := [{ late (.g 3) 0 with due := 2, ld := some ⟨4096, 8, true⟩ }] }) base with
      cob := { base.cob with tests := [x] } }
    let w : State := { withC (fun c => { c with wait := .stall 5, owed := true }) s with tick := 5 }
    fenced s s.ctx.now = true ∧ s.ctx.wait = .none ∧ w.cob.tests = [x] ∧ x.ends ≤ w.tick ∧ x.cids = [] ∧ w.others = [] ∧
      w.ctx.live = true ∧ w.ctx.owed = true ∧ w.ctx.gunit = x.unit ∧ x.ukind = 1 ∧
      (w.ctx.latches.any fun l => l.ld.isSome && l.due == w.ctx.now + 2) = true := by decide +kernel

/-! ### Sessions and host commands -/

/-- A CLOSE of session 7 with number sq, signed with its key; and the datagram of a QUERY of the queue state. -/
def signed (h : List Byte) : List Byte := h ++ (hmac256 [] h).take 16
def closeOf (sq : Nat) : List Byte := signed (leBytes 2 0x5643 ++ [1, 0x43] ++ leBytes 4 7 ++ leBytes 8 sq ++ List.replicate 8 0)
def queryOf (sq : Nat) : List Byte :=
  signed (leBytes 2 0x5643 ++ [1, 6] ++ leBytes 4 7 ++ leBytes 8 sq ++ leBytes 2 0 ++ leBytes 2 14 ++ leBytes 4 0 ++ [3] ++
    List.replicate 11 0 ++ [16, 0])

/-- The UDP datagram of a VCT packet to a port, its checksum as the sender makes it, and a number added to it. -/
def framed (port off : Nat) (d : List Byte) : List Byte :=
  let h := List.replicate 40 0 ++ [0x1D, 0x63] ++ beBytesOf 2 port ++ beBytesOf 2 (8 + d.length)
  let n := wordSum ((h ++ [0, 0] ++ d).drop 8) + 17 + 8 + d.length
  h ++ beBytesOf 2 (65535 - n % 65535 + off) ++ d
/-- R387, R389: a short datagram, one to another port and one with a wrong checksum; number 1, the oldest that the window
takes, a copy that has its ACK, and a query. -/
theorem witness_SessionSteps_datagrams :
    let d := closeOf 1
    let n := recField d 18 2
    let w := { session1 with high := 64 }
    udpPort (framed 7522 0 d) ≠ 7523 ∧ 48 ≤ (framed 7522 0 d).length ∧ udpPort (framed 7523 1 d) = 7523 ∧
      badChecksum (framed 7523 1 d) = true ∧ udpPort (framed 7523 0 d) = 7523 ∧ badChecksum (framed 7523 0 d) = false ∧
      (framed 7523 0 d).drop 48 = d ∧ badDatagram [] = true ∧ badChecksum (framed 7523 0 []) = false ∧
      badDatagram d = false ∧ recField d 3 1 ≠ 0x40 ∧ recField d 4 4 = 7 ∧
      findSession hosted 7 = some session1 ∧ (hmac256 session1.khd (d.take (24 + n))).take 16 = d.drop (24 + n) ∧
      w.high < recField d 8 8 + 64 ∧ 0 < recField d 8 8 ∧ 1 ∉ session1.seen ∧
      packetEvents (stalePageans hosted 7) 7 1 d = some [.closeSession 7] ∧ badDatagram (queryOf 2) = false ∧
      packetEvents (stalePageans hosted 7) 7 2 (queryOf 2) = some [.queryQueueState 7 2 0 0 16] ∧
      (([(1, 0)] : List (Nat × Nat)).find? fun a => a.1 == 1) = some (1, 0) := by decide +kernel
/-- R388: an OPEN whose signature was made outside the model, with the key pair of RFC 6979 A.2.5. -/
def openBody : List Byte :=
  beBytesOf 32 0x60FED4BA255A9D31C961EB74C6356D68C049B8923B61FA6CE669622E60F29FB6 ++
    beBytesOf 32 0x7903FE1008B8BC99A41AE9E95628BC64F2F1B20C2D7E9F5177A3C294D4462299 ++ List.replicate 96 0 ++ [0, 0, 1, 0, 0, 0, 0, 0] ++
    beBytesOf 32 0xEFD48B2AACB6A8FD1140DD9CD45E81D69D2C877B56AAF991C34D0EA84EAF3716 ++
    beBytesOf 32 0x68FF0B5D9CD3993F279E2F2A802B5D4B0B1485CD57BA00115DF776488A82FD86
theorem witness_SessionSteps_open :
    let s : State := { base with booted := true, img := { base.img with keys := [openBody.take 64] } }
    s.recovery = false ∧ s.booted = true ∧ openOk s openBody = true ∧
    openOk s (openBody.take 231 ++ [0]) = false := by decide +kernel
theorem witness_SessionSteps_rest :
    let p : OutPkt := ⟨7, 1, 0x80, [], [], 5, 63⟩
    let s : State := { hosted with tick := 5, host := { hosted.host with out := [p] } }
    findSession hosted 7 = some session1 ∧ s.host.out = [p] ∧ 0 < p.sends ∧ p.sends < 64 ∧ p.due ≤ s.tick ∧
      leaves (exec (.ack 7 1) s) (fun t => t.host.out) = some [] := by decide +kernel
/-- R389: a packet sent 64 times; its session closes with a CLOSE. -/
theorem witness_SessionSteps_closing :
    let p : OutPkt := ⟨7, 1, 0x80, [], [], 5, 64⟩
    let s : State := { hosted with tick := 5, host := { hosted.host with out := [p] } }
    findSession s 7 = some session1 ∧ s.host.out = [p] ∧ 64 ≤ p.sends ∧ p.due ≤ s.tick ∧
      leaves (exec (.retransmit 7 1) s) (fun t => (t.host.sessions, t.host.out.map (·.type))) = some ([], [0x43]) := by
  decide +kernel

/-- R395, R398: a header without fault on a bound queue, one with a fault, and a queue of another session. -/
theorem witness_HostCommands_launch :
    (findSession hosted 7).isSome = true ∧ findQueue hosted 0 = some queue1 ∧ queue1.sid = 7 ∧
      headerStatus hosted header (some 0) = 0 ∧ queueFull hosted 0 = false ∧ headerStatus hosted [] (some 0) = 0x105 ∧
      findQueue hosted 1 = none ∧
      leaves (exec (.launch 7 2 0 header) hosted) (fun t => t.host.launches.map (·.lid)) = some [3, 80] := by decide +kernel
/-- R391: the last bytes of the mapped page, and the first beyond. -/
theorem witness_HostCommands_copies :
    rangeHomes hosted 65528 8 .write = true ∧ rangeHomes hosted 65528 9 .write = false ∧ rangeHomes hosted 65528 8 .read = true ∧
      hostBad hosted 65528 8 = none ∧ rangeHomes hosted 65536 8 .read = false ∧ findSession hosted 7 = some session1 := by
  decide +kernel
/-- R296, R392: a slot's record that is taken, and one that is refused; the other signals. -/
theorem witness_HostCommands_signals :
    let q := leBytes 8 (0x9 * 0x100000000 + 2 * 2048 + 16) ++ leBytes 8 (5 * 0x100000000) ++ leBytes 8 (1 * 2048 + 16 * 64) ++
      leBytes 8 64 ++ leBytes 8 0 ++ leBytes 8 (2 * 0x100000000) ++ leBytes 8 (32 * 0x10000) ++ List.replicate 528 0
    let lens := (List.range 8).map fun k => recField q (64 + k) 1
    let d := { slot1 with done := true }
    slotRefused base (slotOfRecord 0 7 q) lens = false ∧ slotRefused base (slotOfRecord 1024 7 q) lens = true ∧
      base.ctx.live = true ∧ base.ctx.cid = 0 ∧ base.ctx.hdr.tag = 0 ∧ base.ctx.wid = 0 ∧ findSlot (welt slot1) 0 = some slot1 ∧
      slot1.req = 0 ∧ slot1.done = false ∧ findSlot (welt d) 0 = some d ∧ d.done = true ∧ slot1.req ≠ 1 := by decide +kernel
/-- R392: a signal for a task of the part, and one for a work identifier that no task has. -/
theorem witness_HostCommands_task :
    base.ctx.live = true ∧ base.ctx.hdr.tag = 0 ∧ base.ctx.wid = 0 ∧ (giveSignal base (7, 1, 0, 0, 9)).ctx.signals = [9] ∧
      ((allCtx base).all fun c => !(c.live && c.hdr.tag == 0 && c.wid == 1)) = true ∧ base.host.launches = [] ∧
      leaves (exec (.signalTask 7 1 0 1 9) hosted) (fun t => t.host.sigs) = some [(7, 1, 0, 1, 9)] := by decide +kernel
/-- R391: a WAITVAL that is due: its relation holds; it does not, with time left, and at the end of its time. -/
theorem witness_HostCommands_waitval :
    let w := fun v u => WaitVal.mk 7 1 0 0xFF v 0 u 5
    let s := fun x : WaitVal => { hosted with tick := 5, host := { hosted.host with waits := [x] } }
    (s (w 0 9)).host.waits = [w 0 9] ∧ (w 0 9).next ≤ (s (w 0 9)).tick ∧ rangeHomes (s (w 0 9)) 0 8 .read = true ∧
      hostByte (s (w 0 9)) 0 = 0 ∧ relHolds 0 (0 &&& 0xFF) 0 = true ∧ relHolds 0 (0 &&& 0xFF) 1 = false ∧
      (w 1 5).until_ ≤ (s (w 1 5)).tick ∧ (s (w 1 6)).tick < (w 1 6).until_ ∧
      leaves (exec (.waitvalPoll 7 1) (s (w 1 6))) (fun t => t.host.waits.map (·.next)) = some [105] := by decide +kernel
/-- R391: the last frame dword, an existing queue, and a loaded record. -/
theorem witness_Queries :
    let r : TableRec := ⟨3, 3, 0, 0, false, 0, [1]⟩
    let s : State := { hosted with cob := { hosted.cob with tables := [r] } }
    findSession hosted 7 = some session1 ∧ (1599 : Nat) < 1600 ∧ 511 + 1 ≤ 512 ∧ findQueue hosted 0 = some queue1 ∧
      s.cob.tables[0]? = some r ∧
      leaves (exec (.queryQueueState 7 1 0 1 1) hosted) (fun t => t.host.out.map fun p => (p.type, p.body.drop 16)) =
        some [(0x82, [1, 0, 0, 0, 0, 0, 0, 0])] := by decide +kernel

/-! ### Translation and migration -/

/-- A segment that stands, and one that is held; an entry that is sound, one that is not valid, and one that is malformed;
the last page of the usable memory, and the first beyond it; a page that is moving, and a trigger with a frame. -/
theorem witness_MapSteps_pages :
    let s := paged base
    let g : Seg := ⟨0x8000, 16, 0, 0⟩
    let h : Seg := { g with w0 := 0xC000 }
    let t : State := { s with net := { s.net with segs := [h] } }
    let b : State := { s with net := { s.net with migs := [⟨0, 0, 0, 16, 0, 7⟩] } }
    let f : State := { s with net := { s.net with frames := [32] } }
    segAt s 0 = some g ∧ segAt base 0 = none ∧ g.hold = false ∧ segAt t 0 = some h ∧ h.hold = true ∧
      malformed s 0x8006000000000000 = false ∧ malformed s 0x8006000000000001 = true ∧
      (0x8006000000000001 : Word).getLsbD 63 = true ∧ (0 : Word).getLsbD 63 = false ∧
      (0x1000 : Nat) < 2 ^ 40 ∧ 0x1000 / 2 ^ 8 % 2 ^ 28 % 16 = 0 ∧ frameFits 16 = true ∧
      frameFits (480000000000 / 4096 / 16 * 16) = false ∧
      (peerOf s 0).isSome = true ∧ segOf s 0 = some g ∧ (entryAt s g 0).getLsbD 63 = true ∧ malformed s (entryAt s g 0) = false ∧
      pageHome s g 0 = some (0, 0) ∧ ownHome s = 0 ∧
      s.net.peers.find? (fun p => p.kind == 1 && p.home == ownHome s) = some ⟨0, 1, 0, 0, 0, 0, 0, []⟩ ∧
      leaves (exec (.pageEntryWrite 7 1 0 0 0x8006000000001000) s) (fun t => entryAt t g 0) = some 0x8006000000001000 ∧
      leaves (exec (.pageMigrate 7 1 0 0 0x1000) s) (fun t => t.net.migs) = some [⟨0, 0, 0, 16, 0, 7⟩] ∧
      (b.net.migs.any fun m => m.va.toNat / 65536 == 0) = true ∧
      leaves (exec (.migrateTrigger 0 0) f) (fun t => (t.net.migs, t.net.frames)) = some ([⟨0, 0, 0, 32, 0, 0⟩], []) := by
  decide +kernel
/-- R403, R408: the words of a segment that ends at 2^56, of a record that follows, and a frame for the list. -/
theorem witness_MapSteps_segments :
    let va : Word := 0xFFFFFFFFFF0000
    va.toNat % 2 ^ 16 = 0 ∧ va.toNat + (1 : Word).toNat % 2 ^ 32 * 2 ^ 16 ≤ 2 ^ 56 ∧ 0 < (1 : Word).toNat % 2 ^ 32 ∧
      (0xFFFFFFFFFF8000 : Word).toNat / 2 ^ 16 = va.toNat / 2 ^ 16 ∧ base.net.segs = [] ∧ (0 : Word).toNat % 64 = 0 ∧
      irectOk 0x01010000 = true ∧ (0xFFFFFF0 : Word).toNat < 2 ^ 28 ∧ (0xFFFFFF0 : Word).toNat % 16 = 0 ∧
      base.net.frames.length < 1024 ∧
      leaves (exec (.segmentEntryWrite 7 1 0 va 0xFFFFFFFFFF8000 1) base) (fun t => t.net.segs.map (·.valid)) = some [true] := by
  decide +kernel
/-- R410, R411: a parked piece and its request. -/
theorem witness_MapSteps_answers :
    let p := { pieceOf .read .parked with dst := 4096 }
    let r : PageReq := ⟨5, 7, 0, 2, 0, 9, 1⟩
    let s : State := { fabric [p] with host := { base.host with sessions := [session1], preqs := [r] } }
    s.host.preqs = [r] ∧ r.rseq = 5 ∧ r.sid = 7 ∧ r.kind = 2 ∧ findPiece s r.cid = some p ∧ p.state = .parked ∧
      s.host.ansFails = [] ∧ (5 : Nat) ≠ 0 ∧
      leaves (exec (.pageansFailure 7 1 5) s) (fun t => t.net.pieces.map (·.state)) = some [.refused] := by decide +kernel
/-- R409: the migration of the page to frame 16, with no piece in service; its home is the own package, and another. -/
theorem witness_MapSteps_migration :
    let s := paged base
    let g : Seg := ⟨0x8000, 16, 0, 0⟩
    let u : State := { s with net := { s.net with migs := [⟨0, 0, 0, 16, 0, 7⟩] } }
    let w : State := { s with net := { s.net with migs := [⟨1, 0, 0, 16, 0, 7⟩] } }
    u.net.migs = [⟨0, 0, 0, 16, 0, 7⟩] ∧ segOf u 0 = some g ∧ busyPieces u g 0 = 0 ∧ pageHome u g 0 = some (0, 0) ∧
      peerOf u 0 = some ⟨0, 1, 0, 0, 0, 0, 0, []⟩ ∧ migrationFits (entryAt u g 0) false 0 = true ∧ ownHome u = 0 ∧
      segOf w 0 = some g ∧ busyPieces w g 1 = 0 ∧
      leaves (exec (.migrationCopy 0) u) (fun t => (t.net.migs, t.net.fwds)) = some ([], [⟨0, 0, 0, 16⟩]) := by decide +kernel

/-! ### The trap destinations, the Cobbler and the host: further clauses -/

/-- R365, R377, R378: a mismatch, POWER_OVER, SVCs, PREEMPT_LATE, and a trap of a logit task; with and without a TVEC. -/
theorem witness_TrapDestinations_cobbler :
    let t := fun (s : State) cause i0 i1 => (takeTrap s ⟨cause, i0, i1, 0, 0⟩)
    let l := withC (fun c => { c with hdr := { c.hdr with logit := some 0 } }) handled
    let at_ := fun u : State => (u.ctx.status, u.ctx.tcause, u.agenda)
    tvecDue base.ctx.r.tvec base.ctx.dws 0 = 0 ∧ tvecDue handled.ctx.r.tvec handled.ctx.dws 0 = 640 ∧ base.cob.classified = [] ∧
      at_ (t handled 0x16 4096 0) = (.trapped, 0x16, []) ∧ (t handled 0x16 4096 0).cob.tests.map (·.cids) = [[(0, 0)]] ∧
      at_ (t handled 0x22 0 0) = (.handler, 0x22, []) ∧ at_ (t base 0x22 0 0) = (.trapped, 0x21, [.taskRetirement 0]) ∧
      at_ (t handled 0x10 0xE00 1) = (.handler, 0x10, []) ∧ at_ (t handled 0x10 0xE01 1) = (.trapped, 0x10, []) ∧
      at_ (t handled 0x21 0 0) = (.trapped, 0x21, [.taskRetirement 0]) ∧ at_ (t handled 0x24 0 0) = (.trapped, 0x24, []) ∧
      (t handled 0x23 0 0).ctx.role = .parked ∧ (logitSlot l.ctx).isSome = true ∧
      at_ (t l 0x06 0 0) = (.trapped, 0x24, [.logitFault 0]) := by decide +kernel
/-- R366, R378: a task of a launch that ends, with a latch; and the completion of a launch that failed. -/
theorem witness_TrapDestinations_launch :
    let c : Ctx := { base.ctx with lid := 3, latches := [late (.g 3) 5], closing := [(0, 4)], openPh := 1 }
    let l := { launch1 with ending := true }
    let s : State := { hosted with ctx := c, host := { hosted.host with launches := [l] } }
    let f := { launch1 with gangsDone := 1, retired := 1, ending := true, failed := some (6, 0, #v[1, 2, 3, 4]) }
    let d : State := { hosted with host := { hosted.host with launches := [f] } }
    findCtx s 0 = some c ∧ findLaunch s 3 = some l ∧ l.ending = true ∧
      leaves (exec (.taskRetirement 0) s) (fun t => t.others.map fun d => (d.latches, d.closing)) = some [([], [(0, 4)])] ∧
      findLaunch d 3 = some f ∧ launchDone d f = true ∧ findQueue d f.hdr.queue = some queue1 ∧ (findSession d 7).isSome = true ∧
      leaves (exec (.launchCompletion 3) d) (fun t => t.host.out.map fun p => (p.type, (p.body.drop 16).take 2)) =
        some [(0x81, [6, 0])] := by decide +kernel
/-- R371, R375: two latches pending at the trap, the second a load. -/
theorem witness_TrapReturn_latches :
    let ls := [{ late (.g 3) 5 with due := 3 }, { late (.g 4) 0 with due := 2, pos := 2, ld := some ⟨4096, 8, true⟩ }]
    let s := withC (fun c => { c with latches := ls, swt := some (5, true), wait := .waitt 9 }) handled
    s.ctx.redo = [] ∧ s.ctx.latches.length ≤ 32 ∧ (∀ l ∈ s.ctx.latches, l.valid = true ∧ s.ctx.tclk ≤ l.due ∧ l.due < s.ctx.tclk + 2 ^ 20) ∧
      (∀ y ∈ s.ctx.swt, y.1 < 2 ^ 16) ∧ s.ctx.energy < 2 ^ 48 ∧
      ((returnFromTrap (takeTrap s ⟨6, 1, 2, 3, 4⟩) 0).ctx.latches.map fun l => (l.due, l.val, l.ld.isSome)) = [(3, 5, false), (2, 0, true)] := by
  decide +kernel
/-- R15, R429: three parked contexts of a core: the one that has waited longest is next; the core's roles are open. -/
theorem witness_SchedulerSteps_roles :
    let p := fun (n k : Nat) (w : Word) => { base.ctx with cid := n, src := n + 1, ctxno := n, wid := w, role := .parked, started := false, parkedAt := k }
    let s : State := { base with ctx := p 0 7 0, others := [p 1 5 9, p 2 5 8], tick := 9 }
    let r : State := { s with ctx := { s.ctx with started := true, saved := some (savedAt 77 [] ⟨0x32, 0, 0, 0, 0⟩), parkedAt := 1 } }
    nextRole s 0 = some (p 2 5 8) ∧ findCtx s 2 = some (p 2 5 8) ∧ issuers s 0 = [] ∧ openRoles s 0 = 2 ∧
      (getIsland s 0).disabled = false ∧ s.cob.swaps = [] ∧
      ((findCtx (fillRole s 0) 2).map fun c => (c.role, c.started)) = some (.lead, true) ∧ nextRole r 0 = some r.ctx ∧
      ((findCtx (fillRole r 0) 0).map fun c => (c.role, c.tclk, c.saved.isNone)) = some (.lead, 77, true) := by decide +kernel
/-- R380: a pre-emption at a YLD and at a wait; the lead parks, and the trail becomes the lead. -/
theorem witness_SchedulerSteps_park :
    let y := withC (fun c => { c with preReq := true, after := 1 }) handled
    let w := withC (fun c => { c with preReq := true, wait := .waitt 9 }) handled
    let s : State := { y with others := [{ base.ctx with cid := 1, ctxno := 1, role := .trail }] }
    takesPreempt y.ctx = true ∧ takesPreempt w.ctx = true ∧ chosen s s.ctx.now = some .park ∧ s.ctx.role ≠ .parked ∧
      leaves (exec .takingATrap s) (fun t => (t.ctx.role, t.others.map (·.role))) =
        some (.parked, [.lead]) := by decide +kernel
/-- A context with a TVEC whose mismatch waits for a test that is at its end. -/
def classifying (tv : Word) : State :=
  { withC (fun c => { c with
      status := .trapped, tcause := 0x16, r := { c.r with tvec := tv }, saved := some (savedAt 3 [] ⟨0x16, 96, 0, 0, 0⟩) }) base with
    cob := { base.cob with tests := [⟨1, 0, 0, 3, 96, 2, [(0, 2)], 5⟩] }, tick := 5 }
/-- R377, R444: a test on which one context's mismatch waits, that passes, that fails, and for a context without a TVEC. -/
theorem witness_CobblerSteps_waiting :
    let at_ := fun (tv : Word) (p : Bool) => leaves (exec (.selfTestEnd 1 p) (classifying tv)) fun t => (t.ctx.status, t.ctx.tcause, t.ctx.pc)
    let ends := fun (tv : Word) (p : Bool) => leaves (exec (.selfTestEnd 1 p) (classifying tv)) fun t => t.agenda
    (classifying 0).cob.tests.map (fun x => decide (x.ends ≤ (classifying 0).tick)) = [true] ∧
      findCtx (classifying 640) 0 = some (classifying 640).ctx ∧ tvecAt (classifying 640).ctx = 640 ∧
      at_ 640 true = some (.handler, 0x16, 640) ∧ at_ 640 false = some (.trapped, 0x21, 0) ∧ at_ 0 true = some (.trapped, 0x21, 0) ∧
      ends 640 true = some [] ∧ ends 640 false = some [.taskRetirement 0] ∧
      ends 0 true = some [.taskRetirement 0] := by decide +kernel
/-- R417: a partition of one parked context with a grant of 32 bytes swaps out, and in. -/
theorem witness_CobblerSteps_swap :
    let p := putCells (withC (fun c => { c with role := .parked, cid := 8, unit := 1, hdr := { c.hdr with quota := 32, engines := [true, false, true] } }) base) [(4, 9)]
    let o := nextOr p (exec (.partitionSwapOut [1]) p)
    partitionHalted p [1] = true ∧ partition p [1] = [p.ctx] ∧ findCtx p (8 + 4096) = none ∧ p.ctx.upper = false ∧ p.ctx.ctxno < 8 ∧
      p.ctx.hdr.engines.getD 1 false = false ∧ (o.ctx.swapped, o.ctx.cid) = (true, 4104) ∧ memGet o.mem (swapSpad p 1 + 4) = 9 ∧
      o.ctx.live = true ∧ o.others = [] ∧
      leaves (exec (.partitionSwapIn [1]) o) (fun t => (t.ctx.swapped, t.ctx.cid, spadByte t 4)) = some (false, 8, 9) := by decide +kernel
/-- R285, R301: a record whose LEN is 0, one with a byte in a reserved field, and one of an epoch to come. -/
theorem witness_WeltSteps_refused :
    let s := welt slot1
    recFault s (List.replicate 12 0) = some 12 ∧ recFault s (record1 0 ++ [1]) = some 13 ∧ findCtx s 0 = some s.ctx ∧
      slot1.st ≠ 0 ∧ recFault s (record1 32768) = none ∧
      leaves (exec (.proposalRecordIntake 0 (List.replicate 12 0)) s) (fun t => t.ctx.cands.map fun x => (x.2.2.1.cause, x.2.2.1.i1)) =
        some [(0x25, 12)] ∧
      leaves (exec (.proposalRecordIntake 0 (record1 32768)) s) (fun t => t.ctx.cands.map fun x => (x.2.2.1.cause, x.2.2.1.i1)) =
        some [(0x25, 10)] := by decide +kernel
/-- R389, R398: a launch whose answer is kept, and one for a full queue. -/
theorem witness_HostCommands_answers :
    let k : State := { hosted with host := { hosted.host with sessions := [{ session1 with acks := [(2, 0x107)] }] } }
    let f : State := { hosted with host := { hosted.host with queues := [{ queue1 with heads := List.replicate Config.queueHeaders 3 }] } }
    findSession k 7 = some { session1 with acks := [(2, 0x107)] } ∧ queueFull f 0 = true ∧ headerStatus f header (some 0) = 0 ∧
      findQueue f 0 = some { queue1 with heads := List.replicate Config.queueHeaders 3 } ∧
      leaves (exec (.launch 7 2 0 header) k) (fun t => t.host.launches.map (·.lid)) = some [3] ∧
      leaves (exec (.launch 7 2 0 header) f) (fun t => t.host.launches.map (·.lid)) = some [3] := by decide +kernel
/-- R290: a record at 4096 that holds one dword, and the checks of a DECL of it: a sound one, an engine of 3, a range that ends at
2^24 and one beyond it, a word above the ranges, an address that is no multiple of 64, and one outside the grant. -/
theorem witness_Tables_declarations :
    let check := fun (k v a : Nat) => declCheck (withG 1 (BitVec.ofNat 64 a)
      (putCells base ((List.range 8).map fun i => (4096 + 8 * k + i, BitVec.ofNat 8 (v / 2 ^ (8 * i)))))) 1
    let tells := fun k v a => (check k v a).map fun x => (x.cause, x.i1)
    check 0 2 4096 = none ∧ tells 0 3 4096 = some (2, 0) ∧ check 6 (2 ^ 24 + 0xFFFFFF) 4096 = none ∧
      tells 6 (2 * 2 ^ 24 + 0xFFFFFF) 4096 = some (2, 48) ∧ tells 7 1 4096 = some (2, 56) ∧ tells 0 2 4128 = some (6, 1) ∧
      (tells 0 2 0x200000).map (·.1) = some 0x21 ∧ (tells 0 2 0x1FFFC0) = none := by decide +kernel
/-- R292: QINIT: a sound word, a depth of 0, an element size of 7, a base that is no multiple, and slots beyond the grant. -/
theorem witness_Tables_queues :
    let tells := fun (a b d e : Nat) => (qinitCheck (withG 1 (BitVec.ofNat 64 a) (withG 2
      (BitVec.ofNat 64 (b * 2 ^ 40 + d * 2 ^ 24 + e * 2 ^ 21)) base)) 1 2).map fun x => (x.cause, x.i1)
    tells 0x8000 0x9000 4 2 = none ∧ tells 0x8000 0x9000 0 2 = some (0x0B, 1) ∧ tells 0x8000 0x9000 4 7 = some (0x0B, 1) ∧
      tells 0x8000 0x9002 4 2 = some (0x0B, 3) ∧ tells 0x8000 0x1FFFFC 2 2 = some (0x0B, 4) ∧ tells 0x8000 0x1FFFFC 1 2 = none ∧
      tells 0x8010 0x9000 4 2 = some (6, 1) ∧ (tells 0x200000 0x9000 4 2).map (·.1) = some 0x21 := by decide +kernel
/-- R89: a copy into the own scratchpad lands whatever its codes. -/
theorem witness_PiecesLand_own :
    let d := { pieceOf .deliver .atHome with data := List.replicate 32 1, len := 32, syn := [1], span := (4096, 32) }
    let s : State := { fabric [d] with net := { (fabric [d]).net with pubs := [⟨1, 0, 0, 4⟩] } }
    landsFar s d = false ∧ deliverable s d = true ∧ receivers s d = [base.ctx] ∧ settling s d.dstUnit = false ∧
      leaves (exec (.deliveryLanding 9) s) (fun t => spadByte t 4096) = some 1 := by decide +kernel
/-- R403, R407, R411: a page entry that is not valid, a page without a home, a segment that is held, and a second migration. -/
theorem witness_MapSteps_refusals :
    let s := paged base
    let g : Seg := ⟨0x8000, 16, 0, 0⟩
    let z : State := { s with net := { s.net with ptes := [] } }
    let h : State := { s with net := { s.net with segs := [{ g with w0 := 0xC000 }] } }
    let b : State := { s with net := { s.net with migs := [⟨0, 0, 0, 16, 0, 7⟩] } }
    let tells := fun i (s : State) => leaves (exec i s) fun t => t.host.ansFails.map fun a => a.2.2.1
    (entryAt z g 0).getLsbD 63 = false ∧ tells (.pageMigrate 7 1 0 0 0x1000) z = some [0x10B] ∧
      tells (.pageMigrate 7 1 0 0 0x1000) b = some [0x107] ∧ tells (.pageEntryWrite 7 1 0 0 0x8006000000001000) h = some [0x107] ∧
      tells (.pageEntryWrite 7 1 0 0 0x8006000000000001) h = some [0x10D] ∧
      tells (.pageEntryWrite 7 1 0 0 0x8006000000001000) { s with net := { s.net with segs := [] } } = some [0x10B] ∧
      compField 0x8006000000001000 = false ∧
      compField 0 = false := by decide +kernel
/-- R407: the read of a WAITVAL counts, and leaves its range readable. -/
theorem witness_HostCommands_counted :
    let s : State := { hosted with tick := 5, host := { hosted.host with waits := [⟨7, 1, 0, 0xFF, 0, 0, 9, 5⟩] } }
    rangeHomes (hostCount s 0 8 .read) 0 8 .read = true ∧
      leaves (exec (.waitvalPoll 7 1) s) (fun t => t.host.waits) = some [] := by decide +kernel

end Sys2Proof.Tests
end

section
/-! PROOF. The form of memory along a step (O31), and the issue and commit of a CTLW (O16). -/

namespace Sys2Proof.Proofs

open Sys2Proof.Machine
open Sys2Proof.Laws

/-! ## Memory along a step (R5, R80, R415) -/

/-- Whatever a step does first, a due event, a turn or the clock, its outcome keeps the canonical form. -/
theorem stepPart_wf (s : State) (hs : s.mem.wf = true) : OutWf (stepPart s) := by
  unfold stepPart
  split
  · exact runEvent_wf _ _ hs
  · exact turn_wf _ _ hs
  · split
    · exact advance_wf s hs
    · exact hs

/-- Settles O31: each of the four ways of a step keeps the canonical form (stepPart_wf). -/
theorem stepKeepsMemory : Obligations.StepKeepsMemory := by
  unfold Obligations.StepKeepsMemory
  intro s t hs hst
  have h : OutWf (step s) := stepPart_wf s hs
  rw [hst] at h
  exact h

/-! ## The issue of a CTLW (R60, R71, R195, R445) -/

theorem exec_ctlw (v : Fin 32) (c : BitVec 12) (s : State) : exec (.ctlw v c) s = execCtlw v c s := rfl

/-- R445: an acting access of a fenced bank holds its bundle. -/
theorem unfenced_held {s : State} {n : Nat} (ha : acts s = true) (hf : heelFenced s n = true) (run : Outcome State) :
    unfenced s n run = .next (holdBundle s 4) := by
  simp [unfenced, ha, hf]

theorem unfenced_free {s : State} {n : Nat} (hf : heelFenced s n = false) (run : Outcome State) :
    unfenced s n run = run := by
  simp [unfenced, hf]

/-- R445: of the control registers FDAT alone reads the Heel, so no other number meets a fence. -/
theorem heelFenced_of_ne (s : State) {n : Nat} (hn : n ≠ 0xF01) : heelFenced s n = false := by
  simp [heelFenced, hn]

/-- An M syllable that acts and passes its check. -/
theorem mOp_next {s : State} (ha : acts s = true) (eff : State → State) :
    mOp s none eff = .next (eff (charge s (weight s 1))) := by
  simp [mOp, ha]

/-- An M syllable that acts and whose check fails. -/
theorem mOp_trap {s : State} (ha : acts s = true) (x : Trap) (eff : State → State) :
    mOp s (some x) eff = .next (takeTrap s x) := by
  simp [mOp, ha]

/-- R91: a register whose code is good is written as it stands. -/
theorem regWrite_good {s : State} {v : Fin 32} (hb : badReg s 5 [v] = none) (act : DAct) :
    regWrite s v act = addDW s 1 act := by
  simp [regWrite, hb]

/-- R60, R71: the two values that a CTLW refuses, told by the number and the value. -/
theorem ctlwBad_iff (c : BitVec 12) (x : Word) :
    ctlwBad c.toNat x = true ↔ c = 0x002 ∧ x.toNat % 8 ≥ 6 ∨ c = 0x003 ∧ x.toNat / 16 % 8 = 6 := by
  simp [ctlwBad, BitVec.toNat_eq]

/-- R195: the issue of a CTLW whose value is good. -/
theorem execCtlw_next {s : State} {v : Fin 32} {c : BitVec 12} (ha : acts s = true) (hf : heelFenced s c.toNat = false)
    (hx : ctlwBad c.toNat (rdG s v) = false) (hb : badReg s 5 [v] = none) :
    execCtlw v c s = .next (addDW (charge s (weight s 1)) 1 (.ctl c (rdG s v))) := by
  have hg : badReg (charge s (weight s 1)) 5 [v] = none := by rw [charge_badReg, hb]
  simp [execCtlw, unfenced_free hf, hx, mOp_next ha, regWrite_good hg]

/-- R60, R71, R195: the issue of a CTLW whose value is refused. The registers that refuse one are no FDAT. -/
theorem execCtlw_trap {s : State} {v : Fin 32} {c : BitVec 12} (ha : acts s = true)
    (hx : ctlwBad c.toNat (rdG s v) = true) :
    execCtlw v c s = .next (takeTrap s (encTrap s 0x01 s.ctx.iss.pos 28)) := by
  have hn : c.toNat ≠ 0xF01 := by
    rcases (ctlwBad_iff c _).mp hx with ⟨rfl, -⟩ | ⟨rfl, -⟩ <;> decide
  simp [execCtlw, unfenced_free (heelFenced_of_ne s hn), hx, mOp_trap ha]

/-! ## What its commit leaves (R161, R195, R373, R426) -/

theorem exec_registerWrite_ctl (c : BitVec 12) (x : Word) (s : State) :
    exec (.registerWrite (.ctl c) x) s = .next (writeCtl s c.toNat x) := rfl

/-- R8, R161: a number outside the loop-state block and the supervisor block that names no writable register. -/
theorem writeCtl_readOnly (s : State) (x : Word) {n : Nat} (hn : n < 0x040 ∨ 0x070 ≤ n ∧ n < 0xF00)
    (hw : n ∉ [0x000, 0x001, 0x002, 0x003, 0x004, 0x00C, 0x010]) : writeCtl s n x = s := by
  simp only [List.mem_cons, List.not_mem_nil, or_false, not_or] at hw
  unfold writeCtl
  rw [if_neg (by omega)]
  split
  case h_15 => rfl
  all_goals omega

/-- The quotient by the highest place of a word is its top bit. -/
theorem div_two_pow_63_beq_one (x : Word) : (x.toNat / 2 ^ 63 == 1) = x.getLsbD 63 := by
  have hx : x.toNat / 2 ^ 63 < 2 := by omega
  rw [BitVec.getLsbD, Nat.testBit_eq_decide_div_mod_eq, Nat.mod_eq_of_lt hx]
  rfl

/-! ## Loop-state registers (R196) -/

/-- A vector entry after one entry is changed. -/
theorem getD_vset {α : Type} {n : Nat} (v : Vector α n) {i j : Nat} (hj : j < n) (x d : α) :
    (vset v i x).toList.getD j d = if j = i then x else v.toList.getD j d := by
  simp [vset, List.getD_eq_getElem?_getD, hj]

/-- Within its range `vset` is the library's update. -/
theorem vset_eq_set {α : Type} {n : Nat} (v : Vector α n) {i : Nat} (hi : i < n) (x : α) : vset v i x = v.set i x := by
  ext k hk
  simp [vset, Vector.getElem_set, eq_comm]

/-- One level of the loop stack replaced. -/
def putLoop (s : State) (l : Nat) (z : Loop) : State := s.upR fun r => { r with loops := vset r.loops l z }

/-- A level after a level is replaced. -/
theorem getLoop_putLoop (s : State) (l : Fin 8) (z : Loop) {j : Fin 8} (hj : j.val < 6) :
    getLoop (putLoop s l z) j = if j = l then z else getLoop s j := by
  simp only [getLoop, putLoop, upR_ctx, getD_vset _ hj, Fin.ext_iff]

/-- R161, R196: the eight numbers of a level are its loop-state registers. -/
theorem writeCtl_loop (s : State) (x : Word) {l k : Nat} (hl : l < 6) (hk : k < 8) :
    writeCtl s (BitVec.ofNat 12 (0x040 + 8 * l + k)).toNat x = writeLoop s l k x := by
  have hn : (BitVec.ofNat 12 (0x040 + 8 * l + k)).toNat = 0x040 + 8 * l + k := by
    rw [BitVec.toNat_ofNat]; omega
  have h8 : (0x040 + 8 * l + k - 0x040) / 8 = l := by omega
  have h1 : (0x040 + 8 * l + k) % 8 = k := by omega
  unfold writeCtl
  rw [hn, if_pos (by omega), h8, h1]

/-- R196: the count of an active level. -/
theorem writeLoop_cnt_active (s : State) (l : Fin 8) (x : Word) (ha : (getLoop s l).active = true) :
    writeLoop s l 0 x = putLoop s l { getLoop s l with cnt := x.setWidth 48 } := by
  simp only [getLoop] at ha
  simp only [writeLoop, writeLcnt, State.upR, ha, if_true, putLoop, getLoop]

/-- R196: an inactive level takes no count. -/
theorem writeLoop_cnt_inactive (s : State) (l : Fin 8) (x : Word) (ha : ¬(getLoop s l).active = true) :
    writeLoop s l 0 x = s := by
  simp only [getLoop] at ha
  simp only [writeLoop, writeLcnt, State.upR, ha]
  rfl

/-- R196: LSTART is held for the next entry of its level. -/
theorem writeLoop_start (s : State) (l : Fin 8) (x : Word) :
    writeLoop s l 2 x = putLoop s l { getLoop s l with hs := some (blockOf x) } := rfl

/-- R196: LEND is held for the next entry of its level. -/
theorem writeLoop_end (s : State) (l : Fin 8) (x : Word) :
    writeLoop s l 3 x = putLoop s l { getLoop s l with he := some (blockOf x) } := rfl

/-- R196: the stride entry that an LSTRDk value asks for, under the engine grant of its context. -/
def strideEntry (c : Ctx) (x : Word) : Stride :=
  ⟨x.getLsbD 63 && c.grant.getD (x.toNat / 2 ^ 26 % 4) false, Fin.ofNat 4 (x.toNat / 2 ^ 26 % 4),
    Fin.ofNat 4 (x.toNat / 2 ^ 24), x.setWidth 24⟩

/-- R196: the entry as its value spells it, disabled outside the grant, is the entry of `strideEntry`. -/
theorem strideEntry_eq (c : Ctx) (x : Word) :
    (if c.grant.getD (Stride.ofWord x).eng.val false = true then Stride.ofWord x
      else { Stride.ofWord x with en := false }) = strideEntry c x := by
  have he : (Stride.ofWord x).eng.val = x.toNat / 2 ^ 26 % 4 := rfl
  have hm : (Fin.ofNat 4 (x.toNat / 2 ^ 26 % 4) : Fin 4) = Fin.ofNat 4 (x.toNat / 2 ^ 26) := by simp [Fin.ext_iff]
  have hb : BitVec.ofNat 24 x.toNat = x.setWidth 24 := by simp
  rw [he]
  simp only [strideEntry, Stride.ofWord, hm, hb, div_two_pow_63_beq_one]
  cases c.grant.getD (x.toNat / 2 ^ 26 % 4) false <;> simp

/-- R196: an entry of engine 3 changes nothing. -/
theorem writeLoop_stride_none (s : State) (l : Nat) (k : Fin 4) (x : Word) (he : x.toNat / 2 ^ 26 % 4 = 3) :
    writeLoop s l (4 + k.val) x = s := by
  have hs : (Stride.ofWord x).eng = 3 := Fin.ext he
  rw [Nat.add_comm 4]
  simp only [writeLoop, hs, if_true]

/-- R196: an LSTRDk takes its entry. -/
theorem writeLoop_stride (s : State) (l : Fin 8) (k : Fin 4) (x : Word) (he : x.toNat / 2 ^ 26 % 4 ≠ 3) :
    writeLoop s l (4 + k.val) x =
      putLoop s l { getLoop s l with strd := (getLoop s l).strd.set k (strideEntry s.ctx x) } := by
  have hs : ¬(Stride.ofWord x).eng = 3 := fun h => he (congrArg Fin.val h)
  rw [Nat.add_comm 4]
  simp only [writeLoop, hs, if_false, strideEntry_eq, Nat.add_sub_cancel, vset_eq_set _ k.isLt]
  rfl

/-- The commit of a CTLW of register k of a level leaves level `z` there and everything else of the state as it is. -/
def LevelBecomes (s : State) (l : Fin 8) (x : Word) (k : Nat) (z : Loop) : Prop :=
  ∃ t, exec (.registerWrite (.ctl (BitVec.ofNat 12 (0x040 + 8 * l.val + k))) x) s = .next t ∧
    t = { s with ctx := { s.ctx with r := { s.ctx.r with loops := t.ctx.r.loops } } } ∧
    ∀ j : Fin 8, j.val < 6 → getLoop t j = if j = l then z else getLoop s j

/-- A register whose write replaces its level. -/
theorem levelBecomes_of_putLoop {s : State} {l : Fin 8} {x : Word} {k : Nat} {z : Loop} (hl : l.val < 6) (hk : k < 8)
    (h : writeLoop s l k x = putLoop s l z) : LevelBecomes s l x k z :=
  ⟨putLoop s l z, by rw [exec_registerWrite_ctl, writeCtl_loop s x hl hk, h], rfl,
    fun _ hj => getLoop_putLoop s l z hj⟩

/-- A register whose write is dropped. -/
theorem levelBecomes_of_kept {s : State} {l : Fin 8} {x : Word} {k : Nat} (hl : l.val < 6) (hk : k < 8)
    (h : writeLoop s l k x = s) : LevelBecomes s l x k (getLoop s l) :=
  ⟨s, by rw [exec_registerWrite_ctl, writeCtl_loop s x hl hk, h], rfl, fun j _ => by
    by_cases hj : j = l <;> simp [hj]⟩

/-- R196: LCNT. -/
theorem levelBecomes_cnt (s : State) {l : Fin 8} (x : Word) (hl : l.val < 6) :
    LevelBecomes s l x 0
      (if (getLoop s l).active = true then { getLoop s l with cnt := x.setWidth 48 } else getLoop s l) := by
  split
  · exact levelBecomes_of_putLoop hl (by decide) (writeLoop_cnt_active s l x ‹_›)
  · exact levelBecomes_of_kept hl (by decide) (writeLoop_cnt_inactive s l x ‹_›)

/-- R196: LSTRDk. -/
theorem levelBecomes_stride (s : State) {l : Fin 8} (k : Fin 4) (x : Word) (hl : l.val < 6) :
    LevelBecomes s l x (4 + k.val) (if x.toNat / 2 ^ 26 % 4 = 3 then getLoop s l
      else { getLoop s l with strd := (getLoop s l).strd.set k (strideEntry s.ctx x) }) := by
  have hk : 4 + k.val < 8 := by omega
  split
  · exact levelBecomes_of_kept hl hk (writeLoop_stride_none s l k x ‹_›)
  · exact levelBecomes_of_putLoop hl hk (writeLoop_stride s l k x ‹_›)

/-- Settles O16: the issue by its three cases (fence, good value, refused value), then the commit register by register. -/
theorem controlRegisterWrite : Obligations.ControlRegisterWrite := by
  unfold Obligations.ControlRegisterWrite
  refine ⟨fun s v c ha => ⟨fun hf => ?held, fun hf hx hb => ?good, fun hx => ?refused⟩,
    fun s x => ⟨rfl, rfl, rfl, rfl, rfl, rfl, fun c hc => ?readOnly⟩, fun s x => ?energy, fun s l x hl => ?loops⟩
  case held => rw [exec_ctlw, execCtlw, unfenced_held ha hf]
  case good =>
    have hx' : ctlwBad c.toNat (rdG s v) = false := by rw [← Bool.not_eq_true, ctlwBad_iff]; exact hx
    exact ⟨_, _, (exec_ctlw v c s).trans (execCtlw_next ha hf hx' hb), by rw [addDW_dws, charge_ctx_dws],
      by rw [charge_now], rfl, by simp, by simp [addDW], by simp [sameStore]⟩
  case refused =>
    refine ⟨_, (exec_ctlw v c s).trans (execCtlw_trap ha ((ctlwBad_iff c _).mpr hx)), rfl, rfl, rfl, fun hp => ?_⟩
    simp [encTrap, mkTrap, hp]
  case readOnly =>
    have hk : writeCtl s c.toNat x = s := writeCtl_readOnly s x (by simp at hc; omega) (by simp at hc ⊢; omega)
    exact (exec_registerWrite_ctl c x s).trans (congrArg _ hk)
  case energy =>
    rw [exec_registerWrite_ctl, ← div_two_pow_63_beq_one]
    rfl
  case loops =>
    exact ⟨levelBecomes_cnt s x hl, levelBecomes_of_kept hl (by decide) rfl,
      levelBecomes_of_putLoop hl (by decide) (writeLoop_start s l x),
      levelBecomes_of_putLoop hl (by decide) (writeLoop_end s l x), fun k => levelBecomes_stride s k x hl⟩

end Sys2Proof.Proofs
end

section
/-! PROOF. The issue of PHASE and BAR (O24). -/

namespace Sys2Proof.Proofs

open Sys2Proof.Machine
open Sys2Proof.Laws

/-! ## A B syllable that acts -/

theorem bOp_next {s : State} (ha : acts s = true) (eff : State → State) :
    bOp s none eff = .next (eff (charge s (weight s 2))) := by
  simp [bOp, ha]

/-- A B syllable that acts and whose check fails. -/
theorem bOp_trap {s : State} (ha : acts s = true) (x : Trap) (eff : State → State) :
    bOp s (some x) eff = .next (takeTrap s x) := by
  simp [bOp, ha]

/-! ## Closing and acquiring (R117, R121) -/

@[simp] theorem closePhase_ctx (s : State) (n : Nat) : (closePhase s n).ctx =
    { s.ctx with closing := s.ctx.closing ++ [(s.ctx.openPh, n)], openPh := s.ctx.openPh + 1 } := rfl

@[simp] theorem closePhase_net (s : State) (n : Nat) : (closePhase s n).net = s.net := rfl

/-- R121: what the acquire of PHASE.a changes. -/
theorem acquireWait_ctx (s : State) : (acquireWait s).ctx = { s.ctx with
    stamps := Vector.ofFn fun k => if k.val ≤ s.ctx.pfx.scope then s.net.pubs.length else s.ctx.stamps[k]
    wait := .phaseA s.ctx.pfx.scope s.net.pubs.length } := rfl

/-- What a phase operation leaves as it is. -/
def PhaseFrame (s t : State) : Prop :=
  t.ctx.r = s.ctx.r ∧ t.ctx.latches = s.ctx.latches ∧ t.net = s.net ∧ sameStore s t

theorem phaseFrame_charge (s : State) (n : Nat) : PhaseFrame s (charge s n) :=
  ⟨charge_ctx_r s n, charge_ctx_latches s n, rfl, rfl, rfl, rfl, rfl⟩

theorem PhaseFrame.close {s t : State} (h : PhaseFrame s t) (n : Nat) : PhaseFrame s (closePhase t n) := h

theorem PhaseFrame.acquire {s t : State} (h : PhaseFrame s t) : PhaseFrame s (acquireWait t) := h

/-- R20: the barriers a context has come to, and its waits, are outside the frame. -/
theorem PhaseFrame.atBar {s t : State} (h : PhaseFrame s t) (b : Ctx → List (Nat × Nat)) (w : Ctx → Wait) :
    PhaseFrame s (t.up fun c => { c with bars := b c, wait := w c }) := h

/-- R20, R121, R127: the levels that name participants of the launch. -/
theorem levelTrap_eq_none {s : State} {l : Nat} (hg : l ≤ s.ctx.hdr.gang) (hn : l ≤ s.ctx.hdr.nf) : levelTrap s l = none := by
  rw [levelTrap, if_neg (by omega)]

theorem levelTrap_eq_some {s : State} {l : Nat} (h : l > s.ctx.hdr.gang ∨ l > s.ctx.hdr.nf) :
    levelTrap s l = some (mkTrap s 0x01 (some (BitVec.ofNat 64 l)) none none) := if_pos h

/-- R20, R127: BAR at a level with participants. -/
theorem execBar_level {s : State} {l : Fin 8} (ha : acts s = true) (hl : l ≠ 0) (hg : l.val ≤ s.ctx.hdr.gang)
    (hn : l.val ≤ s.ctx.hdr.nf) : exec (.bar l) s = .next ((closePhase (charge s (weight s 2)) s.ctx.pfx.scope).up fun c =>
      { c with bars := c.bars ++ [(l.val, s.ctx.openPh)]
               wait := .bar l.val s.ctx.pfx.scope (c.bars.filter fun b => b.1 == l.val).length }) := by
  show execBar l s = _
  rw [execBar, levelTrap_eq_none hg hn, bOp_next ha]
  simp [hl]

/-- R127, R207: BAR at level 0. -/
theorem execBar_zero {s : State} (ha : acts s = true) :
    exec (.bar 0) s = .next (acquireWait (closePhase (charge s (weight s 2)) s.ctx.pfx.scope)) := by
  show execBar 0 s = _
  have h0 : levelTrap s (0 : Fin 8).val = none := levelTrap_eq_none (Nat.zero_le _) (Nat.zero_le _)
  simp only [execBar, h0, bOp_next ha, charge_ctx_pfx, if_true]

theorem exec_phaseP {s : State} (ha : acts s = true) :
    exec .phaseP s = .next (closePhase (charge s (weight s 2)) s.ctx.pfx.scope) := by
  show execPhaseP s = _
  rw [execPhaseP, bOp_next ha, charge_ctx_pfx]

theorem exec_phaseA {s : State} (ha : acts s = true) : exec .phaseA s = .next (acquireWait (charge s (weight s 2))) := by
  show execPhaseA s = _
  rw [execPhaseA, bOp_next ha]

theorem exec_phasePa {s : State} (ha : acts s = true) :
    exec .phasePa s = .next (acquireWait (closePhase (charge s (weight s 2)) s.ctx.pfx.scope)) := by
  show execPhasePa s = _
  rw [execPhasePa, bOp_next ha, charge_ctx_pfx]

/-- Settles O24: each form is its B operation on the charged state, whose phases and stamps are those of the state. -/
theorem phaseAndBarrier : Obligations.PhaseAndBarrier := by
  unfold Obligations.PhaseAndBarrier
  intro s l ha
  have hf := phaseFrame_charge s (weight s 2)
  refine ⟨⟨_, exec_phaseP ha, ?_, hf.close _⟩, ⟨_, exec_phaseA ha, ?_, hf.acquire⟩,
    ⟨_, exec_phasePa ha, ?_, (hf.close _).acquire⟩, ⟨_, execBar_zero ha, ?_, (hf.close _).acquire⟩,
    fun h0 hg hn => ⟨_, execBar_level ha h0 hg hn, ?_, (hf.close _).atBar _ _⟩, fun h => ?_⟩
  · simp
  · simp [acquireWait_ctx]
  · simp [acquireWait_ctx]
  · simp [acquireWait_ctx]
  · simp
  · show execBar l s = _
    rw [execBar, levelTrap_eq_some h, bOp_trap ha]

end Sys2Proof.Proofs
end

section
/-! PROOF. The contexts of a machine by their numbers: what a search finds after one of them, or each, is changed. -/

namespace Sys2Proof.Proofs

open Sys2Proof.Machine
open Sys2Proof.Laws

/-! ## The search itself -/

theorem live_of_findCtx {s : State} {k : Nat} {c : Ctx} (h : findCtx s k = some c) : c.live = true := by
  have := List.find?_some h
  simp_all

theorem cid_of_findCtx {s : State} {k : Nat} {c : Ctx} (h : findCtx s k = some c) : c.cid = k := by
  have := List.find?_some h
  simp_all

theorem mem_of_findCtx {s : State} {k : Nat} {c : Ctx} (h : findCtx s k = some c) : c ∈ allCtx s := List.mem_of_find?_eq_some h

/-- A search finds the context at hand first. -/
theorem findCtx_eq (s : State) (k : Nat) : findCtx s k =
    if s.ctx.live = true ∧ s.ctx.cid = k then some s.ctx else s.others.find? fun c => c.live && c.cid == k := by
  simp only [findCtx, allCtx, List.find?_cons]
  cases h : s.ctx.live && s.ctx.cid == k <;> simp_all

theorem findCtx_ctx {s : State} (h : s.ctx.live = true) : findCtx s s.ctx.cid = some s.ctx := by simp [findCtx_eq, h]

theorem findCtx_ne {s : State} {k : Nat} (h : k ≠ s.ctx.cid) : findCtx s k = s.others.find? fun c => c.live && c.cid == k := by
  rw [findCtx_eq, if_neg (fun h' => h h'.2.symm)]

/-- A search sees the contexts alone. -/
theorem findCtx_congr {s t : State} (hc : t.ctx = s.ctx) (ho : t.others = s.others) (k : Nat) : findCtx t k = findCtx s k := by
  simp only [findCtx, allCtx, hc, ho]

/-- A change of the context at hand is not seen under another number. -/
theorem findCtx_other {s t : State} (ho : t.others = s.others) (hi : t.ctx.cid = s.ctx.cid) {k : Nat} (hk : k ≠ s.ctx.cid) :
    findCtx t k = findCtx s k := by
  rw [findCtx_ne hk, findCtx_ne (hi ▸ hk), ho]

/-! ## Every context changed -/

/-- A change of contexts that leaves their numbers, and whether they are live, as they are. -/
def KeepsNumber (f : Ctx → Ctx) : Prop := ∀ c, (f c).live = c.live ∧ (f c).cid = c.cid

theorem allCtx_mapCtx (s : State) (f : Ctx → Ctx) : allCtx (mapCtx s f) = (allCtx s).map f := rfl

theorem findCtx_mapCtx (s : State) {f : Ctx → Ctx} (hf : KeepsNumber f) (k : Nat) :
    findCtx (mapCtx s f) k = (findCtx s k).map f := by
  rw [findCtx, allCtx_mapCtx, List.find?_map, findCtx]
  congr 2
  funext c
  simp [(hf c).1, (hf c).2]

/-- What `updCtx` does to each context. -/
def onNumber (cid : Nat) (f : Ctx → Ctx) (c : Ctx) : Ctx := if c.live && c.cid == cid then f c else c

theorem updCtx_eq (s : State) (cid : Nat) (f : Ctx → Ctx) : updCtx s cid f = mapCtx s (onNumber cid f) := rfl

/-- A change, of live contexts of one number, that keeps them live and their number. -/
theorem keepsNumber_onNumber {cid : Nat} {f : Ctx → Ctx} (hf : ∀ c, c.live = true → (f c).live = true ∧ (f c).cid = c.cid) :
    KeepsNumber (onNumber cid f) := by
  intro c
  unfold onNumber
  split
  · rename_i h
    have hl : c.live = true := by simp_all
    simp [hl, hf c hl]
  · exact ⟨rfl, rfl⟩

theorem findCtx_updCtx (s : State) (cid : Nat) {f : Ctx → Ctx}
    (hf : ∀ c, c.live = true → (f c).live = true ∧ (f c).cid = c.cid) (k : Nat) :
    findCtx (updCtx s cid f) k = (findCtx s k).map (onNumber cid f) := by
  rw [updCtx_eq, findCtx_mapCtx s (keepsNumber_onNumber hf)]

theorem findCtx_updCtx_self (s : State) (cid : Nat) {f : Ctx → Ctx}
    (hf : ∀ c, c.live = true → (f c).live = true ∧ (f c).cid = c.cid) :
    findCtx (updCtx s cid f) cid = (findCtx s cid).map f := by
  rw [findCtx_updCtx s cid hf]
  refine Option.map_congr fun c hc => ?_
  simp [onNumber, live_of_findCtx hc, cid_of_findCtx hc]

theorem findCtx_updCtx_ne (s : State) {cid k : Nat} (hk : k ≠ cid) {f : Ctx → Ctx}
    (hf : ∀ c, c.live = true → (f c).live = true ∧ (f c).cid = c.cid) :
    findCtx (updCtx s cid f) k = findCtx s k := by
  rw [findCtx_updCtx s cid hf]
  cases h : findCtx s k with
  | none => rfl
  | some c => simp [onNumber, cid_of_findCtx h, hk]

/-- A change of one context of the part, as the statements put it. -/
theorem onlyCtx_updCtx (s : State) (cid : Nat) {f : Ctx → Ctx}
    (hf : ∀ c, c.live = true → (f c).live = true ∧ (f c).cid = c.cid) : onlyCtx s (updCtx s cid f) cid f :=
  ⟨rfl, findCtx_updCtx_self s cid hf, fun _ hk => findCtx_updCtx_ne s hk hf⟩

/-! ## The context of a number brought to hand -/

theorem focus_self {s : State} (h : s.ctx.live = true) : focus s s.ctx.cid = s := by simp [focus, h]

/-- Bringing a context to hand moves contexts and nothing else. -/
theorem focus_frame (s : State) (cid : Nat) :
    focus s cid = { s with ctx := (focus s cid).ctx, others := (focus s cid).others } := by
  unfold focus
  split
  · rfl
  · split <;> rfl

theorem focus_ctx {s : State} {cid : Nat} {c : Ctx} (h : findCtx s cid = some c) : (focus s cid).ctx = c := by
  rw [findCtx_eq] at h
  unfold focus
  split at h <;> rename_i hs
  · simpa [hs.1, hs.2] using h
  · have hn : (s.ctx.live && s.ctx.cid == cid) = false := by
      simpa using hs
    simp [hn, h]

/-- Bringing a context to hand loses none: every search finds what it found before. -/
theorem findCtx_focus (s : State) (cid k : Nat) : findCtx (focus s cid) k = findCtx s k := by
  unfold focus
  split
  · rfl
  · rename_i hs
    split
    · rfl
    · rename_i c hc
      have hp := List.find?_some hc
      have hl : c.live = true := by simp_all
      have hcid : c.cid = cid := by simp_all
      by_cases hk : k = cid
      · subst hk
        have hn : ¬(s.ctx.live = true ∧ s.ctx.cid = k) := by simpa using hs
        rw [findCtx_eq, findCtx_eq, if_pos ⟨hl, hcid⟩, if_neg hn, hc]
      · have hne : ¬(c.live = true ∧ c.cid = k) := fun h => hk (h.2 ▸ hcid)
        have hfil : ((s.others.filter fun x => !(x.live && x.cid == cid)).find? fun x => x.live && x.cid == k) =
            s.others.find? fun x => x.live && x.cid == k := by
          rw [List.find?_filter]
          congr 1
          funext x
          by_cases hx : x.cid = k <;> simp [hx, hk]
        rw [findCtx_eq, if_neg hne, List.find?_append, hfil]
        by_cases hv : s.ctx.status = .vacant
        · simp [findCtx_eq, hv, Ctx.live]
        · simp only [hv, if_false, List.find?_cons, List.find?_nil, findCtx_eq]
          cases h : s.ctx.live && s.ctx.cid == k <;> simp_all

section
variable {s t : State} {cid : Nat} {c : Ctx}

/-- After a change of the context that was brought to hand, its number finds it as it now is. -/
theorem findCtx_focused (h : t.ctx.cid = cid) (hl : t.ctx.live = true) : findCtx t cid = some t.ctx := h ▸ findCtx_ctx hl

/-- After a change of the context that was brought to hand, every other number finds what it found before. -/
theorem findCtx_focused_ne (hc : findCtx s cid = some c) (ho : t.others = (focus s cid).others) (hi : t.ctx.cid = cid) {k : Nat}
    (hk : k ≠ cid) : findCtx t k = findCtx s k := by
  have hf : (focus s cid).ctx.cid = cid := by rw [focus_ctx hc, cid_of_findCtx hc]
  rw [findCtx_other ho (hi.trans hf.symm) (hf.symm ▸ hk), findCtx_focus]

end

end Sys2Proof.Proofs
end

section
/-! PROOF. The forced issue of a trail, and the resumption of the ring (O46). -/

namespace Sys2Proof.Proofs

open Sys2Proof.Machine
open Sys2Proof.Laws

/-! ## The merge stage (R17, R342) -/

/-- R17, R342: what the forced issue of a trail does to a context. -/
def forcedIssue (core : Nat) (c : Ctx) : Ctx :=
  if !c.live ∨ c.gunit ≠ core then c
  else if c.role = .lead ∧ standsReady c then { c with frozen := true, lanes := 0, blkc := c.blkc + 1 }
  else if c.role = .trail then { c with blocked := 0 } else c

theorem keepsNumber_forcedIssue (core : Nat) : KeepsNumber (forcedIssue core) := by
  intro c
  unfold forcedIssue
  split_ifs <;> exact ⟨rfl, rfl⟩

theorem exec_trailForcedIssue {s : State} {core cid : Nat} {x : Ctx} (hx : findCtx s cid = some x) (hu : x.gunit = core)
    (hr : x.role = .trail) (hb : 64 ≤ x.blocked) :
    exec (.trailForcedIssue core) s = .next (mapCtx s (forcedIssue core)) := by
  have go : ((allCtx s).any fun c => c.live && c.gunit == core && c.role == .trail && decide (c.blocked ≥ 64)) = true :=
    List.any_eq_true.mpr ⟨x, mem_of_findCtx hx, by simp [live_of_findCtx hx, hu, hr, hb]⟩
  show execTrailForcedIssue core s = _
  simp only [execTrailForcedIssue, go, if_true]
  rfl

/-! ## The ring (R41) -/

theorem resume_ctx_status {s : State} {v : Saved} (h : s.ctx.saved = some v) : (resume s).ctx.status = .running := by
  simp [resume, h]

theorem resume_ctx_saved (s : State) : (resume s).ctx.saved = none := by
  unfold resume
  split
  · assumption
  · rfl

theorem resume_others (s : State) : (resume s).others = s.others := by
  unfold resume
  split <;> rfl

theorem resume_ctx_tclk {s : State} {v : Saved} (h : s.ctx.saved = some v) : (resume s).ctx.tclk = v.t := by
  simp [resume, h]

theorem resume_ctx_dws {s : State} {v : Saved} (h : s.ctx.saved = some v) : (resume s).ctx.dws = v.dws := by
  simp [resume, h]

/-- R41: a ring with a trapped station does not resume. -/
theorem resumeRing_trapped {s : State} (h : ∃ d ∈ ring s, d.status = .trapped) : resumeRing s = s := by
  obtain ⟨d, hd, ht⟩ := h
  have hr : ringReady s = false := by
    rw [ringReady, Bool.and_eq_false_iff]
    exact .inr (List.all_eq_false.mpr ⟨d, hd, by simp [ht]⟩)
  simp [resumeRing, hr]

/-- R41: with one station stopped and every other one running, the ring's resumption is that station's. -/
theorem resumeRing_single {s : State} (hs : s.ctx.status = .ringStop) (hu : s.ctx.upper = true) (hw : s.ctx.swapped = false)
    (ho : ∀ d ∈ s.others, d.upper = true → d.live = true → d.swapped = false → d.status = .running) :
    resumeRing s = resume s := by
  have hl : s.ctx.live = true := by simp [Ctx.live, hs]
  have hring : ring s = s.ctx :: s.others.filter fun c => c.live && c.upper && !c.swapped := by
    simp [ring, allCtx, hl, hu, hw]
  have hrun : ∀ d ∈ s.others.filter fun c => c.live && c.upper && !c.swapped, d.status = .running := by
    intro d hd
    simp only [List.mem_filter, Bool.and_eq_true, Bool.not_eq_true'] at hd
    exact ho d hd.1 hd.2.1.2 hd.2.1.1 hd.2.2
  have hready : ringReady s = true := by
    simp only [ringReady, hring, List.any_cons, List.all_cons, hs, Bool.and_eq_true, List.all_eq_true]
    exact ⟨by simp, by simp, fun d hd => by simp [hrun d hd]⟩
  have hstop : (ring s).filter (fun c => c.status == .ringStop) = [s.ctx] := by
    rw [hring, List.filter_cons_of_pos (by simp [hs]), List.filter_eq_nil_iff.mpr fun d hd => by simp [hrun d hd]]
  simp [resumeRing, hready, hstop, focus_self hl]

/-- Settles O46: the forced issue context by context, then the ring with one station to resume, or with one that is trapped. -/
theorem mergeAndRingSteps : Obligations.MergeAndRingSteps := by
  unfold Obligations.MergeAndRingSteps
  refine ⟨fun s core cid x hx hu hr hb => ⟨_, exec_trailForcedIssue hx hu hr hb, rfl, fun k c hk => ?forced⟩,
    fun s v hs hu hw hv ho => ?resumes, fun s h => ?trapped⟩
  case forced =>
    rw [findCtx_mapCtx s (keepsNumber_forcedIssue core), hk, Option.map_some, forcedIssue]
    simp [live_of_findCtx hk]
  case resumes =>
    refine ⟨resume s, ?_, resume_ctx_status hv, resume_ctx_tclk hv, resume_ctx_dws hv, resume_ctx_saved s, resume_others s,
      resume_mem s⟩
    show execRingResume s = _
    rw [execRingResume, resumeRing_single hs hu hw ho]
  case trapped =>
    show execRingResume s = _
    rw [execRingResume, resumeRing_trapped h]

end Sys2Proof.Proofs
end

section
/-! PROOF. What shared updates leave of the parts of a machine that searches look at: folds, entries by their number, the
roles of a core, and the bytes of control words. -/

namespace Sys2Proof.Proofs

open Sys2Proof.Machine
open Sys2Proof.Laws

/-- An entry found by its number after it is changed. -/
theorem find?_map_key {α : Type} (key : α → Nat) {f : α → α} (hf : ∀ x, key (f x) = key x) (k : Nat) (l : List α) :
    (l.map fun x => if key x == k then f x else x).find? (fun x => key x == k) = (l.find? fun x => key x == k).map f := by
  rw [List.find?_map]
  have hkey : ∀ x, key (if (key x == k) = true then f x else x) = key x := fun x => by split <;> simp [hf]
  have hp : ((fun x => key x == k) ∘ fun x => if (key x == k) = true then f x else x) = fun x => key x == k := by
    funext x; simp only [Function.comp_apply, hkey]
  rw [hp]
  refine Option.map_congr fun x hx => ?_
  rw [if_pos (List.find?_some hx)]

theorem findLaunch_updLaunch (s : State) (lid : Nat) {f : Launch → Launch} (hf : ∀ l, (f l).lid = l.lid) :
    findLaunch (updLaunch s lid f) lid = (findLaunch s lid).map f :=
  find?_map_key Launch.lid hf lid _

theorem findQueue_updQueue (s : State) (q : Nat) {f : WorkQueue → WorkQueue} (hf : ∀ x, (f x).q = x.q) :
    findQueue (updQueue s q f) q = (findQueue s q).map f :=
  find?_map_key WorkQueue.q hf q _

theorem lid_of_findLaunch {s : State} {lid : Nat} {l : Launch} (h : findLaunch s lid = some l) : l.lid = lid := by
  simpa using List.find?_some h

/-! ## Islands -/

theorem getIsland_upd (s : State) (n : Nat) {f : Island → Island} (hf : ∀ u, (f u).n = u.n) (t : State)
    (ht : t.units = updIsland s.units n f) : getIsland t n = f (getIsland s n) := by
  unfold getIsland
  rw [ht, updIsland]
  split
  · rename_i h
    rw [find?_map_key Island.n hf]
    obtain ⟨u, hu, hn⟩ := List.any_eq_true.mp h
    obtain ⟨v, hv⟩ := Option.isSome_iff_exists.mp ((List.find?_isSome (p := fun u => u.n == n)).mpr ⟨u, hu, hn⟩)
    rw [hv]; rfl
  · rename_i h
    have hnone : s.units.find? (fun u => u.n == n) = none := by
      rw [List.find?_eq_none]
      exact fun u hu hn => h (List.any_eq_true.mpr ⟨u, hu, hn⟩)
    have hfresh : ((f (Island.fresh n)).n == n) = true := by rw [hf]; exact beq_self_eq_true n
    rw [List.find?_append, hnone, List.find?_cons, hfresh]
    rfl

/-! ## Folds -/

/-- A part of the state that no step of a fold changes. -/
theorem foldl_keeps {α β : Type} (p : State → β) {g : State → α → State} (hg : ∀ s x, p (g s x) = p s) (l : List α) (s : State) :
    p (l.foldl g s) = p s := by
  induction l generalizing s with
  | nil => rfl
  | cons x l ih => rw [List.foldl_cons, ih, hg]

/-! ## Leaving a role (R15, R429) -/

/-- R15: a context parks. -/
def roleless (tick : Nat) (x : Ctx) : Ctx := { x with role := .parked, parkedAt := tick, slice := 0, blocked := 0, lanes := 0 }

/-- R15, R429: what becomes of each context when that of a number leaves its role on a core. -/
def leftRole (tick cid u : Nat) (x : Ctx) : Ctx :=
  let y := onNumber cid (roleless tick) x
  if y.live && y.gunit == u && y.role == .trail then { y with role := .lead, blocked := 0 } else y

theorem keepsNumber_leftRole (tick cid u : Nat) : KeepsNumber (leftRole tick cid u) := by
  intro c
  have h := keepsNumber_onNumber (cid := cid) (f := roleless tick) (fun c hl => ⟨hl, rfl⟩) c
  unfold leftRole
  dsimp only
  split <;> exact h

/-- Leaving a role changes contexts, and the island of their core, alone. -/
theorem leaveRole_frame (s : State) (cid : Nat) : leaveRole s cid =
    { s with ctx := (leaveRole s cid).ctx, others := (leaveRole s cid).others, units := (leaveRole s cid).units } := by
  unfold leaveRole
  split
  · rfl
  · split <;> rfl

theorem leaveRole_parked {s : State} {cid : Nat} {c : Ctx} (hc : findCtx s cid = some c) (hr : c.role = .parked) :
    leaveRole s cid = s := by
  simp [leaveRole, hc, hr]

/-- R314, R429: what an island keeps of a role that is freed. -/
def roleFreed (tick : Nat) (one : Bool) (u : Island) : Island :=
  { u with freedAt := tick :: u.freedAt.filter fun k => tick < k + 2, bubble := if one then some tick else u.bubble }

section
variable {s : State} {cid : Nat} {c : Ctx} (hc : findCtx s cid = some c) (hr : c.role ≠ .parked)
include hc hr

theorem leaveRole_ctx : (leaveRole s cid).ctx = leftRole s.tick cid c.gunit s.ctx := by
  simp only [leaveRole, hc, if_neg hr]
  rfl

theorem leaveRole_others : (leaveRole s cid).others = s.others.map (leftRole s.tick cid c.gunit) := by
  simp only [leaveRole, hc, if_neg hr, mapCtx, updCtx, List.map_map]
  rfl

theorem findCtx_leaveRole (k : Nat) : findCtx (leaveRole s cid) k = (findCtx s k).map (leftRole s.tick cid c.gunit) := by
  rw [← findCtx_mapCtx s (keepsNumber_leftRole s.tick cid c.gunit) k]
  exact findCtx_congr (leaveRole_ctx hc hr) (leaveRole_others hc hr) k

theorem leaveRole_units : ∃ one, (leaveRole s cid).units = updIsland s.units c.gunit (roleFreed s.tick one) := by
  simp only [leaveRole, hc, if_neg hr]
  exact ⟨_, rfl⟩

theorem freedAt_leaveRole : s.tick ∈ (getIsland (leaveRole s cid) c.gunit).freedAt := by
  obtain ⟨one, hu⟩ := leaveRole_units hc hr
  rw [getIsland_upd s c.gunit (f := roleFreed s.tick one) (fun _ => rfl) _ hu]
  exact List.mem_cons_self

end

/-- What a context keeps when it, or another of its core, leaves a role. -/
theorem leftRole_keeps (tick cid u : Nat) (x : Ctx) : leftRole tick cid u x = { x with
    role := (leftRole tick cid u x).role, parkedAt := (leftRole tick cid u x).parkedAt, slice := (leftRole tick cid u x).slice
    blocked := (leftRole tick cid u x).blocked, lanes := (leftRole tick cid u x).lanes } := by
  unfold leftRole onNumber
  dsimp only
  split_ifs <;> rfl

/-! ## Local bytes (R88, R90) -/

/-- A write of single local bytes changes memory, its codes and its dirty bits alone. -/
theorem putCells_keeps {β : Type} (p : State → β)
    (hp : ∀ (s : State) m y d, p { s with mem := m, synd := y, dirty := d } = p s) (s : State) (cells : List (Nat × Byte)) :
    p (putCells s cells) = p s := by
  unfold putCells
  refine foldl_keeps p ?_ _ s
  exact fun s _ => hp s _ _ _

end Sys2Proof.Proofs
end

section
/-! PROOF. The ends of stalls, holds, barriers and collectives (O51). -/

namespace Sys2Proof.Proofs

open Sys2Proof.Machine
open Sys2Proof.Laws

/-- The step `i` leaves context `cid` as `d`, and of every other context, the memory and the fabric nothing changed. -/
def Leaves (s : State) (cid : Nat) (i : Instr) (d : Ctx) : Prop :=
  ∃ t, exec i s = .next t ∧ findCtx t cid = some d ∧ (∀ k, k ≠ cid → findCtx t k = findCtx s k) ∧ t.mem = s.mem ∧ t.net = s.net

section
variable {s : State} {cid : Nat} {c : Ctx}

/-- A step that changes only the context it brings to hand. -/
theorem leaves_of_up (hc : findCtx s cid = some c) {i : Instr} {f : Ctx → Ctx}
    (hf : (f c).live = c.live ∧ (f c).cid = c.cid) (he : exec i s = .next ((focus s cid).up f)) : Leaves s cid i (f c) := by
  have hctx : ((focus s cid).up f).ctx = f c := by rw [up_ctx, focus_ctx hc]
  have hcid : ((focus s cid).up f).ctx.cid = cid := by rw [hctx, hf.2, cid_of_findCtx hc]
  have hnet : (focus s cid).net = s.net := by rw [focus_frame]
  refine ⟨_, he, ?_, fun k hk => findCtx_focused_ne (t := (focus s cid).up f) hc rfl hcid hk, focus_mem s cid, hnet⟩
  rw [findCtx_focused hcid (by rw [hctx, hf.1, live_of_findCtx hc]), hctx]

/-! ## Barriers (R20, R127) -/

/-- R121: a barrier that has ended becomes an acquire of its scope. -/
def barAcquired (n sc : Nat) (c : Ctx) : Ctx :=
  { c with stamps := Vector.ofFn fun k => if k.val ≤ sc then n else c.stamps[k], wait := .phaseA sc n }

theorem exec_barRelease (hc : findCtx s cid = some c) {l sc m : Nat} (hw : c.wait = .bar l sc m)
    (hd : barDone s c l m = true) :
    exec (.barRelease cid) s = .next ((focus s cid).up (barAcquired s.net.pubs.length sc)) := by
  have hnet : (focus s cid).net = s.net := by rw [focus_frame]
  show execBarRelease cid s = _
  simp only [execBarRelease, hc, hw, hd, if_true]
  simp only [acquire, State.up, hnet]
  rfl

theorem exec_barRelease_waits (hc : findCtx s cid = some c) {l sc m : Nat} (hw : c.wait = .bar l sc m)
    (hd : barDone s c l m = false) : exec (.barRelease cid) s = .next s := by
  show execBarRelease cid s = _
  simp only [execBarRelease, hc, hw, hd, Bool.false_eq_true, if_false]

/-- R40, R127: when a participant has come to its m-th BAR of a level and, on the Sole, published what it closed. -/
theorem arrived_iff (up : Bool) (d : Ctx) (o : Option (Nat × Nat)) :
    ((match o with
      | some (_, ph) => up || decide (ph < d.pubd)
      | none => false) = true) ↔ ∃ b, o = some b ∧ (up = true ∨ b.2 < d.pubd) := by
  cases o <;> simp

theorem barDone_iff (s : State) (c : Ctx) (l m : Nat) : barDone s c l m = true ↔
    (∀ d ∈ participants s c l, ∃ b, (d.bars.filter fun b => b.1 == l)[m]? = some b ∧ (c.upper = true ∨ b.2 < d.pubd)) ∧
      ∀ x ∈ farMates s c l, (mateReport s c x.2.2 false l m).isSome = true := by
  rw [barDone, Bool.and_eq_true, List.all_eq_true, List.all_eq_true]
  exact and_congr (forall₂_congr fun d _ => arrived_iff c.upper d _) Iff.rfl

/-! ## Stalls and holds (R98, R268, R346) -/

theorem releaseStall_cleared (hc : findCtx s cid = some c) {k : Nat} (hw : c.wait = .stall k)
    (hk : cycleStall (focus s cid) c.now ≠ some k) :
    releaseStall s cid k = (focus s cid).up fun x => { x with wait := .cycle } := by
  simp only [releaseStall, hc, hw, if_true, focus_ctx hc, if_neg hk]

/-- R98, R268: each of the four kinds of stall has its own step. -/
theorem exec_stallRelease {k : Nat} {i : Instr}
    (h : (k, i) ∈ [(0, Instr.vpushStallRelease cid), (1, .qlnchQueueRoom cid), (2, .wtakeRelease cid), (3, .wdepthRelease cid)]) :
    exec i s = .next (releaseStall s cid k) := by
  simp only [List.mem_cons, Prod.mk.injEq, List.not_mem_nil, or_false] at h
  rcases h with ⟨rfl, rfl⟩ | ⟨rfl, rfl⟩ | ⟨rfl, rfl⟩ | ⟨rfl, rfl⟩ <;> rfl

theorem exec_missedOperandRelease (hc : findCtx s cid = some c) {k : Nat} (hw : c.wait = .hold k) (h03 : k = 0 ∨ k = 3)
    (hk : holdKind (focus s cid) c.tclk ≠ some k) :
    exec (.missedOperandRelease cid) s = .next ((focus s cid).up fun x => { x with wait := .none }) := by
  show execMissedOperandRelease cid s = _
  simp only [execMissedOperandRelease, hc, hw, if_pos h03, focus_ctx hc, if_neg hk]

/-! ## A collective of one participant (R280 to R282) -/

/-- R281: alone, a contribution is its own result, and raises no flag. -/
theorem combine_single (op : Fin 4) (f arg root x : Nat) : (combine op f arg root [x]).2 = 0 := by
  match op with
  | 0 => rfl
  | 1 => simp only [combine]; split <;> rfl
  | 2 => simp [combine]
  | 3 => rfl

/-- Flags of results that raise none. -/
theorem foldl_or_zero {l : List (Nat × Nat)} (h : ∀ x ∈ l, x.2 = 0) : l.foldl (fun a x => a ||| x.2) 0 = 0 := by
  induction l with
  | nil => rfl
  | cons x l ih =>
    rw [List.foldl_cons, h x List.mem_cons_self]
    exact ih fun y hy => h y (List.mem_cons_of_mem _ hy)

theorem ranked_single (hp : participants s c l = [c]) (hf : farMates s c l = []) (m : Nat) :
    (ranked s c l m).map (·.2) = [collOf c l m] := by
  simp [ranked, hp, hf, sortBy, insertBy]

/-- R280: a pairing of one COLL with root 0 is sound. -/
theorem collFault_single (s : State) {k : Cmd} (hr : k.ga.toNat / 2 ^ 16 % 2 ^ 16 = 0) : collFault s [k] = none := by
  have hsame : (List.range [k].length).find? (fun r => ([k][r]?.map collKey) != some (collKey k)) = none := by
    simp
  unfold collFault
  simp only [List.head?_cons, Option.map_some, Option.getD_some, hsame]
  refine if_neg ?_
  show ¬(k.ga.toNat / 2 ^ 16 % 2 ^ 16 ≥ 1)
  omega

/-- R281, R282: what a landing leaves of its participant. -/
def landed (k : Cmd) (fl : Nat) (c : Ctx) : Ctx :=
  { c with
    r := { c.r with flg := c.r.flg ||| BitVec.ofNat 6 fl }
    cq := c.cq.map fun x => if x.id == k.id then { x with left := 0 } else x }

/-- R281, R282: the rows of a result as they land, before the participant is told. -/
def landRows (s : State) (d : Ctx) (k : Cmd) (vs : List Nat) : State :=
  let rows := resultRows (k.sh 2) vs
  ((List.range rows.length).zip rows).foldl (fun u (r, bs) =>
    fillPut u d.gunit ((k.sh 2).base.toNat + r * (k.sh 2).pitch.toNat) bs [] false fun a : Nat =>
      !(d.upper && dropsByte s k.issue d.tclk a)) s

theorem landColl_eq (s : State) (d : Ctx) (k : Cmd) (vs : List Nat) (fl : Nat) :
    landColl s d k vs fl = updCtx (landRows s d k vs) d.cid (landed k fl) := rfl

theorem findCtx_landColl (s : State) (d : Ctx) (k : Cmd) (vs : List Nat) (fl : Nat) :
    findCtx (landColl s d k vs fl) d.cid = (findCtx s d.cid).map (landed k fl) := by
  have hrows : ((landRows s d k vs).ctx, (landRows s d k vs).others) = (s.ctx, s.others) := by
    refine foldl_keeps (fun s : State => (s.ctx, s.others)) ?_ _ s
    exact fun _ _ => rfl
  rw [landColl_eq, findCtx_updCtx_self _ _ (f := landed k fl) fun c hl => ⟨hl, rfl⟩, findCtx_congr (congrArg Prod.fst hrows) (congrArg Prod.snd hrows)]

/-- R280 to R282: the combination of a collective that one context makes alone. -/
theorem collCombine_single {k : Cmd} (hp : participants s c (k.ga.toNat % 8) = [c]) (hf : farMates s c (k.ga.toNat % 8) = [])
    (hk : collOf c (k.ga.toNat % 8) k.reqs = some k) (hr : k.ga.toNat / 2 ^ 16 % 2 ^ 16 = 0) :
    ∃ vs, collCombine s c k = landColl s c k vs 0 := by
  have hrank := hk ▸ ranked_single hp hf k.reqs
  obtain ⟨x, hx⟩ : ∃ x, ranked s c (k.ga.toNat % 8) k.reqs = [(x, some k)] := by
    match h : ranked s c (k.ga.toNat % 8) k.reqs with
    | [] => simp [h] at hrank
    | [y] => exact ⟨y.1, by rw [h] at hrank; simpa [Prod.ext_iff] using hrank⟩
    | _ :: _ :: _ => simp [h] at hrank
  simp only [collCombine, hx, hp, hk, List.filterMap_cons, List.filterMap_nil, Option.map_some, List.length_singleton, ne_eq,
    not_true_eq_false, if_false, collFault_single s hr, List.foldl_cons, List.foldl_nil, List.map_cons, List.map_nil]
  rw [foldl_or_zero]
  · exact ⟨_, rfl⟩
  · intro y hy
    obtain ⟨i, -, rfl⟩ := List.mem_map.mp hy
    exact combine_single ..

theorem exec_collCombine (hc : findCtx s cid = some c) {k : Cmd} (hk : collPending s c = some k) :
    exec (.collCombine cid) s = .next (collCombine s c k) := by
  show execCollCombine cid s = _
  simp only [execCollCombine, hc, hk]

/-- R282: the command of a collective that has landed has nothing left to do. -/
theorem left_of_landed {k y : Cmd} {fl : Nat} (hy : y ∈ (landed k fl c).cq) (hid : y.id = k.id) : y.left = 0 := by
  obtain ⟨z, -, rfl⟩ := List.mem_map.mp hy
  by_cases h : z.id = k.id
  · simp [h]
  · simp [h] at hid

end

/-- Settles O51: each cause's step by the lemma about its release; a collective of one by its combination. -/
theorem stallsAreReleased : Obligations.StallsAreReleased := by
  unfold Obligations.StallsAreReleased
  intro s cid c hc
  refine ⟨fun l sc m hw hd => ?bar, barDone_iff s c, fun l sc m hw hd => exec_barRelease_waits hc hw hd,
    fun k i hi hw hk => ?stall, fun k hw h03 hk => ?hold, fun k l hk hl hp hf ho hr => ?coll⟩
  case bar => exact leaves_of_up hc (f := barAcquired s.net.pubs.length sc) ⟨rfl, rfl⟩ (exec_barRelease hc hw hd)
  case stall =>
    refine leaves_of_up hc (f := fun x => { x with wait := .cycle }) ⟨rfl, rfl⟩ ?_
    rw [exec_stallRelease hi, releaseStall_cleared hc hw hk]
  case hold =>
    exact leaves_of_up hc (f := fun x => { x with wait := .none }) ⟨rfl, rfl⟩ (exec_missedOperandRelease hc hw h03 hk)
  case coll =>
    subst hl
    obtain ⟨vs, hvs⟩ := collCombine_single hp hf ho hr
    refine ⟨_, landed k 0 c, exec_collCombine hc hk, ?_, fun y hy => left_of_landed hy, by simp [landed], rfl⟩
    have hland := findCtx_landColl s c k vs 0
    rwa [cid_of_findCtx hc, hc, ← hvs] at hland

end Sys2Proof.Proofs
end

section
/-! PROOF. The steps of tasks, launches and queues (O52). -/

namespace Sys2Proof.Proofs

open Sys2Proof.Machine
open Sys2Proof.Laws

/-! ## The retirement of a task (R23, R99, R128) -/

/-- What the end of a context's claims leaves as it is. -/
def afterClaims (s : State) : Ctx × List Ctx × HostState × List ((Nat × Nat × Nat × Nat) × BitVec 48) :=
  (s.ctx, s.others, s.host, s.acc)

theorem afterClaims_startTest (s : State) (k u i : Nat) (a : Word) (on : List Nat) :
    afterClaims (startTest s k u i a on) = afterClaims s := by
  simp only [startTest]
  split <;> rfl

theorem afterClaims_putCells (s : State) (cells : List (Nat × Byte)) : afterClaims (putCells s cells) = afterClaims s :=
  putCells_keeps afterClaims (fun _ _ _ _ => rfl) s cells

theorem afterClaims_endClaim (s : State) (a : Nat) : afterClaims (endClaim s a) = afterClaims s := by
  simp only [endClaim]
  split_ifs <;> simp only [afterClaims_startTest, afterClaims_putCells]

/-- The state of a context whose claims have ended, and which has left its role. -/
def roleEnded (s : State) : State :=
  let t := s.ctx.claims.foldl endClaim s
  leaveRole t t.ctx.cid

/-- R15, R23, R99: what the ends of its claims and of its role leave of a context. -/
theorem roleEnded_spec {s : State} (hl : s.ctx.live = true) :
    (∃ ro pa sl bl la, (roleEnded s).ctx = { s.ctx with role := ro, parkedAt := pa, slice := sl, blocked := bl, lanes := la }) ∧
      (roleEnded s).host = s.host ∧ (roleEnded s).acc = s.acc := by
  obtain ⟨t, ht⟩ : ∃ t, t = s.ctx.claims.foldl endClaim s := ⟨_, rfl⟩
  have hk : afterClaims t = afterClaims s := ht ▸ foldl_keeps afterClaims afterClaims_endClaim _ s
  simp only [afterClaims, Prod.mk.injEq] at hk
  obtain ⟨hctx, -, hhost, hacc⟩ := hk
  have hfind : findCtx t t.ctx.cid = some t.ctx := findCtx_ctx (hctx ▸ hl)
  have he : roleEnded s = leaveRole t t.ctx.cid := by rw [ht]; rfl
  rw [he, ← hctx, ← hhost, ← hacc, leaveRole_frame]
  refine ⟨?_, rfl, rfl⟩
  by_cases hr : t.ctx.role = .parked
  · rw [leaveRole_parked hfind hr]
    exact ⟨_, _, _, _, _, rfl⟩
  · rw [leaveRole_ctx hfind hr]
    exact ⟨_, _, _, _, _, leftRole_keeps _ _ _ _⟩

/-- R23: a context as it is kept as a source. -/
def retiredCtx (x : Ctx) : Ctx := { x with
  status := .retired, claims := [], signals := [], notices := [], tmrPend := 0, latches := [], dws := [], redo := []
  vq := [], xq := [], cq := [], uws := [], saved := none, wait := .none, wins := [], pwrlvl := 0 }

theorem freeCtx_ctx (s : State) : (freeCtx s).ctx = Ctx.vacant := rfl

theorem freeCtx_others (s : State) : (freeCtx s).others = (roleEnded s).others ++ [retiredCtx (roleEnded s).ctx] := rfl

theorem freeCtx_acc (s : State) : (freeCtx s).acc = (roleEnded s).acc.filter fun a =>
    a.1.1 != (s.ctx.claims.foldl endClaim s).ctx.src := rfl

theorem freeCtx_launches (s : State) : (freeCtx s).host.launches =
    (updLaunch (roleEnded s) (s.ctx.claims.foldl endClaim s).ctx.lid fun l => { l with retired := l.retired + 1 }).host.launches := rfl

theorem freeCtx_agenda (s : State) : .gangAdmission ∈ (freeCtx s).agenda := List.mem_append_right _ (List.mem_singleton.mpr rfl)

/-- R23, R99, R128: a task that retires. -/
theorem freeCtx_spec {s : State} (hl : s.ctx.live = true) :
    (∃ d ∈ (freeCtx s).others, d.cid = s.ctx.cid ∧ d.status = .retired ∧ d.r = s.ctx.r) ∧
      (∀ x ∈ (freeCtx s).acc, x.1.1 ≠ s.ctx.src) ∧
      findLaunch (freeCtx s) s.ctx.lid = (findLaunch s s.ctx.lid).map fun l => { l with retired := l.retired + 1 } := by
  have hclaims : (s.ctx.claims.foldl endClaim s).ctx = s.ctx :=
    congrArg Prod.fst (foldl_keeps afterClaims afterClaims_endClaim s.ctx.claims s)
  obtain ⟨⟨ro, pa, sl, bl, la, hctx⟩, hhost, -⟩ := roleEnded_spec hl
  refine ⟨⟨retiredCtx (roleEnded s).ctx, ?_, ?_, rfl, ?_⟩, fun x hx => ?_, ?_⟩
  · rw [freeCtx_others]; exact List.mem_append_right _ (List.mem_singleton.mpr rfl)
  · rw [hctx]; rfl
  · rw [hctx]; rfl
  · rw [freeCtx_acc, hclaims] at hx
    simpa using (List.mem_filter.mp hx).2
  · have hfind : findLaunch (roleEnded s) s.ctx.lid = findLaunch s s.ctx.lid := by rw [findLaunch, hhost]; rfl
    rw [← hfind, ← findLaunch_updLaunch (roleEnded s) s.ctx.lid (f := fun l => { l with retired := l.retired + 1 }) fun _ => rfl]
    rw [findLaunch, freeCtx_launches, hclaims]
    rfl

/-- R23: the retirement of a task whose END waits for nothing, in a launch that goes on. -/
theorem exec_taskRetirement {s : State} {cid : Nat} {c : Ctx} {l : Launch} (hc : findCtx s cid = some c)
    (he : endReady c = true) (hl : findLaunch s c.lid = some l) (hg : l.ending = false) :
    exec (.taskRetirement cid) s = .next (freeCtx (closePhase (focus s cid) 4)) := by
  have hf : findLaunch (focus s cid) c.lid = some l := by rw [focus_frame]; exact hl
  show execTaskRetirement cid s = _
  simp only [execTaskRetirement, hc, hf, Option.any_some, hg, he, if_true, Bool.false_eq_true, if_false]

/-! ## The completion of a launch (R128, R393, R399) -/

theorem sendPkt_host (s : State) (sid type : Nat) (body : List Byte) :
    (sendPkt s sid type body).host.launches = s.host.launches ∧ (sendPkt s sid type body).host.queues = s.host.queues := by
  unfold sendPkt
  split <;> exact ⟨rfl, rfl⟩

/-- R387: a packet to a session that is open goes out. -/
theorem sendPkt_out {s : State} {sid type : Nat} {body : List Byte} (h : (findSession s sid).isSome = true) :
    ∃ p ∈ (sendPkt s sid type body).host.out, p.sid = sid ∧ p.type = type := by
  obtain ⟨x, hx⟩ := Option.isSome_iff_exists.mp h
  have hsid : x.sid = sid := by simpa using List.find?_some hx
  refine ⟨⟨x.sid, x.next, type, body, packetTag x x.next type body, s.tick + 10000, 1⟩, ?_, hsid, rfl⟩
  simp only [sendPkt, hx]
  exact List.mem_append_right _ (List.mem_singleton.mpr rfl)

/-- R390, R399: what becomes of a queue after its launch has left: its level, its wait and its session may change. -/
def queueAfter (s : State) (first : Bool) (q base : Nat) : State := unbindQueue (if first then nextHead s q base else s) q

theorem queueAfter_host (s : State) (first : Bool) (q base : Nat) :
    (queueAfter s first q base).host.launches = s.host.launches ∧ (queueAfter s first q base).host.out = s.host.out := by
  cases first <;> exact ⟨rfl, rfl⟩

theorem findQueue_queueAfter {s : State} {q : Nat} {x : WorkQueue} (h : findQueue s q = some x) (first : Bool) (base : Nat) :
    ∃ p, findQueue (queueAfter s first q base) q = some p ∧ p.doneN = x.doneN ∧ p.heads = x.heads := by
  have unbind : ∀ {u : State} {y : WorkQueue}, findQueue u q = some y → ∃ p, findQueue (unbindQueue u q) q = some p ∧
      p.doneN = y.doneN ∧ p.heads = y.heads := by
    intro u y hy
    rw [unbindQueue, findQueue_updQueue u q (fun z => by split <;> rfl), hy]
    exact ⟨_, rfl, (apply_ite WorkQueue.doneN _ _ _).trans (ite_self _), (apply_ite WorkQueue.heads _ _ _).trans (ite_self _)⟩
  cases first with
  | false => exact unbind h
  | true =>
    have hn : ∃ lvl, findQueue (nextHead s q base) q = some { x with level := lvl, waited := 0 } := by
      rw [nextHead, findQueue_updQueue s q (by intro _; rfl), h]
      exact ⟨_, rfl⟩
    obtain ⟨lvl, hn⟩ := hn
    exact (unbind hn :)

/-- R393, R399, R450: what a launch that has completed leaves. -/
theorem completeLaunch_spec {s : State} {l : Launch} {q : WorkQueue} (hq : findQueue s l.hdr.queue = some q) (body : List Byte) :
    let t := completeLaunch s l body
    findLaunch t l.lid = none ∧ (∃ p, findQueue t l.hdr.queue = some p ∧ p.doneN = q.doneN + 1 ∧ l.lid ∉ p.heads) ∧
      .gangAdmission ∈ t.agenda ∧ ((findSession s q.sid).isSome = true → ∃ p ∈ t.host.out, p.sid = q.sid ∧ p.type = 0x81) := by
  obtain ⟨u, first, ht, hul, huq, huo⟩ : ∃ u first, completeLaunch s l body = post (queueAfter u first l.hdr.queue l.hdr.prio) .gangAdmission ∧
      u.host.launches = (sendPkt s q.sid 0x81 body).host.launches.filter (fun x => x.lid != l.lid) ∧
      u.host.queues = (updQueue (sendPkt s q.sid 0x81 body) l.hdr.queue fun x =>
        { x with heads := x.heads.filter (· != l.lid), doneN := x.doneN + 1, last := body }).host.queues ∧
      u.host.out = (sendPkt s q.sid 0x81 body).host.out := by
    simp only [completeLaunch, hq]
    exact ⟨_, _, rfl, rfl, rfl, rfl⟩
  obtain ⟨hsl, hsq⟩ := sendPkt_host s q.sid 0x81 body
  have hfq : findQueue u l.hdr.queue =
      some { q with heads := q.heads.filter (· != l.lid), doneN := q.doneN + 1, last := body } := by
    have hs : findQueue (sendPkt s q.sid 0x81 body) l.hdr.queue = some q := by rw [findQueue, hsq]; exact hq
    rw [findQueue, huq]
    refine (findQueue_updQueue _ _ (by intro _; rfl)).trans ?_
    rw [hs]; rfl
  obtain ⟨hal, hao⟩ := queueAfter_host u first l.hdr.queue l.hdr.prio
  obtain ⟨p, hp, hdone, hheads⟩ := findQueue_queueAfter hfq first l.hdr.prio
  rw [ht]
  refine ⟨?_, ⟨p, hp, hdone, ?_⟩, List.mem_append_right _ (List.mem_singleton.mpr rfl), fun hs => ?_⟩
  · show (queueAfter u first l.hdr.queue l.hdr.prio).host.launches.find? (fun x => x.lid == l.lid) = none
    rw [hal, hul, List.find?_eq_none]
    intro x hx
    simpa using (List.mem_filter.mp hx).2
  · simp [hheads]
  · obtain ⟨p, hp, hpk⟩ := sendPkt_out (type := 0x81) (body := body) hs
    refine ⟨p, ?_, hpk⟩
    show p ∈ (queueAfter u first l.hdr.queue l.hdr.prio).host.out
    rwa [hao, huo]

/-- R128, R393: a launch that is done is completed, with a body that its record names. -/
theorem exec_launchCompletion {s : State} {lid : Nat} {l : Launch} (hl : findLaunch s lid = some l)
    (hd : launchDone s l = true) : ∃ body, exec (.launchCompletion lid) s = .next (completeLaunch { s with free := s.free + 1 } l body) := by
  show ∃ body, execLaunchCompletion lid s = _
  simp only [execLaunchCompletion, hl, hd, Bool.not_true, Bool.false_eq_true, if_false]
  exact ⟨_, rfl⟩

/-! ## The admission of a gang (R174, R376, R396, R399) -/

/-- R174, R376: a context that stands parked at the entry label of task `o` of a launch. -/
def StartsParked (l : Launch) (o : Nat) (c : Ctx) : Prop :=
  c.lid = l.lid ∧ c.wid = BitVec.ofNat 64 (l.hdr.widOf o) ∧ c.role = .parked ∧ c.status = .running ∧
    c.pc = BitVec.ofNat 64 (l.hdr.prog + l.hdr.entry) ∧ c.r = startRegs l.hdr ∧ c.tclk = 0

theorem startsParked_newCtx (s : State) (l : Launch) (o u : Nat) : StartsParked l o (newCtx s l o u) :=
  ⟨rfl, rfl, rfl, rfl, rfl, rfl, rfl⟩

theorem loadRecords_others (s : State) (l : Launch) (u : Nat) : (loadRecords s l u).others = s.others := by
  unfold loadRecords
  split
  · rfl
  · refine foldl_keeps State.others ?_ _ s
    exact fun _ _ => rfl

theorem admitTask_others (s : State) (l : Launch) (o u : Nat) :
    (admitTask s l o u).others = s.others ++ [newCtx s l o u] := by
  rw [← loadRecords_others s l u]; rfl

/-- R399: every task of a gang that is admitted has its context. -/
theorem admitTasks_others (l : Launch) (ts : List (Nat × Nat)) (s : State) :
    (∀ c ∈ s.others, c ∈ (ts.foldl (fun s (o, u) => admitTask s l o u) s).others) ∧
      ∀ x ∈ ts, ∃ c ∈ (ts.foldl (fun s (o, u) => admitTask s l o u) s).others, StartsParked l x.1 c := by
  induction ts generalizing s with
  | nil => exact ⟨fun _ h => h, fun x h => absurd h List.not_mem_nil⟩
  | cons x ts ih =>
    obtain ⟨hkeep, hnew⟩ := ih (admitTask s l x.1 x.2)
    have hadd := admitTask_others s l x.1 x.2
    refine ⟨fun c hc => hkeep c (hadd ▸ List.mem_append_left _ hc), fun y hy => ?_⟩
    rcases List.mem_cons.mp hy with rfl | hy
    · exact ⟨_, hkeep _ (hadd ▸ List.mem_append_right _ (List.mem_singleton.mpr rfl)), startsParked_newCtx s l y.1 y.2⟩
    · exact hnew y hy

/-- R380: what a request for pre-emption does to a context. -/
def preempted (p : Ctx → Bool) (c : Ctx) : Ctx :=
  if c.live ∧ c.role ≠ .parked ∧ !c.preReq ∧ p c then { c with preReq := true, preCnt := 0 } else c

theorem requestPreempt_eq (s : State) (p : Ctx → Bool) : requestPreempt s p = mapCtx s (preempted p) := rfl

theorem preempted_parked (p : Ctx → Bool) {c : Ctx} (h : c.role = .parked) : preempted p c = c := by simp [preempted, h]

theorem admitGang_spec (s : State) (l : Launch) (ts : List (Nat × Nat)) :
    .gangAdmission ∈ (admitGang s l ts).agenda ∧ ∀ x ∈ ts, ∃ c ∈ (admitGang s l ts).others, StartsParked l x.1 c := by
  refine ⟨List.mem_append_right _ (List.mem_singleton.mpr rfl), fun x hx => ?_⟩
  obtain ⟨c, hc, hstart⟩ := (admitTasks_others l ts (startRing s l ts)).2 x hx
  refine ⟨c, ?_, hstart⟩
  obtain ⟨-, -, hrole, -⟩ := hstart
  have hsame := preempted_parked (fun c => c.hdr.filler && (ts.map (·.2)).contains c.gunit) hrole
  unfold admitGang
  simp only [post]
  split
  · exact hc
  · rw [requestPreempt_eq]
    exact List.mem_map.mpr ⟨c, hc, hsame⟩

theorem exec_gangAdmission {s u : State} {l : Launch} {ts : List (Nat × Nat)} (hp : (pickGang s).found = some (l, ts))
    (hd : needsDisabled (markBubbles s (pickGang s).kept) l ts = false)
    (hu : firstAdmission (markBubbles s (pickGang s).kept) l = .ok u) : exec .gangAdmission s = .next (admitGang u l ts) := by
  show execGangAdmission s = _
  unfold execGangAdmission
  dsimp only
  rw [hp]
  dsimp only
  rw [hd, hu]
  rfl

/-! ## Ageing and routing (R399, R401, R452) -/

theorem exec_queueAgeing {s : State} {q : Nat} {x : WorkQueue} (hx : findQueue s q = some x) (hw : isWaiting s x = true)
    (ha : s.img.age.getD x.level 0 ≠ 0) (ht : s.img.age.getD x.level 0 * 100 ≤ x.waited) (hl : x.level < 7) :
    exec (.queueAgeing q) s = .next (updQueue s q fun y => { y with level := y.level + 1, waited := 0 }) := by
  show execQueueAgeing q s = _
  have h : isWaiting s x = true ∧ s.img.age.getD x.level 0 * 100 ≠ 0 ∧ x.waited ≥ s.img.age.getD x.level 0 * 100 ∧ x.level < 7 :=
    ⟨hw, by omega, ht, hl⟩
  simp only [execQueueAgeing, hx, if_pos h]

/-- R401: with no table to switch, the launch whose time has come is routed. -/
theorem exec_routerTableSwitch {s : State} {l : Launch} (hs : s.host.launches = [l]) (hr : l.routed = false)
    (h0 : 0 < l.readyAt) (ht : l.readyAt ≤ s.tick) (hp : s.cob.pendTables = []) (h16 : s.tick % 16 = 0) :
    exec .routerTableSwitch s = .next (routeLaunch { s with cob := { s.cob with tables := s.cob.tables ++ [], pendTables := [] } } l) := by
  have hdue : s.host.launches.filter (fun l => !l.routed && l.readyAt != 0 && decide (l.readyAt ≤ s.tick)) = [l] := by
    rw [hs]
    simp [hr, ht, Nat.ne_of_gt h0]
  show execRouterTableSwitch s = _
  simp only [execRouterTableSwitch, hdue, hp, List.filter_nil, List.any_nil, h16]
  rfl

/-- Settles O52: retirement, completion and admission by what their shared operations leave; ageing and routing directly. -/
theorem taskAndLaunchSteps : Obligations.TaskAndLaunchSteps := by
  unfold Obligations.TaskAndLaunchSteps
  refine ⟨fun s cid c l hc he hl hg => ?retires, fun s lid l q hl hd hq => ?completes,
    fun s u l ts hp hd hu => ⟨_, exec_gangAdmission hp hd hu, admitGang_spec u l ts⟩,
    fun s q x hx hw ha ht hl => ⟨_, exec_queueAgeing hx hw ha ht hl, ?ages, rfl, rfl⟩,
    fun s l hs hr h0 ht hp h16 => ⟨_, exec_routerTableSwitch hs hr h0 ht hp h16, ?routed, rfl⟩⟩
  case retires =>
    have hctx : (closePhase (focus s cid) 4).ctx = { c with closing := c.closing ++ [(c.openPh, 4)], openPh := c.openPh + 1 } := by
      rw [closePhase_ctx, focus_ctx hc]
    have hlive : (closePhase (focus s cid) 4).ctx.live = true := by rw [hctx]; exact (live_of_findCtx hc :)
    have hlaunch : findLaunch (closePhase (focus s cid) 4) c.lid = some l := by
      have : findLaunch (focus s cid) c.lid = some l := by rw [focus_frame]; exact hl
      exact this
    obtain ⟨hd, hacc, hlc⟩ := freeCtx_spec hlive
    rw [hctx] at hd hacc hlc
    refine ⟨_, exec_taskRetirement hc he hl hg, freeCtx_ctx _, ?_, hacc, ?_, freeCtx_agenda _⟩
    · simpa only [cid_of_findCtx hc] using hd
    · refine ⟨{ l with retired := l.retired + 1 }, ?_, rfl⟩
      rw [hlc, hlaunch]; rfl
  case completes =>
    obtain ⟨body, he⟩ := exec_launchCompletion hl hd
    rw [← lid_of_findLaunch hl] at he ⊢
    exact ⟨_, he, completeLaunch_spec (s := { s with free := s.free + 1 }) hq body⟩
  case ages => rw [findQueue_updQueue s q (by intro _; rfl), hx]; rfl
  case routed => simp [routeLaunch, updLaunch, hs, cdiv]

end Sys2Proof.Proofs
end

section
/-! PROOF. Local bytes: what a write of single bytes leaves at every key, and how values lie in bytes (R5, R80, R88). -/

namespace Sys2Proof.Proofs

open Sys2Proof.Machine
open Sys2Proof.Laws

/-! ## Values in bytes (R5) -/

theorem leNat_cons (b : Byte) (bs : List Byte) : leNat (b :: bs) = b.toNat + 256 * leNat bs := rfl

theorem leNat_lt (bs : List Byte) : leNat bs < 256 ^ bs.length := by
  induction bs with
  | nil => exact Nat.one_pos
  | cons b bs ih =>
    have := b.isLt
    rw [leNat_cons, List.length_cons, pow_succ]; omega

@[simp] theorem leBytes_length (n v : Nat) : (leBytes n v).length = n := by
  induction n generalizing v with
  | zero => rfl
  | succ n ih => simp [leBytes, ih]

theorem leNat_leBytes (n v : Nat) : leNat (leBytes n v) = v % 256 ^ n := by
  induction n generalizing v with
  | zero => simp [leBytes, leNat, Nat.mod_one]
  | succ n ih =>
    rw [leBytes, leNat_cons, ih, BitVec.toNat_ofNat, pow_succ' 256 n, Nat.mod_mul (a := 256)]

theorem leNat_append (a b : List Byte) : leNat (a ++ b) = leNat a + 256 ^ a.length * leNat b := by
  induction a with
  | nil => simp [leNat]
  | cons x a ih => rw [List.cons_append, leNat_cons, ih, leNat_cons, List.length_cons, pow_succ']; ring

/-! ## Reads after writes -/

@[simp] theorem memRead_length (m : Memory) (k n : Nat) : (memRead m k n).length = n := by simp [memRead]

theorem memRead_getD (m : Memory) (k : Nat) {n i : Nat} (h : i < n) : (memRead m k n).getD i 0 = memGet m (k + i) := by
  simp [memRead, List.getD_eq_getElem?_getD, h]

theorem memRead_add (m : Memory) (k a b : Nat) : memRead m k (a + b) = memRead m k a ++ memRead m (k + a) b := by
  simp [memRead, List.range_add, Nat.add_assoc]

/-- What was written is read back. -/
theorem memRead_memPut_same (m : Memory) (k : Nat) (bs : List Byte) : memRead (memPut m k bs) k bs.length = bs := by
  refine List.ext_getElem (by simp) fun i h1 h2 => ?_
  simp only [memRead, List.getElem_map, List.getElem_range]
  rw [memGet_memPut_in m (Nat.le_add_right k i) (by omega)]
  simp [h2]

/-! ## Writes of single bytes (R88, R90) -/

theorem mem_dedup {l : List Nat} {x : Nat} : x ∈ dedup l ↔ x ∈ l := by
  have h : ∀ (l acc : List Nat), x ∈ l.foldl (fun acc x => if acc.contains x then acc else x :: acc) acc ↔ x ∈ acc ∨ x ∈ l := by
    intro l
    induction l with
    | nil => simp
    | cons y l ih =>
      intro acc
      rw [List.foldl_cons, ih]
      by_cases hy : y ∈ acc
      · by_cases hx : x = y <;> simp [hy, hx]
      · simp [hy, or_assoc, or_left_comm]
  rw [dedup, List.mem_reverse, h]
  simp

/-- The write of one sector with some of its bytes replaced. -/
def putSector (cells : List (Nat × Byte)) (s : State) (k : Nat) : State :=
  let key := spadKey s.ctx.gunit (32 * k)
  let bs := (List.range 32).map fun i => overlay cells (spadByte s) (32 * k + i)
  markDirty { s with
    mem := memPut s.mem key bs
    synd := if coversSector cells k then synSet s.synd (key / 32) 0 else s.synd } (32 * k) 32

theorem putCells_eq (s : State) (cells : List (Nat × Byte)) : putCells s cells = (cellSectors cells).foldl (putSector cells) s := rfl

theorem spadKey_add (u a i : Nat) : spadKey u a + i = spadKey u (a + i) := by simp only [spadKey]; omega

theorem putSector_ctx (cells : List (Nat × Byte)) (s : State) (k : Nat) : (putSector cells s k).ctx = s.ctx := rfl

theorem memGet_putSector_in (cells : List (Nat × Byte)) (s : State) (x : Nat) :
    memGet (putSector cells s (x / 32)).mem (spadKey s.ctx.gunit x) = overlay cells (spadByte s) x := by
  have hmem : (putSector cells s (x / 32)).mem = memPut s.mem (spadKey s.ctx.gunit (32 * (x / 32)))
      ((List.range 32).map fun i => overlay cells (spadByte s) (32 * (x / 32) + i)) := rfl
  have hlt : x % 32 < 32 := Nat.mod_lt _ (by decide)
  have hx : spadKey s.ctx.gunit x = spadKey s.ctx.gunit (32 * (x / 32)) + x % 32 := by simp only [spadKey]; omega
  rw [hmem, hx, memGet_memPut_in s.mem (by omega) (by simpa using hlt), Nat.add_sub_cancel_left]
  simp only [List.getD_eq_getElem?_getD, List.getElem?_map, List.getElem?_range hlt, Option.map_some, Option.getD_some]
  rw [Nat.div_add_mod]

theorem memGet_putSector_out (cells : List (Nat × Byte)) (s : State) {k key : Nat}
    (h : ∀ x, key = spadKey s.ctx.gunit x → x / 32 ≠ k) : memGet (putSector cells s k).mem key = memGet s.mem key := by
  refine memGet_memPut_out s.mem ?_
  by_contra hc
  simp only [List.length_map, List.length_range, not_or, Nat.not_lt, Nat.not_le] at hc
  refine h (32 * k + (key - spadKey s.ctx.gunit (32 * k))) ?_ ?_
  · simp only [spadKey] at hc ⊢; omega
  · simp only [spadKey] at hc ⊢; omega

theorem overlay_overlay (cells : List (Nat × Byte)) (rd rd' : Nat → Byte) (x : Nat) (h : rd x = overlay cells rd' x) :
    overlay cells rd x = overlay cells rd' x := by
  unfold overlay at h ⊢
  cases hc : (cells.find? fun y => y.1 == x).map (·.2) with
  | none => rw [hc] at h; exact h
  | some b => rfl

/-- R88, R90: every byte of a touched sector is as the write and what stood there make it. -/
theorem memGet_putSectors (cells : List (Nat × Byte)) (ks : List Nat) (s : State) (x : Nat) :
    memGet (ks.foldl (putSector cells) s).mem (spadKey s.ctx.gunit x) =
      if x / 32 ∈ ks then overlay cells (spadByte s) x else spadByte s x := by
  induction ks generalizing s with
  | nil => rfl
  | cons k ks ih =>
    have hi := ih (putSector cells s k)
    rw [putSector_ctx] at hi
    rw [List.foldl_cons, hi]
    by_cases hk : x / 32 = k
    · have hin : spadByte (putSector cells s k) x = overlay cells (spadByte s) x := by
        rw [← hk]; exact memGet_putSector_in cells s x
      rw [if_pos (List.mem_cons.mpr (.inl hk)), overlay_overlay cells _ _ x hin, hin, ite_self]
    · have hout : spadByte (putSector cells s k) x = spadByte s x :=
        memGet_putSector_out cells s fun y hy => by
          have hxy : spadKey s.ctx.gunit x = spadKey s.ctx.gunit y := hy
          have : y = x := by simp only [spadKey] at hxy; omega
          rwa [this]
      have hov : overlay cells (spadByte (putSector cells s k)) x = overlay cells (spadByte s) x := by
        simp only [overlay, hout]
      simp only [hov, hout, List.mem_cons, hk, false_or]

/-- R88, R90: a write of single local bytes leaves each byte of the context's unit as the write makes it. -/
theorem memGet_putCells (s : State) (cells : List (Nat × Byte)) (x : Nat) :
    memGet (putCells s cells).mem (spadKey s.ctx.gunit x) = overlay cells (spadByte s) x := by
  rw [putCells_eq, memGet_putSectors]
  split
  · rfl
  · rename_i h
    have hnone : (cells.find? fun y => y.1 == x) = none := by
      rw [List.find?_eq_none]
      intro y hy hyx
      refine h (mem_dedup.mpr (List.mem_map.mpr ⟨y, hy, ?_⟩))
      rw [eq_of_beq hyx]
    rw [overlay, hnone]; rfl

/-- A write of single local bytes leaves what lies below its unit alone. -/
theorem memGet_putCells_below (s : State) (cells : List (Nat × Byte)) {key : Nat} (h : key < spadKey s.ctx.gunit 0) :
    memGet (putCells s cells).mem key = memGet s.mem key := by
  rw [putCells_eq]
  generalize cellSectors cells = ks
  induction ks generalizing s with
  | nil => rfl
  | cons k ks ih =>
    rw [List.foldl_cons, ih (putSector cells s k) h]
    exact memGet_putSector_out cells s fun x hx => absurd h (by simp only [spadKey] at hx ⊢; omega)

/-- R90: a write that covers no sector whole leaves the codes alone. -/
theorem putCells_synd (s : State) {cells : List (Nat × Byte)} (h : ∀ k, coversSector cells k = false) :
    (putCells s cells).synd = s.synd := by
  rw [putCells_eq]
  refine foldl_keeps State.synd (fun s k => ?_) _ s
  show (if coversSector cells k = true then _ else s.synd) = s.synd
  rw [h k]; rfl

/-- The bytes of a run. -/
theorem mem_runCells {a : Nat} {bs : List Byte} {y : Nat × Byte} :
    y ∈ runCells a bs ↔ ∃ i, i < bs.length ∧ y = (a + i, bs.getD i 0) := by
  simp [runCells, eq_comm]

theorem overlay_runCells_out {a x : Nat} {bs : List Byte} (rd : Nat → Byte) (h : x < a ∨ a + bs.length ≤ x) :
    overlay (runCells a bs) rd x = rd x := by
  have hnone : ((runCells a bs).find? fun y => y.1 == x) = none := by
    rw [List.find?_eq_none]
    intro y hy hyx
    obtain ⟨i, hi, rfl⟩ := mem_runCells.mp hy
    have : a + i = x := eq_of_beq hyx
    omega
  rw [overlay, hnone]; rfl

theorem overlay_runCells_in {a i : Nat} {bs : List Byte} (rd : Nat → Byte) (h : i < bs.length) :
    overlay (runCells a bs) rd (a + i) = bs.getD i 0 := by
  obtain ⟨y, hy⟩ := Option.isSome_iff_exists.mp
    ((List.find?_isSome (p := fun y : Nat × Byte => y.1 == a + i)).mpr ⟨_, mem_runCells.mpr ⟨i, h, rfl⟩, beq_self_eq_true _⟩)
  obtain ⟨j, -, rfl⟩ := mem_runCells.mp (List.mem_of_find?_eq_some hy)
  have hj : a + j = a + i := by simpa using List.find?_some hy
  have : j = i := by omega
  rw [overlay, hy, this]; rfl

/-- R90: two bytes are no whole sector. -/
theorem coversSector_two {a : Nat} {bs : List Byte} (h : bs.length = 2) (k : Nat) : coversSector (runCells a bs) k = false := by
  rw [Bool.eq_false_iff]
  intro hc
  have hbyte : ∀ i, i < 32 → ∃ j, j < 2 ∧ a + j = 32 * k + i := by
    intro i hi
    obtain ⟨y, hy, hyi⟩ := List.any_eq_true.mp (List.all_eq_true.mp hc i (List.mem_range.mpr hi))
    obtain ⟨j, hj, rfl⟩ := mem_runCells.mp hy
    exact ⟨j, h ▸ hj, eq_of_beq hyi⟩
  obtain ⟨j0, hj0, h0⟩ := hbyte 0 (by decide)
  obtain ⟨j2, hj2, h2⟩ := hbyte 2 (by decide)
  omega

end Sys2Proof.Proofs
end

section
/-! PROOF. The issue of an engine instruction: the swap of its shape registers (O40) and all that it leaves (O39). -/

namespace Sys2Proof.Proofs

open Sys2Proof.Machine
open Sys2Proof.Laws

/-! ## The swap (R29) -/

theorem shIdx_lt {e : Fin 4} (he : e.val < 3) (n : Fin 4) : shIdx e n < 12 := by unfold shIdx; omega

theorem shIdx_div (e n : Fin 4) : shIdx e n / 4 = e.val := by unfold shIdx; omega

/-- R25: an active shape register by its place among the twelve. -/
theorem getSh_eq (r : Regs) {e : Fin 4} (he : e.val < 3) (n : Fin 4) : getSh r e n = r.sh[shIdx e n]'(shIdx_lt he n) := by
  simp [getSh, List.getD_eq_getElem?_getD, shIdx_lt he n]

/-- R25: a shadow shape register by its place among the twelve. -/
theorem getSd_eq (r : Regs) {e : Fin 4} (he : e.val < 3) (n : Fin 4) : getSd r e n = r.sd[shIdx e n]'(shIdx_lt he n) := by
  simp [getSd, List.getD_eq_getElem?_getD, shIdx_lt he n]

theorem getSh_swapRegs_same (r : Regs) {e : Fin 4} (he : e.val < 3) (n : Fin 4) : getSh (swapRegs r e) e n = getSd r e n := by
  rw [getSh_eq _ he, getSd_eq _ he]
  simp [swapRegs, shIdx_div]

theorem getSd_swapRegs_same (r : Regs) {e : Fin 4} (he : e.val < 3) (n : Fin 4) : getSd (swapRegs r e) e n = getSh r e n := by
  rw [getSh_eq _ he, getSd_eq _ he]
  simp [swapRegs, shIdx_div]

theorem getSh_swapRegs_other (r : Regs) {e e' : Fin 4} (he : e'.val < 3) (hne : e' ≠ e) (n : Fin 4) :
    getSh (swapRegs r e) e' n = getSh r e' n := by
  rw [getSh_eq _ he, getSh_eq _ he]
  simp [swapRegs, shIdx_div, Fin.val_ne_of_ne hne]

theorem getSd_swapRegs_other (r : Regs) {e e' : Fin 4} (he : e'.val < 3) (hne : e' ≠ e) (n : Fin 4) :
    getSd (swapRegs r e) e' n = getSd r e' n := by
  rw [getSd_eq _ he, getSd_eq _ he]
  simp [swapRegs, shIdx_div, Fin.val_ne_of_ne hne]

/-- R29: the registers that an engine syllable's issue starts from. -/
def swappedRegs (s : State) (e : Fin 3) : Regs := if s.ctx.iss.sw = true then swapRegs s.ctx.r e.castSucc else s.ctx.r

/-- R29: the swap changes registers alone. -/
theorem swapped_eq (s : State) (e : Fin 3) : swapped s e = { s with ctx := { s.ctx with r := swappedRegs s e } } := by
  unfold swapped doSwap swappedRegs
  split <;> rfl

/-- R72: a register that names a format is captured as it stands. -/
theorem captured_eq (s : State) (e : Fin 3) (n : Fin 4) (h : (getSh s.ctx.r e.castSucc n).fmt ≠ 31) :
    captured s e n = getSh s.ctx.r e.castSucc n := by
  rw [captured, resolve]
  exact if_neg h

/-! ## What the completion of a record keeps (R31, R72) -/

/-- What no completion changes of a record. -/
structure RecordKept (k k' : Cmd) : Prop where
  eng : k'.op.eng = k.op.eng
  sr : k'.sr = k.sr
  ga : k'.ga = k.ga
  gb : k'.gb = k.gb
  issue : k'.issue = k.issue
  pc : k'.pc = k.pc
  state : k'.state = k.state
  nominal : k'.nominal = k.nominal

/-- R267: at most one latch, of a promise, at +2. -/
def PromiseLatch (c : Ctx) (ls : List Latch) : Prop := ls.length ≤ 1 ∧ ∀ l ∈ ls, l.due = c.now + 2 ∧ ∃ n, l.dest = .pm n

/-- What a completion leaves of the state, its claims and its memory aside. -/
structure IssueKept (u t : State) : Prop where
  ctx : t.ctx = { u.ctx with latches := t.ctx.latches, claims := t.ctx.claims, colls := t.ctx.colls }
  net : t.net = u.net
  host : t.host = u.host
  agenda : t.agenda = u.agenda
  others : t.others = u.others
  synd : t.synd = u.synd
  acc : t.acc = u.acc
  asyn : t.asyn = u.asyn
  img : t.img = u.img
  latches : ∃ ls, t.ctx.latches = u.ctx.latches ++ ls ∧ PromiseLatch u.ctx ls

/-- What a completion that claims nothing keeps besides. -/
def StoreKept (u t : State) : Prop := t.mem = u.mem ∧ t.ctx.claims = u.ctx.claims

/-- The completion of a form whose record has `op`. -/
structure Completes (op : CmdOp) (u : State) (k : Cmd) (x : State × Cmd) : Prop where
  record : RecordKept k x.2
  state : IssueKept u x.1
  colls : (∀ o, op ≠ .coll o) → x.1.ctx.colls = u.ctx.colls

theorem promiseLatch_nil (c : Ctx) : PromiseLatch c [] := ⟨Nat.zero_le 1, fun _ h => absurd h List.not_mem_nil⟩

theorem issueKept_self (u : State) : IssueKept u u :=
  ⟨rfl, rfl, rfl, rfl, rfl, rfl, rfl, rfl, rfl, [], (List.append_nil _).symm, promiseLatch_nil _⟩

/-- A completion of the record alone. -/
theorem completes_record {op : CmdOp} {u : State} {k k' : Cmd} (h : RecordKept k k') : Completes op u k (u, k') :=
  ⟨h, issueKept_self u, fun _ => rfl⟩

theorem recordKept_rfl (k : Cmd) : RecordKept k k := ⟨rfl, rfl, rfl, rfl, rfl, rfl, rfl, rfl⟩

/-- R267: a promise adds its latch, where the command has one. -/
theorem completes_promise (op : CmdOp) (u : State) {k k' : Cmd} (h : RecordKept k k') (n : Nat) :
    Completes op u k (promise u k' n) ∧ StoreKept u (promise u k' n).1 := by
  obtain ⟨eng, sr, ga, gb, issue, pc, state, nominal⟩ := h
  unfold promise
  split
  · exact ⟨completes_record ⟨eng, sr, ga, gb, issue, pc, state, nominal⟩, rfl, rfl⟩
  · exact ⟨⟨⟨eng, sr, ga, gb, issue, pc, state, nominal⟩, ⟨rfl, rfl, rfl, rfl, rfl, rfl, rfl, rfl, rfl, [_], rfl, by simp,
      by simp [newLatch]⟩, fun _ => rfl⟩, rfl, rfl⟩

/-! ## The forms one by one -/

/-- What completes the record of a form claims no queue, and keeps what every issue keeps. -/
def CompletesPlainly (f : EForm) : Prop :=
  ∀ u k, k.op = f.op → Completes f.op u k (f.fin u k) ∧ StoreKept u (f.fin u k).1

/-- A form whose completion changes its record alone. -/
theorem completesPlainly_record {f : EForm} (h : ∀ u k, k.op = f.op → ∃ k', f.fin u k = (u, k') ∧ RecordKept k k') :
    CompletesPlainly f := by
  intro u k hk
  obtain ⟨k', hf, hr⟩ := h u k hk
  rw [hf]
  exact ⟨completes_record hr, rfl, rfl⟩

theorem vArithForm_completes {s : State} {i : Instr} {f : EForm} (h : vArithForm s i = some f) : CompletesPlainly f := by
  unfold vArithForm at h
  split at h <;> cases h <;>
    exact completesPlainly_record fun _ _ _ => ⟨_, rfl, rfl, rfl, rfl, rfl, rfl, rfl, rfl, rfl⟩

theorem vBitForm_completes {s : State} {i : Instr} {f : EForm} (h : vBitForm s i = some f) : CompletesPlainly f := by
  unfold vBitForm at h
  split at h <;> cases h <;>
    exact completesPlainly_record fun _ _ _ => ⟨_, rfl, rfl, rfl, rfl, rfl, rfl, rfl, rfl, rfl⟩

/-- R240: the record of a chain names its words; its engine stays V. -/
theorem chain_completes {f : EForm} {ops : State → Cmd → List ChainOp} (hop : f.op = .chain [])
    (hf : f.fin = fun s c => (s, { c with op := .chain (ops s c) })) : CompletesPlainly f :=
  completesPlainly_record fun u k hk => ⟨{ k with op := .chain (ops u k) }, by rw [hf], by rw [hk, hop]; rfl, rfl, rfl, rfl, rfl, rfl, rfl, rfl⟩

theorem vWholeForm_completes {s : State} {i : Instr} {f : EForm} (h : vWholeForm s i = some f) (hc : claims i = false) :
    CompletesPlainly f := by
  unfold vWholeForm at h
  split at h <;> cases h
  case h_18 => cases hc
  case h_19 => cases hc
  case h_21 => exact chain_completes rfl rfl
  all_goals exact completesPlainly_record fun _ _ _ => ⟨_, rfl, rfl, rfl, rfl, rfl, rfl, rfl, rfl, rfl⟩

theorem xForm_completes {s : State} {i : Instr} {f : EForm} (h : xForm s i = some f) : CompletesPlainly f := by
  unfold xForm at h
  split at h
  case h_8 | h_9 =>
    split at h <;> cases h
    exact completesPlainly_record fun _ _ _ => ⟨_, rfl, rfl, rfl, rfl, rfl, rfl, rfl, rfl, rfl⟩
  all_goals
    cases h
    all_goals exact completesPlainly_record fun _ _ _ => ⟨_, rfl, rfl, rfl, rfl, rfl, rfl, rfl, rfl, rfl⟩

/-- A form that promises the bytes it moves (R267). -/
theorem completesPlainly_promise {f : EForm} {g : Cmd → Cmd} {n : State → Cmd → Nat} (hf : ∀ u k, f.fin u k = promise u (g k) (n u k))
    (hg : ∀ k, RecordKept k (g k)) : CompletesPlainly f := by
  intro u k _
  rw [hf]
  exact completes_promise f.op u (hg k) _

/-- R280: a COLL counts the COLLs of its level, and promises its result. -/
theorem collForm_completes (s : State) (op : Fin 4) (a : Fin 32) (k : Fin 8) : CompletesPlainly (collForm s op a k) := by
  intro u c hc
  obtain ⟨cs, c', n, hf, hr⟩ : ∃ (cs : Ctx → List (Nat × Nat)) (c' : Cmd) (n : Nat),
      (collForm s op a k).fin u c = promise (u.up fun x => { x with colls := cs x }) c' n ∧ RecordKept c c' :=
    ⟨_, _, _, rfl, rfl, rfl, rfl, rfl, rfl, rfl, rfl, rfl⟩
  rw [hf]
  obtain ⟨⟨hrec, hst, -⟩, hkept⟩ := completes_promise (collForm s op a k).op (u.up fun x => { x with colls := cs x }) hr n
  exact ⟨⟨hrec, ⟨hst.ctx, hst.net, hst.host, hst.agenda, hst.others, hst.synd, hst.acc, hst.asyn, hst.img, hst.latches⟩,
    fun h => absurd rfl (h op)⟩, hkept⟩

theorem cForm_completes {s : State} {i : Instr} {f : EForm} (h : cForm s i = some f) : CompletesPlainly f := by
  unfold cForm at h
  split at h <;> cases h
  case h_6 | h_10 | h_11 | h_33 | h_34 | h_35 | h_36 | h_38 | h_39 | h_40 =>
    exact completesPlainly_record fun _ _ _ => ⟨_, rfl, rfl, rfl, rfl, rfl, rfl, rfl, rfl, rfl⟩
  case h_29 | h_30 | h_31 | h_32 => exact collForm_completes _ _ _ _
  case h_37 =>
    exact fun u k _ => ⟨⟨⟨rfl, rfl, rfl, rfl, rfl, rfl, rfl, rfl⟩,
      ⟨rfl, rfl, rfl, rfl, rfl, rfl, rfl, rfl, rfl, [], (List.append_nil _).symm, promiseLatch_nil _⟩, fun _ => rfl⟩, rfl, rfl⟩
  all_goals
    exact completesPlainly_promise (fun _ _ => rfl) fun _ => ⟨rfl, rfl, rfl, rfl, rfl, rfl, rfl, rfl⟩

/-- Every engine instruction but VPUSH and VPOP completes its record plainly. -/
theorem engineForm_completes {s : State} {i : Instr} {f : EForm} (h : engineForm s i = some f) (hc : claims i = false) :
    CompletesPlainly f := by
  simp only [engineForm, vForm, Option.or_eq_some_iff] at h
  rcases h with (h | ⟨-, h | ⟨-, h⟩⟩) | ⟨-, h | ⟨-, h⟩⟩
  · exact vArithForm_completes h
  · exact vBitForm_completes h
  · exact vWholeForm_completes h hc
  · exact xForm_completes h
  · exact cForm_completes h

/-! ## The claim of a queue (R96, R97, R99) -/

theorem engineForm_vpush {s : State} {x : Fin 32} {f : EForm} (h : engineForm s (.vpush x) = some f) :
    f = queueForm s .push [⟨1, false, wideFmts⟩, ⟨2, false, [20]⟩] (fun sh => some (sh 1).f) (some true) x 0 :=
  (Option.some.inj h).symm

theorem engineForm_vpop {s : State} {x y : Fin 32} {f : EForm} (h : engineForm s (.vpop x y) = some f) :
    f = queueForm s .pop [⟨0, true, grpNoBit⟩] (fun sh => some (sh 0).f) (some false) x y :=
  (Option.some.inj h).symm

/-- The context that a side of a queue is claimed by. -/
def QWord.claimant (q : QWord) (push : Bool) : Nat := if push then q.pctx else q.cctx

/-- R97: a context notes that it has claimed a queue. -/
def addClaim (a : Nat) (c : Ctx) : Ctx := if c.claims.contains a then c else { c with claims := c.claims ++ [a] }

/-- R96, R99: the two bytes that a claim writes. -/
def claimCells (s : State) (a : Nat) (push : Bool) : List (Nat × Byte) :=
  runCells (a + 1) (claimBytes s a push s.ctx.ctxno)

theorem claimQ_held {s : State} {a : Nat} {push : Bool} (h : QWord.claimant (readQ s a) push ≠ 15) : claimQ s a push = s :=
  if_pos h

theorem claimQ_free {s : State} {a : Nat} {push : Bool} (h : QWord.claimant (readQ s a) push = 15) :
    claimQ s a push = (putCells (noteQ s a) (claimCells s a push)).up (addClaim a) :=
  if_neg (not_not_intro h)

theorem addClaim_eq (a : Nat) (c : Ctx) : addClaim a c = { c with claims := (addClaim a c).claims } := by
  unfold addClaim; split <;> rfl

theorem mem_addClaim {a n : Nat} {c : Ctx} : n ∈ (addClaim a c).claims ↔ n ∈ c.claims ∨ n = a := by
  unfold addClaim
  split
  · rename_i h
    exact ⟨.inl, fun h' => h'.elim id fun e => e ▸ List.contains_iff_mem.mp h⟩
  · simp

/-- A state in which the context at hand has only other claims. -/
theorem issueKept_claims {u t : State} {cl : List Nat} (hctx : t.ctx = { u.ctx with claims := cl })
    (h : (t.synd, t.net, t.host, t.agenda, t.others, t.acc, t.asyn, t.img) =
      (u.synd, u.net, u.host, u.agenda, u.others, u.acc, u.asyn, u.img)) : IssueKept u t := by
  simp only [Prod.mk.injEq] at h
  obtain ⟨synd, net, host, agenda, others, acc, asyn, img⟩ := h
  refine ⟨?_, net, host, agenda, others, synd, acc, asyn, img, [], ?_, promiseLatch_nil _⟩ <;> rw [hctx]
  rw [List.append_nil]

section
variable (s : State) (a : Nat) (push : Bool)

/-- The claim's write changes none of what is no memory. -/
theorem claimWrite_keeps {β : Type} (p : State → β) (hp : ∀ (s : State) m y d, p { s with mem := m, synd := y, dirty := d } = p s) :
    p (putCells (noteQ s a) (claimCells s a push)) = p (noteQ s a) := putCells_keeps p hp _ _

theorem claimWrite_ctx : (putCells (noteQ s a) (claimCells s a push)).ctx = s.ctx := claimWrite_keeps s a push State.ctx fun _ _ _ _ => rfl

theorem claimWrite_synd : (putCells (noteQ s a) (claimCells s a push)).synd = s.synd :=
  putCells_synd (noteQ s a) fun k => coversSector_two (leBytes_length 2 _) k

/-- What a claim keeps of the state. -/
theorem claimQ_kept : IssueKept s (claimQ s a push) ∧ (claimQ s a push).ctx.colls = s.ctx.colls := by
  by_cases h : QWord.claimant (readQ s a) push = 15
  · have hctx : (claimQ s a push).ctx = { s.ctx with claims := (addClaim a s.ctx).claims } := by
      rw [claimQ_free h, up_ctx, claimWrite_ctx]
      exact addClaim_eq a s.ctx
    refine ⟨issueKept_claims hctx ?_, by rw [hctx]⟩
    rw [claimQ_free h]
    exact Prod.ext_iff.mpr ⟨claimWrite_synd s a push, claimWrite_keeps s a push
      (fun t => (t.net, t.host, t.agenda, t.others, t.acc, t.asyn, t.img)) fun _ _ _ _ => rfl⟩
  · rw [claimQ_held h]
    exact ⟨issueKept_self s, rfl⟩

/-- R97, R99: the claims of a context after it has claimed a queue, or found it claimed. -/
theorem claimQ_claims : (∀ n ∈ s.ctx.claims, n ∈ (claimQ s a push).ctx.claims) ∧
    ∀ n ∈ (claimQ s a push).ctx.claims, n ∈ s.ctx.claims ∨ n = a := by
  by_cases h : QWord.claimant (readQ s a) push = 15
  · have hctx : (claimQ s a push).ctx = addClaim a s.ctx := by rw [claimQ_free h, up_ctx, claimWrite_ctx]
    rw [hctx]
    exact ⟨fun n hn => mem_addClaim.mpr (.inl hn), fun n hn => mem_addClaim.mp hn⟩
  · rw [claimQ_held h]
    exact ⟨fun _ hn => hn, fun _ hn => .inl hn⟩

/-- R90, R99: a claim writes the two bytes that hold the claims of its queue, and no other byte. -/
theorem claimQ_mem_out {k : Nat} (hk : k < spadKey s.ctx.gunit (a + 1) ∨ spadKey s.ctx.gunit (a + 1) + 2 ≤ k) :
    memGet (claimQ s a push).mem k = memGet s.mem k := by
  by_cases h : QWord.claimant (readQ s a) push = 15
  · rw [claimQ_free h, State_up_mem]
    by_cases hlo : k < spadKey s.ctx.gunit 0
    · exact memGet_putCells_below (noteQ s a) _ hlo
    · obtain ⟨x, rfl⟩ : ∃ x, k = spadKey s.ctx.gunit x := ⟨k - spadKey s.ctx.gunit 0, by simp only [spadKey] at hlo ⊢; omega⟩
      refine (memGet_putCells (noteQ s a) _ x).trans (overlay_runCells_out _ ?_)
      simp only [claimBytes, leBytes_length]
      simp only [spadKey] at hk
      omega
  · rw [claimQ_held h]

/-- R96, R99: the claim's field of the control word, as it stands after the claim. -/
theorem claimBytes_value {n : Nat} (hn : n < 16) : ∃ w, leNat (claimBytes s a push n) = w ∧ w < 65536 ∧
    w / (if push then 512 else 32) % 16 = n := by
  have hv := leNat_lt (spadRead s (a + 1) 2)
  rw [spadRead, memRead_length] at hv
  refine ⟨_, rfl, ?_, ?_⟩ <;> rw [claimBytes, leNat_leBytes, spadRead] <;> cases push <;> simp only [if_true, if_false, Bool.false_eq_true] <;> omega

/-- R96: the fields that hold the claims lie in the second and third bytes of a control word. -/
theorem ofNat_claimant (m : Memory) (k : Nat) (push : Bool) : QWord.claimant (QWord.ofNat (leNat (memRead m k 32))) push =
    leNat (memRead m (k + 1) 2) / (if push then 512 else 32) % 16 := by
  have hsplit : memRead m k 32 = memRead m k 1 ++ (memRead m (k + 1) 2 ++ memRead m (k + 1 + 2) 29) := by
    rw [← memRead_add, ← memRead_add]
  have h1 := leNat_lt (memRead m k 1)
  have h2 := leNat_lt (memRead m (k + 1) 2)
  rw [hsplit, leNat_append, leNat_append]
  simp only [memRead_length] at h1 h2 ⊢
  cases push <;> simp only [QWord.claimant, QWord.ofNat, if_true, if_false, Bool.false_eq_true] <;> omega

/-- R97, R99: an unclaimed side of a queue is the context's afterwards. -/
theorem claimQ_takes (hn : s.ctx.ctxno < 16) (h : QWord.claimant (readQ s a) push = 15) :
    QWord.claimant (QWord.ofNat (leNat (memRead (claimQ s a push).mem (spadKey s.ctx.gunit a) 32))) push = s.ctx.ctxno ∧
      a ∈ (claimQ s a push).ctx.claims := by
  obtain ⟨w, hw, -, hq⟩ := claimBytes_value s a push hn
  have hbytes : memRead (claimQ s a push).mem (spadKey s.ctx.gunit a + 1) 2 = claimBytes s a push s.ctx.ctxno := by
    refine List.ext_getElem (by simp [claimBytes]) fun i hi hi' => ?_
    have hb := (memGet_putCells (noteQ s a) (claimCells s a push) (a + 1 + i)).trans (overlay_runCells_in _ hi')
    simp only [memRead, List.getElem_map, List.getElem_range, claimQ_free h, State_up_mem]
    rw [spadKey_add, spadKey_add]
    refine hb.trans ?_
    simp [hi']
  rw [ofNat_claimant, hbytes, hw]
  refine ⟨hq, ?_⟩
  rw [claimQ_free h, up_ctx, claimWrite_ctx]
  exact mem_addClaim.mpr (.inr rfl)

end

end Sys2Proof.Proofs
end

section
/-! PROOF. What the issue of an engine instruction leaves (O39), and its swap (O40). -/

namespace Sys2Proof.Proofs

open Sys2Proof.Machine
open Sys2Proof.Laws

/-! ## The state and the record that an issue starts from -/

/-- R29, R31: the state in which an engine instruction captures its record. -/
def issueState (s : State) (f : EForm) : State :=
  { swapped s f.op.eng with fresh := (swapped s f.op.eng).fresh + 1 }

/-- R31, R72: the record as captured, before the instruction completes it. -/
def issueRecord (s : State) (f : EForm) : Cmd :=
  newCmd (swapped s f.op.eng) f.op (captured (swapped s f.op.eng) f.op.eng) f.ga f.gb f.aux 0 f.dst

theorem cmd_eq (s : State) (f : EForm) : f.cmd s = f.fin (issueState s f) (issueRecord s f) := rfl

theorem issueState_eq (s : State) (f : EForm) : issueState s f =
    { s with ctx := { s.ctx with r := swappedRegs s f.op.eng }, fresh := s.fresh + 1 } := by
  rw [issueState, swapped_eq]

theorem issueRecord_fields (s : State) (f : EForm) :
    (issueRecord s f).ga = f.ga ∧ (issueRecord s f).gb = f.gb ∧ (issueRecord s f).issue = s.ctx.now ∧
      (issueRecord s f).pc = s.ctx.iss.pc ∧ (issueRecord s f).state = .queued ∧
      (issueRecord s f).nominal = (if s.ctx.iss.tm = true then (rdG s s.ctx.iss.b).toNat % 2 ^ 48 else s.ctx.now) := by
  have hg : ∀ n, rdG (swapped s f.op.eng) n = rdG s n := fun n => by
    rw [swapped_eq]
    unfold rdG swappedRegs
    dsimp only
    split_ifs <;> rfl
  refine ⟨rfl, rfl, ?_, ?_, rfl, ?_⟩
  · rw [issueRecord, swapped_eq]; rfl
  · rw [issueRecord, swapped_eq]; rfl
  · show nominalStart (swapped s f.op.eng) = _
    rw [nominalStart, hg, swapped_eq]
    rfl

theorem issueRecord_sh (s : State) (f : EForm) (n : Fin 4) :
    (issueRecord s f).sh n = captured (swapped s f.op.eng) f.op.eng n := by
  simp [issueRecord, Cmd.sh, newCmd]

/-! ## The completion of any form -/

theorem claims_iff (i : Instr) : claims i = true ↔ (∃ x, i = .vpush x) ∨ ∃ x y, i = .vpop x y := by
  unfold claims
  split <;> simp_all

/-- R97: the completion of VPUSH and VPOP is the claim of their side. -/
theorem engineForm_claims {s : State} {i : Instr} {f : EForm} (h : engineForm s i = some f) (hc : claims i = true) :
    ∃ push, f.fin = fun u k => (claimQ u k.ga.toNat push, k) := by
  rcases (claims_iff i).mp hc with ⟨x, rfl⟩ | ⟨x, y, rfl⟩
  · exact ⟨true, by rw [engineForm_vpush h]; rfl⟩
  · exact ⟨false, by rw [engineForm_vpop h]; rfl⟩

theorem engineForm_issue {s : State} {i : Instr} {f : EForm} (h : engineForm s i = some f) :
    Completes f.op (issueState s f) (issueRecord s f) (f.cmd s) := by
  rw [cmd_eq]
  cases hc : claims i with
  | false => exact (engineForm_completes h hc _ _ rfl).1
  | true =>
    obtain ⟨push, hf⟩ := engineForm_claims h hc
    obtain ⟨hst, hco⟩ := claimQ_kept (issueState s f) (issueRecord s f).ga.toNat push
    rw [hf]
    exact ⟨recordKept_rfl _, hst, fun _ => hco⟩

/-! ## The entry in the queue (R344, R424) -/

/-- A context with what an issue changes of it, its queues aside. -/
def issuedCtx (c : Ctx) (r : Regs) (ls : List Latch) (cl : List Nat) (co : List (Nat × Nat)) : Ctx :=
  { c with r := r, latches := ls, claims := cl, colls := co }

theorem charge_issuedCtx (c : Ctx) (r : Regs) (ls : List Latch) (cl : List Nat) (co : List (Nat × Nat)) (pj : Nat) :
    (issuedCtx c r ls cl co).charge pj true = issuedCtx (c.charge pj true) r ls cl co := by
  unfold Ctx.charge issuedCtx
  dsimp only
  split_ifs <;> rfl

theorem queue_issuedCtx (c : Ctx) (r : Regs) (ls : List Latch) (cl : List Nat) (co : List (Nat × Nat)) (e : Fin 3) :
    (issuedCtx c r ls cl co).queue e = c.queue e := by
  unfold Ctx.queue; split <;> rfl

theorem queue_charge (c : Ctx) (pj : Nat) (e : Fin 3) : (c.charge pj true).queue e = c.queue e := by
  unfold Ctx.charge Ctx.queue
  dsimp only
  split <;> split_ifs <;> rfl

theorem setQueue_eq (c : Ctx) (e : Fin 3) (q : List Cmd) : c.setQueue e q =
    { c with vq := (c.setQueue e q).vq, xq := (c.setQueue e q).xq, cq := (c.setQueue e q).cq } := by
  unfold Ctx.setQueue; split <;> rfl

theorem queue_setQueue (c : Ctx) (e e' : Fin 3) (q : List Cmd) :
    (c.setQueue e q).queue e' = if e' = e then q else c.queue e' := by
  unfold Ctx.setQueue Ctx.queue
  match e, e' with
  | 0, 0 | 1, 1 | 2, 2 | 0, 1 | 0, 2 | 1, 0 | 1, 2 | 2, 0 | 2, 1 => rfl

/-- R344, R424: the context after an issue: its record is the last of its engine's queue. -/
theorem next_ctx {s : State} {i : Instr} {f : EForm} (h : engineForm s i = some f) : (f.next s).ctx =
    (issuedCtx (s.ctx.charge (weight s 5) true) (swappedRegs s f.op.eng) (f.cmd s).1.ctx.latches (f.cmd s).1.ctx.claims
      (f.cmd s).1.ctx.colls).setQueue f.op.eng (s.ctx.queue f.op.eng ++ [(f.cmd s).2]) := by
  obtain ⟨hrec, hst, -⟩ := engineForm_issue h
  have heng : (f.cmd s).2.op.eng = f.op.eng := hrec.eng
  have hctx : (f.cmd s).1.ctx = issuedCtx s.ctx (swappedRegs s f.op.eng) (f.cmd s).1.ctx.latches (f.cmd s).1.ctx.claims
      (f.cmd s).1.ctx.colls := by
    have := hst.ctx
    rw [issueState_eq] at this
    exact this
  have hw : weight (f.cmd s).1 5 = weight s 5 := by
    have himg := hst.img
    rw [issueState_eq] at himg
    rw [weight, himg]; rfl
  have hnext : (f.next s).ctx = ((f.cmd s).1.ctx.charge (weight (f.cmd s).1 5) true).setQueue (f.cmd s).2.op.eng
      (((f.cmd s).1.ctx.charge (weight (f.cmd s).1 5) true).queue (f.cmd s).2.op.eng ++ [(f.cmd s).2]) := rfl
  rw [hnext, heng, hw, queue_charge]
  rw [hctx, charge_issuedCtx, queue_issuedCtx]
  rfl

section
variable {s : State} {i : Instr} {f : EForm} (h : engineForm s i = some f)
include h

theorem next_frame : (f.next s).ctx = { s.ctx.charge (weight s 5) true with
    r := (f.next s).ctx.r, latches := (f.next s).ctx.latches, vq := (f.next s).ctx.vq, xq := (f.next s).ctx.xq
    cq := (f.next s).ctx.cq, claims := (f.next s).ctx.claims, colls := (f.next s).ctx.colls } := by
  rw [next_ctx h, setQueue_eq]
  rfl

theorem next_r : (f.next s).ctx.r = swappedRegs s f.op.eng := by
  rw [next_ctx h, setQueue_eq]; rfl

theorem next_latches : (f.next s).ctx.latches = (f.cmd s).1.ctx.latches := by
  rw [next_ctx h, setQueue_eq]; rfl

theorem next_claims : (f.next s).ctx.claims = (f.cmd s).1.ctx.claims := by
  rw [next_ctx h, setQueue_eq]; rfl

theorem next_colls : (f.next s).ctx.colls = (f.cmd s).1.ctx.colls := by
  rw [next_ctx h, setQueue_eq]; rfl

theorem next_queue (e : Fin 3) : (f.next s).ctx.queue e =
    if e = f.op.eng then s.ctx.queue f.op.eng ++ [(f.cmd s).2] else s.ctx.queue e := by
  rw [next_ctx h, queue_setQueue, queue_issuedCtx, queue_charge]

/-- R29: the registers after an issue whose syllable swaps. -/
theorem next_shapes (hsw : s.ctx.iss.sw = true) (n : Fin 4) :
    getSh (f.next s).ctx.r f.op.eng.castSucc n = getSd s.ctx.r f.op.eng.castSucc n ∧
    getSd (f.next s).ctx.r f.op.eng.castSucc n = getSh s.ctx.r f.op.eng.castSucc n ∧
    ((getSd s.ctx.r f.op.eng.castSucc n).fmt ≠ 31 → (f.cmd s).2.sh n = getSd s.ctx.r f.op.eng.castSucc n) ∧
    ∀ e' : Fin 4, e'.val < 3 → e' ≠ f.op.eng.castSucc →
      getSh (f.next s).ctx.r e' n = getSh s.ctx.r e' n ∧ getSd (f.next s).ctx.r e' n = getSd s.ctx.r e' n := by
  have he : f.op.eng.castSucc.val < 3 := f.op.eng.isLt
  have hr : swappedRegs s f.op.eng = swapRegs s.ctx.r f.op.eng.castSucc := if_pos hsw
  rw [next_r h, hr]
  refine ⟨getSh_swapRegs_same _ he n, getSd_swapRegs_same _ he n, fun hf => ?_,
    fun e' h3 hne => ⟨getSh_swapRegs_other _ h3 hne n, getSd_swapRegs_other _ h3 hne n⟩⟩
  have hsw : getSh (swapped s f.op.eng).ctx.r f.op.eng.castSucc n = getSd s.ctx.r f.op.eng.castSucc n := by
    rw [swapped_eq]
    exact hr ▸ getSh_swapRegs_same _ he n
  have hsh : (f.cmd s).2.sh n = (issueRecord s f).sh n := congrArg (·[n]) (engineForm_issue h).record.sr
  rw [hsh, issueRecord_sh, captured_eq _ _ _ (hsw ▸ hf), hsw]

end

/-- Settles O40: the issue takes its record from the swapped registers; one that does not act is idle. -/
theorem swapExchangesShapes : Obligations.SwapExchangesShapes := by
  unfold Obligations.SwapExchangesShapes
  intro s i f h hsw
  refine ⟨fun hr => ⟨f.next s, (f.cmd s).2, ?_, ?_, next_shapes h hsw⟩, fun ha => ⟨idle s, ?_, charge_ctx_r s _⟩⟩
  · rw [engineForm_exec s i f h, engineOp_runs s f hr]
  · rw [next_queue h, if_pos rfl]
  · rw [engineForm_exec s i f h, engineOp_idle s f ha]

/-! ## Memory and claims after an issue (R96, R97, R99) -/

theorem next_mem (s : State) (f : EForm) : (f.next s).mem = (f.cmd s).1.mem := rfl

/-- The queues that a context claims, and its unit, are not what its issue swaps. -/
theorem issueState_kept (s : State) (f : EForm) : (issueState s f).mem = s.mem ∧ (issueState s f).ctx.gunit = s.ctx.gunit ∧
    (issueState s f).ctx.claims = s.ctx.claims ∧ (issueState s f).ctx.ctxno = s.ctx.ctxno ∧
    ∀ a, readQ (issueState s f) a = readQ s a := by
  rw [issueState_eq]
  exact ⟨rfl, rfl, rfl, rfl, fun _ => rfl⟩

section
variable {s : State} {i : Instr} {f : EForm} (h : engineForm s i = some f)
include h

/-- R97: what an issue leaves of memory and of the claims. -/
theorem next_claimed : (claims i = false → (f.next s).mem = s.mem ∧ (f.next s).ctx.claims = s.ctx.claims) ∧
    (∀ n, n ∈ s.ctx.claims → n ∈ (f.next s).ctx.claims) ∧
    (∀ n, n ∈ (f.next s).ctx.claims → n ∈ s.ctx.claims ∨ n = f.ga.toNat) ∧
    ∀ k, (k < spadKey s.ctx.gunit (f.ga.toNat + 1) ∨ spadKey s.ctx.gunit (f.ga.toNat + 1) + 2 ≤ k) →
      memGet (f.next s).mem k = memGet s.mem k := by
  obtain ⟨hmem, hunit, hclaims, -, -⟩ := issueState_kept s f
  rw [next_claims h, next_mem, cmd_eq, ← hmem, ← hclaims, ← hunit]
  cases hc : claims i with
  | false =>
    obtain ⟨-, hm, hcl⟩ := engineForm_completes h hc (issueState s f) (issueRecord s f) rfl
    rw [hm, hcl]
    exact ⟨fun _ => ⟨rfl, rfl⟩, fun _ hn => hn, fun _ hn => .inl hn, fun _ _ => rfl⟩
  | true =>
    obtain ⟨push, hf⟩ := engineForm_claims h hc
    obtain ⟨hsup, hsub⟩ := claimQ_claims (issueState s f) f.ga.toNat push
    rw [hf]
    exact ⟨fun h => absurd h (by decide), hsup, hsub, fun k hk => claimQ_mem_out (issueState s f) f.ga.toNat push hk⟩

/-- R97, R99: an unclaimed side is taken by the instruction that claims it. -/
theorem next_takes {push : Bool} (hf : f.fin = fun u k => (claimQ u k.ga.toNat push, k)) (hn : s.ctx.ctxno < 16)
    (hq : QWord.claimant (readQ s f.ga.toNat) push = 15) :
    QWord.claimant (QWord.ofNat (leNat (spadRead (f.next s) f.ga.toNat 32))) push = s.ctx.ctxno ∧
      f.ga.toNat ∈ (f.next s).ctx.claims := by
  obtain ⟨-, hunit, -, hno, hread⟩ := issueState_kept s f
  have hg : (f.next s).ctx.gunit = s.ctx.gunit := by
    rw [next_frame h]
    unfold Ctx.charge
    dsimp only
    split_ifs <;> rfl
  rw [spadRead, hg, next_claims h, next_mem, cmd_eq, hf, ← hunit, ← hno]
  exact claimQ_takes (issueState s f) f.ga.toNat push (hno ▸ hn) (by rw [hread]; exact hq)

end

/-- Settles O39: the frame of the issue, its record and its latch, and what the claim of a queue leaves of memory. -/
theorem engineIssueLeaves : Obligations.EngineIssueLeaves := by
  unfold Obligations.EngineIssueLeaves
  intro s i f h hruns
  obtain ⟨hrec, hst, hcolls⟩ := engineForm_issue h
  obtain ⟨hga, hgb, hissue, hpc, hstate, hnom⟩ := issueRecord_fields s f
  obtain ⟨hplain, hsup, hsub, hout⟩ := next_claimed h
  obtain ⟨ls, hls, hlen, hdue⟩ := hst.latches
  rw [issueState_eq] at hst hls hdue hcolls
  refine ⟨next_frame h, next_r h, hst.net, hst.host, hst.agenda, hst.others, fun e' he => ?_,
    ⟨(f.cmd s).2, ?_, hrec.ga.trans hga, hrec.gb.trans hgb, hrec.issue.trans hissue, hrec.pc.trans hpc,
      hrec.state.trans hstate, hrec.nominal.trans hnom, fun n => ?_⟩, ⟨ls, ?_, hlen, hdue⟩, fun ho => ?_,
    fun hc => ⟨⟨(hplain hc).1, hst.synd, hst.acc, hst.asyn⟩, (hplain hc).2⟩, hst.synd, hst.acc, hst.asyn, hsup, hsub,
    fun x hx hn hq => ?_, fun x y hx hn hq => ?_, hout⟩
  · rw [next_queue h, if_neg he]
  · rw [next_queue h, if_pos rfl]
  · rw [← issueRecord_sh]; exact congrArg (·[n]) hrec.sr
  · rw [next_latches h]; exact hls
  · rw [next_colls h]; exact hcolls ho
  · subst hx
    exact next_takes h (push := true) (by rw [engineForm_vpush h]; rfl) hn hq
  · subst hx
    exact next_takes h (push := false) (by rw [engineForm_vpop h]; rfl) hn hq

end Sys2Proof.Proofs
end

section
/-! PROOF. Which context takes a vacant role, and what taking it leaves (O55). -/

namespace Sys2Proof.Proofs

open Sys2Proof.Machine
open Sys2Proof.Laws

/-! ## The choice (R15, R16) -/

/-- R15: no other order puts `d` before `c`: it waited no longer, its work identifier is no lower, it was admitted no earlier. -/
def NotAfter (c d : Ctx) : Prop :=
  c.parkedAt < d.parkedAt ∨ c.parkedAt = d.parkedAt ∧ (c.wid.toNat < d.wid.toNat ∨ c.wid = d.wid ∧ c.src ≤ d.src)

theorem NotAfter.refl (c : Ctx) : NotAfter c c := .inr ⟨rfl, .inr ⟨rfl, le_rfl⟩⟩

theorem NotAfter.trans {a b c : Ctx} (h : NotAfter a b) (h' : NotAfter b c) : NotAfter a c := by
  unfold NotAfter at *
  rw [← BitVec.toNat_inj] at *
  omega

/-- R15: what the search for the next context compares by. -/
def goesBefore (c d : Ctx) : Bool :=
  c.parkedAt < d.parkedAt || (c.parkedAt == d.parkedAt && (c.wid.toNat < d.wid.toNat || (c.wid == d.wid && c.src < d.src)))

theorem notAfter_of_goesBefore {c d : Ctx} (h : goesBefore c d = true) : NotAfter c d := by
  simp only [goesBefore, Bool.or_eq_true, Bool.and_eq_true, decide_eq_true_eq, beq_iff_eq] at h
  unfold NotAfter
  rw [← BitVec.toNat_inj] at *
  omega

theorem notAfter_of_not_goesBefore {c d : Ctx} (h : goesBefore c d = false) : NotAfter d c := by
  rw [← Bool.not_eq_true] at h
  simp only [goesBefore, Bool.or_eq_true, Bool.and_eq_true, decide_eq_true_eq, beq_iff_eq] at h
  unfold NotAfter
  rw [← BitVec.toNat_inj] at *
  omega

/-- R15: the better of the best so far and one more. -/
def better (m : Option Ctx) (c : Ctx) : Option Ctx :=
  match m with
  | none => some c
  | some d => if goesBefore c d then some c else some d

theorem nextRole_eq (s : State) (u : Nat) : nextRole s u = (eligible s u).foldl better none := rfl

theorem foldl_better_some (l : List Ctx) (m : Ctx) : ∃ r, l.foldl better (some m) = some r ∧ (r = m ∨ r ∈ l) ∧ NotAfter r m ∧
    ∀ d ∈ l, NotAfter r d := by
  induction l generalizing m with
  | nil => exact ⟨m, rfl, .inl rfl, .refl m, fun d h => absurd h List.not_mem_nil⟩
  | cons c l ih =>
    rw [List.foldl_cons, better]
    cases hb : goesBefore c m with
    | true =>
      obtain ⟨r, hr, hin, hle, hall⟩ := ih c
      refine ⟨r, hr, .inr ?_, hle.trans (notAfter_of_goesBefore hb), fun d hd => ?_⟩
      · rcases hin with rfl | h
        · exact List.mem_cons_self
        · exact List.mem_cons_of_mem _ h
      · rcases List.mem_cons.mp hd with rfl | h
        · exact hle
        · exact hall d h
    | false =>
      obtain ⟨r, hr, hin, hle, hall⟩ := ih m
      refine ⟨r, hr, hin.imp_right (List.mem_cons_of_mem _), hle, fun d hd => ?_⟩
      rcases List.mem_cons.mp hd with rfl | h
      · exact hle.trans (notAfter_of_not_goesBefore hb)
      · exact hall d h

theorem nextRole_eq_none (s : State) (u : Nat) : nextRole s u = none ↔ eligible s u = [] := by
  rw [nextRole_eq]
  cases eligible s u with
  | nil => simp
  | cons c l =>
    obtain ⟨r, hr, -⟩ := foldl_better_some l c
    simp only [List.foldl_cons, better, hr, reduceCtorEq]

theorem nextRole_best {s : State} {u : Nat} {c : Ctx} (h : nextRole s u = some c) :
    c ∈ eligible s u ∧ ∀ d ∈ eligible s u, NotAfter c d := by
  rw [nextRole_eq] at h
  cases he : eligible s u with
  | nil => rw [he] at h; cases h
  | cons x l =>
    obtain ⟨r, hr, hin, hle, hall⟩ := foldl_better_some l x
    rw [he, List.foldl_cons, better, hr] at h
    obtain rfl := Option.some.inj h
    refine ⟨List.mem_cons.mpr hin, fun d hd => ?_⟩
    rcases List.mem_cons.mp hd with rfl | hd
    · exact hle
    · exact hall d hd

theorem mem_eligible {s : State} {u : Nat} {c : Ctx} (h : c ∈ eligible s u) :
    c ∈ allCtx s ∧ c.gunit = u ∧ c.role = .parked ∧ c.status = .running ∧ ∀ d ∈ issuers s u, enginesApart c d = true := by
  obtain ⟨hmem, hp⟩ := List.mem_filter.mp h
  simp only [Bool.and_eq_true, beq_iff_eq, List.all_eq_true] at hp
  obtain ⟨⟨⟨⟨⟨⟨-, hu⟩, hr⟩, -⟩, -⟩, hs⟩, ha⟩ := hp
  exact ⟨hmem, hu, hr, hs, ha⟩

/-! ## Accumulator files change no context but for where its file lies (R416) -/

/-- Each context of `t` is that of `s` at the same place, but for where its accumulator file lies. -/
def FilesMoved (s t : State) : Prop :=
  ∃ g : Ctx → Ctx, (∀ c, ∃ n, g c = { c with fileAt := n }) ∧ t.ctx = g s.ctx ∧ t.others = s.others.map g

theorem FilesMoved.refl (s : State) : FilesMoved s s := ⟨id, fun c => ⟨c.fileAt, rfl⟩, rfl, (List.map_id _).symm⟩

theorem FilesMoved.trans {s t u : State} (h : FilesMoved s t) (h' : FilesMoved t u) : FilesMoved s u := by
  obtain ⟨g, hg, hc, ho⟩ := h
  obtain ⟨g', hg', hc', ho'⟩ := h'
  refine ⟨g' ∘ g, fun c => ?_, ?_, ?_⟩
  · obtain ⟨n, hn⟩ := hg c
    obtain ⟨n', hn'⟩ := hg' (g c)
    exact ⟨n', by rw [Function.comp_apply, hn', hn]⟩
  · rw [hc', hc]; rfl
  · rw [ho', ho, List.map_map]

/-- A state with the contexts of another, one of which has its file moved. -/
theorem filesMoved_updCtx {s t : State} (hc : t.ctx = s.ctx) (ho : t.others = s.others) (cid n : Nat) :
    FilesMoved s (updCtx t cid fun x => { x with fileAt := n }) := by
  refine ⟨onNumber cid fun x => { x with fileAt := n }, fun c => ?_, ?_, ?_⟩
  · unfold onNumber
    split
    · exact ⟨n, rfl⟩
    · exact ⟨c.fileAt, rfl⟩
  · rw [← hc]; rfl
  · rw [← ho]; rfl

theorem filesMoved_clearArea (s : State) (u : Nat) : FilesMoved s (clearArea s u) := by
  unfold clearArea
  split
  · exact .refl s
  · exact filesMoved_updCtx rfl rfl _ _

theorem filesMoved_saveFile (s : State) (c : Ctx) : FilesMoved s (saveFile s c) :=
  (filesMoved_clearArea s c.gunit).trans (filesMoved_updCtx rfl rfl _ _)

/-- R416: what is read back is the two halves of the accumulators, and nothing else. -/
theorem loadFile_eq (s : State) (c : Ctx) (k : Nat) : ∃ a b, loadFile s c k = { s with acc := a, asyn := b } := by
  unfold loadFile
  generalize List.range 512 = rows
  exact ⟨_, _, rfl⟩

theorem filesMoved_reload {s t : State} (hc : t.ctx = s.ctx) (ho : t.others = s.others) (c : Ctx) (k : Nat) (us : List Island)
    (cid n : Nat) : FilesMoved s (updCtx { loadFile t c k with units := us } cid fun x => { x with fileAt := n }) := by
  obtain ⟨a, b, h⟩ := loadFile_eq t c k
  rw [h]
  exact filesMoved_updCtx hc ho cid n

theorem filesMoved_restoreFile (s : State) (c : Ctx) : FilesMoved s (restoreFile s c) := by
  unfold restoreFile
  split
  · exact .refl s
  · split
    · exact filesMoved_reload rfl rfl c _ _ _ _
    · exact (filesMoved_clearArea s c.gunit).trans (filesMoved_reload rfl rfl c _ _ _ _)

theorem filesMoved_saveFiles (cs : List Ctx) (s : State) : FilesMoved s (cs.foldl saveFile s) := by
  induction cs generalizing s with
  | nil => exact .refl s
  | cons c cs ih => exact (filesMoved_saveFile s c).trans (ih _)

theorem filesMoved_switchFile (s : State) (c : Ctx) : FilesMoved s (switchFile s c) := by
  unfold switchFile
  split
  · exact .refl s
  · dsimp only
    split
    · exact (filesMoved_saveFiles _ s).trans (filesMoved_restoreFile _ _)
    · exact filesMoved_saveFiles _ s

section
variable {s t : State} (h : FilesMoved s t)
include h

theorem FilesMoved.findCtx {k : Nat} {c : Ctx} (hc : Machine.findCtx s k = some c) :
    ∃ n, Machine.findCtx t k = some { c with fileAt := n } := by
  obtain ⟨g, hg, hctx, hoth⟩ := h
  obtain ⟨n, hn⟩ := hg c
  have hkeeps : KeepsNumber g := fun x => by
    obtain ⟨m, hm⟩ := hg x
    rw [hm]; exact ⟨rfl, rfl⟩
  refine ⟨n, ?_⟩
  rw [findCtx_congr (s := mapCtx s g) hctx hoth, findCtx_mapCtx s hkeeps, hc, Option.map_some, hn]

/-- The contexts that issue are the same, but for where their files lie. -/
theorem FilesMoved.issuers (u : Nat) : ∃ g : Ctx → Ctx, (∀ c, ∃ n, g c = { c with fileAt := n }) ∧
    Machine.issuers t u = (Machine.issuers s u).map g := by
  obtain ⟨g, hg, hctx, hoth⟩ := h
  refine ⟨g, hg, ?_⟩
  have hall : allCtx t = (allCtx s).map g := by rw [allCtx, hctx, hoth]; rfl
  rw [Machine.issuers, hall, List.filter_map]
  congr 2
  funext c
  obtain ⟨n, hn⟩ := hg c
  rw [Function.comp_apply, hn]
  rfl

end

/-! ## Who is there after a context is brought to hand -/

theorem mem_allCtx_of_focus {s : State} {cid : Nat} {x : Ctx} (h : x ∈ allCtx (focus s cid)) : x ∈ allCtx s := by
  unfold focus at h
  split at h
  · exact h
  · split at h
    · exact h
    · rename_i c hc
      simp only [allCtx, List.mem_cons, List.mem_append, List.mem_filter] at h ⊢
      rcases h with rfl | h | h
      · exact .inr (List.mem_of_find?_eq_some hc)
      · split at h
        · exact absurd h List.not_mem_nil
        · exact .inl (List.mem_singleton.mp h)
      · exact .inr h.1

theorem mem_allCtx_focus {s : State} {cid : Nat} {x : Ctx} (h : x ∈ allCtx s) (hl : x.live = true) (hx : x.cid ≠ cid) :
    x ∈ allCtx (focus s cid) := by
  unfold focus
  split
  · exact h
  · split
    · exact h
    · simp only [allCtx, List.mem_cons, List.mem_append, List.mem_filter] at h ⊢
      rcases h with rfl | h
      · refine .inr (.inl ?_)
        rw [if_neg (fun hv => by simp [Ctx.live, hv] at hl)]
        exact List.mem_singleton.mpr rfl
      · exact .inr (.inr ⟨h, by simp [hx]⟩)

theorem mem_issuers {s : State} {u : Nat} {x : Ctx} :
    x ∈ issuers s u ↔ x ∈ allCtx s ∧ x.live = true ∧ x.gunit = u ∧ x.role ≠ .parked := by
  simp [issuers, and_assoc]

/-- R15: a core whose roles are vacant stays so as one that issues nothing is brought to hand. -/
theorem issuers_focus_isEmpty {s : State} {cid u : Nat} (h : ∀ d ∈ issuers s u, d.cid ≠ cid) :
    (issuers (focus s cid) u).isEmpty = true ↔ issuers s u = [] := by
  rw [List.isEmpty_iff, List.eq_nil_iff_forall_not_mem, List.eq_nil_iff_forall_not_mem]
  refine ⟨fun hf x hx => ?_, fun hs x hx => ?_⟩
  · obtain ⟨hm, hl, hu, hr⟩ := mem_issuers.mp hx
    exact hf x (mem_issuers.mpr ⟨mem_allCtx_focus hm hl (h x hx), hl, hu, hr⟩)
  · obtain ⟨hm, hl, hu, hr⟩ := mem_issuers.mp hx
    exact hs x (mem_issuers.mpr ⟨mem_allCtx_of_focus hm, hl, hu, hr⟩)

/-! ## Taking the role (R15, R174, R375) -/

theorem startTask_ctx (s : State) : ∃ h, (startTask s).ctx = { s.ctx with started := true, status := .running, hdr := h } := by
  unfold startTask
  dsimp only
  split <;> split <;> exact ⟨_, rfl⟩

/-- R375: a resumption changes neither who the context is nor its role. -/
theorem resume_ctx_kept (s : State) : (resume s).ctx.cid = s.ctx.cid ∧ (resume s).ctx.role = s.ctx.role ∧
    (resume s).ctx.slice = s.ctx.slice ∧ (resume s).ctx.collides = s.ctx.collides := by
  unfold resume
  split <;> exact ⟨rfl, rfl, rfl, rfl⟩

/-- A context with the role it takes. -/
def withRole (alone : Bool) (x : Ctx) : Ctx :=
  { x with role := if alone then .lead else .trail, slice := 0, collides := false, blocked := 0 }

/-- What a context is that has taken a role: it starts at its entry, or resumes. -/
def RoleTaken (c : Ctx) (ro : Role) (d : Ctx) : Prop :=
  d.role = ro ∧ d.slice = 0 ∧ d.collides = false ∧
    (c.started = false → d.started = true ∧ d.status = .running ∧ d.pc = c.pc ∧ d.r = c.r ∧ d.tclk = c.tclk) ∧
    (∀ v, c.started = true → c.haltH = false → c.saved = some v → d.status = .running ∧ d.tclk = v.t ∧ d.saved = none)

theorem takeRole_eq (s : State) (c : Ctx) : takeRole s c =
    let t := focus (switchFile s c) c.cid
    let u := t.up (withRole (issuers t c.gunit).isEmpty)
    if !c.started then startTask u
    else if c.haltH then u.up fun x => { x with status := .handler, haltH := false }
    else resume u := rfl

theorem findCtx_takeRole {s : State} {c : Ctx} (hc : findCtx s c.cid = some c) (hr : c.status = .running)
    (hi : ∀ d ∈ issuers s c.gunit, d.cid ≠ c.cid) : ∃ d, findCtx (takeRole s c) c.cid = some d ∧
      RoleTaken c (if issuers s c.gunit = [] then .lead else .trail) d := by
  have hfiles := filesMoved_switchFile s c
  obtain ⟨n, hn⟩ := hfiles.findCtx hc
  obtain ⟨g, hg, hgi⟩ := hfiles.issuers c.gunit
  have hi' : ∀ d ∈ issuers (switchFile s c) c.gunit, d.cid ≠ c.cid := by
    intro d hd
    rw [hgi] at hd
    obtain ⟨x, hx, rfl⟩ := List.mem_map.mp hd
    obtain ⟨m, hm⟩ := hg x
    rw [hm]; exact hi x hx
  have halone : (issuers (focus (switchFile s c) c.cid) c.gunit).isEmpty = true ↔ issuers s c.gunit = [] := by
    rw [issuers_focus_isEmpty hi', hgi, List.map_eq_nil_iff]
  obtain ⟨u, hu⟩ : ∃ u, u = (focus (switchFile s c) c.cid).up
      (withRole (issuers (focus (switchFile s c) c.cid) c.gunit).isEmpty) := ⟨_, rfl⟩
  have huc : u.ctx = withRole (issuers (focus (switchFile s c) c.cid) c.gunit).isEmpty { c with fileAt := n } := by
    rw [hu, up_ctx, focus_ctx hn]
  have hrole : u.ctx.role = if issuers s c.gunit = [] then .lead else .trail := by
    rw [huc]
    show (if _ = true then Role.lead else .trail) = _
    simp only [halone]
  have hsl : u.ctx.slice = 0 ∧ u.ctx.collides = false ∧ u.ctx.cid = c.cid ∧ u.ctx.status = .running := by
    rw [huc]; exact ⟨rfl, rfl, rfl, hr⟩
  have hsaved : u.ctx.saved = c.saved := by rw [huc]; rfl
  have hentry : u.ctx.pc = c.pc ∧ u.ctx.r = c.r ∧ u.ctx.tclk = c.tclk := by rw [huc]; exact ⟨rfl, rfl, rfl⟩
  obtain ⟨hslice, hcoll, hcid, hrun⟩ := hsl
  obtain ⟨hpc, hregs, htclk⟩ := hentry
  have hfind : ∀ {t : State}, t.ctx.cid = c.cid → (t.ctx.status = .running ∨ t.ctx.status = .handler) →
      findCtx t c.cid = some t.ctx := fun h hs => findCtx_focused h (by rcases hs with hs | hs <;> simp [Ctx.live, hs])
  rw [takeRole_eq]
  simp only [← hu]
  cases hst : c.started with
  | false =>
    simp only [Bool.not_false, if_true]
    obtain ⟨h, hctx⟩ := startTask_ctx u
    refine ⟨(startTask u).ctx, ?_, ?_⟩
    · exact hfind (by rw [hctx]; exact hcid) (.inl (by rw [hctx]))
    · rw [hctx]
      exact ⟨hrole, hslice, hcoll, fun _ => ⟨rfl, rfl, hpc, hregs, htclk⟩, fun v h => by simp [hst] at h⟩
  | true =>
    simp only [Bool.not_true, Bool.false_eq_true, if_false]
    cases hh : c.haltH with
    | true =>
      simp only [if_true]
      refine ⟨_, hfind hcid (.inr rfl), hrole, hslice, hcoll, fun h => by simp [hst] at h, fun v _ h => by simp [hh] at h⟩
    | false =>
      simp only [Bool.false_eq_true, if_false]
      obtain ⟨kcid, krole, kslice, kcoll⟩ := resume_ctx_kept u
      have hstat : (resume u).ctx.status = .running := by
        cases hv : u.ctx.saved with
        | none => simpa [resume, hv] using hrun
        | some v => exact resume_ctx_status hv
      exact ⟨(resume u).ctx, hfind (kcid.trans hcid) (.inl hstat), krole.trans hrole, kslice.trans hslice,
        kcoll.trans hcoll, fun h => by simp [hst] at h,
        fun v _ _ hv => ⟨hstat, resume_ctx_tclk (hsaved.trans hv), resume_ctx_saved u⟩⟩

theorem fillRole_eq {s : State} {u : Nat} {c : Ctx} (hn : nextRole s u = some c) (ho : openRoles s u ≠ 0)
    (hd : (getIsland s u).disabled = false) (hw : ∀ p ∈ s.cob.swaps, u ∉ p) : fillRole s u = takeRole s c := by
  have hs : (s.cob.swaps.any fun p => p.contains u) = false := by
    rw [List.any_eq_false]
    exact fun p hp hc => hw p hp (List.contains_iff_mem.mp hc)
  simp only [fillRole, hd, hs, hn, ho, Bool.false_eq_true, or_self, if_false]

end Sys2Proof.Proofs
end

section
/-! PROOF. How a context parks: its frame, its saved state and its role; and when a pre-emption is taken (O55). -/

namespace Sys2Proof.Proofs

open Sys2Proof.Machine
open Sys2Proof.Laws

/-! ## The frame (R375) -/

theorem heelKey_add (a i : Nat) : heelKey a + i = heelKey (a + i) := Nat.add_assoc ..

/-- R375: the frame begins with the status word and the cause. -/
theorem frameWords_cons (c : Ctx) (x : Trap) : ∃ w ws, frameWords c x = w :: x.cause :: ws := by
  unfold frameWords
  simp only [List.cons_append]
  exact ⟨_, _, rfl⟩

/-- A word of a list of words written to memory, read back. -/
theorem memRead_memPut_second (m : Memory) (k a b : Nat) (ws : List Nat) :
    memRead (memPut m k ((a :: b :: ws).flatMap (leBytes 8))) (k + 8) 8 = leBytes 8 b := by
  obtain ⟨r, hr⟩ : ∃ r, r = ws.flatMap (leBytes 8) := ⟨_, rfl⟩
  have h := memRead_memPut_same m k (leBytes 8 a ++ (leBytes 8 b ++ r))
  rw [List.length_append, List.length_append, leBytes_length, leBytes_length, memRead_add, memRead_add] at h
  simp only [List.flatMap_cons, ← hr]
  exact (List.append_inj (List.append_inj h (by simp)).2 (by simp)).1

/-- R375: the frame of a trap holds its cause. -/
theorem frameDword_cause {s t : State} {x : Trap} (hm : t.mem = (writeFrame s x).mem) (ha : frameAddr t.ctx = frameAddr s.ctx) :
    frameDword t 1 = BitVec.ofNat 64 x.cause := by
  obtain ⟨w, ws, h⟩ := frameWords_cons s.ctx x
  rw [frameDword, hm, ha, writeFrame, h, Nat.mul_one, ← heelKey_add, memRead_memPut_second, leNat_leBytes]
  exact BitVec.eq_of_toNat_eq (by simp)

/-! ## Parking (R15, R375) -/

/-- R375: what is saved of a context that takes a trap holds its waits, latches and pending writes. -/
def Saves (c : Ctx) (v : Saved) : Prop :=
  v.t = c.tclk ∧ v.latches = c.latches ∧ v.dws = c.dws ∧ v.wait = c.wait

/-- R375: a context whose frame is written for a park with a trap. -/
def framedCtx (c : Ctx) (v : Saved) (x : Trap) : Ctx :=
  { c with
    saved := some v, redo := [], cands := [], after := 0, tcause := x.cause, tinfo := #v[x.i0, x.i1, x.i2, x.i3]
    latches := [], dws := [], preReq := false, preCnt := 0, preLate := false, iss := { c.iss with trapped := true } }

/-- R375: a machine in which a context is about to leave its role as it parks. -/
def framed (s : State) : State :=
  let s := { s with free := s.free + 1 }
  (saveFrame s ⟨0x32, fw s 0, fw s 1, fw s 2, 0⟩).up fun c => { c with
    cands := [], preReq := false, preCnt := 0, preLate := false, iss := { c.iss with trapped := true } }

theorem parkNow_eq (s : State) : parkNow s = leaveRole (framed s) s.ctx.cid := rfl

theorem framed_ctx (s : State) : ∃ v x, x.cause = 0x32 ∧ Saves s.ctx v ∧ (framed s).ctx = framedCtx s.ctx v x ∧
    (framed s).mem = (writeFrame s x).mem :=
  ⟨_, ⟨0x32, _, _, _, 0⟩, rfl, ⟨rfl, rfl, rfl, rfl⟩, rfl, rfl⟩

theorem framed_keeps (s : State) : (framed s).others = s.others ∧ (framed s).tick = s.tick ∧ (framed s).ctx.cid = s.ctx.cid ∧
    (framed s).ctx.gunit = s.ctx.gunit ∧ (framed s).ctx.role = s.ctx.role ∧ (framed s).ctx.status = s.ctx.status :=
  ⟨rfl, rfl, rfl, rfl, rfl, rfl⟩

theorem leftRole_self (tick u : Nat) {x : Ctx} (h : x.live = true) : leftRole tick x.cid u x = roleless tick x := by
  simp [leftRole, onNumber, roleless, h]

theorem leftRole_ne (tick u : Nat) {x : Ctx} {cid : Nat} (h : x.live = true) (hn : x.cid ≠ cid) :
    leftRole tick cid u x = if x.gunit = u ∧ x.role = .trail then { x with role := .lead, blocked := 0 } else x := by
  simp [leftRole, onNumber, h, hn]

section
variable {s : State} (hs : s.ctx.status = .running) (hr : s.ctx.role ≠ .parked)
include hs hr

omit hr in
theorem findCtx_framed : findCtx (framed s) s.ctx.cid = some (framed s).ctx :=
  findCtx_ctx (s := framed s) (by simp [Ctx.live, (framed_keeps s).2.2.2.2.2, hs])

/-- R15, R375: the context that parks keeps its registers and queues, and what it waited for is saved. -/
theorem parkNow_ctx : ∃ v x, Saves s.ctx v ∧ (parkNow s).ctx = roleless s.tick (framedCtx s.ctx v x) ∧
    frameDword (parkNow s) 1 = 0x32 := by
  obtain ⟨v, x, hx, hv, hctx, hmem⟩ := framed_ctx s
  have hf := findCtx_framed hs
  have hpark : (parkNow s).ctx = roleless s.tick (framedCtx s.ctx v x) := by
    rw [parkNow_eq, leaveRole_ctx hf hr, hctx]
    exact leftRole_self _ _ (by simp [Ctx.live, framedCtx, hs])
  refine ⟨v, x, hv, hpark, ?_⟩
  have hmem' : (parkNow s).mem = (writeFrame s x).mem := by rw [parkNow_eq, leaveRole_frame]; exact hmem
  rw [frameDword_cause (s := s) hmem' (by rw [hpark]; rfl), hx]
  rfl

theorem parkNow_freedAt : s.tick ∈ (getIsland (parkNow s) s.ctx.gunit).freedAt :=
  freedAt_leaveRole (s := framed s) (cid := s.ctx.cid) (c := (framed s).ctx) (findCtx_framed hs) hr

/-- R15: as a context parks, the trail of its core becomes the lead, and nothing else becomes of another context. -/
theorem findCtx_parkNow_ne {k : Nat} {d : Ctx} (hk : k ≠ s.ctx.cid) (hd : findCtx s k = some d) :
    findCtx (parkNow s) k = some (if d.gunit = s.ctx.gunit ∧ d.role = .trail then { d with role := .lead, blocked := 0 } else d) := by
  have hother : findCtx (framed s) k = some d := (findCtx_other (s := s) (t := framed s) rfl rfl hk).trans hd
  rw [parkNow_eq, findCtx_leaveRole (findCtx_framed hs) hr k, hother, Option.map_some,
    leftRole_ne _ _ (live_of_findCtx hd) (by rw [cid_of_findCtx hd]; exact hk)]
  rfl

end

/-! ## When a pre-emption is taken (R381) -/

theorem takesPreempt_imp {c : Ctx} (h : takesPreempt c = true) : c.status = .running ∧ c.preReq = true ∧
    (c.wait = .none ∨ c.upper = true → c.after = 1 ∨ (endingLevel c).isSome = true) ∧ (c.upper = true → c.unit = 0) := by
  simp only [takesPreempt, Bool.and_eq_true, Bool.or_eq_true, Bool.not_eq_true', beq_iff_eq, bne_iff_ne,
    Bool.and_eq_false_iff, ne_eq] at h
  obtain ⟨⟨⟨hs, hp⟩, -⟩, hw⟩ := h
  refine ⟨hs, hp, ?_, ?_⟩
  · rintro (hn | hu)
    · rcases hw with ⟨-, hw⟩ | ⟨-, h⟩
      · exact absurd hn hw
      · exact h
    · rcases hw with ⟨hw, -⟩ | ⟨-, h⟩
      · rw [hu] at hw; cases hw
      · exact h
  · intro hu
    rcases hw with ⟨hw, -⟩ | ⟨⟨-, hw⟩, -⟩
    · rw [hu] at hw; cases hw
    · rw [hu] at hw
      simpa using hw

theorem groupTrap_ne_park (s : State) (t : Nat) : groupTrap s t ≠ some .park := by
  unfold groupTrap
  split
  · exact fun h => nomatch h
  · intro h
    obtain ⟨w, -, hw⟩ := List.exists_of_findSome?_eq_some h
    split at hw
    · split at hw
      · split at hw
        · cases hw
        · dsimp only at hw
          split at hw <;> cases hw
      · cases hw
    · cases hw

/-- R381: an event is a pre-emption only if the context takes pre-emptions. -/
theorem takesPreempt_of_chosen {s : State} {t : Nat} (h : chosen s t = some .park) : takesPreempt s.ctx = true := by
  by_contra hn
  have hg := groupTrap_ne_park s t
  revert h
  unfold chosen
  simp only [Option.or_eq_some_iff]
  simp [hn, hg]

theorem takeEvent_park (s : State) (t : Nat) : takeEvent s t .park = parkNow (s.up fun c => { c with after := 0 }) := rfl

theorem exec_takingATrap (s : State) : exec .takingATrap s = execTakingATrap s := rfl

theorem execTakingATrap_of_chosen {s : State} {e : Taken} (h : chosen s s.ctx.now = some e) :
    execTakingATrap s = .next (takeEvent s s.ctx.now e) := by
  unfold execTakingATrap
  split <;> rename_i hc <;> rw [h] at hc
  · rw [Option.some.inj hc]
  · cases hc

/-- R381: a context that takes its pre-emption parks. -/
theorem takingATrap_parks {s : State} (h : chosen s s.ctx.now = some .park) (hr : s.ctx.role ≠ .parked) : ∃ t v,
    exec .takingATrap s = .next t ∧ t.ctx.role = .parked ∧ t.ctx.status = .running ∧ t.ctx.preReq = false ∧
    t.ctx.parkedAt = s.tick ∧ t.ctx.saved = some v ∧ v.t = s.ctx.tclk ∧ v.latches = s.ctx.latches ∧ v.dws = s.ctx.dws ∧
    v.wait = s.ctx.wait ∧ t.ctx.tclk = s.ctx.tclk ∧ t.ctx.r = s.ctx.r ∧ t.ctx.vq = s.ctx.vq ∧ t.ctx.xq = s.ctx.xq ∧
    t.ctx.cq = s.ctx.cq ∧ frameDword t 1 = 0x32 ∧ s.tick ∈ (getIsland t s.ctx.gunit).freedAt ∧
    ∀ k d, k ≠ s.ctx.cid → findCtx s k = some d → findCtx t k = some (if d.gunit = s.ctx.gunit ∧ d.role = .trail then
      { d with role := .lead, blocked := 0 } else d) := by
  obtain ⟨hs, -, -, -⟩ := takesPreempt_imp (takesPreempt_of_chosen h)
  obtain ⟨u, hu⟩ : ∃ u, u = s.up fun c => { c with after := 0 } := ⟨_, rfl⟩
  have hexec : exec .takingATrap s = .next (parkNow u) := by
    rw [hu, ← takeEvent_park s s.ctx.now]
    exact (exec_takingATrap s).trans (execTakingATrap_of_chosen h)
  have hus : u.ctx.status = .running := by rw [hu]; exact hs
  have hur : u.ctx.role ≠ .parked := by rw [hu]; exact hr
  obtain ⟨v, x, ⟨ht, hl, hd, hw⟩, hctx, hframe⟩ := parkNow_ctx hus hur
  have hfreed := parkNow_freedAt hus hur
  have hothers := fun k d => findCtx_parkNow_ne hus hur (k := k) (d := d)
  refine ⟨parkNow u, v, hexec, ?_⟩
  rw [hctx]
  subst hu
  refine ⟨rfl, hs, rfl, rfl, rfl, ht, hl, hd, hw, rfl, rfl, rfl, rfl, rfl, hframe, hfreed, ?_⟩
  intro k d hk hk'
  exact hothers k d hk ((findCtx_other (s := s) (t := s.up fun c => { c with after := 0 }) rfl rfl hk).trans hk')

end Sys2Proof.Proofs
end

section
/-! PROOF. Timers, slices, power, heat and operating points (O55). -/

namespace Sys2Proof.Proofs

open Sys2Proof.Machine
open Sys2Proof.Laws

section
variable {s : State} {cid : Nat} {c : Ctx} (hc : findCtx s cid = some c)
include hc

/-! ## Timers and pre-emptions (R376, R380, R381) -/

theorem exec_timerExpiry (hr : timerRuns c = true) (hd : c.tmr.toNat % 2 ^ 32 ≤ c.tmrCnt) : exec (.timerExpiry cid) s =
    .next (updCtx s cid fun x => { x with tmrCnt := 0, tmrPend := x.tmrPend + 1 }) := by
  show execTimerExpiry cid s = _
  simp only [execTimerExpiry, hc]
  rw [if_pos ⟨hr, hd⟩]

theorem exec_preemptLate (hp : c.preReq = true) (hr : c.role ≠ .parked) (hb : c.hdr.ibound ≤ c.preCnt) :
    exec (.preemptLate cid) s = .next (updCtx s cid fun x => { x with preLate := true }) := by
  show execPreemptLate cid s = _
  simp only [execPreemptLate, hc]
  rw [if_pos ⟨hp, hr, hb⟩]

theorem exec_sliceExpiry (hr : c.role = .parked) (hi : s.img.slice ≠ 0) (hl : c.slice = s.img.slice) :
    exec (.sliceExpiry cid) s = .next (requestPreempt s fun d => d.gunit == c.gunit && !(enginesApart c d)) := by
  show execSliceExpiry cid s = _
  simp only [execSliceExpiry, hc]
  rw [if_pos ⟨hr, hi, hl⟩]

end

theorem keepsNumber_preempted (p : Ctx → Bool) : KeepsNumber (preempted p) := by
  intro c
  unfold preempted
  split <;> exact ⟨rfl, rfl⟩

/-- R380: what each context is after a request for pre-emption. -/
theorem findCtx_requestPreempt {s : State} (p : Ctx → Bool) {k : Nat} {d : Ctx} (hd : findCtx s k = some d) :
    findCtx (requestPreempt s p) k = some (if d.role ≠ .parked ∧ d.preReq = false ∧ p d = true then
      { d with preReq := true, preCnt := 0 } else d) := by
  rw [requestPreempt_eq, findCtx_mapCtx s (keepsNumber_preempted p), hd, Option.map_some, preempted]
  simp only [live_of_findCtx hd, true_and, Bool.not_eq_true']

theorem requestPreempt_frame (s : State) (p : Ctx → Bool) : requestPreempt s p =
    { s with ctx := (requestPreempt s p).ctx, others := (requestPreempt s p).others } := rfl

/-! ## Power levels (R420) -/

theorem levelWrite_cid_live (c : Ctx) (v : Nat) : (levelWrite c v).live = c.live ∧ (levelWrite c v).cid = c.cid := by
  unfold levelWrite
  dsimp only
  split <;> exact ⟨rfl, rfl⟩

/-- R420: what a granted request for a power level leaves. -/
def granted (s : State) (r : PwrReq) : State :=
  updCtx (setHeld { s with cob := { s.cob with pwr := s.cob.pwr.erase r } } r.cid r.level) r.cid fun c => levelWrite c r.level

theorem exec_pwraGrant {s : State} {r : PwrReq} (h1 : s.cob.pwr = [r])
    (hb : budgetUsed s r ≤ (if cidUpper r.cid = true then s.img.upbud else s.img.solebud)) :
    exec (.pwraGrant (cidUpper r.cid)) s = .next (granted s r) := by
  show execPwraGrant _ s = _
  have hfind : s.cob.pwr.find? (fun x => cidUpper x.cid == cidUpper r.cid) = some r := by simp [h1]
  simp only [execPwraGrant, hfind]
  rw [if_pos hb]
  rfl

theorem granted_keeps {s : State} {r : PwrReq} (h1 : s.cob.pwr = [r]) : (granted s r).cob.pwr = [] ∧ (granted s r).mem = s.mem := by
  refine ⟨?_, rfl⟩
  show s.cob.pwr.erase r = []
  rw [h1, List.erase_cons_head]

theorem findCtx_granted {s : State} {r : PwrReq} {c : Ctx} (hc : findCtx s r.cid = some c) :
    findCtx (granted s r) r.cid = some (levelWrite c r.level) := by
  rw [granted, findCtx_updCtx_self _ _ (fun c h => ⟨(levelWrite_cid_live c r.level).1.trans h, (levelWrite_cid_live c r.level).2⟩)]
  exact congrArg (Option.map fun c => levelWrite c r.level) hc

theorem levelWrite_unsaved {c : Ctx} (h : c.saved = none) (v : Nat) : levelWrite c v =
    { c with pwrWait := false, dws := c.dws ++ [⟨c.tclk + 1, c.tclk, 15, 0, .pwrlvl v⟩] } := by
  simp only [levelWrite, h]

theorem levelWrite_saved {c : Ctx} {x : Saved} (h : c.saved = some x) (v : Nat) : levelWrite c v =
    { c with pwrWait := false, saved := some { x with dws := x.dws ++ [⟨x.t + 1, x.t, 15, 0, .pwrlvl v⟩] } } := by
  simp only [levelWrite, h]

/-! ## The static charge (R419) -/

theorem charge_static {c : Ctx} {pj : Nat} (hs : c.energySat = false) (he : c.energy + pj < 2 ^ 48) :
    c.charge pj false = { c with energy := c.energy + pj } := by
  simp only [Ctx.charge, hs, Bool.false_eq_true, if_false]
  rw [if_neg (by omega)]

theorem charge_number (c : Ctx) (pj : Nat) (dyn : Bool) : (c.charge pj dyn).live = c.live ∧ (c.charge pj dyn).cid = c.cid := by
  unfold Ctx.charge
  dsimp only
  split_ifs <;> exact ⟨rfl, rfl⟩

/-- R419: the part of the static energy of a core that falls to a context. -/
def staticShare (u p n : Nat) (c : Ctx) : Ctx :=
  if c.live ∧ c.gunit = u ∧ c.role ≠ .parked then c.charge (p / n + if c.role = .lead then p % n else 0) false else c

theorem keepsNumber_staticShare (u p n : Nat) : KeepsNumber (staticShare u p n) := by
  intro c
  unfold staticShare
  split
  · exact charge_number c _ _
  · exact ⟨rfl, rfl⟩

theorem exec_staticChargeTick {s : State} {u : Nat} {c : Ctx} (h1 : issuers s u = [c]) : ∃ us,
    exec (.staticChargeTick u) s = .next { mapCtx s (staticShare u (s.img.pstat * 10) 1) with units := us } := by
  refine ⟨updIsland s.units u fun x => { x with eisl := (x.eisl + s.img.pstat * 10) % 2 ^ 64 }, ?_⟩
  show execStaticChargeTick u s = _
  simp only [execStaticChargeTick, h1, List.isEmpty_cons, Bool.false_eq_true, if_false, List.length_singleton]
  rfl

/-- R419: a context that alone issues on its core bears the whole static energy of the tick. -/
theorem staticShare_alone {s : State} {u p : Nat} {c : Ctx} (h1 : issuers s u = [c]) (hs : c.energySat = false)
    (he : c.energy + p < 2 ^ 48) : staticShare u p 1 c = { c with energy := c.energy + p } := by
  obtain ⟨-, hlive, hunit, hrole⟩ := mem_issuers.mp (h1 ▸ List.mem_singleton.mpr rfl : c ∈ issuers s u)
  rw [staticShare, if_pos ⟨hlive, hunit, hrole⟩, Nat.div_one, Nat.mod_one, ite_self, Nat.add_zero, charge_static hs he]

/-! ## Heat and operating points (R421, R422, R425) -/

theorem repoint_keeps (u : Island) : u.repoint = { u with pendOp := u.repoint.pendOp } := by
  unfold Island.repoint
  split <;> rfl

theorem repoint_n (u : Island) : u.repoint.n = u.n := by rw [repoint_keeps]

theorem repoint_temp (u : Island) : u.repoint.temp = u.temp := by rw [repoint_keeps]

theorem repoint_thr (u : Island) : u.repoint.thr = u.thr := by rw [repoint_keeps]

theorem repoint_settled {u : Island} {p : Fin 8} : (Island.repoint { u with opc := p, settle := none }).opc = p ∧
    (Island.repoint { u with opc := p, settle := none }).settle = none ∧
    (Island.repoint { u with opc := p, settle := none }).n = u.n := by
  rw [repoint_keeps]
  exact ⟨rfl, rfl, rfl⟩

theorem sampleIsland_n (tick thresh temp judged : Nat) (u : Island) : (sampleIsland tick thresh temp judged u).n = u.n := by
  simp only [sampleIsland, apply_ite Island.n, repoint_n, ite_self]

/-- R421: the temperature that is noted, and whether the island throttles, where it has not throttled before. -/
theorem sampleIsland_first (tick thresh x : Nat) {u : Island} (h : u.thrAt = none) :
    (sampleIsland tick thresh x x u).temp = x ∧ (sampleIsland tick thresh x x u).thr =
      if u.thr = true then !decide (x + 4 * u.hyst ≤ 4 * thresh) else decide (4 * thresh ≤ x) := by
  simp only [sampleIsland, h, Option.all_none, Bool.and_true, ge_iff_le, apply_ite Island.temp, apply_ite Island.thr,
    repoint_temp, repoint_thr, ite_self, true_and]
  generalize (if u.thr = true then !decide (x + 4 * u.hyst ≤ 4 * thresh) else decide (4 * thresh ≤ x)) = want
  cases want <;> cases u.thr <;> rfl

theorem judgedTemp_single {n x : Nat} (hn : n < 192) : judgedTemp [(n, x)] n = x := by
  rw [judgedTemp, if_neg (by omega)]
  simp

/-- R421: a sample of one island that is not critically hot. -/
theorem exec_thermalSample {s : State} {n x : Nat} (hn : n < 192) (hx : x < 4 * s.img.tcrit) :
    exec (.thermalSample [(n, x)]) s =
      .next { s with units := updIsland s.units n (sampleIsland s.tick s.img.thresh x x) } := by
  show execThermalSample _ s = _
  have hcool : ¬ 4 * s.img.tcrit ≤ x := by omega
  simp only [execThermalSample, List.find?_cons, List.find?_nil, ge_iff_le, hcool, decide_false, List.foldl_cons, List.foldl_nil,
    judgedTemp_single hn]

theorem exec_opSwitchQuiesce {s : State} {n : Nat} {p : Fin 8} (hp : (getIsland s n).pendOp = some p)
    (hs : (getIsland s n).settle = none) (hq : coreQuiet s n = true) : ∃ k, s.tick < k ∧ exec (.opSwitchQuiesce n) s =
      .next { s with units := updIsland s.units n fun x => { x with settle := some k } } := by
  refine ⟨s.tick + (1 + Config.settleTicks s.tick n %
    (if Config.band (getIsland s n).opc.val = Config.band p.val then 20 else 800)), by omega, ?_⟩
  show execOpSwitchQuiesce n s = _
  simp only [execOpSwitchQuiesce, hp, hs, hq]
  rfl

theorem exec_opSwitchSettled {s : State} {n k : Nat} {p : Fin 8} (hn : n ≠ 192) (hp : (getIsland s n).pendOp = some p)
    (hs : (getIsland s n).settle = some k) (hk : k ≤ s.tick) : exec (.opSwitchSettled n) s =
      .next { s with units := updIsland s.units n fun x => Island.repoint { x with opc := p, settle := none } } := by
  show execOpSwitchSettled n s = _
  simp only [execOpSwitchSettled, hp, hs, if_neg (Nat.not_lt.mpr hk), if_neg hn]

/-- Settles O55: the choice of the next role, its taking, the park at a pre-emption, and the steps of timers and islands. -/
theorem schedulerSteps : Obligations.SchedulerSteps := by
  unfold Obligations.SchedulerSteps
  refine ⟨?choice, ?taken, ?when, ?park, ?timers, ?power, ?static, ?heat, ?points⟩
  case choice =>
    intro s u
    refine ⟨nextRole_eq_none s u, fun c h => ?_⟩
    obtain ⟨hmem, hbest⟩ := nextRole_best h
    exact ⟨mem_eligible hmem, hbest⟩
  case taken =>
    intro s u c hn hc hi ho hd hw
    obtain ⟨-, hu, -, hs, -⟩ := mem_eligible (nextRole_best hn).1
    subst hu
    rw [fillRole_eq hn ho hd hw]
    exact findCtx_takeRole hc hs hi
  case when => exact fun c h => takesPreempt_imp h
  case park => exact fun s h hr => takingATrap_parks h hr
  case timers =>
    intro s cid c hc
    refine ⟨fun hr hd => ⟨_, exec_timerExpiry hc hr hd, ?_⟩, fun hp hr hb => ⟨_, exec_preemptLate hc hp hr hb, ?_⟩,
      fun hr hi hl => ⟨_, exec_sliceExpiry hc hr hi hl, requestPreempt_frame _ _, fun k d hd => ?_⟩⟩
    · exact onlyCtx_updCtx s cid fun x hx => ⟨hx, rfl⟩
    · exact onlyCtx_updCtx s cid fun x hx => ⟨hx, rfl⟩
    · rw [findCtx_requestPreempt _ hd]
      simp only [Bool.and_eq_true, beq_iff_eq, Bool.not_eq_true']
  case power =>
    intro s r c h1 hc hb
    obtain ⟨hpwr, hmem⟩ := granted_keeps h1
    refine ⟨_, exec_pwraGrant h1 hb, hpwr, hmem, fun hv => ?_, fun v hv => ?_⟩
    · rw [findCtx_granted hc, levelWrite_unsaved hv]
    · rw [findCtx_granted hc, levelWrite_saved hv]
  case static =>
    intro s u cid c h1 hc _ hs he
    obtain ⟨us, hexec⟩ := exec_staticChargeTick h1
    have hfind := findCtx_mapCtx s (keepsNumber_staticShare u (s.img.pstat * 10) 1) cid
    rw [hc, Option.map_some, staticShare_alone h1 hs he] at hfind
    exact ⟨_, hexec, hfind, rfl⟩
  case heat =>
    intro s n x hn hx ht
    obtain ⟨htemp, hthr⟩ := sampleIsland_first s.tick s.img.thresh x ht
    refine ⟨_, exec_thermalSample hn hx, ?_, rfl, rfl, ?_⟩ <;>
      rw [getIsland_upd s n (sampleIsland_n s.tick s.img.thresh x x) _ rfl]
    · exact htemp
    · exact hthr
  case points =>
    intro s n p hp
    refine ⟨fun hs hq => ?_, fun k hn hs hk => ⟨_, exec_opSwitchSettled hn hp hs hk, ?_⟩⟩
    · obtain ⟨k, hk, hexec⟩ := exec_opSwitchQuiesce hp hs hq
      exact ⟨_, k, hexec, getIsland_upd s n (f := fun x => { x with settle := some k }) (fun _ => rfl) _ rfl, hk, rfl, rfl⟩
    · rw [getIsland_upd s n (f := fun x => Island.repoint { x with opc := p, settle := none })
        (fun _ => repoint_settled.2.2) _ rfl]
      exact ⟨repoint_settled.1, repoint_settled.2.1, rfl, rfl⟩

end Sys2Proof.Proofs
end

section
/-! PROOF. Contexts that the Cobbler ends, parks and serves: watchdogs, CTXCMD and the energy services (O56). -/

namespace Sys2Proof.Proofs

open Sys2Proof.Machine
open Sys2Proof.Laws

/-! ## Fatal ends (R377, R426) -/

/-- R377: the context at hand has failed with a trap, and its task is to retire. -/
def Failed (t : State) (cid : Nat) (x : Trap) : Prop :=
  t.ctx.cid = cid ∧ t.ctx.status = .trapped ∧ t.ctx.tcause = x.cause ∧ t.ctx.tinfo = #v[x.i0, x.i1, x.i2, x.i3] ∧
    .taskRetirement cid ∈ t.agenda

theorem failed_failLaunch (s : State) (x : Trap) : Failed (failLaunch s x) s.ctx.cid x :=
  ⟨rfl, rfl, rfl, rfl, List.mem_append_right _ (List.mem_singleton.mpr rfl)⟩

theorem failed_fatalNow (s : State) (x : Trap) : Failed (fatalNow s x) s.ctx.cid x := by
  unfold fatalNow
  split
  · exact failed_failLaunch _ x
  · exact failed_failLaunch _ x

/-- R377: a fatal cause ends a context, in its handler or not. -/
theorem takeTrap_fatal {s : State} {x : Trap} (hl : logitSlot s.ctx = none) (hx : x.cause = 0x21) : takeTrap s x =
    fatalNow ({ s with free := s.free + 1 }.up fun c => { c with iss := { c.iss with trapped := true } }) x := by
  obtain ⟨u, hu⟩ : ∃ u, u = { s with free := s.free + 1 }.up fun c => { c with iss := { c.iss with trapped := true } } := ⟨_, rfl⟩
  have hul : logitSlot u.ctx = none := by rw [hu]; exact hl
  obtain ⟨cause, i0, i1, i2, i3⟩ := x
  have hx' : cause = 0x21 := hx
  subst hx'
  unfold takeTrap
  simp only [← hu, hul]
  split
  · rename_i h; exact absurd h.1 (by simp)
  · split
    · rw [if_neg (by decide)]
    · simp only [true_or, if_true]

/-- R377: the end of a context brought to hand by a fatal cause. -/
theorem failed_takeTrap {s : State} {x : Trap} (hl : logitSlot s.ctx = none) (hx : x.cause = 0x21) :
    Failed (takeTrap s x) s.ctx.cid x := by
  rw [takeTrap_fatal hl hx]
  exact failed_fatalNow _ x

section
variable {s : State} {cid : Nat} {c : Ctx} (hc : findCtx s cid = some c)
include hc

/-- R426: a watchdog ends its context, with the kind and the count in the first two info words. -/
theorem failed_watchdogFatal (hl : logitSlot c = none) (kind count : Nat) : ∃ w,
    Failed (watchdogFatal s cid kind count) cid ⟨0x21, BitVec.ofNat 64 kind, BitVec.ofNat 64 count, w, 0⟩ := by
  obtain ⟨u, hu⟩ : ∃ u, u = focus { s with free := s.free + 1 } cid := ⟨_, rfl⟩
  have huc : u.ctx = c := by rw [hu]; exact focus_ctx (s := { s with free := s.free + 1 }) hc
  refine ⟨fw u 2, ?_⟩
  unfold watchdogFatal
  simp only [← hu]
  have h := failed_takeTrap (s := u) (x := ⟨0x21, BitVec.ofNat 64 kind, BitVec.ofNat 64 count, fw u 2, 0⟩) (huc ▸ hl) rfl
  rwa [huc, cid_of_findCtx hc] at h

theorem exec_hangWatchdogExpiry : exec (.hangWatchdogExpiry cid) s =
    .next (if s.img.hangt ≠ 0 ∧ c.hang ≥ s.img.hangt then watchdogFatal s cid 1 c.hang else s) := by
  show execHangWatchdogExpiry cid s = _
  simp only [execHangWatchdogExpiry, hc]

theorem exec_waitWatchdogExpiry : exec (.waitWatchdogExpiry cid) s =
    .next (if s.img.dwait ≠ 0 ∧ c.dwait ≥ s.img.dwait then watchdogFatal s cid 2 c.dwait else s) := by
  show execWaitWatchdogExpiry cid s = _
  simp only [execWaitWatchdogExpiry, hc]

/-! ## CTXCMD (R423) -/

theorem exec_ctxcmdEndTask : ∃ t x, exec (.ctxcmdEndTask cid) s = .next t ∧ x.cause = 0x21 ∧ Failed t cid x := by
  obtain ⟨u, hu⟩ : ∃ u, u = focus { s with free := s.free + 1 } cid := ⟨_, rfl⟩
  have huc : u.ctx.cid = cid := by
    rw [hu, focus_ctx (s := { s with free := s.free + 1 }) hc]; exact cid_of_findCtx hc
  refine ⟨_, ⟨0x21, fw u 0, fw u 1, fw u 2, 0⟩, ?_, rfl, huc ▸ failed_fatalNow u _⟩
  show execCtxcmdEndTask cid s = _
  simp only [execCtxcmdEndTask, hc, hu]

theorem exec_ctxcmdPark (hu : c.upper = false) (hp : canPark c = true) :
    exec (.ctxcmdPark cid) s = .next (parkNow (focus s cid)) := by
  show execCtxcmdPark cid s = _
  simp only [execCtxcmdPark, hc, hu, Bool.false_eq_true, if_false, List.all_cons, List.all_nil, Option.any_some, hp,
    Bool.and_self, if_true, List.foldl_cons, List.foldl_nil]

/-- R423: a context that is parked by command keeps its registers and its TCLK. -/
theorem findCtx_parkNow_focus (hp : canPark c = true) : ∃ d, findCtx (parkNow (focus s cid)) cid = some d ∧
    d.role = .parked ∧ d.saved.isSome = true ∧ d.tclk = c.tclk ∧ d.r = c.r := by
  simp only [canPark, Bool.and_eq_true, beq_iff_eq, bne_iff_ne, ne_eq] at hp
  obtain ⟨⟨hs, hr⟩, -⟩ := hp
  have hctx := focus_ctx hc
  obtain ⟨v, x, -, hpark, -⟩ := parkNow_ctx (s := focus s cid) (hctx ▸ hs) (hctx ▸ hr)
  rw [hctx] at hpark
  refine ⟨(parkNow (focus s cid)).ctx, findCtx_focused ?_ ?_, ?_⟩ <;> rw [hpark]
  · exact (cid_of_findCtx hc :)
  · exact (live_of_findCtx hc :)
  · exact ⟨rfl, rfl, rfl, rfl⟩

end

/-- R423: a halted context runs again. -/
theorem onlyCtx_ctxcmdResume {s : State} {cid : Nat} {c : Ctx} (hc : findCtx s cid = some c) (hh : c.status = .halted) :
    ∃ t, exec (.ctxcmdResume cid) s = .next t ∧ onlyCtx s t cid fun c => { c with status := .running, parkedAt := s.tick } := by
  obtain ⟨hframe, hself, hne⟩ := onlyCtx_updCtx s cid
    (f := fun c => if c.status ≠ .halted then c else { c with status := .running, parkedAt := s.tick })
    (fun x hx => by
      split
      · exact ⟨hx, rfl⟩
      · exact ⟨rfl, rfl⟩)
  refine ⟨_, rfl, hframe, ?_, hne⟩
  rw [hself, hc, Option.map_some, Option.map_some, if_neg (not_not.mpr hh)]

/-! ## The energy services (R418) -/

theorem frameDword_setFrameDword (s : State) (i : Nat) (v : Word) : frameDword (setFrameDword s i v) i = v := by
  have h := memRead_memPut_same s.mem (heelKey (frameAddr s.ctx + 8 * i)) (leBytes 8 v.toNat)
  rw [leBytes_length] at h
  have hval : frameDword (setFrameDword s i v) i = BitVec.ofNat 64 (leNat (leBytes 8 v.toNat)) := by
    rw [← h]; rfl
  rw [hval, leNat_leBytes, Nat.mod_eq_of_lt (show v.toNat < 256 ^ 8 from v.isLt), BitVec.ofNat_toNat, BitVec.setWidth_eq]

theorem frameDword_toNat (s : State) (i : Nat) :
    (frameDword s i).toNat = leNat (memRead s.mem (heelKey (frameAddr s.ctx + 8 * i)) 8) := by
  have h := leNat_lt (memRead s.mem (heelKey (frameAddr s.ctx + 8 * i)) 8)
  rw [memRead_length] at h
  rw [frameDword, BitVec.toNat_ofNat]
  exact Nat.mod_eq_of_lt h

theorem resume_ctx_energy {s : State} {v : Saved} (h : s.ctx.saved = some v) :
    (resume s).ctx.energy = (frameDword s 16).toNat % 2 ^ 48 ∧
    (resume s).ctx.energySat = ((frameDword s 16).toNat / 2 ^ 63 == 1) := by
  unfold resume
  simp only [h]
  exact ⟨rfl, rfl⟩

/-- R41: the resumption of a context that is there changes that context alone. -/
theorem findCtx_resume_focus {s : State} {k : Nat} {x : Ctx} (hx : findCtx s k = some x) :
    (findCtx (resume (focus s k)) k = some (resume (focus s k)).ctx ∧
      (x.saved = none → (resume (focus s k)).ctx = x)) ∧
    ∀ j, j ≠ k → findCtx (resume (focus s k)) j = findCtx s j := by
  have hctx := focus_ctx hx
  obtain ⟨hcid, -⟩ := resume_ctx_kept (focus s k)
  rw [hctx, cid_of_findCtx hx] at hcid
  have hsame : x.saved = none → resume (focus s k) = focus s k := fun h => by
    unfold resume; rw [hctx, h]
  refine ⟨⟨findCtx_focused hcid ?_, fun h => by rw [hsame h, hctx]⟩, fun j hj =>
    findCtx_focused_ne hx (resume_others _) hcid hj⟩
  cases hv : x.saved with
  | none => rw [hsame hv, hctx]; exact live_of_findCtx hx
  | some v => rw [Ctx.live, resume_ctx_status (hctx.symm ▸ hv)]; rfl

/-- R41: the resumption of other contexts leaves one that is not stopped as it is. -/
theorem findCtx_resumeAll {cid : Nat} {d : Ctx} (hs : d.saved = none) (l : List Ctx) (s : State)
    (hl : ∀ c ∈ l, (findCtx s c.cid).isSome = true) (hd : findCtx s cid = some d) :
    findCtx (l.foldl (fun s c => resume (focus s c.cid)) s) cid = some d := by
  induction l generalizing s with
  | nil => exact hd
  | cons c l ih =>
    obtain ⟨x, hx⟩ := Option.isSome_iff_exists.mp (hl c List.mem_cons_self)
    obtain ⟨⟨hself, hnone⟩, hne⟩ := findCtx_resume_focus hx
    rw [List.foldl_cons]
    refine ih _ (fun y hy => ?_) ?_
    · by_cases h : y.cid = c.cid
      · rw [h, hself]; rfl
      · rw [hne _ h]; exact hl y (List.mem_cons_of_mem _ hy)
    · by_cases h : cid = c.cid
      · subst h
        obtain rfl : x = d := Option.some.inj (hx.symm.trans hd)
        rw [hself, hnone hs]
      · rw [hne _ h]; exact hd

theorem findCtx_resumeRing {s : State} {cid : Nat} {d : Ctx} (hs : d.saved = none) (hd : findCtx s cid = some d) :
    findCtx (resumeRing s) cid = some d := by
  unfold resumeRing
  split
  · refine findCtx_resumeAll hs _ s (fun c hc => ?_) hd
    simp only [ring, List.mem_filter, Bool.and_eq_true] at hc
    obtain ⟨⟨hmem, ⟨hlive, -⟩, -⟩, -⟩ := hc
    exact List.find?_isSome.mpr ⟨c, hmem, by simp [hlive]⟩
  · exact hd

/-- R418: a service with an answer for the energy word of the frame. -/
theorem serveEnergy_serves {s : State} {cid imm : Nat} {c : Ctx} {v : Saved} (hc : findCtx s cid = some c)
    (hs : c.status = .trapped) (ht : c.tcause = 0x10) (h0 : c.tinfo[0].toNat = imm) (h1 : c.tinfo[1] = 1) (hv : c.saved = some v)
    (f : State → Nat) (hf : f (focus s cid) < 2 ^ 63) : ∃ d, findCtx (serveEnergy s cid imm f) cid = some d ∧
      d.status = .running ∧ d.energy = f (focus s cid) % 2 ^ 48 ∧ d.energySat = false ∧ d.tclk = v.t ∧ d.saved = none := by
  have hctx := focus_ctx hc
  obtain ⟨u, hu⟩ : ∃ u, u = setFrameDword (focus s cid) 16 (BitVec.ofNat 64 (f (focus s cid))) := ⟨_, rfl⟩
  have huv : u.ctx.saved = some v := by rw [hu]; show (focus s cid).ctx.saved = _; rw [hctx, hv]
  have hucid : u.ctx.cid = cid := by rw [hu]; show (focus s cid).ctx.cid = _; rw [hctx, cid_of_findCtx hc]
  have hword : (frameDword u 16).toNat = f (focus s cid) := by
    rw [hu, frameDword_setFrameDword, BitVec.toNat_ofNat, Nat.mod_eq_of_lt (by omega)]
  obtain ⟨henergy, hsat⟩ := resume_ctx_energy huv
  rw [hword] at henergy hsat
  have hfound : findCtx (resume u) cid = some (resume u).ctx :=
    findCtx_focused ((resume_ctx_kept u).1.trans hucid) (by rw [Ctx.live, resume_ctx_status huv]; rfl)
  refine ⟨(resume u).ctx, ?_, resume_ctx_status huv, henergy, ?_, resume_ctx_tclk huv, resume_ctx_saved u⟩
  · simp only [serveEnergy, hc]
    rw [if_pos ⟨hs, ht, h0, h1⟩, ← hu]
    exact findCtx_resumeRing (resume_ctx_saved u) hfound
  · rw [hsat, Nat.div_eq_of_lt hf]; rfl

end Sys2Proof.Proofs
end

section
/-! PROOF. The end of a self-test: the log, the unit it retires, and the contexts it classifies (O56). -/

namespace Sys2Proof.Proofs

open Sys2Proof.Machine
open Sys2Proof.Laws

/-! ## The steps a classification is made of (R377, R444) -/

/-- A step at the context at hand that leaves the other contexts, the islands and the Cobbler, and takes no event back. -/
def OnlyAtHand (s t : State) : Prop :=
  t.ctx.cid = s.ctx.cid ∧ t.ctx.r = s.ctx.r ∧ t.others = s.others ∧ t.units = s.units ∧ t.cob = s.cob ∧ ∀ i ∈ s.agenda, i ∈ t.agenda

theorem onlyAtHand_failLaunch (s : State) (x : Trap) : OnlyAtHand s (failLaunch s x) :=
  ⟨rfl, rfl, rfl, rfl, rfl, fun _ h => List.mem_append_left _ h⟩

theorem onlyAtHand_fatalNow (s : State) (x : Trap) : OnlyAtHand s (fatalNow s x) := by
  unfold fatalNow
  split
  · exact ⟨rfl, rfl, rfl, rfl, rfl, fun _ h => List.mem_append_left _ h⟩
  · exact ⟨rfl, rfl, rfl, rfl, rfl, fun _ h => List.mem_append_left _ h⟩

theorem onlyAtHand_enterHandler (s : State) : OnlyAtHand s (enterHandler s) :=
  ⟨rfl, rfl, rfl, rfl, rfl, fun _ h => h⟩

/-- R446: an entry of the log changes the log and its count. -/
theorem logEntry_frame (s : State) (tick cause cls ukind unit : Nat) (addr : Word) (k : Nat) :
    logEntry s tick cause cls ukind unit addr k = { s with
      mem := (logEntry s tick cause cls ukind unit addr k).mem, cob := { s.cob with total := s.cob.total + 1 } } := rfl

/-- R377: what a context is that received the class of its error: in its handler, or ended, with its info words kept. -/
def ClassTaken (c d : Ctx) (pass : Bool) : Prop :=
  d.r = c.r ∧ d.tinfo = c.tinfo ∧
    (pass = true → tvecAt c ≠ 0 → d.status = .handler ∧ d.pc = tvecAt c ∧ d.tcause = 0x16 ∧ d.saved = c.saved) ∧
    (pass = false ∨ tvecAt c = 0 → d.status = .trapped ∧ d.tcause = 0x21)

theorem tinfo_heldTrap (c : Ctx) : #v[(heldTrap c).i0, (heldTrap c).i1, (heldTrap c).i2, (heldTrap c).i3] = c.tinfo := by
  ext i hi
  match i, hi with
  | 0, _ | 1, _ | 2, _ | 3, _ => rfl

theorem takeClass_spec {s : State} (hx : s.ctx.tcause = 0x16) (tick ukind unit idx : Nat) (pass : Bool) :
    let t := takeClass s tick (heldTrap s.ctx) ukind unit idx pass
    (t.ctx.cid = s.ctx.cid ∧ t.others = s.others ∧ t.units = s.units ∧ t.cob = { s.cob with total := s.cob.total + 1 } ∧
      ∀ i ∈ s.agenda, i ∈ t.agenda) ∧
    ClassTaken s.ctx t.ctx pass ∧ (pass = false ∨ tvecAt s.ctx = 0 → .taskRetirement s.ctx.cid ∈ t.agenda) := by
  obtain ⟨u, hu⟩ : ∃ u, u = logEntry s tick 0x16 (b2n !pass) ukind (unitField ukind unit idx) (heldTrap s.ctx).i0 s.ctx.cid := ⟨_, rfl⟩
  have huc : u.ctx = s.ctx := by rw [hu]; rfl
  have hframe : u.others = s.others ∧ u.units = s.units ∧ u.cob = { s.cob with total := s.cob.total + 1 } ∧ u.agenda = s.agenda := by
    rw [hu]; exact ⟨rfl, rfl, rfl, rfl⟩
  obtain ⟨hothers, hunits, hcob, hagenda⟩ := hframe
  have hkeep : ∀ t, OnlyAtHand u t → t.ctx.cid = s.ctx.cid ∧ t.others = s.others ∧ t.units = s.units ∧
      t.cob = { s.cob with total := s.cob.total + 1 } ∧ ∀ i ∈ s.agenda, i ∈ t.agenda := by
    rintro t ⟨hcid, -, ho, hun, hco, ha⟩
    exact ⟨hcid.trans (congrArg Ctx.cid huc), ho.trans hothers, hun.trans hunits, hco.trans hcob, fun i hi => ha i (hagenda.symm ▸ hi)⟩
  have hfails : ∀ t, OnlyAtHand u t → Failed t u.ctx.cid { heldTrap s.ctx with cause := 0x21 } →
      ¬ (pass = true ∧ tvecAt s.ctx ≠ 0) → ClassTaken s.ctx t.ctx pass ∧
      (pass = false ∨ tvecAt s.ctx = 0 → .taskRetirement s.ctx.cid ∈ t.agenda) := by
    rintro t ⟨-, hr, -⟩ ⟨-, hs, hcause, hinfo, hret⟩ hn
    exact ⟨⟨hr.trans (congrArg Ctx.r huc), hinfo.trans (tinfo_heldTrap s.ctx), fun h1 h2 => absurd ⟨h1, h2⟩ hn,
      fun _ => ⟨hs, hcause⟩⟩, fun _ => huc ▸ hret⟩
  have ht : takeClass s tick (heldTrap s.ctx) ukind unit idx pass =
      if pass then deliverTvec u (heldTrap s.ctx) else fatalNow u { heldTrap s.ctx with cause := 0x21 } := by rw [hu]; rfl
  rw [ht]
  cases pass with
  | false =>
    exact ⟨hkeep _ (onlyAtHand_fatalNow u _), hfails _ (onlyAtHand_fatalNow u _) (failed_fatalNow u _) (by simp)⟩
  | true =>
    rw [if_pos rfl, deliverTvec, huc]
    by_cases hv : tvecAt s.ctx = 0
    · rw [if_pos hv]
      exact ⟨hkeep _ (onlyAtHand_failLaunch u _), hfails _ (onlyAtHand_failLaunch u _) (failed_failLaunch u _) (by simp [hv])⟩
    · rw [if_neg hv]
      have hno : ¬ (true = false ∨ tvecAt s.ctx = 0) := not_or.mpr ⟨Bool.noConfusion, hv⟩
      refine ⟨hkeep _ (onlyAtHand_enterHandler u), ⟨?_, ?_, fun _ _ => ⟨rfl, ?_, ?_, ?_⟩, fun h => absurd h hno⟩,
        fun h => absurd h hno⟩
      · exact (congrArg Ctx.r huc :)
      · exact (congrArg Ctx.tinfo huc :)
      · exact (congrArg tvecAt huc :)
      · exact (congrArg Ctx.tcause huc :).trans hx
      · exact (congrArg Ctx.saved huc :)

/-! ## The contexts that the errors trapped (R377, R445, R446) -/

/-- R377: a context that waits for the class of a mismatch. -/
def waitsForClass (c : Ctx) : Bool := c.status == .trapped && c.tcause == 0x16

/-- R377, R446: the classification of one error of a test. -/
def classifyOne (x : SelfTest) (pass : Bool) (s : State) (y : Nat × Nat) : State :=
  match (findCtx s y.1).filter waitsForClass with
  | some c => takeClass (focus s y.1) y.2 (heldTrap c) x.ukind x.unit x.idx pass
  | none => logEntry s y.2 0x16 (b2n !pass) x.ukind (unitField x.ukind x.unit x.idx) x.addr (y.1 % 4096)

theorem not_waitsForClass {c d : Ctx} {pass : Bool} (h : ClassTaken c d pass) : waitsForClass d = false := by
  obtain ⟨-, -, hhandler, hended⟩ := h
  unfold waitsForClass
  by_cases hp : pass = false ∨ tvecAt c = 0
  · rw [(hended hp).2]; simp
  · rw [not_or, Bool.not_eq_false] at hp
    rw [(hhandler hp.1 hp.2).1]; rfl

theorem focus_keeps (s : State) (cid : Nat) :
    (focus s cid).units = s.units ∧ (focus s cid).cob = s.cob ∧ (focus s cid).agenda = s.agenda := by
  rw [focus_frame]
  exact ⟨rfl, rfl, rfl⟩

section
variable (x : SelfTest) (pass : Bool) (s : State) (y : Nat × Nat)

/-- R446: every error makes one entry of the log. -/
theorem classifyOne_keeps : (classifyOne x pass s y).units = s.units ∧
    (classifyOne x pass s y).cob = { s.cob with total := s.cob.total + 1 } ∧ ∀ i ∈ s.agenda, i ∈ (classifyOne x pass s y).agenda := by
  unfold classifyOne
  split
  · rename_i c hc
    obtain ⟨hfind, hw⟩ := Option.filter_eq_some_iff.mp hc
    have hctx := focus_ctx hfind
    simp only [waitsForClass, Bool.and_eq_true, beq_iff_eq] at hw
    obtain ⟨⟨-, -, hunits, hcob, hag⟩, -⟩ := takeClass_spec (s := focus s y.1) (hctx ▸ hw.2) y.2 x.ukind x.unit x.idx pass
    rw [hctx] at hunits hcob hag
    obtain ⟨hunits', hcob', hag'⟩ := focus_keeps s y.1
    exact ⟨hunits.trans hunits', hcob.trans (by rw [hcob']), fun i hi => hag i (hag'.symm ▸ hi)⟩
  · exact ⟨rfl, rfl, fun _ h => h⟩

theorem findCtx_classifyOne_waits {c : Ctx} (hc : findCtx s y.1 = some c) (hw : waitsForClass c = true) :
    (∃ d, findCtx (classifyOne x pass s y) y.1 = some d ∧ ClassTaken c d pass) ∧
    (pass = false ∨ tvecAt c = 0 → .taskRetirement y.1 ∈ (classifyOne x pass s y).agenda) ∧
    ∀ k, k ≠ y.1 → findCtx (classifyOne x pass s y) k = findCtx s k := by
  have hctx := focus_ctx hc
  have hone : classifyOne x pass s y = takeClass (focus s y.1) y.2 (heldTrap c) x.ukind x.unit x.idx pass := by
    simp only [classifyOne, hc, Option.filter_some, hw, if_true]
  simp only [waitsForClass, Bool.and_eq_true, beq_iff_eq] at hw
  obtain ⟨⟨hcid, hothers, -⟩, htaken, hret⟩ := takeClass_spec (s := focus s y.1) (hctx ▸ hw.2) y.2 x.ukind x.unit x.idx pass
  rw [hctx, ← hone] at hothers htaken hcid hret
  rw [cid_of_findCtx hc] at hcid hret
  refine ⟨⟨_, findCtx_focused hcid ?_, htaken⟩, hret, fun k hk => findCtx_focused_ne hc hothers hcid hk⟩
  obtain ⟨-, -, hhandler, hended⟩ := htaken
  by_cases hp : pass = false ∨ tvecAt c = 0
  · rw [Ctx.live, (hended hp).1]; rfl
  · rw [not_or, Bool.not_eq_false] at hp
    rw [Ctx.live, (hhandler hp.1 hp.2).1]; rfl

theorem findCtx_classifyOne_ne {k : Nat} {d : Ctx} (hd : findCtx s k = some d) (hk : k ≠ y.1 ∨ waitsForClass d = false) :
    findCtx (classifyOne x pass s y) k = some d := by
  cases hf : (findCtx s y.1).filter waitsForClass with
  | some c =>
    obtain ⟨hfind, hw⟩ := Option.filter_eq_some_iff.mp hf
    have hne : k ≠ y.1 := by
      rintro rfl
      obtain rfl := Option.some.inj (hd.symm.trans hfind)
      rcases hk with hk | hk
      · exact hk rfl
      · rw [hk] at hw; cases hw
    rw [(findCtx_classifyOne_waits x pass s y hfind hw).2.2 k hne, hd]
  | none =>
    have hone : classifyOne x pass s y =
        logEntry s y.2 0x16 (b2n !pass) x.ukind (unitField x.ukind x.unit x.idx) x.addr (y.1 % 4096) := by
      simp only [classifyOne, hf]
    rw [hone, logEntry_frame]
    exact hd

end

theorem classifyTrapped_keeps (x : SelfTest) (pass : Bool) (l : List (Nat × Nat)) (s : State) :
    (l.foldl (classifyOne x pass) s).units = s.units ∧
    (l.foldl (classifyOne x pass) s).cob = { s.cob with total := s.cob.total + l.length } ∧
    ∀ i ∈ s.agenda, i ∈ (l.foldl (classifyOne x pass) s).agenda := by
  induction l generalizing s with
  | nil => exact ⟨rfl, rfl, fun _ h => h⟩
  | cons y l ih =>
    obtain ⟨hu, hc, ha⟩ := classifyOne_keeps x pass s y
    obtain ⟨hu', hc', ha'⟩ := ih (classifyOne x pass s y)
    refine ⟨hu'.trans hu, ?_, fun i hi => ha' i (ha i hi)⟩
    rw [List.foldl_cons, hc', hc, List.length_cons, Nat.add_right_comm, Nat.add_assoc]

/-- R377: a context that has received its class, or waits for none, is left alone. -/
theorem findCtx_classify_settled (x : SelfTest) (pass : Bool) (l : List (Nat × Nat)) (s : State) {k : Nat} {d : Ctx}
    (hd : findCtx s k = some d) (hw : waitsForClass d = false) : findCtx (l.foldl (classifyOne x pass) s) k = some d := by
  induction l generalizing s with
  | nil => exact hd
  | cons y l ih => exact ih _ (findCtx_classifyOne_ne x pass s y hd (.inr hw))

/-- R377, R445: every context that an error of the test trapped receives its class. -/
theorem findCtx_classify_waits (x : SelfTest) (pass : Bool) (l : List (Nat × Nat)) (s : State) {y : Nat × Nat} (hy : y ∈ l)
    {c : Ctx} (hc : findCtx s y.1 = some c) (hw : waitsForClass c = true) :
    (∃ d, findCtx (l.foldl (classifyOne x pass) s) y.1 = some d ∧ ClassTaken c d pass) ∧
    (pass = false ∨ tvecAt c = 0 → .taskRetirement y.1 ∈ (l.foldl (classifyOne x pass) s).agenda) := by
  induction l generalizing s with
  | nil => exact absurd hy List.not_mem_nil
  | cons z l ih =>
    rw [List.foldl_cons]
    by_cases hz : y.1 = z.1
    · obtain ⟨⟨d, hd, htaken⟩, hret, -⟩ := findCtx_classifyOne_waits x pass s z (hz ▸ hc) hw
      rw [← hz] at hd hret
      exact ⟨⟨d, findCtx_classify_settled x pass l _ hd (not_waitsForClass htaken), htaken⟩,
        fun h => (classifyTrapped_keeps x pass l _).2.2 _ (hret h)⟩
    · rcases List.mem_cons.mp hy with rfl | hy
      · exact absurd rfl hz
      · exact ih _ hy (findCtx_classifyOne_ne x pass s z hc (.inl hz))

/-! ## The unit and the log (R444, R446) -/

theorem logQuiet_eq (s : State) (x : SelfTest) (pass : Bool) : ∃ m, logQuiet s x pass =
    { s with mem := m, cob := { s.cob with total := s.cob.total + if x.cids.isEmpty then 1 else 0 } } := by
  unfold logQuiet
  split
  · exact ⟨_, logEntry_frame ..⟩
  · exact ⟨s.mem, rfl⟩

theorem dropLane_frame (s : State) (port : Nat) : dropLane s port = { s with
    host := (dropLane s port).host, cob := { s.cob with dropped := s.cob.dropped ++ [port] } } := by
  have hfold : ∀ (f : Launch → Launch) (l : List Launch) (s : State),
      l.foldl (fun s l => updLaunch s l.lid f) s = { s with host := (l.foldl (fun s l => updLaunch s l.lid f) s).host } := by
    intro f l
    induction l with
    | nil => exact fun _ => rfl
    | cons a l ih => intro s; rw [List.foldl_cons, ih]; rfl
  unfold dropLane
  dsimp only
  rw [hfold]

/-- R444: the retirement of a unit changes no context, and of the Cobbler the lanes it has dropped. -/
theorem retireUnit_keeps (s : State) (x : SelfTest) : (retireUnit s x).ctx = s.ctx ∧ (retireUnit s x).others = s.others ∧
    ∃ dr, (retireUnit s x).cob = { s.cob with dropped := dr } := by
  unfold retireUnit
  dsimp only
  split
  · generalize x.idx / (if x.unit < 192 then 16 else 64) = bank
    split <;> exact ⟨rfl, rfl, s.cob.dropped, rfl⟩
  · exact ⟨rfl, rfl, s.cob.dropped, rfl⟩
  · exact ⟨rfl, rfl, s.cob.dropped, rfl⟩
  · rw [dropLane_frame]; exact ⟨rfl, rfl, _, rfl⟩
  · exact ⟨rfl, rfl, s.cob.dropped, rfl⟩

/-- R444: a core or an engine that is retired is disabled. -/
theorem retireUnit_disabled (s : State) {x : SelfTest} (hk : x.ukind = 1 ∨ x.ukind = 2) :
    (getIsland (retireUnit s x) x.unit).disabled = true := by
  have hunits : (retireUnit s x).units = updIsland s.units x.unit fun u => { u with disabled := true } := by
    rcases hk with hk | hk <;> simp only [retireUnit, hk]
  rw [getIsland_upd s x.unit (f := fun u => { u with disabled := true }) (fun _ => rfl) _ hunits]

end Sys2Proof.Proofs
end

section
/-! PROOF. Self-tests as a whole, fences, link errors and the request of a partition swap (O56). -/

namespace Sys2Proof.Proofs

open Sys2Proof.Machine
open Sys2Proof.Laws

/-! ## The end of a test (R377, R444 to R446) -/

/-- R444: a machine whose test has ended, with the unit retired if it failed, before its contexts are classified. -/
def testBase (s : State) (x : SelfTest) (pass : Bool) : State :=
  let s := { s with cob := { s.cob with tests := s.cob.tests.filter fun y => y.n != x.n } }
  if pass then s else retireUnit { s with free := s.free + 1, cob := { s.cob with retired := s.cob.retired + 1 } } x

/-- R444, R446: a machine that has logged and classified what the errors of a test trapped. -/
def testEnded (s : State) (x : SelfTest) (pass : Bool) : State :=
  x.cids.foldl (classifyOne x pass) (logQuiet (testBase s x pass) x pass)

theorem exec_selfTestEnd {s : State} {x : SelfTest} (pass : Bool) (h1 : s.cob.tests = [x]) (he : x.ends ≤ s.tick) :
    exec (.selfTestEnd x.n pass) s = .next (classifyWaiting (testEnded s x pass) x pass) := by
  show execSelfTestEnd x.n pass s = _
  have hfind : s.cob.tests.find? (fun y => y.n == x.n) = some x := by simp [h1]
  simp only [execSelfTestEnd, hfind, if_neg (Nat.not_lt.mpr he)]
  cases pass <;> rfl

theorem testBase_keeps (s : State) (x : SelfTest) (pass : Bool) : (testBase s x pass).ctx = s.ctx ∧
    (testBase s x pass).others = s.others ∧ ∃ dr, (testBase s x pass).cob = { s.cob with
      tests := s.cob.tests.filter fun y => y.n != x.n
      retired := s.cob.retired + if pass = true then 0 else 1
      dropped := dr } := by
  unfold testBase
  cases pass with
  | true => exact ⟨rfl, rfl, s.cob.dropped, rfl⟩
  | false =>
    simp only [Bool.false_eq_true, if_false]
    exact retireUnit_keeps _ x

theorem testBase_disabled (s : State) {x : SelfTest} (hk : x.ukind = 1 ∨ x.ukind = 2) :
    (getIsland (testBase s x false) x.unit).disabled = true :=
  retireUnit_disabled _ hk

section
variable (s : State) (x : SelfTest) (pass : Bool)

theorem getIsland_testEnded (n : Nat) : getIsland (testEnded s x pass) n = getIsland (testBase s x pass) n := by
  have hunits : (testEnded s x pass).units = (testBase s x pass).units := by
    obtain ⟨m, hm⟩ := logQuiet_eq (testBase s x pass) x pass
    rw [testEnded, (classifyTrapped_keeps x pass x.cids _).1, hm]
  rw [getIsland, getIsland, hunits]

/-- R446: each error is counted once, and one that no context met too. -/
theorem testEnded_cob : ∃ dr, (testEnded s x pass).cob = { s.cob with
    tests := s.cob.tests.filter fun y => y.n != x.n
    retired := s.cob.retired + if pass = true then 0 else 1
    dropped := dr
    total := s.cob.total + max 1 x.cids.length } := by
  obtain ⟨-, -, dr, hbase⟩ := testBase_keeps s x pass
  obtain ⟨m, hm⟩ := logQuiet_eq (testBase s x pass) x pass
  refine ⟨dr, ?_⟩
  have hlen : (if x.cids.isEmpty then 1 else 0) + x.cids.length = max 1 x.cids.length := by
    cases x.cids with
    | nil => rfl
    | cons y l => simp
  rw [testEnded, (classifyTrapped_keeps x pass x.cids _).2.1, hm]
  simp only [hbase, Nat.add_assoc, hlen]

/-- R377, R445: each context that an error trapped receives its class. -/
theorem findCtx_testEnded {y : Nat × Nat} (hy : y ∈ x.cids) {c : Ctx} (hc : findCtx s y.1 = some c) (hs : c.status = .trapped)
    (ht : c.tcause = 0x16) : (∃ d, findCtx (testEnded s x pass) y.1 = some d ∧ ClassTaken c d pass) ∧
    (pass = false ∨ tvecAt c = 0 → .taskRetirement y.1 ∈ (testEnded s x pass).agenda) := by
  obtain ⟨hctx, hothers, -⟩ := testBase_keeps s x pass
  obtain ⟨m, hm⟩ := logQuiet_eq (testBase s x pass) x pass
  refine findCtx_classify_waits x pass x.cids _ hy ?_ (by simp [waitsForClass, hs, ht])
  rw [hm]
  exact (findCtx_congr hctx hothers y.1).trans hc

/-- R444: without errors that trapped contexts, the contexts stay as they are. -/
theorem testEnded_contexts (h : x.cids = []) : (testEnded s x pass).ctx = s.ctx ∧ (testEnded s x pass).others = s.others := by
  obtain ⟨hctx, hothers, -⟩ := testBase_keeps s x pass
  obtain ⟨m, hm⟩ := logQuiet_eq (testBase s x pass) x pass
  rw [testEnded, h, List.foldl_nil, hm]
  exact ⟨hctx, hothers⟩

end

/-- R445: a load that is about to be made is held while the load unit of its core is under test. -/
theorem fenced_of_load {s : State} {x : SelfTest} {n : Nat} (ht : s.cob.tests = [x]) (hu : s.ctx.gunit = x.unit)
    (hk : x.ukind = 1) (hl : ∃ l ∈ s.ctx.latches, l.ld.isSome = true ∧ l.due = n + 2) : fenced s n = true := by
  obtain ⟨l, hmem, hld, hdue⟩ := hl
  have hown : s.cob.tests.filter (fun y => y.unit == s.ctx.gunit && decide (y.ukind ≤ 2)) = [x] := by
    rw [ht]; simp [hu, hk]
  have hlds : (s.ctx.latches.filter fun l => l.ld.isSome && l.due == n + 2).isEmpty = false := by
    rw [List.isEmpty_eq_false_iff_exists_mem]
    exact ⟨l, List.mem_filter.mpr ⟨hmem, by simp [hld, hdue]⟩⟩
  unfold fenced
  simp only [hown, hlds, List.any_cons, hk]
  simp

/-- R446: a machine as it is judged which waits the fence of a test caused. -/
def underTest (s : State) (x : SelfTest) : State := { s with cob := { s.cob with tests := [x] } }

/-- R446: the one context of a part that met the fence of a test in its running cycle is classified with it. -/
theorem classifyWaiting_single {s : State} {x : SelfTest} (pass : Bool) (ho : s.others = []) (hl : s.ctx.live = true)
    (hw : s.ctx.owed = true) (hf : fenced (underTest s x) s.ctx.now = true) :
    (classifyWaiting s x pass).cob.classified = s.cob.classified ++ [⟨s.ctx.cid, x.ukind, x.idx, s.ctx.tclk, pass⟩] := by
  have hfocus : focus (underTest s x) s.ctx.cid = underTest s x := focus_self (s := underTest s x) hl
  have hall : allCtx s = [s.ctx] := by rw [allCtx, ho]
  have hlate : ((allCtx s).filter fun c => c.live && c.owed && fenced (focus (underTest s x) c.cid) c.now) = [s.ctx] := by
    rw [hall, List.filter_cons_of_pos (by simp only [hl, hw, hfocus, hf, Bool.and_self]), List.filter_nil]
  have hclass : (classifyWaiting s x pass).cob.classified = s.cob.classified ++ ((allCtx s).filter fun c =>
    c.live && c.owed && fenced (focus (underTest s x) c.cid) c.now).map fun c => ⟨c.cid, x.ukind, x.idx, c.tclk, pass⟩ := rfl
  rw [hclass, hlate, List.map_cons, List.map_nil]

/-! ## Fences, link errors and a partition that is to be swapped (R430, R444, R445) -/

theorem engineCycle_fenced {s : State} (hf : fenced s s.ctx.now = true) (hw : s.ctx.wait = .none) :
    engineCycle s = { s with ctx := { s.ctx with owed := true, wait := .stall 5 } } := by
  simp only [engineCycle, hf, if_true, standStill, State.up, hw]

theorem exec_linkError {s : State} {k u i : Nat} (h : ∀ x ∈ s.cob.tests, (x.ukind, x.unit, x.idx) ≠ (k, u, i)) : ∃ t x,
    exec (.linkError k u i) s = .next t ∧ t.cob.tests = s.cob.tests ++ [x] ∧ (x.ukind, x.unit, x.idx) = (k, u, i) ∧
    s.tick < x.ends ∧ x.ends ≤ s.tick + 5000 ∧ t.ctx = s.ctx ∧ t.mem = s.mem := by
  have hnew : (s.cob.tests.any fun x => x.ukind == k && x.unit == u && x.idx == i) = false := by
    rw [List.any_eq_false]
    intro x hx he
    simp only [Bool.and_eq_true, beq_iff_eq] at he
    obtain ⟨⟨hk, hu⟩, hi⟩ := he
    exact h x hx (by rw [hk, hu, hi])
  obtain ⟨x, hx⟩ : ∃ x : SelfTest, x =
    ⟨s.fresh, k, u, i, 0, s.tick, [], s.tick + 1 + Config.selfTestTicks s.fresh % 4999⟩ := ⟨_, rfl⟩
  refine ⟨{ s with fresh := s.fresh + 1, cob := { s.cob with tests := s.cob.tests ++ [x] } }, x, ?_, rfl, ?_, ?_, ?_, rfl, rfl⟩
  · show execLinkError k u i s = _
    simp only [execLinkError, startTest, hnew, Bool.false_eq_true, if_false, List.map_nil, hx]
  · rw [hx]
  · rw [hx]; dsimp only; omega
  · rw [hx]; dsimp only; omega

theorem exec_partitionSwapOut_running {s : State} {us : List Nat} (h : partitionHalted s us = false) : ∃ t,
    exec (.partitionSwapOut us) s = .next t ∧ us ∈ t.cob.swaps ∧ t.mem = s.mem ∧
    ∀ k d, findCtx s k = some d → findCtx t k = some (if d.role ≠ .parked ∧ d.preReq = false ∧ us.contains d.gunit = true then
      { d with preReq := true, preCnt := 0 } else d) := by
  refine ⟨{ requestPreempt s (fun c => us.contains c.gunit) with cob := { s.cob with
    swaps := if s.cob.swaps.contains us then s.cob.swaps else s.cob.swaps ++ [us] } }, ?_, ?_, rfl, ?_⟩
  · show execPartitionSwapOut us s = _
    simp only [execPartitionSwapOut, h, Bool.false_eq_true, if_false]
    rfl
  · show us ∈ if s.cob.swaps.contains us then s.cob.swaps else s.cob.swaps ++ [us]
    split
    · rename_i hc; exact List.contains_iff_mem.mp hc
    · exact List.mem_append_right _ (List.mem_singleton.mpr rfl)
  · intro k d hd
    exact findCtx_requestPreempt (fun c => us.contains c.gunit) hd

end Sys2Proof.Proofs
end

section
/-! PROOF. The contexts of a partition as it swaps out: the numbers they leave under (O56). -/

namespace Sys2Proof.Proofs

open Sys2Proof.Machine
open Sys2Proof.Laws

/-! ## Renumbering (R417) -/

/-- R417: a context under its new number. -/
def renumbered (b tick : Nat) (out : Bool) (x : Ctx) : Ctx := { x with swapped := out, cid := b, parkedAt := tick }

theorem renumbered_live (b tick : Nat) (out : Bool) (x : Ctx) : (renumbered b tick out x).live = x.live := rfl

theorem renumbered_cid (b tick : Nat) (out : Bool) (x : Ctx) : (renumbered b tick out x).cid = b := rfl

theorem renumber_contexts (s : State) (a b : Nat) (out : Bool) : (renumber s a b out).ctx = onNumber a (renumbered b s.tick out) s.ctx ∧
    (renumber s a b out).others = s.others.map (onNumber a (renumbered b s.tick out)) ∧ (renumber s a b out).mem = s.mem ∧
    (renumber s a b out).img = s.img := ⟨rfl, rfl, rfl, rfl⟩

theorem allCtx_renumber (s : State) (a b : Nat) (out : Bool) :
    allCtx (renumber s a b out) = (allCtx s).map (onNumber a (renumbered b s.tick out)) := rfl

theorem live_onNumber_renumbered (a b tick : Nat) (out : Bool) (x : Ctx) :
    (onNumber a (renumbered b tick out) x).live = x.live := by
  unfold onNumber
  split <;> rfl

section
variable {s : State} {a b : Nat} (out : Bool)

/-- Any number but the old and the new one finds what it found before. -/
theorem findCtx_renumber_ne {k : Nat} (ha : k ≠ a) (hb : k ≠ b) : findCtx (renumber s a b out) k = findCtx s k := by
  rw [findCtx, allCtx_renumber, List.find?_map, findCtx]
  have hp : ((fun c : Ctx => c.live && c.cid == k) ∘ onNumber a (renumbered b s.tick out)) = fun c => c.live && c.cid == k := by
    funext x
    rw [Function.comp_apply, live_onNumber_renumbered]
    unfold onNumber
    split
    · rename_i h
      simp only [Bool.and_eq_true, beq_iff_eq] at h
      simp [renumbered, h.2, beq_eq_false_iff_ne.mpr ha.symm, beq_eq_false_iff_ne.mpr hb.symm]
    · rfl
  rw [hp]
  cases h : (allCtx s).find? fun c => c.live && c.cid == k with
  | none => rfl
  | some x =>
    have hx : x.cid = k := cid_of_findCtx h
    simp [onNumber, hx, ha]

/-- No context is left under the old number. -/
theorem findCtx_renumber_old (h : a ≠ b) : findCtx (renumber s a b out) a = none := by
  rw [findCtx, allCtx_renumber, List.find?_eq_none]
  intro x hx hp
  obtain ⟨y, -, rfl⟩ := List.mem_map.mp hx
  rw [live_onNumber_renumbered] at hp
  unfold onNumber at hp
  split at hp <;> rename_i hc
  · simp [renumbered, h.symm] at hp
  · exact hc hp

theorem comp_onNumber_renumbered (x : Ctx) :
    ((fun c : Ctx => c.live && c.cid == b) ∘ onNumber a (renumbered b s.tick out)) x = (x.live && (x.cid == a || x.cid == b)) := by
  rw [Function.comp_apply, live_onNumber_renumbered]
  unfold onNumber
  cases hl : x.live with
  | false => rfl
  | true =>
    by_cases hx : x.cid = a
    · simp [hx, renumbered]
    · simp [hx]

/-- Under a number that was free, the context of the old number is found. -/
theorem findCtx_renumber_new (hb : findCtx s b = none) :
    findCtx (renumber s a b out) b = (findCtx s a).map (renumbered b s.tick out) := by
  rw [findCtx, allCtx_renumber, List.find?_map, findCtx]
  have hfree := List.find?_eq_none.mp hb
  have hp : (allCtx s).find? ((fun c : Ctx => c.live && c.cid == b) ∘ onNumber a (renumbered b s.tick out)) =
      (allCtx s).find? fun c => c.live && c.cid == a := List.find?_congr fun x hx => by
    have hne : ¬(x.live = true ∧ x.cid = b) := fun h => hfree x hx (by simp [h])
    rw [comp_onNumber_renumbered]
    cases hl : x.live with
    | false => rfl
    | true => simp [beq_eq_false_iff_ne.mpr fun h => hne ⟨hl, h⟩]
  rw [hp]
  refine Option.map_congr fun x hx => ?_
  rw [onNumber, if_pos (by simpa using List.find?_some hx)]

/-- Where no context has the old number, the new one finds what it found before. -/
theorem findCtx_renumber_absent (ha : findCtx s a = none) : findCtx (renumber s a b out) b = findCtx s b := by
  have hno := List.find?_eq_none.mp ha
  have hid : ∀ x ∈ allCtx s, onNumber a (renumbered b s.tick out) x = x := fun x hx => if_neg (hno x hx)
  rw [findCtx, allCtx_renumber, List.map_congr_left hid, List.map_id', findCtx]

end

/-! ## The contexts of a partition that leaves (R417) -/

theorem FilesMoved.findCtx_none {s t : State} (h : FilesMoved s t) {k : Nat} (hk : Machine.findCtx s k = none) :
    Machine.findCtx t k = none := by
  obtain ⟨g, hg, hctx, hoth⟩ := h
  have hkeeps : KeepsNumber g := fun x => by
    obtain ⟨m, hm⟩ := hg x
    rw [hm]; exact ⟨rfl, rfl⟩
  rw [findCtx_congr (s := mapCtx s g) hctx hoth, findCtx_mapCtx s hkeeps, hk, Option.map_none]

theorem filesMoved_of_contexts {s t : State} (hc : t.ctx = s.ctx) (ho : t.others = s.others) : FilesMoved s t :=
  ⟨id, fun c => ⟨c.fileAt, rfl⟩, hc, ho.trans (List.map_id _).symm⟩

theorem filesMoved_swapOutFile (s : State) (c : Ctx) : FilesMoved s (swapOutFile s c) := by
  unfold swapOutFile
  split
  · exact .refl s
  · split
    · exact filesMoved_updCtx rfl rfl _ _
    · split
      · exact filesMoved_saveFile s c
      · exact filesMoved_of_contexts rfl rfl
      · exact .refl s

/-- R417 steps 3 and 4: the grant, the frame and the engine image of a context go to the swap region. -/
def swapRegions (s : State) (c : Ctx) : State :=
  let s := { s with mem := memPut s.mem (heelKey (imageAddr c)) (((imageEntries c).take 512).flatMap (leBytes 8)) }
  let s := moveRegion s (spadKey c.gunit c.hdr.gbase) (swapSpad s c.gunit + c.hdr.gbase) c.hdr.quota
  let s := moveRegion s (heelKey (frameAddr c)) (swapFrame s c.cid) 0x1000
  moveRegion s (heelKey (imageAddr c)) (swapFrame s c.cid + 0x1000) 0x1000

theorem swapOutCtx_eq (s : State) (c : Ctx) :
    swapOutCtx s c = renumber (swapRegions (swapOutFile s c) c) c.cid (c.cid + 4096) true := rfl

theorem swapRegions_contexts (s : State) (c : Ctx) : (swapRegions s c).ctx = s.ctx ∧ (swapRegions s c).others = s.others :=
  ⟨rfl, rfl⟩

theorem filesMoved_swapRegions (s : State) (c : Ctx) : FilesMoved s (swapRegions (swapOutFile s c) c) := by
  obtain ⟨hctx, hothers⟩ := swapRegions_contexts (swapOutFile s c) c
  exact (filesMoved_swapOutFile s c).trans (filesMoved_of_contexts hctx hothers)

/-- R417: a context leaves under the number that is 4096 above its own; nothing else becomes of contexts. -/
theorem swapOutCtx_renumber (s : State) (c : Ctx) : ∃ u, FilesMoved s u ∧
    swapOutCtx s c = renumber u c.cid (c.cid + 4096) true := ⟨_, filesMoved_swapRegions s c, swapOutCtx_eq s c⟩

/-- R417: a context stands on its core yet, and the number it will leave under is free. -/
def Standing (c : Ctx) (t : State) : Prop :=
  findCtx t (c.cid + 4096) = none ∧ ∃ n, findCtx t c.cid = some { c with fileAt := n }

/-- R417: a context has left its core, under the number 4096 above its own. -/
def SwappedOut (c : Ctx) (t : State) : Prop :=
  findCtx t c.cid = none ∧ ∃ tick n, findCtx t (c.cid + 4096) =
    some { c with swapped := true, cid := c.cid + 4096, parkedAt := tick, fileAt := n }

theorem SwappedOut.of_contexts {c : Ctx} {s t : State} (h : SwappedOut c s) (hc : t.ctx = s.ctx) (ho : t.others = s.others) :
    SwappedOut c t := by
  unfold SwappedOut at *
  rwa [findCtx_congr hc ho, findCtx_congr hc ho]

section
variable {s : State} {c : Ctx} (hc : c.cid < 4096)
include hc

omit hc in
theorem swapOutCtx_self (h : Standing c s) {x : Ctx} (hx : x.cid = c.cid) : SwappedOut c (swapOutCtx s x) := by
  obtain ⟨u, hu, heq⟩ := swapOutCtx_renumber s x
  obtain ⟨hfree, n, hn⟩ := h
  obtain ⟨m, hm⟩ := hu.findCtx hn
  rw [heq, hx]
  refine ⟨findCtx_renumber_old true (by omega), u.tick, m, ?_⟩
  rw [findCtx_renumber_new true (hu.findCtx_none hfree), hm]
  rfl

theorem Standing.swapOutCtx (h : Standing c s) {x : Ctx} (hx : x.cid < 4096) (hn : x.cid ≠ c.cid) :
    Standing c (swapOutCtx s x) := by
  obtain ⟨u, hu, heq⟩ := swapOutCtx_renumber s x
  obtain ⟨hfree, n, hf⟩ := h
  obtain ⟨m, hm⟩ := hu.findCtx hf
  rw [heq]
  refine ⟨?_, m, ?_⟩
  · rw [findCtx_renumber_ne true (by omega) (by omega)]
    exact hu.findCtx_none hfree
  · rw [findCtx_renumber_ne true (by omega) (by omega), hm]

theorem SwappedOut.swapOutCtx (h : SwappedOut c s) {x : Ctx} (hx : x.cid < 4096) : SwappedOut c (swapOutCtx s x) := by
  obtain ⟨u, hu, heq⟩ := swapOutCtx_renumber s x
  obtain ⟨hgone, tick, n, hf⟩ := h
  obtain ⟨m, hm⟩ := hu.findCtx hf
  have hgone' := hu.findCtx_none hgone
  rw [heq]
  by_cases hn : x.cid = c.cid
  · rw [hn]
    exact ⟨findCtx_renumber_old true (by omega), tick, m, by rw [findCtx_renumber_absent true hgone', hm]⟩
  · refine ⟨?_, tick, m, ?_⟩
    · rw [findCtx_renumber_ne true (by omega) (by omega), hgone']
    · rw [findCtx_renumber_ne true (by omega) (by omega), hm]

/-- R417: whatever leaves after it, a context that has left stays away. -/
theorem SwappedOut.foldl {f : Ctx → Ctx} (hf : ∀ x, (f x).cid = x.cid) (l : List Ctx) (hl : ∀ x ∈ l, x.cid < 4096)
    (h : SwappedOut c s) : SwappedOut c (l.foldl (fun s x => Machine.swapOutCtx s (f x)) s) := by
  induction l generalizing s with
  | nil => exact h
  | cons x l ih =>
    refine ih (fun y hy => hl y (List.mem_cons_of_mem _ hy)) (h.swapOutCtx hc ?_)
    rw [hf]; exact hl x List.mem_cons_self

/-- R417: every context of the partition leaves. -/
theorem swappedOut_foldl {f : Ctx → Ctx} (hf : ∀ x, (f x).cid = x.cid) (l : List Ctx) (hl : ∀ x ∈ l, x.cid < 4096)
    (hmem : c ∈ l) (h : Standing c s) : SwappedOut c (l.foldl (fun s x => swapOutCtx s (f x)) s) := by
  induction l generalizing s with
  | nil => exact absurd hmem List.not_mem_nil
  | cons x l ih =>
    have hl' : ∀ y ∈ l, y.cid < 4096 := fun y hy => hl y (List.mem_cons_of_mem _ hy)
    rw [List.foldl_cons]
    by_cases hx : x.cid = c.cid
    · exact (swapOutCtx_self h ((hf x).trans hx)).foldl hc hf l hl'
    · rcases List.mem_cons.mp hmem with rfl | hmem
      · exact absurd rfl hx
      · refine ih hl' hmem (h.swapOutCtx hc ?_ ?_) <;> rw [hf]
        · exact hl x List.mem_cons_self
        · exact hx

end

/-- R417: a context gives up its grant to the swap region if it is the first of its launch on its unit. -/
def asLead (lead : List Ctx) (c : Ctx) : Ctx :=
  if lead.any (fun d => d.cid == c.cid) then c else { c with hdr := { c.hdr with quota := 0 } }

theorem asLead_cid (lead : List Ctx) (c : Ctx) : (asLead lead c).cid = c.cid := by
  unfold asLead
  split <;> rfl

/-- R417: the machine after every context of a partition has left. -/
def leftPartition (s : State) (us : List Nat) : State :=
  (partition s us).foldl (fun t c => swapOutCtx t (asLead (swapGrants (partition s us)) c)) s

theorem exec_partitionSwapOut_halted {s : State} {us : List Nat} (h : partitionHalted s us = true) : ∃ t,
    exec (.partitionSwapOut us) s = .next t ∧ t.ctx = (leftPartition s us).ctx ∧ t.others = (leftPartition s us).others ∧
    t.mem = (leftPartition s us).mem ∧ us ∉ t.cob.swaps ∧ .gangAdmission ∈ t.agenda := by
  refine ⟨post { leftPartition s us with
    cob := { (leftPartition s us).cob with swaps := (leftPartition s us).cob.swaps.filter fun p => p != us }
    units := (leftPartition s us).units.map fun u => if us.contains u.n then { u with loaded := [] } else u } .gangAdmission,
    ?_, rfl, rfl, rfl, ?_, List.mem_append_right _ (List.mem_singleton.mpr rfl)⟩
  · show execPartitionSwapOut us s = _
    simp only [execPartitionSwapOut, h, if_true]
    rfl
  · show us ∉ (leftPartition s us).cob.swaps.filter fun p => p != us
    simp

theorem swappedOut_leftPartition {s : State} {us : List Nat}
    (h : ∀ c ∈ partition s us, findCtx s c.cid = some c ∧ c.cid < 4096 ∧ findCtx s (c.cid + 4096) = none) {c : Ctx}
    (hc : c ∈ partition s us) : SwappedOut c (leftPartition s us) := by
  obtain ⟨hfind, hlt, hfree⟩ := h c hc
  exact swappedOut_foldl hlt (asLead_cid _) _ (fun x hx => (h x hx).2.1) hc ⟨hfree, c.fileAt, hfind⟩

end Sys2Proof.Proofs
end

section
/-! PROOF. What lies where in the swap region, and a partition that comes back (O56). -/

namespace Sys2Proof.Proofs

open Sys2Proof.Machine
open Sys2Proof.Laws

/-! ## Bytes that move (R14, R417) -/

theorem memGet_moveRegion_in (s : State) (a b : Nat) {n i : Nat} (h : i < n) :
    memGet (moveRegion s a b n).mem (b + i) = memGet s.mem (a + i) := by
  have hmem : (moveRegion s a b n).mem = memPut s.mem b (memRead s.mem a n) := rfl
  rw [hmem, memGet_memPut_in s.mem (Nat.le_add_right b i) (by rw [memRead_length]; omega), Nat.add_sub_cancel_left,
    memRead_getD s.mem a h]

theorem memGet_moveRegion_out (s : State) (a : Nat) {b n k : Nat} (h : k < b ∨ b + n ≤ k) :
    memGet (moveRegion s a b n).mem k = memGet s.mem k :=
  memGet_memPut_out s.mem (by rwa [memRead_length])

theorem length_flatMap_leBytes (l : List Nat) : (l.flatMap (leBytes 8)).length = 8 * l.length := by
  simp [List.length_flatMap, Nat.mul_comm]

theorem gunit_sole {c : Ctx} (h : c.upper = false) : c.gunit = c.unit := by simp [Ctx.gunit, h]

theorem swapSpad_sole (s : State) {u : Nat} (h : u < 192) :
    swapSpad s u = hbmKey (ownHome s) (s.img.swapBase + 1600 * 0x62000 + u * 2 ^ 21) := by rw [swapSpad, if_pos h]

theorem frameAddr_sole {c : Ctx} (h : c.upper = false) : frameAddr c = 0x78000 * c.unit + 0x1000 * c.ctxno := by
  simp [frameAddr, h]

theorem imageAddr_sole {c : Ctx} (h : c.upper = false) : imageAddr c = 0x78000 * c.unit + 0x8000 + 0x1000 * c.ctxno := by
  simp [imageAddr, h]

/-! ## Out (R417 steps 3 and 4) -/

/-- R14: the engine image of a context is written. -/
def imaged (s : State) (c : Ctx) : State :=
  { s with mem := memPut s.mem (heelKey (imageAddr c)) (((imageEntries c).take 512).flatMap (leBytes 8)) }

theorem memGet_imaged_out (s : State) (c : Ctx) {k : Nat} (h : k < heelKey (imageAddr c) ∨ heelKey (imageAddr c) + 0x1000 ≤ k) :
    memGet (imaged s c).mem k = memGet s.mem k := by
  refine memGet_memPut_out s.mem ?_
  have hlen := List.length_take_le 512 (imageEntries c)
  rw [length_flatMap_leBytes]
  omega

theorem swapRegions_eq (s : State) (c : Ctx) : swapRegions s c =
    moveRegion (moveRegion (moveRegion (imaged s c) (spadKey c.gunit c.hdr.gbase) (swapSpad s c.gunit + c.hdr.gbase) c.hdr.quota)
      (heelKey (frameAddr c)) (swapFrame s c.cid) 0x1000) (heelKey (imageAddr c)) (swapFrame s c.cid + 0x1000) 0x1000 := rfl

section
variable (s : State) {c : Ctx} (hu : c.upper = false) (hn : c.unit < 192)
include hu hn

/-- R417: the grant lies in the swap region as it lay in the scratchpad. -/
theorem memGet_swapRegions_grant (hg : c.hdr.gbase + c.hdr.quota ≤ 2 ^ 21) {i : Nat} (hi : i < c.hdr.quota) :
    memGet (swapRegions s c).mem (swapSpad s c.gunit + c.hdr.gbase + i) = memGet s.mem (spadKey c.gunit (c.hdr.gbase + i)) := by
  have hunit := gunit_sole hu
  have hframe : swapSpad s c.gunit + c.hdr.gbase + i < swapFrame s c.cid := by
    rw [hunit, swapSpad_sole s hn]
    simp only [swapFrame, hbmKey]
    omega
  rw [swapRegions_eq, memGet_moveRegion_out _ _ (.inl (by omega)), memGet_moveRegion_out _ _ (.inl hframe),
    memGet_moveRegion_in _ _ _ hi, spadKey_add, memGet_imaged_out]
  left
  rw [hunit]
  simp only [spadKey, heelKey]
  omega

/-- R417: the frame lies in the swap region as it lay in the Heel. -/
theorem memGet_swapRegions_frame (hx : c.ctxno < 8) {i : Nat} (hi : i < 0x1000) :
    memGet (swapRegions s c).mem (swapFrame s c.cid + i) = memGet s.mem (heelKey (frameAddr c) + i) := by
  rw [swapRegions_eq, memGet_moveRegion_out _ _ (.inl (by omega)), memGet_moveRegion_in _ _ _ hi, memGet_moveRegion_out,
    memGet_imaged_out]
  · left
    rw [frameAddr_sole hu, imageAddr_sole hu]
    simp only [heelKey]
    omega
  · left
    rw [frameAddr_sole hu, gunit_sole hu, swapSpad_sole s hn]
    simp only [heelKey, hbmKey]
    omega

end

theorem leftPartition_single {s : State} {us : List Nat} {c : Ctx} (h : partition s us = [c]) :
    leftPartition s us = swapOutCtx s c := by
  have hlead : asLead (swapGrants [c]) c = c := by simp [asLead, swapGrants]
  rw [leftPartition, h, List.foldl_cons, List.foldl_nil, hlead]

theorem swapOutFile_without (s : State) {c : Ctx} (h : c.hdr.engines.getD 1 false = false) : swapOutFile s c = s := by
  unfold swapOutFile
  rw [if_pos (.inl (by rw [h]; rfl))]

/-- R417: the bytes of a partition of one context without the X engine. -/
theorem leftPartition_mem {s : State} {us : List Nat} {c : Ctx} (h : partition s us = [c])
    (hx : c.hdr.engines.getD 1 false = false) : (leftPartition s us).mem = (swapRegions s c).mem := by
  rw [leftPartition_single h, swapOutCtx_eq, swapOutFile_without s hx]
  exact (renumber_contexts _ _ _ _).2.2.1

/-! ## In (R417) -/

/-- R417: the grant, the frame and the engine image of a context return to their places. -/
def returned (s : State) (c : Ctx) : State :=
  moveRegion (moveRegion (moveRegion s (swapSpad s c.gunit + c.hdr.gbase) (spadKey c.gunit c.hdr.gbase) c.hdr.quota)
    (swapFrame s (c.cid - 4096)) (heelKey (frameAddr c)) 0x1000)
    (swapFrame s (c.cid - 4096) + 0x1000) (heelKey (imageAddr c)) 0x1000

section
variable (s : State) {c : Ctx} (hu : c.upper = false) (hn : c.unit < 192) (hg : c.hdr.gbase + c.hdr.quota ≤ 2 ^ 21)
include hu hn hg

theorem memGet_returned_grant {i : Nat} (hi : i < c.hdr.quota) :
    memGet (returned s c).mem (spadKey c.gunit (c.hdr.gbase + i)) = memGet s.mem (swapSpad s c.gunit + c.hdr.gbase + i) := by
  have hlow : ∀ a, spadKey c.gunit (c.hdr.gbase + i) < heelKey a := by
    intro a
    rw [gunit_sole hu]
    simp only [spadKey, heelKey]
    omega
  rw [returned, memGet_moveRegion_out _ _ (.inl (hlow _)), memGet_moveRegion_out _ _ (.inl (hlow _)), ← spadKey_add,
    memGet_moveRegion_in _ _ _ hi]

theorem memGet_returned_frame {i : Nat} (hi : i < 0x1000) :
    memGet (returned s c).mem (heelKey (frameAddr c) + i) = memGet s.mem (swapFrame s (c.cid - 4096) + i) := by
  rw [returned, memGet_moveRegion_out, memGet_moveRegion_in _ _ _ hi, memGet_moveRegion_out]
  · right
    rw [gunit_sole hu]
    simp only [spadKey, swapFrame, hbmKey]
    omega
  · left
    rw [frameAddr_sole hu, imageAddr_sole hu]
    simp only [heelKey]
    omega

end

theorem swapInFile_spec (s : State) (c : Ctx) : FilesMoved s (swapInFile s c) ∧ (swapInFile s c).mem = s.mem := by
  unfold swapInFile
  split
  · exact ⟨.refl s, rfl⟩
  · exact ⟨.refl s, rfl⟩
  · dsimp only
    generalize (if (!c.upper && (getIsland s c.gunit).file == some c.cid) = true then accArea c.gunit
      else fileSlot s (if c.upper = true then c.cid else c.cid + 4096)) = k
    obtain ⟨a, b, h⟩ := loadFile_eq s c k
    rw [h]
    exact ⟨filesMoved_updCtx rfl rfl _ _, rfl⟩

/-- R417: a context that returns, under its former number, with its entries, as its file is restored. -/
def reentered (s : State) (c : Ctx) : State :=
  let e := renumber (returned s c) c.cid (c.cid - 4096) false
  updCtx e (c.cid - 4096) (restoreEntries e)

theorem swapInCtx_eq (s : State) (c : Ctx) : ∃ us, swapInCtx s c =
    { swapInFile (reentered s c) { c with cid := c.cid - 4096, swapped := false } with units := us } := by
  unfold swapInCtx reentered returned
  dsimp only
  exact ⟨_, rfl⟩

/-- R417: the context of a part that returns, and the machine it returns to. -/
theorem swapInCtx_spec {s : State} (hl : s.ctx.live = true) : ∃ e n,
    (swapInCtx s s.ctx).ctx = { restoreEntries e (renumbered (s.ctx.cid - 4096) s.tick false s.ctx) with fileAt := n } ∧
    (swapInCtx s s.ctx).mem = (returned s s.ctx).mem := by
  obtain ⟨e, he⟩ : ∃ e, e = renumber (returned s s.ctx) s.ctx.cid (s.ctx.cid - 4096) false := ⟨_, rfl⟩
  obtain ⟨⟨g, hg, hctx, -⟩, hmem⟩ :=
    swapInFile_spec (reentered s s.ctx) { s.ctx with cid := s.ctx.cid - 4096, swapped := false }
  obtain ⟨n, hn⟩ := hg (reentered s s.ctx).ctx
  obtain ⟨us, hin⟩ := swapInCtx_eq s s.ctx
  have hec : e.ctx = renumbered (s.ctx.cid - 4096) s.tick false s.ctx := by
    rw [he, (renumber_contexts _ _ _ _).1]
    exact if_pos (by simp [returned, moveRegion, hl])
  have huc : (reentered s s.ctx).ctx = restoreEntries e e.ctx := by
    unfold reentered
    rw [← he, updCtx_eq]
    refine if_pos ?_
    rw [hec, renumbered_live, renumbered_cid, hl, beq_self_eq_true]
    rfl
  refine ⟨e, n, ?_, ?_⟩
  · rw [hin]
    dsimp only
    rw [hctx, hn, huc, hec]
  · rw [hin]
    exact hmem

theorem exec_partitionSwapIn_single {s : State} (hl : s.ctx.live = true) (hw : s.ctx.swapped = true) (ho : s.others = []) :
    exec (.partitionSwapIn [s.ctx.gunit]) s = .next (swapInCtx s s.ctx) := by
  have hall : allCtx s = [s.ctx] := by rw [allCtx, ho]
  have hcs : (allCtx s).filter (fun c => c.live && c.swapped && [s.ctx.gunit].contains c.gunit) = [s.ctx] := by
    rw [hall, List.filter_cons_of_pos (by simp [hl, hw]), List.filter_nil]
  have hnone : partition s [s.ctx.gunit] = [] := by
    rw [partition, hall, List.filter_cons_of_neg (by simp [hw]), List.filter_nil]
  have hlead : asLead (swapGrants [s.ctx]) s.ctx = s.ctx := by simp [asLead, swapGrants]
  show execPartitionSwapIn _ s = _
  simp only [execPartitionSwapIn, hcs, hnone, List.isEmpty_cons, List.isEmpty_nil, Bool.not_true, Bool.false_eq_true, or_self,
    if_false, List.foldl_cons, List.foldl_nil]
  show Host.Outcome.next (swapInCtx s (asLead (swapGrants [s.ctx]) s.ctx)) = _
  rw [hlead]

/-! ## The whole -/

/-- R377, R444 to R446: what the end of the one test of a part leaves. -/
theorem selfTestEnd_spec {s : State} {x : SelfTest} (pass : Bool) (h1 : s.cob.tests = [x]) (he : x.ends ≤ s.tick) :
    ∃ t, exec (.selfTestEnd x.n pass) s = .next t ∧ t.cob.tests = [] ∧ t.cob.total = s.cob.total + max 1 x.cids.length ∧
      t.cob.retired = s.cob.retired + (if pass = true then 0 else 1) ∧
      (pass = false → x.ukind = 1 ∨ x.ukind = 2 → (getIsland t x.unit).disabled = true) ∧
      (∀ y ∈ x.cids, ∀ c, findCtx s y.1 = some c → c.status = .trapped → c.tcause = 0x16 →
        (∃ d, findCtx t y.1 = some d ∧ ClassTaken c d pass) ∧
          (pass = false ∨ tvecAt c = 0 → .taskRetirement y.1 ∈ t.agenda)) ∧
      (x.cids = [] → s.others = [] → s.ctx.live = true → s.ctx.owed = true → s.ctx.gunit = x.unit → x.ukind = 1 →
        (∃ l ∈ s.ctx.latches, l.ld.isSome = true ∧ l.due = s.ctx.now + 2) → t.ctx = s.ctx ∧
          t.cob.classified = s.cob.classified ++ [⟨s.ctx.cid, 1, x.idx, s.ctx.tclk, pass⟩]) := by
  obtain ⟨dr, hcob⟩ := testEnded_cob s x pass
  refine ⟨_, exec_selfTestEnd pass h1 he, ?_, congrArg CobState.total hcob, congrArg CobState.retired hcob, ?_, ?_, ?_⟩
  · refine (congrArg CobState.tests hcob).trans ?_
    simp [h1]
  · rintro rfl hk
    refine (getIsland_testEnded s x false x.unit).trans ?_ ▸ testBase_disabled s hk
    rfl
  · exact fun y hy c hc hs ht => findCtx_testEnded s x pass hy hc hs ht
  · intro hcids ho hl hw hu hk hld
    obtain ⟨hctx, hothers⟩ := testEnded_contexts s x pass hcids
    refine ⟨hctx, ?_⟩
    have hf : fenced (underTest (testEnded s x pass) x) (testEnded s x pass).ctx.now = true :=
      fenced_of_load rfl (hctx ▸ hu) hk (hctx ▸ hld)
    have hclass : (testEnded s x pass).cob.classified = s.cob.classified := by rw [hcob]
    rw [classifyWaiting_single pass (hothers.trans ho) (hctx ▸ hl) (hctx ▸ hw) hf, hclass, hctx, hk]

end Sys2Proof.Proofs
end

section
/-! PROOF. The steps of the Cobbler as one statement (O56). -/

namespace Sys2Proof.Proofs

open Sys2Proof.Machine
open Sys2Proof.Laws

section
variable {s : State} {us : List Nat} (hh : partitionHalted s us = true)
include hh

/-- R417: a halted partition leaves: its contexts under their new numbers, and the bytes of one context in the swap region. -/
theorem partitionSwapOut_spec
    (hp : ∀ c ∈ partition s us, findCtx s c.cid = some c ∧ c.cid < 4096 ∧ findCtx s (c.cid + 4096) = none) :
    ∃ t, exec (.partitionSwapOut us) s = .next t ∧ us ∉ t.cob.swaps ∧ .gangAdmission ∈ t.agenda ∧
      (∀ c ∈ partition s us, ∃ d, findCtx t (c.cid + 4096) = some d ∧ d.swapped = true ∧ d.r = c.r ∧ d.tclk = c.tclk ∧
        d.saved = c.saved ∧ d.status = c.status) ∧
      ∀ c, partition s us = [c] → c.upper = false → c.unit < 192 → c.ctxno < 8 → c.hdr.gbase + c.hdr.quota ≤ 2 ^ 21 →
        c.hdr.engines.getD 1 false = false →
        (∀ i, i < c.hdr.quota → memGet t.mem (swapSpad s c.gunit + c.hdr.gbase + i) = spadByte (focus s c.cid) (c.hdr.gbase + i)) ∧
        ∀ i, i < 0x1000 → memGet t.mem (swapFrame s c.cid + i) = memGet s.mem (heelKey (frameAddr c) + i) := by
  obtain ⟨t, hexec, hctx, hothers, hmem, hswaps, hag⟩ := exec_partitionSwapOut_halted hh
  refine ⟨t, hexec, hswaps, hag, fun c hc => ?_, fun c hone hu hn hx hg he => ⟨fun i hi => ?_, fun i hi => ?_⟩⟩
  · obtain ⟨-, tick, n, hd⟩ := (swappedOut_leftPartition hp hc).of_contexts hctx hothers
    exact ⟨_, hd, rfl, rfl, rfl, rfl, rfl⟩
  · have hfind : findCtx s c.cid = some c := (hp c (hone ▸ List.mem_singleton.mpr rfl)).1
    have hbyte : spadByte (focus s c.cid) (c.hdr.gbase + i) = memGet s.mem (spadKey c.gunit (c.hdr.gbase + i)) := by
      rw [spadByte, focus_ctx hfind, focus_frame]
    rw [hmem, leftPartition_mem hone he, memGet_swapRegions_grant s hu hn hg hi, hbyte]
  · rw [hmem, leftPartition_mem hone he, memGet_swapRegions_frame s hu hn hx hi]

end

/-- R417: what a context that returns keeps, whatever its former number. -/
theorem restored_keeps (e : State) (b tick : Nat) (x : Ctx) (n : Nat) :
    let d : Ctx := { restoreEntries e (renumbered b tick false x) with fileAt := n }
    d.swapped = false ∧ d.cid = b ∧ d.r = x.r ∧ d.gunit = x.gunit := ⟨rfl, rfl, rfl, rfl⟩

/-- R417: a context that was alone in its partition comes back, and with it its grant and its frame. -/
theorem partitionSwapIn_spec {s : State} (hl : s.ctx.live = true) (hw : s.ctx.swapped = true) (ho : s.others = []) :
    ∃ t, exec (.partitionSwapIn [s.ctx.gunit]) s = .next t ∧ t.ctx.swapped = false ∧ t.ctx.cid = s.ctx.cid - 4096 ∧
      t.ctx.r = s.ctx.r ∧ (s.ctx.upper = false → s.ctx.unit < 192 → s.ctx.hdr.gbase + s.ctx.hdr.quota ≤ 2 ^ 21 →
        (∀ i, i < s.ctx.hdr.quota → spadByte t (s.ctx.hdr.gbase + i) =
          memGet s.mem (swapSpad s s.ctx.gunit + s.ctx.hdr.gbase + i)) ∧
        ∀ i, i < 0x1000 →
          memGet t.mem (heelKey (frameAddr s.ctx) + i) = memGet s.mem (swapFrame s (s.ctx.cid - 4096) + i)) := by
  obtain ⟨e, n, hctx, hmem⟩ := swapInCtx_spec hl
  obtain ⟨hswapped, hcid, hr, hunit⟩ := restored_keeps e (s.ctx.cid - 4096) s.tick s.ctx n
  rw [← hctx] at hswapped hcid hr hunit
  refine ⟨_, exec_partitionSwapIn_single hl hw ho, hswapped, hcid, hr, fun hu hn hg => ⟨fun i hi => ?_, fun i hi => ?_⟩⟩
  · rw [spadByte, hunit, hmem, memGet_returned_grant s hu hn hg hi]
  · rw [hmem, memGet_returned_frame s hu hn hg hi]

/-- R426: a context that a watchdog ends, as the statement puts it. -/
theorem watchdogFatal_ends {s : State} {cid : Nat} {c : Ctx} (hc : findCtx s cid = some c) (hl : logitSlot c = none) (k n : Nat) :
    let t := watchdogFatal s cid k n
    t.ctx.cid = cid ∧ t.ctx.status = .trapped ∧ t.ctx.tcause = 0x21 ∧ t.ctx.tinfo[0] = BitVec.ofNat 64 k ∧
      t.ctx.tinfo[1] = BitVec.ofNat 64 n ∧ .taskRetirement cid ∈ t.agenda := by
  obtain ⟨w, hcid, hs, hcause, hinfo, hret⟩ := failed_watchdogFatal hc hl k n
  exact ⟨hcid, hs, hcause, by rw [hinfo]; rfl, by rw [hinfo]; rfl, hret⟩

/-- Settles O56: fatal ends and CTXCMD, the energy services, the end of a test, fences, link errors and the partition swap. -/
theorem cobblerSteps : Obligations.CobblerSteps := by
  unfold Obligations.CobblerSteps
  refine ⟨?commands, ?services, ?tests, fun s hf hw => engineCycle_fenced hf hw, fun s k u i h => exec_linkError h,
    fun s us h => exec_partitionSwapOut_running h, fun s us hh hp => partitionSwapOut_spec hh hp, ?swapIn⟩
  case commands =>
    intro s cid c hc hl
    refine ⟨fun h0 hle => ?_, fun h => ?_, fun h0 hle => ?_, fun h => ?_, ?_, onlyCtx_ctxcmdResume hc, fun hu hp => ?_⟩
    · exact ⟨_, (exec_hangWatchdogExpiry hc).trans (congrArg _ (if_pos ⟨h0, hle⟩)), watchdogFatal_ends hc hl 1 c.hang⟩
    · rw [exec_hangWatchdogExpiry hc, if_neg (by omega)]
    · exact ⟨_, (exec_waitWatchdogExpiry hc).trans (congrArg _ (if_pos ⟨h0, hle⟩)), watchdogFatal_ends hc hl 2 c.dwait⟩
    · rw [exec_waitWatchdogExpiry hc, if_neg (by omega)]
    · obtain ⟨t, x, hexec, hx, hcid, hs, hcause, -, hret⟩ := exec_ctxcmdEndTask hc
      exact ⟨t, hexec, hcid, hs, hcause.trans hx, hret⟩
    · obtain ⟨d, hd⟩ := findCtx_parkNow_focus hc hp
      exact ⟨_, d, exec_ctxcmdPark hc hu hp, hd⟩
  case services =>
    intro s cid c v hc hs ht h1 hv
    have hword : ∀ i, (frameDword (focus s cid) i).toNat = leNat (memRead s.mem (heelKey (frameAddr c + 8 * i)) 8) := by
      intro i
      rw [frameDword_toNat, focus_ctx hc, focus_frame]
    refine ⟨fun h0 => ?_, fun h0 => ?_⟩
    · obtain ⟨d, hd, hrun, henergy, hrest⟩ := serveEnergy_serves (imm := 0x0E01) hc hs ht (by rw [h0]; rfl) h1 hv
        (fun s => (frameDword s 33).toNat % 2 ^ 48) (by omega)
      exact ⟨_, d, rfl, hd, hrun, by rw [henergy, hword, Nat.mod_mod], hrest⟩
    · obtain ⟨d, hd, hrun, henergy, hrest⟩ := serveEnergy_serves (imm := 0x0E02) hc hs ht (by rw [h0]; rfl) h1 hv
        (fun s => (frameDword s 16).toNat % 2 ^ 63) (by omega)
      exact ⟨_, d, rfl, hd, hrun, by rw [henergy, hword, Nat.mod_mod_of_dvd _ (by decide)], hrest⟩
  case tests =>
    intro s x pass h1 he
    obtain ⟨t, hexec, htests, htotal, hretired, hoff, hclass, hwait⟩ := selfTestEnd_spec pass h1 he
    refine ⟨t, hexec, htests, htotal, hretired, hoff, fun y hy c hc hs ht => ?_, hwait⟩
    obtain ⟨⟨d, hd, hr, hinfo, hhandler, hended⟩, hret⟩ := hclass y hy c hc hs ht
    exact ⟨d, hd, hr, hinfo, hhandler, fun h => ⟨(hended h).1, (hended h).2, hret h⟩⟩
  case swapIn =>
    rintro s u hl hw rfl ho -
    obtain ⟨t, hexec, hswapped, hcid, hr, hbytes⟩ := partitionSwapIn_spec hl hw ho
    exact ⟨t, hexec, hswapped, hcid, hr, fun hu hn _ hg => hbytes hu hn hg⟩

end Sys2Proof.Proofs
end

section
/-! PROOF. RMODE: its refused values, its commit and its reset (O18), and a trap of the issue seen through the registers. -/

namespace Sys2Proof.Proofs

open Sys2Proof.Machine
open Sys2Proof.Laws

/-! ## A trap of the issue and the registers (R365, R378) -/

theorem fatalNow_ctx_r (s : State) (x : Trap) : (fatalNow s x).ctx.r = s.ctx.r := by
  unfold fatalNow
  split <;> rfl

theorem takeLogitFault_ctx_r (s : State) (pc : Word) : (takeLogitFault s pc).ctx.r = s.ctx.r := by
  simp only [takeLogitFault]
  split <;> rfl

theorem deliverTvec_ctx_r (s : State) (x : Trap) : (deliverTvec s x).ctx.r = s.ctx.r := by
  unfold deliverTvec
  split <;> rfl

/-- R365, R378: whichever way an illegal encoding goes, the registers stay as they were. -/
theorem takeTrap_illegal_ctx_r {s : State} {x : Trap} (hx : x.cause = 0x01) : (takeTrap s x).ctx.r = s.ctx.r := by
  obtain ⟨cause, i0, i1, i2, i3⟩ := x
  subst hx
  simp only [takeTrap]
  split
  · exact takeLogitFault_ctx_r _ _
  · split
    · exact fatalNow_ctx_r _ _
    · exact deliverTvec_ctx_r _ _

/-! ## RMODE (R60) -/

/-- R60: RMODE after the commit of a CTLW of it. -/
theorem writeCtl_rmode (s : State) (x : Word) :
    writeCtl s 0x002 x = s.upR fun r => { r with rmode := x.setWidth 3 } := rfl

theorem readCtl_rmode (s : State) : readCtl s 0x002 = s.ctx.r.rmode.setWidth 64 := rfl

/-- Settles O18: the refused values by their trap, which keeps the registers; the others by their deferred write. -/
theorem roundingModeRegister : Obligations.RoundingModeRegister := by
  unfold Obligations.RoundingModeRegister
  refine ⟨fun s v ha => ⟨fun hx => ?refused, fun hx hb => ?good⟩, fun s x => ?commit, fun s l o u => rfl⟩
  case refused =>
    have hbad : ctlwBad (0x002 : BitVec 12).toNat (rdG s v) = true := (ctlwBad_iff _ _).mpr (.inl ⟨rfl, by omega⟩)
    exact ⟨_, (exec_ctlw v _ s).trans (execCtlw_trap ha hbad), rfl, rfl,
      congrArg Regs.rmode (takeTrap_illegal_ctx_r rfl)⟩
  case good =>
    have hok : ctlwBad (0x002 : BitVec 12).toNat (rdG s v) = false := by
      rw [← Bool.not_eq_true, ctlwBad_iff]
      rintro (⟨-, h⟩ | ⟨h, -⟩)
      · omega
      · exact absurd h (by decide)
    exact ⟨_, _, (exec_ctlw v _ s).trans (execCtlw_next ha (heelFenced_of_ne s (by decide)) hok hb),
      by rw [addDW_dws, charge_ctx_dws], by rw [charge_now], rfl, by simp⟩
  case commit =>
    refine ⟨_, exec_registerWrite_ctl 0x002 x s, ?_, ?_⟩
    · rw [show (0x002 : BitVec 12).toNat = 0x002 from rfl, writeCtl_rmode]
      exact BitVec.toNat_setWidth 3 x
    · rw [show (0x002 : BitVec 12).toNat = 0x002 from rfl, writeCtl_rmode, readCtl_rmode]
      simp only [upR_ctx, BitVec.toNat_setWidth]
      omega

end Sys2Proof.Proofs
end

section
/-! PROOF. NaNs through the scalar floating-point operations: the flags that they raise and the results that they give (O7). -/

namespace Sys2Proof.Proofs

open Sys2Proof.Machine
open Sys2Proof.Laws

/-! ## NaNs and the flags they raise (R46, R49, R53) -/

/-- R53: a value that is not the NaR of NM8. -/
def NotNar (v : Val) : Prop := ∀ g n, v = .nan g n → n = false

theorem notNar_nan (g : Bool) : NotNar (.nan g false) := by
  rintro _ _ ⟨⟩
  rfl

theorem notNar_inf (n : Bool) : NotNar (.inf n) := fun _ _ h => nomatch h

theorem notNar_fin (n : Bool) (m : Nat) (e : Int) : NotNar (.fin n m e) := fun _ _ h => nomatch h

/-- R53: NM8 alone has a NaR. -/
theorem notNar_fpDecode {f : Nat} (hf : f ≠ 17) (x : Nat) : NotNar (fpDecode f x) := by
  simp only [fpDecode, if_neg hf]
  split
  · split
    · exact notNar_inf _
    · exact notNar_nan _
  · split
    · exact notNar_nan _
    · split <;> exact notNar_fin _ _ _

theorem not_isNan_inf (n : Bool) : ¬(Val.inf n).isNan := fun ⟨_, _, h⟩ => nomatch h

theorem not_isNan_fin (n : Bool) (m : Nat) (e : Int) : ¬(Val.fin n m e).isNan := fun ⟨_, _, h⟩ => nomatch h

theorem isNan_nan (g n : Bool) : (Val.nan g n).isNan := ⟨g, n, rfl⟩

theorem isSig_nan_iff (g n : Bool) : (Val.nan g n).isSig ↔ g = true := by simp [Val.isSig]

theorem isNan_of_isSig {v : Val} (h : v.isSig) : v.isNan := ⟨true, h⟩

theorem not_isNan_of_finite {v : Val} (h : v.finite) : ¬v.isNan := by
  obtain ⟨n, m, e, rfl⟩ := h
  exact not_isNan_fin n m e

theorem isNan_negate (v : Val) : v.negate.isNan ↔ v.isNan := by
  cases v <;> simp [Val.isNan, Val.negate]

theorem isSig_negate (v : Val) : v.negate.isSig ↔ v.isSig := by
  cases v <;> simp [Val.isSig, Val.negate]

theorem NotNar.negate {v : Val} (h : NotNar v) : NotNar v.negate := by
  cases v with
  | nan g n => exact h
  | inf n => exact notNar_inf _
  | fin n m e => exact notNar_fin _ _ _

/-- R49, R55: the flags and the signalling mark once one more operand is looked at. -/
def nanStep (acc : Nat × Bool) : Val → Nat × Bool
  | .nan g n => (if g || n then acc.1 ||| flNV else acc.1, acc.2 || g)
  | _ => acc

theorem nanFlags_eq_foldl (vs : List Val) : nanFlags vs = vs.foldl nanStep (0, false) := by
  refine congrArg (fun step => vs.foldl step (0, false)) (funext fun acc => funext fun v => ?_)
  cases v <;> rfl

theorem nanStep_of_sig {v : Val} (hv : v.isSig) (acc : Nat × Bool) : nanStep acc v = (acc.1 ||| flNV, true) := by
  obtain ⟨n, rfl⟩ := hv
  simp [nanStep]

theorem nanStep_of_not_sig {v : Val} (hn : NotNar v) (hv : ¬v.isSig) (acc : Nat × Bool) : nanStep acc v = acc := by
  cases v with
  | nan g n =>
    have hg : g = false := by simpa [isSig_nan_iff] using hv
    simp [nanStep, hg, hn g n rfl]
  | inf n => rfl
  | fin n m e => rfl

/-- R49: a signalling NaN among the operands adds invalid and the mark, and nothing else adds anything. -/
theorem foldl_nanStep (vs : List Val) (hn : ∀ v ∈ vs, NotNar v) (acc : Nat × Bool) :
    (∃ v ∈ vs, v.isSig) ∧ vs.foldl nanStep acc = (acc.1 ||| flNV, true) ∨
      (¬∃ v ∈ vs, v.isSig) ∧ vs.foldl nanStep acc = acc := by
  induction vs generalizing acc with
  | nil => simp
  | cons v vs ih =>
    rw [List.foldl_cons]
    by_cases hv : v.isSig
    · rw [nanStep_of_sig hv]
      refine .inl ⟨⟨v, List.mem_cons_self, hv⟩, ?_⟩
      rcases ih (fun u hu => hn u (List.mem_cons_of_mem v hu)) (acc.1 ||| flNV, true) with ⟨-, h⟩ | ⟨-, h⟩
      · rw [h, Nat.or_assoc, Nat.or_self]
      · exact h
    · rw [nanStep_of_not_sig (hn v List.mem_cons_self) hv]
      simpa [hv] using ih (fun u hu => hn u (List.mem_cons_of_mem v hu)) acc

/-- R49: what operands that are no NaR raise: invalid, with the signalling mark, when one is a signalling NaN. -/
theorem nanFlags_cases {vs : List Val} (hn : ∀ v ∈ vs, NotNar v) :
    (∃ v ∈ vs, v.isSig) ∧ nanFlags vs = (flNV, true) ∨ (¬∃ v ∈ vs, v.isSig) ∧ nanFlags vs = (0, false) := by
  simpa [nanFlags_eq_foldl] using foldl_nanStep vs hn (0, false)

theorem exists_isSig_pair (x y : Val) : (∃ v ∈ [x, y], v.isSig) ↔ x.isSig ∨ y.isSig := by simp

theorem notNar_pair {x y : Val} (hx : NotNar x) (hy : NotNar y) : ∀ v ∈ [x, y], NotNar v := by simp [hx, hy]

/-- R49: two operands. -/
theorem nanFlags_pair {x y : Val} (hx : NotNar x) (hy : NotNar y) :
    (x.isSig ∨ y.isSig) ∧ nanFlags [x, y] = (flNV, true) ∨ ¬(x.isSig ∨ y.isSig) ∧ nanFlags [x, y] = (0, false) := by
  simpa using nanFlags_cases (notNar_pair hx hy)

/-- R49: operands that are numbers raise nothing. -/
theorem nanFlags_of_numbers {vs : List Val} (hv : ∀ v ∈ vs, ¬v.isNan) : nanFlags vs = (0, false) := by
  have hn : ∀ v ∈ vs, NotNar v := fun v hm g n h => absurd ⟨g, n, h⟩ (hv v hm)
  rcases nanFlags_cases hn with ⟨⟨v, hm, hs⟩, -⟩ | ⟨-, h⟩
  · exact absurd (isNan_of_isSig hs) (hv v hm)
  · exact h

/-! ## A NaN through the operations (R48, R49, R61, R185) -/

/-- A product of an infinity and a zero. -/
def InfTimesZero (a b : Val) : Prop := ∃ n n' e, (a = .inf n ∧ b = .fin n' 0 e) ∨ (a = .fin n' 0 e ∧ b = .inf n)

theorem infTimesZero_negate (a b : Val) : InfTimesZero a.negate b ↔ InfTimesZero a b := by
  cases a with
  | nan g n => simp [InfTimesZero, Val.negate]
  | inf n => simp [InfTimesZero, Val.negate]
  | fin n m e =>
    constructor
    · rintro ⟨k, k', e', ⟨h, -⟩ | ⟨h, hb⟩⟩
      · exact nomatch h
      · cases h
        exact ⟨k, n, e, .inr ⟨rfl, hb⟩⟩
    · rintro ⟨k, k', e', ⟨h, -⟩ | ⟨h, hb⟩⟩
      · exact nomatch h
      · cases h
        exact ⟨k, !n, e, .inr ⟨rfl, hb⟩⟩

theorem InfTimesZero.not_isNan {a b : Val} (h : InfTimesZero a b) : ¬(a.isNan ∨ b.isNan) := by
  obtain ⟨n, n', e, ⟨rfl, rfl⟩ | ⟨rfl, rfl⟩⟩ := h <;> simp [not_isNan_inf, not_isNan_fin]

theorem mulVal_infTimesZero {a b : Val} (h : InfTimesZero a b) : mulVal a b = (.nan false false, flNV) := by
  obtain ⟨n, n', e, ⟨rfl, rfl⟩ | ⟨rfl, rfl⟩⟩ := h <;> simp [mulVal]

/-- R185: ∞ × 0 alone raises invalid in an exact product. -/
theorem mulVal_flags {a b : Val} (h : ¬InfTimesZero a b) : (mulVal a b).2 = 0 := by
  cases a <;> cases b <;> simp only [mulVal]
  case inf.fin n n' m e =>
    rw [if_neg fun hm => h ⟨n, n', e, .inl ⟨rfl, by rw [hm]⟩⟩]
  case fin.inf n' m e n =>
    rw [if_neg fun hm => h ⟨n, n', e, .inr ⟨by rw [hm], rfl⟩⟩]

/-- R48: an exact product with a NaN is a NaN. -/
theorem isNan_mulVal {a b : Val} (h : a.isNan ∨ b.isNan) : (mulVal a b).1.isNan := by
  rcases h with ⟨g, n, rfl⟩ | ⟨g, n, rfl⟩
  · exact isNan_nan g n
  · cases a <;> exact isNan_nan _ _

theorem anyNan_iff (vs : List Val) : anyNan vs = true ↔ ∃ v ∈ vs, v.isNan := by
  rw [anyNan, List.any_eq_true]
  refine exists_congr fun v => and_congr_right fun _ => ?_
  cases v <;> simp [Val.isNan]

theorem fpAdd_of_nan (f : Nat) (md : Mode) {a b : Val} (h : a.isNan ∨ b.isNan) :
    fpAdd f md a b = nanRes f (nanFlags [a, b]).1 (nanFlags [a, b]).2 := by
  rcases h with ⟨g, n, rfl⟩ | ⟨g, n, rfl⟩
  · rfl
  · cases a <;> rfl

theorem fpDiv_of_nan (f : Nat) (md : Mode) {a b : Val} (h : a.isNan ∨ b.isNan) :
    fpDiv f md a b = nanRes f (nanFlags [a, b]).1 (nanFlags [a, b]).2 := by
  rcases h with ⟨g, n, rfl⟩ | ⟨g, n, rfl⟩
  · rfl
  · cases a <;> rfl

theorem fpSqrt_of_nan (f : Nat) (md : Mode) {a : Val} (h : a.isNan) :
    fpSqrt f md a = nanRes f (nanFlags [a]).1 (nanFlags [a]).2 := by
  obtain ⟨g, n, rfl⟩ := h
  rfl

theorem deliver_of_nan (f : Nat) (md : Mode) {v : Val} (h : v.isNan) (fl : Nat) (sn : Bool) :
    deliver f md v fl sn = nanRes f fl sn := by
  obtain ⟨g, n, rfl⟩ := h
  rfl

theorem fpMul_of_nan (f : Nat) (md : Mode) {a b : Val} (h : (mulVal a b).1.isNan) :
    fpMul f md a b = nanRes f ((mulVal a b).2 ||| (nanFlags [a, b]).1) (nanFlags [a, b]).2 :=
  deliver_of_nan f md h _ _

theorem fpFma_of_nan (f : Nat) (md : Mode) {a b c : Val} (h : (mulVal a b).1.isNan ∨ c.isNan) :
    fpFma f md a b c = nanRes f ((mulVal a b).2 ||| (nanFlags [a, b, c]).1) (nanFlags [a, b, c]).2 := by
  have hn : anyNan [(mulVal a b).1, c] = true := (anyNan_iff _).mpr (by simpa using h)
  simp only [fpFma, hn, if_true]

/-- R45: a comparison has no order exactly with a NaN. -/
theorem fpCompare_eq_none_iff (a b : Val) : fpCompare a b = none ↔ a.isNan ∨ b.isNan := by
  cases a <;> cases b <;> simp [fpCompare, Val.isNan]

/-! ## A NaN delivered by a scalar operation (R64, R184, R185) -/

theorem notNar_sVal (s : State) (f : Bool) (n : Fin 32) : NotNar (sVal s f n) :=
  notNar_fpDecode (by cases f <;> decide) _

theorem nanRes_sFmt (f : Bool) (fl : Nat) (sn : Bool) : nanRes (sFmt f) fl sn = ⟨canonNaN (sFmt f), fl, false, sn⟩ := by
  cases f <;> rfl

/-- R48, R49: the syllable leaves the canonical NaN, marked and flagged as told. -/
def LeavesNaN (s : State) (f : Bool) (d : Fin 32) (i : Instr) (lat : Nat) (srcs : List (Fin 32)) (sn inv : Prop) : Prop :=
  ∃ r, exec i s = .next (floatNext s lat (.g d) srcs r (BitVec.ofNat 64 r.bits)) ∧
    r.bits = canonNaN (sFmt f) ∧ (r.sn = true ↔ sn) ∧ (inv ∧ r.fl = 16 ∨ ¬inv ∧ r.fl = 0)

/-- R48, R185: a syllable whose result is a NaN with the flags of its operands, and with invalid from its product under `p`. -/
theorem leavesNaN_of_product {s : State} {f : Bool} {d : Fin 32} {i : Instr} {lat : Nat} {srcs : List (Fin 32)} {r : Res}
    {vs : List Val} {fl : Nat} {p sn inv : Prop} (ha : acts s = true) (hi : exec i s = fpRes s lat d srcs r)
    (hn : ∀ v ∈ vs, NotNar v) (hr : r = nanRes (sFmt f) (fl ||| (nanFlags vs).1) (nanFlags vs).2)
    (hsn : (∃ v ∈ vs, v.isSig) ↔ sn) (hp : p ∧ fl = flNV ∨ ¬p ∧ fl = 0) (hinv : inv ↔ sn ∨ p) :
    LeavesNaN s f d i lat srcs sn inv := by
  refine ⟨r, hi.trans (fpLatch_next s ha ..), ?_⟩
  rw [hr, nanRes_sFmt, hinv, ← hsn]
  rcases nanFlags_cases hn with ⟨hs, h⟩ | ⟨hs, h⟩ <;> rcases hp with ⟨hp, rfl⟩ | ⟨hp, rfl⟩ <;> simp [h, hs, hp, flNV]

/-- R48: a syllable whose result is a NaN with the flags of its operands. -/
theorem leavesNaN_of_operands {s : State} {f : Bool} {d : Fin 32} {i : Instr} {lat : Nat} {srcs : List (Fin 32)} {r : Res}
    {vs : List Val} {sn : Prop} (ha : acts s = true) (hi : exec i s = fpRes s lat d srcs r)
    (hn : ∀ v ∈ vs, NotNar v) (hr : r = nanRes (sFmt f) (nanFlags vs).1 (nanFlags vs).2)
    (hsn : (∃ v ∈ vs, v.isSig) ↔ sn) : LeavesNaN s f d i lat srcs sn sn :=
  leavesNaN_of_product ha hi hn (hr.trans (by rw [Nat.zero_or])) hsn (p := False) (.inr ⟨id, rfl⟩) (by simp)

/-- R185: FFMA, and FFMS as FFMA with its first operand negated, when a NaN or ∞ × 0 is among the operands. -/
theorem leavesNaN_of_fma {s : State} {f : Bool} {d : Fin 32} {i : Instr} {md : Mode} {x y z : Val} {srcs : List (Fin 32)}
    (ha : acts s = true) (hi : exec i s = fpRes s 4 d srcs (fpFma (sFmt f) md x y z)) (hx : NotNar x) (hy : NotNar y)
    (hz : NotNar z) (h : x.isNan ∨ y.isNan ∨ z.isNan ∨ InfTimesZero x y) :
    LeavesNaN s f d i 4 srcs (x.isSig ∨ y.isSig ∨ z.isSig) ((x.isSig ∨ y.isSig ∨ z.isSig) ∨ InfTimesZero x y) := by
  have hnan : (mulVal x y).1.isNan ∨ z.isNan := by
    rcases h with h | h | h | h
    · exact .inl (isNan_mulVal (.inl h))
    · exact .inl (isNan_mulVal (.inr h))
    · exact .inr h
    · exact .inl (by rw [mulVal_infTimesZero h]; exact isNan_nan _ _)
  refine leavesNaN_of_product (vs := [x, y, z]) (p := InfTimesZero x y) ha hi (by simp [hx, hy, hz])
    (fpFma_of_nan _ md hnan) (by simp) ?_ Iff.rfl
  by_cases hp : InfTimesZero x y
  · exact .inl ⟨hp, by rw [mulVal_infTimesZero hp]⟩
  · exact .inr ⟨hp, mulVal_flags hp⟩

/-- R185: a compare goes on with its relation and its flags. -/
theorem fpCmp_next {s : State} (ha : acts s = true) (pd : Fin 8) (a b : Fin 32) (f ordered : Bool)
    (rel : Option Ordering → Bool) : ∃ r, fpCmp s pd a b f ordered rel =
      .next (floatNext s 2 (.p pd) [a, b] r (predWord (rel (fpCompare (sVal s f a) (sVal s f b))))) ∧
      (r.fl = 16 ↔ (sVal s f a).isSig ∨ (sVal s f b).isSig ∨
        ordered = true ∧ ((sVal s f a).isNan ∨ (sVal s f b).isNan)) := by
  refine ⟨⟨0, if ordered && (fpCompare (sVal s f a) (sVal s f b)).isNone then (nanFlags [sVal s f a, sVal s f b]).1 ||| flNV
    else (nanFlags [sVal s f a, sVal s f b]).1, false, (nanFlags [sVal s f a, sVal s f b]).2⟩, fpLatch_next s ha .., ?_⟩
  rw [← fpCompare_eq_none_iff]
  generalize hg : fpCompare (sVal s f a) (sVal s f b) = o
  rcases nanFlags_pair (notNar_sVal s f a) (notNar_sVal s f b) with ⟨hs, h⟩ | ⟨hs, h⟩ <;>
    cases o <;> cases ordered <;> simp_all [flNV]


/-- Settles O7: the arithmetic by the operands' flags (leavesNaN_of_exec), the compares by their order (fpCmp_next). -/
theorem floatNaNs : Obligations.FloatNaNs := by
  unfold Obligations.FloatNaNs
  intro s d a b pd f m ha X Y Z nan sig arith cmp prod two three
  have hX : NotNar X := notNar_sVal s f a
  have hY : NotNar Y := notNar_sVal s f b
  have hZ : NotNar Z := notNar_sVal s f d
  have hcmp := fpCmp_next ha pd a b f
  have hnone := fpCompare_eq_none_iff X Y
  refine ⟨fun h => ⟨?add, ?sub, ?mul, ?div⟩, fun h => ?sqrt, fun h => ?product, fun h => ⟨?fma, ?fms⟩, ?eq, ?un, ?lt, ?le⟩
  case add => exact leavesNaN_of_operands ha rfl (notNar_pair hX hY) (fpAdd_of_nan _ _ h) (exists_isSig_pair X Y)
  case sub =>
    have h' : X.isNan ∨ Y.negate.isNan := h.imp_right (isNan_negate Y).mpr
    exact leavesNaN_of_operands ha rfl (notNar_pair hX hY.negate) (fpAdd_of_nan _ _ h')
      ((exists_isSig_pair X Y.negate).trans (or_congr_right (isSig_negate Y)))
  case mul =>
    have hfl : (mulVal X Y).2 = 0 := mulVal_flags fun hp => hp.not_isNan h
    exact leavesNaN_of_operands ha rfl (notNar_pair hX hY)
      ((fpMul_of_nan _ _ (isNan_mulVal h)).trans (by rw [hfl, Nat.zero_or])) (exists_isSig_pair X Y)
  case div => exact leavesNaN_of_operands ha rfl (notNar_pair hX hY) (fpDiv_of_nan _ _ h) (exists_isSig_pair X Y)
  case sqrt =>
    exact leavesNaN_of_operands (vs := [X]) ha rfl (List.forall_mem_singleton.mpr hX) (fpSqrt_of_nan _ _ h)
      (by simp [sig, Val.isSig])
  case product =>
    have hp : InfTimesZero X Y := h
    have hsn : ¬(X.isSig ∨ Y.isSig) := fun hs => hp.not_isNan (hs.imp isNan_of_isSig isNan_of_isSig)
    have hv : mulVal X Y = (.nan false false, flNV) := mulVal_infTimesZero hp
    exact leavesNaN_of_product (vs := [X, Y]) ha rfl (notNar_pair hX hY)
      (fpMul_of_nan _ _ (by rw [hv]; exact isNan_nan _ _))
      ((exists_isSig_pair X Y).trans (iff_false_intro hsn)) (p := True)
      (.inl ⟨trivial, by rw [hv]⟩) (by simp)
  case fma =>
    exact leavesNaN_of_fma ha rfl hX hY hZ h
  case fms =>
    have h' := leavesNaN_of_fma (x := X.negate) (i := .ffms d a b f m) ha rfl hX.negate hY hZ
      (by rw [isNan_negate, infTimesZero_negate]; exact h)
    rwa [isSig_negate, infTimesZero_negate] at h'
  case eq =>
    obtain ⟨r, hr, hfl⟩ := hcmp false fun o => o == some .eq
    exact ⟨r, _, hr, fun h => by rw [hnone.mpr h]; rfl, hfl.trans (by simp [two, sig, X, Y, Val.isSig])⟩
  case un =>
    obtain ⟨r, hr, hfl⟩ := hcmp false Option.isNone
    exact ⟨r, _, hr, by rw [Option.isNone_iff_eq_none]; exact hnone, hfl.trans (by simp [two, sig, X, Y, Val.isSig])⟩
  case lt =>
    obtain ⟨r, hr, hfl⟩ := hcmp true fun o => o == some .lt
    exact ⟨r, _, hr, fun h => ⟨by rw [hnone.mpr h]; rfl, hfl.mpr (.inr (.inr ⟨rfl, h⟩))⟩⟩
  case le =>
    obtain ⟨r, hr, hfl⟩ := hcmp true fun o => o == some .lt || o == some .eq
    exact ⟨r, _, hr, fun h => ⟨by rw [hnone.mpr h]; rfl, hfl.mpr (.inr (.inr ⟨rfl, h⟩))⟩⟩

end Sys2Proof.Proofs
end

section
/-! PROOF. The range of an integer format: the integers that its bits denote, and results that wrap or are clamped (O41). -/

namespace Sys2Proof.Proofs

open Sys2Proof.Machine
open Sys2Proof.Laws

/-! ## The range of an integer format (R42, R43) -/

/-- R43: the least integer of a format. -/
def intLo (f : Nat) : Int := if fmtSigned f = true then -(2 ^ (fmtBits f - 1)) else 0

/-- R43: the greatest integer of a format. -/
def intHi (f : Nat) : Int := intLo f + 2 ^ fmtBits f - 1

/-- R43: an integer held to the range of a format. -/
def clampInt (f : Nat) (v : Int) : Int := max (intLo f) (min (intHi f) v)

theorem fmtIsInt_iff (f : Nat) : fmtIsInt f = true ↔ f ≤ 9 ∨ f = 19 := by simp [fmtIsInt]

theorem fmtBits_pos {f : Nat} (hf : fmtIsInt f = true) : 0 < fmtBits f := by
  rcases (fmtIsInt_iff f).mp hf with h | rfl
  · interval_cases f <;> decide
  · decide

theorem fmtBits_le {f : Nat} (hf : fmtIsInt f = true) : fmtBits f ≤ 64 := by
  rcases (fmtIsInt_iff f).mp hf with h | rfl
  · interval_cases f <;> decide
  · decide

/-- The width's power as twice the sign bit's weight. -/
theorem two_pow_eq_double {w : Nat} (hw : 0 < w) : 2 ^ w = 2 * 2 ^ (w - 1) := by
  rw [← Nat.pow_succ', Nat.succ_eq_add_one, Nat.sub_add_cancel hw]

/-- R43: the two cases of a format's range. -/
theorem intRange_cases {f : Nat} (hf : fmtIsInt f = true) : ∃ p : Nat, 2 ^ fmtBits f = 2 * p ∧ 0 < p ∧
    2 ^ (fmtBits f - 1) = p ∧ (fmtSigned f = true ∧ intLo f = -p ∧ intHi f = p - 1 ∨
      fmtSigned f = false ∧ intLo f = 0 ∧ intHi f = 2 * p - 1) := by
  have hp := two_pow_eq_double (fmtBits_pos hf)
  have hp' : (2 : Int) ^ fmtBits f = 2 * 2 ^ (fmtBits f - 1) := by exact_mod_cast hp
  refine ⟨2 ^ (fmtBits f - 1), hp, Nat.two_pow_pos _, rfl, ?_⟩
  unfold intHi intLo
  cases fmtSigned f
  · simp [hp']
  · simp [hp']; omega

theorem wrapBits_cast (w : Nat) (v : Int) : (wrapBits w v : Int) = v % 2 ^ w := by
  rw [wrapBits, Int.toNat_of_nonneg (Int.emod_nonneg _ (by positivity))]

theorem wrapBits_lt (w : Nat) (v : Int) : wrapBits w v < 2 ^ w := by
  zify
  rw [wrapBits_cast]
  exact Int.emod_lt_of_pos _ (by positivity)

/-- R43: the bits of an integer differ from it by a multiple of the width's power. -/
theorem wrapBits_sub_emod (w : Nat) (v : Int) : ((wrapBits w v : Int) - v) % 2 ^ w = 0 := by
  rw [wrapBits_cast]
  exact Int.emod_eq_zero_of_dvd ⟨-(v / 2 ^ w), by linarith [Int.emod_add_mul_ediv v (2 ^ w)]⟩

/-- R43: what the bits of a format denote, by the range they lie in. -/
theorem intDecode_range {f : Nat} (hf : fmtIsInt f = true) (b : Nat) :
    intLo f ≤ intDecode f b ∧ intDecode f b ≤ intHi f := by
  obtain ⟨p, hp, h0, hp1, hr⟩ := intRange_cases hf
  have hb : b % (2 * p) < 2 * p := Nat.mod_lt _ (by omega)
  have hpz : (2 : Int) ^ fmtBits f = 2 * p := by exact_mod_cast hp
  simp only [intDecode, hp, hp1, hpz]
  generalize b % (2 * p) = r at hb ⊢
  rcases hr with ⟨hs, hl, hh⟩ | ⟨hs, hl, hh⟩ <;> rw [hl, hh, hs]
  · simp only [true_and]
    split <;> omega
  · simp only [Bool.false_eq_true, false_and, if_false]
    omega

/-- R43: a value in the range of a format is what its bits denote. -/
theorem intDecode_wrapBits {f : Nat} (hf : fmtIsInt f = true) {v : Int} (hl : intLo f ≤ v) (hh : v ≤ intHi f) :
    intDecode f (wrapBits (fmtBits f) v) = v := by
  obtain ⟨p, hp, h0, hp1, hr⟩ := intRange_cases hf
  have hlt := wrapBits_lt (fmtBits f) v
  have hpz : (2 : Int) ^ fmtBits f = 2 * p := by exact_mod_cast hp
  have hc := wrapBits_cast (fmtBits f) v
  simp only [intDecode, hp1, Nat.mod_eq_of_lt hlt, hpz]
  rw [hpz] at hc
  rcases hr with ⟨hs, hl', hh'⟩ | ⟨hs, hl', hh'⟩ <;> rw [hl'] at hl <;> rw [hh'] at hh <;> rw [hs]
  · rcases lt_or_ge v 0 with hv | hv
    · have : v % (2 * p) = v + 2 * p := by rw [← Int.add_emod_right, Int.emod_eq_of_lt] <;> omega
      rw [if_pos ⟨rfl, by omega⟩]; omega
    · have : v % (2 * p) = v := Int.emod_eq_of_lt hv (by omega)
      rw [if_neg (by omega)]; omega
  · simp only [Bool.false_eq_true, false_and, if_false]
    rw [hc, Int.emod_eq_of_lt hl (by omega)]

theorem intLo_le_intHi {f : Nat} (hf : fmtIsInt f = true) : intLo f ≤ intHi f := by
  obtain ⟨p, -, h0, -, ⟨-, hl, hh⟩ | ⟨-, hl, hh⟩⟩ := intRange_cases hf <;> omega

/-- R61: SAT of an integer format. -/
theorem satInt_eq {f : Nat} (hf : fmtIsInt f = true) (v : Int) :
    satInt f v = (clampInt f v, decide (v < intLo f ∨ intHi f < v)) := by
  have hle := intLo_le_intHi hf
  have hlo : (if fmtSigned f = true then -(2 ^ (fmtBits f - 1) : Int) else 0) = intLo f := rfl
  have hhi : (if fmtSigned f = true then (2 ^ (fmtBits f - 1) : Int) - 1 else (2 ^ fmtBits f : Int) - 1) = intHi f := by
    obtain ⟨p, hp, -, hp1, hr⟩ := intRange_cases hf
    have hpz : (2 : Int) ^ fmtBits f = 2 * p := by exact_mod_cast hp
    have hp1z : (2 : Int) ^ (fmtBits f - 1) = p := by exact_mod_cast hp1
    rcases hr with ⟨hs, -, hh⟩ | ⟨hs, -, hh⟩ <;> rw [hs, hh, hpz, hp1z] <;> rfl
  simp only [satInt, hlo, hhi, clampInt]
  split
  · rw [min_eq_right (by omega), max_eq_left (by omega), decide_eq_true (.inl ‹_›)]
  · split
    · rw [min_eq_left (by omega), max_eq_right (by omega), decide_eq_true (.inr ‹_›)]
    · rw [min_eq_right (by omega), max_eq_right (by omega), decide_eq_false (by omega)]

/-- R61: the bits that hold a clamped integer. -/
theorem intDecode_clampInt {f : Nat} (hf : fmtIsInt f = true) (v : Int) :
    intDecode f (wrapBits (fmtBits f) (clampInt f v)) = clampInt f v :=
  intDecode_wrapBits hf (le_max_left _ _) (max_le (intLo_le_intHi hf) (min_le_left _ _))

/-- R61: a saturated result: its bits, and IS when it was clamped. -/
theorem satRes_eq {f : Nat} (hf : fmtIsInt f = true) (v : Int) :
    satRes f v = ⟨wrapBits (fmtBits f) (clampInt f v), if v < intLo f ∨ intHi f < v then flIS else 0, false, false⟩ := by
  simp [satRes, satInt_eq hf]

/-- R61: a saturated result as its statement. -/
theorem satRes_spec {f : Nat} (hf : fmtIsInt f = true) (v : Int) : (satRes f v).bits < 2 ^ fmtBits f ∧
    intDecode f (satRes f v).bits = max (intLo f) (min (intHi f) v) ∧
    (satRes f v).fl = if v < intLo f ∨ intHi f < v then flIS else 0 := by
  rw [satRes_eq hf]
  exact ⟨wrapBits_lt _ _, intDecode_clampInt hf v, rfl⟩

/-- R213, R220: an integer result wraps with modifier 0 and is clamped with modifier 1. -/
theorem intRes_spec {f : Nat} (hf : fmtIsInt f = true) (v : Int) :
    ((intRes f 0 v).bits < 2 ^ fmtBits f ∧ ((intRes f 0 v).bits - v) % 2 ^ fmtBits f = 0 ∧ (intRes f 0 v).fl = 0) ∧
    ((intRes f 1 v).bits < 2 ^ fmtBits f ∧ intDecode f (intRes f 1 v).bits = max (intLo f) (min (intHi f) v) ∧
      (intRes f 1 v).fl = if v < intLo f ∨ intHi f < v then flIS else 0) :=
  ⟨⟨wrapBits_lt _ _, wrapBits_sub_emod _ _, rfl⟩, satRes_spec hf v⟩

end Sys2Proof.Proofs
end

section
/-! PROOF. Elements by their bits: masks, shifts, funnels, reversal, counts, searches and fields (O41). -/

namespace Sys2Proof.Proofs

open Sys2Proof.Machine
open Sys2Proof.Laws

/-! ## Numbers by their bits -/

/-- A number of w bits whose bits are as told. -/
def HasBits (w n : Nat) (P : Nat → Bool) : Prop := n < 2 ^ w ∧ ∀ i, i < w → n.testBit i = P i

theorem hasBits_of_testBit {w n : Nat} {P : Nat → Bool} (hn : n < 2 ^ w) (h : ∀ i, n.testBit i = P i) : HasBits w n P :=
  ⟨hn, fun i _ => h i⟩

/-- Bit i of the quotient by a power, as the model spells it. -/
theorem div_pow_mod_two (v i : Nat) : v / 2 ^ i % 2 = (v.testBit i).toNat := (Nat.toNat_testBit v i).symm

theorem div_pow_mod_two_beq (v i : Nat) : (v / 2 ^ i % 2 == 1) = v.testBit i := by
  rw [div_pow_mod_two]
  cases v.testBit i <;> rfl

/-- A number of w bits that differs from an integer by a multiple of the width's power is its bits. -/
theorem wrapBits_eq {w r : Nat} {v : Int} (hr : r < 2 ^ w) (h : (2 ^ w : Int) ∣ v - r) : wrapBits w v = r := by
  zify
  rw [wrapBits_cast, Int.emod_eq_emod_iff_emod_sub_eq_zero.mpr (Int.emod_eq_zero_of_dvd h)]
  exact Int.emod_eq_of_lt (by positivity) (by exact_mod_cast hr)

section
variable {w a b d : Nat} (ha : a < 2 ^ w)
include ha

theorem hasBits_xor_mask : HasBits w (a.xor (2 ^ w - 1)) fun i => !a.testBit i := by
  refine ⟨Nat.xor_lt_two_pow ha (by have := Nat.two_pow_pos w; omega), fun i hi => ?_⟩
  show (a ^^^ (2 ^ w - 1)).testBit i = _
  simp [hi]

theorem hasBits_andn : HasBits w (a &&& b.xor (2 ^ w - 1)) fun i => a.testBit i && !b.testBit i := by
  refine ⟨lt_of_le_of_lt Nat.and_le_left ha, fun i hi => ?_⟩
  show (a &&& (b ^^^ (2 ^ w - 1))).testBit i = _
  simp [hi]

theorem hasBits_shr (o : Nat) : HasBits w (a / 2 ^ o) fun i => a.testBit (i + o) :=
  hasBits_of_testBit (lt_of_le_of_lt (Nat.div_le_self _ _) ha) (Nat.testBit_div_two_pow a)

/-- R221: VSAR: the sign is the top bit of the element, whatever its format. -/
theorem hasBits_sar {o : Nat} (ho : o < w) :
    HasBits w (wrapBits w ((if a ≥ 2 ^ (w - 1) then (a : Int) - 2 ^ w else a) / 2 ^ o)) fun i =>
      a.testBit (min (i + o) (w - 1)) := by
  refine ⟨wrapBits_lt _ _, fun i hi => ?_⟩
  have hw : w = (w - o) + o := by omega
  have hpow : 2 ^ w = 2 ^ (w - o) * 2 ^ o := by rw [← Nat.pow_add, ← hw]
  have hq : a / 2 ^ o < 2 ^ (w - o) := Nat.div_lt_of_lt_mul (by rwa [Nat.mul_comm, ← hpow])
  split
  case isTrue h =>
    have htop : a.testBit (w - 1) = true :=
      Nat.testBit_of_two_pow_le_and_two_pow_add_one_gt h (by rwa [Nat.sub_add_cancel (by omega)])
    have hval : wrapBits w (((a : Int) - 2 ^ w) / 2 ^ o) = 2 ^ (w - o) * (2 ^ o - 1) + a / 2 ^ o := by
      have hz : ((a : Int) - 2 ^ w) / 2 ^ o = ((a / 2 ^ o : Nat) : Int) - 2 ^ (w - o) := by
        have hpz : (2 : Int) ^ w = 2 ^ (w - o) * 2 ^ o := by exact_mod_cast hpow
        rw [hpz, Int.sub_mul_ediv_right _ _ (by positivity)]
        push_cast
        rfl
      have hge : 2 ^ (w - o) ≤ 2 ^ w := Nat.pow_le_pow_right (by decide) (by omega)
      have hmul : 2 ^ (w - o) * (2 ^ o - 1) = 2 ^ w - 2 ^ (w - o) := by rw [Nat.mul_sub, ← hpow, Nat.mul_one]
      rw [hz, hmul]
      refine wrapBits_eq (by omega) ⟨-1, ?_⟩
      push_cast [hge]
      ring
    rw [hval, Nat.testBit_two_pow_mul_add _ hq, Nat.testBit_two_pow_sub_one, Nat.testBit_div_two_pow]
    beta_reduce
    split
    · rw [min_eq_left (by omega)]
    · rw [min_eq_right (by omega), htop, decide_eq_true (by omega)]
  case isFalse h =>
    have htop : a.testBit (w - 1) = false := Nat.testBit_lt_two_pow (by omega)
    have hval : wrapBits w ((a : Int) / 2 ^ o) = a / 2 ^ o := by
      exact wrapBits_eq (lt_of_le_of_lt (Nat.div_le_self _ _) ha) ⟨0, by push_cast; ring⟩
    rw [hval, Nat.testBit_div_two_pow]
    beta_reduce
    rcases le_or_gt (i + o) (w - 1) with hio | hio
    · rw [min_eq_left hio]
    · rw [min_eq_right (by omega), htop]
      exact Nat.testBit_lt_two_pow (lt_of_lt_of_le ha (Nat.pow_le_pow_right (by decide) (by omega)))

end

theorem hasBits_shl (w a o : Nat) : HasBits w (a * 2 ^ o % 2 ^ w) fun i => decide (o ≤ i) && a.testBit (i - o) := by
  refine ⟨Nat.mod_lt _ (by positivity), fun i hi => ?_⟩
  rw [Nat.testBit_mod_two_pow, Nat.testBit_mul_two_pow, decide_eq_true hi, Bool.true_and]

/-- Bits of two elements side by side. -/
theorem testBit_pair {w d : Nat} (hd : d < 2 ^ w) (a i : Nat) :
    (a * 2 ^ w + d).testBit i = if i < w then d.testBit i else a.testBit (i - w) := by
  rw [Nat.mul_comm, Nat.testBit_two_pow_mul_add a hd]

/-- R221: VFSHL. -/
theorem hasBits_fshl {w d : Nat} (hd : d < 2 ^ w) (a : Nat) {o : Nat} (ho : o < w) :
    HasBits w ((a * 2 ^ w + d) * 2 ^ o / 2 ^ w % 2 ^ w) fun i =>
      if o ≤ i then a.testBit (i - o) else d.testBit (w + i - o) := by
  refine ⟨Nat.mod_lt _ (by positivity), fun i hi => ?_⟩
  rw [Nat.testBit_mod_two_pow, decide_eq_true hi, Bool.true_and, Nat.testBit_div_two_pow, Nat.testBit_mul_two_pow,
    decide_eq_true (by omega), Bool.true_and, testBit_pair hd]
  beta_reduce
  rcases le_or_gt o i with h | h
  · rw [if_neg (by omega), if_pos h]
    congr 1
    omega
  · rw [if_pos (by omega), if_neg (by omega)]
    congr 1
    omega

/-- R221: VFSHR. -/
theorem hasBits_fshr {w d : Nat} (hd : d < 2 ^ w) (a o : Nat) :
    HasBits w ((a * 2 ^ w + d) / 2 ^ o % 2 ^ w) fun i =>
      if i + o < w then d.testBit (i + o) else a.testBit (i + o - w) := by
  refine ⟨Nat.mod_lt _ (by positivity), fun i hi => ?_⟩
  rw [Nat.testBit_mod_two_pow, decide_eq_true hi, Bool.true_and, Nat.testBit_div_two_pow, testBit_pair hd]

/-! ## Reversal, counts and searches (R187, R223) -/

/-- The value that `brevNat` has gathered from the k lowest bits. -/
theorem foldl_brev (v w k : Nat) (hk : k ≤ w) : ∃ q, (List.range k).foldl (fun a i => a + v / 2 ^ i % 2 * 2 ^ (w - 1 - i)) 0 =
    2 ^ (w - k) * q ∧ ∀ j, q.testBit j = (decide (j < k) && v.testBit (k - 1 - j)) := by
  induction k with
  | zero => exact ⟨0, rfl, by simp⟩
  | succ k ih =>
    obtain ⟨q, hq, hb⟩ := ih (by omega)
    refine ⟨2 * q + (v.testBit k).toNat, ?_, fun j => ?_⟩
    · have hp : 2 ^ (w - k) = 2 ^ (w - (k + 1)) * 2 := by rw [← Nat.pow_succ]; congr 1; omega
      have he : w - 1 - k = w - (k + 1) := by omega
      rw [List.range_succ, List.foldl_append, hq, List.foldl_cons, List.foldl_nil, div_pow_mod_two, hp, he]
      ring
    · cases j with
      | zero => cases h : v.testBit k <;> simp [Nat.testBit_zero, h, Nat.add_mod]
      | succ j =>
        have hd : (2 * q + (v.testBit k).toNat) / 2 = q := by cases v.testBit k <;> simp; omega
        rw [Nat.testBit_add_one, hd, hb, show k + 1 - 1 - (j + 1) = k - 1 - j by omega]
        simp

/-- R223: VBREV. -/
theorem hasBits_brev (w a : Nat) : HasBits w (brevNat w a) fun i => a.testBit (w - 1 - i) := by
  obtain ⟨q, hq, hb⟩ := foldl_brev a w w le_rfl
  have hv : brevNat w a = q := by rw [brevNat, hq]; simp
  rw [hv]
  exact ⟨Nat.lt_pow_two_of_testBit q fun i hi => by rw [hb, decide_eq_false (by omega)]; rfl,
    fun i hi => by rw [hb, decide_eq_true hi, Bool.true_and]⟩

/-- R223: the number of ones among the n lowest bits. -/
def onesBelow (a n : Nat) : Nat := ((List.range n).filter fun i => a.testBit i).length

theorem onesBelow_succ (a n : Nat) : onesBelow a (n + 1) = onesBelow a n + (a.testBit n).toNat := by
  simp only [onesBelow, List.range_succ, List.filter_append, List.length_append]
  cases h : a.testBit n <;> simp [h]

theorem popNat_eq_onesBelow (w a : Nat) : popNat w a = onesBelow a w := by
  induction w with
  | zero => rfl
  | succ w ih =>
    rw [onesBelow_succ, ← ih, ← div_pow_mod_two]
    simp only [popNat, List.range_succ, List.foldl_append, List.foldl_cons, List.foldl_nil]

/-- R223: VCLZ. -/
theorem clzNat_spec {w a : Nat} (ha : a < 2 ^ w) : clzNat w a ≤ w ∧ (∀ i, w - clzNat w a ≤ i → a.testBit i = false) ∧
    (clzNat w a < w → a.testBit (w - 1 - clzNat w a) = true) := by
  rcases eq_or_ne a 0 with rfl | h0
  · simp [clzNat]
  · have hlog : Nat.log2 a < w := (Nat.log2_lt h0).mpr ha
    have hk : clzNat w a = w - 1 - Nat.log2 a := if_neg h0
    rw [hk]
    refine ⟨by omega, fun i hi => Nat.testBit_lt_two_pow (lt_of_lt_of_le Nat.lt_log2_self
      (Nat.pow_le_pow_right (by decide) (by omega))), fun _ => ?_⟩
    rw [show w - 1 - (w - 1 - Nat.log2 a) = Nat.log2 a by omega]
    exact Nat.testBit_log2 h0

/-- R223: without a set bit that has exactly b ones below it, there are at most b ones. -/
theorem onesBelow_le_of_none {a b : Nat} (w : Nat) (h : ∀ i, i < w → a.testBit i = true → onesBelow a i ≠ b) :
    onesBelow a w ≤ b := by
  induction w with
  | zero => exact Nat.zero_le _
  | succ w ih =>
    have hw := ih fun i hi => h i (by omega)
    rw [onesBelow_succ]
    cases hb : a.testBit w with
    | false => simpa using hw
    | true =>
      have := h w (by omega) hb
      simp only [Bool.toNat_true]
      omega

/-- R223: VFNS. -/
theorem fnsNat_spec (w a b : Nat) : fnsNat w a b < w ∧ a.testBit (fnsNat w a b) = true ∧ onesBelow a (fnsNat w a b) = b ∨
    fnsNat w a b = w ∧ onesBelow a w ≤ b := by
  simp only [fnsNat, div_pow_mod_two_beq, popNat_eq_onesBelow]
  cases h : (List.range w).find? fun i => a.testBit i && onesBelow a i == b with
  | some j =>
    have hm := List.mem_of_find?_eq_some h
    have hp := List.find?_some h
    simp only [Bool.and_eq_true, beq_iff_eq] at hp
    exact .inl ⟨List.mem_range.mp hm, hp⟩
  | none =>
    refine .inr ⟨rfl, onesBelow_le_of_none w fun i hi ht hb => ?_⟩
    have := List.find?_eq_none.mp h i (List.mem_range.mpr hi)
    simp [ht, hb] at this

/-! ## Fields (R187, R223) -/

/-- R223: VBFX. -/
theorem testBit_bfxNat {w o n : Nat} (hn : n ≤ w) (a : Nat) (sgn : Bool) (i : Nat) : (bfxNat w a o n sgn).testBit i =
    (decide (0 < n) && (if i < n then a.testBit (o + i) else sgn && decide (i < w) && a.testBit (o + n - 1))) := by
  simp only [bfxNat]
  rcases Nat.eq_zero_or_pos n with rfl | h0
  · simp
  · have hx : a / 2 ^ o % 2 ^ n < 2 ^ n := Nat.mod_lt _ (by positivity)
    have hbit : ∀ j, j < n → (a / 2 ^ o % 2 ^ n).testBit j = a.testBit (o + j) := fun j hj => by
      rw [Nat.testBit_mod_two_pow, decide_eq_true hj, Bool.true_and, Nat.testBit_div_two_pow, Nat.add_comm]
    have hhigh : ∀ j, n ≤ j → (a / 2 ^ o % 2 ^ n).testBit j = false := fun j hj =>
      Nat.testBit_lt_two_pow (lt_of_lt_of_le hx (Nat.pow_le_pow_right (by decide) hj))
    have htop : a.testBit (o + n - 1) = decide (a / 2 ^ o % 2 ^ n ≥ 2 ^ (n - 1)) := by
      rw [show o + n - 1 = o + (n - 1) by omega, ← hbit (n - 1) (by omega)]
      rcases le_or_gt (2 ^ (n - 1)) (a / 2 ^ o % 2 ^ n) with h | h
      · rw [decide_eq_true h]
        exact Nat.testBit_of_two_pow_le_and_two_pow_add_one_gt h (by rwa [Nat.sub_add_cancel h0])
      · rw [decide_eq_false (by omega)]
        exact Nat.testBit_lt_two_pow h
    rw [if_neg (by omega), decide_eq_true h0, Bool.true_and, htop]
    split
    case isTrue h =>
      have hv : a / 2 ^ o % 2 ^ n + 2 ^ w - 2 ^ n = 2 ^ n * (2 ^ (w - n) - 1) + a / 2 ^ o % 2 ^ n := by
        have hp : 2 ^ w = 2 ^ n * 2 ^ (w - n) := by rw [← Nat.pow_add]; congr 1; omega
        have hle : 2 ^ n ≤ 2 ^ w := Nat.pow_le_pow_right (by decide) hn
        rw [Nat.mul_sub, ← hp, Nat.mul_one]
        omega
      rw [hv, Nat.testBit_two_pow_mul_add _ hx, Nat.testBit_two_pow_sub_one]
      split
      · exact hbit i ‹_›
      · simp only [h.1, h.2, decide_true, Bool.true_and, Bool.and_true, decide_eq_decide]
        omega
    case isFalse h =>
      split
      · exact hbit i ‹_›
      · rw [hhigh i (by omega)]
        cases sgn
        · rfl
        · rw [decide_eq_false (not_and.mp h rfl), Bool.and_false]

/-- R223: VBFI. -/
theorem testBit_bfiNat (d a o n i : Nat) :
    (bfiNat d a o n).testBit i = if o ≤ i ∧ i < o + n then a.testBit (i - o) else d.testBit i := by
  have hlow : d % 2 ^ o < 2 ^ o := Nat.mod_lt _ (by positivity)
  have hnew : a % 2 ^ n < 2 ^ n := Nat.mod_lt _ (by positivity)
  have hv : bfiNat d a o n = 2 ^ o * (2 ^ n * (d / 2 ^ o / 2 ^ n) + a % 2 ^ n) + d % 2 ^ o := by
    have h1 := Nat.div_add_mod d (2 ^ o)
    have h2 := Nat.div_add_mod (d / 2 ^ o) (2 ^ n)
    have h3 : d - d / 2 ^ o % 2 ^ n * 2 ^ o = 2 ^ o * (2 ^ n * (d / 2 ^ o / 2 ^ n)) + d % 2 ^ o := by
      refine Nat.sub_eq_of_eq_add ?_
      conv_lhs => rw [← h1, ← h2]
      ring
    rw [bfiNat, h3]
    ring
  rw [hv, Nat.testBit_two_pow_mul_add _ hlow, Nat.testBit_two_pow_mul_add _ hnew]
  rcases lt_or_ge i o with hi | hi
  · rw [if_pos hi, if_neg (by omega), Nat.testBit_mod_two_pow, decide_eq_true hi, Bool.true_and]
  · rw [if_neg (by omega)]
    rcases lt_or_ge i (o + n) with hn | hn
    · rw [if_pos (by omega), if_pos ⟨hi, hn⟩, Nat.testBit_mod_two_pow, decide_eq_true (by omega), Bool.true_and]
    · rw [if_neg (by omega), if_neg (by omega), Nat.testBit_div_two_pow, Nat.testBit_div_two_pow]
      congr 1
      omega

end Sys2Proof.Proofs
end

section
/-! PROOF. The elements of the V operations on integers, the relations of VCMP, and sign bits (O41). -/

namespace Sys2Proof.Proofs

open Sys2Proof.Machine
open Sys2Proof.Laws

/-! ## Elements of integer formats (R213, R220, R221) -/

/-- R213, R220: a result that wraps with modifier 0 and is clamped with modifier 1. -/
def WrapsOrClamps (f : Nat) (v : Int) (r0 r1 : Res) : Prop :=
  (r0.bits < 2 ^ fmtBits f ∧ ((r0.bits : Int) - v) % 2 ^ fmtBits f = 0 ∧ r0.fl = 0) ∧
    (r1.bits < 2 ^ fmtBits f ∧ intDecode f r1.bits = max (intLo f) (min (intHi f) v) ∧
      r1.fl = if v < intLo f ∨ intHi f < v then flIS else 0)

theorem wrapsOrClamps_of_intRes {f : Nat} (hf : fmtIsInt f = true) {v : Int} {r : Nat → Res}
    (h : ∀ mode, r mode = intRes f mode v) : WrapsOrClamps f v (r 0) (r 1) := by
  rw [h 0, h 1]
  exact intRes_spec hf v

theorem elemOp_min_int {f : Nat} (hf : fmtIsInt f = true) (g mode : Nat) (md : Mode) (a b d : Nat) :
    intDecode f (elemOp .min f g mode md a b d).bits = min (intDecode f a) (intDecode f b) := by
  have h : elemOp .min f g mode md a b d = .plain (if intDecode f b < intDecode f a then b else a) := if_pos hf
  rw [h]
  rcases lt_or_ge (intDecode f b) (intDecode f a) with hlt | hle
  · rw [if_pos hlt, min_eq_right hlt.le]; rfl
  · rw [if_neg (not_lt.mpr hle), min_eq_left hle]; rfl

theorem elemOp_max_int {f : Nat} (hf : fmtIsInt f = true) (g mode : Nat) (md : Mode) (a b d : Nat) :
    intDecode f (elemOp .max f g mode md a b d).bits = max (intDecode f a) (intDecode f b) := by
  have h : elemOp .max f g mode md a b d = .plain (if intDecode f a < intDecode f b then b else a) := if_pos hf
  rw [h]
  rcases lt_or_ge (intDecode f a) (intDecode f b) with hlt | hle
  · rw [if_pos hlt, max_eq_right hlt.le]; rfl
  · rw [if_neg (not_lt.mpr hle), max_eq_left hle]; rfl

/-- R43, R61, R213, R220, R221: the elements of the V operations on integer formats. -/
theorem integerElements {f a b d : Nat} (g : Nat) (md : Mode) (hf : fmtIsInt f = true) (ha : a < 2 ^ fmtBits f)
    (hb : b < 2 ^ fmtBits f) (hd : d < 2 ^ fmtBits f) :
    let w := fmtBits f
    let o := b % w
    let el := fun op mode => elemOp op f g mode md a b d
    let arith := fun op v => WrapsOrClamps f v (el op 0) (el op 1)
    let bit := fun op P => HasBits w (el op 0).bits P
    arith .add (intDecode f a + intDecode f b) ∧ arith .sub (intDecode f a - intDecode f b) ∧
    arith .mul (intDecode f a * intDecode f b) ∧ arith .fma (intDecode f a * intDecode f b + intDecode f d) ∧
    arith .fms (intDecode f d - intDecode f a * intDecode f b) ∧ arith .neg (-intDecode f a) ∧
    (fmtSigned f = true → arith .abs (intDecode f a).natAbs) ∧
    ((el .mulh 0).bits < 2 ^ w ∧ ((el .mulh 0).bits - intDecode f a * intDecode f b / 2 ^ w) % 2 ^ w = 0) ∧
    intDecode f (el .min 0).bits = min (intDecode f a) (intDecode f b) ∧
    intDecode f (el .max 0).bits = max (intDecode f a) (intDecode f b) ∧
    bit .and (fun i => a.testBit i && b.testBit i) ∧ bit .or (fun i => a.testBit i || b.testBit i) ∧
    bit .xor (fun i => a.testBit i ^^ b.testBit i) ∧ bit .andn (fun i => a.testBit i && !b.testBit i) ∧
    bit .not (fun i => !a.testBit i) ∧ bit .brev (fun i => a.testBit (w - 1 - i)) ∧
    bit .shl (fun i => decide (o ≤ i) && a.testBit (i - o)) ∧ bit .shr (fun i => a.testBit (i + o)) ∧
    bit .sar (fun i => a.testBit (min (i + o) (w - 1))) ∧
    bit .fshl (fun i => if o ≤ i then a.testBit (i - o) else d.testBit (w + i - o)) ∧
    bit .fshr (fun i => if i + o < w then d.testBit (i + o) else a.testBit (i + o - w)) := by
  intro w o el arith bit
  have ho : o < w := Nat.mod_lt b (fmtBits_pos hf)
  have har : ∀ {op v}, (∀ mode, el op mode = intRes f mode v) → arith op v := fun h => wrapsOrClamps_of_intRes hf h
  exact ⟨har fun _ => if_pos hf, har fun _ => if_pos hf, har fun _ => if_pos hf, har fun _ => if_pos hf,
    har fun _ => if_pos hf, har fun _ => if_pos hf, fun hs => har fun _ => (if_pos hf).trans (if_pos hs),
    ⟨wrapBits_lt _ _, wrapBits_sub_emod _ _⟩, elemOp_min_int hf .., elemOp_max_int hf ..,
    hasBits_of_testBit (Nat.and_lt_two_pow a hb) (Nat.testBit_and a b),
    hasBits_of_testBit (Nat.or_lt_two_pow ha hb) (Nat.testBit_or a b),
    hasBits_of_testBit (Nat.xor_lt_two_pow ha hb) (Nat.testBit_xor a b),
    hasBits_andn ha, hasBits_xor_mask ha, hasBits_brev w a, hasBits_shl w a o, hasBits_shr ha o, hasBits_sar ha ho,
    hasBits_fshl hd a ho, hasBits_fshr hd a o⟩

/-! ## Comparisons (R222) -/

/-- A mask element is 1 exactly when its relation holds. -/
theorem b2n_spec {t : Bool} {P : Prop} (h : t = true ↔ P) : b2n t ≤ 1 ∧ (b2n t = 1 ↔ P) := by
  cases t <;> simp_all [b2n]

/-- R222: the relation of VCMP on integers, by their order. -/
def intRel (r : Nat) (o : Ordering) : Bool :=
  match r with
  | 0 => o == .eq | 1 => o != .eq | 2 => o == .lt | 3 => o != .gt | 4 => o == .gt | 5 => o != .lt | _ => false

theorem cmpElem_int {f : Nat} (hf : fmtIsInt f = true) (r a b : Nat) :
    cmpElem r f a b = .plain (b2n (intRel r (compare (intDecode f a) (intDecode f b)))) := if_pos hf

/-- R222: the relation of VCMP on floating values, by their order. -/
def floatRel (r : Nat) (o : Option Ordering) : Bool :=
  match r with
  | 0 => o == some .eq
  | 1 => o != some .eq
  | 2 => o == some .lt
  | 3 => o == some .lt || o == some .eq
  | 4 => o == some .gt
  | 5 => o == some .gt || o == some .eq
  | _ => o == none

theorem cmpElem_float {f : Nat} (hf : ¬fmtIsInt f = true) (r a b : Nat) :
    let v := nanFlags [fpDecode f a, fpDecode f b]
    let o := fpCompare (fpDecode f a) (fpDecode f b)
    cmpElem r f a b = ⟨b2n (floatRel r o), v.1 ||| (if 2 ≤ r && r ≤ 5 && o.isNone then flNV else 0), false, v.2⟩ :=
  if_neg hf

/-- R222: VCMP on integers. -/
theorem integerComparisons {f : Nat} (hf : fmtIsInt f = true) (a b : Nat) :
    let rel := fun r (P : Prop) => (cmpElem r f a b).bits ≤ 1 ∧ ((cmpElem r f a b).bits = 1 ↔ P)
    rel 0 (intDecode f a = intDecode f b) ∧ rel 1 (intDecode f a ≠ intDecode f b) ∧ rel 2 (intDecode f a < intDecode f b) ∧
      rel 3 (intDecode f a ≤ intDecode f b) ∧ rel 4 (intDecode f b < intDecode f a) ∧ rel 5 (intDecode f b ≤ intDecode f a) ∧
      ∀ r, (cmpElem r f a b).fl = 0 := by
  simp only [cmpElem_int hf]
  generalize intDecode f a = x
  generalize intDecode f b = y
  refine ⟨b2n_spec ?_, b2n_spec ?_, b2n_spec ?_, b2n_spec ?_, b2n_spec ?_, b2n_spec ?_, fun _ => rfl⟩
  · simp [intRel]
  · simp [intRel]
  · simp [intRel, compare_lt_iff_lt]
  · simp [intRel, compare_le_iff_le]
  · simp [intRel, compare_gt_iff_gt]
  · simp [intRel, compare_ge_iff_ge]

/-- R222: VCMP on floating values, with invalid as a NaN makes it. -/
theorem floatComparisons {f : Nat} (hf : ¬fmtIsInt f = true) (h17 : f ≠ 17) (a b : Nat) :
    let X := fpDecode f a
    let Y := fpDecode f b
    let o := fpCompare X Y
    let inv := X.isSig ∨ Y.isSig
    let rel := fun r (P : Prop) => (cmpElem r f a b).bits ≤ 1 ∧ ((cmpElem r f a b).bits = 1 ↔ P)
    let quiet := fun r => (cmpElem r f a b).fl = 0 ∧ ¬inv ∨ (cmpElem r f a b).fl = flNV ∧ inv
    let ordered := fun r => (cmpElem r f a b).fl = 0 ∧ ¬(X.isNan ∨ Y.isNan) ∨
      (cmpElem r f a b).fl = flNV ∧ (X.isNan ∨ Y.isNan)
    rel 0 (o = some .eq) ∧ quiet 0 ∧ rel 1 (o ≠ some .eq) ∧ quiet 1 ∧ rel 2 (o = some .lt) ∧ ordered 2 ∧
      rel 3 (o = some .lt ∨ o = some .eq) ∧ ordered 3 ∧ rel 4 (o = some .gt) ∧ ordered 4 ∧
      rel 5 (o = some .gt ∨ o = some .eq) ∧ ordered 5 ∧ rel 6 (X.isNan ∨ Y.isNan) ∧ quiet 6 := by
  intro X Y o inv rel quiet ordered
  have hX : NotNar X := notNar_fpDecode h17 a
  have hY : NotNar Y := notNar_fpDecode h17 b
  have hnone : o = none ↔ X.isNan ∨ Y.isNan := fpCompare_eq_none_iff X Y
  have hfl : ∀ r, (cmpElem r f a b).fl =
      ((nanFlags [X, Y]).1 ||| if 2 ≤ r && r ≤ 5 && o.isNone then flNV else 0) := fun r =>
    congrArg Res.fl (cmpElem_float hf r a b)
  have hrel : ∀ {r P}, (floatRel r o = true ↔ P) → rel r P := fun {r P} h => by
    have hb : (cmpElem r f a b).bits = b2n (floatRel r o) := congrArg Res.bits (cmpElem_float hf r a b)
    show _ ≤ 1 ∧ (_ = 1 ↔ P)
    rw [hb]
    exact b2n_spec h
  have hquiet : ∀ {r}, (2 ≤ r && r ≤ 5) = false → quiet r := fun {r} hr => by
    show _ = 0 ∧ ¬_ ∨ _ = flNV ∧ _
    rw [hfl, hr, Bool.false_and, if_neg Bool.false_ne_true, Nat.or_zero]
    rcases nanFlags_pair hX hY with ⟨hs, h⟩ | ⟨hs, h⟩ <;> rw [h]
    · exact .inr ⟨rfl, hs⟩
    · exact .inl ⟨rfl, hs⟩
  have hordered : ∀ {r}, (2 ≤ r && r ≤ 5) = true → ordered r := fun {r} hr => by
    show _ = 0 ∧ ¬_ ∨ _ = flNV ∧ _
    rw [hfl, hr, Bool.true_and]
    by_cases hn : X.isNan ∨ Y.isNan
    · rw [hnone.mpr hn]
      rcases nanFlags_pair hX hY with ⟨-, h⟩ | ⟨-, h⟩ <;> rw [h] <;> exact .inr ⟨rfl, hn⟩
    · have ho : o.isNone = false := by simpa [Option.ne_none_iff_isSome] using mt hnone.mp hn
      rw [nanFlags_of_numbers (by simpa [not_or] using hn), ho]
      exact .inl ⟨rfl, hn⟩
  exact ⟨hrel (by simp [floatRel]), hquiet rfl, hrel (by simp [floatRel]), hquiet rfl, hrel (by simp [floatRel]),
    hordered rfl, hrel (by simp [floatRel]), hordered rfl, hrel (by simp [floatRel]), hordered rfl,
    hrel (by simp [floatRel]), hordered rfl, hrel (by simpa [floatRel] using hnone), hquiet rfl⟩

/-! ## Other elements (R220, R221, R223) -/

/-- R220: absolute value and negation of a floating element change its sign bit alone. -/
theorem signBitElements {w a : Nat} (hw : 0 < w) (ha : a < 2 ^ w) :
    HasBits w (a % 2 ^ (w - 1)) (fun i => a.testBit i && i != w - 1) ∧
      HasBits w (a.xor (2 ^ (w - 1))) fun i => a.testBit i ^^ i == w - 1 := by
  have hlt : 2 ^ (w - 1) < 2 ^ w := Nat.pow_lt_pow_right (by decide) (by omega)
  refine ⟨⟨lt_of_le_of_lt (Nat.mod_le _ _) ha, fun i hi => ?_⟩, ⟨Nat.xor_lt_two_pow ha hlt, fun i hi => ?_⟩⟩
  · have hne : (i != w - 1) = decide (i < w - 1) := by rw [Bool.eq_iff_iff]; simp; omega
    beta_reduce
    rw [Nat.testBit_mod_two_pow, hne, Bool.and_comm]
  · have heq : (i == w - 1) = decide (w - 1 = i) := by rw [Bool.eq_iff_iff, beq_iff_eq, decide_eq_true_iff, eq_comm]
    show (a ^^^ 2 ^ (w - 1)).testBit i = (a.testBit i ^^ i == w - 1)
    rw [Nat.testBit_xor, Nat.testBit_two_pow, heq]

/-- R223: bit counts, searches and fields of an element. -/
theorem fieldElements {f a : Nat} (g mode : Nat) (md : Mode) (b d : Nat) (ha : a < 2 ^ fmtBits f) :
    let w := fmtBits f
    let el := fun op => elemOp op f g mode md a b d
    let o := b % w
    let n := min (min (b / 2 ^ 8 % 128) w) (w - o)
    let k := (el .clz).bits
    let j := (el .fns).bits
    (el .popc).bits = onesBelow a w ∧ k ≤ w ∧ (∀ i, w - k ≤ i → a.testBit i = false) ∧ (k < w → a.testBit (w - 1 - k) = true) ∧
      ((j < w ∧ a.testBit j = true ∧ onesBelow a j = b) ∨ (j = w ∧ onesBelow a w ≤ b)) ∧
      (∀ i, (el .bfx).bits.testBit i = (decide (0 < n) && (if i < n then a.testBit (o + i)
        else fmtSigned f && decide (i < w) && a.testBit (o + n - 1)))) ∧
      ∀ i, (el .bfi).bits.testBit i = if o ≤ i ∧ i < o + n then a.testBit (i - o) else d.testBit i := by
  intro w el o n k j
  have hn : n ≤ w := (min_le_left _ _).trans (min_le_right _ _)
  obtain ⟨hk, hz, ht⟩ := clzNat_spec ha
  exact ⟨popNat_eq_onesBelow w a, hk, hz, ht, fnsNat_spec w a b, testBit_bfxNat hn a _, testBit_bfiNat d a o n⟩

end Sys2Proof.Proofs
end

section
/-! PROOF. Rounding a dyadic number to an integer, and the conversion of a floating value to an integer format (O41). -/

namespace Sys2Proof.Proofs

open Sys2Proof.Machine
open Sys2Proof.Laws

/-! ## Rounding to an integer (R58, R61) -/

/-- R58: k is an integer that v / p may be rounded to under a mode. -/
structure RoundsTo (code : Nat) (v p k : Int) : Prop where
  above : k * p < v + p
  below : v < k * p + p
  nearest : code = 0 ∨ code = 4 → 2 * (k * p) ≤ 2 * v + p ∧ 2 * v ≤ 2 * (k * p) + p
  zero : code = 1 → (0 ≤ v → k * p ≤ v) ∧ (v ≤ 0 → v ≤ k * p)
  up : code = 2 → v ≤ k * p
  down : code = 3 → k * p ≤ v

/-- An integer is rounded to itself. -/
theorem roundsTo_exact (code : Nat) (k : Int) {p : Int} (hp : 0 < p) : RoundsTo code (k * p) p k :=
  ⟨by omega, by omega, fun _ => by omega, fun _ => by omega, fun _ => le_rfl, fun _ => le_rfl⟩

/-- R58: a magnitude that stands on a rounding position stays. -/
theorem roundUp_of_zero (md : Mode) (neg : Bool) (k s : Nat) : roundUp md neg k 0 s false = false := by
  simp [roundUp]

/-- R58: which magnitudes each mode moves away from zero. -/
theorem roundUp_spec (md : Mode) (neg : Bool) (k : Nat) {rem : Nat} (s : Nat) (hr : rem ≠ 0) :
    (md.code = 0 ∨ md.code = 4 → if roundUp md neg k rem s false = true then 2 ^ s ≤ 2 * rem else 2 * rem ≤ 2 ^ s) ∧
      (md.code = 1 → roundUp md neg k rem s false = false) ∧ (md.code = 2 → roundUp md neg k rem s false = !neg) ∧
      (md.code = 3 → roundUp md neg k rem s false = neg) := by
  obtain ⟨code, u⟩ := md
  refine ⟨?_, ?_, ?_, ?_⟩
  · rintro (rfl | rfl)
    · simp only [roundUp, hr, false_and, if_false, Bool.false_or, Bool.or_eq_true, Bool.and_eq_true, decide_eq_true_eq,
        beq_iff_eq]
      split <;> omega
    · simp only [roundUp, hr, false_and, if_false, decide_eq_true_eq]
      split <;> omega
  all_goals
    rintro rfl
    simp [roundUp, hr]

/-- R58, R61: RINT of a magnitude in units of 2^−s. -/
theorem roundAt_zero (md : Mode) (neg : Bool) (m s : Nat) : roundAt md neg ⟨m, -(s : Int), false⟩ 0 =
    (if roundUp md neg (m / 2 ^ s) (m % 2 ^ s) s false = true then m / 2 ^ s + 1 else m / 2 ^ s, m % 2 ^ s != 0) := by
  rcases Nat.eq_zero_or_pos s with rfl | hs
  · simp [roundAt, Nat.mod_one, roundUp_of_zero]
  · have hneg : ¬(0 : Int) ≤ -(s : Int) := by omega
    have hs' : ((0 : Int) - -(s : Int)).toNat = s := by omega
    simp only [roundAt, hneg, if_false, hs', Bool.or_false]

/-- R58: a rounding of a magnitude, told with its sign. -/
theorem roundsTo_sInt {code : Nat} {neg : Bool} {m k : Nat} {p : Int} (habove : k * p < m + p) (hbelow : (m : Int) < k * p + p)
    (hnear : code = 0 ∨ code = 4 → 2 * (k * p) ≤ 2 * m + p ∧ 2 * (m : Int) ≤ 2 * (k * p) + p)
    (hzero : code = 1 → k * p ≤ m) (hup : code = 2 → if neg = true then k * p ≤ m else m ≤ k * p)
    (hdown : code = 3 → if neg = true then m ≤ k * p else k * p ≤ m) : RoundsTo code (sInt neg m) p (sInt neg k) := by
  cases neg with
  | false =>
    exact ⟨habove, hbelow, hnear, fun h => ⟨fun _ => hzero h, fun h0 => by
      have : (m : Int) = 0 := le_antisymm h0 (by positivity)
      have hk : (0 : Int) ≤ k * p := mul_nonneg (by positivity) (by omega)
      show (m : Int) ≤ k * p
      omega⟩, hup, hdown⟩
  | true =>
    have hneg : -(k : Int) * p = -(k * p) := neg_mul _ _
    simp only [if_true] at hup hdown
    refine ⟨?_, ?_, fun h => ?_, fun h => ⟨fun h0 => ?_, fun _ => ?_⟩, fun h => ?_, fun h => ?_⟩ <;>
      simp only [sInt, if_true, hneg] at *
    · omega
    · omega
    · have := hnear h; omega
    · have hk : (0 : Int) ≤ k * p := mul_nonneg (by positivity) (by omega)
      omega
    · have := hzero h; omega
    · have := hup h; omega
    · have := hdown h; omega

/-- R58, R61: RINT of a signed number of units of 2^−s, and whether it changed the value. -/
theorem rint_scaled (md : Mode) (neg : Bool) (m s : Nat) :
    RoundsTo md.code (sInt neg m) (2 ^ s) (rint md neg m (-(s : Int))).1 ∧
      ((rint md neg m (-(s : Int))).2 = false ↔ (rint md neg m (-(s : Int))).1 * 2 ^ s = sInt neg m) := by
  simp only [rint, roundAt_zero]
  have hrem : m % 2 ^ s < 2 ^ s := Nat.mod_lt _ (by positivity)
  have hm : m / 2 ^ s * 2 ^ s + m % 2 ^ s = m := Nat.div_add_mod' m _
  generalize hk : m / 2 ^ s = k at hm
  generalize hr : m % 2 ^ s = r at hm hrem
  have hp : (0 : Int) < 2 ^ s := by positivity
  rcases Nat.eq_zero_or_pos r with rfl | hr0
  · have hv : sInt neg k * 2 ^ s = sInt neg m := by
      rw [← hm]
      cases neg <;> simp [sInt]
    simp only [roundUp_of_zero, Bool.false_eq_true, if_false, ← hv]
    exact ⟨roundsTo_exact _ _ hp, by simp⟩
  · obtain ⟨h04, h1, h2, h3⟩ := roundUp_spec md neg k s hr0.ne'
    have hmz : (k : Int) * 2 ^ s + r = m := by exact_mod_cast hm
    have hrz : (r : Int) < 2 ^ s := by exact_mod_cast hrem
    have h04z : md.code = 0 ∨ md.code = 4 →
        if roundUp md neg k r s false = true then (2 : Int) ^ s ≤ 2 * r else 2 * (r : Int) ≤ 2 ^ s := by exact_mod_cast h04
    generalize (2 : Int) ^ s = p at *
    generalize roundUp md neg k r s false = up at *
    have hKp : (((if up = true then k + 1 else k : Nat)) : Int) * p = m - r + if up = true then p else 0 := by
      cases up
      · simp; omega
      · simp [add_mul]; omega
    generalize (if up = true then k + 1 else k) = K at *
    have hne : sInt neg K * p ≠ sInt neg m := by
      have hK : (K : Int) * p ≠ m := by rw [hKp]; cases up <;> simp <;> omega
      cases neg
      · exact hK
      · simpa [sInt] using hK
    refine ⟨roundsTo_sInt ?_ ?_ (fun h => ?_) (fun h => ?_) (fun h => ?_) (fun h => ?_), by simp [hr0.ne', hne]⟩ <;> rw [hKp]
    · cases up <;> simp <;> omega
    · cases up <;> simp <;> omega
    · have := h04z h
      cases up <;> simp at this ⊢ <;> omega
    · rw [h1 h]; simp
    · rw [h2 h]; cases neg <;> simp; omega
    · rw [h3 h]; cases neg <;> simp; omega

/-- R58: the rounding of v to k, told of the rational number v. -/
structure RoundsRat (code : Nat) (v : Rat) (k : Int) : Prop where
  above : (k : Rat) < v + 1
  below : v < k + 1
  nearest : code = 0 ∨ code = 4 → 2 * (k : Rat) ≤ 2 * v + 1 ∧ 2 * v ≤ 2 * k + 1
  zero : code = 1 → (0 ≤ v → (k : Rat) ≤ v) ∧ (v ≤ 0 → v ≤ k)
  up : code = 2 → v ≤ k
  down : code = 3 → (k : Rat) ≤ v

theorem RoundsTo.rat {code : Nat} {n p k : Int} (hp : 0 < p) (h : RoundsTo code n p k) : RoundsRat code ((n : Rat) / p) k := by
  have hP : (0 : Rat) < p := by exact_mod_cast hp
  obtain ⟨v, hv⟩ : ∃ v : Rat, (n : Rat) / p = v := ⟨_, rfl⟩
  have hn : (n : Rat) = v * p := (div_eq_iff hP.ne').mp hv
  have hle : n ≤ k * p → v ≤ k := fun h => le_of_mul_le_mul_right (by rw [← hn]; exact_mod_cast h) hP
  have hge : k * p ≤ n → (k : Rat) ≤ v := fun h => le_of_mul_le_mul_right (by rw [← hn]; exact_mod_cast h) hP
  have hpos : 0 ≤ v → 0 ≤ n := fun h => by
    have := mul_nonneg h hP.le
    rw [← hn] at this
    exact_mod_cast this
  have hneg : v ≤ 0 → n ≤ 0 := fun h => by
    have := mul_nonpos_of_nonpos_of_nonneg h hP.le
    rw [← hn] at this
    exact_mod_cast this
  have habove : (k : Rat) * p < n + p := by exact_mod_cast h.above
  have hbelow : (n : Rat) < k * p + p := by exact_mod_cast h.below
  have hnear : code = 0 ∨ code = 4 → 2 * ((k : Rat) * p) ≤ 2 * n + p ∧ 2 * (n : Rat) ≤ 2 * (k * p) + p := by
    exact_mod_cast h.nearest
  rw [hn] at habove hbelow hnear
  rw [hv]
  exact ⟨lt_of_mul_lt_mul_right (by linarith) hP.le, lt_of_mul_lt_mul_right (by linarith) hP.le,
    fun hc => ⟨le_of_mul_le_mul_right (by linarith [(hnear hc).1]) hP, le_of_mul_le_mul_right (by linarith [(hnear hc).2]) hP⟩,
    fun hc => ⟨fun h0 => hge ((h.zero hc).1 (hpos h0)), fun h0 => hle ((h.zero hc).2 (hneg h0))⟩,
    fun hc => hle (h.up hc), fun hc => hge (h.down hc)⟩

/-- R58, R61: RINT of a finite value, and whether it changed the value. -/
theorem rint_rat (md : Mode) (neg : Bool) (m : Nat) (e : Int) :
    RoundsRat md.code (Val.fin neg m e).rat (rint md neg m e).1 ∧
      ((rint md neg m e).2 = false ↔ ((rint md neg m e).1 : Rat) = (Val.fin neg m e).rat) := by
  rcases le_or_gt 0 e with he | he
  · obtain ⟨n, rfl⟩ := Int.eq_ofNat_of_zero_le he
    have hr : rint md neg m n = (sInt neg (m * 2 ^ n), false) := by simp [rint, roundAt]
    have hv : (Val.fin neg m n).rat = (sInt neg (m * 2 ^ n) : Int) := by cases neg <;> simp [Val.rat, sInt]
    rw [hr, hv]
    have := (roundsTo_exact md.code (sInt neg (m * 2 ^ n)) one_pos).rat one_pos
    exact ⟨by simpa using this, by simp⟩
  · obtain ⟨s, rfl⟩ : ∃ s : Nat, e = -(s : Int) := ⟨(-e).toNat, by omega⟩
    have hv : (Val.fin neg m (-(s : Int))).rat = (sInt neg m : Rat) / ((2 ^ s : Int) : Rat) := by
      simp [Val.rat, div_eq_mul_inv]
    obtain ⟨hto, hex⟩ := rint_scaled md neg m s
    rw [hv]
    refine ⟨hto.rat (by positivity), hex.trans ?_⟩
    rw [eq_div_iff (by positivity)]
    norm_cast

/-! ## Conversions to integer formats (R66) -/

theorem not_fmtIsInt_of_float {f : Nat} (hf : fmtIsFloat f = true) : ¬fmtIsInt f = true := by
  simp only [fmtIsFloat, fmtIsInt, Bool.and_eq_true, Bool.or_eq_true, decide_eq_true_eq, beq_iff_eq] at hf ⊢
  omega

/-- R66: an infinity goes to the bound that it passes. -/
theorem clampInt_inf {g : Nat} (hg : fmtIsInt g = true) (n : Bool) :
    clampInt g (if n = true then -(2 ^ 70 : Int) else 2 ^ 70) = if n = true then intLo g else intHi g := by
  obtain ⟨p, hp, h0, -, hr⟩ := intRange_cases hg
  have hle : 2 ^ fmtBits g ≤ 2 ^ 64 := Nat.pow_le_pow_right (by decide) (fmtBits_le hg)
  cases n <;> rcases hr with ⟨-, hl, hh⟩ | ⟨-, hl, hh⟩ <;> simp only [clampInt, hl, hh] <;> simp <;> omega

/-- R66: a floating value to an integer format. -/
theorem fpToInt_fin {g : Nat} (hg : fmtIsInt g = true) (md : Mode) (neg : Bool) (m : Nat) (e : Int) :
    let v := (Val.fin neg m e).rat
    let r := fpToInt g md (.fin neg m e)
    ∃ k : Int, RoundsRat md.code v k ∧ intDecode g r.bits = max (intLo g) (min (intHi g) k) ∧
      r.fl = if k < intLo g ∨ intHi g < k then flNV else if (k : Rat) = v then 0 else flNX := by
  intro v r
  obtain ⟨hr, hex⟩ := rint_rat md neg m e
  refine ⟨_, hr, ?_, ?_⟩ <;> simp only [r, fpToInt, satInt_eq hg]
  · exact intDecode_clampInt hg _
  · simp only [decide_eq_true_eq, v, ← hex]
    cases (rint md neg m e).2 <;> simp

theorem fpToInt_lt {g : Nat} (md : Mode) (v : Val) : (fpToInt g md v).bits < 2 ^ fmtBits g := by
  cases v
  · exact Nat.two_pow_pos _
  · exact wrapBits_lt _ _
  · exact wrapBits_lt _ _

end Sys2Proof.Proofs
end

section
/-! PROOF. FP32 numbers that need no rounding, and the special functions where they are exact (O41). -/

namespace Sys2Proof.Proofs

open Sys2Proof.Machine
open Sys2Proof.Laws

/-! ## Dyadic numbers -/

theorem sInt_natAbs (v : Int) : sInt (decide (v < 0)) v.natAbs = v := by
  rcases lt_or_ge v 0 with h | h
  · rw [sInt, decide_eq_true h, if_pos rfl]; omega
  · rw [sInt, decide_eq_false (not_lt.mpr h), if_neg Bool.false_ne_true]; omega

theorem sInt_mul (neg : Bool) (m n : Nat) : sInt neg (m * n) = sInt neg m * n := by
  cases neg <;> simp [sInt]

theorem rat_fin (neg : Bool) (m : Nat) (e : Int) : (Val.fin neg m e).rat = (sInt neg m : Rat) * 2 ^ e := rfl

/-- The magnitude of an integer with its sign, as a number. -/
theorem rat_of_int (v e : Int) : (Val.fin (decide (v < 0)) v.natAbs e).rat = (v : Rat) * 2 ^ e := by
  rw [rat_fin, sInt_natAbs]

theorem compare_cast_mul (a c : Nat) {t : Rat} (ht : 0 < t) : compare ((a : Rat) * t) (c * t) = compare a c := by
  rcases lt_trichotomy a c with h | rfl | h
  · rw [compare_lt_iff_lt.mpr h, compare_lt_iff_lt]
    exact mul_lt_mul_of_pos_right (by exact_mod_cast h) ht
  · exact (compare_eq_iff_eq.mpr rfl).trans (compare_eq_iff_eq.mpr rfl).symm
  · rw [compare_gt_iff_gt.mpr h, compare_gt_iff_gt]
    exact mul_lt_mul_of_pos_right (by exact_mod_cast h) ht

/-- The comparison of magnitudes is that of the numbers they are. -/
theorem cmpDy_eq_compare (a : Nat) (x : Int) (b : Nat) (y : Int) :
    cmpDy a x b y = compare ((a : Rat) * 2 ^ x) ((b : Rat) * 2 ^ y) := by
  unfold cmpDy
  split
  case isTrue h =>
    obtain ⟨n, rfl⟩ := Int.le.dest h
    rw [add_sub_cancel_left, Int.toNat_natCast, zpow_add₀ (by norm_num), zpow_natCast,
      show (b : Rat) * (2 ^ x * 2 ^ n) = ((b * 2 ^ n : Nat) : Rat) * 2 ^ x by push_cast; ring,
      compare_cast_mul _ _ (by positivity)]
  case isFalse h =>
    obtain ⟨n, rfl⟩ := Int.le.dest (not_le.mp h).le
    rw [add_sub_cancel_left, Int.toNat_natCast, zpow_add₀ (by norm_num), zpow_natCast,
      show (a : Rat) * (2 ^ y * 2 ^ n) = ((a * 2 ^ n : Nat) : Rat) * 2 ^ y by push_cast; ring,
      compare_cast_mul _ _ (by positivity)]

/-- The exact sum of dyadic numbers. -/
theorem addDy_rat (a x b y : Int) : ((addDy a x b y).1 : Rat) * 2 ^ (addDy a x b y).2 = a * 2 ^ x + b * 2 ^ y := by
  unfold addDy
  split
  case isTrue h =>
    obtain ⟨n, rfl⟩ := Int.le.dest h
    rw [add_sub_cancel_left, Int.toNat_natCast, zpow_add₀ (by norm_num), zpow_natCast]
    push_cast
    ring
  case isFalse h =>
    obtain ⟨n, rfl⟩ := Int.le.dest (not_le.mp h).le
    rw [add_sub_cancel_left, Int.toNat_natCast, zpow_add₀ (by norm_num), zpow_natCast]
    push_cast
    ring

/-! ## FP32 numbers that need no rounding (R46, R58) -/

/-- R46: the value of the FP32 code of a normal number, with its exponent code counted from 1. -/
theorem fpDecode_fp32_normal (neg : Bool) {x m : Nat} (hx : x < 254) (hm : 2 ^ 23 ≤ m) (hm' : m < 2 ^ 24) :
    fpDecode 11 ((if neg = true then 2 ^ 31 else 0) + (x * 2 ^ 23 + m)) = .fin neg m (x - 149) := by
  obtain ⟨b, hb⟩ : ∃ b, (if neg = true then 2 ^ 31 else 0) + (x * 2 ^ 23 + m) = b := ⟨_, rfl⟩
  have hfrac : b % 2 ^ 23 = m - 2 ^ 23 := by rw [← hb]; cases neg <;> simp <;> omega
  have hexp : b / 2 ^ 23 % 2 ^ 8 = x + 1 := by rw [← hb]; cases neg <;> simp <;> omega
  have hsign : (b / 2 ^ (23 + 8) % 2 == 1) = neg := by rw [← hb]; cases neg <;> simp <;> omega
  rw [hb]
  simp only [fpDecode, fpParams, hfrac, hexp, hsign]
  rw [if_neg (by decide), if_neg (by omega), if_neg (by omega), if_neg (by omega)]
  rw [show 2 ^ 23 + (m - 2 ^ 23) = m by omega, show ((x + 1 : Nat) : Int) - (127 : Nat) - (23 : Nat) = x - 149 by omega]

/-- A significand of at most 24 bits brought to exactly 24 bits. -/
theorem normalized_bounds {m : Nat} (h0 : m ≠ 0) (hm : m < 2 ^ 24) :
    2 ^ 23 ≤ m * 2 ^ (23 - Nat.log2 m) ∧ m * 2 ^ (23 - Nat.log2 m) < 2 ^ 24 := by
  have hl : Nat.log2 m < 24 := (Nat.log2_lt h0).mpr hm
  constructor
  · calc 2 ^ 23 = 2 ^ Nat.log2 m * 2 ^ (23 - Nat.log2 m) := by rw [← Nat.pow_add]; congr 1; omega
      _ ≤ m * 2 ^ (23 - Nat.log2 m) := Nat.mul_le_mul_right _ (Nat.log2_self_le h0)
  · calc m * 2 ^ (23 - Nat.log2 m) < 2 ^ (Nat.log2 m + 1) * 2 ^ (23 - Nat.log2 m) :=
          Nat.mul_lt_mul_of_pos_right Nat.lt_log2_self (by positivity)
      _ = 2 ^ 24 := by rw [← Nat.pow_add]; congr 1; omega

/-- R58, R63: a normal number of at most 24 significant bits is delivered to FP32 as it is, without a flag. -/
theorem roundTo_fp32_exact (neg : Bool) {m : Nat} {e : Int} (h0 : m ≠ 0) (hm : m < 2 ^ 24) (hlo : -126 ≤ e + Nat.log2 m)
    (hhi : e + Nat.log2 m ≤ 127) : roundTo 11 ⟨0, 0⟩ neg ⟨m, e, false⟩ =
      .plain ((if neg = true then 2 ^ 31 else 0) + ((e + Nat.log2 m + 126).toNat * 2 ^ 23 + m * 2 ^ (23 - Nat.log2 m))) := by
  have hl : Nat.log2 m < 24 := (Nat.log2_lt h0).mpr hm
  have hround : roundAt ⟨0, 0⟩ neg ⟨m, e, false⟩ (e + Nat.log2 m - 23) = (m * 2 ^ (23 - Nat.log2 m), false) := by
    have hq : e + Nat.log2 m - 23 ≤ e := by omega
    have hs : (e - (e + Nat.log2 m - 23)).toNat = 23 - Nat.log2 m := by omega
    simp only [roundAt, hq, if_true, hs]
  obtain ⟨hklo, hkhi⟩ := normalized_bounds h0 hm
  generalize hK : m * 2 ^ (23 - Nat.log2 m) = K at *
  have hgt : cmpDy K (e + Nat.log2 m - 23) (2 ^ 24 - 1) 104 ≠ .gt := by
    have hz : (2 : Rat) ^ (e + Nat.log2 m - 23) ≤ 2 ^ (104 : Int) := zpow_le_zpow_right₀ (by norm_num) (by omega)
    have hc : (K : Rat) ≤ ((2 ^ 24 - 1 : Nat) : Rat) := by exact_mod_cast Nat.le_sub_one_of_lt hkhi
    rw [cmpDy_eq_compare, compare_le_iff_le]
    exact mul_le_mul hc hz (by positivity) (by positivity)
  have hlt : cmpDy K (e + Nat.log2 m - 23) 1 (-126) ≠ .lt := by
    have hz : (2 : Rat) ^ (-149 : Int) ≤ 2 ^ (e + Nat.log2 m - 23) := zpow_le_zpow_right₀ (by norm_num) (by omega)
    have hc : ((2 ^ 23 : Nat) : Rat) ≤ K := by exact_mod_cast hklo
    rw [cmpDy_eq_compare, compare_ge_iff_ge]
    calc ((1 : Nat) : Rat) * 2 ^ (-126 : Int) = ((2 ^ 23 : Nat) : Rat) * 2 ^ (-149 : Int) := by norm_num
      _ ≤ K * 2 ^ (e + Nat.log2 m - 23) := mul_le_mul hc hz (by positivity) (by positivity)
  have hq : ¬(e + Nat.log2 m - 23 < (1 : Int) - 127 - 23) := by omega
  have hbits : (e + Nat.log2 m - 23 - ((1 : Int) - 127 - 23)).toNat = (e + Nat.log2 m + 126).toNat := by
    congr 1
    ring
  have hgt' : (cmpDy K (e + Nat.log2 m - 23) (2 ^ (23 + 1) - 1) (2 ^ 8 - 2 - 127 - 23) == .gt) = false := beq_false_of_ne hgt
  have hlt' : (cmpDy K (e + Nat.log2 m - 23) 1 (1 - 127) == .lt) = false := beq_false_of_ne hlt
  simp only [roundTo, fpParams, maxFinite]
  rw [if_neg (by decide), if_neg (by simp [h0])]
  simp only [Nat.reduceEqDiff, if_false, false_and, reduceCtorEq, Nat.cast_ofNat, hq, hround, hgt', hlt', hbits,
    Bool.false_eq_true, not_lt.mpr hklo, hkhi, if_true, beq_false_of_ne h0, Bool.and_false, Bool.or_false]
  rfl

/-! ## Special functions (R73, R74) -/

/-- R73: VEXP2 of −∞, −0, +0 and +∞. -/
theorem spExp2_inputs : spExp2 0xFF800000 = .plain 0 ∧ spExp2 0x80000000 = .plain 0x3F800000 ∧
    spExp2 0 = .plain 0x3F800000 ∧ spExp2 0x7F800000 = .plain 0x7F800000 := by decide

/-- R73: VLOG2 of −∞, −0, +0 and +∞. -/
theorem spLog2_inputs : spLog2 0xFF800000 = ⟨0x7FC00000, flNV, false, false⟩ ∧
    spLog2 0x80000000 = ⟨0xFF800000, flDZ, false, false⟩ ∧ spLog2 0 = ⟨0xFF800000, flDZ, false, false⟩ ∧
    spLog2 0x7F800000 = .plain 0x7F800000 := by decide

/-- R73: VRSQRT of −∞, −0, +0 and +∞. -/
theorem spRsqrt_inputs : spRsqrt 0xFF800000 = ⟨0x7FC00000, flNV, false, false⟩ ∧
    spRsqrt 0x80000000 = ⟨0xFF800000, flDZ, false, false⟩ ∧ spRsqrt 0 = ⟨0x7F800000, flDZ, false, false⟩ ∧
    spRsqrt 0x7F800000 = .plain 0 := by decide

/-- R73: a NaN through a special function of FP32. -/
theorem nanRes_fp32 (g : Bool) : (nanRes 11 (if g || false then flNV else 0) g).bits = 0x7FC00000 ∧
    ((Val.nan g false).isSig ↔ (nanRes 11 (if g || false then flNV else 0) g).fl = flNV) := by
  cases g
  · exact ⟨rfl, by simp [isSig_nan_iff, nanRes, flNV]⟩
  · exact ⟨rfl, by simp [isSig_nan_iff, nanRes]⟩

theorem special_of_nan {a : Nat} (h : (fpDecode 11 a).isNan) {r : Res} (hr : r = spExp2 a ∨ r = spLog2 a ∨ r = spRsqrt a) :
    r.bits = 0x7FC00000 ∧ ((fpDecode 11 a).isSig ↔ r.fl = flNV) := by
  obtain ⟨g, n, ha⟩ := h
  obtain rfl : n = false := notNar_fpDecode (by decide) a g n ha
  have hres : r = nanRes 11 (if g || false then flNV else 0) g := by
    rcases hr with rfl | rfl | rfl
    · simp only [spExp2, ha]
    · simp only [spLog2, ha]
    · simp only [spRsqrt, ha]
  rw [hres, ha]
  exact nanRes_fp32 g

/-- R73: VLOG2 and VRSQRT of a negative number are invalid. -/
theorem special_of_negative {a m : Nat} {e : Int} (ha : fpDecode 11 a = .fin true m e) (hm : m ≠ 0) :
    spLog2 a = ⟨0x7FC00000, flNV, false, false⟩ ∧ spRsqrt a = ⟨0x7FC00000, flNV, false, false⟩ := by
  constructor
  · simp only [spLog2, ha, if_neg hm]; rfl
  · simp only [spRsqrt, ha, if_neg hm]; rfl

/-- R74: VEXP2 of an integer in the range of normal numbers is exact. -/
theorem spExp2_int {a : Nat} {k : Int} (hfin : (fpDecode 11 a).finite) (hv : (fpDecode 11 a).rat = k) (hlo : -126 ≤ k)
    (hhi : k ≤ 127) (h0 : k ≠ 0) : spExp2 a = .plain ((k + 127).toNat * 2 ^ 23) := by
  obtain ⟨n, m, e, ha⟩ := hfin
  rw [ha, rat_fin] at hv
  have hm : m ≠ 0 := by
    rintro rfl
    have hk : (k : Rat) = 0 := by rw [← hv]; cases n <;> simp [sInt]
    exact h0 (by exact_mod_cast hk)
  have hsmall : cmpDy m e 1 11 = .lt := by
    have habs : (m : Rat) * 2 ^ e = |(k : Rat)| := by
      rw [← hv, abs_mul, abs_of_pos (show (0 : Rat) < 2 ^ e by positivity)]
      cases n <;> simp [sInt]
    rw [cmpDy_eq_compare, compare_lt_iff_lt, habs, abs_lt]
    constructor <;> norm_num <;> norm_cast <;> omega
  -- the significand over its denominator is the integer k
  have hx : sInt n m * 2 ^ e.toNat = k * 2 ^ (-e).toNat := by
    have h2 : ((sInt n m * 2 ^ e.toNat : Int) : Rat) = ((k * 2 ^ (-e).toNat : Int) : Rat) := by
      push_cast
      rw [← hv, mul_assoc, ← zpow_natCast, ← zpow_natCast, ← zpow_add₀ (by norm_num)]
      congr 2
      omega
    exact_mod_cast h2
  have hp : (2 : Int) ^ (-e).toNat ≠ 0 := by positivity
  have hround : roundTo 11 ⟨0, 0⟩ false ⟨1, k, false⟩ = .plain ((k + 127).toNat * 2 ^ 23) := by
    have h1 : Nat.log2 1 = 0 := by decide
    rw [roundTo_fp32_exact false one_ne_zero (by norm_num) (by rw [h1]; simpa using hlo) (by rw [h1]; simpa using hhi), h1,
      show (k + 127).toNat = (k + (0 : Nat) + 126).toNat + 1 by omega]
    congr 1
    simp only [Bool.false_eq_true, if_false]
    omega
  have hlt : (cmpDy m e 1 11 != .lt) = false := by rw [hsmall]; rfl
  simp only [spExp2, ha, if_neg hm, hlt, Bool.false_eq_true, if_false, hx, Int.mul_emod_left, Int.toNat_zero, if_true,
    Int.mul_ediv_cancel _ hp, hround]

/-- R46: a power of two among the FP32 codes. -/
theorem fpDecode_fp32_pow {k : Nat} (h0 : 0 < k) (hk : k < 255) : fpDecode 11 (k * 2 ^ 23) = .fin false (2 ^ 23) (k - 150) := by
  have h := fpDecode_fp32_normal false (x := k - 1) (m := 2 ^ 23) (by omega) le_rfl (by norm_num)
  rw [if_neg Bool.false_ne_true, Nat.zero_add, ← Nat.succ_mul, Nat.succ_eq_add_one, Nat.sub_add_cancel h0] at h
  rw [h]
  congr 1
  omega

/-- R74: VLOG2 of a power of two is that power, rounded. -/
theorem spLog2_of_pow {a j : Nat} {e : Int} (ha : fpDecode 11 a = .fin false (2 ^ j) e) :
    spLog2 a = roundExact 11 ⟨0, 0⟩ (e + j) 0 false := by
  simp only [spLog2, ha, Nat.log2_two_pow, if_neg (Nat.two_pow_pos j).ne', Bool.false_eq_true, if_false, if_true]

/-- R58: a small integer is delivered to FP32 as it is. -/
theorem roundExact_fp32_int {v : Int} (hv : v.natAbs < 128) : (roundExact 11 ⟨0, 0⟩ v 0 false).fl = 0 ∧
    (fpDecode 11 (roundExact 11 ⟨0, 0⟩ v 0 false).bits).rat = v := by
  rcases eq_or_ne v 0 with rfl | h0
  · exact ⟨by decide, by norm_num [roundExact, roundTo, fpParams, Res.plain, fpDecode, Val.rat, sInt]⟩
  · have hn : v.natAbs ≠ 0 := Int.natAbs_ne_zero.mpr h0
    have hl : Nat.log2 v.natAbs < 7 := (Nat.log2_lt hn).mpr hv
    rw [roundExact, if_neg h0, roundTo_fp32_exact _ hn (by omega) (by omega) (by omega)]
    refine ⟨rfl, ?_⟩
    obtain ⟨hlo, hhi⟩ := normalized_bounds hn (by omega)
    have hdec := fpDecode_fp32_normal (decide (v < 0)) (x := (0 + (Nat.log2 v.natAbs : Int) + 126).toNat) (by omega) hlo hhi
    have hval : sInt (decide (v < 0)) (v.natAbs * 2 ^ (23 - Nat.log2 v.natAbs)) = v * 2 ^ (23 - Nat.log2 v.natAbs) := by
      rw [sInt_mul, sInt_natAbs]
      push_cast
      rfl
    have hexp : ((0 + (Nat.log2 v.natAbs : Int) + 126).toNat : Int) - 149 = -((23 - Nat.log2 v.natAbs : Nat) : Int) := by omega
    rw [show ∀ b, (Res.plain b).bits = b from fun _ => rfl, hdec, rat_fin, hval, hexp, zpow_neg, zpow_natCast]
    push_cast
    rw [mul_assoc, mul_inv_cancel₀ (by positivity), mul_one]

/-- R74: VLOG2 of a power of two is exact. -/
theorem spLog2_pow {k : Nat} (h0 : 0 < k) (hk : k < 255) : (spLog2 (k * 2 ^ 23)).fl = 0 ∧
    (fpDecode 11 (spLog2 (k * 2 ^ 23)).bits).rat = (k : Rat) - 127 := by
  rw [spLog2_of_pow (fpDecode_fp32_pow h0 hk)]
  obtain ⟨hfl, hv⟩ := roundExact_fp32_int (v := k - 150 + (23 : Nat)) (by omega)
  refine ⟨hfl, hv.trans ?_⟩
  push_cast
  ring

end Sys2Proof.Proofs
end

section
/-! PROOF. The cells of integer and floating products: exact sums, scales and what a NaN makes of them (O41). -/

namespace Sys2Proof.Proofs

open Sys2Proof.Machine
open Sys2Proof.Laws

theorem foldl_add_eq_sum {α : Type} (v : α → Int) (l : List α) (a : Int) :
    l.foldl (fun a x => a + v x) a = a + (l.map v).sum := by
  induction l generalizing a with
  | nil => simp
  | cons x l ih => rw [List.foldl_cons, ih, List.map_cons, List.sum_cons, add_assoc]

/-! ## Cells of products and what they add (R49, R68, R69, R246, R247) -/

/-- R246: some element that a cell's products read is a signalling NaN. -/
def cellSnan (c : Cmd) (buf : List (List Nat)) (g i j : Nat) : Bool :=
  (groupKs c g).any fun x => isSnan (c.sh 1).f (aElem c buf i x.1) || (x.2 && isSnan (c.sh 2).f (bElem c buf x.1 j))

/-- R68: the exact sum of a cell's products. -/
def cellSum (c : Cmd) (buf : List (List Nat)) (g i j : Nat) : Sum := sumProducts ((groupKs c g).map (cellPair c buf i j))

/-- R49: a result with invalid raised for a signalling NaN that was read. -/
def markSnan (sn : Bool) (r : Res) : Res := if sn = true then { r with fl := r.fl ||| flNV } else r

/-- R247: the sum of a cell's products times its two scales, added to the cell. -/
def scaledCell (old : Nat) (t : Sum) (sa sb : Val) : Res :=
  let (p, f1) := mulVal t.val sa
  let (q, f2) := mulVal p sb
  let (f3, _) := nanFlags [sa, sb]
  match q with
  | .nan .. =>
    let (nf, so) := nanFlags [fpDecode 18 old]
    nanRes 18 (nf ||| f1 ||| f2 ||| f3 ||| (if t.nan then flNV else 0)) so
  | v => let r := fpAdd 18 ⟨0, 0⟩ (fpDecode 18 old) v; { r with fl := r.fl ||| f1 ||| f2 ||| f3 }

/-- R247: the scale that the kept row of a tile of scales gives a group. -/
def cellScale (c : Cmd) (buf : List (List Nat)) (g at_ row : Nat) : Val :=
  fpDecode 13 (c.st.getD (at_ + (keptRow buf 3 row).getD g 0) 0).toNat

section
variable {c : Cmd} {buf : List (List Nat)} {g : Nat} (i j old : Nat) (hk : groupKs c g ≠ [])
include hk

/-- R246: a cell of an integer product after a group. -/
theorem groupCell_int (hf : (c.sh 0).f = 19) : groupCell c buf g i j old = satRes 19 (intDecode 19 old +
    ((groupKs c g).map fun x => intDecode (c.sh 1).f (aElem c buf i x.1) *
      (if x.2 = true then intDecode (c.sh 2).f (bElem c buf x.1 j) else 0)).sum) := by
  have hs := foldl_add_eq_sum (fun x : Nat × Bool => intDecode (c.sh 1).f (aElem c buf i x.1) *
      (if x.2 = true then intDecode (c.sh 2).f (bElem c buf x.1 j) else 0)) (groupKs c g) 0
  rw [zero_add] at hs
  rw [← hs]
  simp only [groupCell, List.isEmpty_eq_false_iff.mpr hk, Bool.false_eq_true, if_false, hf, if_true]

/-- R246: a cell of a floating product after a group. -/
theorem groupCell_mma (hf : (c.sh 0).f = 18) {z : Bool} (hop : c.op = .mma z) : groupCell c buf g i j old =
    markSnan (cellSnan c buf g i j) (addToCell old (cellSum c buf g i j).val) := by
  simp only [groupCell, List.isEmpty_eq_false_iff.mpr hk, Bool.false_eq_true, if_false, hf, hop]
  rfl

/-- R247: a cell of a scaled product after a group. -/
theorem groupCell_mmas (hf : (c.sh 0).f = 18) {z : Bool} (hop : c.op = .mmas z) : groupCell c buf g i j old =
    markSnan (cellSnan c buf g i j) (scaledCell old (cellSum c buf g i j) (cellScale c buf g 0 i)
      (cellScale c buf g 16 ((c.sh 1).lr + j))) := by
  have h0 : cellScale c buf g 0 i = fpDecode 13 (c.st.getD ((keptRow buf 3 i).getD g 0) 0).toNat := by
    rw [cellScale, Nat.zero_add]
  rw [h0]
  simp only [groupCell, List.isEmpty_eq_false_iff.mpr hk, Bool.false_eq_true, if_false, hf, hop]
  rfl

end

/-! ## Exact sums of products (R68) -/

/-- A sum that is the number q so far. -/
def SumIs (t : Sum) (q : Rat) : Prop := t.nan = false ∧ t.inf = none ∧ (t.num : Rat) * 2 ^ t.e = q

theorem sumIs_add_fin {t : Sum} {q : Rat} (h : SumIs t q) (n : Bool) (m : Nat) (e : Int) :
    SumIs (t.add (.fin n m e)) (q + (Val.fin n m e).rat) := by
  obtain ⟨hn, hi, hq⟩ := h
  exact ⟨hn, hi, by rw [← hq, rat_fin, ← addDy_rat]; rfl⟩

theorem sum_add_nan {t : Sum} (p : Val) (h : t.nan = true ∨ p.isNan) : (t.add p).nan = true := by
  rcases h with h | ⟨s, n, rfl⟩
  · cases p with
    | nan s n => rfl
    | fin n m e => exact h
    | inf n =>
      cases hi : t.inf with
      | none => simpa [Sum.add, hi] using h
      | some m =>
        simp only [Sum.add, hi]
        split
        · exact h
        · rfl
  · rfl

theorem sInt_bne (n1 n2 : Bool) (m1 m2 : Nat) : sInt (n1 != n2) (m1 * m2) = sInt n1 m1 * sInt n2 m2 := by
  cases n1 <;> cases n2 <;> simp [sInt]

/-- R68: the exact product of two finite values. -/
theorem mulVal_finite {a b : Val} (ha : a.finite) (hb : b.finite) :
    ∃ n m e, mulVal a b = (.fin n m e, 0) ∧ (Val.fin n m e).rat = a.rat * b.rat := by
  obtain ⟨n1, m1, e1, rfl⟩ := ha
  obtain ⟨n2, m2, e2, rfl⟩ := hb
  refine ⟨_, _, _, rfl, ?_⟩
  rw [rat_fin, rat_fin, rat_fin, sInt_bne, zpow_add₀ (by norm_num)]
  push_cast
  ring

/-- R68: the sum of products of finite values is the sum of the products. -/
theorem foldl_sum_finite (ps : List (Val × Val)) (hp : ∀ p ∈ ps, p.1.finite ∧ p.2.finite) {t : Sum} {q : Rat} (ht : SumIs t q) :
    SumIs (ps.foldl (fun t p => t.add (mulVal p.1 p.2).1) t) (q + (ps.map fun p => p.1.rat * p.2.rat).sum) := by
  induction ps generalizing t q with
  | nil => simpa using ht
  | cons p ps ih =>
    obtain ⟨h1, h2⟩ := hp p List.mem_cons_self
    obtain ⟨n, m, e, hm, hv⟩ := mulVal_finite h1 h2
    rw [List.foldl_cons, List.map_cons, List.sum_cons, ← add_assoc, ← hv, hm]
    exact ih (fun r hr => hp r (List.mem_cons_of_mem p hr)) (sumIs_add_fin ht n m e)

/-- R68: a product with a NaN makes the sum no number, and it stays none. -/
theorem foldl_sum_nan (ps : List (Val × Val)) {t : Sum} (h : t.nan = true ∨ ∃ p ∈ ps, p.1.isNan ∨ p.2.isNan) :
    (ps.foldl (fun t p => t.add (mulVal p.1 p.2).1) t).nan = true := by
  induction ps generalizing t with
  | nil => simpa using h
  | cons p ps ih =>
    refine ih ?_
    rcases h with h | ⟨r, hr, hn⟩
    · exact .inl (sum_add_nan _ (.inl h))
    · rcases List.mem_cons.mp hr with rfl | hr
      · exact .inl (sum_add_nan _ (.inr (isNan_mulVal hn)))
      · exact .inr ⟨r, hr, hn⟩

/-- R68: the value of a sum that is a number. -/
theorem val_of_sumIs {t : Sum} {q : Rat} (h : SumIs t q) : ∃ n m e, t.val = .fin n m e ∧ (Val.fin n m e).rat = q := by
  obtain ⟨hn, hi, hq⟩ := h
  refine ⟨_, _, _, by simp only [Sum.val, hn, hi]; rfl, ?_⟩
  rw [← hq]
  split
  case isTrue h0 => cases t.negz <;> simp [rat_fin, sInt, h0]
  case isFalse h0 => exact rat_of_int _ _

theorem val_of_nan {t : Sum} (h : t.nan = true) : t.val = .nan false false := if_pos h

section
variable {c : Cmd} {buf : List (List Nat)} {g i j : Nat}

/-- R68: the sum of a cell whose elements are numbers. -/
theorem cellSum_finite (hf : ∀ x ∈ groupKs c g, (cellPair c buf i j x).1.finite ∧ (cellPair c buf i j x).2.finite) :
    ∃ n m e, (cellSum c buf g i j).val = .fin n m e ∧ (Val.fin n m e).rat =
      ((groupKs c g).map fun x => (cellPair c buf i j x).1.rat * (cellPair c buf i j x).2.rat).sum := by
  have h := foldl_sum_finite ((groupKs c g).map (cellPair c buf i j)) (List.forall_mem_map.mpr hf)
    (t := ⟨false, none, 0, 0, true⟩) (q := 0) ⟨rfl, rfl, by simp⟩
  rw [zero_add, List.map_map] at h
  exact val_of_sumIs h

/-- R68: the sum of a cell with a NaN among its elements. -/
theorem cellSum_nan (hn : ∃ x ∈ groupKs c g, (cellPair c buf i j x).1.isNan ∨ (cellPair c buf i j x).2.isNan) :
    (cellSum c buf g i j).val = .nan false false := by
  obtain ⟨x, hx, hn⟩ := hn
  exact val_of_nan (foldl_sum_nan _ (.inr ⟨_, List.mem_map_of_mem hx, hn⟩))

/-- R49: a finite element is no signalling NaN. -/
theorem isSnan_of_finite {f x : Nat} (h : (mmaVal f x).finite) : isSnan f x = false := by
  unfold isSnan
  cases hf : fmtIsFloat f with
  | false => rfl
  | true =>
    cases hx : fpDecode f x with
    | nan s n =>
      have hv : mmaVal f x = .nan (s && !n) false := by
        rw [mmaVal, if_neg (not_fmtIsInt_of_float hf), hx]
      exact absurd (hv ▸ isNan_nan _ _) (not_isNan_of_finite h)
    | inf n => rfl
    | fin n m e => rfl

/-- R49: a cell whose elements are numbers reads no signalling NaN. -/
theorem cellSnan_of_finite (hf : ∀ x ∈ groupKs c g, (cellPair c buf i j x).1.finite ∧ (cellPair c buf i j x).2.finite) :
    cellSnan c buf g i j = false := by
  refine List.any_eq_false.mpr fun x hx => ?_
  obtain ⟨ha, hb⟩ := hf x hx
  rw [isSnan_of_finite ha, Bool.false_or]
  cases hi : x.2 with
  | false => simp
  | true =>
    have hb' : (mmaVal (c.sh 2).f (bElem c buf x.1 j)).finite := by simpa [cellPair, hi] using hb
    rw [isSnan_of_finite hb']
    simp

end

/-- R69: a cell plus a sum that is no number. -/
theorem addToCell_nan (old : Nat) : (addToCell old (.nan false false)).bits = canonNaN 18 ∧
    (addToCell old (.nan false false)).fl = flNV := by
  refine ⟨rfl, ?_⟩
  rcases nanFlags_cases (vs := [fpDecode 18 old]) (List.forall_mem_singleton.mpr (notNar_fpDecode (by decide) old)) with
    ⟨-, h⟩ | ⟨-, h⟩ <;> simp only [addToCell, h] <;> rfl

theorem markSnan_bits (sn : Bool) (r : Res) : (markSnan sn r).bits = r.bits := by
  cases sn <;> rfl

theorem markSnan_fl (sn : Bool) {r : Res} (h : r.fl = flNV) : (markSnan sn r).fl = flNV := by
  cases sn
  · exact h
  · show r.fl ||| flNV = flNV
    rw [h, Nat.or_self]

/-- R247: a scaled sum that is a number. -/
theorem scaledCell_finite (old : Nat) {t : Sum} {sa sb : Val} {n : Bool} {m : Nat} {e : Int} (ht : t.val = .fin n m e)
    (ha : sa.finite) (hb : sb.finite) : ∃ n' m' e', (Val.fin n' m' e').rat = (Val.fin n m e).rat * sa.rat * sb.rat ∧
      scaledCell old t sa sb = fpAdd 18 ⟨0, 0⟩ (fpDecode 18 old) (.fin n' m' e') := by
  obtain ⟨n1, m1, e1, h1, hv1⟩ := mulVal_finite (a := .fin n m e) ⟨n, m, e, rfl⟩ ha
  obtain ⟨n2, m2, e2, h2, hv2⟩ := mulVal_finite (a := .fin n1 m1 e1) ⟨n1, m1, e1, rfl⟩ hb
  refine ⟨n2, m2, e2, by rw [hv2, hv1], ?_⟩
  have hfl : nanFlags [sa, sb] = (0, false) :=
    nanFlags_of_numbers (by simp [not_isNan_of_finite ha, not_isNan_of_finite hb])
  simp only [scaledCell, ht, h1, h2, hfl, Nat.or_zero]

/-- R247: a scaled sum with a NaN. -/
theorem scaledCell_nan (old : Nat) {t : Sum} {sa sb : Val} (h : t.val.isNan ∨ sa.isNan ∨ sb.isNan) :
    (scaledCell old t sa sb).bits = canonNaN 18 := by
  have hq : (mulVal (mulVal t.val sa).1 sb).1.isNan := by
    rcases h with h | h | h
    · exact isNan_mulVal (.inl (isNan_mulVal (.inl h)))
    · exact isNan_mulVal (.inl (isNan_mulVal (.inr h)))
    · exact isNan_mulVal (.inr h)
  obtain ⟨s, n, hq⟩ := hq
  simp only [scaledCell, hq]
  rfl

end Sys2Proof.Proofs
end

section
/-! PROOF. Conversions, the elements of ACCN and ACCX, and the element results as one statement (O41). -/

namespace Sys2Proof.Proofs

open Sys2Proof.Machine
open Sys2Proof.Laws

/-! ## Floating elements (R215, R220) -/

theorem not_fmtIsInt_of_fmtF {f : Nat} (hf : fmtF f = true) : ¬fmtIsInt f = true := by
  simp only [fmtF, fmtIsInt, Bool.and_eq_true, Bool.or_eq_true, decide_eq_true_eq, beq_iff_eq] at hf ⊢
  omega

theorem not_fmtIsInt_of_fmtE {f : Nat} (hf : fmtE f = true) : ¬fmtIsInt f = true := by
  simp only [fmtE, fmtIsInt, Bool.and_eq_true, Bool.or_eq_true, decide_eq_true_eq, beq_iff_eq] at hf ⊢
  omega

theorem fmtBits_pos_of_float {f : Nat} (hf : fmtF f = true ∨ fmtE f = true) : 0 < fmtBits f := by
  simp only [fmtF, fmtE, Bool.and_eq_true, decide_eq_true_eq] at hf
  have h : 10 ≤ f ∧ f ≤ 16 := by omega
  obtain ⟨h1, h2⟩ := h
  interval_cases f <;> decide

/-! ## Conversions to an integer format (R66) -/

/-- R66: a NaN to an integer format. -/
theorem fpToInt_of_nan {v : Val} (h : v.isNan) (g : Nat) (md : Mode) :
    (fpToInt g md v).bits = 0 ∧ (fpToInt g md v).fl = flNV := by
  obtain ⟨s, n, rfl⟩ := h
  refine ⟨rfl, ?_⟩
  cases s <;> cases n <;> rfl

/-- R66: an infinity to an integer format. -/
theorem fpToInt_inf {g : Nat} (hg : fmtIsInt g = true) (md : Mode) (n : Bool) :
    intDecode g (fpToInt g md (.inf n)).bits = (if n = true then intLo g else intHi g) ∧ (fpToInt g md (.inf n)).fl = flNV := by
  refine ⟨?_, rfl⟩
  rw [← clampInt_inf hg n, ← intDecode_clampInt hg]
  simp only [fpToInt, satInt_eq hg]

theorem convert_int {f g : Nat} (hf : fmtIsInt f = true) (hg : fmtIsInt g = true) (md : Mode) (a : Nat) :
    convert f g md a = satRes g (intDecode f a) := by
  simp only [convert, hf, hg, if_true]

theorem convert_float {f g : Nat} (hf : ¬fmtIsInt f = true) (hg : fmtIsInt g = true) (md : Mode) (a : Nat) :
    convert f g md a = fpToInt g md (fpDecode f a) := by
  simp only [convert, hf, hg, if_true, if_false, Bool.false_eq_true]

theorem convert_lt {f g : Nat} (hg : fmtIsInt g = true) (md : Mode) (a : Nat) : (convert f g md a).bits < 2 ^ fmtBits g := by
  by_cases hf : fmtIsInt f = true
  · rw [convert_int hf hg]
    exact (satRes_spec hg _).1
  · rw [convert_float hf hg]
    exact fpToInt_lt md _

/-! ## Moves out of the accumulators (R253, R255, R257) -/

/-- R253: an element of ACCN in an integer format. -/
theorem accnElem_int (s : State) (c : Cmd) (i j cell : Nat) (hd : fmtIsInt (c.sh 1).f = true) :
    let d := c.sh 1
    let md := modeOf s.ctx c.mode (i * d.lc + j) c.issue 3
    let r := accnElem s c i j cell
    let v := intDecode 19 cell
    let n := if c.reqs = 0 then 0 else c.ga.toNat % 64
    r.bits < 2 ^ fmtBits d.f ∧ ∃ k : Int, RoundsTo md.code v (2 ^ n) k ∧
      intDecode d.f r.bits = max (intLo d.f) (min (intHi d.f) k) ∧
      r.fl = if k < intLo d.f ∨ intHi d.f < k then flIS else if k * 2 ^ n = v then 0 else flNX := by
  intro d md r v n
  obtain ⟨hr, hex⟩ := rint_scaled md (decide (v < 0)) v.natAbs n
  rw [sInt_natAbs] at hr hex
  have he : r = ⟨wrapBits (fmtBits d.f) (clampInt d.f (rint md (decide (v < 0)) v.natAbs (-(n : Int))).1),
      if (rint md (decide (v < 0)) v.natAbs (-(n : Int))).1 < intLo d.f ∨
        intHi d.f < (rint md (decide (v < 0)) v.natAbs (-(n : Int))).1 then flIS
      else if (rint md (decide (v < 0)) v.natAbs (-(n : Int))).2 = true then flNX else 0, false, false⟩ := by
    simp only [r, accnElem, hd, if_true, satInt_eq hd, decide_eq_true_eq, md, d, v, n]
  rw [he]
  refine ⟨wrapBits_lt _ _, _, hr, intDecode_clampInt hd _, ?_⟩
  simp only [← hex]
  cases (rint md (decide (v < 0)) v.natAbs (-(n : Int))).2 <;> simp

/-- R58: the distance that a rounding may move a value. -/
theorem RoundsTo.natAbs_lt {code n : Nat} {v k : Int} (h : RoundsTo code v (2 ^ n) k) : (k * 2 ^ n - v).natAbs < 2 ^ n := by
  have ha := h.above
  have hb := h.below
  have hp : ((2 ^ n : Nat) : Int) = 2 ^ n := by push_cast; rfl
  omega

theorem RoundsTo.two_natAbs_le {code n : Nat} {v k : Int} (h : RoundsTo code v (2 ^ n) k) (hc : code = 0 ∨ code = 4) :
    2 * (k * 2 ^ n - v).natAbs ≤ 2 ^ n := by
  obtain ⟨ha, hb⟩ := h.nearest hc
  have hp : ((2 ^ n : Nat) : Int) = 2 ^ n := by push_cast; rfl
  omega

/-- R253, R255: an element of ACCN in a floating format. -/
theorem accnElem_float (s : State) (c : Cmd) (i j cell : Nat) (hd : fmtIsInt (c.sh 1).f = false) :
    let d := c.sh 1
    let md := modeOf s.ctx c.mode (i * d.lc + j) c.issue 3
    let v := intDecode 19 cell
    let scale := if c.reqs = 0 then Val.fin false 1 0 else fpDecode 11 (c.ga.toNat % 2 ^ 32)
    accnElem s c i j cell =
      fpMul d.f md (if (c.sh 0).f = 19 then .fin (decide (v < 0)) v.natAbs 0 else fpDecode 18 cell) scale := by
  intro d md v scale
  have hv : mmaVal 8 (wrapBits 64 v) = .fin (decide (v < 0)) v.natAbs 0 := by
    have hr := intDecode_range (f := 19) (by decide) cell
    have hlo : intLo 8 ≤ v := le_trans (by decide) hr.1
    have hhi : v ≤ intHi 8 := le_trans hr.2 (by decide)
    have h64 : intDecode 8 (wrapBits 64 v) = v := intDecode_wrapBits (f := 8) (by decide) hlo hhi
    simp only [mmaVal, h64]
    rfl
  simp only [accnElem, hd, Bool.false_eq_true, if_false]
  rw [← hv]

/-- R257: an element of ACCX, by the flags of its sides and its prior value. -/
theorem accxElem_spec (c : Cmd) (ea : Int) (za eb zb prior cell : Nat) :
    let r := accxElem c (ea, za) [eb, zb] prior cell
    let w := intDecode 19 cell
    let p := fpDecode 10 prior
    (za = 1 ∨ zb = 1 → r.bits = canonNaN 10 ∧ r.fl = flNV) ∧
    (za ≠ 1 → zb ≠ 1 →
      (p.isNan → r.bits = canonNaN 10) ∧
      (¬p.isNan → r = fpAdd 10 ⟨0, 0⟩ p (.fin (decide (w < 0)) w.natAbs (ea + intDecode 4 eb - 7 * (c.ga.toNat % 32))))) := by
  intro r w p
  refine ⟨fun h => ?_, fun ha hb => ?_⟩
  · have hr : r = nanRes 10 flNV false := if_pos h
    rw [hr]
    exact ⟨rfl, rfl⟩
  · have hno : ¬(za = 1 ∨ zb = 1) := by omega
    simp only [r, p, w, accxElem, List.getD_cons_succ, List.getD_cons_zero, hno, if_false]
    cases fpDecode 10 prior with
    | nan s n => exact ⟨fun _ => rfl, fun h => absurd (isNan_nan s n) h⟩
    | inf n => exact ⟨fun h => absurd h (not_isNan_inf n), fun _ => rfl⟩
    | fin n m e => exact ⟨fun h => absurd h (not_isNan_fin n m e), fun _ => rfl⟩

/-! ## The statement (O41) -/

theorem elemOp_log2 (f g mode : Nat) (md : Mode) (a b d : Nat) : elemOp .log2 f g mode md a b d = spLog2 a := rfl

/-- R73, R74: the elements of the special functions. -/
theorem specialElements (g mode : Nat) (md : Mode) :
    let el := fun op a => elemOp op 11 g mode md a 0 0
    (∀ a, el .rcp a = fpDiv 11 ⟨0, 0⟩ (.fin false 1 0) (fpDecode 11 a)) ∧
    el .exp2 0xFF800000 = .plain 0 ∧ el .exp2 0x80000000 = .plain 0x3F800000 ∧ el .exp2 0 = .plain 0x3F800000 ∧
    el .exp2 0x7F800000 = .plain 0x7F800000 ∧
    el .log2 0xFF800000 = ⟨0x7FC00000, flNV, false, false⟩ ∧ el .log2 0x80000000 = ⟨0xFF800000, flDZ, false, false⟩ ∧
    el .log2 0 = ⟨0xFF800000, flDZ, false, false⟩ ∧ el .log2 0x7F800000 = .plain 0x7F800000 ∧
    el .rsqrt 0xFF800000 = ⟨0x7FC00000, flNV, false, false⟩ ∧ el .rsqrt 0x80000000 = ⟨0xFF800000, flDZ, false, false⟩ ∧
    el .rsqrt 0 = ⟨0x7F800000, flDZ, false, false⟩ ∧ el .rsqrt 0x7F800000 = .plain 0 ∧
    (∀ a m e, fpDecode 11 a = .fin true m e → m ≠ 0 →
      el .log2 a = ⟨0x7FC00000, flNV, false, false⟩ ∧ el .rsqrt a = ⟨0x7FC00000, flNV, false, false⟩) ∧
    (∀ a, (fpDecode 11 a).isNan → ∀ op, op = EOp.exp2 ∨ op = EOp.log2 ∨ op = EOp.rsqrt →
      (el op a).bits = 0x7FC00000 ∧ ((fpDecode 11 a).isSig ↔ (el op a).fl = flNV)) ∧
    (∀ (a : Nat) (k : Int), (fpDecode 11 a).finite → (fpDecode 11 a).rat = k → -126 ≤ k → k ≤ 127 → k ≠ 0 →
      el .exp2 a = .plain ((k + 127).toNat * 2 ^ 23)) ∧
    ∀ k : Nat, 0 < k → k < 255 → (el .log2 (k * 2 ^ 23)).fl = 0 ∧
      (fpDecode 11 (el .log2 (k * 2 ^ 23)).bits).rat = (k : Rat) - 127 := by
  intro el
  obtain ⟨he1, he2, he3, he4⟩ := spExp2_inputs
  obtain ⟨hl1, hl2, hl3, hl4⟩ := spLog2_inputs
  obtain ⟨hr1, hr2, hr3, hr4⟩ := spRsqrt_inputs
  refine ⟨fun _ => rfl, he1, he2, he3, he4, hl1, hl2, hl3, hl4, hr1, hr2, hr3, hr4,
    fun a m e ha hm => special_of_negative ha hm, fun a ha op hop => special_of_nan ha ?_, fun a k hfin hv hlo hhi h0 => spExp2_int hfin hv hlo hhi h0, fun k h0 hk => ?_⟩
  · rcases hop with rfl | rfl | rfl
    · exact .inl rfl
    · exact .inr (.inl rfl)
    · exact .inr (.inr rfl)
  · have h : el .log2 (k * 2 ^ 23) = spLog2 (k * 2 ^ 23) := elemOp_log2 ..
    rw [h]
    exact spLog2_pow h0 hk

/-- R68, R69, R246: a cell of a floating product. -/
theorem floatCell {c : Cmd} {buf : List (List Nat)} {g : Nat} (i j old : Nat) (hf : (c.sh 0).f = 18) (hk : groupKs c g ≠ [])
    {z : Bool} (hop : c.op = .mma z) :
    let A := fun x => (cellPair c buf i j x).1
    let B := fun x => (cellPair c buf i j x).2
    let r := groupCell c buf g i j old
    ((∀ x ∈ groupKs c g, (A x).finite ∧ (B x).finite) → ∃ n m e,
      (Val.fin n m e).rat = ((groupKs c g).map fun x => (A x).rat * (B x).rat).sum ∧
        r = fpAdd 18 ⟨0, 0⟩ (fpDecode 18 old) (.fin n m e)) ∧
    ((∃ x ∈ groupKs c g, (A x).isNan ∨ (B x).isNan) → r.bits = canonNaN 18 ∧ r.fl = flNV) := by
  intro A B r
  have hr : r = markSnan (cellSnan c buf g i j) (addToCell old (cellSum c buf g i j).val) := groupCell_mma i j old hk hf hop
  refine ⟨fun h => ?_, fun h => ?_⟩
  · obtain ⟨n, m, e, hval, hrat⟩ := cellSum_finite h
    exact ⟨n, m, e, hrat, by rw [hr, cellSnan_of_finite h, hval]; rfl⟩
  · obtain ⟨hbits, hfl⟩ := addToCell_nan old
    rw [hr, cellSum_nan h, markSnan_bits]
    exact ⟨hbits, markSnan_fl _ hfl⟩

/-- R247: a cell of a scaled product. -/
theorem scaledFloatCell {c : Cmd} {buf : List (List Nat)} {g : Nat} (i j old : Nat) (hf : (c.sh 0).f = 18)
    (hk : groupKs c g ≠ []) {z : Bool} (hop : c.op = .mmas z) :
    let A := fun x => (cellPair c buf i j x).1
    let B := fun x => (cellPair c buf i j x).2
    let r := groupCell c buf g i j old
    let a := cellScale c buf g 0 i
    let b := cellScale c buf g 16 ((c.sh 1).lr + j)
    (a.finite → b.finite → (∀ x ∈ groupKs c g, (A x).finite ∧ (B x).finite) → ∃ n m e,
      (Val.fin n m e).rat = ((groupKs c g).map fun x => (A x).rat * (B x).rat).sum * a.rat * b.rat ∧
        r = fpAdd 18 ⟨0, 0⟩ (fpDecode 18 old) (.fin n m e)) ∧
    ((∃ x ∈ groupKs c g, (A x).isNan ∨ (B x).isNan) ∨ a.isNan ∨ b.isNan → r.bits = canonNaN 18) := by
  intro A B r a b
  have hr : r = markSnan (cellSnan c buf g i j) (scaledCell old (cellSum c buf g i j) a b) := groupCell_mmas i j old hk hf hop
  refine ⟨fun ha hb h => ?_, fun h => ?_⟩
  · obtain ⟨n, m, e, hval, hrat⟩ := cellSum_finite h
    obtain ⟨n', m', e', hrat', hcell⟩ := scaledCell_finite old hval ha hb
    exact ⟨n', m', e', by rw [hrat', hrat], by rw [hr, cellSnan_of_finite h, hcell]; rfl⟩
  · rw [hr, markSnan_bits]
    exact scaledCell_nan old (h.imp_left fun h => by rw [cellSum_nan h]; exact isNan_nan _ _)

/-- Settles O41, clause by clause: integers, integer cells, comparisons and fields, conversions, special functions, floating
cells, ACCN and ACCX. -/
theorem elementResults : Obligations.ElementResults := by
  unfold Obligations.ElementResults
  refine ⟨fun f g a b d md hf ha hb hd => ?integers, fun c buf g i j old hf hk => ?integerCells,
    fun f g mode a b d md => ?others, fun f g mode a md hg => ?conversions, fun g mode md => ?special,
    fun c buf g i j old hf hk => ?floatCells, fun s c i j cell => ?accn, fun c ea za eb zb prior cell => ?accx⟩
  case integers => exact integerElements g md hf ha hb hd
  case integerCells =>
    have h := satRes_spec (f := 19) (by decide) (intDecode 19 old + ((groupKs c g).map fun x =>
      intDecode (c.sh 1).f (aElem c buf i x.1) * (if x.2 = true then intDecode (c.sh 2).f (bElem c buf x.1 j) else 0)).sum)
    rw [← groupCell_int i j old hk hf] at h
    exact h
  case others =>
    refine ⟨fun hf => ?float, fun hf ha => ?signs, fun hf => integerComparisons hf a b, fun hf => ?compares, ?sel, rfl, rfl,
      rfl, fun _ ha _ => fieldElements g mode md b d ha⟩
    case float =>
      have hn := not_fmtIsInt_of_fmtF hf
      exact ⟨if_neg hn, if_neg hn, if_neg hn, if_neg hn, if_neg hn, if_neg hn, if_neg hn, rfl, rfl⟩
    case signs =>
      have hn : ¬fmtIsInt f = true := hf.elim not_fmtIsInt_of_fmtF not_fmtIsInt_of_fmtE
      have habs : elemOp .abs f g mode md a b d = .plain (a % 2 ^ (fmtBits f - 1)) := if_neg hn
      have hneg : elemOp .neg f g mode md a b d = .plain (a.xor (2 ^ (fmtBits f - 1))) := if_neg hn
      obtain ⟨⟨ha1, ha2⟩, hn1, hn2⟩ := signBitElements (fmtBits_pos_of_float hf) ha
      simp only [habs, hneg]
      exact ⟨ha2, ha1, rfl, hn2, hn1, rfl⟩
    case compares =>
      obtain ⟨h0, q0, h1, q1, h2, o2, h3, o3, h4, o4, h5, o5, h6, q6⟩ :=
        floatComparisons (not_fmtIsInt_of_fmtF hf) (by rintro rfl; exact absurd hf (by decide)) a b
      exact ⟨h0, q0, h1, q1, h2, o2, h3, o3, h4, o4, h5, o5, h6, q6, fpCompare_eq_none_iff _ _⟩
    case sel =>
      show (if d ≠ 0 then a else b) = if d = 0 then b else a
      exact ite_not ..
  case conversions =>
    refine ⟨convert_lt hg md a, fun hf => ?ints, fun hf => ?floats⟩
    case ints =>
      have h := (satRes_spec hg (intDecode f a)).2
      rw [← convert_int hf hg md] at h
      exact h
    case floats =>
      have hc : elemOp .cvt f g mode md a 0 0 = fpToInt g md (fpDecode f a) := convert_float (not_fmtIsInt_of_float hf) hg md a
      simp only [hc]
      refine ⟨fun h => fpToInt_of_nan h g md, fun n h => ?inf, fun n m e h => ?fin⟩
      case inf =>
        rw [h]
        exact fpToInt_inf hg md n
      case fin =>
        rw [h]
        obtain ⟨k, hk, hbits, hfl⟩ := fpToInt_fin hg md n m e
        exact ⟨k, hk.above, hk.below, hk.nearest, hk.zero, hk.up, hk.down, hbits, hfl⟩
  case special => exact specialElements g mode md
  case floatCells =>
    exact ⟨fun ⟨z, hop⟩ => floatCell i j old hf hk hop, fun ⟨z, hop⟩ => scaledFloatCell i j old hf hk hop⟩
  case accn =>
    refine ⟨fun hd => ?_, accnElem_float s c i j cell⟩
    obtain ⟨hlt, k, hk, hbits, hfl⟩ := accnElem_int s c i j cell hd
    exact ⟨hlt, k, hk.natAbs_lt, hk.two_natAbs_le, hk.up, hk.down, hbits, hfl⟩
  case accx => exact accxElem_spec c ea za eb zb prior cell

end Sys2Proof.Proofs
end

section
/-! PROOF. Values in rows of bytes, cells of the accumulators, and the images that a trap handler moves (O38). -/

namespace Sys2Proof.Proofs

open Sys2Proof.Machine
open Sys2Proof.Laws

/-! ## Values of one width in memory (R5) -/

theorem length_flatMap_leBytes_width (w : Nat) (vs : List Nat) : (vs.flatMap (leBytes w)).length = w * vs.length := by
  simp [List.length_flatMap, Nat.mul_comm]

/-- The bytes of one value among those of a list of values. -/
theorem take_drop_flatMap_leBytes (w : Nat) {vs : List Nat} {i : Nat} (h : i < vs.length) :
    ((vs.flatMap (leBytes w)).drop (w * i)).take w = leBytes w vs[i] := by
  induction vs generalizing i with
  | nil => exact absurd h (Nat.not_lt_zero i)
  | cons v vs ih =>
    cases i with
    | zero => exact List.take_left' (leBytes_length w v)
    | succ i =>
      have hd : (leBytes w v ++ vs.flatMap (leBytes w)).drop (w * i + w) = (vs.flatMap (leBytes w)).drop (w * i) := by
        rw [Nat.add_comm, ← List.drop_drop, List.drop_left' (leBytes_length w v)]
      rw [List.flatMap_cons, Nat.mul_succ, hd]
      exact ih (Nat.lt_of_succ_lt_succ h)

/-- A read within a longer one. -/
theorem take_drop_memRead (m : Memory) (k : Nat) {i n l : Nat} (h : i + n ≤ l) :
    ((memRead m k l).drop i).take n = memRead m (k + i) n := by
  obtain ⟨r, rfl⟩ := Nat.exists_eq_add_of_le h
  rw [Nat.add_assoc, memRead_add, memRead_add, List.drop_left' (memRead_length m k i), List.take_left' (memRead_length ..)]

/-- Of values written one behind another, each is read back. -/
theorem memRead_memPut_value (m : Memory) (k w : Nat) {vs : List Nat} {i : Nat} (h : i < vs.length) :
    memRead (memPut m k (vs.flatMap (leBytes w))) (k + w * i) w = leBytes w vs[i] := by
  have hw : w * i + w ≤ (vs.flatMap (leBytes w)).length := by
    rw [length_flatMap_leBytes_width, ← Nat.mul_succ]; exact Nat.mul_le_mul_left w h
  rw [← take_drop_memRead _ _ hw, memRead_memPut_same, take_drop_flatMap_leBytes w h]

/-- A write leaves a read beside it alone. -/
theorem memRead_memPut_out (m : Memory) {a k n : Nat} {bs : List Byte} (h : k + n ≤ a ∨ a + bs.length ≤ k) :
    memRead (memPut m a bs) k n = memRead m k n := by
  refine List.map_congr_left fun i hi => memGet_memPut_out m ?_
  have := List.mem_range.mp hi
  omega

/-! ## Cells of the accumulators (R93) -/

theorem accGet_congr {s t : State} (ha : t.acc = s.acc) (hc : t.ctx.src = s.ctx.src) (k r c : Nat) :
    accGet t k r c = accGet s k r c := by
  rw [accGet, ha, hc]; rfl

theorem accGet_lt (s : State) (k r c : Nat) : accGet s k r c < 2 ^ 48 := by
  unfold accGet
  cases s.acc.find? fun x => x.1 == (s.ctx.src, k, r, c) with
  | none => exact Nat.two_pow_pos 48
  | some x => exact x.2.isLt

@[simp] theorem accSet_ctx (s : State) (k r c v : Nat) : (accSet s k r c v).ctx = s.ctx := rfl

theorem accGet_accSet_same (s : State) (k r c v : Nat) : accGet (accSet s k r c v) k r c = v % 2 ^ 48 := by
  unfold accGet accSet
  dsimp only
  split
  · rename_i h0
    have hn : (s.acc.filter fun x => x.1 != (s.ctx.src, k, r, c)).find? (fun x => x.1 == (s.ctx.src, k, r, c)) = none := by
      simp [List.find?_eq_none]
    rw [hn]
    simpa using (congrArg BitVec.toNat h0).symm
  · simp

theorem accGet_accSet_ne (s : State) {k r c k' r' c' : Nat} (v : Nat) (h : (k', r', c') ≠ (k, r, c)) :
    accGet (accSet s k r c v) k' r' c' = accGet s k' r' c' := by
  have hne : (s.ctx.src, k, r, c) ≠ (s.ctx.src, k', r', c') := fun e => h (Prod.mk.inj e).2.symm
  have hf : (s.acc.filter fun x => x.1 != (s.ctx.src, k, r, c)).find? (fun x => x.1 == (s.ctx.src, k', r', c')) =
      s.acc.find? fun x => x.1 == (s.ctx.src, k', r', c') := by
    rw [List.find?_filter]
    refine congrArg (List.find? · s.acc) (funext fun x => ?_)
    by_cases hx : x.1 = (s.ctx.src, k', r', c')
    · simp [hx, hne.symm]
    · simp [hx]
  unfold accGet accSet
  dsimp only
  split
  · rw [hf]
  · rw [List.find?_cons_of_neg (by simpa using hne), hf]

/-- R93: the first n cells of a row written. -/
theorem accGet_foldl_accSet (s : State) (k r : Nat) (g : Nat → Nat) (n k' r' c' : Nat) :
    accGet ((List.range n).foldl (fun t c => accSet t k r c (g c)) s) k' r' c' =
      if k' = k ∧ r' = r ∧ c' < n then g c' % 2 ^ 48 else accGet s k' r' c' := by
  induction n with
  | zero => simp
  | succ n ih =>
    rw [List.range_succ, List.foldl_append, List.foldl_cons, List.foldl_nil]
    by_cases h : (k', r', c') = (k, r, n)
    · obtain ⟨rfl, rfl, rfl⟩ : k' = k ∧ r' = r ∧ c' = n := by simpa using h
      rw [accGet_accSet_same, if_pos ⟨rfl, rfl, Nat.lt_succ_self _⟩]
    · rw [accGet_accSet_ne _ _ h, ih]
      have : (k' = k ∧ r' = r ∧ c' < n + 1) ↔ (k' = k ∧ r' = r ∧ c' < n) := by
        simp only [Prod.mk.injEq] at h; omega
      simp only [this]

/-! ## A row of the image to a tile (R258) -/

/-- R258: a cell of the image at a Heel address. -/
def imageCell (m : Memory) (a r c : Nat) : Nat := leNat (memRead m (heelKey (a + 6 * (128 * r + c))) 6)

theorem imageCell_lt (m : Memory) (a r c : Nat) : imageCell m a r c < 2 ^ 48 := by
  have h := leNat_lt (memRead m (heelKey (a + 6 * (128 * r + c))) 6)
  rw [memRead_length] at h
  exact h

theorem putTileRow_ctx (s : State) (k r : Nat) (vs codes : List Nat) : (putTileRow s k r vs codes).ctx = s.ctx :=
  foldl_keeps State.ctx (g := fun t (x : Nat × Nat) => accSet t k r x.1 x.2) (fun _ _ => rfl) ((List.range vs.length).zip vs) s

/-- R95, R258: the cells of a row written to a tile. -/
theorem accGet_putTileRow (s : State) (k r : Nat) (vs codes : List Nat) (k' r' c' : Nat) :
    accGet (putTileRow s k r vs codes) k' r' c' =
      if k' = k ∧ r' = r ∧ c' < vs.length then vs.getD c' 0 % 2 ^ 48 else accGet s k' r' c' := by
  have hz : (List.range vs.length).zip vs = (List.range vs.length).map fun c => (c, vs.getD c 0) := by
    refine List.ext_getElem (by simp) fun i h1 h2 => ?_
    simp at h1
    simp [List.getD_eq_getElem?_getD, h1]
  have hrow : accGet (putTileRow s k r vs codes) k' r' c' =
      accGet (((List.range vs.length).zip vs).foldl (fun t x => accSet t k r x.1 x.2) s) k' r' c' := rfl
  rw [hrow, hz, List.foldl_map, accGet_foldl_accSet]

theorem moveIn_ctx (s : State) (k a r : Nat) : (moveIn s k a r).ctx = s.ctx := putTileRow_ctx ..

theorem moveIn_mem (s : State) (k a r : Nat) : (moveIn s k a r).mem = s.mem := putTileRow_mem ..

/-- R258: the cells that a row of the image gives. -/
theorem accGet_moveIn (s : State) (k a r k' r' c' : Nat) : accGet (moveIn s k a r) k' r' c' =
    if k' = k ∧ r' = r ∧ c' < 128 then imageCell s.mem a r c' else accGet s k' r' c' := by
  have hlen : (imageRow s a r).1.length = 128 := by simp [imageRow]
  have hcell : c' < 128 → (imageRow s a r).1.getD c' 0 % 2 ^ 48 = imageCell s.mem a r c' := fun hc => by
    have hget : (imageRow s a r).1.getD c' 0 = imageCell s.mem a r c' := by
      simp [imageRow, imageCell, List.getD_eq_getElem?_getD, hc]
    rw [hget, Nat.mod_eq_of_lt (imageCell_lt ..)]
  rw [moveIn, accGet_putTileRow, hlen]
  split
  · rename_i h; exact hcell h.2.2
  · rfl

/-- R258: the first n rows of the image moved to a tile. -/
def movedIn (s : State) (k a n : Nat) : State := (List.range n).foldl (fun t i => moveIn t k a i) s

theorem movedIn_ctx (s : State) (k a n : Nat) : (movedIn s k a n).ctx = s.ctx :=
  foldl_keeps State.ctx (fun t i => moveIn_ctx t k a i) _ s

theorem movedIn_mem (s : State) (k a n : Nat) : (movedIn s k a n).mem = s.mem :=
  foldl_keeps State.mem (fun t i => moveIn_mem t k a i) _ s

theorem movedIn_succ (s : State) (k a n : Nat) : movedIn s k a (n + 1) = moveIn (movedIn s k a n) k a n := by
  rw [movedIn, List.range_succ, List.foldl_append]; rfl

theorem accGet_movedIn (s : State) (k a n k' r c : Nat) : accGet (movedIn s k a n) k' r c =
    if k' = k ∧ r < n ∧ c < 128 then imageCell s.mem a r c else accGet s k' r c := by
  induction n with
  | zero => simp [movedIn]
  | succ n ih =>
    rw [movedIn_succ, accGet_moveIn, movedIn_mem, ih]
    by_cases hr : r = n
    · subst hr
      simp
    · have : r < n + 1 ↔ r < n := by omega
      simp [hr, this]

/-! ## A row of a tile to the image (R258) -/

/-- R258: the first n rows of a tile moved to the image. -/
def movedOut (s : State) (k a n : Nat) : State := (List.range n).foldl (fun t i => moveOut t k a i) s

theorem movedOut_ctx (s : State) (k a n : Nat) : (movedOut s k a n).ctx = s.ctx :=
  foldl_keeps State.ctx (g := fun t i => moveOut t k a i) (fun _ _ => rfl) _ s

theorem movedOut_acc (s : State) (k a n : Nat) : (movedOut s k a n).acc = s.acc :=
  foldl_keeps State.acc (g := fun t i => moveOut t k a i) (fun _ _ => rfl) _ s

theorem movedOut_succ (s : State) (k a n : Nat) : movedOut s k a (n + 1) = moveOut (movedOut s k a n) k a n := by
  rw [movedOut, List.range_succ, List.foldl_append]; rfl

/-- R258: the two writes of a row: its cells, and its codes behind all cells. -/
theorem moveOut_mem (s : State) (k a r : Nat) : ∃ codes : List Nat, codes.length = 8 ∧ (moveOut s k a r).mem =
    memPut (memPut s.mem (heelKey (a + 768 * r)) (((List.range 128).map (accGet s k r)).flatMap (leBytes 6)))
      (heelKey (a + 98304 + 16 * r)) (codes.flatMap (leBytes 2)) :=
  ⟨(tileRow s k r).2, by simp [tileRow], rfl⟩

/-- R258: a row of the image after its move. -/
theorem imageCell_moveOut_same (s : State) (k a : Nat) {r c : Nat} (hr : r < 128) (hc : c < 128) :
    imageCell (moveOut s k a r).mem a r c = accGet s k r c := by
  obtain ⟨codes, hlen, hm⟩ := moveOut_mem s k a r
  have hcode : (codes.flatMap (leBytes 2)).length = 16 := by rw [length_flatMap_leBytes_width, hlen]
  have hkey : heelKey (a + 6 * (128 * r + c)) = heelKey (a + 768 * r) + 6 * c := by rw [heelKey_add]; congr 1; omega
  have hcell : c < ((List.range 128).map (accGet s k r)).length := by simpa using hc
  rw [imageCell, hm, memRead_memPut_out _ (by rw [hcode]; simp only [heelKey]; omega), hkey, memRead_memPut_value _ _ _ hcell,
    leNat_leBytes, List.getElem_map, List.getElem_range]
  exact Nat.mod_eq_of_lt (accGet_lt ..)

/-- R258: the bytes that the move of a row leaves alone. -/
theorem memGet_moveOut_out (s : State) (k a r : Nat) {x : Nat} (hcells : x < heelKey (a + 768 * r) ∨ heelKey (a + 768 * r) + 768 ≤ x)
    (hcodes : x < heelKey (a + 98304 + 16 * r) ∨ heelKey (a + 98304 + 16 * r) + 16 ≤ x) :
    memGet (moveOut s k a r).mem x = memGet s.mem x := by
  obtain ⟨codes, hlen, hm⟩ := moveOut_mem s k a r
  have hrow : (((List.range 128).map (accGet s k r)).flatMap (leBytes 6)).length = 768 := by
    simp only [length_flatMap_leBytes_width, List.length_map, List.length_range]
  have hcode : (codes.flatMap (leBytes 2)).length = 16 := by rw [length_flatMap_leBytes_width, hlen]
  rw [hm, memGet_memPut_out _ (by rwa [hcode]), memGet_memPut_out _ (by rwa [hrow])]

theorem imageCell_moveOut_other (s : State) (k a : Nat) {r r' c : Nat} (hr : r < 128) (hr' : r' < 128) (hne : r' ≠ r)
    (hc : c < 128) : imageCell (moveOut s k a r).mem a r' c = imageCell s.mem a r' c := by
  refine congrArg leNat (List.map_congr_left fun i hi => memGet_moveOut_out s k a r ?_ ?_)
  all_goals
    have := List.mem_range.mp hi
    simp only [heelKey]
    omega

theorem imageCell_movedOut (s : State) (k a : Nat) {n r c : Nat} (hn : n ≤ 128) (hr : r < n) (hc : c < 128) :
    imageCell (movedOut s k a n).mem a r c = accGet s k r c := by
  induction n with
  | zero => exact absurd hr (Nat.not_lt_zero r)
  | succ n ih =>
    rw [movedOut_succ]
    by_cases h : r = n
    · subst h
      rw [imageCell_moveOut_same _ _ _ hn hc, accGet_congr (movedOut_acc ..) (congrArg Ctx.src (movedOut_ctx ..))]
    · rw [imageCell_moveOut_other _ _ _ (by omega) (by omega) h hc, ih (by omega) (by omega)]

theorem memGet_movedOut_out (s : State) (k a : Nat) {n x : Nat} (hn : n ≤ 128)
    (hx : x < heelKey a ∨ heelKey a + 100352 ≤ x) : memGet (movedOut s k a n).mem x = memGet s.mem x := by
  induction n with
  | zero => rfl
  | succ n ih =>
    rw [movedOut_succ, memGet_moveOut_out, ih (by omega)]
    all_goals
      simp only [heelKey] at hx ⊢
      omega

/-! ## The handler's ACCST and ACCLD (R259, R373) -/

/-- R259, R373: a move of a trap handler whose checks pass runs over the 128 rows of its tile. -/
theorem handlerImage_next {s : State} {a : Fin 32} (ha : acts s = true) (ht : imageTrap s a = none)
    (move : State → (tile at_ row : Nat) → State) : handlerImage s a move = .next
      ((List.range 128).foldl (fun t i => move t (captured (swapped s 1) 1 0).acc.toNat (rdG s a).toNat i)
        (charge (swapped s 1) (weight s 5))) := by
  simp [handlerImage, ha, ht]

theorem accGet_issued (s : State) (n k r c : Nat) : accGet (charge (swapped s 1) n) k r c = accGet s k r c :=
  accGet_congr (by rw [charge_acc, swapped_eq]) (by rw [charge_ctx_src, swapped_eq]) k r c

theorem xq_issued (s : State) (n : Nat) : (charge (swapped s 1) n).ctx.xq = s.ctx.xq := by rw [charge_ctx_xq, swapped_eq]

/-- Settles O38: each form runs over its rows; what the rows moved so far hold is imageCell_movedOut and accGet_movedIn. -/
theorem accumulatorImages : Obligations.AccumulatorImages := by
  unfold Obligations.AccumulatorImages
  intro s a hs ha ht at_ tile
  obtain ⟨u, hu⟩ : ∃ u, u = charge (swapped s 1) (weight s 5) := ⟨_, rfl⟩
  have hget : ∀ k r c, accGet u k r c = accGet s k r c := fun k r c => by rw [hu, accGet_issued]
  have hmem : u.mem = s.mem := by rw [hu, charge_mem, swapped_mem]
  have hxq : u.ctx.xq = s.ctx.xq := by rw [hu, xq_issued]
  have hacc : u.acc = s.acc := by rw [hu, charge_acc, swapped_eq]
  constructor
  · refine ⟨movedOut u tile at_ 128, ?_, ?_, ?_, fun r c hr hc => ?_, fun k hk => ?_⟩
    · show execAccst a s = _
      rw [execAccst, if_pos hs, handlerImage_next ha ht, hu]; rfl
    · rw [movedOut_ctx, hxq]
    · rw [movedOut_acc, hacc]
    · rw [← hget]; exact imageCell_movedOut u tile at_ (Nat.le_refl 128) hr hc
    · rw [memGet_movedOut_out u tile at_ (Nat.le_refl 128) hk, hmem]
  · refine ⟨movedIn u tile at_ 128, ?_, ?_, ?_, fun r c hr hc => ?_, fun k r c hk => ?_⟩
    · show execAccld a s = _
      rw [execAccld, if_pos hs, handlerImage_next ha ht, hu]; rfl
    · rw [movedIn_ctx, hxq]
    · rw [movedIn_mem, hmem]
    · rw [accGet_movedIn, if_pos ⟨rfl, hr, hc⟩, hmem]; rfl
    · rw [accGet_movedIn, if_neg fun h => hk h.1, hget]

end Sys2Proof.Proofs
end

section
/-! PROOF. The issue of LNPUT and LNTAP (O43), and the machine at reset (O29). -/

namespace Sys2Proof.Proofs

open Sys2Proof.Machine
open Sys2Proof.Laws

/-! ## A Q syllable that acts (R288) -/

theorem qOp_next {s : State} (ha : acts s = true) (eff : State → State) : qOp s none eff = .next (eff (charge s (weight s 3))) := by
  simp [qOp, ha]

/-- A Q syllable that acts and whose check fails. -/
theorem qOp_trap {s : State} (ha : acts s = true) (x : Trap) (eff : State → State) : qOp s (some x) eff = .next (takeTrap s x) := by
  simp [qOp, ha]

/-! ## Lane commands at issue (R110, R293, R294) -/

section
variable {s : State} {put aw : Bool} {a b : Fin 32} {l : Fin 8}

/-- R293, R294: with its fields in their limits and its rows in the grant, a lane command fails only by its start. -/
theorem laneCheck_start (hb : badReg s 4 [a, b] = none) (hz : (rdG s a).toNat % 2 ^ 18 = 0)
    (hbase : (rdG s a).toNat / 2 ^ 40 % 128 = 0) (hrows : 0 < (rdG s a).toNat / 2 ^ 24 % 2 ^ 16)
    (hput : put = true ↔ 0 < (rdG s a).toNat / 2 ^ 18 % 64)
    (hg : s.ctx.inGrant ((rdG s a).toNat / 2 ^ 40) (128 * ((rdG s a).toNat / 2 ^ 24 % 2 ^ 16)) = true) :
    laneCheck s put aw a b l = if (rdG s b).toNat % 2 ^ 48 < s.ctx.now + 1
      then some (ringTiming aw l.val s.ctx.unit ((rdG s b).toNat % 2 ^ 48) s.ctx.iss.pc) else none := by
  have hf : ¬((rdG s a).toNat % 2 ^ 18 ≠ 0 ∨ (rdG s a).toNat / 2 ^ 40 % 128 ≠ 0 ∨ (rdG s a).toNat / 2 ^ 24 % 2 ^ 16 = 0 ∨
      ((put = true) ∧ (rdG s a).toNat / 2 ^ 18 % 64 = 0) ∨ ((!put) = true ∧ (rdG s a).toNat / 2 ^ 18 % 64 ≠ 0)) := by
    rintro (h | h | h | ⟨hp, h⟩ | ⟨hp, h⟩)
    · exact h hz
    · exact h hbase
    · omega
    · have := hput.mp hp; omega
    · have := hput.mpr (Nat.pos_of_ne_zero h)
      simp [this] at hp
  simp only [laneCheck, laneFields, hb, if_neg hf, hg]
  rfl

theorem laneOp_trap (ha : acts s = true) {x : Trap} (hx : laneCheck s put aw a b l = some x) :
    laneOp s put aw a b l = .next (takeTrap s x) := by
  simp [laneOp, hx, qOp_trap ha]

/-- R294: with four unfinished commands of the station the ring is held. -/
theorem laneOp_held (ha : acts s = true) (hx : laneCheck s put aw a b l = none)
    (hn : 4 ≤ (s.lanes.filter fun x => x.station == s.ctx.unit).length) : laneOp s put aw a b l = .next (holdBundle s 2) :=
  if_pos ⟨ha, hx, hn⟩

/-- R293: the record of a lane command that is accepted. -/
theorem laneOp_joins (ha : acts s = true) (hx : laneCheck s put aw a b l = none)
    (hn : (s.lanes.filter fun x => x.station == s.ctx.unit).length < 4) : laneOp s put aw a b l =
      .next { charge s (weight s 3) with lanes := s.lanes ++ [⟨put, aw, l.val, s.ctx.unit, (rdG s a).toNat / 2 ^ 40,
        (rdG s a).toNat / 2 ^ 24 % 2 ^ 16, (rdG s a).toNat / 2 ^ 18 % 64, (rdG s b).toNat % 2 ^ 48, s.ctx.iss.pos, s.ctx.iss.pc,
        s.ctx.now, [], 0⟩] } := by
  have hfree : ¬(acts s = true ∧ laneCheck s put aw a b l = none ∧
      (s.lanes.filter fun x => x.station == s.ctx.unit).length ≥ 4) := fun h => by omega
  rw [laneOp, if_neg hfree, hx, qOp_next ha]
  simp only [laneFields, charge_rdG, charge_ctx_unit, charge_ctx_iss, charge_now, charge_lanes]

end

/-- Settles O43: the four forms are one operation, whose check turns on the start alone (laneCheck_start). -/
theorem laneCommands : Obligations.LaneCommands := by
  unfold Obligations.LaneCommands
  intro s a b l ha hb base rows hops t mine lane
  have issue : ∀ i put aw, exec i s = laneOp s put aw a b l → lane i put aw := by
    intro i put aw hi hz hbase hrows hput hg
    have hx := laneCheck_start (aw := aw) (l := l) hb hz hbase hrows hput hg
    refine ⟨fun hlate => ?late, fun hsoon hfew => ?joins, fun hsoon hfull => ?held⟩
    case late =>
      rw [if_pos (Nat.lt_succ_of_le hlate)] at hx
      exact hi.trans (laneOp_trap ha hx)
    case joins =>
      rw [if_neg (Nat.not_lt.mpr hsoon)] at hx
      exact ⟨_, hi.trans (laneOp_joins ha hx hfew), rfl, rfl, charge_ctx_r .., charge_ctx_latches .., charge_ctx_dws ..,
        rfl, rfl, rfl, rfl⟩
    case held =>
      rw [if_neg (Nat.not_lt.mpr hsoon)] at hx
      exact ⟨_, hi.trans (laneOp_held ha hx hfull), rfl, rfl⟩
  exact ⟨issue _ _ _ rfl, issue _ _ _ rfl, issue _ _ _ rfl, issue _ _ _ rfl⟩

/-! ## Reset (R101, R301, R418, R440) -/

/-- At reset no island is listed, so each stands at its reset point. -/
theorem getIsland_reset (n : Nat) : getIsland State.reset n = Island.fresh n := rfl

/-- Settles O29: every field of the reset state by its value, and every island by getIsland_reset. -/
theorem resetState : Obligations.ResetState := by
  unfold Obligations.ResetState
  refine ⟨rfl, fun _ => rfl, rfl, rfl, rfl, rfl, rfl, rfl, rfl, rfl, rfl, rfl, rfl, rfl, rfl, rfl, rfl, rfl, rfl, rfl, rfl, rfl,
    rfl, rfl, rfl, rfl, rfl, fun n => ?_⟩
  rw [getIsland_reset]
  exact ⟨rfl, rfl, rfl, rfl, rfl⟩

end Sys2Proof.Proofs
end

section
/-! PROOF. The fabric's pieces by their numbers, and what the shared operations of the fabric leave of a machine. -/

namespace Sys2Proof.Proofs

open Sys2Proof.Machine
open Sys2Proof.Laws

/-! ## Pieces by number -/

theorem id_of_findPiece {s : State} {n : Nat} {p : Piece} (h : findPiece s n = some p) : p.id = n := by
  simpa using List.find?_some h

theorem findPiece_congr {s t : State} (h : t.net.pieces = s.net.pieces) (n : Nat) : findPiece t n = findPiece s n := by
  rw [findPiece, h]; rfl

theorem findPiece_updPiece (s : State) (n : Nat) {f : Piece → Piece} (hf : ∀ p, (f p).id = p.id) :
    findPiece (updPiece s n f) n = (findPiece s n).map f :=
  find?_map_key Piece.id hf n _

theorem findPiece_dropPiece (s : State) (n : Nat) : findPiece (dropPiece s n) n = none := by
  simp [findPiece, dropPiece, List.find?_eq_none]

/-- The piece at hand, after it is changed in a state with the same pieces. -/
theorem findPiece_updated {s u : State} {n : Nat} {p : Piece} (hp : findPiece s n = some p)
    (hu : u.net.pieces = s.net.pieces) {f : Piece → Piece} (hf : ∀ q, (f q).id = q.id) :
    findPiece (updPiece u p.id f) n = some (f p) := by
  rw [id_of_findPiece hp, findPiece_updPiece u n hf, findPiece_congr hu, hp]; rfl

/-! ## Completion (R267, R424) -/

/-- R424: a charge to the context of a source changes contexts and the counts of islands. -/
theorem chargeTo_frame (s : State) (src pj : Nat) : chargeTo s src pj =
    { s with ctx := (chargeTo s src pj).ctx, others := (chargeTo s src pj).others, units := (chargeTo s src pj).units } := by
  unfold chargeTo
  split
  · rfl
  · split <;> rfl

/-- R267, R424: the completion of a piece changes contexts and the counts of islands. -/
theorem pieceDone_frame (s : State) (p : Piece) : pieceDone s p =
    { s with ctx := (pieceDone s p).ctx, others := (pieceDone s p).others, units := (pieceDone s p).units } := by
  unfold pieceDone
  dsimp only
  rw [chargeTo_frame]
  rfl

@[simp] theorem pieceDone_net (s : State) (p : Piece) : (pieceDone s p).net = s.net := by rw [pieceDone_frame]

@[simp] theorem pieceDone_synd (s : State) (p : Piece) : (pieceDone s p).synd = s.synd := by rw [pieceDone_frame]

/-! ## Sources -/

/-- The contexts as sources: their status, their source numbers and their units. -/
def sources (s : State) : List (Status × Nat × Nat) := (allCtx s).map fun c => (c.status, c.src, c.gunit)

theorem sources_mapCtx (s : State) {f : Ctx → Ctx} (hf : ∀ c, ((f c).status, (f c).src, (f c).gunit) = (c.status, c.src, c.gunit)) :
    sources (mapCtx s f) = sources s := by
  simp only [sources, allCtx_mapCtx, List.map_map]
  exact List.map_congr_left fun c _ => hf c

theorem sources_updSrc (s : State) (src : Nat) {f : Ctx → Ctx}
    (hf : ∀ c, ((f c).status, (f c).src, (f c).gunit) = (c.status, c.src, c.gunit)) : sources (updSrc s src f) = sources s :=
  sources_mapCtx s fun c => by split <;> [exact hf c; rfl]

theorem charge_source (c : Ctx) (pj : Nat) :
    ((c.charge pj true).status, (c.charge pj true).src, (c.charge pj true).gunit) = (c.status, c.src, c.gunit) := by
  unfold Ctx.charge
  dsimp only
  split_ifs <;> rfl

theorem sources_chargeTo (s : State) (src pj : Nat) : sources (chargeTo s src pj) = sources s := by
  unfold chargeTo
  split
  · rfl
  · split
    · rfl
    · exact sources_updSrc s src fun c => charge_source c pj

theorem sources_pieceDone (s : State) (p : Piece) : sources (pieceDone s p) = sources s := by
  unfold pieceDone
  rw [sources_chargeTo]
  exact sources_updSrc s p.src fun c => rfl

/-! ## Services at the home (R409, R411, R412) -/

/-- A machine with other pieces in service. -/
def withServed (s : State) (l : List (Nat × Nat × Nat × Nat)) : State := { s with net := { s.net with inServ := l } }

/-- R409: entering service changes the pieces in service alone. -/
theorem enterService_eq (s : State) (p : Piece) : ∃ l, enterService s p = withServed s l := by
  unfold enterService
  split <;> exact ⟨_, rfl⟩

theorem enterService_net (s : State) (p : Piece) : (enterService s p).net.pieces = s.net.pieces ∧
    (enterService s p).net.hist = s.net.hist := by
  obtain ⟨l, hl⟩ := enterService_eq s p
  rw [hl]; exact ⟨rfl, rfl⟩

/-- R102: what a home sends back is due in a later cycle. -/
theorem cycle_lt_back (s : State) (p : Piece) (delay : Nat) : s.cycle < (enterService s p).cycle + 1 + delay := by
  obtain ⟨l, hl⟩ := enterService_eq s p
  rw [hl, Nat.add_assoc]
  exact Nat.lt_add_of_pos_right (Nat.add_pos_left Nat.one_pos delay)

theorem plainView_withServed (s : State) (l : List (Nat × Nat × Nat × Nat)) (form va key n : Nat) :
    plainView (withServed s l) form va key n = withServed (plainView s form va key n) l := by
  have hform : storedForm (withServed s l) form va key = storedForm s form va key := rfl
  unfold plainView
  rw [hform]
  cases storedForm s form va key <;> rfl

theorem readHome_withServed (s : State) (l : List (Nat × Nat × Nat × Nat)) (c : Ctx) (own : Nat) (stamps : List Nat) (adm k : Nat) :
    readHome (withServed s l) c own stamps adm k = readHome s c own stamps adm k := rfl

/-- R122: what a piece reads does not depend on which pieces are in service. -/
theorem pieceBytes_enterService (s : State) (p q : Piece) (va k : Nat) : pieceBytes (enterService s q) p va k = pieceBytes s p va k := by
  obtain ⟨l, hl⟩ := enterService_eq s q
  have hview := plainView_withServed { s with net := { s.net with pieces := s.net.pieces.filter fun x => x.seq < p.seq } } l
    p.comp va k p.len
  rw [hl]
  refine List.map_congr_left fun i _ => ?_
  exact (congrArg (fun u => readHome u ((srcCtx s p.src).getD { Ctx.vacant with src := p.src }) p.own p.stamps p.adm (k + i))
    hview).trans (readHome_withServed ..)

theorem writeSize_enterService (s : State) (p q : Piece) : writeSize (enterService s q) p = writeSize s p := by
  obtain ⟨l, hl⟩ := enterService_eq s q
  rw [hl]; rfl

theorem setEntry_net (s : State) (va : Nat) (f : Word → Word) : (setEntry s va f).net.pieces = s.net.pieces ∧
    (setEntry s va f).net.hist = s.net.hist := by
  unfold setEntry
  split <;> exact ⟨rfl, rfl⟩

/-- R412: a page stored plain again leaves the pieces and the home order. -/
theorem expandPage_net (s : State) (form h va k n : Nat) : (expandPage s form h va k n).net.pieces = s.net.pieces ∧
    (expandPage s form h va k n).net.hist = s.net.hist := by
  unfold expandPage
  split
  · exact ⟨rfl, rfl⟩
  · split
    · exact ⟨rfl, rfl⟩
    · dsimp only
      split
      · exact setEntry_net ..
      · exact ⟨rfl, rfl⟩

/-- R412: a page that was translated as plain, or that a long write covers, stays as it is stored. -/
theorem expandPage_none (s : State) {form n : Nat} (hn : form = 0 ∨ 4096 ≤ n) (h va k : Nat) : expandPage s form h va k n = s := by
  unfold expandPage
  split
  · rfl
  · rename_i f hs
    refine if_pos (hn.resolve_left fun h0 => ?_)
    rw [h0, storedForm, ite_self] at hs
    exact absurd hs (Nat.succ_ne_zero f).symm

/-! ## Requests to the driver (R411) -/

theorem sendPkt_net (s : State) (sid type : Nat) (body : List Byte) : (sendPkt s sid type body).net = s.net ∧
    (sendPkt s sid type body).host.preqs = s.host.preqs := by
  unfold sendPkt
  split <;> exact ⟨rfl, rfl⟩

theorem pageReq_net (s : State) (sid : Nat) (va : Word) (kind intent status cid src : Nat) (wid : Word) (keep : Bool) :
    (pageReq s sid va kind intent status cid src wid keep).net = s.net := by
  unfold pageReq
  dsimp only
  split <;> exact (sendPkt_net ..).1

/-- R411: a request that is kept until its answer. -/
theorem pageReq_kept (s : State) (sid : Nat) (va : Word) (kind intent status cid src : Nat) (wid : Word) :
    ∃ r, (pageReq s sid va kind intent status cid src wid true).host.preqs = s.host.preqs ++ [r] ∧ r.kind = kind ∧ r.va = va := by
  refine ⟨⟨s.fresh, sid, va, kind, intent, cid, src⟩, ?_, rfl, rfl⟩
  show (sendPkt { s with fresh := s.fresh + 1 } ..).host.preqs ++ _ = _
  rw [(sendPkt_net ..).2]

end Sys2Proof.Proofs
end

section
/-! PROOF. What a piece does at its home (O47). -/

namespace Sys2Proof.Proofs

open Sys2Proof.Machine
open Sys2Proof.Laws

/-! ## The four outcomes (R409, R410, R413) -/

/-- R409, R410: the state after a piece in its turn has met its home. -/
def metHome (s : State) (p : Piece) : Gate → State
  | .wait => s
  | .park => parkPiece s p
  | .refuse => refusePiece s p
  | .go h k => performPiece s p h k

section
variable {s : State} {n : Nat} {p : Piece} (hp : findPiece s n = some p)
include hp

theorem exec_pieceAtHome (ha : arrived s p = true) {g : Gate} (hg : gateOf s p = g) :
    exec (.pieceAtHome n) s = .next (metHome s p g) := by
  show execPieceAtHome n s = _
  simp only [execPieceAtHome, hp, ha, Bool.not_true, Bool.false_eq_true, if_false, hg]
  cases g <;> rfl

/-- R413: the refusal of a far piece. -/
theorem exec_farPieceRefusal (ha : arrived s p = true) : exec (.farPieceRefusal n) s =
    .next (if gateOf s p = .refuse ∧ farTarget s p = true then refusePiece s p else s) := by
  show execFarPieceRefusal n s = _
  simp only [execFarPieceRefusal, hp, ha, true_and]
  split <;> rfl

theorem findPiece_refusePiece : findPiece (refusePiece s p) n = some { p with state := .refused } :=
  findPiece_updated hp rfl fun _ => rfl

/-- R410: a parked piece stands behind the others. -/
theorem findPiece_parkPiece : findPiece (parkPiece s p) n = some { p with state := .parked } := by
  have hpieces : (parkPiece s p).net.pieces = (s.net.pieces.filter fun q => q.id != p.id) ++ [{ p with state := .parked }] := by
    unfold parkPiece
    dsimp only
    split
    · rfl
    · rw [pageReq_net]
  have hnone : (s.net.pieces.filter fun q => q.id != p.id).find? (fun q => q.id == n) = none := by
    simp [List.find?_eq_none, id_of_findPiece hp]
  rw [findPiece, hpieces, List.find?_append, hnone]
  simp [id_of_findPiece hp]

omit hp in
/-- R410, R411: a page that no request names yet is asked for. -/
theorem parkPiece_asks (h : ∀ r ∈ s.host.preqs, r.kind = 2 → ∀ q, findPiece s r.cid = some q → samePage p q = false) :
    ∃ r, (parkPiece s p).host.preqs = s.host.preqs ++ [r] ∧ r.kind = 2 ∧ r.va = BitVec.ofNat 64 p.target.1 := by
  have hasked : (s.host.preqs.any fun r => r.kind == 2 && (findPiece s r.cid).any (samePage p)) = false := by
    rw [List.any_eq_false]
    intro r hr
    cases hq : findPiece s r.cid with
    | none => simp
    | some q =>
      by_cases hk : r.kind = 2
      · simp [h r hr hk q hq]
      · simp [hk]
  unfold parkPiece
  dsimp only
  rw [if_neg (by rw [hasked]; exact Bool.false_ne_true)]
  exact pageReq_kept ..

/-! ## Pieces that are performed (R116, R122, R124, R272) -/

/-- R122: a read takes its bytes and goes back. -/
theorem performPiece_read (h k : Nat) (h2 : p.second = none) (hk : p.kind = .read) : ∃ q,
    findPiece (performPiece s p h k) n = some q ∧ q.state = .atHome ∧ q.home = h ∧ q.key = k ∧
    q.data = pieceBytes s p p.va.toNat k ∧ s.cycle < q.due ∧ (performPiece s p h k).mem = s.mem ∧
    (performPiece s p h k).net.hist = s.net.hist := by
  have hd : ¬(p.delivers = true ∧ p.second.isNone = true) := by simp [Piece.delivers, hk]
  obtain ⟨hpieces, hhist⟩ := enterService_net s p
  have ht : performPiece s p h k = updPiece { enterService s p with fresh := (enterService s p).fresh + 1 } p.id fun q =>
      { q with data := pieceBytes (enterService s p) p p.va.toNat k, syn := homeSyn (enterService s p) k p.len, home := h, key := k,
               state := .atHome, due := (enterService s p).cycle + 1 + Config.fabricDelay (enterService s p).fresh } := by
    unfold performPiece
    rw [if_neg hd]
    simp only [h2, hk]
  rw [ht]
  refine ⟨_, findPiece_updated hp hpieces fun _ => rfl, rfl, rfl, rfl, pieceBytes_enterService .., cycle_lt_back ..,
    enterService_mem .., hhist⟩

/-- R272: a copy between global ranges takes its source bytes first. -/
theorem performPiece_source (h k : Nat) (h2 : p.second.isSome = true) : ∃ q,
    findPiece (performPiece s p h k) n = some q ∧ q.second = none ∧ q.state = p.state ∧ q.data = pieceBytes s p p.peer k ∧
    s.cycle < q.due ∧ (performPiece s p h k).mem = s.mem := by
  obtain ⟨x, hx⟩ := Option.isSome_iff_exists.mp h2
  have hd : ¬(p.delivers = true ∧ p.second.isNone = true) := by simp [hx]
  have ht : performPiece s p h k = updPiece { enterService s p with fresh := (enterService s p).fresh + 1 } p.id fun q =>
      { q with data := pieceBytes (enterService s p) p p.peer k, syn := homeSyn (enterService s p) k p.len, second := none,
               comp := q.comp2, due := (enterService s p).cycle + 1 + Config.fabricDelay (enterService s p).fresh } := by
    unfold performPiece
    rw [if_neg hd]
    simp only [hx]
  rw [ht]
  refine ⟨_, findPiece_updated hp (enterService_net s p).1 fun _ => rfl, rfl, rfl, pieceBytes_enterService ..,
    cycle_lt_back .., enterService_mem ..⟩

/-- R116: a plain write is held at its home; its page is stored plain again when the write is short. -/
theorem performPiece_write (h k : Nat) (h2 : p.second = none) (hk : p.kind = .write) :
    findPiece (performPiece s p h k) n = some { p with home := h, key := k, state := .atHome } ∧
    (performPiece s p h k).net.hist = s.net.hist ∧
    (p.comp = 0 ∨ 4096 ≤ writeSize s p → (performPiece s p h k).mem = s.mem) := by
  have hd : ¬(p.delivers = true ∧ p.second.isNone = true) := by simp [Piece.delivers, hk]
  obtain ⟨u, hu⟩ : ∃ u, u = expandPage (enterService s p) p.comp h p.va.toNat k (writeSize s p) := ⟨_, rfl⟩
  have hnet : u.net.pieces = s.net.pieces ∧ u.net.hist = s.net.hist := by
    obtain ⟨hpieces, hhist⟩ := expandPage_net (enterService s p) p.comp h p.va.toNat k (writeSize s p)
    rw [hu, hpieces, hhist]
    exact enterService_net s p
  have ht : performPiece s p h k =
      pieceDone (updPiece u p.id fun q => { q with home := h, key := k, state := .atHome }) p := by
    unfold performPiece
    rw [if_neg hd]
    simp only [h2, hk, hu, writeSize_enterService]
  rw [ht]
  refine ⟨?_, ?_, fun hlong => ?_⟩
  · rw [findPiece_congr (congrArg NetState.pieces (pieceDone_net ..))]
    exact findPiece_updated hp hnet.1 fun _ => rfl
  · rw [pieceDone_net]
    exact hnet.2
  · rw [pieceDone_mem, updPiece_mem, hu, expandPage_none _ hlong, enterService_mem]

/-- R124: a delivery is held until its publication. -/
theorem performPiece_deliver (h k : Nat) (h2 : p.second = none) (hk : p.kind = .deliver) :
    findPiece (performPiece s p h k) n = some { p with state := .atHome } ∧ (performPiece s p h k).mem = s.mem ∧
    (performPiece s p h k).net.hist = s.net.hist := by
  have hd : p.delivers = true ∧ p.second.isNone = true := by simp [Piece.delivers, hk, h2]
  obtain ⟨u, hu⟩ : ∃ u, u = updPiece s p.id fun q => { q with state := .atHome } := ⟨_, rfl⟩
  have ht : performPiece s p h k = if p.direct then u else pieceDone u p := by
    unfold performPiece
    rw [if_pos hd]
    simp only [h2, hk, hu]
  have hnet : (performPiece s p h k).net = u.net := by
    rw [ht]; split <;> [rfl; exact pieceDone_net ..]
  have hmem : (performPiece s p h k).mem = s.mem := by
    rw [ht, hu]; split <;> [rfl; exact pieceDone_mem ..]
  refine ⟨?_, hmem, by rw [hnet, hu]; rfl⟩
  rw [findPiece_congr (congrArg NetState.pieces hnet), hu]
  exact findPiece_updated hp rfl fun _ => rfl

end

/-! ## Far homes (R406, R413) -/

theorem gateOf_far {s : State} {p : Piece} (hf : farHome p.target.2.1 = true) (hd : p.delivers = false ∨ p.second.isSome = true) :
    gateOf s p = farGate p p.target.2.1 p.target.2.2 := by
  have hnd : ¬(p.delivers = true ∧ p.second.isNone = true) := by
    rintro ⟨h1, h2⟩
    rcases hd with h | h
    · simp [h] at h1
    · simp [Option.isNone_iff_eq_none.mp h2] at h
  rw [gateOf]
  simp only [if_neg hnd, hf, if_true]

/-- R406, R413: a far home takes no atomic, and of the others those that its package accepts. -/
theorem farGate_refuse {p : Piece} (h k : Nat) (hr : (∃ op f c r, p.kind = .atom op f c r) ∨ Config.remoteAccepts p.id = false) :
    farGate p h k = .refuse := by
  rcases hr with ⟨op, f, c, r, hk⟩ | hr
  · simp [farGate, hk]
  · simp [farGate, hr]

theorem farGate_go {p : Piece} (h k : Nat) (hn : ∀ op f c r, p.kind ≠ .atom op f c r) (hr : Config.remoteAccepts p.id = true) :
    farGate p h k = .go h k := by
  unfold farGate
  split <;> rename_i hk
  · exact absurd hk (hn _ _ _ _)
  · simp [hr]

/-- Settles O47: one clause for each kind of piece that goes on, one for each other gate, and the gate of a far home. -/
theorem piecesAtHome : Obligations.PiecesAtHome := by
  unfold Obligations.PiecesAtHome
  intro s n p hp ha at_ refused
  have refusal : findPiece (refusePiece s p) n = some { p with state := .refused } ∧
      refused (refusePiece s p) { p with state := .refused } := ⟨findPiece_refusePiece hp, rfl, rfl, rfl⟩
  refine ⟨fun h k hg h2 hk => ?read, fun h k hg h2 hk => ?write, fun h k hg h2 hk => ?deliver, fun h k hg h2 => ?source,
    fun hg => ?park, fun hg => ⟨_, _, exec_pieceAtHome hp ha hg, refusal⟩, fun hg => exec_pieceAtHome hp ha hg,
    fun hg hf => ⟨_, _, (exec_farPieceRefusal hp ha).trans (congrArg _ (if_pos ⟨hg, hf⟩)), refusal⟩,
    fun h => ?stays, fun hf hd => ⟨fun hr => ?_, fun hn hr => ?_⟩⟩
  case read =>
    obtain ⟨q, hq, hrest⟩ := performPiece_read hp h k h2 hk
    exact ⟨_, q, exec_pieceAtHome hp ha hg, hq, hrest⟩
  case write =>
    obtain ⟨hq, hhist, hmem⟩ := performPiece_write hp h k h2 hk
    exact ⟨_, _, exec_pieceAtHome hp ha hg, hq, rfl, rfl, rfl, rfl, rfl, hhist, hmem⟩
  case deliver =>
    obtain ⟨hq, hmem, hhist⟩ := performPiece_deliver hp h k h2 hk
    exact ⟨_, _, exec_pieceAtHome hp ha hg, hq, rfl, hmem, hhist⟩
  case source =>
    obtain ⟨q, hq, hrest⟩ := performPiece_source hp h k h2
    exact ⟨_, q, exec_pieceAtHome hp ha hg, hq, hrest⟩
  case park => exact ⟨_, _, exec_pieceAtHome hp ha hg, findPiece_parkPiece hp, rfl, parkPiece_mem s p, parkPiece_asks⟩
  case stays =>
    have hnot : ¬(gateOf s p = .refuse ∧ farTarget s p = true) := by
      rintro ⟨hr, hf⟩
      rcases h with h | h
      · exact h hr
      · simp [hf] at h
    rw [exec_farPieceRefusal hp ha, if_neg hnot]
  · rw [gateOf_far hf hd, farGate_refuse _ _ hr]
  · rw [gateOf_far hf hd, farGate_go _ _ hn hr]

end Sys2Proof.Proofs
end

section
/-! PROOF. Fills, deliveries and refusals that arrive (O48). -/

namespace Sys2Proof.Proofs

open Sys2Proof.Machine
open Sys2Proof.Laws

/-! ## Bytes through the fill port (R87) -/

/-- R87: with no failing sector and no byte dropped, every byte of an arrival is written. -/
theorem fillPut_mem (s : State) (u a : Nat) (bs : List Byte) (syn : List (BitVec 16)) (fill : Bool) (hs : s.synd = []) :
    (fillPut s u a bs syn fill fun _ => true).mem = memPut s.mem (spadKey u a) bs := by
  have hbytes : (List.range bs.length).map (fun i => bs.getD i 0) = bs := by
    refine List.ext_getElem (by simp) fun i h1 h2 => ?_
    simp [List.getD_eq_getElem?_getD, h2]
  have hsyn : ∀ k, synGet s.synd k = 0 := fun k => by rw [hs]; rfl
  have hnew : (fillPut s u a bs syn fill fun _ => true).mem =
      memPut s.mem (spadKey u a) ((List.range bs.length).map fun i => bs.getD i 0) := by
    simp only [fillPut, hsyn, bne_self_eq_false, Bool.and_false, Bool.not_false, Bool.and_true, if_true]
  rw [hnew, hbytes]

theorem holdsBytes_memPut {s t : State} {k : Nat} {bs : List Byte} (h : t.mem = memPut s.mem k bs) : holdsBytes s t k bs := by
  refine ⟨fun i hi => ?_, fun a ha => ?_⟩
  · rw [h, memGet_memPut_in _ (Nat.le_add_right k i) (Nat.add_lt_add_left hi k), Nat.add_sub_cancel_left]
  · rw [h, memGet_memPut_out _ ha]

/-- R308: a Sole core takes every byte. -/
theorem arrivalKeep_sole (s : State) (p : Piece) {rs : List Ctx} (h : ∀ c ∈ rs, c.upper = false) :
    arrivalKeep s p rs = fun _ => true := by
  funext a
  have hnone : (rs.any fun c => c.upper && dropsByte s (arrivalTag s p c) c.tclk a) = false := by
    rw [List.any_eq_false]
    intro c hc
    simp [h c hc]
  rw [arrivalKeep, hnone]; rfl

/-- R89: which core a piece comes from is a fact about its source. -/
theorem landsFar_congr {s t : State} (h : sources t = sources s) (p : Piece) : landsFar t p = landsFar s p := by
  have source : ∀ u : State, landsFar u p =
      !(((sources u).find? fun x => x.1 != .vacant && x.2.1 == p.src).any fun x => x.2.2 == p.dstUnit) := fun u => by
    rw [sources, List.find?_map, Option.any_map]; rfl
  rw [source, source, h]

theorem landingBad_congr {s t : State} (h : sources t = sources s) (p : Piece) (keep : Nat → Bool) :
    landingBad t p keep = landingBad s p keep := by
  simp only [landingBad, landsFar_congr h]

/-- R89: an arrival of the own core, or one whose codes all match, is not discarded for its codes. -/
theorem landingBad_none {s : State} {p : Piece} (h : (∀ c ∈ p.syn, c = 0) ∨ landsFar s p = false) (keep : Nat → Bool) :
    landingBad s p keep = none := by
  unfold landingBad
  dsimp only
  split
  · rfl
  · rename_i hf
    have hsyn : ∀ c ∈ p.syn, c = 0 := h.resolve_right fun h' => hf (by rw [h']; rfl)
    rw [List.find?_eq_none]
    intro i _
    have hz : p.syn.getD i 0 = 0 := by
      rw [List.getD_eq_getElem?_getD]
      cases hi : p.syn[i]? with
      | none => rfl
      | some c => exact hsyn c (List.mem_of_getElem? hi)
    rw [hz, bne_self_eq_false, Bool.and_false]
    exact Bool.false_ne_true

/-! ## Deliveries (R89, R124, R359) -/

theorem raiseAt_net (s : State) (rs : List Ctx) (t : Ctx → Trap) : (raiseAt s rs t).net = s.net := by
  unfold raiseAt
  dsimp only
  split <;> rfl

theorem landDelivery_net (s : State) (p : Piece) (rs : List Ctx) : (landDelivery s p rs).net = s.net := by
  unfold landDelivery
  dsimp only
  split
  · split
    · exact raiseAt_net ..
    · rfl
  · exact raiseAt_net ..
  · rfl

/-- R89, R359: a delivery that escapes, or whose codes fail, is discarded whole. -/
theorem landDelivery_discarded {s : State} {p : Piece} {rs : List Ctx}
    (h : undeclared p rs (arrivalKeep s p rs) ≠ none ∨ landingBad s p (arrivalKeep s p rs) ≠ none) :
    (landDelivery s p rs).mem = s.mem := by
  unfold landDelivery
  dsimp only
  split
  · split
    · exact raiseAt_mem ..
    · rfl
  · exact raiseAt_mem ..
  · rename_i hu hb
    exact absurd hb (h.resolve_left (not_not_intro hu))

theorem landDelivery_lands {s : State} {p : Piece} {rs : List Ctx} (hu : undeclared p rs (arrivalKeep s p rs) = none)
    (hb : landingBad s p (arrivalKeep s p rs) = none) :
    landDelivery s p rs = fillPut s p.dstUnit p.dst p.data p.syn false (arrivalKeep s p rs) := by
  simp only [landDelivery, hu, hb]

/-- R124: the state in which a delivery meets its receivers: it has left the fabric. -/
def leftFabric (s : State) (p : Piece) : State :=
  if p.direct then pieceDone (dropPiece s p.id) p else dropPiece s p.id

section
variable (s : State) (p : Piece)

theorem leftFabric_net : (leftFabric s p).net = (dropPiece s p.id).net := by
  unfold leftFabric
  split <;> simp

theorem leftFabric_mem : (leftFabric s p).mem = s.mem := by
  unfold leftFabric
  split <;> simp

theorem leftFabric_synd : (leftFabric s p).synd = s.synd := by
  unfold leftFabric
  split
  · exact pieceDone_synd ..
  · rfl

theorem sources_leftFabric : sources (leftFabric s p) = sources s := by
  unfold leftFabric
  split
  · exact sources_pieceDone ..
  · rfl

end

/-! ## The three steps -/

section
variable {s : State} {n : Nat} {p : Piece} (hp : findPiece s n = some p)
include hp

/-- R87: the bytes of a read that are back go through the fill port of their core. -/
theorem exec_fillArrival_read (hs : settling s p.dstUnit = false) {c : Ctx} (hk : p.kind = .read) (hst : p.state = .atHome)
    (hd : p.due ≤ s.cycle) (hc : srcCtx s p.src = some c) (hu : c.upper = false) : ∃ fill, exec (.fillArrival n) s =
      .next (fillPut (pieceDone (dropPiece s n) p) p.dstUnit p.dst p.data p.syn fill fun _ => true) := by
  have hgo : ¬((!p.returns) = true ∨ p.state ≠ .atHome ∨ p.due > s.cycle ∨ settling s p.dstUnit = true) := by
    simp [Piece.returns, hk, hst, hs, hd]
  refine ⟨c.cq.any fun k => k.id == p.cmd && k.op == .wfill, ?_⟩
  show execFillArrival n s = _
  simp only [execFillArrival, hp, if_neg hgo, hc, hk, hu, Bool.false_and, Bool.not_false]

/-- R124: a delivery that may land meets its receivers. -/
theorem exec_deliveryLanding (hs : settling s p.dstUnit = false) (hd : deliverable s p = true) (hh : p.home = ownHome s)
    (hr : receivers s p ≠ []) : exec (.deliveryLanding n) s = .next (landDelivery (leftFabric s p) p (receivers s p)) := by
  show execDeliveryLanding n s = _
  have hne : ¬(receivers s p).isEmpty = true := by simpa using hr
  simp only [execDeliveryLanding, hp, hd, hs, hh, Bool.not_true, Bool.false_eq_true, or_self, if_false, ne_eq, not_true_eq_false,
    if_neg hne, leftFabric, id_of_findPiece hp]

omit hp in
/-- R105, R295: the context of a refused copy, with FATAL_CONTEXT unless it has one already. -/
def refusedCtx (p : Piece) (cmd : Option Cmd) (c : Ctx) : Ctx :=
  { c with fatal := c.fatal.or (some ⟨0x21, refusedAt p cmd, 0, 0, (cmd.map (·.pc)).getD 0⟩) }

theorem exec_targetRefusal (hk : p.kind = .read ∨ p.kind = .write ∨ p.kind = .deliver) (hst : p.state = .refused) :
    ∃ cmd, exec (.targetRefusal n) s = .next (updSrc (dropPiece s n) p.src (refusedCtx p cmd)) := by
  refine ⟨(srcCtx s p.src).bind fun c => c.cq.find? fun k => k.id == p.cmd, ?_⟩
  show execTargetRefusal n s = _
  rcases hk with hk | hk | hk <;> simp only [execTargetRefusal, hp, hst, hk, ne_eq, not_true_eq_false, if_false] <;> rfl

end

/-- R105: every context of the source has a fatal record, and the new one where it had none. -/
theorem fatal_updSrc_refused (s : State) (p : Piece) (cmd : Option Cmd) {d : Ctx}
    (hd : d ∈ allCtx (updSrc s p.src (refusedCtx p cmd))) (hv : d.status ≠ .vacant) (hsrc : d.src = p.src) :
    ∃ c ∈ allCtx s, c.src = p.src ∧ d.fatal = c.fatal.or (some ⟨0x21, refusedAt p cmd, 0, 0, (cmd.map (·.pc)).getD 0⟩) := by
  rw [updSrc, allCtx_mapCtx] at hd
  obtain ⟨c, hc, rfl⟩ := List.mem_map.mp hd
  split at hv
  · rename_i h
    rw [if_pos h] at hsrc ⊢
    exact ⟨c, hc, hsrc, rfl⟩
  · rename_i h
    rw [if_neg h] at hsrc
    exact absurd (by simp [hv, hsrc]) h

/-- Settles O48: a fill and a delivery by what the fill port writes (fillPut_mem), a refusal by its contexts. -/
theorem piecesLand : Obligations.PiecesLand := by
  unfold Obligations.PiecesLand
  intro s n p hp hs
  refine ⟨fun c hk hst hd hc hu hsyn => ?fill, fun hd hh hr hsole => ?delivery, fun hk hst => ?refusal⟩
  case fill =>
    obtain ⟨fill, hexec⟩ := exec_fillArrival_read hp hs hk hst hd hc hu
    have hsynd : (pieceDone (dropPiece s n) p).synd = [] := (pieceDone_synd ..).trans hsyn
    refine ⟨_, hexec, ?_, holdsBytes_memPut ?_⟩
    · rw [← findPiece_dropPiece s n]
      exact findPiece_congr (congrArg NetState.pieces (pieceDone_net (dropPiece s n) p)) n
    · rw [fillPut_mem _ _ _ _ _ _ hsynd, pieceDone_mem, dropPiece_mem]
  case delivery =>
    have hkeep : ∀ t, arrivalKeep t p (receivers s p) = fun _ => true := fun t => arrivalKeep_sole t p hsole
    have hbad : ∀ keep, landingBad (leftFabric s p) p keep = landingBad s p keep := landingBad_congr (sources_leftFabric s p) p
    refine ⟨_, exec_deliveryLanding hp hs hd hh hr, ?_, fun hdecl hcodes hsyn => ?_, fun hfails => ?_⟩
    · have hnet := (landDelivery_net (leftFabric s p) p (receivers s p)).trans (leftFabric_net s p)
      rw [findPiece_congr (congrArg NetState.pieces hnet), id_of_findPiece hp, findPiece_dropPiece]
    · rw [hkeep] at hdecl
      have hsynd : (leftFabric s p).synd = [] := (leftFabric_synd s p).trans hsyn
      refine holdsBytes_memPut ?_
      rw [landDelivery_lands (by rw [hkeep, hdecl]) (by rw [hbad, landingBad_none hcodes]), hkeep, fillPut_mem _ _ _ _ _ _ hsynd,
        leftFabric_mem]
    · rw [landDelivery_discarded (by rw [hbad, hkeep, ← hkeep s]; exact hfails), leftFabric_mem]
  case refusal =>
    obtain ⟨cmd, hexec⟩ := exec_targetRefusal hp hk hst
    refine ⟨_, hexec, findPiece_dropPiece s n, rfl, fun d hd hv hsrc => ?_⟩
    obtain ⟨c, hc, hcsrc, hf⟩ := fatal_updSrc_refused (dropPiece s n) p cmd hd hv hsrc
    cases hcf : c.fatal with
    | none => exact ⟨_, by rw [hf, hcf]; rfl, fun _ => ⟨rfl, rfl, rfl⟩⟩
    | some x => exact ⟨x, by rw [hf, hcf]; rfl, fun hnone => absurd (hnone c hc hcsrc) (by simp [hcf])⟩

end Sys2Proof.Proofs
end

section
/-! PROOF. Atomic operations at their homes (O49). -/

namespace Sys2Proof.Proofs

open Sys2Proof.Machine
open Sys2Proof.Laws

/-! ## Elements (R278) -/

/-- R278: MIN keeps the smaller of the two integers. -/
theorem intDecode_atomElem_min (f old x : Nat) : intDecode f (atomElem 1 f old x) = min (intDecode f old) (intDecode f x) := by
  show intDecode f (if intDecode f x < intDecode f old then x else old) = _
  split
  · rw [min_eq_right (by omega)]
  · rw [min_eq_left (by omega)]

/-- R278: MAX keeps the larger of the two integers. -/
theorem intDecode_atomElem_max (f old x : Nat) : intDecode f (atomElem 2 f old x) = max (intDecode f old) (intDecode f x) := by
  show intDecode f (if intDecode f x > intDecode f old then x else old) = _
  split
  · rw [max_eq_right (by omega)]
  · rw [max_eq_left (by omega)]

/-! ## The granule in force (R125, R126) -/

/-- R125: m home bytes from an address on, with every placed entry. -/
def latestBytes (u : State) (a m : Nat) : List Byte := (List.range m).map fun i => readLatest u (a + i)

theorem take_latestBytes (u : State) (a : Nat) {n m : Nat} (h : n ≤ m) : (latestBytes u a m).take n = latestBytes u a n := by
  rw [latestBytes, ← List.map_take, List.take_range, min_eq_left h, latestBytes]

theorem drop_latestBytes (u : State) (a n m : Nat) : (latestBytes u a m).drop n = latestBytes u (a + n) (m - n) := by
  refine List.ext_getElem (by simp [latestBytes]) fun i _ _ => ?_
  simp [latestBytes, Nat.add_assoc]

/-- R126: the entry that an atomic places: its granule, with the operand combined into its own bytes. -/
def atomEntry (u : State) (p : Piece) (k : Nat) (op : Fin 8) (f : Nat) (cmp : List Byte) : HEntry where
  src := p.src
  unit := ((srcCtx u p.src).map (·.gunit)).getD hostUnit
  phase := p.phase
  atom := true
  key := k / 64 * 64
  bytes := latestBytes u (k / 64 * 64) (k % 64) ++ atomBytes op f (latestBytes u k p.len) p.data cmp ++
    latestBytes u (k + p.len) (64 - k % 64 - p.len)

/-- R125: a machine with one more entry in the home order. -/
def withEntry (u : State) (e : HEntry) : State :=
  { u with fresh := u.fresh + 1, net := { u.net with hist := e :: u.net.hist } }

/-- R126, R278: where the piece is left: on its way back with the old bytes, or complete. -/
def atomAnswered (u : State) (p : Piece) (old : List Byte) : Bool → State
  | true => updPiece u p.id fun q => { q with data := old, state := .atHome, due := u.cycle + 1 + Config.fabricDelay u.fresh }
  | false => pieceDone (dropPiece u p.id) p

/-- R126, R278: an atomic whose codes hold, on bytes of one granule, places its entry and is answered. -/
theorem performAtom_eq {s : State} {p : Piece} {k : Nat} (h : Nat) (op : Fin 8) (f : Nat) (cmp : List Byte) (ret : Bool)
    (hcodes : ∀ x ∈ p.syn ++ homeSyn s k p.len, x = 0) (hfit : k % 64 + p.len ≤ 64) :
    let u := expandPage (enterService s p) p.comp h p.va.toNat k p.len
    performAtom s p h k op f cmp ret = atomAnswered (withEntry u (atomEntry u p k op f cmp)) p (latestBytes u k p.len) ret := by
  intro u
  have hgood : ¬((p.syn ++ homeSyn s k p.len).any (· != 0)) = true := by
    rw [List.any_eq_true]
    rintro ⟨x, hx, hne⟩
    simp [hcodes x hx] at hne
  have hoff : k - k / 64 * 64 = k % 64 := by omega
  have hold : ((latestBytes u (k / 64 * 64) 64).drop (k % 64)).take p.len = latestBytes u k p.len := by
    rw [drop_latestBytes, take_latestBytes u _ (by omega), Nat.div_add_mod']
  have hrest : (latestBytes u (k / 64 * 64) 64).drop (k % 64 + p.len) = latestBytes u (k + p.len) (64 - k % 64 - p.len) := by
    rw [drop_latestBytes, ← Nat.add_assoc, Nat.div_add_mod', Nat.sub_sub]
  rw [performAtom, if_neg hgood, atomEntry, ← hrest, ← take_latestBytes u (k / 64 * 64) (show k % 64 ≤ 64 by omega), ← hold, ← hoff]
  cases ret <;> rfl

/-! ## The step -/

theorem setEntry_cycle (s : State) (va : Nat) (f : Word → Word) : (setEntry s va f).cycle = s.cycle := by
  unfold setEntry
  split <;> rfl

theorem expandPage_cycle (s : State) (form h va k n : Nat) : (expandPage s form h va k n).cycle = s.cycle := by
  unfold expandPage
  split
  · rfl
  · dsimp only
    split_ifs
    · rfl
    · exact setEntry_cycle ..
    · rfl

theorem exec_atomAtHome {s : State} {n h k f : Nat} {p : Piece} {op : Fin 8} {cmp : List Byte} {ret : Bool}
    (hp : findPiece s n = some p) (hk : p.kind = .atom op f cmp ret) (ha : arrived s p = true) (hr : atomReady s p = true)
    (hg : gateOf s p = .go h k) : exec (.atomAtHome n) s = .next (performAtom s p h k op f cmp ret) := by
  show execAtomAtHome n s = _
  simp only [execAtomAtHome, hp, hk, ha, hr, hg, Bool.not_true, Bool.false_eq_true, or_self, if_false]

section
variable (u : State) (p : Piece) (old : List Byte) (ret : Bool)

theorem atomAnswered_hist : (atomAnswered u p old ret).net.hist = u.net.hist := by
  cases ret
  · rw [atomAnswered, pieceDone_net]
    rfl
  · rfl

theorem atomAnswered_mem : (atomAnswered u p old ret).mem = u.mem := by
  cases ret
  · exact pieceDone_mem ..
  · rfl

end

/-- R126: without return the piece has left the fabric. -/
theorem findPiece_atomAnswered_false (u : State) (p : Piece) (old : List Byte) :
    findPiece (atomAnswered u p old false) p.id = none := by
  rw [atomAnswered, findPiece_congr (congrArg NetState.pieces (pieceDone_net ..)), findPiece_dropPiece]

/-- Settles O49: an atomic in its turn places one entry (performAtom_eq), and its answer leaves the home order. -/
theorem atomicsAtHome : Obligations.AtomicsAtHome := by
  unfold Obligations.AtomicsAtHome
  refine ⟨?step, fun f old x => ?_, fun f old x cmp => rfl⟩
  case step =>
    intro s n h k f p op cmp ret hp hk ha hr hg hcodes hfit u bytes old
    have hpieces : u.net.pieces = s.net.pieces := (expandPage_net ..).1.trans (enterService_net s p).1
    have hcycle : u.cycle = (enterService s p).cycle := expandPage_cycle ..
    refine ⟨_, atomEntry u p k op f cmp,
      (exec_atomAtHome hp hk ha hr hg).trans (congrArg _ (performAtom_eq h op f cmp ret hcodes hfit)),
      atomAnswered_hist .., rfl, rfl, rfl, rfl, atomAnswered_mem .., fun hret => ?_, fun hret => ?_⟩
    · subst hret
      refine ⟨_, findPiece_updated hp hpieces fun _ => rfl, rfl, rfl, ?_⟩
      exact hcycle ▸ cycle_lt_back s p _
    · subst hret
      exact id_of_findPiece hp ▸ findPiece_atomAnswered_false ..
  exact ⟨rfl, intDecode_atomElem_min f old x, intDecode_atomElem_max f old x, rfl, rfl, rfl, rfl⟩

end Sys2Proof.Proofs
end

section
/-! PROOF. A publication and the home order (O50). -/

namespace Sys2Proof.Proofs

open Sys2Proof.Machine
open Sys2Proof.Laws

/-! ## Order by insertion -/

theorem insertBy_eq_orderedInsert {α : Type} (le : α → α → Bool) (x : α) (l : List α) :
    insertBy le x l = l.orderedInsert (fun a b => le a b = true) x := by
  induction l with
  | nil => rfl
  | cons y l ih => rw [insertBy, ih, List.orderedInsert_cons]

/-- A list in order holds the elements of the list. -/
theorem mem_sortBy {α : Type} {le : α → α → Bool} {x : α} {l : List α} : x ∈ sortBy le l ↔ x ∈ l := by
  have hsort : sortBy le l = l.insertionSort fun a b => le a b = true :=
    congrArg (fun g => l.foldr g []) (funext fun x => funext (insertBy_eq_orderedInsert le x))
  rw [hsort, List.mem_insertionSort]

/-! ## The writes of a publication (R117, R125) -/

/-- R125: the plain writes of a source's phases up to n that stand at their homes, in the order of their issue. -/
def heldWrites (s : State) (src n : Nat) : List Piece :=
  sortBy (fun p q => p.seq ≤ q.seq) (s.net.pieces.filter fun p => p.src == src && p.phase ≤ n &&
    p.state == .atHome && (match p.kind with | .write => true | _ => false))

theorem mem_heldWrites {s : State} {src n : Nat} {p : Piece} (hp : p ∈ s.net.pieces) (hk : p.kind = .write) (hsrc : p.src = src)
    (hn : p.phase ≤ n) (hst : p.state = .atHome) : p ∈ heldWrites s src n :=
  mem_sortBy.mpr (List.mem_filter.mpr ⟨hp, by simp [hk, hsrc, hn, hst]⟩)

/-- R125: the entry of a plain write. -/
def writeEntry (unit : Nat) (p : Piece) : HEntry := ⟨p.src, unit, p.phase, false, p.key, p.data⟩

/-- R125: the writes enter the home order and leave the fabric, and nothing else of the network changes. -/
theorem placeWrites_net (s : State) (src unit n : Nat) : (placeWrites s src unit n).net = { s.net with
    hist := ((heldWrites s src n).map (writeEntry unit)).reverse ++ s.net.hist
    pieces := s.net.pieces.filter fun p => !((heldWrites s src n).any fun q => q.id == p.id) } := by
  have hsyn : ((heldWrites s src n).foldl (fun s p => putHomeSyn s p.key p.len p.syn) s).net = s.net :=
    foldl_keeps State.net (g := fun s (p : Piece) => putHomeSyn s p.key p.len p.syn) (fun _ _ => rfl) _ s
  have hhist : (heldWrites s src n).foldl (fun h p => writeEntry unit p :: h) s.net.hist =
      ((heldWrites s src n).map (writeEntry unit)).reverse ++ s.net.hist := List.foldl_flip_cons_eq_append ..
  rw [← hhist, ← hsyn]
  rfl

/-! ## The step -/

/-- R117, R118: the next closed phase of a context is published. -/
def publishedNext (n : Nat) (x : Ctx) : Ctx := { x with pubd := n + 1, closing := x.closing.drop 1 }

/-- R117, R118, R125: the machine when a publication has completed and its deliveries are not yet under way. -/
def published (s : State) (src unit n sc : Nat) : State :=
  let t := placeWrites s src unit n
  updSrc { t with net := { t.net with pubs := t.net.pubs ++ [⟨src, unit, n, sc⟩] } } src (publishedNext n)

/-- R124: the landing of a delivery is due. -/
def postLanding (s : State) (p : Piece) : State := post s (.deliveryLanding p.id)

/-- R124: the deliveries that may follow are put on the agenda. -/
def postLandings (s : State) (ps : List Piece) : State := ps.foldl postLanding s

theorem exec_publicationCompletion {s : State} {src n sc : Nat} {c : Ctx} (hc : srcCtx s src = some c)
    (hr : pubReady s c = some (n, sc)) :
    ∃ ps, exec (.publicationCompletion src) s = .next (postLandings (published s src c.gunit n sc) ps) := by
  show ∃ ps, execPublicationCompletion src s = _
  simp only [execPublicationCompletion, hc, hr]
  exact ⟨_, rfl⟩

/-- R117, R118: every context of a source is changed. -/
theorem pubd_updSrc_publishedNext {s : State} {src n : Nat} {d : Ctx} (hd : d ∈ allCtx (updSrc s src (publishedNext n)))
    (hv : d.status ≠ .vacant) (hsrc : d.src = src) : d.pubd = n + 1 := by
  rw [updSrc, allCtx_mapCtx] at hd
  obtain ⟨c, -, rfl⟩ := List.mem_map.mp hd
  split at hv
  · rename_i h
    rw [if_pos h]
    rfl
  · rename_i h
    rw [if_neg h] at hsrc
    exact absurd (by simp [hv, hsrc]) h

section
variable (s : State) (ps : List Piece)

theorem postLandings_net : (postLandings s ps).net = s.net := foldl_keeps State.net (g := postLanding) (fun _ _ => rfl) ps s

theorem postLandings_mem : (postLandings s ps).mem = s.mem := foldl_keeps State.mem (g := postLanding) (fun _ _ => rfl) ps s

theorem allCtx_postLandings : allCtx (postLandings s ps) = allCtx s := foldl_keeps allCtx (g := postLanding) (fun _ _ => rfl) ps s

end

/-- R117, R118, R125: the network when a publication has completed. -/
theorem published_net (s : State) (src unit n sc : Nat) : (published s src unit n sc).net = { s.net with
    hist := ((heldWrites s src n).map (writeEntry unit)).reverse ++ s.net.hist
    pieces := s.net.pieces.filter fun p => !((heldWrites s src n).any fun q => q.id == p.id)
    pubs := s.net.pubs ++ [⟨src, unit, n, sc⟩] } := by
  simp only [published, updSrc, mapCtx, placeWrites_net]

/-- Settles O50: the network by published_net, the contexts by pubd_updSrc_publishedNext; a placed write leaves by its number. -/
theorem publicationCompletes : Obligations.PublicationCompletes := by
  unfold Obligations.PublicationCompletes
  intro s src n sc c hc hr
  obtain ⟨ps, hexec⟩ := exec_publicationCompletion hc hr
  have hnet := (postLandings_net (published s src c.gunit n sc) ps).trans (published_net s src c.gunit n sc)
  refine ⟨_, hexec, by rw [hnet], ?_, fun d hd => ?_, fun p hp hk hsrc hn hst => ?_, fun e he => ?_⟩
  · rw [postLandings_mem]
    exact placeWrites_mem s src c.gunit n
  · rw [allCtx_postLandings] at hd
    exact pubd_updSrc_publishedNext hd
  · have hheld := mem_heldWrites hp hk hsrc hn hst
    rw [hnet]
    refine ⟨List.mem_append_left _ (List.mem_reverse.mpr (List.mem_map.mpr ⟨p, hheld, by rw [writeEntry, hsrc]⟩)), fun hleft => ?_⟩
    have hnot := (List.mem_filter.mp hleft).2
    rw [List.any_eq_true.mpr ⟨p, hheld, beq_self_eq_true p.id⟩] at hnot
    cases hnot
  · rw [hnet]
    exact List.mem_append_right _ he

end Sys2Proof.Proofs
end

section
/-! PROOF. The words of the syllables: how far an operation's bits reach, and the way back from every word (O27, O28). -/

namespace Sys2Proof.Proofs

open Sys2Proof.Laws

/-! ## How far a word's bits reach (R148 to R154) -/

/-- R137: the bits of an operation lie below the stop bit. -/
theorem opBits_lt (i : Instr) : opBits i < 2 ^ 31 := by
  cases i <;> simp only [opBits, Bool.toNat, Bool.cond_eq_ite] <;> (repeat' split) <;> omega

/-- R149 to R154: above the bits of an operation that has a guard a word has room for its shared fields. -/
theorem opBits_lt_shared {i : Instr} (hs : format i ≠ .scalar) (hp : format i ≠ .pfx) : opBits i < 2 ^ 31 - 2 ^ 26 := by
  cases i <;> simp only [format, ne_eq, not_true_eq_false] at hs hp <;>
    simp only [opBits, Bool.toNat, Bool.cond_eq_ite] <;> (repeat' split) <;> omega

theorem encode_lt {y : Syl} (h : wellFormed y = true) : encode y < 2 ^ 32 := by
  obtain ⟨st, p, ng, sw, tm, b, i⟩ := y
  have hi := opBits_lt i
  have hst := b2n_lt st
  have hng := b2n_lt ng
  have hsw := b2n_lt sw
  have htm := b2n_lt tm
  simp only [encode]
  cases hf : format i with
  | scalar =>
    obtain ⟨-, rfl, rfl, rfl, rfl, rfl⟩ := wf_scalar hf h
    simp only [show b2n false = 0 from rfl, Fin.val_zero]
    omega
  | pfx =>
    obtain ⟨-, rfl, rfl, rfl, rfl, rfl, rfl⟩ := wf_pfx hf h
    simp only [show b2n false = 0 from rfl, Fin.val_zero]
    omega
  | none => simp [wellFormed, hf] at h
  | guarded | untimed | timed =>
    have hi := opBits_lt_shared (i := i) (by simp [hf]) (by simp [hf])
    omega

/-! ## The way back (R137, R138, R144, R148 to R154) -/

section
open Sys2Proof.Laws.RoundTrip

/-- Every syllable's word decodes to it: the family RoundTrip, operation by operation; an event has no word. -/
theorem roundTrip (i : Instr) : Statement i := by
  cases i with
  | add d a b => exact add d a b | sub d a b => exact sub d a b | addw d a b => exact addw d a b
  | subw d a b => exact subw d a b | and d a b => exact and d a b | or d a b => exact or d a b
  | xor d a b => exact xor d a b | andn d a b => exact andn d a b | orn d a b => exact orn d a b
  | shl d a b => exact shl d a b | shr d a b => exact shr d a b | sar d a b => exact sar d a b
  | rotl d a b => exact rotl d a b | min d a b => exact min d a b | max d a b => exact max d a b
  | minn d a b => exact minn d a b | maxn d a b => exact maxn d a b | sextB d a => exact sextB d a
  | sextH d a => exact sextH d a | sextW d a => exact sextW d a | zextB d a => exact zextB d a
  | zextH d a => exact zextH d a | zextW d a => exact zextW d a | addi d a im => exact addi d a im
  | andi d a im => exact andi d a im | ori d a im => exact ori d a im | xori d a im => exact xori d a im
  | shli d a n => exact shli d a n | shri d a n => exact shri d a n | sari d a n => exact sari d a n
  | rotli d a n => exact rotli d a n | movi d h im => exact movi d h im | movk d h im => exact movk d h im
  | cmpeq pd a b => exact cmpeq pd a b | cmpne pd a b => exact cmpne pd a b | cmplt pd a b => exact cmplt pd a b
  | cmple pd a b => exact cmple pd a b | cmpltn pd a b => exact cmpltn pd a b | cmplen pd a b => exact cmplen pd a b
  | cmpeqi pd a im => exact cmpeqi pd a im | cmpnei pd a im => exact cmpnei pd a im
  | cmplti pd a im => exact cmplti pd a im | cmpltni pd a im => exact cmpltni pd a im | pand d a b => exact pand d a b
  | por d a b => exact por d a b | pxor d a b => exact pxor d a b | pandn d a b => exact pandn d a b
  | psetFalse d => exact psetFalse d | psetTrue d => exact psetTrue d | pmovPred d a => exact pmovPred d a
  | pmovFromReg d a => exact pmovFromReg d a | sel d a b k => exact sel d a b k | pmovToReg d a => exact pmovToReg d a
  | fadd d a b f m => exact fadd d a b f m | fsub d a b f m => exact fsub d a b f m
  | fmul d a b f m => exact fmul d a b f m | ffma d a b f m => exact ffma d a b f m
  | ffms d a b f m => exact ffms d a b f m | fdiv d a b f m => exact fdiv d a b f m | fsqrt d a f m => exact fsqrt d a f m
  | fmin d a b f => exact fmin d a b f | fmax d a b f => exact fmax d a b f | fcmpeq pd a b f => exact fcmpeq pd a b f
  | fcmplt pd a b f => exact fcmplt pd a b f | fcmple pd a b f => exact fcmple pd a b f
  | fcmpun pd a b f => exact fcmpun pd a b f | fclass d a f => exact fclass d a f
  | fcvtFloat d a f m => exact fcvtFloat d a f m | fcvtToI64 d a f m => exact fcvtToI64 d a f m
  | fcvtToN64 d a f m => exact fcvtToN64 d a f m | fcvtToI32 d a f m => exact fcvtToI32 d a f m
  | fcvtToN32 d a f m => exact fcvtToN32 d a f m | fcvtFromI64 d a f m => exact fcvtFromI64 d a f m
  | fcvtFromN64 d a f m => exact fcvtFromN64 d a f m | fcvtFromI32 d a f m => exact fcvtFromI32 d a f m
  | fcvtFromN32 d a f m => exact fcvtFromN32 d a f m | clz d a => exact clz d a | ctz d a => exact ctz d a
  | popc d a => exact popc d a | brev d a => exact brev d a | fns d a b => exact fns d a b | bfx d a b => exact bfx d a b
  | bfxn d a b => exact bfxn d a b | bfi d a b => exact bfi d a b | fshl d a b => exact fshl d a b
  | fshr d a b => exact fshr d a b | mul d a b => exact mul d a b | mulh d a b => exact mulh d a b
  | mulhn d a b => exact mulhn d a b | div d a b => exact div d a b | divn d a b => exact divn d a b
  | rem d a b => exact rem d a b | remn d a b => exact remn d a b | ldB v b im o => exact ldB v b im o
  | ldBn v b im o => exact ldBn v b im o | ldH v b im o => exact ldH v b im o | ldHn v b im o => exact ldHn v b im o
  | ldW v b im o => exact ldW v b im o | ldWn v b im o => exact ldWn v b im o | ldD v b im o => exact ldD v b im o
  | stB v b im o => exact stB v b im o | stH v b im o => exact stH v b im o | stW v b im o => exact stW v b im o
  | stD v b im o => exact stD v b im o | stq q b im o => exact stq q b im o | shw v e r f => exact shw v e r f
  | shg v e r f h => exact shg v e r f h | ctlr v c => exact ctlr v c | ctlrQ q c => exact ctlrQ q c
  | ctlw v c => exact ctlw v c | br d => exact br d | brcNz c d => exact brcNz c d | brcZ c d => exact brcZ c d
  | call d => exact call d | jmp a => exact jmp a | loop l c e => exact loop l c e | loopi l k e => exact loopi l k e
  | lstr l k e r g => exact lstr l k e r g | trap im => exact trap im | svc im => exact svc im | lbrk l => exact lbrk l
  | waittAbs a => exact waittAbs a | waittRel n => exact waittRel n | waitp k => exact waitp k | bar l => exact bar l
  | pfx sc opv op fst lst lv => exact pfx sc opv op fst lst lv | vadd x => exact vadd x | vaddS a x => exact vaddS a x
  | vsub x => exact vsub x | vsubS a x => exact vsubS a x | vmul x => exact vmul x | vmulS a x => exact vmulS a x
  | vmulhS a => exact vmulhS a | vfma x => exact vfma x | vfmaS a x => exact vfmaS a x | vfms x => exact vfms x
  | vfmsS a x => exact vfmsS a x | vminS a => exact vminS a | vmaxS a => exact vmaxS a | vabs x => exact vabs x
  | vneg x => exact vneg x | vdiv x => exact vdiv x | vdivS a x => exact vdivS a x | vsqrt x => exact vsqrt x
  | vfill a => exact vfill a | vandS a => exact vandS a | vorS a => exact vorS a | vxorS a => exact vxorS a
  | vandnS a => exact vandnS a | vshlS a => exact vshlS a | vshrS a => exact vshrS a | vsarS a => exact vsarS a
  | vcmp r => exact vcmp r | vcmpS a r => exact vcmpS a r | vselS a => exact vselS a | vfnsS a => exact vfnsS a
  | vbfxS a => exact vbfxS a | vbfiS a => exact vbfiS a | vfshLS a => exact vfshLS a | vfshRS a => exact vfshRS a
  | vcvt x => exact vcvt x | vsplit a => exact vsplit a | vredsumAll x => exact vredsumAll x
  | vredsumRow x => exact vredsumRow x | vredsumCol x => exact vredsumCol x | vargmaxAll a => exact vargmaxAll a
  | vargmaxRow a => exact vargmaxRow a | vargmaxCol a => exact vargmaxCol a | vscan x => exact vscan x
  | vpush a => exact vpush a | vpop a b => exact vpop a b | vqcnt a b => exact vqcnt a b | vchain a c => exact vchain a c
  | accn a x => exact accn a x | accx a b => exact accx a b | accst a => exact accst a | accld a => exact accld a
  | cpg a k => exact cpg a k | cpgX a k => exact cpgX a k | cps a k => exact cps a k | cpsX a k => exact cpsX a k
  | cpy a b k => exact cpy a b k | wmap a k => exact wmap a k | wfill g k => exact wfill g k | wback g k => exact wback g k
  | wunmap g k => exact wunmap g k | probeR a b => exact probeR a b | probeW a b => exact probeW a b
  | atomAdd a k => exact atomAdd a k | atomMin a k => exact atomMin a k | atomMax a k => exact atomMax a k
  | atomAnd a k => exact atomAnd a k | atomOr a k => exact atomOr a k | atomXor a k => exact atomXor a k
  | atomXchg a k => exact atomXchg a k | atomCas a k => exact atomCas a k | atomAddNr a k => exact atomAddNr a k
  | atomMinNr a k => exact atomMinNr a k | atomMaxNr a k => exact atomMaxNr a k | atomAndNr a k => exact atomAndNr a k
  | atomOrNr a k => exact atomOrNr a k | atomXorNr a k => exact atomXorNr a k | atomXchgNr a k => exact atomXchgNr a k
  | atomCasNr a k => exact atomCasNr a k | mcast k => exact mcast k | collSum a k => exact collSum a k
  | collMax a k => exact collMax a k | collArgmax a k => exact collArgmax a k | collBcast a k => exact collBcast a k
  | qlnch a b => exact qlnch a b | wdepth a b => exact wdepth a b | wrbk a b => exact wrbk a b
  | wtake a b => exact wtake a b | wjudge a b => exact wjudge a b | wfinal a b => exact wfinal a b
  | wstat a b => exact wstat a b | ftset a => exact ftset a | scld a b h t => exact scld a b h t
  | chset a b j => exact chset a b j | decl a => exact decl a | pwra a => exact pwra a | qinit a b => exact qinit a b
  | lnputCw a b l => exact lnputCw a b l | lnputAw a b l => exact lnputAw a b l | lntapCw a b l => exact lntapCw a b l
  | lntapAw a b l => exact lntapAw a b l | nop => exact nop | rte => exact rte | endTask => exact endTask
  | yld => exact yld | halt => exact halt | phaseP => exact phaseP | phaseA => exact phaseA | phasePa => exact phasePa
  | vmulh => exact vmulh | vmin => exact vmin | vmax => exact vmax | vmov => exact vmov | vand => exact vand
  | vor => exact vor | vxor => exact vxor | vandn => exact vandn | vnot => exact vnot | vshl => exact vshl
  | vshr => exact vshr | vsar => exact vsar | vsel => exact vsel | vpopc => exact vpopc | vclz => exact vclz
  | vbrev => exact vbrev | vfns => exact vfns | vbfx => exact vbfx | vbfi => exact vbfi | vfshL => exact vfshL
  | vfshR => exact vfshR | vexp2 => exact vexp2 | vlog2 => exact vlog2 | vrcp => exact vrcp | vrsqrt => exact vrsqrt
  | vredmaxAll => exact vredmaxAll | vredmaxRow => exact vredmaxRow | vredmaxCol => exact vredmaxCol
  | vredminAll => exact vredminAll | vredminRow => exact vredminRow | vredminCol => exact vredminCol | vgath => exact vgath
  | vscat => exact vscat | vtran => exact vtran | mma => exact mma | mmaZ => exact mmaZ | mmas => exact mmas
  | mmasZ => exact mmasZ | accz => exact accz | wprop => exact wprop | pwrr => exact pwrr
  | _ => exact fun _ _ _ _ _ _ h => nomatch (show false = true from h)

end

/-- Settles O28: the word's size is encode_lt, the way back roundTrip. -/
theorem decodeOfEncode : Obligations.DecodeOfEncode := by
  unfold Obligations.DecodeOfEncode
  intro y h
  exact ⟨encode_lt h, roundTrip y.op y.stop y.ng y.sw y.tm y.p y.b h⟩

/-- Settles O27: each word by evaluation. -/
theorem decodeWords : Obligations.DecodeWords := by
  unfold Obligations.DecodeWords
  simp only [List.forall_mem_cons, List.not_mem_nil, false_imp_iff, implies_true, and_true]
  decide

end Sys2Proof.Proofs
end

section
/-! PROOF. Engine instructions by their forms (O37), and syllables of every class that do not act (O10). -/

namespace Sys2Proof.Proofs

open Sys2Proof.Machine
open Sys2Proof.Laws

/-! ## Which instructions are engine instructions (R214, R243, R263) -/

/-- R259, R373: the moves of a whole accumulator that a trap handler makes itself. -/
def handlerMove (s : State) : Instr → Bool
  | .accst _ | .accld _ => decide (s.ctx.status = .handler)
  | _ => false

/-- Every V, X and C instruction has its form, but for a handler's own moves, and no other instruction has one. -/
theorem engineForm_isSome (s : State) (i : Instr) : (engineForm s i).isSome =
    (decide (format i = .timed ∨ format i = .untimed) && !handlerMove s i) := by
  cases i with
  | accst a | accld a =>
    by_cases h : s.ctx.status = .handler
    · simp only [engineForm, xForm, handlerMove, h, if_true, decide_true]
      rfl
    · simp only [engineForm, xForm, handlerMove, h, if_false, decide_false]
      rfl
  | _ => rfl

theorem handlerMove_iff (s : State) (i : Instr) :
    handlerMove s i = true ↔ s.ctx.status = .handler ∧ ∃ a, i = .accst a ∨ i = .accld a := by
  unfold handlerMove
  split <;> simp_all

/-- Settles O37: the forms cover the formats of V, X and C (engineForm_isSome), and each issue is the operation on its form. -/
theorem engineInstructionsIssue : Obligations.EngineInstructionsIssue := by
  unfold Obligations.EngineInstructionsIssue
  intro s i
  have hform := engineForm_isSome s i
  refine ⟨fun h => ?_, fun h => ?_, fun f hf => ⟨fun hr => ?_, fun x ha hx => ?_⟩⟩
  · simp only [h, Bool.true_eq, Bool.and_eq_true, decide_eq_true_eq] at hform
    exact hform.1
  · rw [← handlerMove_iff, hform, decide_eq_true h]
    cases handlerMove s i <;> simp
  · rw [engineForm_exec s i f hf, engineOp_runs s f hr]
  · rw [engineForm_exec s i f hf, engineOp_trap s f x ha hx]

/-! ## The shared operation of each class when its syllable does not act (R164, R165) -/

section
variable {s : State} (ha : acts s = false)
include ha

theorem mOp_idle (chk : Option Trap) (eff : State → State) : mOp s chk eff = .next (idle s) := by simp [mOp, ha]

theorem bOp_idle (chk : Option Trap) (eff : State → State) : bOp s chk eff = .next (idle s) := by simp [bOp, ha]

theorem qOp_idle (chk : Option Trap) (eff : State → State) : qOp s chk eff = .next (idle s) := by simp [qOp, ha]

theorem loadOp_idle (v b : Fin 32) (inc : Fin 4) (o : BitVec 7) (size : Nat) (sg : Bool) :
    loadOp s v b inc o size sg = .next (baseUpdate (idle s) b inc o size false) := by simp [loadOp, ha]

theorem storeOp_idle (v : Word) (ns : List (Fin 32)) (b : Fin 32) (inc : Fin 4) (o : BitVec 7) (size : Nat) (quar : Bool) :
    storeOp s v ns b inc o size quar = .next (baseUpdate (idle s) b inc o size false) := by simp [storeOp, ha]

/-- R445: a syllable that does not act meets no fence. -/
theorem unfenced_idle (n : Nat) (run : Outcome State) : unfenced s n run = run := by simp [unfenced, ha]

/-- R294: a lane command that does not act holds no ring. -/
theorem laneOp_idle (put aw : Bool) (a b : Fin 32) (l : Fin 8) : laneOp s put aw a b l = .next (idle s) := by
  simp [laneOp, ha, qOp_idle ha]

theorem handlerImage_idle (a : Fin 32) (move : State → (tile at_ row : Nat) → State) :
    handlerImage s a move = .next (idle s) := by simp [handlerImage, ha]

end

/-- R142: the delay bundles of a branch that does not act. -/
def idleBranch (s : State) : State :=
  if s.ctx.iss.trapped = true then idle s else (idle s).up fun c => { c with dly := 2 }

theorem markDelay_idle {s : State} (ha : acts s = false) (chk : Option Trap) (eff : State → State) :
    markDelay (bOp s chk eff) = .next (idleBranch s) := by
  simp [bOp_idle ha, markDelay, idleBranch, idle]

/-! ## A syllable of each kind that does not act -/

/-- R150, R189: a load or a store that does not act still updates its base register. -/
theorem exec_access_idle {s : State} {i : Instr} (ha : acts s = false) {b : Fin 32} {inc : Fin 4} {o : BitVec 7} {size : Nat}
    (h : access i = some (b, inc, o, size)) : exec i s = .next (baseUpdate (idle s) b inc o size false) := by
  cases i with
  | ldB | ldBn | ldH | ldHn | ldW | ldWn | ldD => cases h; exact loadOp_idle ha ..
  | stB | stH | stW | stD | stq => cases h; exact storeOp_idle ha ..
  | _ => cases h

theorem exec_branch_idle {s : State} {i : Instr} (ha : acts s = false) (h : delays i = true) :
    exec i s = .next (idleBranch s) := by
  cases i with
  | br | brcNz | brcZ | call | jmp | rte | lbrk => exact markDelay_idle ha ..
  | _ => cases h

theorem exec_scalar_idle {s : State} {i : Instr} (ha : acts s = false) (hf : format i = .scalar) :
    exec i s = .next (idle s) := by
  have hna : ¬acts s = true := by simp [ha]
  cases i <;> simp only [format, reduceCtorEq] at hf <;> exact if_neg hna

theorem exec_guarded_idle {s : State} {i : Instr} (ha : acts s = false) (hf : format i = .guarded) (hm : access i = none)
    (hd : delays i = false) : exec i s = .next (idle s) := by
  have hna : ¬acts s = true := by simp [ha]
  cases i with
  | ctlr | ctlrQ | ctlw => exact (unfenced_idle ha ..).trans (mOp_idle ha ..)
  | lnputCw | lnputAw | lntapCw | lntapAw => exact laneOp_idle ha ..
  | br | brcNz | brcZ | call | jmp | rte | lbrk => cases hd
  | ldB | ldBn | ldH | ldHn | ldW | ldWn | ldD | stB | stH | stW | stD | stq => cases hm
  | _ => simp only [format, reduceCtorEq] at hf <;> exact if_neg hna

theorem exec_engine_idle {s : State} {i : Instr} (ha : acts s = false) (hf : format i = .timed ∨ format i = .untimed) :
    exec i s = .next (idle s) := by
  cases hm : handlerMove s i with
  | true =>
    obtain ⟨hs, a, rfl | rfl⟩ := (handlerMove_iff s i).mp hm
    · exact (if_pos hs).trans (handlerImage_idle ha a _)
    · exact (if_pos hs).trans (handlerImage_idle ha a _)
  | false =>
    have hsome := engineForm_isSome s i
    rw [hm, decide_eq_true hf] at hsome
    obtain ⟨f, h⟩ := Option.isSome_iff_exists.mp hsome
    rw [engineForm_exec s i f h, engineOp_idle s f ha]

/-! ## The statement (R164, R165) -/

theorem delays_of_access {i : Instr} {x : Fin 32 × Fin 4 × BitVec 7 × Nat} (h : access i = some x) : delays i = false := by
  cases i with
  | br | brcNz | brcZ | call | jmp | rte | lbrk => cases h
  | _ => rfl

/-- R142: the delay bundles of a branch, and nothing else. -/
theorem idleBranch_eq (s : State) : idleBranch s =
    (idle s).up fun c => { c with dly := if s.ctx.iss.trapped = false then 2 else c.dly } := by
  unfold idleBranch
  generalize idle s = u
  cases s.ctx.iss.trapped <;> rfl

/-- R189: the update of the base register, and nothing else. -/
theorem baseUpdate_idle_eq (s : State) (b : Fin 32) (inc : Fin 4) (o : BitVec 7) (size : Nat) :
    baseUpdate (idle s) b inc o size false = (idle s).up fun c => { c with latches := c.latches ++
      ((memBase (rdG s b) inc o size).map fun v => { newLatch s 1 (.g b) v 0 none with slot := 5 }).toList } := by
  have hb : rdG (idle s) b = rdG s b := charge_rdG s _ b
  have hl (v : Word) : newLatch (idle s) 1 (.g b) v 0 none = newLatch s 1 (.g b) v 0 none := charge_newLatch s _ 1 _ v 0 none
  simp only [baseUpdate, hb, hl, Bool.false_eq_true, if_false]
  generalize idle s = u
  cases memBase (rdG s b) inc o size with
  | none => simp only [Option.map_none, Option.toList_none, List.append_nil]; rfl
  | some v => rfl

/-- Settles O10: a load or a store, a branch, and every other syllable in turn; what is left is the charge of idle. -/
theorem syllableThatDoesNotAct : Obligations.SyllableThatDoesNotAct := by
  unfold Obligations.SyllableThatDoesNotAct
  intro s i ha hnone hpfx
  cases hm : access i with
  | some x =>
    obtain ⟨b, inc, o, size⟩ := x
    refine ⟨_, exec_access_idle ha hm, ?_⟩
    rw [baseUpdate_idle_eq]
    simp [sameStore, idle, delays_of_access hm]
  | none =>
    cases hd : delays i with
    | true =>
      refine ⟨_, exec_branch_idle ha hd, ?_⟩
      rw [idleBranch_eq]
      simp [sameStore, idle]
    | false =>
      refine ⟨idle s, ?_, ?_⟩
      · cases hf : format i with
        | none => exact absurd hf hnone
        | pfx => exact absurd hf hpfx
        | scalar => exact exec_scalar_idle ha hf
        | guarded => exact exec_guarded_idle ha hf hm hd
        | timed => exact exec_engine_idle ha (.inl hf)
        | untimed => exact exec_engine_idle ha (.inr hf)
      · simp [sameStore, idle]

end Sys2Proof.Proofs
end

section
/-! PROOF. Latches at a boundary: what one commit leaves of the registers, and what two leave (O11). -/

namespace Sys2Proof.Proofs

open Sys2Proof.Machine
open Sys2Proof.Laws

/-! ## One commit (R159, R336) -/

/-- R336: a destination is a general register, a predicate, a promise or a quarantined register. -/
theorem setDest_eq (s : State) (d : Dest) (v : Word) : ∃ g gsyn p pm q,
    setDest s d v = s.upR fun r => { r with g := g, gsyn := gsyn, p := p, pm := pm, q := q } := by
  cases d with
  | g n => by_cases hn : n = 0 <;> simp only [setDest, hn, if_true, if_false] <;> exact ⟨_, _, _, _, _, rfl⟩
  | p n => by_cases hn : n = 0 <;> simp only [setDest, hn, if_true, if_false] <;> exact ⟨_, _, _, _, _, rfl⟩
  | pm n => exact ⟨_, _, _, _, _, rfl⟩
  | q n => exact ⟨_, _, _, _, _, rfl⟩

theorem setDest_pm (s : State) (d : Dest) (v : Word) (n : Fin 8) :
    (setDest s d v).ctx.r.pm[n] = if d = .pm n then v.setWidth 48 else s.ctx.r.pm[n] := by
  cases d with
  | pm m =>
    by_cases he : m = n
    · subst he; simp [setDest]
    · simp only [Dest.pm.injEq, he, if_false]
      exact Vector.getElem_set_ne m.isLt n.isLt fun h => he (Fin.ext h)
  | g m => by_cases hm : m = 0 <;> simp [setDest, hm]
  | p m => by_cases hm : m = 0 <;> simp [setDest, hm]
  | q m => simp [setDest]

theorem setDest_q (s : State) (d : Dest) (v : Word) (n : Fin 4) :
    (setDest s d v).ctx.r.q[n] = if d = .q n then v else s.ctx.r.q[n] := by
  cases d with
  | q m =>
    by_cases he : m = n
    · subst he; simp [setDest]
    · simp only [Dest.q.injEq, he, if_false]
      exact Vector.getElem_set_ne m.isLt n.isLt fun h => he (Fin.ext h)
  | g m => by_cases hm : m = 0 <;> simp [setDest, hm]
  | p m => by_cases hm : m = 0 <;> simp [setDest, hm]
  | pm m => simp [setDest]

/-- R267: a promise that commits is registered with its command, and nothing else. -/
theorem registerPromise_eq (s : State) (l : Latch) :
    registerPromise s l = s.up fun c => { c with cq := (registerPromise s l).ctx.cq } := by
  unfold registerPromise
  split <;> rfl

/-- R159, R336: a commit changes its destination, FLG and the flags of its boundary, and registers a promise. -/
theorem commitLatch_eq (s : State) (l : Latch) : commitLatch s l = s.up fun c => { c with
    r := { (setDest s l.dest l.val).ctx.r with flg := s.ctx.r.flg ||| l.flags }
    cq := (registerPromise (setDest s l.dest l.val) l).ctx.cq
    flNow := c.flNow ||| l.flags } := by
  obtain ⟨g, gsyn, p, pm, q, hd⟩ := setDest_eq s l.dest l.val
  rw [commitLatch, registerPromise_eq]
  simp only [hd, orFlags, BitVec.ofNat_toNat, BitVec.setWidth_eq]
  rfl

theorem rdG_commitLatch (s : State) (l : Latch) (n : Fin 32) :
    rdG (commitLatch s l) n = if l.dest = .g n ∧ n ≠ 0 then l.val else rdG s n := by
  rw [← rdG_setDest, commitLatch_eq]
  rfl

theorem commitLatch_flg (s : State) (l : Latch) : (commitLatch s l).ctx.r.flg = s.ctx.r.flg ||| l.flags := by
  rw [commitLatch_eq]
  rfl

/-! ## Commits that raise nothing -/

/-- R65, R91: a latch whose result traps nothing and whose value has its code. -/
def Latch.clean (l : Latch) : Prop := l.bad = none ∧ l.syn = 0

theorem Latch.clean.raises {l : Latch} (h : Latch.clean l) (c : Ctx) : latchRaises c l = none := by
  obtain ⟨hb, hs⟩ := h
  simp [latchRaises, hb, hs]

/-- R160, R336: clean latches commit one after the other. -/
theorem commitEach_clean (ls : List Latch) (s : State) (tr : Option Trap) (h : ∀ l ∈ ls, Latch.clean l) :
    commitEach (ls.map Commit.latch) s tr = (ls.foldl commitLatch s, tr) := by
  induction ls generalizing s with
  | nil => rfl
  | cons l ls ih =>
    obtain ⟨hl, hls⟩ := List.forall_mem_cons.mp h
    simp only [List.map_cons, commitEach, commitOne, hl.raises, List.foldl_cons]
    exact ih _ hls

theorem orderLe_iff (x y : Nat × Nat) : orderLe x y = true ↔ x.1 < y.1 ∨ x.1 = y.1 ∧ x.2 ≤ y.2 := by simp [orderLe]

/-- R160: the latch that issued later commits later, whichever of the two comes first in the list. -/
theorem commitsAt_two {c : Ctx} {l m : Latch} {t : Nat} (hc : c.latches = [l, m] ∨ c.latches = [m, l]) (hu : c.uws = [])
    (hl : l.due ≤ t) (hm : m.due ≤ t) (ho : l.issue < m.issue ∨ l.issue = m.issue ∧ l.pos < m.pos) :
    commitsAt c t = [l, m].map Commit.latch := by
  have hlm : orderLe (Commit.order c (.latch l)) (Commit.order c (.latch m)) = true := by
    rw [orderLe_iff]
    simp only [Commit.order]
    omega
  have hml : orderLe (Commit.order c (.latch m)) (Commit.order c (.latch l)) = false := by
    rw [← Bool.not_eq_true, orderLe_iff]
    simp only [Commit.order]
    omega
  rcases hc with hc | hc
  · simp [commitsAt, hc, hu, hl, hm, sortBy, insertBy, hlm]
  · simp [commitsAt, hc, hu, hl, hm, sortBy, insertBy, hml]

/-! ## Latches that trap (R65, R91, R384) -/

/-- R384: of the trap of a result and the mismatch of its value the mismatch is taken. -/
theorem latchRaises_eq {c : Ctx} {l : Latch} {x : Trap}
    (h : l.bad = some x ∧ (l.syn = 0 ∨ x.cause = 0x16) ∨
      l.syn ≠ 0 ∧ (∀ y, l.bad = some y → y.cause ≠ 0x16) ∧ x = latchTrap c l) : latchRaises c l = some x := by
  rcases h with ⟨hb, hs⟩ | ⟨hs, hb, rfl⟩
  · rcases hs with hs | hs <;> simp [latchRaises, hb, hs]
  · have hall : (l.bad.all fun x => x.cause != 0x16) = true := by
      cases hy : l.bad with
      | none => rfl
      | some y => simpa using hb y hy
    simp only [latchRaises, hall, and_true, ne_eq, hs, not_false_eq_true, if_true]

/-- R65: a latch that traps writes no register but FLG. -/
theorem failLatch_r (s : State) (l : Latch) (x : Trap) :
    (failLatch s l x).ctx.r = { s.ctx.r with flg := (failLatch s l x).ctx.r.flg } := by
  unfold failLatch
  split <;> rfl

theorem failLatch_mem (s : State) (l : Latch) (x : Trap) : (failLatch s l x).mem = s.mem := by
  unfold failLatch
  split <;> rfl

/-! ## The statement -/

theorem exec_resultLatchCommit (s : State) : exec .resultLatchCommit s = .next (commitAll s s.ctx.now) := rfl

/-- Settles O11: one latch by commitLatch_eq and the lemmas on its destination, a trap by latchRaises_eq, two latches by
commitsAt_two. -/
theorem latchCommit : Obligations.LatchCommit := by
  unfold Obligations.LatchCommit
  refine ⟨fun s l hc hu hd hb hs => ?_, fun s l x hc hu hd hx => ?_, fun s l m n hn hl hm hdl hdm hbl hbm hsl hsm hu hc ho => ?_⟩
  · refine ⟨sortLatches (commitLatch (dueTaken s s.ctx.now) l), ?_, ?_⟩
    · rw [exec_resultLatchCommit, commitAll_one s l _ (commitsAt_one _ l _ hc hu hd) hb hs]
    · obtain ⟨g, gsyn, p, pm, q, hdest⟩ := setDest_eq (dueTaken s s.ctx.now) l.dest l.val
      refine ⟨?_, ?_, rdG_commitLatch _ l, fun n => ?_, fun n => ?_, fun n => ?_, commitLatch_flg _ l, ?_⟩
      · rw [commitLatch_eq]
        simp [sortLatches, hc, hd, sortBy]
      · rw [commitLatch_eq]
        exact ⟨rfl, rfl, rfl, rfl⟩
      · rw [commitLatch_eq]
        exact rdP_setDest (dueTaken s s.ctx.now) l.dest l.val n
      · rw [commitLatch_eq]
        exact setDest_pm (dueTaken s s.ctx.now) l.dest l.val n
      · rw [commitLatch_eq]
        exact setDest_q (dueTaken s s.ctx.now) l.dest l.val n
      · rw [commitLatch_eq, hdest]
        exact ⟨rfl, rfl, rfl, rfl, rfl, rfl, rfl, rfl⟩
  · refine ⟨sortLatches (failLatch (dueTaken s s.ctx.now) l x), ?_, ?_⟩
    · rw [exec_resultLatchCommit, commitAll_trap s l _ x (commitsAt_one _ l _ hc hu hd) (latchRaises_eq hx)]
    · rw [sortLatches_r, failLatch_r, dueTaken_r]
      exact ⟨rfl, rfl, rfl, rfl, failLatch_mem _ l x⟩
  · have hclean : ∀ k ∈ [l, m], Latch.clean k := by simp [Latch.clean, hbl, hbm, hsl, hsm]
    refine ⟨sortLatches (commitLatch (commitLatch (dueTaken s s.ctx.now) l) m), ?_, ?_, ?_, fun k hk => ?_⟩
    · rw [exec_resultLatchCommit, commitAll, commitsAt_two hc hu hdl hdm ho, commitEach_clean _ _ _ hclean]
      rfl
    · exact (rdG_commitLatch _ m n).trans (if_pos ⟨hm, hn⟩)
    · exact (commitLatch_flg _ m).trans (congrArg (· ||| m.flags) (commitLatch_flg _ l))
    · have hne : ¬n = k := fun h => hk h.symm
      refine (rdG_commitLatch _ m k).trans ?_
      rw [rdG_commitLatch, hl, hm]
      rw [if_neg fun h => hne (Dest.g.inj h.1), if_neg fun h => hne (Dest.g.inj h.1)]
      rfl

end Sys2Proof.Proofs
end

section
/-! PROOF. CTLR and CTLR.q: their issue, and what the registers of user state read as (O15). -/

namespace Sys2Proof.Proofs

open Sys2Proof.Machine
open Sys2Proof.Laws

/-! ## The issue (R161, R193, R195, R445) -/

/-- R193, R374: a control register read at +2; an access of FDAT moves FIDX on. -/
def controlRead (s : State) (n : Nat) (d : Dest) (x : Word) : State :=
  let t := putLatch (charge s (weight s 1)) { newLatch s 2 d x 0 none with slot := 5 }
  if n = 0xF01 then stepFidx t else t

/-- R195: in deterministic mode a marked register gives the value of the frame, or traps. -/
def detRead (s : State) (n : Nat) : Prop := s.ctx.hdr.det = true ∧ detMarked n = true

/-- R161, R374: FDAT is not marked, so a marked register meets no fence. -/
theorem heelFenced_of_detMarked (s : State) {n : Nat} (h : detMarked n = true) : heelFenced s n = false :=
  heelFenced_of_ne s (by rintro rfl; cases h)

theorem exec_ctlrQ {s : State} {c : BitVec 12} (ha : acts s = true) (hf : heelFenced s c.toNat = false) (q : Fin 4) :
    exec (.ctlrQ q c) s = .next (controlRead s c.toNat (.q q) (readCtl s c.toNat)) := by
  show execCtlrQ q c s = _
  simp only [execCtlrQ, unfenced_free hf, mOp_next ha, charge_newLatch]
  rfl

theorem exec_ctlr {s : State} {c : BitVec 12} (ha : acts s = true) (hf : heelFenced s c.toNat = false)
    (hd : ¬detRead s c.toNat) (v : Fin 32) :
    exec (.ctlr v c) s = .next (controlRead s c.toNat (.g v) (readCtl s c.toNat)) := by
  have hdet : (s.ctx.hdr.det && detMarked c.toNat) = false := by simpa [detRead] using hd
  show execCtlr v c s = _
  simp only [execCtlr, unfenced_free hf, hdet, Bool.false_and, Bool.false_eq_true, if_false, mOp_next ha, charge_newLatch]
  rfl

theorem exec_ctlr_supplied {s : State} {c : BitVec 12} (ha : acts s = true) (hd : detRead s c.toNat) {x : Word}
    (hx : s.ctx.detval = some x) (v : Fin 32) : exec (.ctlr v c) s = .next (controlRead s c.toNat (.g v) x) := by
  show execCtlr v c s = _
  simp only [execCtlr, unfenced_free (heelFenced_of_detMarked s hd.2), hd.1, hd.2, hx, Bool.and_self, Bool.and_false,
    Option.isNone_some, Option.getD_some, Bool.false_eq_true, if_false, if_true, mOp_next ha, charge_newLatch]
  rfl

theorem exec_ctlr_detRead {s : State} {c : BitVec 12} (ha : acts s = true) (hd : detRead s c.toNat)
    (hx : s.ctx.detval = none) (v : Fin 32) : exec (.ctlr v c) s = .next (takeTrap s
      (mkTrap s 0x13 (some (BitVec.ofNat 64 c.toNat)) (some (BitVec.ofNat 64 s.ctx.iss.pos)) none)) := by
  show execCtlr v c s = _
  simp only [execCtlr, unfenced_free (heelFenced_of_detMarked s hd.2), hd.1, hd.2, hx, Bool.and_self,
    Option.isNone_none, if_true, mOp_trap ha]

/-- R193: what a read leaves: one latch more, and FIDX. -/
theorem controlRead_leaves {s : State} {i : Instr} {n : Nat} {d : Dest} {x : Word}
    (h : exec i s = .next (controlRead s n d x)) : ∃ t l, exec i s = .next t ∧ t.ctx.latches = s.ctx.latches ++ [l] ∧
      l.dest = d ∧ l.val = x ∧ l.due = s.ctx.now + 2 ∧ l.bad = none ∧ t.ctx.r = s.ctx.r ∧ t.ctx.dws = s.ctx.dws ∧
      sameStore s t ∧ t.ctx.fidx = if n = 0xF01 then s.ctx.fidx + 1 else s.ctx.fidx := by
  refine ⟨_, { newLatch s 2 d x 0 none with slot := 5 }, h, ?_⟩
  unfold controlRead
  split <;> simp [stepFidx, sameStore, putLatch, newLatch]

/-! ## What the registers read as (R161, R195) -/

/-- R64, R195: with no unit write pending FLG reads as it stands. -/
theorem readCtl_flg {s : State} (hu : s.ctx.uws = []) : readCtl s 0x000 = s.ctx.r.flg.setWidth 64 := by
  have hw : writesMade s s.ctx.tclk = [] := by simp [writesMade, hu]
  show flagRead s = _
  simp [flagRead, flagsMade, hw]

theorem readCtl_ftctl (s : State) : (readCtl s 0x003).toNat = s.ctx.r.ftlevel.toNat * 16 + s.ctx.r.ftbase.toNat := by
  show s.ctx.r.ftctl.toNat = _
  simp only [Regs.ftctl]
  bv_omega

theorem readCtl_tclk (s : State) : (readCtl s 0x008).toNat = s.ctx.tclk % 2 ^ 48 := by
  show (BitVec.ofNat 64 (s.ctx.tclk % 2 ^ 48)).toNat = _
  rw [BitVec.toNat_ofNat]
  omega

theorem readCtl_tinfo (s : State) (k : Fin 4) : readCtl s (0x012 + k.val) = s.ctx.tinfo[k] := by
  fin_cases k <;> rfl

/-- An element of a table by its number. -/
theorem getD_toList {α : Type} {n : Nat} (v : Vector α n) (k : Fin n) (d : α) : v.toList.getD k.val d = v[k] := by
  simp [List.getD_eq_getElem?_getD]

theorem readCtl_ft (s : State) (k : Fin 16) : readCtl s (0x100 + k.val) = s.ctx.r.ft[k].setWidth 64 := by
  have hk := k.isLt
  simp only [readCtl]
  rw [if_neg (by omega), if_neg (by omega), if_neg (by omega), if_pos (by omega), Nat.add_sub_cancel_left, getD_toList]

theorem readCtl_cht (s : State) (k : Fin 8) : readCtl s (0x120 + k.val) = s.ctx.r.cht[k] := by
  have hk := k.isLt
  simp only [readCtl]
  rw [if_neg (by omega), if_neg (by omega), if_neg (by omega), if_neg (by omega), if_neg (by omega), if_pos (by omega),
    Nat.add_sub_cancel_left, getD_toList]

/-- Settles O15: the issue by the cases of a CTLR, what it leaves by controlRead_leaves, and each register by its number. -/
theorem controlRegisterReads : Obligations.ControlRegisterReads := by
  unfold Obligations.ControlRegisterReads
  intro s v q c ha
  exact ⟨fun hf => ⟨unfenced_held ha hf _, unfenced_held ha hf _⟩, heelFenced_of_ne s,
    fun hf hd => controlRead_leaves (exec_ctlr ha hf hd v), fun x hd hx => controlRead_leaves (exec_ctlr_supplied ha hd hx v),
    fun hd hx => exec_ctlr_detRead ha hd hx v, fun hf => controlRead_leaves (exec_ctlrQ ha hf q),
    readCtl_flg, readCtl_ftctl s, readCtl_tclk s, rfl, rfl, rfl, readCtl_tinfo s, readCtl_ft s, readCtl_cht s⟩

end Sys2Proof.Proofs
end

section
/-! PROOF. The issue of branches and of system operations, and what a branch that is taken does (O19, O22, O25). -/

namespace Sys2Proof.Proofs

open Sys2Proof.Machine
open Sys2Proof.Laws

/-! ## A branch that acts (R142, R197) -/

/-- R424: a charge changes the energy and the draw of its context. -/
theorem ctxCharge_eq (c : Ctx) (n : Nat) :
    ∃ e v dr, c.charge n true = { c with energy := e, energySat := v, draw := dr } := by
  simp only [Ctx.charge, if_true]
  split
  · exact ⟨_, _, _, rfl⟩
  · split <;> exact ⟨_, _, _, rfl⟩

theorem charge_eq (s : State) (n : Nat) : ∃ e v dr us, charge s n =
    { s with ctx := { s.ctx with energy := e, energySat := v, draw := dr }, units := us } := by
  obtain ⟨e, v, dr, h⟩ := ctxCharge_eq s.ctx n
  exact ⟨e, v, dr, _, by rw [charge, State.up, h]⟩

/-- R142: two delay bundles follow a branch that has acted. -/
theorem branch_next {s : State} (ha : acts s = true) {eff : State → State}
    (ht : (eff (charge s (weight s 2))).ctx.iss.trapped = false) :
    markDelay (bOp s none eff) = .next ((eff (charge s (weight s 2))).up fun c => { c with dly := 2 }) := by
  simp [bOp_next ha, markDelay, ht]

/-- R142: two delay bundles follow a branch whose check fails, if its context still runs. -/
theorem branch_trap {s : State} (ha : acts s = true) (x : Trap) (eff : State → State) :
    markDelay (bOp s (some x) eff) = .next (let u := takeTrap s x
      if u.ctx.iss.trapped = true then u else u.up fun c => { c with dly := 2 }) := by
  rw [bOp_trap ha]
  rfl

/-- R91: registers whose codes are good raise nothing. -/
theorem consumed_good {s : State} {ns : List (Fin 32)} (h : badReg s 6 ns = none) : consumed s ns = s := by
  simp [consumed, h]

/-! ## System operations (R208 to R210) -/

/-- What a system operation leaves as it is. -/
def SystemFrame (s t : State) : Prop :=
  t.ctx.r = s.ctx.r ∧ t.ctx.latches = s.ctx.latches ∧ t.ctx.dws = s.ctx.dws ∧ sameStore s t

theorem systemFrame_charge (s : State) (n : Nat) : SystemFrame s (charge s n) :=
  ⟨charge_ctx_r s n, charge_ctx_latches s n, charge_ctx_dws s n, rfl, rfl, rfl, rfl⟩

theorem exec_rte {s : State} (ha : acts s = true) (ht : s.ctx.iss.trapped = false) (hs : s.ctx.status = .handler) :
    exec .rte s = .next (((charge s (weight s 2)).up fun c => { c with pend := .rte c.iss.pc }).up fun c =>
      { c with dly := 2 }) := by
  show execRte s = _
  rw [execRte, if_pos hs]
  exact branch_next ha ((congrArg Issue.trapped (charge_ctx_iss s _)).trans ht)

/-- R208: RTE outside a handler. -/
theorem exec_rte_trap {s : State} (ha : acts s = true) (hs : s.ctx.status ≠ .handler) :
    exec .rte s = .next (let u := takeTrap s (fatalTrap s none none)
      if u.ctx.iss.trapped = true then u else u.up fun c => { c with dly := 2 }) := by
  show execRte s = _
  rw [execRte, if_neg hs, branch_trap ha]

/-- Settles O25: each operation is its effect on the charged state, which the frame does not see. -/
theorem systemOperations : Obligations.SystemOperations := by
  unfold Obligations.SystemOperations
  intro s im ha ht
  have hframe := systemFrame_charge s (weight s 2)
  refine ⟨⟨_, bOp_next ha id, hframe, ?_⟩,
    ⟨_, bOp_next ha fun u => u.up fun c => { c with swt := some (im.toNat, false) }, hframe, rfl, charge_ctx_wait s _⟩,
    ⟨_, bOp_next ha fun u => u.up fun c => { c with swt := some (im.toNat, true) }, hframe, rfl, charge_ctx_wait s _⟩,
    fun hs => ?_, fun hs => ?_,
    ⟨_, bOp_next ha fun u => u.up fun c => { c with ended := true, wait := .ending, pend := .none }, hframe, rfl, rfl, rfl⟩,
    ?_, ⟨_, bOp_next ha fun u => u.up fun c => { c with after := 2 }, hframe, rfl⟩⟩
  · simp
  · refine ⟨_, exec_rte ha ht hs, hframe, ?_, rfl⟩
    simp
  · refine ⟨_, exec_rte_trap ha hs, ?_⟩
    dsimp only
    split <;> exact ⟨rfl, rfl⟩
  · refine ⟨_, bOp_next ha fun u => if u.ctx.preReq = true then u.up fun c => { c with after := 1 } else u, ?_⟩
    dsimp only
    rw [charge_ctx_preReq]
    cases s.ctx.preReq with
    | true => exact ⟨hframe, rfl⟩
    | false => exact ⟨hframe, charge_ctx_after s _⟩

end Sys2Proof.Proofs
end

section
/-! PROOF. The return address of a CALL, and the issue of the branches (O19). -/

namespace Sys2Proof.Proofs

open Sys2Proof.Machine
open Sys2Proof.Laws

/-! ## Bundles in address order (R139, R198) -/

/-- R139: the words of a bundle up to and with its stop bit. -/
theorem upToStop_length {ws : List Nat} {n : Nat} (h : ws.findIdx? (fun w => bit w 31) = some n) :
    ∃ l, upToStop ws = some l ∧ l.length = n + 1 := by
  induction ws generalizing n with
  | nil => cases h
  | cons w ws ih =>
    rw [List.findIdx?_cons] at h
    by_cases hb : bit w 31 = true
    · rw [if_pos hb] at h
      cases h
      exact ⟨[w], by simp [upToStop, hb], rfl⟩
    · rw [if_neg hb] at h
      obtain ⟨m, hm, rfl⟩ := Option.map_eq_some_iff.mp h
      obtain ⟨l, hl, hlen⟩ := ih hm
      exact ⟨w :: l, by simp [upToStop, hb, hl], by simp [hlen]⟩

/-- R198: the last word of a bundle, and the address past it. -/
theorem bundleEnd_of_lastWord {c : Ctx} {a e : Word} (h : lastWord c a e) : bundleEnd c a = (e + 4, e) := by
  obtain ⟨n, hn, rfl⟩ := h
  obtain ⟨l, hl, hlen⟩ := upToStop_length hn
  simp only [bundleEnd, hl, Option.getD_some, hlen, Nat.add_sub_cancel, Prod.mk.injEq, and_true]
  rw [Nat.mul_succ, BitVec.ofNat_add, BitVec.add_assoc]
  rfl

/-- R139: a whole block of pad words of the image. -/
def PadBlock (c : Ctx) (a : Word) : Prop := a.toNat % 64 = 0 ∧ c.inCode a = true ∧ ∀ w ∈ blockWords c a, w = padWord

theorem skipPads_pad {c : Ctx} {a : Word} (h : PadBlock c a) (n : Nat) : skipPads c (n + 1) a = skipPads c n (a + 64) := by
  obtain ⟨ha, hin, hpad⟩ := h
  simpa only [skipPads, ha, hin, true_and, ite_eq_left_iff, List.all_eq_true, beq_iff_eq] using fun hn => absurd hpad hn

theorem skipPads_stays {c : Ctx} {a : Word} (h : ¬PadBlock c a) (n : Nat) : skipPads c n a = a := by
  cases n with
  | zero => rfl
  | succ n =>
    rw [skipPads, if_neg]
    simpa [PadBlock] using h

/-- R139: the blocks of pad words that come next, as many as there are. -/
theorem skipPads_eq {c : Ctx} {k : Nat} : ∀ {n : Nat} {a : Word}, k ≤ n →
    (∀ j, j < k → PadBlock c (a + BitVec.ofNat 64 (64 * j))) → ¬PadBlock c (a + BitVec.ofNat 64 (64 * k)) → skipPads c n a = a + BitVec.ofNat 64 (64 * k) := by
  induction k with
  | zero =>
    intro n a _ _ hend
    simpa using skipPads_stays (by simpa using hend) n
  | succ k ih =>
    intro n a hk hpads hend
    have hstep (j : Nat) : a + 64 + BitVec.ofNat 64 (64 * j) = a + BitVec.ofNat 64 (64 * (j + 1)) := by
      rw [Nat.mul_succ, BitVec.ofNat_add, BitVec.add_assoc, BitVec.add_comm 64]
      rfl
    obtain ⟨n, rfl⟩ : ∃ m, n = m + 1 := ⟨n - 1, by omega⟩
    have hfirst : PadBlock c a := by simpa using hpads 0 (Nat.succ_pos k)
    rw [skipPads_pad hfirst, ← hstep]
    refine ih (by omega) (fun j hj => ?_) ?_
    · rw [hstep]
      exact hpads _ (by omega)
    · rwa [hstep]

theorem restPads_iff {c : Ctx} {a : Word} (h : a.toNat % 64 ≠ 0) :
    restPads c a = true ↔ ∀ w ∈ blockWords c a, w = padWord := by
  simp [restPads, h]

/-- R139: where the sequencer stands past a bundle: beyond the rest of its block when that is pad words. -/
theorem afterBundle_snd {c : Ctx} {r r' : Word}
    (h : (r.toNat % 64 ≠ 0 ∧ (∀ w ∈ blockWords c r, w = padWord) ∧ r' = BitVec.ofNat 64 (r.toNat / 64 * 64) + 64) ∨
      ((r.toNat % 64 = 0 ∨ ¬∀ w ∈ blockWords c r, w = padWord) ∧ r' = r)) : (afterBundle c r).2 = r' := by
  rcases h with ⟨hmod, hpad, rfl⟩ | ⟨hno, rfl⟩
  · rw [afterBundle, if_neg hmod, if_pos ((restPads_iff hmod).mpr hpad), blockOf]
  · by_cases hmod : r'.toNat % 64 = 0
    · rw [afterBundle, if_pos hmod]
    · rw [afterBundle, if_neg hmod, if_neg (mt (restPads_iff hmod).mp (hno.resolve_left hmod))]

/-- R139, R198: the next bundle in address order. -/
theorem nextBundle_of_following {c : Ctx} {e b : Word} (h : followingBundle c e b) : nextBundle c (e + 4) = b := by
  obtain ⟨r', k, hr, hk, rfl, hpads, hend⟩ := h
  rw [nextBundle, afterBundle_snd hr]
  exact skipPads_eq hk hpads hend

/-- R139, R198: the return address, from the two bundles that follow. -/
theorem returnAddr_eq {c : Ctx} {a e0 b1 e1 b2 e2 : Word} (h0 : lastWord c a e0) (h1 : followingBundle c e0 b1)
    (h1' : lastWord c b1 e1) (h2 : followingBundle c e1 b2) (h2' : lastWord c b2 e2) :
    returnAddr c a = BitVec.ofNat 64 (e2.toNat / 64 * 64) + 64 := by
  simp only [returnAddr, bundleEnd_of_lastWord h0, nextBundle_of_following h1, bundleEnd_of_lastWord h1',
    nextBundle_of_following h2, bundleEnd_of_lastWord h2', blockOf]

/-! ## The branches (R197, R198) -/

theorem skipPads_charge (s : State) (n k : Nat) (a : Word) : skipPads (charge s n).ctx k a = skipPads s.ctx k a := by
  have hw (x : Word) : blockWords (charge s n).ctx x = blockWords s.ctx x := by simp [blockWords, codeWord]
  have hin (x : Word) : (charge s n).ctx.inCode x = s.ctx.inCode x := by simp [Ctx.inCode]
  induction k generalizing a with
  | zero => rfl
  | succ k ih => simp only [skipPads, hw, hin, ih]

/-- R198: the return address lies in the code image, whatever has been charged. -/
@[simp] theorem charge_returnAddr (s : State) (n : Nat) (a : Word) :
    returnAddr (charge s n).ctx a = returnAddr s.ctx a := by
  have hw (x : Word) : blockWords (charge s n).ctx x = blockWords s.ctx x := by simp [blockWords, codeWord]
  have hend (x : Word) : bundleEnd (charge s n).ctx x = bundleEnd s.ctx x := by simp [bundleEnd, hw]
  have hnext (x : Word) : nextBundle (charge s n).ctx x = nextBundle s.ctx x := by
    simp [nextBundle, afterBundle, restPads, hw, skipPads_charge]
  simp [returnAddr, hend, hnext]

/-- R143: the target of a displacement. -/
theorem relTarget_eq (s : State) (d : Int) :
    relTarget s d = BitVec.ofInt 64 ((s.ctx.iss.pc.toNat / 64 * 64 : Nat) + 64 * d) := by
  rw [relTarget, blockOf, BitVec.ofInt_add, BitVec.ofInt_natCast]

@[simp] theorem charge_relTarget (s : State) (n : Nat) (d : Int) : relTarget (charge s n) d = relTarget s d := by
  simp [relTarget]

/-- R197: what a branch that acts leaves: where control goes, its two delay bundles, a link, and its charge. -/
def branched (s : State) (p : Pend) (ls : List Latch) : State :=
  (charge s (weight s 2)).up fun c => { c with pend := p, dly := 2, latches := c.latches ++ ls }

theorem branched_eq (s : State) (p : Pend) (ls : List Latch) : ∃ e v dr us, branched s p ls = { s with
    ctx := { s.ctx with pend := p, dly := 2, latches := s.ctx.latches ++ ls, energy := e, energySat := v, draw := dr }
    units := us } := by
  obtain ⟨e, v, dr, us, h⟩ := charge_eq s (weight s 2)
  exact ⟨e, v, dr, us, by rw [branched, h]; rfl⟩

/-- R142: an effect that sends control on, with its delay bundles. -/
theorem branch_branched {s : State} (ha : acts s = true) (ht : s.ctx.iss.trapped = false) {p : Pend} {ls : List Latch}
    {eff : State → State}
    (h : eff (charge s (weight s 2)) = (charge s (weight s 2)).up fun c => { c with pend := p, latches := c.latches ++ ls }) :
    markDelay (bOp s none eff) = .next (branched s p ls) := by
  rw [branch_next ha (by rw [h]; exact (congrArg Issue.trapped (charge_ctx_iss s _)).trans ht), h]
  rfl

/-- R197: control sent on with no link. -/
theorem goTo_eq (u : State) (t : Word) : goTo u t = u.up fun c => { c with pend := .branch t, latches := c.latches ++ [] } := by
  simp only [List.append_nil]
  rfl

theorem consumed_goTo {u : State} {ns : List (Fin 32)} (h : badReg u 6 ns = none) (t : Word) :
    consumed (goTo u t) ns = goTo u t := consumed_good (s := goTo u t) h

/-- R197: control that goes on as it would. -/
theorem charge_stays (s : State) (n : Nat) :
    charge s n = (charge s n).up fun c => { c with pend := s.ctx.pend, latches := c.latches ++ [] } := by
  rw [← charge_ctx_pend s n]
  simp only [List.append_nil]
  generalize charge s n = u
  rfl

section
variable {s : State} (ha : acts s = true) (ht : s.ctx.iss.trapped = false)
include ha ht

theorem exec_br (d : BitVec 20) : exec (.br d) s = .next (branched s (.branch (relTarget s d.toInt)) []) :=
  branch_branched ha ht (eff := fun u => goTo u (relTarget u d.toInt)) (by rw [charge_relTarget, goTo_eq])

theorem exec_brcNz {c : Fin 32} (hc : badReg s 6 [c] = none) (d : BitVec 14) : exec (.brcNz c d) s =
    .next (branched s (if rdG s c = 0 then s.ctx.pend else .branch (relTarget s d.toInt)) []) := by
  refine branch_branched ha ht (eff := fun u => consumed (if rdG u c ≠ 0 then goTo u (relTarget u d.toInt) else u) [c]) ?_
  have hgood : badReg (charge s (weight s 2)) 6 [c] = none := by rw [charge_badReg, hc]
  rw [charge_rdG, charge_relTarget]
  by_cases hz : rdG s c = 0
  · rw [if_neg (not_not.mpr hz), if_pos hz, consumed_good hgood]
    exact charge_stays s _
  · rw [if_pos hz, if_neg hz, consumed_goTo hgood, goTo_eq]

theorem exec_brcZ {c : Fin 32} (hc : badReg s 6 [c] = none) (d : BitVec 14) : exec (.brcZ c d) s =
    .next (branched s (if rdG s c = 0 then .branch (relTarget s d.toInt) else s.ctx.pend) []) := by
  refine branch_branched ha ht (eff := fun u => consumed (if rdG u c = 0 then goTo u (relTarget u d.toInt) else u) [c]) ?_
  have hgood : badReg (charge s (weight s 2)) 6 [c] = none := by rw [charge_badReg, hc]
  rw [charge_rdG, charge_relTarget]
  by_cases hz : rdG s c = 0
  · rw [if_pos hz, if_pos hz, consumed_goTo hgood, goTo_eq]
  · rw [if_neg hz, if_neg hz, consumed_good hgood]
    exact charge_stays s _

theorem exec_call (d : BitVec 20) : exec (.call d) s = .next (branched s (.branch (relTarget s d.toInt))
    [{ newLatch s 1 (.g 30) (returnAddr s.ctx s.ctx.iss.pc) 0 none with slot := 6 }]) := by
  refine branch_branched ha ht (eff := fun u => putLatch (goTo u (relTarget u d.toInt))
    { newLatch u 1 (.g 30) (returnAddr u.ctx u.ctx.iss.pc) 0 none with slot := 6 }) ?_
  rw [charge_relTarget, charge_newLatch, charge_returnAddr, charge_ctx_iss]
  rfl

theorem exec_jmp {a : Fin 32} (hg : badReg s 6 [a] = none) (hal : (rdG s a).toNat % 64 = 0) :
    exec (.jmp a) s = .next (branched s (.branch (rdG s a)) []) := by
  show execJmp a s = _
  rw [execJmp, if_neg (not_not.mpr hal)]
  refine branch_branched ha ht ?_
  have hgood : badReg (charge s (weight s 2)) 6 [a] = none := by rw [charge_badReg, hg]
  rw [charge_rdG, consumed_goTo hgood, goTo_eq]

end

/-- R198: JMP to an address that is no block address. -/
theorem exec_jmp_trap {s : State} (ha : acts s = true) {a : Fin 32} (hal : (rdG s a).toNat % 64 ≠ 0) :
    exec (.jmp a) s = .next (let u := takeTrap s (mkTrap s 0x05 (some (rdG s a)) none none)
      if u.ctx.iss.trapped = true then u else u.up fun c => { c with dly := 2 }) := by
  show execJmp a s = _
  rw [execJmp, if_pos hal, branch_trap ha]

/-- Settles O19: the return address by returnAddr_eq, each branch by its exec lemma and branched_eq. -/
theorem branchResults : Obligations.BranchResults := by
  unfold Obligations.BranchResults
  refine ⟨fun c a e0 b1 e1 b2 e2 h0 h1 h1' h2 h2' => returnAddr_eq h0 h1 h1' h2 h2', fun s c a d e ha ht hc hg => ?_⟩
  have goes {i : Instr} {p : Pend} {ls : List Latch} (h : exec i s = .next (branched s p ls)) :
      ∃ e v dr us, exec i s = .next { s with
        ctx := { s.ctx with pend := p, dly := 2, latches := s.ctx.latches ++ ls, energy := e, energySat := v, draw := dr }
        units := us } := by
    obtain ⟨e, v, dr, us, hb⟩ := branched_eq s p ls
    exact ⟨e, v, dr, us, by rw [h, hb]⟩
  simp only [← relTarget_eq]
  exact ⟨goes (exec_br ha ht d), goes (exec_brcNz ha ht hc e), goes (exec_brcZ ha ht hc e), goes (exec_call ha ht d),
    fun hal => goes (exec_jmp ha ht hg hal), fun hal => ⟨_, exec_jmp_trap ha hal, rfl⟩⟩

end Sys2Proof.Proofs
end

section
/-! PROOF. LBRK: its issue, and the levels that it leaves (O22). -/

namespace Sys2Proof.Proofs

open Sys2Proof.Machine
open Sys2Proof.Laws

/-! ## The issue (R142, R204) -/

theorem exec_lbrk {s : State} (ha : acts s = true) (ht : s.ctx.iss.trapped = false) {l : Fin 8}
    (hl : (getLoop s l).active = true) : exec (.lbrk l) s = .next (branched s (.lbrk l) []) := by
  show execLbrk l s = _
  rw [execLbrk, if_pos hl]
  refine branch_branched ha ht ?_
  simp only [List.append_nil]

/-! ## The levels left (R204) -/

section
variable {l : Fin 8} {inner outer order : List (Fin 8)} (ho : order = inner ++ l :: outer)
include ho

/-- R204: the levels entered after a level are those before it in the order of entry. -/
theorem takeWhile_inner (hl : l ∉ inner) : order.takeWhile (· != l) = inner := by
  have hne : ∀ j ∈ inner, (j != l) = true := fun j hj => bne_iff_ne.mpr fun h => hl (h ▸ hj)
  rw [ho, List.takeWhile_append_of_pos hne, List.takeWhile_cons_of_neg (by simp), List.append_nil]

/-- R204: the levels entered before it are those that stay. -/
theorem filter_outer (hout : ∀ j ∈ outer, j ∉ l :: inner) :
    (order.filter fun x => !((l :: inner).contains x)) = outer := by
  have hin : (inner.filter fun x => !((l :: inner).contains x)) = [] :=
    List.filter_eq_nil_iff.mpr fun j hj => by simp [hj]
  have hkeep : (outer.filter fun x => !((l :: inner).contains x)) = outer :=
    List.filter_eq_self.mpr fun j hj => by simpa using hout j hj
  rw [ho, List.filter_append, hin, List.filter_cons_of_neg (by simp), hkeep, List.nil_append]

end

/-- R202, R204: a level that is left. -/
theorem leave_off (x : Loop) : x.leave.active = false ∧ ∀ q : Fin 4, x.leave.strd[q].en = false :=
  ⟨rfl, fun q => by simp [Loop.leave, clearStrides]⟩

/-- R204: what the second delay bundle of an LBRK leaves. -/
theorem divert_lbrk {s : State} {l : Fin 8} {inner outer : List (Fin 8)} (hp : s.ctx.pend = .lbrk l)
    (ho : s.ctx.r.order = inner ++ l :: outer) (hl : l ∉ inner) (hout : ∀ j ∈ outer, j ∉ l :: inner) :
    divert s = (s.upR fun r => { r with
      loops := Vector.ofFn fun k =>
        if (l :: inner).any (fun x => x.val == k.val) then r.loops[k].leave else r.loops[k]
      order := outer }).up fun c => { c with pc := (getLoop s l).stop + 64, fin := none, pend := .none } := by
  simp only [divert, hp, takeWhile_inner ho hl]
  simp only [State.upR, filter_outer ho hout]

/-- R204: one level after the levels of a list are left. -/
theorem getLoop_left (s : State) (out : List (Fin 8)) (o : List (Fin 8)) {j : Fin 8} (hj : j.val < 6) :
    getLoop (s.upR fun r => { r with
      loops := Vector.ofFn fun k => if out.any (fun x => x.val == k.val) then r.loops[k].leave else r.loops[k]
      order := o }) j = if j ∈ out then (getLoop s j).leave else getLoop s j := by
  have hmem : (∃ x ∈ out, x.val = j.val) ↔ j ∈ out := by simp [← Fin.ext_iff]
  simp [getLoop, List.getD_eq_getElem?_getD, hj, hmem]

/-- Settles O22: the issue by exec_lbrk, the second delay bundle by divert_lbrk and getLoop_left. -/
theorem loopBreak : Obligations.LoopBreak := by
  unfold Obligations.LoopBreak
  refine ⟨fun s l ha ht hact => ⟨_, exec_lbrk ha ht hact, ?_⟩, fun s l inner outer hp hl6 ho hl hout => ?_⟩
  · simp [branched, sameStore]
  · have hget {j : Fin 8} (hj : j.val < 6) :
        getLoop (divert s) j = if j ∈ l :: inner then (getLoop s j).leave else getLoop s j := by
      rw [divert_lbrk hp ho hl hout]
      exact getLoop_left s (l :: inner) outer hj
    refine ⟨?_, ?_, ?_, ?_, fun j hj hin => ?_, fun j hj hin => ?_⟩
    · rw [divert_lbrk hp ho hl hout]
      rfl
    · rw [divert_lbrk hp ho hl hout]
      rfl
    · rw [divert_lbrk hp ho hl hout]
      rfl
    · rw [divert_lbrk hp ho hl hout]
      rfl
    · rw [hget hj, if_pos hin]
      exact leave_off _
    · rw [hget hj, if_neg hin]

end Sys2Proof.Proofs
end

section
/-! PROOF. PFX: its request for an operating point, and its masks (O26). -/

namespace Sys2Proof.Proofs

open Sys2Proof.Machine
open Sys2Proof.Laws

/-! ## The request (R352, R419) -/

theorem getIsland_n (s : State) (n : Nat) : (getIsland s n).n = n := by
  unfold getIsland
  cases h : s.units.find? fun u => u.n == n with
  | none => rfl
  | some u => simpa using List.find?_some h

/-- R449: a charge counts in the energy of the island of its unit. -/
theorem getIsland_charge (s : State) (n : Nat) : getIsland (charge s n) s.ctx.gunit =
    { getIsland s s.ctx.gunit with eisl := ((getIsland s s.ctx.gunit).eisl + n) % 2 ^ 64 } :=
  getIsland_upd s s.ctx.gunit (f := fun u => { u with eisl := (u.eisl + n) % 2 ^ 64 }) (fun _ => rfl) (charge s n) rfl

/-- R419: the pending point of an island that has one of its own. -/
theorem repoint_pendOp {u : Island} (hn : u.n ≤ 192) : u.repoint.pendOp =
    if u.settle.isSome = true then u.pendOp else if u.point = u.opc then none else some u.point := by
  unfold Island.repoint
  have hn' : ¬(192 < u.n ∧ u.n < 256) := by omega
  simp only [hn', or_false]
  split <;> rfl

theorem repoint_point (u : Island) : u.repoint.point = u.point := by
  rw [repoint_keeps]
  rfl

theorem repoint_opc (u : Island) : u.repoint.opc = u.opc := by rw [repoint_keeps]

theorem repoint_req (u : Island) : u.repoint.req = u.req := by rw [repoint_keeps]

/-- R352: a request changes the island of the context at hand, and on a station but 0 none. -/
theorem requestOp_eq (s : State) (op : Fin 8) : requestOp s op = { s with units := (requestOp s op).units } := by
  unfold requestOp
  dsimp only
  split <;> rfl

theorem requestOp_station {s : State} (h : s.ctx.upper = true ∧ s.ctx.unit ≠ 0) (op : Fin 8) : requestOp s op = s :=
  if_pos h

theorem getIsland_requestOp {s : State} (h : ¬(s.ctx.upper = true ∧ s.ctx.unit ≠ 0)) (op : Fin 8) :
    getIsland (requestOp s op) s.ctx.gunit =
      if (getIsland s s.ctx.gunit).opc = op then getIsland s s.ctx.gunit
      else Island.repoint { getIsland s s.ctx.gunit with req := op } := by
  refine getIsland_upd s s.ctx.gunit (f := fun u => if u.opc = op then u else Island.repoint { u with req := op })
    (fun u => ?_) (requestOp s op) (congrArg State.units (if_neg h))
  split
  · rfl
  · exact repoint_n _

/-! ## PFX (R144 to R147) -/

/-- R144 to R146: the state that the request of a PFX finds. -/
def prefixed (s : State) (x : Pfx) : State := charge (s.up fun c => { c with pfx := x }) (weight s 4)

theorem exec_pfx (s : State) (sc op lv : Fin 8) (opv : Bool) (f z : BitVec 8) : exec (.pfx sc opv op f z lv) s =
    .next (if opv = true then requestOp (prefixed s ⟨sc.val, f, z, lv⟩) op else prefixed s ⟨sc.val, f, z, lv⟩) := rfl

section
variable (s : State) (x : Pfx)

theorem prefixed_upper : (prefixed s x).ctx.upper = s.ctx.upper := charge_ctx_upper _ _

theorem prefixed_unit : (prefixed s x).ctx.unit = s.ctx.unit := charge_ctx_unit _ _

theorem prefixed_gunit : (prefixed s x).ctx.gunit = s.ctx.gunit := by
  simp only [Ctx.gunit, prefixed_upper, prefixed_unit]

/-- R449: of its island a PFX with no request changes the energy. -/
theorem getIsland_prefixed : ∃ e, getIsland (prefixed s x) s.ctx.gunit = { getIsland s s.ctx.gunit with eisl := e } :=
  ⟨_, getIsland_charge (s.up fun c => { c with pfx := x }) (weight s 4)⟩

/-- R352: of its island a PFX that requests a new point changes the request, and with it the pending point. -/
theorem getIsland_requested {op : Fin 8} (hst : ¬(s.ctx.upper = true ∧ s.ctx.unit ≠ 0))
    (hop : (getIsland s s.ctx.gunit).opc ≠ op) : ∃ v : Island, getIsland (requestOp (prefixed s x) op) s.ctx.gunit = v.repoint ∧
      v.n = s.ctx.gunit ∧ v.req = op ∧ v.settle = (getIsland s s.ctx.gunit).settle ∧
      v.pendOp = (getIsland s s.ctx.gunit).pendOp := by
  obtain ⟨e, he⟩ := getIsland_prefixed s x
  have h := getIsland_requestOp (s := prefixed s x) (by rwa [prefixed_upper, prefixed_unit]) op
  rw [prefixed_gunit, he] at h
  exact ⟨_, h.trans (if_neg hop), getIsland_n s _, rfl, rfl, rfl⟩

/-- R352: a request for the point in force, or from a station but 0, changes nothing of the island. -/
theorem getIsland_unrequested {op : Fin 8} (h : (getIsland s s.ctx.gunit).opc = op ∨ s.ctx.upper = true ∧ s.ctx.unit ≠ 0) :
    getIsland (requestOp (prefixed s x) op) s.ctx.gunit = getIsland (prefixed s x) s.ctx.gunit := by
  by_cases hst : s.ctx.upper = true ∧ s.ctx.unit ≠ 0
  · rw [requestOp_station (by rwa [prefixed_upper, prefixed_unit])]
  · obtain ⟨e, he⟩ := getIsland_prefixed s x
    have hr := getIsland_requestOp (s := prefixed s x) (by rwa [prefixed_upper, prefixed_unit]) op
    rw [prefixed_gunit] at hr
    exact hr.trans (if_pos (by rw [he]; exact h.resolve_right hst))

/-- What a PFX leaves beside its request. -/
theorem prefixed_leaves (us : List Island) : let t := { prefixed s x with units := us }
    t.ctx.pfx = x ∧ t.ctx.r = s.ctx.r ∧ t.ctx.latches = s.ctx.latches ∧ sameStore s t :=
  ⟨charge_ctx_pfx _ _, charge_ctx_r _ _, charge_ctx_latches _ _, rfl, rfl, rfl, rfl⟩

end

/-- R146: when the guard of a syllable holds, the masks of its PFX decide. -/
theorem acts_of_guard {s : State} (h : rdP s s.ctx.iss.p ≠ s.ctx.iss.ng) : acts s = !gated s := by
  simp [acts, h]

/-- R146: a syllable of an active level acts if no mask names it, in the first iteration with FIRST, in the last with LAST. -/
theorem masks_not_gated : ∀ active fst lst first last : Bool,
    (!(active && (fst || lst) && !((fst && first) || (lst && last)))) =
      (!active || (!fst && !lst) || (fst && first) || (lst && last)) := by
  decide

/-- Settles O26: the request by getIsland_requested and getIsland_unrequested, the masks by acts_of_guard. -/
theorem prefixResults : Obligations.PrefixResults := by
  unfold Obligations.PrefixResults
  refine ⟨fun s sc op lv opv f z => ⟨_, exec_pfx s sc op lv opv f z, ?_⟩, fun s h => ?_⟩
  · generalize (⟨sc.val, f, z, lv⟩ : Pfx) = x
    obtain ⟨e, he⟩ := getIsland_prefixed s x
    cases opv with
    | false =>
      obtain ⟨hpfx, hr, hl, hstore⟩ := prefixed_leaves s x (prefixed s x).units
      refine ⟨hpfx, hr, hl, hstore, nofun, fun _ => ?_⟩
      simp only [Bool.false_eq_true, if_false, he, and_self]
    | true =>
      simp only [if_true]
      obtain ⟨hpfx, hr, hl, hstore⟩ := prefixed_leaves s x (requestOp (prefixed s x) op).units
      rw [← requestOp_eq] at hpfx hr hl hstore
      refine ⟨hpfx, hr, hl, hstore, fun _ hst hop => ?_, fun h => ?_⟩
      · have hn : s.ctx.gunit ≤ 192 := by
          rw [Ctx.gunit]
          rcases hst with ⟨hu, hlt⟩ | ⟨hu, h0⟩ <;> simp only [hu, Bool.false_eq_true, if_false, if_true] <;> omega
        have hst' : ¬(s.ctx.upper = true ∧ s.ctx.unit ≠ 0) := by
          rintro ⟨hu, h0⟩
          rcases hst with ⟨hu', -⟩ | ⟨-, h0'⟩
          · exact absurd (hu.symm.trans hu') (by decide)
          · exact h0 h0'
        obtain ⟨v, hv, hvn, hreq, hsettle, hpend⟩ := getIsland_requested s x hst' hop
        rw [hv, repoint_req, repoint_point, repoint_opc, repoint_pendOp (hvn ▸ hn), hsettle, hpend]
        exact ⟨hreq, rfl⟩
      · rw [getIsland_unrequested s x (h.resolve_left (by decide)), he]
        exact ⟨rfl, rfl⟩
  · rw [acts_of_guard h]
    simp only [gated, getLoop]
    exact masks_not_gated _ _ _ _ _

end Sys2Proof.Proofs
end

section
/-! PROOF. From the words of memory to the meaning of an instruction: the step of a lead, the bundle of a word with its
stop bit, and the issue of a bundle of one syllable (O33). -/

namespace Sys2Proof.Proofs

open Sys2Proof.Machine
open Sys2Proof.Laws

/-! ## The turn of a lead (R335, R367) -/

theorem step_turn {s : State} {cid : Nat} {cs : List Nat} (ha : s.agenda = []) (hr : s.rota = cid :: cs) :
    step s = .next (turn { s with rota := cs } cid) := by
  simp only [step, stepPart, ha, hr]

/-- R335: the turn of a lead with no blocked trail due is its own real cycle. -/
theorem turn_of_leads {s : State} {cid : Nat} (h : leads s cid) :
    turn s cid = settleHang (focus s cid) (solo (focus s cid)) := by
  obtain ⟨hcid, c, hc, hmay, hrole, hdue, hfrozen⟩ := h
  have hlead : ¬c.role = .trail := by rw [hrole]; decide
  simp only [turn, hcid, hc, hmay, hlead, leadTurn, hdue, hfrozen, if_false, Bool.not_true, Bool.false_eq_true, and_false]

/-- R157, R198: a bundle in the code image that decodes is issued. -/
theorem fetchIssue_ok {u : State} {b : Bundle} (hin : u.ctx.inCode u.ctx.pc = true)
    (hb : decodeBundle u.ctx u.ctx.pc = .ok b) :
    fetchIssue u = issueBundle (u.up fun c => { c with iss := { Issue.alone with pc := c.pc } }) b := by
  simp only [fetchIssue, hin, hb, Bool.not_true, Bool.false_eq_true, if_false]

/-! ## A word with its stop bit (R137, R138, R140) -/

section
variable {w : Nat} (hw : classOf (major w) < 7)
include hw

theorem major_ne_pfx : major w ≠ 0x1F := fun h => by
  rw [h] at hw
  exact absurd hw (by decide)

theorem bodyOf_one : bodyOf [w] = [w] := if_neg (major_ne_pfx hw)

theorem positions_one : positions [w] = [(1, w)] := by
  simp [positions, bodyOf_one hw]

/-- R140: one syllable breaks no rule of the form of a bundle. -/
theorem formFault_one {ws : List Nat} (hws : upToStop ws = some [w]) : formFault ws = none := by
  have htwice (k : Nat) : ¬([classOf (major w)].filter (· == k)).length > 1 :=
    Nat.not_lt.mpr (List.length_filter_le _ _)
  have hthrice (k : Nat) : ¬([classOf (major w)].filter (· == k)).length > 2 :=
    fun h => htwice k (Nat.lt_of_succ_lt h)
  simp only [formFault, hws, bodyOf_one hw, List.map_cons, List.map_nil, htwice, hthrice, decide_false, List.any_cons,
    List.any_nil, major_ne_pfx hw, beq_iff_eq, List.isEmpty_cons, Bool.or_self, Bool.false_eq_true, Bool.or_false, if_false]

theorem wordReason_ok {c : Ctx} {y : Syl} (hy : decodeWord w = .ok y) (hc : ctxReason c w = none) (n : Nat) :
    wordReason c n w = none := by
  simp only [wordReason, hy, hc, major_ne_pfx hw, false_and, if_false]

/-- R137, R138, R142: the bundle of one syllable. -/
theorem decodeBundle_one {c : Ctx} {a : Word} {y : Syl} (hhead : (blockWords c a).head? = some w) (hstop : bit w 31 = true)
    (hy : decodeWord w = .ok y) (hc : ctxReason c w = none) (hb : c.dly = 0 ∨ isBranch w = false) :
    decodeBundle c a = .ok ⟨none, [(w, y)], 4⟩ := by
  obtain ⟨ws, hws⟩ := List.head?_eq_some_iff.mp hhead
  have hup : upToStop (blockWords c a) = some [w] := by rw [hws, upToStop, if_pos hstop]
  have hbranch : (if c.dly > 0 then [(1, w)].find? fun x : Nat × Nat => isBranch x.2 else none) = none := by
    rcases hb with hd | hb
    · rw [if_neg (by omega)]
    · simp [hb]
  have hsyl : sylOf w = some y := by rw [sylOf, hy]; rfl
  simp only [decodeBundle, formFault_one hw hup, hup, Option.getD_some, positions_one hw, List.findSome?_cons,
    List.findSome?_nil, wordReason_ok hw hy hc, Option.map_none, hbranch, List.filterMap_cons, List.filterMap_nil, hsyl,
    Option.map_some]
  rfl

end

/-! ## The issue of one syllable (R158, R160) -/

/-- R160: the effects of a bundle of one syllable. -/
theorem effectOrder_one {x : Placed} (hx : x.cls < 7) : effectOrder [x] = [x] := by
  simp only [effectOrder, List.flatMap_cons, List.flatMap_nil, List.filter_cons, List.filter_nil]
  generalize x.cls = k at hx
  interval_cases k <;> rfl

theorem length_sortBy {α : Type} (le : α → α → Bool) (l : List α) : (sortBy le l).length = l.length := by
  induction l with
  | nil => rfl
  | cons x l ih =>
    show (insertBy le x (sortBy le l)).length = _
    rw [insertBy_eq_orderedInsert, List.orderedInsert_length, ih, List.length_cons]

theorem perform_next {pc : Word} {s t : State} {x : Placed}
    (h : exec x.syl.op (s.up fun c => { c with iss := x.issue pc }) = .next t) : perform pc s x = t := by
  simp only [perform, h, nextOr]

section
variable {u : State} {w : Nat} {y : Syl} {t0 : State}
  (h0 : exec y.op (u.up fun c => { c with pfx := Pfx.none, iss := aloneIssue u.ctx.pc w y }) = .next t0)
include h0

/-- R158: the refusal of a bundle of one syllable is a trap or a hold of its issue. -/
theorem refusal_one : refusal u.ctx.pc (u.up fun c => { c with pfx := Pfx.none }) [⟨1, 0, w, y⟩] =
    if t0.ctx.iss.trapped = true then some t0 else none := by
  have hp : perform u.ctx.pc (u.up fun c => { c with pfx := Pfx.none }) ⟨1, 0, w, y⟩ = t0 := perform_next h0
  simp only [refusal, List.findSome?_cons, List.findSome?_nil, hp]
  cases t0.ctx.iss.trapped <;> rfl

theorem issueBundle_one_trapped (ht : t0.ctx.iss.trapped = true) : issueBundle u ⟨none, [(w, y)], 4⟩ = t0 := by
  have hr : refusal u.ctx.pc (u.up fun c => { c with pfx := Pfx.none }) [⟨1, 0, w, y⟩] = some t0 := by
    rw [refusal_one h0, if_pos ht]
  unfold issueBundle
  simp only [show Bundle.placed ⟨none, [(w, y)], 4⟩ = [⟨1, 0, w, y⟩] from rfl,
    show Bundle.prefix_ ⟨none, [(w, y)], 4⟩ = Pfx.none from rfl, hr]

theorem issueBundle_one (hw : classOf (major w) < 7) (ht : t0.ctx.iss.trapped = false) {t : State}
    (h : exec y.op ((prepare u ⟨none, [(w, y)], 4⟩).up fun c => { c with iss := aloneIssue u.ctx.pc w y }) = .next t)
    (hn : t.ctx.latches.length ≤ 32) :
    let r := closeCycle ((advancePc (sortLatches t) u.ctx.pc u.ctx.dly).up fun c =>
      { c with lanes := laneMask ⟨none, [(w, y)], 4⟩ })
    issueBundle u ⟨none, [(w, y)], 4⟩ = match rteDone t u.ctx.dly with | some p => endHandler r p | none => r := by
  have hr : refusal u.ctx.pc (u.up fun c => { c with pfx := Pfx.none }) [⟨1, 0, w, y⟩] = none := by
    rw [refusal_one h0, if_neg (by simp [ht])]
  have hp : (effectOrder [⟨1, 0, w, y⟩]).foldl (perform u.ctx.pc) (prepare u ⟨none, [(w, y)], 4⟩) = t := by
    rw [effectOrder_one (x := ⟨1, 0, w, y⟩) hw]
    exact perform_next h
  have hlen : ¬(sortLatches t).ctx.latches.length > Config.maxLatches := by
    rw [show (sortLatches t).ctx.latches = sortBy latchLe t.ctx.latches from rfl, length_sortBy]
    exact Nat.not_lt.mpr hn
  unfold issueBundle
  simp only [show Bundle.placed ⟨none, [(w, y)], 4⟩ = [⟨1, 0, w, y⟩] from rfl,
    show Bundle.prefix_ ⟨none, [(w, y)], 4⟩ = Pfx.none from rfl, hr, hp, hlen, if_false] <;> rfl

end

/-- Settles O33: the step by turn_of_leads and solo_issues, the bundle by decodeBundle_one, its issue by issueBundle_one. -/
theorem stepRunsTheDecodedInstruction : Obligations.StepRunsTheDecodedInstruction := by
  unfold Obligations.StepRunsTheDecodedInstruction
  refine ⟨fun s cid cs b ha hr hl => ?_, fun c a w y hhead hstop hy hw hc hb => decodeBundle_one hw hhead hstop hy hc hb,
    fun u t0 t w y hw => ?_⟩
  · intro f u v hreach hin hb
    rw [step_turn ha hr, turn_of_leads hl, solo_issues f hreach, fetchIssue_ok hin hb]
  · intro b v h0
    exact ⟨issueBundle_one_trapped h0, fun ht h hn => issueBundle_one h0 hw ht h hn⟩

end Sys2Proof.Proofs
end

section
/-! PROOF. Integer register operations and immediates, by the numbers and the bits of their results (O1, O2). -/

namespace Sys2Proof.Proofs

open Sys2Proof.Machine
open Sys2Proof.Laws

/-! ## The latch of a scalar result -/

/-- R175: an S syllable with an integer result that acts gives its value. -/
theorem givesResult_sInt1 {s : State} (ha : acts s = true) {lat : Nat} {d : Fin 32} {srcs : List (Fin 32)} {v : Word}
    {P : Word → Prop} (h : P v) : givesResult (sInt1 s lat d srcs v) s lat (.g d) srcs P :=
  ⟨v, sInt1_next s ha lat d srcs v, h⟩

/-! ## Sums and differences (R178, R179) -/

theorem toNat_sub_eq (x y : Word) : (x - y).toNat = (x.toNat + 2 ^ 64 - y.toNat) % 2 ^ 64 := by
  rw [BitVec.toNat_sub]
  congr 1
  omega

/-- R178: SEXT: the low n bits of a word as a signed number. -/
theorem toInt_signExtend_setWidth {n : Nat} (hn : n ≤ 64) (x : Word) :
    ((x.setWidth n).signExtend 64).toInt = Int.bmod x.toNat (2 ^ n) := by
  rw [BitVec.toInt_signExtend_of_le hn, BitVec.toInt_setWidth]

/-- R178: ADDW and SUBW: a number that differs from a word by a multiple of 2^64 has the word's low half. -/
theorem toInt_sext32 {x : Word} {n : Int} (h : x = BitVec.ofInt 64 n) : (sext32 x).toInt = Int.bmod n (2 ^ 32) := by
  rw [sext32, toInt_signExtend_setWidth (by decide), h, BitVec.toNat_ofInt]
  simp only [Int.bmod]
  omega

theorem ofInt_toNat_add (x y : Word) : x + y = BitVec.ofInt 64 (x.toNat + y.toNat) := by
  simp [BitVec.ofInt_add]

theorem ofInt_toNat_sub (x y : Word) : x - y = BitVec.ofInt 64 (x.toNat - y.toNat) := by
  rw [Int.sub_eq_add_neg, BitVec.ofInt_add, BitVec.ofInt_neg, BitVec.ofInt_natCast, BitVec.ofInt_natCast, BitVec.ofNat_toNat,
    BitVec.ofNat_toNat, BitVec.setWidth_eq, BitVec.setWidth_eq, BitVec.sub_eq_add_neg]

/-! ## Shifts and rotations (R178, R179) -/

theorem toNat_shl (x : Word) (n : Nat) : (x <<< n).toNat = x.toNat * 2 ^ n % 2 ^ 64 := by
  rw [BitVec.toNat_shiftLeft, Nat.shiftLeft_eq]

theorem toNat_shr (x : Word) (n : Nat) : (x >>> n).toNat = x.toNat / 2 ^ n := by
  rw [BitVec.toNat_ushiftRight, Nat.shiftRight_eq_div_pow]

theorem toInt_sar (x : Word) (n : Nat) : (x.sshiftRight n).toInt = x.toInt / 2 ^ n := by
  rw [BitVec.toInt_sshiftRight, Int.shiftRight_eq_div_pow]
  rfl

/-- R178: ROTL: bit i moves to bit i + n, around. -/
theorem getLsbD_rotl (x : Word) {n m i : Nat} (hn : n < 64) (hm : m % 64 = n) (hi : i < 64) :
    (x.rotateLeft n).getLsbD ((i + m) % 64) = x.getLsbD i := by
  rw [BitVec.getLsbD_rotateLeft, Nat.mod_eq_of_lt hn]
  rcases lt_or_ge ((i + m) % 64) n with h | h
  · rw [decide_eq_true h, cond_true]
    congr 1
    omega
  · rw [decide_eq_false (by omega), cond_false, decide_eq_true (Nat.mod_lt _ (by decide)), Bool.true_and]
    congr 1
    omega

/-! ## Choices (R178) -/

theorem toInt_min (x y : Word) : (if y.slt x = true then y else x).toInt = min x.toInt y.toInt := by
  rw [BitVec.slt_eq_decide]
  grind

theorem toInt_max (x y : Word) : (if x.slt y = true then y else x).toInt = max x.toInt y.toInt := by
  rw [BitVec.slt_eq_decide]
  grind

theorem toNat_minn (x y : Word) : (if y.ult x = true then y else x).toNat = min x.toNat y.toNat := by
  rw [BitVec.ult_eq_decide]
  grind

theorem toNat_maxn (x y : Word) : (if x.ult y = true then y else x).toNat = max x.toNat y.toNat := by
  rw [BitVec.ult_eq_decide]
  grind

theorem toNat_zext (x : Word) {n : Nat} (hn : n ≤ 64) : ((x.setWidth n).setWidth 64).toNat = x.toNat % 2 ^ n := by
  rw [BitVec.toNat_setWidth, BitVec.toNat_setWidth]
  exact Nat.mod_eq_of_lt (lt_of_lt_of_le (Nat.mod_lt _ (Nat.two_pow_pos n)) (Nat.pow_le_pow_right (by decide) hn))

/-- Settles O1: each operation leaves the latch of its value (givesResult_sInt1), which the lemmas above describe. -/
theorem integerRegisterResults : Obligations.IntegerRegisterResults := by
  unfold Obligations.IntegerRegisterResults
  intro s d a b ha
  have hn : (rdG s b).toNat % 64 < 64 := Nat.mod_lt _ (by decide)
  refine ⟨givesResult_sInt1 ha (BitVec.toNat_add _ _), givesResult_sInt1 ha (toNat_sub_eq _ _),
    givesResult_sInt1 ha (toInt_sext32 (ofInt_toNat_add _ _)), givesResult_sInt1 ha (toInt_sext32 (ofInt_toNat_sub _ _)),
    givesResult_sInt1 ha fun i => BitVec.getLsbD_and, givesResult_sInt1 ha fun i => BitVec.getLsbD_or,
    givesResult_sInt1 ha fun i => BitVec.getLsbD_xor, givesResult_sInt1 ha fun i => ?andn,
    givesResult_sInt1 ha fun i hi => ?orn, givesResult_sInt1 ha (toNat_shl _ _), givesResult_sInt1 ha (toNat_shr _ _),
    givesResult_sInt1 ha (toInt_sar _ _), givesResult_sInt1 ha fun i hi => getLsbD_rotl _ hn rfl hi,
    givesResult_sInt1 ha (toInt_min _ _), givesResult_sInt1 ha (toInt_max _ _), givesResult_sInt1 ha (toNat_minn _ _),
    givesResult_sInt1 ha (toNat_maxn _ _), givesResult_sInt1 ha (toInt_signExtend_setWidth (by decide) _),
    givesResult_sInt1 ha (toInt_signExtend_setWidth (by decide) _),
    givesResult_sInt1 ha (toInt_signExtend_setWidth (by decide) _), givesResult_sInt1 ha (toNat_zext _ (by decide)),
    givesResult_sInt1 ha (toNat_zext _ (by decide)), givesResult_sInt1 ha (toNat_zext _ (by decide))⟩
  case andn =>
    rw [BitVec.getLsbD_and, BitVec.getLsbD_not]
    rcases lt_or_ge i 64 with hi | hi
    · rw [decide_eq_true hi, Bool.true_and]
    · rw [BitVec.getLsbD_of_ge _ _ hi, Bool.false_and, Bool.false_and]
  case orn => rw [BitVec.getLsbD_or, BitVec.getLsbD_not, decide_eq_true hi, Bool.true_and]

/-! ## Immediates (R179, R180) -/

/-- R179: ANDI: above bit 13 a sign-extended immediate repeats it. -/
theorem getLsbD_signExtend_imm (im : BitVec 14) {i : Nat} (hi : i < 64) :
    (im.signExtend 64).getLsbD i = im.getLsbD (min i 13) := by
  rw [BitVec.getLsbD_signExtend, decide_eq_true hi, Bool.true_and]
  split
  · rw [min_eq_left (by omega)]
  · rw [min_eq_right (by omega), BitVec.msb_eq_getLsbD_last]

/-- R179: ORI and XORI: a zero-extended immediate has its own bits. -/
theorem getLsbD_setWidth_imm (im : BitVec 14) (i : Nat) : (im.setWidth 64).getLsbD i = im.getLsbD i := by
  rw [BitVec.getLsbD_setWidth]
  rcases lt_or_ge i 64 with hi | hi
  · rw [decide_eq_true hi, Bool.true_and]
  · rw [BitVec.getLsbD_of_ge im i (by omega), Bool.and_false]

theorem toInt_imS (im : BitVec 16) : (imS im).toInt = im.toInt := BitVec.toInt_signExtend_of_le (by decide)

/-- The word of an integer, read as a signed number, differs from it by a multiple of 2^64. -/
theorem toInt_sub_emod {v : Word} {z : Int} (h : v = BitVec.ofInt 64 z) : (v.toInt - z) % 2 ^ 64 = 0 := by
  rw [h, BitVec.toInt_ofInt, Int.bmod]
  omega

/-- R179: ADDI. -/
theorem addi_eq_ofInt (x : Word) (im : BitVec 16) : x + imS im = BitVec.ofInt 64 (x.toInt + im.toInt) := by
  rw [BitVec.ofInt_add, BitVec.ofInt_toInt, ← toInt_imS im, BitVec.ofInt_toInt]

/-- R180: MOVI: the shifted immediate, its high bits dropped. -/
theorem movi_eq_ofInt (im : BitVec 16) (n : Nat) : imS im <<< n = BitVec.ofInt 64 (im.toInt * 2 ^ n) := by
  have hp : BitVec.ofInt 64 (2 ^ n) = BitVec.twoPow 64 n := by
    refine BitVec.eq_of_toNat_eq ?_
    rw [show (2 : Int) ^ n = ((2 ^ n : Nat) : Int) by push_cast; rfl, BitVec.ofInt_natCast, BitVec.toNat_ofNat,
      BitVec.toNat_twoPow]
  rw [BitVec.ofInt_mul, ← toInt_imS im, BitVec.ofInt_toInt, hp, BitVec.shiftLeft_eq_mul_twoPow]

/-- R180: MOVK: a quarter of the register is the immediate, the rest stays. -/
theorem getLsbD_movk (x : Word) (im : BitVec 16) {h i : Nat} (hi : i < 64) :
    (x &&& ~~~(0xFFFF#64 <<< (16 * h)) ||| im.setWidth 64 <<< (16 * h)).getLsbD i =
      if i / 16 = h then im.getLsbD (i % 16) else x.getLsbD i := by
  have hones : ∀ j, (0xFFFF#64).getLsbD j = decide (j < 16) := fun j => by
    rw [show (0xFFFF#64 : BitVec 64) = (BitVec.allOnes 16).setWidth 64 from rfl, BitVec.getLsbD_setWidth, BitVec.getLsbD_allOnes]
    rcases lt_or_ge j 16 with hj | hj
    · simp [hj, show j < 64 by omega]
    · simp [hj]
  simp only [BitVec.getLsbD_or, BitVec.getLsbD_and, BitVec.getLsbD_not, BitVec.getLsbD_shiftLeft, hones,
    BitVec.getLsbD_setWidth, decide_eq_true hi, Bool.true_and]
  rcases lt_or_ge i (16 * h) with hlt | hge
  · simp [hlt, show ¬i / 16 = h by omega]
  · rcases lt_or_ge (i - 16 * h) 16 with hin | hout
    · rw [if_pos (by omega), show i - 16 * h = i % 16 by omega, decide_eq_false (by omega), decide_eq_true (by omega),
        decide_eq_true (by omega)]
      simp
    · simp [show ¬i < 16 * h by omega, show ¬i - 16 * h < 16 by omega, show ¬i / 16 = h by omega, BitVec.getLsbD_of_ge im _ hout]

/-- Settles O2: each operation leaves the latch of its value, which the lemmas above describe. -/
theorem integerImmediateResults : Obligations.IntegerImmediateResults := by
  unfold Obligations.IntegerImmediateResults
  intro s d a im i14 n h ha
  have hn : n.toNat < 64 := n.isLt
  refine ⟨givesResult_sInt1 ha (toInt_sub_emod (addi_eq_ofInt _ _)), givesResult_sInt1 ha fun i hi => ?andi,
    givesResult_sInt1 ha fun i => ?ori, givesResult_sInt1 ha fun i => ?xori, givesResult_sInt1 ha (toNat_shl _ _),
    givesResult_sInt1 ha (toNat_shr _ _), givesResult_sInt1 ha (toInt_sar _ _),
    givesResult_sInt1 ha fun i hi => getLsbD_rotl _ hn (Nat.mod_eq_of_lt hn) hi, givesResult_sInt1 ha (toInt_sub_emod (movi_eq_ofInt _ _)),
    givesResult_sInt1 ha fun i hi => getLsbD_movk _ _ hi⟩
  case andi => rw [BitVec.getLsbD_and, getLsbD_signExtend_imm _ hi]
  case ori => rw [BitVec.getLsbD_or, getLsbD_setWidth_imm]
  case xori => rw [BitVec.getLsbD_xor, getLsbD_setWidth_imm]

end Sys2Proof.Proofs
end

section
/-! PROOF. Compares, predicate logic and moves (O3), products and quotients (O5). -/

namespace Sys2Proof.Proofs

open Sys2Proof.Machine
open Sys2Proof.Laws

/-! ## Predicates (R181, R183) -/

/-- R149, R175: an S syllable with a predicate result that acts gives its truth. -/
theorem sPred_gives {s : State} (ha : acts s = true) {d : Fin 8} {srcs : List (Fin 32)} {v q : Bool} (h : v = q) :
    sPred s d srcs v = .next (scalarNext s 1 (.p d) srcs (predWord q)) := h ▸ sPred_next s ha d srcs v

theorem beq_eq_toNat (x y : Word) : (x == y) = decide (x.toNat = y.toNat) := by
  rw [Bool.beq_eq_decide_eq, decide_eq_decide, BitVec.toNat_inj]

theorem bne_eq_toNat (x y : Word) : (x != y) = decide (x.toNat ≠ y.toNat) := by
  rw [bne, beq_eq_toNat]
  simp

theorem beq_eq_toInt (x y : Word) : (x == y) = decide (x.toInt = y.toInt) := by
  rw [Bool.beq_eq_decide_eq, decide_eq_decide, BitVec.toInt_inj]

theorem toNat_setWidth_imm (im : BitVec 16) : (im.setWidth 64).toNat = im.toNat := by
  rw [BitVec.toNat_setWidth]
  omega

/-- Settles O3: each compare and each move by the lemma of its class, with its relation on numbers. -/
theorem comparePredicateResults : Obligations.ComparePredicateResults := by
  unfold Obligations.ComparePredicateResults
  refine ⟨fun s pd a b im ha => ?_, fun s pd pa pb k d a b ha => ?_⟩
  · refine ⟨sPred_gives ha (beq_eq_toNat _ _), sPred_gives ha (bne_eq_toNat _ _), sPred_gives ha BitVec.slt_eq_decide,
      sPred_gives ha BitVec.sle_eq_decide, sPred_gives ha BitVec.ult_eq_decide, sPred_gives ha BitVec.ule_eq_decide,
      sPred_gives ha ?_, sPred_gives ha ?_, sPred_gives ha ?_, sPred_gives ha ?_⟩
    · rw [beq_eq_toInt, toInt_imS]
    · rw [bne, beq_eq_toInt, toInt_imS]
      simp
    · rw [BitVec.slt_eq_decide, toInt_imS]
    · rw [BitVec.ult_eq_decide, toNat_setWidth_imm]
  · refine ⟨sPred_next s ha .., sPred_next s ha .., sPred_next s ha .., sPred_next s ha .., sPred_next s ha ..,
      sPred_next s ha .., sPred_next s ha .., sPred_gives ha ?_, sInt1_next s ha .., sInt1_next s ha ..⟩
    rw [bne, Bool.beq_eq_decide_eq]
    simp

/-! ## Products (R188) -/

theorem toInt_hiWord_mul (x y : Word) : (hiWord (x.toInt * y.toInt)).toInt = x.toInt * y.toInt / 2 ^ 64 := by
  have hx := BitVec.two_mul_toInt_lt (x := x)
  have hx' := BitVec.le_two_mul_toInt (x := x)
  have hy := BitVec.two_mul_toInt_lt (x := y)
  have hy' := BitVec.le_two_mul_toInt (x := y)
  have hp : |x.toInt * y.toInt| ≤ 2 ^ 63 * 2 ^ 63 := by
    rw [abs_mul]
    exact mul_le_mul (abs_le.mpr ⟨by omega, by omega⟩) (abs_le.mpr ⟨by omega, by omega⟩) (abs_nonneg _) (by norm_num)
  rw [abs_le] at hp
  rw [hiWord, BitVec.toInt_ofInt, Int.bmod_eq_of_le (by omega) (by omega)]

theorem toNat_hiWord_mul (x y : Word) : (hiWord (x.toNat * y.toNat)).toNat = x.toNat * y.toNat / 2 ^ 64 := by
  have hp : x.toNat * y.toNat < 2 ^ 64 * 2 ^ 64 := Nat.mul_lt_mul'' x.isLt y.isLt
  have hc : ((x.toNat * y.toNat : Int)) / 2 ^ 64 = ((x.toNat * y.toNat / 2 ^ 64 : Nat) : Int) := by push_cast; rfl
  rw [hiWord, hc, BitVec.ofInt_natCast, BitVec.toNat_ofNat]
  omega

/-! ## Quotients and remainders (R188) -/

theorem eq_zero_iff_toInt (y : Word) : y = 0 ↔ y.toInt = 0 := by
  rw [← BitVec.toInt_inj]
  rfl

theorem toInt_divS (x y : Word) : (divS x y).toInt = if y.toInt = 0 then -1
    else if x.toInt = -2 ^ 63 ∧ y.toInt = -1 then -2 ^ 63 else x.toInt.tdiv y.toInt := by
  rw [divS]
  simp only [eq_zero_iff_toInt]
  split
  · rfl
  · split
    case isTrue h =>
      rw [BitVec.toInt_sdiv, h.1, h.2]
      decide
    case isFalse h =>
      refine BitVec.toInt_sdiv_of_ne_or_ne x y ?_
      by_contra hc
      simp only [not_or, not_not] at hc
      obtain ⟨rfl, rfl⟩ := hc
      exact h ⟨rfl, rfl⟩

theorem toInt_remS (x y : Word) : (remS x y).toInt = if y.toInt = 0 then x.toInt
    else if x.toInt = -2 ^ 63 ∧ y.toInt = -1 then 0 else x.toInt.tmod y.toInt := by
  rw [remS]
  simp only [eq_zero_iff_toInt]
  split
  · rfl
  · rw [BitVec.toInt_srem]
    split
    case isTrue h => rw [h.1, h.2]; rfl
    case isFalse h => rfl

theorem eq_zero_iff_toNat (y : Word) : y = 0 ↔ y.toNat = 0 := by
  rw [← BitVec.toNat_inj]
  rfl

theorem toNat_divn (x y : Word) : (if y = 0 then BitVec.allOnes 64 else x / y).toNat =
    if y.toNat = 0 then 2 ^ 64 - 1 else x.toNat / y.toNat := by
  simp only [eq_zero_iff_toNat]
  split
  · rfl
  · exact BitVec.toNat_udiv

theorem toNat_remn (x y : Word) : (if y = 0 then x else x % y).toNat =
    if y.toNat = 0 then x.toNat else x.toNat % y.toNat := by
  simp only [eq_zero_iff_toNat]
  split
  · rfl
  · exact BitVec.toNat_umod

/-- Settles O5: each operation leaves the latch of its value, which the lemmas above describe. -/
theorem multiplyDivideResults : Obligations.MultiplyDivideResults := by
  unfold Obligations.MultiplyDivideResults
  intro s d a b ha
  exact ⟨givesResult_sInt1 ha (BitVec.toNat_mul _ _), givesResult_sInt1 ha (toInt_hiWord_mul _ _),
    givesResult_sInt1 ha (toNat_hiWord_mul _ _), givesResult_sInt1 ha (toInt_divS _ _),
    givesResult_sInt1 ha (toNat_divn _ _), givesResult_sInt1 ha (toInt_remS _ _), givesResult_sInt1 ha (toNat_remn _ _)⟩

end Sys2Proof.Proofs
end

section
/-! PROOF. Scalar bit operations, by the bits of their results (O4). -/

namespace Sys2Proof.Proofs

open Sys2Proof.Machine
open Sys2Proof.Laws

/-! ## Words by their bits -/

theorem getLsbD_ofNat_word (n : Nat) {i : Nat} (hi : i < 64) : (BitVec.ofNat 64 n).getLsbD i = n.testBit i := by
  rw [BitVec.getLsbD_ofNat, decide_eq_true hi, Bool.true_and]

/-- A word made of a number has the bits of what the number leaves modulo 2^64. -/
theorem getLsbD_ofNat_mod {n : Nat} {P : Nat → Bool} (h : HasBits 64 (n % 2 ^ 64) P) {i : Nat} (hi : i < 64) :
    (BitVec.ofNat 64 n).getLsbD i = P i := by
  rw [getLsbD_ofNat_word n hi, ← h.2 i hi, Nat.testBit_mod_two_pow, decide_eq_true hi, Bool.true_and]

/-- R187: a count of at most 64 is the number of its word. -/
theorem toNat_ofNat_count {n : Nat} (h : n ≤ 64) : (BitVec.ofNat 64 n).toNat = n := by
  rw [BitVec.toNat_ofNat]
  omega

/-! ## Counts and searches (R187) -/

theorem onesBelow_le (a n : Nat) : onesBelow a n ≤ n :=
  (List.length_filter_le _ _).trans_eq List.length_range

theorem fnsNat_le (w a b : Nat) : fnsNat w a b ≤ w := by
  rcases fnsNat_spec w a b with ⟨h, -⟩ | ⟨h, -⟩ <;> omega

/-- R187: CTZ: a number that is no multiple of 2^w has its lowest set bit there. -/
theorem ctzNat_spec (w a : Nat) : ctzNat w a ≤ w ∧ (∀ i, i < ctzNat w a → a.testBit i = false) ∧
    (ctzNat w a < w → a.testBit (ctzNat w a) = true) := by
  simp only [ctzNat, div_pow_mod_two_beq]
  cases h : (List.range w).find? fun i => a.testBit i with
  | none =>
    refine ⟨le_rfl, fun i hi => ?_, fun hw => absurd hw (lt_irrefl w)⟩
    simpa using List.find?_eq_none.mp h i (List.mem_range.mpr hi)
  | some k =>
    obtain ⟨hk, hkw, hbelow⟩ := List.find?_range_eq_some.mp h
    refine ⟨(List.mem_range.mp hkw).le, fun i hi => ?_, fun _ => hk⟩
    simpa using hbelow i hi

/-! ## Fields (R187) -/

theorem fieldDesc_le (y : Word) : (fieldDesc y).2 ≤ 64 - (fieldDesc y).1 := min_le_right _ _

/-- R187: BFX: above the field its top bit is repeated. -/
theorem getLsbD_bfx (x y : Word) {i : Nat} (hi : i < 64) :
    (BitVec.ofNat 64 (bfxNat 64 x.toNat (fieldDesc y).1 (fieldDesc y).2 true)).getLsbD i =
      (decide (0 < (fieldDesc y).2) && x.getLsbD ((fieldDesc y).1 + min i ((fieldDesc y).2 - 1))) := by
  have hle := fieldDesc_le y
  generalize (fieldDesc y).1 = o at hle ⊢
  generalize (fieldDesc y).2 = n at hle ⊢
  rw [getLsbD_ofNat_word _ hi, testBit_bfxNat (by omega)]
  rcases Nat.eq_zero_or_pos n with rfl | h0
  · rfl
  · rw [decide_eq_true h0, Bool.true_and, Bool.true_and]
    split
    · rw [min_eq_left (by omega)]
      rfl
    · rw [min_eq_right (by omega), decide_eq_true hi, Bool.true_and, Bool.true_and, Nat.add_sub_assoc h0]
      rfl

/-- R187: BFXN: above the field there are zeros. -/
theorem getLsbD_bfxn (x y : Word) {i : Nat} (hi : i < 64) :
    (BitVec.ofNat 64 (bfxNat 64 x.toNat (fieldDesc y).1 (fieldDesc y).2 false)).getLsbD i =
      (decide (i < (fieldDesc y).2) && x.getLsbD ((fieldDesc y).1 + i)) := by
  have hle := fieldDesc_le y
  rw [getLsbD_ofNat_word _ hi, testBit_bfxNat (by omega)]
  split
  case isTrue h =>
    rw [decide_eq_true (by omega), decide_eq_true h]
    rfl
  case isFalse h => rw [decide_eq_false h, Bool.false_and, Bool.false_and, Bool.and_false, Bool.false_and]

/-- Settles O4: each operation leaves the latch of its value; its bits by the lemmas on numbers of any width. -/
theorem bitOperationResults : Obligations.BitOperationResults := by
  unfold Obligations.BitOperationResults
  intro s d a b ha
  refine ⟨givesResult_sInt1 ha ?clz, givesResult_sInt1 ha ?ctz, givesResult_sInt1 ha ?popc,
    givesResult_sInt1 ha fun i hi => ?brev, givesResult_sInt1 ha ?fns, givesResult_sInt1 ha fun i hi => getLsbD_bfx _ _ hi,
    givesResult_sInt1 ha fun i hi => getLsbD_bfxn _ _ hi, givesResult_sInt1 ha fun i hi => ?bfi,
    givesResult_sInt1 ha fun i hi => getLsbD_ofNat_mod
      (hasBits_fshl (rdG s a).isLt _ (Nat.mod_lt _ (by decide))) hi,
    givesResult_sInt1 ha fun i hi => getLsbD_ofNat_mod (hasBits_fshr (rdG s d).isLt _ _) hi⟩
  case clz =>
    have h := clzNat_spec (rdG s a).isLt
    rw [toNat_ofNat_count h.1]
    exact h
  case ctz =>
    have h := ctzNat_spec 64 (rdG s a).toNat
    rw [toNat_ofNat_count h.1]
    exact h
  case popc =>
    rw [popNat_eq_onesBelow]
    exact toNat_ofNat_count (onesBelow_le _ _)
  case brev =>
    rw [getLsbD_ofNat_word _ (by omega), (hasBits_brev 64 _).2 _ (by omega)]
    beta_reduce
    rw [show 64 - 1 - (63 - i) = i by omega]
    rfl
  case fns =>
    rw [toNat_ofNat_count (fnsNat_le _ _ _)]
    exact fnsNat_spec 64 _ _
  case bfi =>
    rw [getLsbD_ofNat_word _ hi]
    exact testBit_bfiNat _ _ _ _ _

end Sys2Proof.Proofs
end

section
/-! PROOF. Scalar floating point at issue (O6), FCLASS (O8), and what every S syllable leaves (O9). -/

namespace Sys2Proof.Proofs

open Sys2Proof.Machine
open Sys2Proof.Laws

/-! ## The operations and their latches (R184) -/

/-- Settles O6: each operation is the latch of its result (fpLatch_next). -/
theorem floatResults : Obligations.FloatResults := by
  unfold Obligations.FloatResults
  intro s d a b pd f m ha
  have bits (lat : Nat) (srcs : List (Fin 32)) (r : Res) :
      fpRes s lat d srcs r = .next (floatNext s lat (.g d) srcs r (BitVec.ofNat 64 r.bits)) := fpLatch_next s ha ..
  have cmp (ordered : Bool) (rel : Option Ordering → Bool) :
      fpCmp s pd a b f ordered rel = .next (floatNext s 2 (.p pd) [a, b]
        ⟨0, if ordered && (fpCompare (sVal s f a) (sVal s f b)).isNone then (nanFlags [sVal s f a, sVal s f b]).1 ||| flNV
          else (nanFlags [sVal s f a, sVal s f b]).1, false, (nanFlags [sVal s f a, sVal s f b]).2⟩
        (predWord (rel (fpCompare (sVal s f a) (sVal s f b))))) := fpLatch_next s ha ..
  exact ⟨bits .., bits .., bits .., bits .., bits .., bits .., bits .., bits .., bits .., cmp false (· == some .eq),
    cmp true (· == some .lt), cmp true (fun o => o == some .lt || o == some .eq), cmp false Option.isNone,
    bits .., bits .., bits .., fpLatch_next s ha .., bits .., bits .., bits .., bits .., bits ..⟩

/-! ## FCLASS (R186) -/

/-- R46, R186: the class of a value of a format with infinities by its sign, its exponent and its fraction. -/
theorem fpClass_eq {f eb fb bias : Nat} (hp : fpParams f = (eb, fb, bias)) (hi : fpHasInf f = true) (h17 : f ≠ 17)
    (w : Nat) : fpClass f w =
      if w / 2 ^ fb % 2 ^ eb = 2 ^ eb - 1 then
        if w % 2 ^ fb = 0 then (if w / 2 ^ (fb + eb) % 2 = 1 then 1 else 0x80)
        else (if w % 2 ^ fb < 2 ^ (fb - 1) then 0x100 else 0x200)
      else if w / 2 ^ fb % 2 ^ eb = 0 then
        if w % 2 ^ fb = 0 then (if w / 2 ^ (fb + eb) % 2 = 1 then 8 else 16)
        else (if w / 2 ^ (fb + eb) % 2 = 1 then 4 else 32)
      else (if w / 2 ^ (fb + eb) % 2 = 1 then 2 else 64) := by
  have h14 : f ≠ 14 := by rintro rfl; exact absurd hi (by decide)
  have hfrac : w % 2 ^ fb < 2 ^ fb := Nat.mod_lt _ (Nat.two_pow_pos fb)
  have hpos := Nat.two_pow_pos fb
  rw [fpClass, fpDecode, if_neg h17, hp]
  simp only [hi, h14, false_and, and_true, if_false]
  by_cases htop : w / 2 ^ fb % 2 ^ eb = 2 ^ eb - 1
  · by_cases hz : w % 2 ^ fb = 0
    · simp only [if_pos htop, if_pos hz, beq_iff_eq]
    · simp only [if_pos htop, if_neg hz, decide_eq_true_eq]
  · by_cases hsub : w / 2 ^ fb % 2 ^ eb = 0
    · simp only [if_neg htop, if_pos hsub, if_pos hfrac, beq_iff_eq]
    · have hne : ¬2 ^ fb + w % 2 ^ fb = 0 := by omega
      have hge : ¬2 ^ fb + w % 2 ^ fb < 2 ^ fb := by omega
      simp only [if_neg htop, if_neg hsub, if_neg hne, if_neg hge, beq_iff_eq]

/-- Settles O8: the class by the fields of its format (fpClass_eq). -/
theorem floatClassMask : Obligations.FloatClassMask := by
  unfold Obligations.FloatClassMask
  intro s d a f ha
  refine givesResult_sInt1 ha ?_
  cases f with
  | true =>
    rw [fpClass_eq (f := sFmt true) rfl rfl (by decide)]
    simp only [apply_ite (BitVec.ofNat 64)]
    rfl
  | false =>
    rw [fpClass_eq (f := sFmt false) rfl rfl (by decide)]
    simp only [apply_ite (BitVec.ofNat 64)]
    rfl

/-! ## What an S syllable leaves (R44, R175) -/

theorem mem_updIsland {us : List Island} {n : Nat} {f : Island → Island} (hf : ∀ u, (f u).n = u.n) {u : Island}
    (hu : u ∈ updIsland us n f) (hn : u.n ≠ n) : u ∈ us := by
  rw [updIsland] at hu
  split at hu
  · obtain ⟨x, hx, rfl⟩ := List.mem_map.mp hu
    split
    case isTrue h =>
      rw [if_pos h, hf] at hn
      exact absurd (eq_of_beq h) hn
    case isFalse h => exact hx
  · rcases List.mem_append.mp hu with hu | hu
    · exact hu
    · rw [List.mem_singleton.mp hu, hf] at hn
      exact absurd rfl hn

/-- R424: a charge, with latches that are to commit later. -/
theorem leavesLatch_charge (s : State) (n : Nat) {ls : List Latch} (h1 : ls.length ≤ 1)
    (h : ∀ l ∈ ls, s.ctx.now < l.due ∧ l.issue = s.ctx.now) :
    leavesLatch s ((charge s n).up fun c => { c with latches := c.latches ++ ls }) := by
  obtain ⟨e, v, dr, us, hc⟩ := charge_eq s n
  have hus : updIsland s.units s.ctx.gunit (fun x => { x with eisl := (x.eisl + n) % 2 ^ 64 }) = us := congrArg State.units hc
  refine ⟨ls, us, e, v, dr, by rw [hc]; rfl, h1, h, fun u hu hn => ?_⟩
  rw [← hus] at hu
  exact mem_updIsland (by intro _; rfl) hu hn

theorem idle_leavesLatch (s : State) : leavesLatch s (idle s) := by
  have h := leavesLatch_charge s (weight s 6) (ls := []) (Nat.zero_le _) (by simp)
  simp only [List.append_nil] at h
  exact h

theorem sOp_leavesLatch (s : State) {lat : Nat} (hl : 0 < lat) (d : Dest) (srcs : List (Fin 32)) (v : Word) (fl : Nat)
    (bad : Option Trap) : ∃ t, sOp s lat d srcs v fl bad = .next t ∧ leavesLatch s t := by
  rw [sOp]
  split
  · refine ⟨_, rfl, leavesLatch_charge s (weight s 0) le_rfl fun l hm => ?_⟩
    rw [List.mem_singleton.mp hm, charge_newLatch]
    exact ⟨Nat.lt_add_of_pos_right hl, rfl⟩
  · exact ⟨_, rfl, idle_leavesLatch s⟩

theorem fpLatch_leavesLatch (s : State) {lat : Nat} (hl : 0 < lat) (d : Dest) (srcs : List (Fin 32)) (r : Res) (v : Word) :
    ∃ t, fpLatch s lat d srcs r v = .next t ∧ leavesLatch s t := by
  rw [fpLatch]
  split
  · refine ⟨_, rfl, leavesLatch_charge s (weight s 0) le_rfl fun l hm => ?_⟩
    rw [List.mem_singleton.mp hm, charge_newLatch]
    exact ⟨Nat.lt_add_of_pos_right hl, rfl⟩
  · exact ⟨_, rfl, idle_leavesLatch s⟩

/-- Settles O9: an S syllable is the shared operation of its kind, without floating point or with it. -/
theorem scalarSyllableFrame : Obligations.ScalarSyllableFrame := by
  unfold Obligations.ScalarSyllableFrame
  intro s i hf
  cases i with
  | fadd | fsub | fmul | ffma | ffms | fdiv | fsqrt | fmin | fmax | fcmpeq | fcmplt | fcmple | fcmpun | fcvtFloat | fcvtToI64
  | fcvtToN64 | fcvtToI32 | fcvtToN32 | fcvtFromI64 | fcvtFromN64 | fcvtFromI32 | fcvtFromN32 =>
    exact fpLatch_leavesLatch s (by decide) ..
  | _ => simp only [format, reduceCtorEq] at hf <;> exact sOp_leavesLatch s (by decide) ..

end Sys2Proof.Proofs
end

section
/-! PROOF. Loads and stores at issue: the checks of their addresses, and what those that pass leave (O12). -/

namespace Sys2Proof.Proofs

open Sys2Proof.Machine
open Sys2Proof.Laws

/-! ## Accesses that pass their checks (R189, R191, R192) -/

section
variable {s : State} (ha : acts s = true) {b : Fin 32} {inc : Fin 4} {o : BitVec 7} {size : Nat}
include ha

theorem loadOp_next (v : Fin 32) (sg : Bool) (hc : memCheck s (memAddr (rdG s b) inc o size) (2 ^ size) true false = none) :
    loadOp s v b inc o size sg = .next (loadNext s v b inc o size sg) := by
  simp only [loadOp, ha, if_true, hc]
  rfl

theorem storeOp_next {val : Word} {srcs : List (Fin 32)} {quar : Bool} (hb : badReg s 5 (b :: srcs) = none)
    (hc : memCheck s (memAddr (rdG s b) inc o size) (2 ^ size) false quar = none) :
    storeOp s val srcs b inc o size quar = .next (storeNext s val b inc o size) := by
  simp only [storeOp, ha, if_true, hc, hb]
  rfl

/-! ## Accesses whose check fails (R150, R190) -/

theorem loadOp_trap {x : Trap} (v : Fin 32) (sg : Bool)
    (hc : memCheck s (memAddr (rdG s b) inc o size) (2 ^ size) true false = some x) :
    loadOp s v b inc o size sg = .next (takeTrap s x) := by
  simp only [loadOp, ha, if_true, hc]

theorem storeOp_trap {x : Trap} {val : Word} {srcs : List (Fin 32)} {quar : Bool}
    (hc : memCheck s (memAddr (rdG s b) inc o size) (2 ^ size) false quar = some x) :
    storeOp s val srcs b inc o size quar = .next (takeTrap s x) := by
  simp only [storeOp, ha, if_true, hc]

/-- R150: an access of any kind traps with what its check raises. -/
theorem exec_access_trap {i : Instr} (hi : access i = some (b, inc, o, size)) {x : Trap}
    (hc : ∀ load quar, memCheck s (memAddr (rdG s b) inc o size) (2 ^ size) load quar = some x) :
    exec i s = .next (takeTrap s x) := by
  cases i with
  | ldB | ldBn | ldH | ldHn | ldW | ldWn | ldD => cases hi; exact loadOp_trap ha _ _ (hc true false)
  | stB | stH | stW | stD => cases hi; exact storeOp_trap ha (hc false false)
  | stq => cases hi; exact storeOp_trap ha (hc false true)
  | _ => cases hi

end

section
variable {s : State} {a : Word} {n : Nat}

theorem inGrant_iff (c : Ctx) (x n : Nat) : c.inGrant x n = true ↔ c.hdr.gbase ≤ x ∧ x + n ≤ c.hdr.gbase + c.hdr.quota := by
  simp [Ctx.inGrant]

/-- R150: an address beyond the local space, or a byte outside the grant. -/
theorem memCheck_outside (h : a.toNat ≥ 2 ^ 24 ∨ ¬s.ctx.inGrant a.toNat n = true) (load quar : Bool) :
    memCheck s a n load quar = some (fatalTrap s none none) := by
  rw [memCheck]
  exact if_pos (by simpa using h)

/-- R190: an address that is no multiple of the size. -/
theorem memCheck_misaligned (ha : a.toNat < 2 ^ 24) (hg : s.ctx.inGrant a.toNat n = true) (hn : a.toNat % n ≠ 0)
    (load quar : Bool) : memCheck s a n load quar = some (mkTrap s 0x06 (some a) (some 1) none) := by
  simp only [memCheck, hg, Nat.not_le.mpr ha, Bool.not_true, Bool.false_eq_true, or_self, if_false, if_pos hn]

/-- R190: outside deterministic mode an aligned access within the grant passes, but for STQ. -/
theorem memCheck_pass (ha : a.toNat < 2 ^ 24) (hg : s.ctx.inGrant a.toNat n = true) (hn : a.toNat % n = 0)
    (hd : s.ctx.hdr.det = false) (load : Bool) : memCheck s a n load false = none := by
  simp only [memCheck, hg, Nat.not_le.mpr ha, Bool.not_true, Bool.false_eq_true, or_self, if_false, hn, hd,
    Bool.not_false, if_true, ne_eq, not_true]

end

/-- Settles O12: the accesses that pass by loadOp_next and storeOp_next, the others by what memCheck raises. -/
theorem loadsAndStores : Obligations.LoadsAndStores := by
  unfold Obligations.LoadsAndStores
  refine ⟨fun s v b q im o ha => ?_, fun s i b inc o size ha hi => ?_⟩
  · exact ⟨loadOp_next ha v true, loadOp_next ha v false, loadOp_next ha v true, loadOp_next ha v false,
      loadOp_next ha v true, loadOp_next ha v false, loadOp_next ha v true, storeOp_next ha, storeOp_next ha, storeOp_next ha, storeOp_next ha,
      storeOp_next ha⟩
  · simp only [← inGrant_iff]
    exact ⟨fun h => exec_access_trap ha hi fun load quar => memCheck_outside h load quar,
      fun h24 hg hn => exec_access_trap ha hi fun load quar => memCheck_misaligned h24 hg hn load quar,
      fun h24 hg hn hd load => memCheck_pass h24 hg hn hd load⟩

end Sys2Proof.Proofs
end

section
/-! PROOF. The bytes that a load reads and a store writes (O13). -/

namespace Sys2Proof.Proofs

open Sys2Proof.Machine
open Sys2Proof.Laws

/-! ## Loads (R191) -/

theorem spadRead_eq_map (s : State) (a n : Nat) : spadRead s a n = (List.range n).map fun i => spadByte s (a + i) := by
  simp only [spadRead, memRead, spadByte, spadKey_add]

/-- R191: the load of one pending latch, at its task cycle. -/
theorem doLoads_one {s : State} {l : Latch} {t : Nat} (hl : s.ctx.latches = [l]) (hld : l.ld.isSome = true)
    (hd : l.due = t + 2) : (doLoads s t).ctx.latches = [readLoad s l] := by
  simp [doLoads, hl, hld, hd]

/-- R191: n bytes make a number that n bytes hold. -/
theorem leNat_map_lt (f : Nat → Byte) (n : Nat) : leNat ((List.range n).map f) < 256 ^ n := by
  simpa using leNat_lt ((List.range n).map f)

/-- R191: a load keeps the bytes it has read in its latch, and forms no trap when their sector has its code. -/
theorem readLoad_eq {s : State} {l : Latch} {a n : Nat} {sg : Bool} (hld : l.ld = some ⟨a, n, sg⟩) (hs : spadSyn s a = 0) :
    readLoad s l = { l with ld := none, val := (readLoad s l).val } := by
  simp [readLoad, hld, hs]

/-- R191: the value of a load, zero-extended. -/
theorem readLoad_unsigned {s : State} {l : Latch} {a n : Nat} (hld : l.ld = some ⟨a, n, false⟩) (hn : n ≤ 8) :
    (readLoad s l).val.toNat = leNat ((List.range n).map fun i => spadByte s (a + i)) := by
  have hlt := leNat_map_lt (fun i => spadByte s (a + i)) n
  have hp : 256 ^ n ≤ 256 ^ 8 := Nat.pow_le_pow_right (by decide) hn
  simp only [readLoad, hld, spadRead_eq_map, Bool.false_eq_true, if_false, BitVec.toNat_ofNat]
  exact Nat.mod_eq_of_lt (lt_of_lt_of_le hlt hp)

/-- R191: the value of a load, sign-extended. -/
theorem readLoad_signed {s : State} {l : Latch} {a n : Nat} (hld : l.ld = some ⟨a, n, true⟩) (hn : n ∈ [1, 2, 4, 8]) :
    (readLoad s l).val.toInt = Int.bmod (leNat ((List.range n).map fun i => spadByte s (a + i))) (2 ^ (8 * n)) := by
  simp only [readLoad, hld, spadRead_eq_map, if_true]
  generalize leNat ((List.range n).map fun i => spadByte s (a + i)) = v
  have hext : ∀ w, w ≤ 64 → ((BitVec.ofNat w v).signExtend 64).toInt = Int.bmod v (2 ^ w) := fun w hw => by
    rw [BitVec.toInt_signExtend_of_le hw, BitVec.toInt_ofNat']
  simp only [List.mem_cons, List.not_mem_nil, or_false] at hn
  rcases hn with rfl | rfl | rfl | rfl
  · exact hext 8 (by decide)
  · exact hext 16 (by decide)
  · exact hext 32 (by decide)
  · exact BitVec.toInt_ofNat' v

/-! ## Stores (R192) -/

/-- R192: byte i of a value. -/
theorem getD_leBytes {n i : Nat} (v : Nat) (hi : i < n) : (leBytes n v).getD i 0 = BitVec.ofNat 8 (v / 2 ^ (8 * i)) := by
  induction n generalizing v i with
  | zero => omega
  | succ n ih =>
    cases i with
    | zero => simp [leBytes]
    | succ i =>
      rw [leBytes, List.getD_cons_succ, ih _ (by omega), Nat.div_div_eq_div_mul, show 8 * (i + 1) = 8 + 8 * i by omega, Nat.pow_add]

/-- R456: the write of a context that has one, when it is due. -/
theorem writesAt_one {s : State} {w : DWrite} {t : Nat} (hw : s.ctx.dws = [w]) (hd : w.due ≤ t)
    (ht : s.ctx.iss.trapped = false) : writesAt s t = makeWrite (s.up fun c => { c with dws := [] }) w := by
  have herase : (s.up fun c => { c with dws := c.dws.erase w }) = s.up fun c => { c with dws := [] } := by
    simp only [State.up, hw, List.erase_cons_head]
  have hdue : s.ctx.dws.filter (fun w => w.due ≤ t) = [w] := by simp [hw, hd]
  rw [writesAt, hdue, ← herase]
  exact if_neg (by simp [ht])

/-- R90, R192: an aligned store lies in one sector. -/
theorem sector_of_aligned {a n i : Nat} (hn : n ∈ [1, 2, 4, 8]) (ha : a % n = 0) (hi : i < n) : (a + i) / 32 = a / 32 := by
  simp only [List.mem_cons, List.not_mem_nil, or_false] at hn
  rcases hn with rfl | rfl | rfl | rfl <;> omega

theorem spadSyn_sector (s : State) (a : Nat) : spadSyn s (32 * (a / 32)) = spadSyn s a := by
  simp only [spadSyn, spadKey]
  congr 1
  omega

/-- R90: a store into a sector that has its code merges without a mismatch. -/
theorem badMerge_store {s : State} {a n v : Nat} (hn : n ∈ [1, 2, 4, 8]) (ha : a % n = 0) (hs : spadSyn s a = 0) :
    badMerge s (runCells a (leBytes n v)) = none := by
  refine List.find?_eq_none.mpr fun k hk => ?_
  obtain ⟨y, hy, rfl⟩ := List.mem_map.mp (mem_dedup.mp hk)
  obtain ⟨i, hi, rfl⟩ := mem_runCells.mp hy
  rw [leBytes_length] at hi
  have hsec : spadSyn s (32 * ((a + i) / 32)) = 0 := by rw [sector_of_aligned hn ha hi, spadSyn_sector, hs]
  simp [hsec]

/-- R90, R192: a store on the Sole die writes its bytes. -/
theorem makeStore_eq {s : State} {w : DWrite} {a n : Nat} {v : Word} (hu : s.ctx.upper = false) (hn : n ∈ [1, 2, 4, 8])
    (ha : a % n = 0) (hs : spadSyn s a = 0) : ∃ ts, makeStore s w a n v =
      putCells (s.up fun c => { c with touch := ts }) (runCells a (leBytes n v.toNat)) := by
  have hkeep : keepCells s w.issue (runCells a (leBytes n v.toNat)) = runCells a (leBytes n v.toNat) := by simp [keepCells, hu]
  have hbad (ts) : badMerge (s.up fun c => { c with touch := ts }) (runCells a (leBytes n v.toNat)) = none :=
    badMerge_store hn ha hs
  have htouch : ∃ ts, (if (runCells a (leBytes n v.toNat)).isEmpty = true then s
      else s.up fun c => { c with touch := c.touch ++ [⟨5, w.pos, w.pc, 5, a, n, none⟩] }) =
      s.up fun c => { c with touch := ts } := by
    split
    · exact ⟨s.ctx.touch, rfl⟩
    · exact ⟨_, rfl⟩
  obtain ⟨ts, hts⟩ := htouch
  exact ⟨ts, by simp only [makeStore, hkeep, hts, hbad]⟩

/-- R192: the bytes of a run after they are written. -/
theorem spadByte_putCells_run (s : State) {a i : Nat} {bs : List Byte} (hi : i < bs.length) :
    spadByte (putCells s (runCells a bs)) (a + i) = bs.getD i 0 := by
  have hctx : (putCells s (runCells a bs)).ctx = s.ctx := putCells_keeps State.ctx (fun _ _ _ _ => rfl) s _
  rw [spadByte, hctx, memGet_putCells, overlay_runCells_in _ hi]

/-- R192: no other byte of memory is written. -/
theorem memGet_putCells_run_out (s : State) {a k : Nat} {bs : List Byte}
    (hk : k < spadKey s.ctx.gunit a ∨ spadKey s.ctx.gunit a + bs.length ≤ k) :
    memGet (putCells s (runCells a bs)).mem k = memGet s.mem k := by
  rcases lt_or_ge k (spadKey s.ctx.gunit 0) with hlow | hge
  · exact memGet_putCells_below s _ hlow
  · obtain ⟨x, rfl⟩ : ∃ x, k = spadKey s.ctx.gunit x := ⟨k - spadKey s.ctx.gunit 0, by simp only [spadKey] at hge ⊢; omega⟩
    rw [memGet_putCells, overlay_runCells_out]
    · rfl
    · simp only [spadKey] at hk
      omega

/-- Settles O13: a load by readLoad, a store by the bytes that putCells leaves. -/
theorem localBytesReadAndWritten : Obligations.LocalBytesReadAndWritten := by
  unfold Obligations.LocalBytesReadAndWritten
  refine ⟨fun s l a n t sg hld hn hl hd hs => ?_, fun s w a n v hw hact hd hn ha h24 hu ht hs => ?_⟩
  · refine ⟨readLoad s l, doLoads_one hl (by rw [hld]; rfl) hd, ?_⟩
    have hn8 : n ≤ 8 := by simp only [List.mem_cons, List.not_mem_nil, or_false] at hn; omega
    have hval : if sg = true then
        (readLoad s l).val.toInt = Int.bmod (leNat ((List.range n).map fun i => spadByte s (a + i))) (2 ^ (8 * n))
        else (readLoad s l).val.toNat = leNat ((List.range n).map fun i => spadByte s (a + i)) := by
      cases sg with
      | true => exact readLoad_signed hld hn
      | false => exact readLoad_unsigned hld hn8
    rw [readLoad_eq hld hs]
    exact ⟨rfl, rfl, rfl, rfl, rfl, hval⟩
  · obtain ⟨ts, hst⟩ := makeStore_eq (s := s.up fun c => { c with dws := [] }) (w := w) (v := v) hu hn ha hs
    have hwr : writesAt s s.ctx.now = putCells ((s.up fun c => { c with dws := [] }).up fun c => { c with touch := ts })
        (runCells a (leBytes n v.toNat)) := by
      rw [writesAt_one hw hd ht, ← hst, makeWrite, hact]
    have hctx : (writesAt s s.ctx.now).ctx = { s.ctx with dws := [], touch := ts } := by
      rw [hwr]
      exact putCells_keeps State.ctx (fun _ _ _ _ => rfl) _ _
    refine ⟨fun i hi => ?_, fun k hk => ?_, by rw [hctx], by rw [hctx]⟩
    · rw [hwr, spadByte_putCells_run _ (by rwa [leBytes_length]), getD_leBytes _ hi]
    · rw [hwr]
      exact memGet_putCells_run_out _ (by rwa [leBytes_length])

end Sys2Proof.Proofs
end

section
/-! PROOF. SHW and SHG: the fields of the shape registers (O14). -/

namespace Sys2Proof.Proofs

open Sys2Proof.Machine
open Sys2Proof.Laws

/-! ## Shape registers by engine and number (R25, R194) -/

theorem shIdx_eq_iff (e e' r r' : Fin 4) : shIdx e' r' = shIdx e r ↔ e' = e ∧ r' = r := by
  simp only [shIdx, Fin.ext_iff]
  omega

/-- R194: every field of a shape register fits in 24 bits. -/
theorem field_lt (h : Shape) (f : Nat) : h.field f < 2 ^ 24 := by
  unfold Shape.field
  split
  case h_8 => cases h.t <;> decide
  all_goals exact lt_of_lt_of_le (BitVec.isLt _) (by decide)

/-- R193: a shadow after one field of one shadow is written. -/
theorem getSd_shadow (u : State) (e r : Fin 4) (f : BitVec 4) (x : Word) (w : DWrite) (hw : w.act = .shadow e r f x)
    {e' : Fin 4} (he : e'.val < 3) (r' : Fin 4) : getSd (makeWrite u w).ctx.r e' r' =
      if e' = e ∧ r' = r then (getSd u.ctx.r e r).setField f.toNat x else getSd u.ctx.r e' r' := by
  simp only [makeWrite, hw, upR_ctx, getSd, getD_vset _ (shIdx_lt he r'), shIdx_eq_iff]

/-! ## The issue (R193, R194) -/

section
variable {s : State} (ha : acts s = true)
include ha

theorem exec_shw {v : Fin 32} (hb : badReg s 5 [v] = none) (e r : Fin 4) (f : BitVec 4) : exec (.shw v e r f) s =
    .next (addDW (charge s (weight s 1)) 1 (.shadow e r f (rdG s v))) := by
  have hg : badReg (charge s (weight s 1)) 5 [v] = none := by rw [charge_badReg, hb]
  show execShw v e r f s = _
  rw [execShw, mOp_next ha, regWrite_good hg, charge_rdG]

theorem exec_shg (v : Fin 32) (e r : Fin 4) (f : BitVec 4) (h : Bool) : exec (.shg v e r f h) s =
    .next (putLatch (charge s (weight s 1)) { newLatch s 2 (.g v)
      (BitVec.ofNat 64 ((if h = true then getSd s.ctx.r e r else getSh s.ctx.r e r).field f.toNat)) 0 none with slot := 5 }) := by
  show execShg v e r f h s = _
  simp only [execShg, mOp_next ha, charge_ctx_r, charge_newLatch]

end

/-- Settles O14: the issue by exec_shw and exec_shg, the commit by getSd_shadow. -/
theorem shapeFieldAccess : Obligations.ShapeFieldAccess := by
  unfold Obligations.ShapeFieldAccess
  intro s v e r f h ha he hf
  refine ⟨fun hb => ?_, ?_⟩
  · refine ⟨_, _, exec_shw ha hb e r f, by rw [addDW_dws, charge_ctx_dws], by rw [charge_now], by simp, by simp [addDW],
      by simp [sameStore], fun u => ⟨rfl, rfl, by simp [sameStore, makeWrite], fun e' r' he' => ?_⟩⟩
    exact getSd_shadow u e r f (rdG s v) _ rfl he' r'
  · refine ⟨_, _, exec_shg ha v e r f h, by rw [putLatch_latches, charge_ctx_latches], rfl, rfl, rfl, by simp, by simp [putLatch],
      by simp [sameStore], ?_⟩
    exact (BitVec.toNat_ofNat _ _).trans (Nat.mod_eq_of_lt (lt_trans (field_lt _ _) (by decide)))

end Sys2Proof.Proofs
end

section
/-! PROOF. Supervisor accesses: FDAT and the frame that it writes, TMR, COUNT and ISLCTL (O17). -/

namespace Sys2Proof.Proofs

open Sys2Proof.Machine
open Sys2Proof.Laws

/-! ## Dwords of a frame (R369) -/

theorem leBytes_leNat (bs : List Byte) : leBytes bs.length (leNat bs) = bs := by
  induction bs with
  | nil => rfl
  | cons b bs ih =>
    have hb := b.isLt
    have hlow : BitVec.ofNat 8 (leNat (b :: bs)) = b := by
      refine BitVec.eq_of_toNat_eq ?_
      rw [BitVec.toNat_ofNat, leNat_cons]
      omega
    have hhigh : leNat (b :: bs) / 256 = leNat bs := by
      rw [leNat_cons]
      omega
    rw [List.length_cons, leBytes, hlow, hhigh, ih]

theorem memGet_setFrameDword_out (s : State) {i k : Nat} (v : Word)
    (hk : k < heelKey (frameAddr s.ctx) + 8 * i ∨ heelKey (frameAddr s.ctx) + 8 * i + 8 ≤ k) :
    memGet (setFrameDword s i v).mem k = memGet s.mem k := by
  refine memGet_memPut_out s.mem ?_
  rw [leBytes_length]
  simp only [heelKey] at hk ⊢
  omega

/-- R369: a dword after another dword is written. -/
theorem frameDword_setFrameDword_ne (s : State) {i j : Nat} (h : i ≠ j) (v : Word) :
    frameDword (setFrameDword s j v) i = frameDword s i := by
  have hread : memRead (setFrameDword s j v).mem (heelKey (frameAddr s.ctx + 8 * i)) 8 =
      memRead s.mem (heelKey (frameAddr s.ctx + 8 * i)) 8 := by
    refine List.map_congr_left fun n hn => memGet_setFrameDword_out s v ?_
    have hn8 := List.mem_range.mp hn
    simp only [heelKey]
    omega
  exact congrArg (fun bs => BitVec.ofNat 64 (leNat bs)) hread

/-- A dword written with its own value leaves every byte. -/
theorem memGet_setFrameDword_self (s : State) (i k : Nat) : memGet (setFrameDword s i (frameDword s i)).mem k = memGet s.mem k := by
  by_cases hk : k < heelKey (frameAddr s.ctx) + 8 * i ∨ heelKey (frameAddr s.ctx) + 8 * i + 8 ≤ k
  · exact memGet_setFrameDword_out s _ hk
  · obtain ⟨j, hj, rfl⟩ : ∃ j, j < 8 ∧ k = heelKey (frameAddr s.ctx + 8 * i) + j := by
      refine ⟨k - heelKey (frameAddr s.ctx + 8 * i), ?_, ?_⟩
      all_goals
        simp only [heelKey] at hk ⊢
        omega
    have hbytes : leBytes 8 (frameDword s i).toNat = memRead s.mem (heelKey (frameAddr s.ctx + 8 * i)) 8 := by
      rw [frameDword_toNat]
      exact leBytes_leNat (memRead s.mem (heelKey (frameAddr s.ctx + 8 * i)) 8)
    rw [setFrameDword, hbytes, memGet_memPut_in s.mem (Nat.le_add_right _ j) (by rw [memRead_length]; omega),
      Nat.add_sub_cancel_left, memRead_getD _ _ hj]

/-! ## A write through FDAT (R371, R374) -/

/-- R371: the dwords that a write through FDAT replaces. -/
def frameRw (i : Nat) : Prop := i = 6 ∨ i = 9 ∨ (11 ≤ i ∧ i ≤ 15) ∨ i = 17 ∨ (32 ≤ i ∧ i < 64) ∨ (72 ≤ i ∧ i < 80)

/-- R371: the dwords that hold the head of the frame and its latch records, which take a write in part. -/
def framePart (i : Nat) : Prop := i = 0 ∨ (256 ≤ i ∧ i < 320)

theorem fdatValue_rw (s : State) {i : Nat} (h : frameRw i) (v : Word) : fdatValue s i v = v := by
  unfold frameRw at h
  rw [fdatValue, if_neg (by omega), if_pos h]

theorem fdatValue_ro (s : State) {i : Nat} (h : ¬frameRw i) (hp : ¬framePart i) (v : Word) : fdatValue s i v = frameDword s i := by
  unfold frameRw at h
  unfold framePart at hp
  rw [fdatValue, if_neg (by omega), if_neg h, if_neg (by omega)]

/-- R374: a write through FDAT: its dword, and with a slot of G or a latch VALUE the dword of its code. -/
theorem writeFdat_cases (s : State) (v : Word) : ∃ w, w = setFrameDword s s.ctx.fidx.toNat (fdatValue s s.ctx.fidx.toNat v) ∧
    ((32 ≤ s.ctx.fidx.toNat ∧ s.ctx.fidx.toNat < 64 ∧
        ∃ c, writeFdat s v = stepFidx (setFrameDword w (64 + (s.ctx.fidx.toNat - 32) / 4) c)) ∨
      (256 ≤ s.ctx.fidx.toNat ∧ s.ctx.fidx.toNat < 320 ∧
        ∃ c k, writeFdat s v = stepFidx (healLatch (setFrameDword w (s.ctx.fidx.toNat - 1) c) k)) ∨
      (¬(32 ≤ s.ctx.fidx.toNat ∧ s.ctx.fidx.toNat < 64) ∧ writeFdat s v = stepFidx w)) := by
  refine ⟨_, rfl, ?_⟩
  simp only [writeFdat]
  split
  case isTrue h => exact .inl ⟨h.1, h.2, _, rfl⟩
  case isFalse h =>
    split
    case isTrue h' => exact .inr (.inl ⟨h'.1, h'.2.1, _, _, rfl⟩)
    case isFalse h' => exact .inr (.inr ⟨h, rfl⟩)

theorem writeFdat_ctx (s : State) (v : Word) : (writeFdat s v).ctx.fidx = s.ctx.fidx + 1 ∧ (writeFdat s v).ctx.r = s.ctx.r := by
  obtain ⟨w, rfl, ⟨-, -, c, h⟩ | ⟨-, -, c, k, h⟩ | ⟨-, h⟩⟩ := writeFdat_cases s v <;> rw [h] <;> exact ⟨rfl, rfl⟩

/-- R374: an RW dword takes the value. -/
theorem frameDword_writeFdat (s : State) {v : Word} (h : frameRw s.ctx.fidx.toNat) :
    frameDword (writeFdat s v) s.ctx.fidx.toNat = v := by
  obtain ⟨w, hw, ⟨hlo, hhi, c, hv⟩ | ⟨hlo, hhi, -⟩ | ⟨-, hv⟩⟩ := writeFdat_cases s v
  · rw [hv]
    refine (frameDword_setFrameDword_ne w (by omega) c).trans ?_
    rw [hw, frameDword_setFrameDword, fdatValue_rw s h]
  · unfold frameRw at h
    omega
  · rw [hv]
    show frameDword w _ = v
    rw [hw, frameDword_setFrameDword, fdatValue_rw s h]

/-- R374: an RO dword takes nothing. -/
theorem memGet_writeFdat_ro (s : State) (v : Word) (h : ¬frameRw s.ctx.fidx.toNat) (hp : ¬framePart s.ctx.fidx.toNat) (k : Nat) :
    memGet (writeFdat s v).mem k = memGet s.mem k := by
  obtain ⟨w, hw, ⟨hlo, hhi, -⟩ | ⟨hlo, hhi, -⟩ | ⟨-, hv⟩⟩ := writeFdat_cases s v
  · unfold frameRw at h
    omega
  · unfold framePart at hp
    omega
  · rw [hv]
    show memGet w.mem k = _
    rw [hw, fdatValue_ro s h hp, memGet_setFrameDword_self]

/-- R369, R374: a write through FDAT stays within the 4,096 bytes of the frame. -/
theorem memGet_writeFdat_out (s : State) (v : Word) {k : Nat}
    (hk : k < heelKey (frameAddr s.ctx) ∨ heelKey (frameAddr s.ctx) + 4096 ≤ k) :
    memGet (writeFdat s v).mem k = memGet s.mem k := by
  have hi : s.ctx.fidx.toNat < 512 := s.ctx.fidx.isLt
  have hone {i : Nat} (u : State) (hu : frameAddr u.ctx = frameAddr s.ctx) (h : i < 512) (x : Word) :
      memGet (setFrameDword u i x).mem k = memGet u.mem k :=
    memGet_setFrameDword_out u x (by rw [hu]; omega)
  obtain ⟨w, hw, ⟨hlo, hhi, c, hv⟩ | ⟨hlo, hhi, c, n, hv⟩ | ⟨-, hv⟩⟩ := writeFdat_cases s v
  · rw [hv]
    refine (hone w (by rw [hw]; rfl) (by omega) c).trans ?_
    rw [hw, hone s rfl hi]
  · rw [hv]
    refine (hone w (by rw [hw]; rfl) (by omega) c).trans ?_
    rw [hw, hone s rfl hi]
  · rw [hv]
    show memGet w.mem k = _
    rw [hw, hone s rfl hi]

/-! ## COUNT and ISLCTL (R196, R418) -/

theorem exec_lcntWrite (s : State) {l : Fin 8} (hl : l.val < 6) (x : Word) : exec (.lcntWrite l x) s = .next (writeLoop s l 0 x) := by
  have hn : (BitVec.ofNat 12 (0x040 + 8 * l.val + 0)).toNat = 0x040 + 8 * l.val := by
    rw [BitVec.toNat_ofNat]
    omega
  show execLcntWrite l x s = _
  rw [execLcntWrite, if_pos hl, ← writeCtl_loop s x hl (by decide), hn]

/-- R449: an island beside the one that is changed. -/
theorem getIsland_upd_ne (s : State) {n k : Nat} (hk : k ≠ n) {f : Island → Island} (hf : ∀ u, (f u).n = u.n) (t : State)
    (ht : t.units = updIsland s.units n f) : getIsland t k = getIsland s k := by
  have hkey : ∀ u : Island, (if u.n == n then f u else u).n = u.n := fun u => by
    split
    · exact hf u
    · rfl
  have hfresh : ((f (Island.fresh n)).n == k) = false := by
    rw [hf]
    exact beq_false_of_ne fun h => hk h.symm
  unfold getIsland
  rw [ht, updIsland]
  split
  · have hsame : ((fun u : Island => u.n == k) ∘ fun u => if u.n == n then f u else u) = fun u => u.n == k := by
      funext u
      simp only [Function.comp_apply, hkey]
    rw [List.find?_map, hsame]
    cases hu : s.units.find? fun u => u.n == k with
    | none => rfl
    | some u =>
      have hun : u.n = k := by simpa using List.find?_some hu
      rw [Option.map_some, if_neg (by simp [hun, hk])]
  · rw [List.find?_append, List.find?_cons_of_neg (by simp [hfresh]), List.find?_nil, Option.or_none]

/-- R418: the fields of ISLCTL in its island. -/
def limited (x : Word) (u : Island) : Island :=
  { u with opcap := Fin.ofNat 8 (x.toNat / 256), thop := Fin.ofNat 8 (x.toNat / 32), hyst := x.toNat % 32 }

/-- R418, R419: what a write of ISLCTL makes of its island. -/
def islctl (x : Word) (u : Island) : Island := (limited x u).repoint

theorem islctl_n (x : Word) (u : Island) : (islctl x u).n = u.n := repoint_n _

/-- R418: the fields that ISLCTL sets, and those that it leaves. -/
theorem islctl_fields (x : Word) (u : Island) : (islctl x u).opcap.val = x.toNat / 2 ^ 8 % 8 ∧
    (islctl x u).thop.val = x.toNat / 2 ^ 5 % 8 ∧ (islctl x u).hyst = x.toNat % 32 ∧ (islctl x u).req = u.req ∧
    (islctl x u).opc = u.opc := by
  rw [islctl, repoint_keeps]
  exact ⟨rfl, rfl, rfl, rfl, rfl⟩

/-- R419: outside a settling the effective point is pending when it is not in force. -/
theorem islctl_pendOp {x : Word} {u : Island} (hs : u.settle = none) (hn : u.n ≤ 192) : (islctl x u).pendOp =
    if (islctl x u).point = (islctl x u).opc then none else some (islctl x u).point := by
  have hsettle : ¬(limited x u).settle.isSome = true := by simp [limited, hs]
  rw [islctl, repoint_pendOp (u := limited x u) hn, if_neg hsettle, repoint_point, repoint_opc]

theorem exec_islctlWrite (s : State) {n : Nat} (hn : n < 264) (x : Word) :
    exec (.islctlWrite n x) s = .next (writeIslctl s n x) := congrArg Host.Outcome.next (if_pos hn)

theorem getIsland_writeIslctl (s : State) (n : Nat) (x : Word) : getIsland (writeIslctl s n x) n = islctl x (getIsland s n) :=
  getIsland_upd s n (islctl_n x) (writeIslctl s n x) rfl

/-- Settles O17: FDAT by the cases of writeFdat, COUNT as LCNT, ISLCTL by islctl. -/
theorem supervisorWriteCommits : Obligations.SupervisorWriteCommits := by
  unfold Obligations.SupervisorWriteCommits
  refine ⟨fun s v hsv => ?read, fun s x hsv => ?write, fun s x hsv => congrArg Host.Outcome.next (if_pos hsv), fun s v x hsv => ?user,
    fun s l x => ⟨fun hl ha => ?count, fun h => ?inactive⟩, fun s n x => ⟨fun hn => ?island, fun hn => ?none⟩⟩
  case read =>
    refine ⟨_, { newLatch s 2 (.g v) (frameDword s s.ctx.fidx.toNat) 0 none with slot := 5 }, if_pos hsv, rfl, rfl, rfl, rfl,
      frameDword_toNat s _, rfl, rfl, rfl, rfl, rfl, rfl, rfl⟩
  case write =>
    obtain ⟨hfidx, hr⟩ := writeFdat_ctx s x
    exact ⟨writeFdat s x, congrArg Host.Outcome.next (if_pos hsv), hfidx, hr, frameDword_writeFdat s,
      fun h => memGet_writeFdat_ro s x (by unfold frameRw; omega) (by unfold framePart; omega),
      fun k hk => memGet_writeFdat_out s x hk⟩
  case user =>
    have hno : ¬s.ctx.sv = true := by simp [hsv]
    exact ⟨if_neg hno, congrArg Host.Outcome.next (if_neg hno), congrArg Host.Outcome.next (if_neg hno)⟩
  case count =>
    rw [exec_lcntWrite s hl, writeLoop_cnt_active s l x ha]
    rfl
  case inactive =>
    by_cases hl : l.val < 6
    · have hoff : (getLoop s l).active = false := h.resolve_left (by omega)
      have ha : ¬(getLoop s l).active = true := by simp [hoff]
      rw [exec_lcntWrite s hl, writeLoop_cnt_inactive s l x ha]
    · exact congrArg Host.Outcome.next (if_neg hl)
  case island =>
    refine ⟨writeIslctl s n x, exec_islctlWrite s hn x, rfl,
      fun k hk => getIsland_upd_ne s hk (islctl_n x) (writeIslctl s n x) rfl, ?_⟩
    rw [getIsland_writeIslctl]
    obtain ⟨hcap, hth, hhy, hreq, hopc⟩ := islctl_fields x (getIsland s n)
    exact ⟨hcap, hth, hhy, hreq, hopc, fun hs h192 => islctl_pendOp hs (by rwa [getIsland_n])⟩
  case none => exact congrArg Host.Outcome.next (if_neg (by omega))

end Sys2Proof.Proofs
end

section
/-! PROOF. LOOP and LOOPI: the entry of a level, its passing by, and LOOP_DEPTH (O20). -/

namespace Sys2Proof.Proofs

open Sys2Proof.Machine
open Sys2Proof.Laws

/-! ## What entering a level leaves (R201) -/

/-- R201: the state after a level with n iterations and a body of m blocks is entered, or passed by when n is 0. -/
def LoopEntered (s t : State) (l : Fin 8) (n m : Nat) : Prop :=
  let x := getLoop s l
  let b := BitVec.ofNat 64 (s.ctx.iss.pc.toNat / 64 * 64)
  sameStore s t ∧ t.ctx.latches = s.ctx.latches ∧ t.ctx.dws = s.ctx.dws ∧ t.ctx.r.g = s.ctx.r.g ∧ t.ctx.r.sh = s.ctx.r.sh ∧
    (∀ j : Fin 8, j.val < 6 → j ≠ l → getLoop t j = getLoop s j) ∧
    (n = 0 → (getLoop t l).active = false ∧ (∀ q : Fin 4, (getLoop t l).strd[q].en = false) ∧
      t.ctx.npc = b + BitVec.ofNat 64 (64 * (m + 1)) ∧ t.ctx.r.order = s.ctx.r.order) ∧
    (0 < n → (getLoop t l).active = true ∧ (getLoop t l).idx = 0 ∧ (getLoop t l).cnt.toNat = n - 1 ∧
      (getLoop t l).start = x.hs.getD (b + 64) ∧ (getLoop t l).stop = x.he.getD (b + BitVec.ofNat 64 (64 * m)) ∧
      (getLoop t l).strd = x.strd ∧ (getLoop t l).hs = none ∧ (getLoop t l).he = none ∧
      t.ctx.npc = (getLoop t l).start ∧ t.ctx.r.order = l :: s.ctx.r.order)

/-- R201: a level as its entry leaves it. -/
def entered (x : Loop) (b : Word) (n m : Nat) : Loop :=
  { x with
    active := true
    cnt := BitVec.ofNat 48 (n - 1)
    idx := 0
    start := x.hs.getD (b + 64)
    stop := x.he.getD (b + BitVec.ofNat 64 (64 * m))
    hs := none
    he := none }

theorem enterLoop_zero (s : State) (l : Fin 8) (m : Nat) : enterLoop s l 0 m =
    (putLoop s l { (getLoop s l).leave with hs := (getLoop s l).hs, he := (getLoop s l).he }).up fun c =>
      { c with npc := blockOf s.ctx.iss.pc + BitVec.ofNat 64 (64 * (m + 1)), fin := none } := by
  rw [enterLoop, if_pos rfl]
  rfl

theorem enterLoop_pos (s : State) (l : Fin 8) {n : Nat} (hn : 0 < n) (m : Nat) : enterLoop s l n m =
    ((putLoop s l (entered (getLoop s l) (blockOf s.ctx.iss.pc) n m)).upR fun r => { r with order := l :: r.order }).up fun c =>
      { c with npc := (getLoop s l).hs.getD (blockOf s.ctx.iss.pc + 64), fin := none } := by
  rw [enterLoop, if_neg (by omega)]
  rfl

theorem enterLoop_keeps (s : State) (l : Fin 8) (n m : Nat) : sameStore s (enterLoop s l n m) ∧
    (enterLoop s l n m).ctx.latches = s.ctx.latches ∧ (enterLoop s l n m).ctx.dws = s.ctx.dws ∧
    (enterLoop s l n m).ctx.r.g = s.ctx.r.g ∧ (enterLoop s l n m).ctx.r.sh = s.ctx.r.sh := by
  rw [enterLoop]
  split <;> exact ⟨⟨rfl, rfl, rfl, rfl⟩, rfl, rfl, rfl, rfl⟩

/-- R201: a level passed by. -/
theorem loopEntered_zero (s : State) {l : Fin 8} (hl : l.val < 6) (m : Nat) : LoopEntered s (enterLoop s l 0 m) l 0 m := by
  obtain ⟨hstore, hlat, hdws, hg, hsh⟩ := enterLoop_keeps s l 0 m
  have hget {j : Fin 8} (hj : j.val < 6) : getLoop (enterLoop s l 0 m) j =
      if j = l then { (getLoop s l).leave with hs := (getLoop s l).hs, he := (getLoop s l).he } else getLoop s j := by
    rw [enterLoop_zero]
    exact getLoop_putLoop s l _ hj
  have hself := hget hl
  rw [if_pos rfl] at hself
  refine ⟨hstore, hlat, hdws, hg, hsh, fun j hj hne => by rw [hget hj, if_neg hne], fun _ => ?_, fun h => absurd h (by omega)⟩
  rw [hself]
  obtain ⟨hoff, hstrd⟩ := leave_off (getLoop s l)
  exact ⟨hoff, hstrd, by rw [enterLoop_zero]; rfl, by rw [enterLoop_zero]; rfl⟩

/-- R201: a level entered. -/
theorem loopEntered_pos (s : State) {l : Fin 8} (hl : l.val < 6) {n : Nat} (h0 : 0 < n) (hn : n ≤ 2 ^ 48) (m : Nat) :
    LoopEntered s (enterLoop s l n m) l n m := by
  obtain ⟨hstore, hlat, hdws, hg, hsh⟩ := enterLoop_keeps s l n m
  have hget {j : Fin 8} (hj : j.val < 6) : getLoop (enterLoop s l n m) j =
      if j = l then entered (getLoop s l) (blockOf s.ctx.iss.pc) n m else getLoop s j := by
    rw [enterLoop_pos s l h0]
    exact getLoop_putLoop s l _ hj
  have hself := hget hl
  rw [if_pos rfl] at hself
  have hcnt : (BitVec.ofNat 48 (n - 1)).toNat = n - 1 := by
    rw [BitVec.toNat_ofNat]
    omega
  refine ⟨hstore, hlat, hdws, hg, hsh, fun j hj hne => by rw [hget hj, if_neg hne], fun h => absurd h (by omega), fun _ => ?_⟩
  rw [hself]
  exact ⟨rfl, rfl, hcnt, rfl, rfl, rfl, rfl, rfl, by rw [enterLoop_pos s l h0]; rfl, by rw [enterLoop_pos s l h0]; rfl⟩

theorem loopEntered_enterLoop (s : State) {l : Fin 8} (hl : l.val < 6) {n : Nat} (hn : n ≤ 2 ^ 48) (m : Nat) :
    LoopEntered s (enterLoop s l n m) l n m := by
  rcases Nat.eq_zero_or_pos n with rfl | h0
  · exact loopEntered_zero s hl m
  · exact loopEntered_pos s hl h0 hn m

theorem loopEntered_of_charge {s t : State} {k : Nat} {l : Fin 8} {n m : Nat} (h : LoopEntered (charge s k) t l n m) :
    LoopEntered s t l n m := by
  simpa [LoopEntered, sameStore, getLoop] using h

/-! ## The issue (R200, R201) -/

/-- R91: whether registers fail their codes depends on the registers and their codes alone. -/
theorem badReg_none_congr {s t : State} (h : t.ctx.r.gsyn = s.ctx.r.gsyn) {k : Nat} {ns : List (Fin 32)}
    (hb : badReg s k ns = none) : badReg t k ns = none := by
  simp only [badReg, Option.map_eq_none_iff] at hb ⊢
  rwa [h]

theorem enterLoop_gsyn (s : State) (l : Fin 8) (n m : Nat) : (enterLoop s l n m).ctx.r.gsyn = s.ctx.r.gsyn := by
  rw [enterLoop]
  split <;> rfl

section
variable {s : State} (ha : acts s = true) {l : Fin 8}
include ha

theorem exec_loop (hoff : (getLoop s l).active = false) {c : Fin 32} (hc : badReg s 6 [c] = none) (e : BitVec 12) :
    exec (.loop l c e) s =
      .next (enterLoop (charge s (weight s 2)) l (min (rdG s c).toNat (2 ^ 48 - 1)) e.toNat) := by
  have hg : badReg (charge s (weight s 2)) 6 [c] = none := by rw [charge_badReg, hc]
  have hno : loopCheck s l = none := by simp [loopCheck, hoff]
  show execLoop l c e s = _
  rw [execLoop, hno, bOp_next ha, charge_rdG, consumed_good (badReg_none_congr (enterLoop_gsyn _ _ _ _) hg)]

theorem exec_loopi (hoff : (getLoop s l).active = false) (k : BitVec 9) (e : BitVec 8) :
    exec (.loopi l k e) s = .next (enterLoop (charge s (weight s 2)) l k.toNat e.toNat) := by
  have hno : loopCheck s l = none := by simp [loopCheck, hoff]
  show execLoopi l k e s = _
  rw [execLoopi, hno, bOp_next ha]

/-- R201: entering a level that is active. -/
theorem exec_loop_trap (hon : (getLoop s l).active = true) (c : Fin 32) (e : BitVec 12) : exec (.loop l c e) s =
    .next (takeTrap s (mkTrap s 0x0A (some (BitVec.ofNat 64 l.val)) (some 0) none)) := by
  show execLoop l c e s = _
  rw [execLoop, loopCheck, if_pos hon, bOp_trap ha]

theorem exec_loopi_trap (hon : (getLoop s l).active = true) (k : BitVec 9) (e : BitVec 8) : exec (.loopi l k e) s =
    .next (takeTrap s (mkTrap s 0x0A (some (BitVec.ofNat 64 l.val)) (some 0) none)) := by
  show execLoopi l k e s = _
  rw [execLoopi, loopCheck, if_pos hon, bOp_trap ha]

/-- R204: leaving a level that is not active. -/
theorem exec_lbrk_trap (hoff : (getLoop s l).active = false) : exec (.lbrk l) s =
    .next (let u := takeTrap s (mkTrap s 0x0A (some (BitVec.ofNat 64 l.val)) (some 1) none)
      if u.ctx.iss.trapped = true then u else u.up fun c => { c with dly := 2 }) := by
  show execLbrk l s = _
  rw [execLbrk, if_neg (by simp [hoff]), branch_trap ha]

end

/-- Settles O20: what the entry leaves by loopEntered_enterLoop, the traps by their checks. -/
theorem loopEntry : Obligations.LoopEntry := by
  unfold Obligations.LoopEntry
  refine ⟨fun s l c e k e8 ha hl hoff hc => ?_, fun s l c e k e8 ha => ⟨fun hon => ?_, fun hoff => ?_⟩⟩
  · have enters {i : Instr} {n m : Nat} (hn : n ≤ 2 ^ 48) (h : exec i s = .next (enterLoop (charge s (weight s 2)) l n m)) :
        ∃ t, exec i s = .next t ∧ LoopEntered s t l n m :=
      ⟨_, h, loopEntered_of_charge (loopEntered_enterLoop _ hl hn m)⟩
    exact ⟨enters (by omega) (exec_loop ha hoff hc e), enters (by have := k.isLt; omega) (exec_loopi ha hoff k e8)⟩
  · exact ⟨exec_loop_trap ha hon c e, exec_loopi_trap ha hon k e8⟩
  · refine ⟨_, exec_lbrk_trap ha hoff, ?_⟩
    dsimp only
    split <;> exact ⟨rfl, rfl, rfl, rfl⟩

end Sys2Proof.Proofs
end

section
/-! PROOF. WAITT and WAITP: what they leave, and when they are over (O23); the registers of a task at its start (O30). -/

namespace Sys2Proof.Proofs

open Sys2Proof.Machine
open Sys2Proof.Laws

/-! ## The waits at issue (R205, R206) -/

/-- R205: what a wait leaves of its state beside the wait itself. -/
def Waits (s t : State) (w : Wait) : Prop :=
  t.ctx.wait = w ∧ t.ctx.r = s.ctx.r ∧ t.ctx.latches = s.ctx.latches ∧ t.ctx.dws = s.ctx.dws ∧ t.ctx.pend = s.ctx.pend ∧
    sameStore s t

theorem waits_charge (s : State) (n : Nat) (w : Wait) : Waits s ((charge s n).up fun c => { c with wait := w }) w := by
  simp [Waits, sameStore]

theorem waitUntil_charge (s : State) (n t : Nat) : waitUntil (charge s n) t =
    (charge s n).up fun c => { c with wait := .waitt (max (s.ctx.now + 1) t) } := by
  rw [waitUntil, State.up, charge_now]
  rfl

/-- R206, R349: the wait of a WAITP: the promise, the commands and GRACE of its issue. -/
def promiseWait (c : Ctx) (k : Fin 8) : Wait :=
  .waitp k (max (c.now + 1) c.r.pm[k].toNat) (registered c k) c.r.grace.toNat c.iss.pc.toNat 0

theorem promiseWait_charge (s : State) (n : Nat) (k : Fin 8) : promiseWait (charge s n).ctx k = promiseWait s.ctx k := by
  simp only [promiseWait, registered, charge_now, charge_ctx_r, charge_ctx_iss, charge_ctx_cq]

section
variable {s : State} (ha : acts s = true)
include ha

theorem exec_waittAbs {a : Fin 32} (hb : badReg s 6 [a] = none) : exec (.waittAbs a) s = .next
    ((charge s (weight s 2)).up fun c => { c with wait := .waitt (max (s.ctx.now + 1) ((rdG s a).toNat % 2 ^ 48)) }) := by
  have hg : badReg (charge s (weight s 2)) 6 [a] = none := by rw [charge_badReg, hb]
  have hw (t : Nat) : badReg (waitUntil (charge s (weight s 2)) t) 6 [a] = none := badReg_none_congr rfl hg
  show execWaittAbs a s = _
  rw [execWaittAbs, bOp_next ha, charge_rdG, consumed_good (hw _), waitUntil_charge]

theorem exec_waittRel (n : BitVec 19) : exec (.waittRel n) s = .next
    ((charge s (weight s 2)).up fun c => { c with wait := .waitt (s.ctx.now + 1 + n.toNat) }) := by
  show execWaittRel n s = _
  rw [execWaittRel, bOp_next ha, waitUntil_charge, charge_now, max_eq_right (Nat.le_add_right _ _)]

theorem exec_waitp (k : Fin 8) : exec (.waitp k) s = .next
    ((charge s (weight s 2)).up fun c => { c with wait := promiseWait s.ctx k }) := by
  show execWaitp k s = _
  rw [execWaitp, bOp_next ha, ← promiseWait_charge s (weight s 2)]
  rfl

end

/-! ## The ends of the waits (R205, R206) -/

theorem exec_waittExpiry_over {s : State} (h : waitOver s s.ctx.now = true) :
    exec .waittExpiry s = .next (s.up fun c => { c with wait := .none }) := congrArg Host.Outcome.next (if_pos h)

theorem exec_waittExpiry_waits {s : State} (h : waitOver s s.ctx.now = false) : exec .waittExpiry s = .next s :=
  congrArg Host.Outcome.next (if_neg (by simp [h]))

/-- R205: a wait that is over when P holds, and goes on while it does not. -/
theorem exec_waittExpiry_wait {s t : State} (ht : exec .waittExpiry s = .next t) {P : Prop} [Decidable P]
    (h : waitOver s s.ctx.now = true ↔ P) : t.ctx.wait = if P then .none else s.ctx.wait := by
  by_cases hp : P
  · rw [exec_waittExpiry_over (h.mpr hp), Host.Outcome.next.injEq] at ht
    rw [if_pos hp, ← ht]
    rfl
  · have hno : waitOver s s.ctx.now = false := by rw [← Bool.not_eq_true, h]; exact hp
    rw [exec_waittExpiry_waits hno, Host.Outcome.next.injEq] at ht
    rw [if_neg hp, ht]

theorem waitOver_waitt {s : State} {g : Nat} (h : s.ctx.wait = .waitt g) (t : Nat) : waitOver s t = true ↔ g ≤ t := by
  simp [waitOver, h]

theorem waitOver_waitp {s : State} {n : Fin 8} {g : Nat} {cs : List Nat} {gr pc k : Nat}
    (h : s.ctx.wait = .waitp n g cs gr pc k) (t : Nat) :
    waitOver s t = true ↔ g ≤ t ∧ ∀ c ∈ s.ctx.cq, c.id ∈ cs → c.left = 0 := by
  simp [waitOver, h, imp_iff_not_or]

/-- Settles O23: the waits at issue by their lemmas, their ends by waitOver. -/
theorem waitResults : Obligations.WaitResults := by
  unfold Obligations.WaitResults
  refine ⟨fun s a n k ha hb => ?_, fun s => ?_⟩
  · exact ⟨⟨_, exec_waittAbs ha hb, waits_charge s _ _⟩, ⟨_, exec_waittRel ha n, waits_charge s _ _⟩,
      ⟨_, exec_waitp ha k, waits_charge s _ _⟩⟩
  · refine ⟨_, rfl, ?_, ?_, fun g h => ?_, fun n g cs gr pc k h => ?_, fun l sc m h => ?_, fun h => ?_⟩
    · split <;> rfl
    · split <;> exact ⟨rfl, rfl, rfl, rfl⟩
    · rw [exec_waittExpiry_wait rfl (waitOver_waitt h _), h]
    · rw [exec_waittExpiry_wait rfl (waitOver_waitp h _), h]
    · exact if_neg (by simp [waitOver, h])
    · exact if_neg (by simp [waitOver, h])

/-! ## A task at its start (R174, R350, R376) -/

/-- Settles O30: the registers that a task starts with are those of Regs.zero but for its format and scale tables. -/
theorem taskStart : Obligations.TaskStart := by
  unfold Obligations.TaskStart
  intro s l o u
  have hg (n : Fin 32) : (newCtx s l o u).r.g[n] = 0 := Vector.getElem_replicate _
  refine ⟨fun n => ?_, fun n => Vector.getElem_replicate _, fun n => Vector.getElem_replicate _, fun n => Vector.getElem_replicate _,
    fun n => Vector.getElem_replicate _, fun n => ?_, rfl, rfl, rfl, rfl, rfl, rfl, rfl, rfl, rfl, rfl, rfl, rfl, rfl, rfl⟩
  · rw [rdG]
    split
    · rfl
    · exact hg n
  · have hl : (newCtx s l o u).r.loops[n] = Loop.zero := Vector.getElem_replicate _
    rw [hl]
    exact ⟨rfl, fun k => congrArg Stride.en (Vector.getElem_replicate _)⟩

end Sys2Proof.Proofs
end

section
/-! PROOF. Iteration boundaries: strides, the next iteration, and the levels that are left; LSTR (O21). -/

namespace Sys2Proof.Proofs

open Sys2Proof.Machine
open Sys2Proof.Laws

/-! ## Strides (R202) -/

/-- R25, R194: a shape register of twelve. -/
def shapeAt (sh : Vector Shape 12) (e n : Fin 4) : Shape := sh.toList.getD (shIdx e n) Shape.zero

theorem getSh_eq_shapeAt (r : Regs) (e n : Fin 4) : getSh r e n = shapeAt r.sh e n := rfl

/-- R202: one stride entry applied. -/
def strideShape (sh : Vector Shape 12) (y : Stride) : Vector Shape 12 :=
  if y.en then vset sh (shIdx y.eng y.reg) { shapeAt sh y.eng y.reg with base := (shapeAt sh y.eng y.reg).base + y.by_ } else sh

/-- R202: the strides of a level change the active shape registers and nothing else. -/
theorem applyStrides_eq (r : Regs) (x : Loop) : applyStrides r x = { r with sh := x.strd.toList.foldl strideShape r.sh } := by
  rw [applyStrides]
  generalize x.strd.toList = ys
  induction ys generalizing r with
  | nil => rfl
  | cons y ys ih =>
    rw [List.foldl_cons, List.foldl_cons, ih]
    cases hy : y.en <;> simp only [strideShape, hy] <;> rfl

theorem applyStrides_sh (r : Regs) (x : Loop) : (applyStrides r x).sh = x.strd.toList.foldl strideShape r.sh := by
  rw [applyStrides_eq]

/-- R202: a shape register with a number added to its BASE. -/
def addBase (h : Shape) (k : Nat) : Shape := { h with base := BitVec.ofNat 24 (h.base.toNat + k) }

theorem addBase_zero (h : Shape) : addBase h 0 = h := by simp [addBase]

theorem addBase_addBase (h : Shape) (a b : Nat) : addBase (addBase h a) b = addBase h (a + b) := by
  simp only [addBase, BitVec.toNat_ofNat]
  congr 1
  refine BitVec.eq_of_toNat_eq ?_
  simp only [BitVec.toNat_ofNat]
  omega

/-- R202: what a stride entry adds to a register. -/
def strideAdds (e n : Fin 4) (y : Stride) : Nat := if y.en = true ∧ y.eng = e ∧ y.reg = n then y.by_.toNat else 0

theorem shapeAt_strideShape (sh : Vector Shape 12) (y : Stride) {e : Fin 4} (he : e.val < 3) (n : Fin 4) :
    shapeAt (strideShape sh y) e n = addBase (shapeAt sh e n) (strideAdds e n y) := by
  cases hy : y.en with
  | false => simp [strideShape, strideAdds, hy, addBase_zero]
  | true =>
    have hget : shapeAt (strideShape sh y) e n = if e = y.eng ∧ n = y.reg then
        { shapeAt sh y.eng y.reg with base := (shapeAt sh y.eng y.reg).base + y.by_ } else shapeAt sh e n := by
      simp only [strideShape, hy, if_true, shapeAt, getD_vset _ (shIdx_lt he n), shIdx_eq_iff]
    rw [hget]
    split
    case isTrue h =>
      obtain ⟨rfl, rfl⟩ := h
      simp only [strideAdds, hy, and_self, if_true, addBase, BitVec.ofNat_add, BitVec.ofNat_toNat, BitVec.setWidth_eq]
    case isFalse h =>
      rw [strideAdds, if_neg fun hc => h ⟨hc.2.1.symm, hc.2.2.symm⟩, addBase_zero]

/-- R202: the strides of a level, seen at one register. -/
theorem getSh_applyStrides (r : Regs) (x : Loop) {e : Fin 4} (he : e.val < 3) (n : Fin 4) : getSh (applyStrides r x) e n =
    addBase (getSh r e n) (strideAdds e n x.strd[0] + strideAdds e n x.strd[1] + strideAdds e n x.strd[2] +
      strideAdds e n x.strd[3]) := by
  have hlist : x.strd.toList = [x.strd[0], x.strd[1], x.strd[2], x.strd[3]] := by
    refine List.ext_getElem (by simp) fun i h1 h2 => ?_
    have hi : i < 4 := by simpa using h1
    interval_cases i <;> rfl
  rw [getSh_eq_shapeAt, applyStrides_sh, hlist, getSh_eq_shapeAt]
  simp only [List.foldl_cons, List.foldl_nil, shapeAt_strideShape _ _ he, addBase_addBase, Nat.add_assoc]

/-! ## One boundary (R202) -/

/-- R202: a level that goes on with its next iteration. -/
def nextIteration (x : Loop) : Loop := { x with cnt := x.cnt - 1, idx := x.idx + 1 }

/-- R202: the level of a context is left at its last boundary. -/
def boundaryLeft (s : State) (l : Fin 8) : State := s.upR fun r => { r with
  sh := (applyStrides r (getLoop s l)).sh
  loops := vset r.loops l.val (getLoop s l).leave
  order := r.order.filter (· != l) }

/-- R202: the level of a context begins its next iteration. -/
def boundaryNext (s : State) (l : Fin 8) : State := (s.upR fun r => { r with
  sh := (applyStrides r (getLoop s l)).sh
  loops := vset r.loops l.val (nextIteration (getLoop s l)) }).up fun c => { c with pc := (getLoop s l).start, fin := none }

theorem levelBoundary_last {s : State} {l : Fin 8} (h : (getLoop s l).cnt = 0) : levelBoundary s l = (boundaryLeft s l, false) := by
  have hx : s.ctx.r.loops.toList.getD l.val Loop.zero = getLoop s l := rfl
  simp only [levelBoundary, hx, h, if_true, applyStrides_eq, boundaryLeft]
  rfl

theorem levelBoundary_next {s : State} {l : Fin 8} (h : (getLoop s l).cnt ≠ 0) : levelBoundary s l = (boundaryNext s l, true) := by
  have hx : s.ctx.r.loops.toList.getD l.val Loop.zero = getLoop s l := rfl
  simp only [levelBoundary, hx, if_neg h, applyStrides_eq, boundaryNext]
  rfl

theorem getLoop_boundaryLeft (s : State) (l : Fin 8) {j : Fin 8} (hj : j.val < 6) :
    getLoop (boundaryLeft s l) j = if j = l then (getLoop s l).leave else getLoop s j := getLoop_putLoop s l _ hj

theorem getLoop_boundaryNext (s : State) (l : Fin 8) {j : Fin 8} (hj : j.val < 6) :
    getLoop (boundaryNext s l) j = if j = l then nextIteration (getLoop s l) else getLoop s j := getLoop_putLoop s l _ hj

/-! ## The levels that end at a block (R202, R204) -/

/-- R202: with no LBRK on its way the levels that end are the active ones in order of entry whose end block it is. -/
theorem endingLevels_eq {c : Ctx} {b : Word} (hf : c.fin = some b) (hp : c.pend = .none) : endingLevels c =
    c.r.order.filter fun l => (c.r.level l).active && (c.r.level l).stop == b := by
  simp [endingLevels, hf, hp]

theorem endingLevel_nil {c : Ctx} (ho : c.r.order = []) (hp : c.pend = .none) : endingLevel c = none := by
  cases hf : c.fin with
  | none => simp [endingLevel, endingLevels, hf]
  | some b => simp [endingLevel, endingLevels_eq hf hp, ho]

theorem endingLevel_cons {s : State} {b : Word} {l : Fin 8} {o : List (Fin 8)} (hf : s.ctx.fin = some b)
    (hp : s.ctx.pend = .none) (ho : s.ctx.r.order = l :: o) (ha : (getLoop s l).active = true) (hs : (getLoop s l).stop = b) :
    endingLevel s.ctx = some l := by
  have hl : s.ctx.r.level l = getLoop s l := rfl
  rw [endingLevel, endingLevels_eq hf hp, ho, List.filter_cons_of_pos (by simp [hl, ha, hs]), List.head?_cons]

/-- R202: the walk over the levels that end. -/
theorem boundaryGo_none {s : State} (h : endingLevel s.ctx = none) (n : Nat) :
    boundaryGo n s = s.up fun c => { c with fin := none } := by
  cases n with
  | zero => rfl
  | succ n => simp only [boundaryGo, h]

theorem boundaryGo_next {s : State} {l : Fin 8} (h : endingLevel s.ctx = some l) (hc : (getLoop s l).cnt ≠ 0) (n : Nat) :
    boundaryGo (n + 1) s = boundaryNext s l := by
  simp only [boundaryGo, h, levelBoundary_next hc]

theorem boundaryGo_left {s : State} {l : Fin 8} (h : endingLevel s.ctx = some l) (hc : (getLoop s l).cnt = 0) (n : Nat) :
    boundaryGo (n + 1) s = boundaryGo n (boundaryLeft s l) := by
  simp only [boundaryGo, h, levelBoundary_last hc]

/-- R139: the walk over pad blocks looks at the image and its place alone. -/
theorem skipPads_congr {c d : Ctx} (hh : d.hdr = c.hdr) (hc : d.code = c.code) (n : Nat) (a : Word) :
    skipPads d n a = skipPads c n a := by
  induction n generalizing a with
  | zero => rfl
  | succ n ih =>
    have hin : d.inCode a = c.inCode a := by rw [Ctx.inCode, Ctx.inCode, hh]
    have hword : codeWord d = codeWord c := by funext x; rw [codeWord, codeWord, hh, hc]
    have hblock : blockWords d a = blockWords c a := by rw [blockWords, blockWords, hword]
    rw [skipPads, skipPads, hin, hblock, ih]

theorem exec_iterationBoundary {s : State} {b : Word} (hf : s.ctx.fin = some b) :
    exec .iterationBoundary s = .next (passPads (boundaryGo 7 s)) := congrArg Host.Outcome.next (if_pos (by simp [hf]))

theorem passPads_pc {s u : State} (hh : u.ctx.hdr = s.ctx.hdr) (hc : u.ctx.code = s.ctx.code) :
    (passPads u).ctx.pc = skipPads s.ctx (s.ctx.hdr.codelen / 64) u.ctx.pc := by
  rw [← skipPads_congr hh hc, ← hh]
  rfl

/-- R202: a level that is left leaves the order of entry. -/
theorem order_boundaryLeft {s : State} {l : Fin 8} {o : List (Fin 8)} (ho : s.ctx.r.order = l :: o) (hl : l ∉ o) :
    (boundaryLeft s l).ctx.r.order = o := by
  have hkeep : ∀ j ∈ o, (j != l) = true := fun j hj => bne_iff_ne.mpr fun h => hl (h ▸ hj)
  show s.ctx.r.order.filter (· != l) = o
  rw [ho, List.filter_cons_of_neg (by simp), List.filter_eq_self.mpr hkeep]

/-- R202: the strides of a level are added to the shape registers as they stand. -/
theorem applyStrides_sh_congr {r r' : Regs} (h : r.sh = r'.sh) (x : Loop) : (applyStrides r x).sh = (applyStrides r' x).sh := by
  rw [applyStrides_sh, applyStrides_sh, h]

section
variable {s : State} {b : Word} (hf : s.ctx.fin = some b) (hp : s.ctx.pend = .none)
include hf hp

/-! ## One level that ends (R202) -/

section
variable {l : Fin 8} {o : List (Fin 8)} (ho : s.ctx.r.order = l :: o) (ha : (getLoop s l).active = true)
  (hs : (getLoop s l).stop = b)
include ho ha hs

theorem exec_boundary_next (hc : (getLoop s l).cnt ≠ 0) : exec .iterationBoundary s = .next (passPads (boundaryNext s l)) := by
  rw [exec_iterationBoundary hf, boundaryGo_next (endingLevel_cons hf hp ho ha hs) hc]

theorem exec_boundary_last (hc : (getLoop s l).cnt = 0) :
    exec .iterationBoundary s = .next (passPads (boundaryGo 6 (boundaryLeft s l))) := by
  rw [exec_iterationBoundary hf, boundaryGo_left (endingLevel_cons hf hp ho ha hs) hc]

end

/-- R202: the walk over the levels that end, with one level in order of entry, and the pad blocks after it. -/
theorem passPads_boundaryGo_single {l : Fin 8} (hl : l.val < 6) (ho : s.ctx.r.order = [l])
    (ha : (getLoop s l).active = true) (hs : (getLoop s l).stop = b) (n : Nat) :
    let x := getLoop s l
    let t := passPads (boundaryGo (n + 1) s)
    sameStore s t ∧ t.ctx.fin = none ∧ t.ctx.r.g = s.ctx.r.g ∧ t.ctx.r.sh = (applyStrides s.ctx.r x).sh ∧
      t.ctx.r.sd = s.ctx.r.sd ∧ (∀ j : Fin 8, j.val < 6 → j ≠ l → getLoop t j = getLoop s j) ∧
      (x.cnt = 0 → getLoop t l = x.leave ∧ t.ctx.r.order = [] ∧
        t.ctx.pc = skipPads s.ctx (s.ctx.hdr.codelen / 64) s.ctx.pc) ∧
      (x.cnt ≠ 0 → getLoop t l = nextIteration x ∧ t.ctx.r.order = [l] ∧
        t.ctx.pc = skipPads s.ctx (s.ctx.hdr.codelen / 64) x.start) := by
  intro x t
  have hend := endingLevel_cons hf hp ho ha hs
  rcases eq_or_ne x.cnt 0 with hc | hc
  · have horder := order_boundaryLeft ho List.not_mem_nil
    have ht : t = passPads ((boundaryLeft s l).up fun c => { c with fin := none }) :=
      congrArg passPads ((boundaryGo_left hend hc n).trans (boundaryGo_none (endingLevel_nil horder hp) n))
    rw [ht]
    exact ⟨⟨rfl, rfl, rfl, rfl⟩, rfl, rfl, rfl, rfl, fun j hj hne => (getLoop_boundaryLeft s l hj).trans (if_neg hne),
      fun _ => ⟨(getLoop_boundaryLeft s l hl).trans (if_pos rfl), horder, passPads_pc rfl rfl⟩, fun h => absurd hc h⟩
  · have ht : t = passPads (boundaryNext s l) := congrArg passPads (boundaryGo_next hend hc n)
    rw [ht]
    exact ⟨⟨rfl, rfl, rfl, rfl⟩, rfl, rfl, rfl, rfl, fun j hj hne => (getLoop_boundaryNext s l hj).trans (if_neg hne),
      fun h => absurd h hc, fun _ => ⟨(getLoop_boundaryNext s l hl).trans (if_pos rfl), ho, passPads_pc rfl rfl⟩⟩

theorem boundary_one {l : Fin 8} (hl : l.val < 6) (ho : s.ctx.r.order = [l]) (ha : (getLoop s l).active = true)
    (hs : (getLoop s l).stop = b) :
    let x := getLoop s l
    ∃ t, exec .iterationBoundary s = .next t ∧ sameStore s t ∧ t.ctx.fin = none ∧ t.ctx.r.g = s.ctx.r.g ∧
      t.ctx.r.sh = (applyStrides s.ctx.r x).sh ∧ t.ctx.r.sd = s.ctx.r.sd ∧
      (x.cnt = 0 → getLoop t l = x.leave ∧ t.ctx.r.order = [] ∧
        t.ctx.pc = skipPads s.ctx (s.ctx.hdr.codelen / 64) s.ctx.pc) ∧
      (x.cnt ≠ 0 → getLoop t l = nextIteration x ∧ t.ctx.r.order = [l] ∧
        t.ctx.pc = skipPads s.ctx (s.ctx.hdr.codelen / 64) x.start) := by
  obtain ⟨hstore, hfin, hg, hsh, hsd, -, hends⟩ := passPads_boundaryGo_single hf hp hl ho ha hs 6
  exact ⟨_, exec_iterationBoundary hf, hstore, hfin, hg, hsh, hsd, hends⟩

/-! ## Two levels that end together (R202) -/

section
variable {i o : Fin 8} (hi : i.val < 6) (hol : o.val < 6) (hne : i ≠ o) (ho : s.ctx.r.order = [i, o])
  (hia : (getLoop s i).active = true) (his : (getLoop s i).stop = b)
include hi hol hne ho hia his

/-- R202: the inner level goes on, and the outer one is not looked at. -/
theorem boundary_inner (hc : (getLoop s i).cnt ≠ 0) : ∃ t, exec .iterationBoundary s = .next t ∧ sameStore s t ∧
    t.ctx.fin = none ∧ t.ctx.r.g = s.ctx.r.g ∧ getLoop t i = nextIteration (getLoop s i) ∧ getLoop t o = getLoop s o ∧
    t.ctx.r.order = [i, o] ∧ t.ctx.r.sh = (applyStrides s.ctx.r (getLoop s i)).sh ∧
    t.ctx.pc = skipPads s.ctx (s.ctx.hdr.codelen / 64) (getLoop s i).start :=
  ⟨_, exec_boundary_next hf hp ho hia his hc, ⟨rfl, rfl, rfl, rfl⟩, rfl, rfl, (getLoop_boundaryNext s i hi).trans (if_pos rfl),
    (getLoop_boundaryNext s i hol).trans (if_neg hne.symm), ho, rfl, passPads_pc rfl rfl⟩

/-- R202: the inner level is left, and the boundary of the outer one comes next. -/
theorem boundary_outer (hoa : (getLoop s o).active = true) (hos : (getLoop s o).stop = b) (hc : (getLoop s i).cnt = 0) :
    ∃ t, exec .iterationBoundary s = .next t ∧ sameStore s t ∧ t.ctx.fin = none ∧ t.ctx.r.g = s.ctx.r.g ∧
      getLoop t i = (getLoop s i).leave ∧
      t.ctx.r.sh = (applyStrides (applyStrides s.ctx.r (getLoop s i)) (getLoop s o)).sh ∧
      ((getLoop s o).cnt ≠ 0 → getLoop t o = nextIteration (getLoop s o) ∧ t.ctx.r.order = [o] ∧
        t.ctx.pc = skipPads s.ctx (s.ctx.hdr.codelen / 64) (getLoop s o).start) ∧
      ((getLoop s o).cnt = 0 → getLoop t o = (getLoop s o).leave ∧ t.ctx.r.order = [] ∧
        t.ctx.pc = skipPads s.ctx (s.ctx.hdr.codelen / 64) s.ctx.pc) := by
  have horder : (boundaryLeft s i).ctx.r.order = [o] := order_boundaryLeft ho (by simpa using hne)
  have hgi : getLoop (boundaryLeft s i) i = (getLoop s i).leave := (getLoop_boundaryLeft s i hi).trans (if_pos rfl)
  have hgo : getLoop (boundaryLeft s i) o = getLoop s o := (getLoop_boundaryLeft s i hol).trans (if_neg hne.symm)
  obtain ⟨⟨hm, hs, hu, hl⟩, hfin, hg, hsh, -, hkeep, hlast, hnext⟩ :=
    passPads_boundaryGo_single (s := boundaryLeft s i) hf hp hol horder (by rw [hgo, hoa]) (by rw [hgo, hos]) 5
  have hpads (a : Word) : skipPads (boundaryLeft s i).ctx ((boundaryLeft s i).ctx.hdr.codelen / 64) a =
      skipPads s.ctx (s.ctx.hdr.codelen / 64) a := skipPads_congr (c := s.ctx) (d := (boundaryLeft s i).ctx) rfl rfl _ a
  rw [hgo] at hsh hlast hnext
  rw [hpads] at hlast hnext
  refine ⟨_, exec_boundary_last hf hp ho hia his hc, ⟨hm, hs, hu, hl⟩, hfin, hg, (hkeep i hi hne).trans hgi, hsh.trans ?_,
    hnext, hlast⟩
  exact applyStrides_sh_congr (r := (boundaryLeft s i).ctx.r) (r' := applyStrides s.ctx.r (getLoop s i)) rfl _

end
end

/-! ## LSTR (R203) -/

theorem exec_lstr {s : State} (ha : acts s = true) {g : Fin 32} (hb : badReg s 6 [g] = none) (l : Fin 8) (k e r : Fin 4) :
    exec (.lstr l k e r g) s = .next (addDW (charge s (weight s 2)) 1 (.stride l k ⟨g != 0, e, r, (rdG s g).setWidth 24⟩)) := by
  have hg : badReg (charge s (weight s 2)) 6 [g] = none := by rw [charge_badReg, hb]
  show execLstr l k e r g s = _
  rw [execLstr, bOp_next ha, hg, charge_rdG]

/-- R203: a stride entry that is set. -/
theorem makeWrite_stride (u : State) {w : DWrite} {l : Fin 8} {k : Fin 4} {y : Stride} (hw : w.act = .stride l k y) :
    makeWrite u w = putLoop u l { getLoop u l with strd := (getLoop u l).strd.set k y } := by
  rw [makeWrite, hw]
  rfl

/-- Settles O21: one level by boundary_one, two by boundary_inner and boundary_outer, the strides by getSh_applyStrides. -/
theorem iterationBoundary : Obligations.IterationBoundary := by
  unfold Obligations.IterationBoundary
  refine ⟨fun s l b hl hf ho hp ha hs => boundary_one hf hp hl ho ha hs,
    fun s i o b hi hol hne hf ho hp hia hoa his hos => ?_, fun r x e n he _ => ?_, fun s l k e r g ha hb => ?_⟩
  · rcases eq_or_ne (getLoop s i).cnt 0 with hc | hc
    · obtain ⟨t, ht, hstore, hfin, hg, hrest⟩ := boundary_outer hf hp hi hol hne ho hia his hoa hos hc
      exact ⟨t, ht, hstore, hfin, hg, fun h => absurd hc h, fun _ => hrest⟩
    · obtain ⟨t, ht, hstore, hfin, hg, hrest⟩ := boundary_inner hf hp hi hol hne ho hia his hc
      exact ⟨t, ht, hstore, hfin, hg, fun _ => hrest, fun h => absurd h hc⟩
  · intro h adds
    rw [getSh_applyStrides r x he n, addBase, ← Nat.add_assoc, ← Nat.add_assoc, ← Nat.add_assoc]
    rfl
  · refine ⟨_, _, exec_lstr ha hb l k e r, by rw [addDW_dws, charge_ctx_dws], by rw [charge_now], by simp, by simp [addDW],
      by simp [sameStore], fun u hl => ?_⟩
    rw [makeWrite_stride u rfl]
    refine ⟨?_, rfl, rfl, fun j hj hne => ?_⟩
    · rw [getLoop_putLoop u l _ hl, if_pos rfl]
    · rw [getLoop_putLoop u l _ hj, if_neg hne]

end Sys2Proof.Proofs
end

section
/-! PROOF. Pieces of a write to global memory, and the granules of WBACK and WUNMAP (part of O45). -/

namespace Sys2Proof.Proofs

open Sys2Proof.Machine
open Sys2Proof.Laws

/-! ## A range cut at granules (R102) -/

/-- R102: every byte of a range lies in one cut, and a cut inside one granule. -/
theorem mem_cutGranules {va n t : Nat} (ht : t < n) :
    ∃ x ∈ cutGranules va n, x.1 = va + x.2.1 ∧ x.2.1 ≤ t ∧ t < x.2.1 + x.2.2 ∧ x.1 % 64 + x.2.2 ≤ 64 := by
  have hn : n ≠ 0 := by omega
  rw [cutGranules]
  simp only [if_neg hn]
  rcases Nat.lt_or_ge t (min n (64 - va % 64)) with h | h
  · exact ⟨_, List.mem_cons_self, rfl, Nat.zero_le t, by simpa using h, by dsimp only; omega⟩
  · have hmin : min n (64 - va % 64) = 64 - va % 64 := by omega
    rw [hmin] at h ⊢
    have hk : (t - (64 - va % 64)) / 64 < cdiv (n - (64 - va % 64)) 64 := by rw [cdiv]; omega
    refine ⟨_, List.mem_cons_of_mem _ (List.mem_map.mpr ⟨_, List.mem_range.mpr hk, rfl⟩), ?_, ?_, ?_, ?_⟩ <;> dsimp only <;> omega

/-! ## What sending leaves (R101, R265) -/

/-- The pieces on their way and the dirty sectors. -/
def traffic (s : State) : List Piece × List Nat := (s.net.pieces, s.dirty)

theorem traffic_ite {c : Prop} [Decidable c] {s a b : State} (ha : traffic a = traffic s) (hb : traffic b = traffic s) :
    traffic (if c then a else b) = traffic s := by
  split
  · exact ha
  · exact hb

theorem traffic_cachePage (s : State) (va : Nat) : traffic (cachePage s va) = traffic s := by
  unfold cachePage
  split
  · rfl
  · exact traffic_ite rfl rfl

theorem traffic_countAccess (s : State) (cid h va : Nat) : traffic (countAccess s cid h va) = traffic s := by
  unfold countAccess
  split
  · rfl
  · exact traffic_ite rfl (traffic_ite rfl rfl)

theorem traffic_countRequest (s : State) (l : List (Nat × Nat)) : traffic (countRequest s l) = traffic s := by
  refine foldl_keeps traffic (fun s j => (traffic_cachePage _ _).trans (traffic_ite ?_ ?_)) _ s
  · exact traffic_ite rfl rfl
  · exact (traffic_countAccess _ _ _ _).trans (traffic_ite rfl rfl)

theorem sendPiece_pieces (s : State) (c : Cmd) (p : Piece) : ∃ q, (sendPiece s c p).net.pieces = s.net.pieces ++ [q] ∧
    q.kind = p.kind ∧ q.va = p.va ∧ q.data = p.data ∧ q.cmd = c.id ∧ q.phase = c.phase := ⟨_, rfl, rfl, rfl, rfl, rfl, rfl⟩

/-- A piece of a command's write: some bytes at an address. -/
def IsWrite (c : Cmd) (va : Word) (data : List Byte) (q : Piece) : Prop :=
  q.kind = .write ∧ q.cmd = c.id ∧ q.phase = c.phase ∧ q.va = va ∧ q.data = data

/-- R265: the write pieces of a granule's cuts are sent, one for each cut. -/
theorem foldl_sendPiece_writes {α : Type} (c : Cmd) (piece : State → α → Piece) (va : α → Word) (data : α → List Byte)
    (hp : ∀ s x, (piece s x).kind = .write ∧ (piece s x).va = va x ∧ (piece s x).data = data x) (l : List α) (s : State) :
    let t := l.foldl (fun s x => sendPiece s c (piece s x)) s
    t.dirty = s.dirty ∧ ∃ qs, t.net.pieces = s.net.pieces ++ qs ∧ (∀ q ∈ qs, ∃ x ∈ l, IsWrite c (va x) (data x) q) ∧
      ∀ x ∈ l, ∃ q ∈ qs, IsWrite c (va x) (data x) q := by
  induction l generalizing s with
  | nil => exact ⟨rfl, [], by simp⟩
  | cons x l ih =>
    obtain ⟨q, hq, hkind, hva, hdata, hcmd, hphase⟩ := sendPiece_pieces s c (piece s x)
    obtain ⟨pkind, pva, pdata⟩ := hp s x
    have hw : IsWrite c (va x) (data x) q := ⟨hkind.trans pkind, hcmd, hphase, hva.trans pva, hdata.trans pdata⟩
    obtain ⟨hd, qs, hqs, hall, hex⟩ := ih (sendPiece s c (piece s x))
    refine ⟨hd, q :: qs, by rw [List.foldl_cons, hqs, hq, List.append_assoc, List.singleton_append], ?_, ?_⟩
    · rintro r (_ | ⟨_, hr⟩)
      · exact ⟨x, List.mem_cons_self, hw⟩
      · obtain ⟨y, hy, hyw⟩ := hall r hr
        exact ⟨y, List.mem_cons_of_mem _ hy, hyw⟩
    · rintro y (_ | ⟨_, hy⟩)
      · exact ⟨q, List.mem_cons_self, hw⟩
      · obtain ⟨r, hr, hrw⟩ := hex y hy
        exact ⟨r, List.mem_cons_of_mem _ hr, hrw⟩

/-- R406: every cut of a range that translates is among the cuts sent. -/
theorem mem_mapM_some {α β : Type} {f : α → Option β} {l : List α} {ys : List β} (h : l.mapM f = some ys) {x : α} (hx : x ∈ l) :
    ∃ y ∈ ys, f x = some y := by
  induction l generalizing ys with
  | nil => cases hx
  | cons a l ih =>
    simp only [List.mapM_cons, bind, Option.bind_eq_some_iff, pure, Option.some.injEq] at h
    obtain ⟨y, hy, zs, hzs, rfl⟩ := h
    rcases List.mem_cons.mp hx with rfl | hx
    · exact ⟨y, List.mem_cons_self, hy⟩
    · obtain ⟨z, hz, hfz⟩ := ih hzs hx
      exact ⟨z, List.mem_cons_of_mem _ hz, hfz⟩

theorem mem_sendCuts {s : State} {i : Intent} {va len : Nat} {cuts : List (Nat × Nat × Nat × Nat × Nat)}
    (h : sendCuts s i va len = some cuts) {a o n : Nat} (hx : (a, o, n) ∈ cutGranules va len) :
    ∃ g k, (a % 2 ^ 56, o, n, g, k) ∈ cuts := by
  obtain ⟨y, hy, hfy⟩ := mem_mapM_some h hx
  obtain ⟨⟨g, k⟩, -, rfl⟩ := Option.map_eq_some_iff.mp hfy
  exact ⟨g, k, hy⟩

/-- R116, R265: the piece that carries one cut of a write of local bytes. -/
def writePiece (s : State) (a fee gran : Nat) (u : State) (x : Nat × Nat × Nat × Nat × Nat) : Piece :=
  { blankPiece u u.ctx with
    va := BitVec.ofNat 64 x.1, home := x.2.2.2.1, key := x.2.2.2.2, len := x.2.2.1, comp := pageForm u x.1, fee := fee, gran := gran
    kind := .write, data := spadRead s (a + x.2.1) x.2.2.1, syn := travelSyn s (a + x.2.1) x.2.2.1 }

theorem writeFrom_eq (s : State) (c : Cmd) (va len a : Nat) : writeFrom s c va len a = (sendCuts s .write va len).map fun cuts u =>
    cuts.foldl (fun v x => sendPiece v c (writePiece u a (granuleCharge u ((cuts.map fun y => y.2.2.2.1).headD 0)) u.fresh v x))
      (countRequest u (cuts.map fun x => (x.2.2.2.1, x.1))) := rfl

/-- R265, R406: the dirty sectors stand, and the pieces of a write carry every byte of its range to its address. -/
theorem writeFrom_sends {s : State} {c : Cmd} {va len a : Nat} {f : State → State} (hf : writeFrom s c va len a = some f) (u : State) :
    (f u).dirty = u.dirty ∧ ∃ qs, (f u).net.pieces = u.net.pieces ++ qs ∧
      (∀ q ∈ qs, q.kind = .write ∧ q.cmd = c.id ∧ q.phase = c.phase) ∧
      ∀ b, b < len → ∃ q ∈ qs, ∃ j, q.data[j]? = some (spadByte u (a + b)) ∧ q.va.toNat + j = (va + b) % 2 ^ 56 := by
  rw [writeFrom_eq] at hf
  obtain ⟨cuts, hcuts, rfl⟩ := Option.map_eq_some_iff.mp hf
  have hcount := traffic_countRequest u (cuts.map fun x => (x.2.2.2.1, x.1))
  obtain ⟨hdirty, qs, hqs, hall, hex⟩ := foldl_sendPiece_writes c
    (writePiece u a (granuleCharge u ((cuts.map fun y => y.2.2.2.1).headD 0)) u.fresh) (fun x => BitVec.ofNat 64 x.1)
    (fun x => spadRead u (a + x.2.1) x.2.2.1) (fun _ _ => ⟨rfl, rfl, rfl⟩) cuts
    (countRequest u (cuts.map fun x => (x.2.2.2.1, x.1)))
  refine ⟨hdirty.trans (congrArg Prod.snd hcount), qs, hqs.trans (congrArg (· ++ qs) (congrArg Prod.fst hcount)), fun q hq => ?_,
    fun b hb => ?_⟩
  · obtain ⟨x, -, hkind, hcmd, hphase, -⟩ := hall q hq
    exact ⟨hkind, hcmd, hphase⟩
  · obtain ⟨⟨x, o, n⟩, hcut, hx, ho, hn, h64⟩ := mem_cutGranules (va := va) hb
    obtain ⟨g, k, hmem⟩ := mem_sendCuts hcuts hcut
    obtain ⟨q, hq, -, -, -, hva, hdata⟩ := hex _ hmem
    dsimp only at hx ho hn h64 hva hdata
    refine ⟨q, hq, b - o, ?_, ?_⟩
    · have hlt : b - o < n := by omega
      have haddr : spadKey u.ctx.gunit (a + o) + (b - o) = spadKey u.ctx.gunit (a + b) := by simp only [spadKey]; omega
      rw [hdata, spadRead, memRead, List.getElem?_map, List.getElem?_range hlt, Option.map_some, haddr, spadByte]
    · rw [hva, BitVec.toNat_ofNat, hx]
      omega

/-! ## Granules of WBACK and WUNMAP (R106, R275) -/

theorem mem_sectorsOf {a n k : Nat} : k ∈ sectorsOf a n ↔ 0 < n ∧ a / 32 ≤ k ∧ k ≤ (a + n - 1) / 32 := by
  rw [sectorsOf]
  split
  case isTrue h => simp [h]
  case isFalse h =>
    have hle : a / 32 ≤ (a + n - 1) / 32 := Nat.div_le_div_right (by omega)
    simp only [List.mem_map, List.mem_range]
    constructor
    · rintro ⟨i, hi, rfl⟩
      omega
    · rintro ⟨-, h1, h2⟩
      exact ⟨k - a / 32, by omega, by omega⟩

/-- R80: the number of a sector among all units'. -/
theorem spadKey_sector (u k : Nat) : spadKey u (32 * k) / 32 = spadKey u 0 / 32 + k := by
  simp only [spadKey]
  omega

/-- R275: the sector that a write-back begins with. -/
def firstSector (ds : List Nat) : Nat := ds.foldl min (ds.headD 0)

/-- R106: the dirty sectors of a granule, in a region of whole sectors, are neighbours. -/
theorem dirtySectors_neighbours (s : State) {c : Cmd} (i : Nat) (h : c.region.1 % 32 = 0) :
    let ds := dirtySectors s c i
    ∀ z ∈ ds, c.region.1 / 32 ≤ firstSector ds ∧ firstSector ds ≤ z ∧ z < firstSector ds + ds.length := by
  have hsec : sectorsOf (c.region.1 + 64 * i) 64 = [c.region.1 / 32 + 2 * i, c.region.1 / 32 + 2 * i + 1] := by
    have hlast : (c.region.1 + 64 * i + 64 - 1) / 32 - (c.region.1 + 64 * i) / 32 + 1 = 2 := by omega
    have hfirst : (c.region.1 + 64 * i) / 32 = c.region.1 / 32 + 2 * i := by omega
    rw [sectorsOf, hlast, hfirst]
    rfl
  rw [dirtySectors, hsec]
  simp only [List.filter_cons, List.filter_nil, firstSector]
  repeat' split
  all_goals simp
  all_goals omega

/-- R106: dirty bits of a unit's sectors are cleared. -/
def clearDirty (k : Nat) (ds : List Nat) (s : State) : State := { s with dirty := s.dirty.filter fun d => !(ds.any fun x => k + x == d) }

theorem mem_clearDirty (s : State) (u d : Nat) (ds : List Nat) :
    d ∈ (clearDirty (spadKey u 0 / 32) ds s).dirty ↔ d ∈ s.dirty ∧ ∀ x ∈ ds, d ≠ spadKey u (32 * x) / 32 := by
  rw [clearDirty, List.mem_filter]
  simp only [Bool.not_eq_true', List.any_eq_false, beq_iff_eq, spadKey_sector, ne_eq, eq_comm (a := d)]

/-- R275: the global write of a granule's dirty sectors. -/
def backWrite (s : State) (c : Cmd) (ds : List Nat) : Option (State → State) :=
  writeFrom s c ((c.buf.headD []).getD 1 0 + (32 * firstSector ds - c.region.1)) (32 * ds.length) (32 * firstSector ds)

theorem wbackUnit_clean {s : State} {c : Cmd} {i : Nat} (h : dirtySectors s c i = []) : wbackUnit s c i = onlyEff c i id :=
  if_pos (List.isEmpty_iff.mpr h)

theorem wbackUnit_dirty {s : State} {c : Cmd} {i : Nat} (h : dirtySectors s c i ≠ []) : wbackUnit s c i =
    sent s c i c.buf ((backWrite s c (dirtySectors s c i)).map fun f t =>
      clearDirty (spadKey s.ctx.gunit 0 / 32) (dirtySectors s c i) (f t)) :=
  if_neg fun hnil => h (List.isEmpty_iff.mp hnil)

/-- R295: a granule that raises nothing has sent its pieces. -/
theorem sent_of_no_causes {s : State} {c : Cmd} {i : Nat} {buf : List (List Nat)} {f : Option (State → State)}
    (h : (sent s c i buf f).perf.causes = []) : ∃ g, f = some g ∧ (sent s c i buf f).eff = g := by
  cases f with
  | none => cases h
  | some g => exact ⟨g, rfl, rfl⟩

/-- R106, R275: a granule whose write translates sends its dirty sectors and clears their bits. -/
theorem wbackUnit_sends {s : State} {c : Cmd} {i : Nat} (hr : c.region.1 % 32 = 0)
    (hc : (wbackUnit s c i).perf.causes = []) :
    let ds := dirtySectors s c i
    let va := (c.buf.headD []).getD 1 0
    let t := (wbackUnit s c i).eff s
    (∀ d, d ∈ t.dirty ↔ d ∈ s.dirty ∧ ∀ x ∈ ds, d ≠ spadKey s.ctx.gunit (32 * x) / 32) ∧
      ∃ qs, t.net.pieces = s.net.pieces ++ qs ∧ (∀ q ∈ qs, q.kind = .write ∧ q.cmd = c.id ∧ q.phase = c.phase) ∧
        ∀ x ∈ ds, ∀ b, b < 32 → ∃ q ∈ qs, ∃ j, q.data[j]? = some (spadByte s (32 * x + b)) ∧
          q.va.toNat + j = (va + (32 * x - c.region.1) + b) % 2 ^ 56 := by
  intro ds va t
  have hnear : ∀ z ∈ ds, c.region.1 / 32 ≤ firstSector ds ∧ firstSector ds ≤ z ∧ z < firstSector ds + ds.length :=
    dirtySectors_neighbours s i hr
  rcases eq_or_ne ds [] with hds | hds
  · have ht : t = s := congrArg (fun p : CPerf => p.eff s) (wbackUnit_clean hds)
    rw [ht, hds]
    exact ⟨by simp, [], by simp⟩
  · rw [wbackUnit_dirty hds] at hc
    obtain ⟨g, hg, heff⟩ := sent_of_no_causes hc
    obtain ⟨f, hf, rfl⟩ := Option.map_eq_some_iff.mp hg
    have ht : t = clearDirty (spadKey s.ctx.gunit 0 / 32) ds (f s) :=
      (congrArg (fun p : CPerf => p.eff s) (wbackUnit_dirty hds)).trans (congrFun heff s)
    obtain ⟨hdirty, qs, hqs, hall, hex⟩ :=
      writeFrom_sends (va := va + (32 * firstSector ds - c.region.1)) (len := 32 * ds.length) (a := 32 * firstSector ds) hf s
    rw [ht]
    refine ⟨fun d => by rw [mem_clearDirty, hdirty], qs, hqs, hall, fun z hz b hb => ?_⟩
    obtain ⟨hlow, hle, hlt⟩ := hnear z hz
    obtain ⟨q, hq, j, hj, hva⟩ := hex (32 * (z - firstSector ds) + b) (by omega)
    have hbyte : 32 * firstSector ds + (32 * (z - firstSector ds) + b) = 32 * z + b := by omega
    have haddr : va + (32 * firstSector ds - c.region.1) + (32 * (z - firstSector ds) + b) =
        va + (32 * z - c.region.1) + b := by omega
    exact ⟨q, hq, j, by rw [← hbyte]; exact hj, by rw [← haddr]; exact hva⟩

end Sys2Proof.Proofs
end

section
/-! PROOF. Windows bound, filled and released; copies complete, missed promises and notices (O45). -/

namespace Sys2Proof.Proofs

open Sys2Proof.Machine
open Sys2Proof.Laws

theorem backWrite_mem {s : State} {c : Cmd} {ds : List Nat} {f : State → State} (hf : backWrite s c ds = some f) (u : State) :
    (f u).mem = u.mem := by
  obtain ⟨cuts, -, rfl⟩ := Option.map_eq_some_iff.mp hf
  exact sendAll_mem u c cuts _

theorem wbackUnit_mem (s : State) (c : Cmd) (i : Nat) : ((wbackUnit s c i).eff s).mem = s.mem := by
  rcases eq_or_ne (dirtySectors s c i) [] with hds | hds
  · rw [wbackUnit_clean hds]
    rfl
  · rw [wbackUnit_dirty hds]
    cases hf : backWrite s c (dirtySectors s c i) with
    | none => rfl
    | some f => exact backWrite_mem hf s

theorem cPerform_wback {s : State} {c : Cmd} {i : Nat} (hop : c.op = .wback ∨ c.op = .wunmap) (hi : i < c.reqs) :
    cPerform s c i = some (wbackUnit s c i) := by
  rcases hop with h | h <;> simp [cPerform, cUnit, Cmd.cCount, h, hi]

/-! ## Binding and releasing windows (R104, R274, R275) -/

theorem cPerform_wmap {c : Cmd} (s : State) (h : c.op = .wmap) : cPerform s c 0 = some (wmapUnit c) := by
  simp [cPerform, cUnit, Cmd.cCount, h]

/-- R104: a window whose index no other has is bound from its own task cycle on. -/
theorem boundWin_append {x : Ctx} {ws : List Win} {w : Win} (hx : x.wins = ws ++ [w]) (hw : ∀ v ∈ ws, v.idx ≠ w.idx) :
    boundWin x w.idx.val = if w.fromT ≤ x.now then some w else none := by
  have hold : (ws.find? fun v => v.idx.val == w.idx.val && v.fromT ≤ x.now) = none := by
    rw [List.find?_eq_none]
    intro v hv
    simp [Fin.val_inj, hw v hv]
  rw [boundWin, hx, List.find?_append, hold, Option.none_or]
  by_cases h : w.fromT ≤ x.now <;> simp [h]

/-- Two ranges of which each begins before the other ends meet. -/
theorem overlap_isSome_iff (a n b m : Nat) :
    (overlap [(a, n)] [(b, m)]).isSome = true ↔ a < b + m ∧ b < a + n ∧ 0 < m ∧ 0 < n := by
  simp [overlap, Nat.pos_iff_ne_zero]
  omega

/-- R104, R274: a WMAP to an index that is bound, or to a region that meets another's. -/
theorem wmapLimits_held {s : State} {sh : Fin 4 → Shape} {a : Fin 32} {k : Fin 8} {v : Win} (hv : v ∈ s.ctx.wins)
    (hheld : v.idx = k ∨ (overlap [regionOf (sh 0)] [(v.base, v.len)]).isSome = true)
    (hrow : (sh 0).rowLen % 32 = 0) (hbase : (sh 0).base.toNat % 64 = 0) (hpitch : (sh 0).pitch.toNat % 64 = 0)
    (hva : (rdG s a).toNat % 64 = 0) (hlt : (rdG s a).toNat < 2 ^ 56) :
    wmapLimits a k s sh = some (mkTrap s 0x02 (some (BitVec.ofNat 64 k.val)) none none) := by
  have hlocal : isRemote (rdG s a) = false := by
    rw [isRemote, BitVec.getLsbD, Nat.testBit_eq_false_of_lt (lt_of_lt_of_le hlt (by norm_num))]
  have hgood : badCAddr (rdG s a) = false := by
    rw [badCAddr, if_neg (by simp [hlocal]), Nat.div_eq_of_lt hlt]
    rfl
  have haddr : addrLimit s a false 64 = none := by
    have hmod : cAddr (rdG s a) % 64 = 0 := by rw [cAddr, if_neg (by simp [hlocal]), Nat.mod_eq_of_lt hlt, hva]
    simp [addrLimit, hgood, hlocal, hmod]
  rw [wmapLimits]
  dsimp only
  rw [if_neg (by omega), haddr, Option.none_or, if_pos ?_]
  rw [List.any_eq_true]
  refine ⟨_, List.mem_append_left _ (List.mem_map_of_mem hv), ?_⟩
  rcases hheld with h | h
  · simp [h]
  · simp [h]

/-- R275, R344: the WUNMAPs whose occupancy has ended release their windows. -/
theorem mem_freeEntries_wins (s : State) (n : Nat) (w : Win) : w ∈ (freeEntries s n).ctx.wins ↔ w ∈ s.ctx.wins ∧
    ∀ k : Cmd, k ∈ s.ctx.cq ∧ k.op = .wunmap ∧ k.state = .running ∧ k.freed = false ∧ k.base + k.occ s.ctx.upper ≤ n →
      Fin.ofNat 8 k.aux ≠ w.idx := by
  show w ∈ s.ctx.wins.filter _ ↔ _
  rw [List.mem_filter]
  refine and_congr_right fun _ => ?_
  simp only [Bool.not_eq_true', List.contains_eq_mem, decide_eq_false_iff_not, List.mem_map, List.mem_filter, Bool.and_eq_true,
    beq_iff_eq, decide_eq_true_eq, not_exists, not_and]
  exact ⟨fun h k ⟨hk, hop, hst, hfr, hle⟩ => h k ⟨hk, ⟨⟨hst, hfr⟩, hle⟩, hop⟩,
    fun h k ⟨hk, ⟨⟨hst, hfr⟩, hle⟩, hop⟩ => h k ⟨hk, hop, hst, hfr, hle⟩⟩

/-! ## Arrivals in windows (R106, R273) -/

/-- R273: a WFILL's sectors are clean. -/
theorem not_mem_dirty_fill {s : State} {u a : Nat} {bs : List Byte} (syn : List (BitVec 16)) (keep : Nat → Bool) {k : Nat}
    (hk : k ∈ sectorsOf a bs.length) : spadKey u (32 * k) / 32 ∉ (fillPut s u a bs syn true keep).dirty := by
  show _ ∉ s.dirty.filter fun d => !(((sectorsOf a bs.length).map fun k => (k, spadKey u (32 * k) / 32)).any fun x => x.2 == d)
  simp only [List.mem_filter, not_and, Bool.not_eq_true', Bool.not_eq_false, List.any_eq_true]
  exact fun _ => ⟨_, List.mem_map_of_mem hk, beq_self_eq_true _⟩

/-- A fold that adds keys of a list, unless they are there, keeps those there and adds every key it is asked to. -/
theorem mem_foldl_mark {α : Type} (p : α → Bool) (key : α → Nat) (l : List α) (ds : List Nat) (d : Nat) :
    d ∈ l.foldl (fun d x => if p x = true ∧ !(d.contains (key x)) then d ++ [key x] else d) ds ↔
      d ∈ ds ∨ ∃ x ∈ l, p x = true ∧ key x = d := by
  induction l generalizing ds with
  | nil => simp
  | cons x l ih =>
    have hone : d ∈ (if p x = true ∧ !(ds.contains (key x)) then ds ++ [key x] else ds) ↔ d ∈ ds ∨ p x = true ∧ key x = d := by
      by_cases hp : p x = true <;> by_cases hc : key x ∈ ds
      · simp only [hp, hc, List.contains_eq_mem, decide_true, Bool.not_true, Bool.false_eq_true, and_false, if_false, true_and]
        exact ⟨Or.inl, fun h => h.elim id (· ▸ hc)⟩
      · simp [hp, hc, eq_comm]
      · simp [hp]
      · simp [hp]
    rw [List.foldl_cons, ih, hone]
    simp [or_assoc]

/-- R14, R106: a sector that an arrival touches, inside a bound window of its unit, is dirty. -/
theorem mem_dirty_arrival {s : State} {u a : Nat} {bs : List Byte} (syn : List (BitVec 16)) (keep : Nat → Bool) {k : Nat}
    (hk : k ∈ sectorsOf a bs.length) {c : Ctx} (hc : c ∈ allCtx s) (hlive : c.live = true) (hu : c.gunit = u)
    (hw : inWindow c (32 * k) 32 = true) : spadKey u (32 * k) / 32 ∈ (fillPut s u a bs syn false keep).dirty := by
  refine (mem_foldl_mark (fun x : Nat × Nat => (allCtx s).any fun c => c.live && c.gunit == u && inWindow c (32 * x.1) 32)
    Prod.snd _ s.dirty _).mpr (.inr ⟨_, List.mem_map_of_mem hk, ?_, rfl⟩)
  rw [List.any_eq_true]
  exact ⟨c, hc, by simp [hlive, hu, hw]⟩

/-! ## Promised commands (R206, R267, R349, R410) -/

/-- R206: one command less for a wait on a promise. -/
def awaitsLess (cmd : Nat) (c : Ctx) : Ctx :=
  { c with
    cq := c.cq.filter fun k => !(k.id == cmd && k.freed)
    wait := match c.wait with
      | .waitp n g cs gr p k => .waitp n g (cs.filter (· != cmd)) gr p k
      | w => w }

/-- R349: PROMISE_MISSED of a context. -/
def missedPromise (n : Fin 8) (k p : Nat) (c : Ctx) : Ctx :=
  { c with cands := c.cands ++ [(c.now, 9, ⟨0x15, BitVec.ofNat 64 n.val, (c.r.pm[n]).setWidth 64, BitVec.ofNat 64 k,
    BitVec.ofNat 64 p⟩, 0)] }

/-- R349, R410: a wait on a promised command counts anew. -/
def countsAnew (cmd : Nat) (c : Ctx) : Ctx :=
  { c with wait := match c.wait with
    | .waitp n t cs g p k => .waitp n t cs g p (if cs.contains cmd then 0 else k)
    | w => w }

theorem countsAnew_waitp {c : Ctx} {n : Fin 8} {g : Nat} {cs : List Nat} {gr p k cmd : Nat} (hw : c.wait = .waitp n g cs gr p k)
    (h : cmd ∈ cs) : countsAnew cmd c = { c with wait := .waitp n g cs gr p 0 } := by
  rw [countsAnew, hw]
  simp [h]

section
variable {s : State} {cid : Nat} {c : Ctx} (hc : findCtx s cid = some c)
include hc

theorem exec_copyCompletion {cmd : Nat} (h : ∃ k ∈ c.cq, k.id = cmd ∧ k.left = 0) :
    exec (.copyCompletion cid cmd) s = .next (updCtx s cid (awaitsLess cmd)) := by
  obtain ⟨k, hk, hid, hleft⟩ := h
  have hany : (c.cq.any fun k => k.id == cmd && k.left == 0) = true := List.any_eq_true.mpr ⟨k, hk, by simp [hid, hleft]⟩
  show execCopyCompletion cid cmd s = _
  rw [execCopyCompletion, hc]
  exact if_pos hany

section
variable {n : Fin 8} {g : Nat} {cs : List Nat} {gr p k : Nat} (hw : c.wait = .waitp n g cs gr p k)
include hw

theorem exec_promiseMissed (hr : c.role ≠ .parked) (hcs : cs ≠ []) (hg : g ≤ c.now) (hd : c.hdr.det = false) (h0 : gr ≠ 0)
    (hk : gr < k) : exec (.promiseMissed cid) s = .next (updCtx s cid (missedPromise n k p)) := by
  have hfrozen : frozenPast c = some (n, gr, p, k) := by simp [frozenPast, hw, hcs, hg, hr]
  show execPromiseMissed cid s = _
  simp only [execPromiseMissed, hc, hfrozen]
  exact if_pos ⟨by simp [hd], h0, hk⟩

theorem exec_promiseMissed_off (h : gr = 0 ∨ c.hdr.det = true) : exec (.promiseMissed cid) s = .next s := by
  show execPromiseMissed cid s = _
  simp only [execPromiseMissed, hc]
  split
  case h_1 n' g' p' k' hfrozen =>
    have hgr : g' = gr := by
      simp only [frozenPast, hw] at hfrozen
      split at hfrozen
      · cases hfrozen
        rfl
      · cases hfrozen
    refine if_neg fun ⟨hdet, hne, _⟩ => ?_
    rcases h with h | h
    · exact hne (hgr.trans h)
    · simp [h] at hdet
  case h_2 => rfl

end
end

theorem exec_keepWaitingNotice {s : State} {cid cmd : Nat}
    (h : ∃ x ∈ s.net.pieces, x.state = .parked ∧ x.cid = cid ∧ x.cmd = cmd) :
    exec (.keepWaitingNotice cid cmd) s = .next (updCtx s cid (countsAnew cmd)) := by
  obtain ⟨x, hx, hpark, hid, hcmd⟩ := h
  have hmem : x ∈ parkedPieces s := List.mem_filter.mpr ⟨hx, by simp [hpark]⟩
  exact if_pos (List.any_eq_true.mpr ⟨x, hmem, by simp [hid, hcmd]⟩)

/-- Settles O45: windows by boundWin_append and wmapLimits_held, write-backs by wbackUnit_sends, arrivals by not_mem_dirty_fill
and mem_dirty_arrival, and the rest by what each step does to its context. -/
theorem promiseSteps : Obligations.PromiseSteps := by
  unfold Obligations.PromiseSteps
  refine ⟨fun s c hop => ⟨_, cPerform_wmap s hop, rfl, rfl, rfl, fun hw x hx => boundWin_append hx hw⟩,
    fun s sh a k v hv hheld hrow hbase hpitch hva hlt =>
      ⟨_, wmapLimits_held hv (hheld.imp_right ?_) hrow hbase hpitch hva hlt, rfl, rfl⟩,
    fun s c i hop hi hr => ⟨_, cPerform_wback hop hi, wbackUnit_mem s c i, fun hds => ?_, wbackUnit_sends hr⟩,
    fun s n => ⟨mem_freeEntries_wins s n, rfl⟩,
    fun s u a bs syn keep k hk => ⟨fun d hd hde => not_mem_dirty_fill syn keep hk (hde ▸ hd),
      fun c hc hlive hu v hv h1 h2 h3 => mem_dirty_arrival syn keep hk hc hlive hu ?_⟩,
    fun s cid cmd c hc => ⟨fun h => ⟨_, exec_copyCompletion hc h, onlyCtx_updCtx s cid fun _ h => ⟨h, rfl⟩⟩,
      fun n g cs gr p k hw hrole => ⟨fun hcs hg hd h0 hk => ⟨_, exec_promiseMissed hc hw hrole hcs hg hd h0 hk,
        onlyCtx_updCtx s cid fun _ h => ⟨h, rfl⟩⟩, exec_promiseMissed_off hc hw,
        fun hcmd h => ⟨_, exec_keepWaitingNotice h, ?_, rfl, rfl⟩⟩⟩⟩
  · exact fun h => (overlap_isSome_iff ..).mpr h
  · rw [wbackUnit_clean hds]
    exact ⟨rfl, rfl⟩
  · rw [inWindow, List.any_eq_true]
    exact ⟨v, hv, (overlap_isSome_iff ..).mpr ⟨h2, h1, h3, by norm_num⟩⟩
  · refine (findCtx_updCtx_self s cid (f := countsAnew cmd) fun _ h => ⟨h, rfl⟩).trans ?_
    rw [hc, Option.map_some, countsAnew_waitp hw hcmd]

end Sys2Proof.Proofs
end

section
/-! PROOF. QINIT's control word read back while another context's write of the same word is not seen yet (O42). -/

namespace Sys2Proof.Proofs

open Sys2Proof.Machine
open Sys2Proof.Laws

/-- QINIT's write ends claims, changes local bytes, and adds its own note of the word to the notes. -/
theorem writeQinit_view (s : State) (a : Nat) (b : Word) : (writeQinit s a b).ctx.gunit = s.ctx.gunit ∧
    (writeQinit s a b).ctx.src = s.ctx.src ∧
    (writeQinit s a b).qprev = s.qprev ++ [(spadKey s.ctx.gunit a, s.ctx.src, spadRead s a 32)] := by
  obtain ⟨t, ht⟩ : ∃ t, t = mapCtx (noteQ s a) fun c =>
      if c.live ∧ c.gunit = s.ctx.gunit then { c with claims := c.claims.filter (· != a) } else c := ⟨_, rfl⟩
  have hput : writeQinit s a b = putCells t (runCells a (leBytes 32 (qinitWord b).toNat)) := by rw [ht]; rfl
  have hctx : t.ctx.gunit = s.ctx.gunit ∧ t.ctx.src = s.ctx.src := by
    have hsame : t.ctx = if s.ctx.live ∧ s.ctx.gunit = s.ctx.gunit then
        { s.ctx with claims := s.ctx.claims.filter (· != a) } else s.ctx := by rw [ht]; rfl
    rw [hsame]
    split <;> exact ⟨rfl, rfl⟩
  have hnotes : t.qprev = s.qprev ++ [(spadKey s.ctx.gunit a, s.ctx.src, spadRead s a 32)] := by rw [ht]; rfl
  have hkeeps : ∀ cells, ((putCells t cells).ctx, (putCells t cells).qprev) = (t.ctx, t.qprev) :=
    putCells_keeps (fun u => (u.ctx, u.qprev)) (fun _ _ _ _ => rfl) t
  obtain ⟨hc, hq⟩ := Prod.mk.inj (hkeeps (runCells a (leBytes 32 (qinitWord b).toNat)))
  rw [hput, hc, hq]
  exact ⟨hctx.1, hctx.2, hnotes⟩

/-- R236: after QINIT's write, a context reads the bytes that stood before another context's write of this real cycle. -/
theorem readQ_writeQinit_noted {s : State} {a : Nat} {x : Nat × Nat × List Byte}
    (hx : (s.qprev.find? fun x => x.1 == spadKey s.ctx.gunit a && x.2.1 != s.ctx.src) = some x) (b : Word) :
    readQ (writeQinit s a b) a = QWord.ofNat (leNat x.2.2) := by
  obtain ⟨hunit, hsrc, hnotes⟩ := writeQinit_view s a b
  have hfound : ((writeQinit s a b).qprev.find? fun x =>
      x.1 == spadKey (writeQinit s a b).ctx.gunit a && x.2.1 != (writeQinit s a b).ctx.src) = some x := by
    rw [hunit, hsrc, hnotes, List.find?_append, hx, Option.some_or]
  rw [readQ, queueBytes, hfound]

/-- R236, R292: the lead of core 0 about to initialise the control word at 0x8000 (4 elements of 4 bytes at 0x9000), which its
trail, of source 1, has written in this real cycle; its HEAD was 1 before. -/
def wordWrittenByAnother : State :=
  { State.reset with
    ctx := { Ctx.vacant with
      status := .running, role := .lead, started := true, src := 2, hdr := { Hdr.zero with quota := 0x200000 }
      r := { Regs.zero with g := (Regs.zero.g.set 1 0x8000).set 2 0x0090000004400000 } }
    others := [{ Ctx.vacant with status := .running, role := .trail, started := true, cid := 1, ctxno := 1, src := 1 }]
    qprev := [(0x8000, 1, leBytes 32 (2 ^ 64))] }

/-- QINIT acts there, and its checks pass. -/
theorem qinit_passes : acts wordWrittenByAnother = true ∧ qinitCheck wordWrittenByAnother 1 2 = none := by decide +kernel

theorem readQ_wordWrittenByAnother : readQ (writeQinit wordWrittenByAnother 0x8000 0x0090000004400000) 0x8000 =
    ⟨0, 1, 0, 0, 0, 0, 0, 0⟩ :=
  (readQ_writeQinit_noted (x := (0x8000, 1, leBytes 32 (2 ^ 64))) (by decide +kernel) _).trans (by decide +kernel)

/-- Refutes O42: its clause about the control word that QINIT leaves reads the word back with readQ, which passes over a write
that another context has made in this real cycle (R236); so it answers the bytes that stood before that write, with HEAD 1 in
wordWrittenByAnother, and not QINIT's word with HEAD 0. -/
theorem not_tablesDeclarationsAndPower : ¬ Obligations.TablesDeclarationsAndPower := by
  unfold Obligations.TablesDeclarationsAndPower
  rintro ⟨-, h, -⟩
  obtain ⟨-, -, -, -, -, -, -, hword⟩ := h wordWrittenByAnother 1 2 qinit_passes.1
  have hread := (hword (by decide) (by decide)).1
  have hhead := congrArg QWord.head (readQ_wordWrittenByAnother.symm.trans hread)
  exact absurd hhead (by decide)

end Sys2Proof.Proofs
end

section
/-! PROOF. The Welt: records offered to a round, the end of a round, logit faults, tables and seeds (O53). -/

namespace Sys2Proof.Proofs

open Sys2Proof.Machine
open Sys2Proof.Laws

theorem findSlot_updSlot (s : State) (n : Nat) {f : Slot → Slot} (hf : ∀ x, (f x).n = x.n) :
    findSlot (updSlot s n f) n = (findSlot s n).map f :=
  find?_map_key Slot.n hf n _

/-! ## The checks of a record (R285) -/

theorem reserved_none_iff (r : List Byte) : ((List.range 51).find? fun i => recField r (13 + i) 1 != 0) = none ↔
    ∀ i, 13 ≤ i → i < 64 → recField r i 1 = 0 := by
  simp only [List.find?_eq_none, List.mem_range, bne_iff_ne, ne_eq, not_not]
  refine ⟨fun h i h1 h2 => ?_, fun h i hi => h (13 + i) (by omega) (by omega)⟩
  have hi := h (i - 13) (by omega)
  rwa [Nat.add_sub_cancel' h1] at hi

theorem unused_none_iff (r : List Byte) (nq : Nat) :
    ((List.range 128).find? fun i => i ≥ 2 * nq && recField r (64 + 4 * i) 4 != 0) = none ↔
      ∀ i, 2 * nq ≤ i → i < 128 → recField r (64 + 4 * i) 4 = 0 := by
  simp only [List.find?_eq_none, List.mem_range, Bool.and_eq_true, decide_eq_true_eq, bne_iff_ne, ne_eq, not_and, not_not]
  exact ⟨fun h i h1 h2 => h i h2 h1, fun h i h2 h1 => h i h1 h2⟩

/-- R285: a record is sound when it passes every one of the Welt's checks. -/
theorem recFault_none_iff (s : State) (r : List Byte) : recFault s r = none ↔
    (∀ i, 13 ≤ i → i < 64 → recField r i 1 = 0) ∧ 0 < recField r 12 1 ∧ recField r 12 1 ≤ 64 ∧
      (∀ i, 2 * recField r 12 1 ≤ i → i < 128 → recField r (64 + 4 * i) 4 = 0) ∧
      (∃ p ∈ recPairs r, p.1 = recField r 0 4) ∧ recField r 8 2 < 1024 ∧ (findSlot s (recField r 8 2)).isSome = true := by
  rw [← reserved_none_iff, ← unused_none_iff, recFault]
  cases hres : (List.range 51).find? fun i => recField r (13 + i) 1 != 0 with
  | some i => simp
  | none =>
    by_cases hnq : recField r 12 1 = 0 ∨ recField r 12 1 > 64
    · simp only [if_pos hnq]
      exact iff_of_false (by simp) fun ⟨_, hpos, hle, _⟩ => by omega
    · have hn : 0 < recField r 12 1 ∧ recField r 12 1 ≤ 64 := by omega
      simp only [if_neg hnq, hn.1, hn.2, true_and]
      cases hun : (List.range 128).find? fun i => i ≥ 2 * recField r 12 1 && recField r (64 + 4 * i) 4 != 0 with
      | some i => simp
      | none =>
        have hany : ((recPairs r).any fun p => p.1 == recField r 0 4) = true ↔ ∃ p ∈ recPairs r, p.1 = recField r 0 4 := by
          simp only [List.any_eq_true, beq_iff_eq]
        by_cases htok : ∃ p ∈ recPairs r, p.1 = recField r 0 4
        · simp [hany.mpr htok, htok, Option.isSome_iff_ne_none]
        · simp [Bool.eq_false_iff.mpr (mt hany.mp htok), htok]

/-! ## What becomes of a record (R300, R301) -/

theorem judgeRecord_fault {s : State} {r : List Byte} {o : Nat} (h : recFault s r = some o) : judgeRecord s r = .trap o := by
  simp [judgeRecord, h]

section
variable {s : State} {r : List Byte} {x : Slot} (h : recFault s r = none) (hx : findSlot s (recField r 8 2) = some x)
include h hx

theorem judgeRecord_stale (ha : x.st = 0 ∨ 0 < ageOf x.epoch (recField r 10 2) ∧ ageOf x.epoch (recField r 10 2) < 32768) :
    judgeRecord s r = .flush := by
  simp [judgeRecord, h, hx, ha]

theorem judgeRecord_early (hst : x.st ≠ 0) (ha : 32768 ≤ ageOf x.epoch (recField r 10 2)) : judgeRecord s r = .trap 10 := by
  have hstale : ¬(x.st = 0 ∨ 0 < ageOf x.epoch (recField r 10 2) ∧ ageOf x.epoch (recField r 10 2) < 32768) := by omega
  have hage : ageOf x.epoch (recField r 10 2) ≠ 0 := by omega
  simp only [judgeRecord, h, hx, if_neg hstale, if_pos hage]

theorem judgeRecord_current (hst : x.st = 1) (ha : ageOf x.epoch (recField r 10 2) = 0) (hd : x.recs.length < x.depth)
    (hpos : recField r 4 4 = x.slen + x.recs.length) : judgeRecord s r = if proposalsFull s = true then .full else .queue := by
  simp [judgeRecord, h, hx, hst, ha, Nat.not_le.mpr hd, hpos]

end

section
variable {s : State} (cid : Nat) {r : List Byte}

theorem exec_intake_taken (h : judgeRecord s r = .flush ∨ judgeRecord s r = .queue) :
    exec (.proposalRecordIntake cid r) s = .next (takeRecord s r) := by
  show execProposalRecordIntake cid r s = _
  rcases h with h | h <;> simp only [execProposalRecordIntake, h]

theorem exec_intake_full (h : judgeRecord s r = .full) : exec (.proposalRecordIntake cid r) s = .next s := by
  show execProposalRecordIntake cid r s = _
  simp only [execProposalRecordIntake, h]

/-- R285, R300: a context with the WELT_STATE that a refused record raises. -/
def weltRefused (s : State) (o : Nat) (c : Ctx) : Ctx := { c with
  cands := c.cands ++ [(c.tclk, 6, ⟨0x25, BitVec.ofNat 64 (weltRow c).1, BitVec.ofNat 64 o, fw s 2, (weltRow c).2⟩, 0)] }

theorem exec_intake_refused {o : Nat} (h : judgeRecord s r = .trap o) :
    exec (.proposalRecordIntake cid r) s = .next (updCtx s cid (weltRefused s o)) := by
  show execProposalRecordIntake cid r s = _
  simp only [execProposalRecordIntake, h]
  rfl

theorem findCtx_weltRefused {o : Nat} {c : Ctx} (hc : findCtx s cid = some c) :
    findCtx (updCtx s cid (weltRefused s o)) cid = some (weltRefused s o c) := by
  rw [findCtx_updCtx_self s cid (f := weltRefused s o) fun _ h => ⟨h, rfl⟩, hc]
  rfl

end

theorem takeRecord_flush {s : State} {r : List Byte} (h : judgeRecord s r = .flush) :
    takeRecord s r = updSlot s (recField r 8 2) fun x => { x with flushed := x.flushed + 1 } := by
  simp only [takeRecord, h]

theorem takeRecord_queue {s : State} {r : List Byte} (h : judgeRecord s r = .queue) :
    takeRecord s r = updSlot s (recField r 8 2) fun x =>
      { x with recs := x.recs ++ [r], st := if x.recs.length + 1 = x.depth then 2 else x.st } := by
  simp only [takeRecord, h]

/-! ## The end of a round (R305, R306) -/

/-- What the commit of a token leaves of a slot: what the next round is computed from. -/
def roundBasis (x : Slot) : Nat × Nat × Fin 8 × Nat × Nat × Nat × Nat × Nat :=
  (x.arate, x.ksh, x.ttab, x.dmin, x.dmax, x.h, x.epoch, x.round)

/-- What the commit of a token to slot `n` leaves of the machine. -/
def commitKeeps (n : Nat) (s : State) :=
  (s.mem, s.welt.thr, s.welt.finals, (findSlot s n).map roundBasis)

theorem commitKeeps_sendPkt (n : Nat) (s : State) (sid type : Nat) (body : List Byte) :
    commitKeeps n (sendPkt s sid type body) = commitKeeps n s := by
  unfold sendPkt
  split <;> rfl

theorem commitKeeps_updSlot {n : Nat} (s : State) {f : Slot → Slot} (hf : ∀ x, (f x).n = x.n ∧ roundBasis (f x) = roundBasis x) :
    commitKeeps n (updSlot s n f) = commitKeeps n s := by
  have hslot : (findSlot (updSlot s n f) n).map roundBasis = (findSlot s n).map roundBasis := by
    rw [findSlot_updSlot s n fun x => (hf x).1, Option.map_map]
    exact Option.map_congr fun x _ => (hf x).2
  simp only [commitKeeps, hslot]
  rfl

theorem commitKeeps_streamOut (n : Nat) (s : State) (x : Slot) (toks : List Nat) :
    commitKeeps n (streamOut s x toks) = commitKeeps n s := by
  unfold streamOut
  split
  · rfl
  · exact commitKeeps_sendPkt ..

theorem commitKeeps_release (s : State) (n keep : Nat) : commitKeeps n (release s n keep) = commitKeeps n s := by
  unfold release
  split
  · rfl
  · exact (commitKeeps_updSlot _ (by intro _; exact ⟨rfl, rfl⟩)).trans (commitKeeps_streamOut ..)

theorem commitKeeps_endRequest (s : State) (n cause : Nat) : commitKeeps n (endRequest s n cause) = commitKeeps n s := by
  have hrel : commitKeeps n (if cause = 0 then s else release s n 0) = commitKeeps n s := by
    split
    · rfl
    · exact commitKeeps_release ..
  unfold endRequest
  dsimp only
  split
  · exact hrel
  · exact (commitKeeps_sendPkt ..).trans ((commitKeeps_updSlot _ (by intro _; exact ⟨rfl, rfl⟩)).trans hrel)

theorem commitKeeps_commitToken (n : Nat) (s : State) (tok : Nat) : commitKeeps n (commitToken s n tok) = commitKeeps n s := by
  unfold commitToken
  split
  · rfl
  · rename_i x hx
    split
    · rfl
    · have hupd : commitKeeps n (updSlot s n fun y =>
          { y with hold := x.hold ++ [tok], slen := x.slen + 1, committed := x.committed ++ [tok] }) = commitKeeps n s :=
        commitKeeps_updSlot s fun _ => ⟨rfl, rfl⟩
      dsimp only
      split
      · rw [commitKeeps_endRequest, commitKeeps_release, hupd]
      · split
        · rw [commitKeeps_endRequest, commitKeeps_release, hupd]
        · rw [commitKeeps_release, hupd]

/-- R305: the tokens that a judged round commits, the last by WFINAL. -/
def roundTokens (x : Slot) (tok : Nat) : List Nat := (x.recs.take (x.jstar - 1)).map (fun r => recField r 0 4) ++ [tok]

/-- R305, R306: slot `y`, which has taken its tokens, as the round of `x` ends. -/
def roundEnded (s : State) (x y : Slot) : Slot :=
  let a := x.jstar - 1
  let rate := nextRate y.arate a x.depth y.ksh
  { y with
    arate := rate
    depth := nextDepth (s.welt.thr.toList.getD y.ttab.val []) rate x.depth y.dmin y.dmax y.h
    vlen := x.slen + a
    epoch := (y.epoch + 1) % 2 ^ 16
    rbVlen := x.slen + a
    rbEpoch := (y.epoch + 1) % 2 ^ 16
    recs := []
    round := (y.round + 1) % 2 ^ 32
    roundSeed := y.rseed
    jstar := 0
    st := if y.done then 0 else 1 }

theorem finishRound_eq {s : State} {n : Nat} {x : Slot} (hx : findSlot s n = some x) (hst : x.st = 4) (hd : x.done = false)
    (hf : x.fault = false) (hj : 0 < x.jstar) (tok : Nat) : finishRound s n tok =
      let u := (roundTokens x tok).foldl (fun s t => commitToken s n t) s
      updSlot u n (roundEnded u x) := by
  have hopen : ¬(x.done = true ∨ x.st ≠ 4) := by simp [hd, hst]
  have hjudged : ¬(x.jstar = 0 ∨ x.fault = true) := by simp [hf, Nat.ne_of_gt hj]
  simp only [finishRound, hx, if_neg hopen, if_neg hjudged]
  rfl

/-- R305, R306: what the end of an accepted round leaves: its slot moved on by what the round began with. -/
theorem finishRound_spec {s : State} {n : Nat} {x : Slot} (hx : findSlot s n = some x) (hst : x.st = 4) (hd : x.done = false)
    (hf : x.fault = false) (hj : 0 < x.jstar) (tok : Nat) : ∃ u z, finishRound s n tok = updSlot u n (roundEnded u x) ∧
      findSlot u n = some z ∧ roundBasis z = roundBasis x ∧ u.mem = s.mem ∧ u.welt.thr = s.welt.thr ∧
      u.welt.finals = s.welt.finals := by
  have hk := foldl_keeps (commitKeeps n) (commitKeeps_commitToken n) (roundTokens x tok) s
  simp only [commitKeeps, Prod.mk.injEq, hx, Option.map_some, Option.map_eq_some_iff] at hk
  obtain ⟨hmem, hthr, hfin, z, hz, hbasis⟩ := hk
  exact ⟨_, z, finishRound_eq hx hst hd hf hj tok, hz, hbasis, hmem, hthr, hfin⟩

/-- R305: the only WFINAL that waits, when it is ready. -/
theorem exec_wfinalPerformed {s : State} {cid : Nat} {f : FinalReq} (hf : s.welt.finals = [f]) (hc : f.cid = cid)
    (hr : finalReady s f = true) : exec (.wfinalPerformed cid) s =
      .next (finishRound { s with welt := { s.welt with finals := [] } } f.slot f.token) := by
  show execWfinalPerformed cid s = _
  simp [execWfinalPerformed, hf, hc, hr]

/-! ## The end of a logit task (R312) -/

theorem startTest_welt (s : State) (k u i : Nat) (a : Word) (on : List Nat) : (startTest s k u i a on).welt = s.welt := by
  simp only [startTest]
  split <;> rfl

theorem endClaim_welt (s : State) (a : Nat) : (endClaim s a).welt = s.welt := by
  have hput : ∀ u cells, (putCells u cells).welt = u.welt := putCells_keeps State.welt fun _ _ _ _ => rfl
  simp only [endClaim]
  split_ifs <;> simp only [startTest_welt, hput]

/-- R23: a task that retires leaves the Welt as it is. -/
theorem freeCtx_welt (s : State) : (freeCtx s).welt = s.welt := by
  have hrole : (freeCtx s).welt = (roleEnded s).welt := rfl
  rw [hrole, roleEnded, leaveRole_frame]
  exact foldl_keeps State.welt endClaim_welt _ s

theorem logitTaken_keeps {s : State} (hl : s.ctx.live = true) : (logitTaken s).welt = s.welt ∧
    (logitTaken s).ctx.cid = s.ctx.cid ∧ (logitTaken s).ctx.live = true := by
  unfold logitTaken
  split
  · exact ⟨rfl, rfl, hl⟩
  · unfold takeLogitFault
    dsimp only
    split <;> exact ⟨rfl, rfl, rfl⟩

/-- R312: the slot of a logit task that ends is marked, and its task retires. -/
theorem exec_logitFault {s : State} {cid n : Nat} {c : Ctx} {x : Slot} (hc : findCtx s cid = some c) (hn : logitSlot c = some n)
    (hx : findSlot s n = some x) : ∃ t, exec (.logitFault cid) s = .next t ∧ findSlot t n = some { x with fault := true } ∧
      t.ctx = Ctx.vacant ∧ ∃ d ∈ t.others, d.cid = cid ∧ d.status = .retired := by
  obtain ⟨u, hu⟩ : ∃ u, u = updLaunch (updSlot s n fun x => { x with fault := true }) c.lid fun l => { l with early := true } :=
    ⟨_, rfl⟩
  have hfocus : (focus u cid).ctx = c := by
    refine focus_ctx ((findCtx_congr ?_ ?_ cid).trans hc) <;> rw [hu] <;> rfl
  obtain ⟨hwelt, hcid, hlive⟩ := logitTaken_keeps (s := focus u cid) (hfocus ▸ live_of_findCtx hc)
  rw [hfocus, cid_of_findCtx hc] at hcid
  obtain ⟨⟨d, hd, hdc, hds, -⟩, -⟩ := freeCtx_spec (s := closePhase (logitTaken (focus u cid)) 4) hlive
  refine ⟨freeCtx (closePhase (logitTaken (focus u cid)) 4), ?_, ?_, freeCtx_ctx _, d, hd, hdc.trans hcid, hds⟩
  · show execLogitFault cid s = _
    simp only [execLogitFault, hc, hn, hu]
  · have hsame : (freeCtx (closePhase (logitTaken (focus u cid)) 4)).welt =
        (updSlot s n fun x => { x with fault := true }).welt := by
      rw [freeCtx_welt]
      exact hwelt.trans (by rw [focus_frame, hu]; rfl)
    rw [findSlot, hsame]
    exact (findSlot_updSlot s n (f := fun x => { x with fault := true }) fun _ => rfl).trans (by rw [hx]; rfl)

/-! ## Threshold tables and seeds (R296, R297, R313) -/

theorem exec_thresholdTableWrite (s : State) (k : Fin 8) {es : List Nat} (hn : es.length = 16) (hb : ∀ e ∈ es, e < 2 ^ 16)
    (hm : ∀ i, i < 15 → es.getD i 0 ≤ es.getD (i + 1) 0) : exec (.thresholdTableWrite k es) s =
      .next { s with welt := { s.welt with thr := Vector.ofFn fun j => if j = k then es else s.welt.thr[j] } } := by
  show execThresholdTableWrite k es s = _
  rw [execThresholdTableWrite, if_pos]
  simp only [Bool.and_eq_true, beq_iff_eq, List.all_eq_true, decide_eq_true_eq, List.mem_range]
  exact ⟨⟨hn, hb⟩, hm⟩

theorem exec_thresholdTableWrite_falling (s : State) (k : Fin 8) {es : List Nat} {i : Nat} (hi : i < 15)
    (h : es.getD (i + 1) 0 < es.getD i 0) : exec (.thresholdTableWrite k es) s = .next s := by
  show execThresholdTableWrite k es s = _
  rw [execThresholdTableWrite, if_neg]
  simp only [Bool.and_eq_true, List.all_eq_true, decide_eq_true_eq, List.mem_range]
  exact fun ⟨_, hm⟩ => Nat.not_lt.mpr (hm i hi) h

/-- R313: a task starts with the seed that its launch has then. -/
theorem startTask_seed {s : State} {l : Launch} (hl : findLaunch s s.ctx.lid = some l) : (startTask s).ctx.hdr.seed = l.hdr.seed := by
  have hupd := findLaunch_updLaunch s s.ctx.lid (f := fun l => { l with started := l.started ++ [s.ctx.gunit] }) fun _ => rfl
  rw [hl, Option.map_some] at hupd
  simp only [startTask, hl, up_ctx]
  split
  · exact congrArg (fun o => (Option.map (fun l : Launch => l.hdr.seed) o).getD s.ctx.hdr.seed) hupd
  · rw [hl]
    rfl

/-- Settles O53: a record by what judgeRecord makes of it, the end of a round by finishRound_spec, a logit task by
exec_logitFault, and a seed by the task that starts with it. -/
theorem weltSteps : Obligations.WeltSteps := by
  unfold Obligations.WeltSteps
  refine ⟨fun s cid r x h hx => ⟨fun ha => ?stale, fun hst ha hd hpos => ⟨fun hfull => ?joins, fun hfull => ?waits⟩, fun hst ha => ?early⟩,
    fun s cid o r c h hc => ?refused, recFault_none_iff,
    fun s cid f x hf hc hr hx hst hd hfl hj => ?final, fun s cid n c x hc hn hx => exec_logitFault hc hn hx,
    fun s k es => ⟨fun hn hb hm => ⟨_, exec_thresholdTableWrite s k hn hb hm, rfl, rfl, fun j => ?entry⟩,
      fun i hi h => exec_thresholdTableWrite_falling s k hi h⟩,
    fun s n x v hx => ⟨manageSlot s n 4 v, rfl, ?rseed, rfl, rfl, rfl⟩,
    fun s lid l v hl => ?seed⟩
  case stale =>
    have hj := judgeRecord_stale h hx ha
    refine ⟨_, exec_intake_taken cid (.inl hj), ?_, ?_, ?_⟩ <;> rw [takeRecord_flush hj]
    · rw [findSlot_updSlot s _ (by intro _; rfl), hx]; rfl
    · rfl
    · rfl
  case joins =>
    have hj : judgeRecord s r = .queue := by rw [judgeRecord_current h hx hst ha hd hpos, hfull]; rfl
    refine ⟨_, exec_intake_taken cid (.inr hj), ?_, ?_, ?_⟩ <;> rw [takeRecord_queue hj]
    · rw [findSlot_updSlot s _ (by intro _; rfl), hx, Option.map_some, hst]
    · rfl
    · rfl
  case waits => exact exec_intake_full cid (by rw [judgeRecord_current h hx hst ha hd hpos, hfull]; rfl)
  case early =>
    exact ⟨_, exec_intake_refused cid (judgeRecord_early h hx hst ha), rfl,
      fun c hc => ⟨_, findCtx_weltRefused cid hc, rfl, rfl, rfl, rfl⟩⟩
  case refused =>
    exact ⟨_, _, exec_intake_refused cid (judgeRecord_fault h), rfl, rfl, findCtx_weltRefused cid hc, rfl, rfl, rfl, rfl⟩
  case final =>
    obtain ⟨u, z, hfin, hz, hbasis, hmem, hthr, hfinals⟩ :=
      finishRound_spec (s := { s with welt := { s.welt with finals := [] } }) hx hst hd hfl hj f.token
    simp only [roundBasis, Prod.mk.injEq] at hbasis
    obtain ⟨ha, hk, ht, hlo, hhi, hh, he, hro⟩ := hbasis
    refine ⟨updSlot u f.slot (roundEnded u x), roundEnded u x z, (exec_wfinalPerformed hf hc hr).trans (by rw [hfin]), hfinals, ?_, ?_, ?_, rfl, ?_,
      rfl, rfl, rfl, ?_, rfl, hmem⟩
    · rw [findSlot_updSlot u _ (by intro _; rfl), hz]; rfl
    all_goals simp only [roundEnded, ha, hk, ht, hlo, hhi, hh, he, hro, hthr]
  case entry => simp
  case rseed =>
    exact (findSlot_updSlot s n (f := fun x => { x with rseed := v }) fun _ => rfl).trans (by rw [hx]; rfl)
  case seed =>
    have hfind : findLaunch (changeSeed s lid v) lid = some { l with hdr := { l.hdr with seed := v } } :=
      (findLaunch_updLaunch s lid (f := fun l => { l with hdr := { l.hdr with seed := v } }) fun _ => rfl).trans (by rw [hl]; rfl)
    exact ⟨changeSeed s lid v, _, rfl, hfind, rfl, rfl, rfl, rfl, fun hlid => startTask_seed ((congrArg (findLaunch _) hlid).trans hfind)⟩

end Sys2Proof.Proofs
end

section
/-! PROOF. The Welt: the depth of the next round (O54). -/

namespace Sys2Proof.Proofs

open Sys2Proof.Machine

/-- R306: the depth moves by the thresholds of depths d + 1 and d, where place i of the table holds the threshold of
depth i + 1. -/
theorem nextDepth_eq_thresholds (thr : List Nat) (rate d dmin dmax h : Nat) : nextDepth thr rate d dmin dmax h =
    if d < dmax ∧ thr.getD (d + 1 - 1) 0 + h ≤ rate then d + 1
    else if dmin < d ∧ rate + h < thr.getD (d - 1) 0 then d - 1 else d := by
  rw [Nat.add_sub_cancel]
  rfl

/-- Settles O54: the end of a round leaves the depth nextDepth (weltSteps), which moves by the thresholds of the slot's
own table. -/
theorem depthOfTheNextRound : Obligations.DepthOfTheNextRound := by
  unfold Obligations.DepthOfTheNextRound
  intro s cid f x hf hc hr hx hst hd hfl hj
  obtain ⟨-, -, -, hround, -⟩ := weltSteps
  obtain ⟨t, y, hexec, -, hy, hrate, hdepth, -⟩ := hround s cid f x hf hc hr hx hst hd hfl hj
  rw [getD_toList, ← hrate, nextDepth_eq_thresholds] at hdepth
  exact ⟨t, y, hexec, hy, hdepth⟩

end Sys2Proof.Proofs
end

section
/-! PROOF. Steps that are due, and the rows of the opcode table that they name (O32). -/

namespace Sys2Proof.Proofs

open Sys2Proof.Machine

/-! ## Rows and steps (R333) -/

/-- R333: the row of the opcode table that names a step (noncomputable: rows are more constructors than compiled code tells
apart). -/
noncomputable def eventRow (e : Event) : Instr :=
  match e with
  | .iterationBoundary => .iterationBoundary
  | .resultLatchCommit => .resultLatchCommit
  | .commandStart e => .commandStart e
  | .unitWriteCommit e => .unitWriteCommit e
  | .takingATrap => .takingATrap
  | .ringResume => .ringResume
  | .trailForcedIssue core => .trailForcedIssue core
  | .waittExpiry => .waittExpiry
  | .copyCompletion cid cmd => .copyCompletion cid cmd
  | .promiseMissed cid => .promiseMissed cid
  | .keepWaitingNotice cid cmd => .keepWaitingNotice cid cmd
  | .fillArrival pc => .fillArrival pc
  | .atomAtHome pc => .atomAtHome pc
  | .publicationCompletion src => .publicationCompletion src
  | .deliveryLanding pc => .deliveryLanding pc
  | .barRelease cid => .barRelease cid
  | .collCombine cid => .collCombine cid
  | .vpushStallRelease cid => .vpushStallRelease cid
  | .qlnchQueueRoom cid => .qlnchQueueRoom cid
  | .missedOperandRelease cid => .missedOperandRelease cid
  | .taskRetirement cid => .taskRetirement cid
  | .launchCompletion lid => .launchCompletion lid
  | .gangAdmission => .gangAdmission
  | .queueAgeing q => .queueAgeing q
  | .routerTableSwitch => .routerTableSwitch
  | .proposalRecordIntake cid rec => .proposalRecordIntake cid rec
  | .wtakeRelease cid => .wtakeRelease cid
  | .wdepthRelease cid => .wdepthRelease cid
  | .wfinalPerformed cid => .wfinalPerformed cid
  | .logitFault cid => .logitFault cid
  | .timerExpiry cid => .timerExpiry cid
  | .sliceExpiry cid => .sliceExpiry cid
  | .preemptLate cid => .preemptLate cid
  | .pwraGrant upper => .pwraGrant upper
  | .staticChargeTick unit => .staticChargeTick unit
  | .thermalSample temps => .thermalSample temps
  | .opSwitchQuiesce unit => .opSwitchQuiesce unit
  | .opSwitchSettled unit => .opSwitchSettled unit
  | .hangWatchdogExpiry cid => .hangWatchdogExpiry cid
  | .waitWatchdogExpiry cid => .waitWatchdogExpiry cid
  | .selfTestEnd test pass => .selfTestEnd test pass
  | .svcSetEnergy cid => .svcSetEnergy cid
  | .svcClearEnergyFlag cid => .svcClearEnergyFlag cid
  | .partitionSwapOut units => .partitionSwapOut units
  | .partitionSwapIn units => .partitionSwapIn units
  | .ctxcmdResume cid => .ctxcmdResume cid
  | .ctxcmdEndTask cid => .ctxcmdEndTask cid
  | .ctxcmdPark cid => .ctxcmdPark cid
  | .fdatRead v => .fdatRead v
  | .fdatWrite val => .fdatWrite val
  | .tmrWrite val => .tmrWrite val
  | .lcntWrite l val => .lcntWrite l val
  | .islctlWrite isl val => .islctlWrite isl val
  | .registerWrite r val => .registerWrite r val
  | .vctDatagramDiscard dg => .vctDatagramDiscard dg
  | .openSession body => .openSession body
  | .closeSession sid => .closeSession sid
  | .ack sid sq => .ack sid sq
  | .retransmit sid sq => .retransmit sid sq
  | .launch sid sq q hdr => .launch sid sq q hdr
  | .hostcopyIn sid sq va dat => .hostcopyIn sid sq va dat
  | .hostcopyOut sid sq va n => .hostcopyOut sid sq va n
  | .signalTask sid sq tag wid val => .signalTask sid sq tag wid val
  | .signalOpenSlot sid sq slot rec => .signalOpenSlot sid sq slot rec
  | .signalCancel sid sq slot req => .signalCancel sid sq slot req
  | .signalRelease sid sq slot req => .signalRelease sid sq slot req
  | .waitval sid sq va msk val rel tmo => .waitval sid sq va msk val rel tmo
  | .waitvalPoll sid sq => .waitvalPoll sid sq
  | .queryManagement sid sq idx off cnt => .queryManagement sid sq idx off cnt
  | .querySlotRecord sid sq idx off cnt => .querySlotRecord sid sq idx off cnt
  | .queryTrapFrame sid sq idx off cnt => .queryTrapFrame sid sq idx off cnt
  | .queryQueueState sid sq idx off cnt => .queryQueueState sid sq idx off cnt
  | .querySlotTables sid sq idx off cnt => .querySlotTables sid sq idx off cnt
  | .queryErrorLog sid sq idx off cnt => .queryErrorLog sid sq idx off cnt
  | .queryAttestation sid sq idx off cnt => .queryAttestation sid sq idx off cnt
  | .pageansMapped sid sq rseq => .pageansMapped sid sq rseq
  | .pageansFailure sid sq rseq => .pageansFailure sid sq rseq
  | .pageEntryWrite sid sq num va val => .pageEntryWrite sid sq num va val
  | .segmentEntryWrite sid sq num va w0 w1 => .segmentEntryWrite sid sq num va w0 w1
  | .pageMigrate sid sq num va val => .pageMigrate sid sq num va val
  | .mapCacheInvalidate sid sq num va => .mapCacheInvalidate sid sq num va
  | .freeFrameAppend sid sq num val => .freeFrameAppend sid sq num val
  | .segmentWordsWrite sid sq num va w2 w3 => .segmentWordsWrite sid sq num va w2 w3
  | .migrateTrigger cid va => .migrateTrigger cid va
  | .migrationCopy va => .migrationCopy va
  | .pieceAtHome pc => .pieceAtHome pc
  | .farPieceRefusal pc => .farPieceRefusal pc
  | .boot puf helper fw cfg failed => .boot puf helper fw cfg failed
  | .targetRefusal pc => .targetRefusal pc
  | .linkError ukind unit idx => .linkError ukind unit idx
  | .thresholdTableWrite t es => .thresholdTableWrite t es

theorem instrEvent_eventRow (e : Event) : instrEvent (eventRow e) = some e := by cases e <;> rfl

/-- R333: a row that is a step has the meaning of that step. -/
theorem exec_of_instrEvent {i : Instr} {e : Event} (h : instrEvent i = some e) (s : State) : exec i s = runEvent e s := by
  unfold instrEvent at h
  split at h <;> cases h
  all_goals rfl

/-! ## The order of a step (R333, R367) -/

theorem step_of_event {s : State} {e : Event} {es : List Event} (h : s.agenda = e :: es) :
    step s = runEvent e { s with agenda := es } := by
  rw [step, stepPart, h]

theorem step_of_turn {s : State} {cid : Nat} {cs : List Nat} (h : s.agenda = []) (hr : s.rota = cid :: cs) :
    step s = .next (turn { s with rota := cs } cid) := by
  rw [step, stepPart, h, hr]

theorem step_of_idle {s : State} (h : s.agenda = []) (hr : s.rota = []) :
    step s = if s.edge.isEmpty then .next (advance s) else .next { s with agenda := s.edge, edge := [] } := by
  rw [step, stepPart, h, hr]

/-- Settles O32: a step by what its agenda and its rota hold, and each event by its row. -/
theorem stepRunsDueSteps : Obligations.StepRunsDueSteps := by
  unfold Obligations.StepRunsDueSteps
  refine ⟨fun s e es i ha hi => ?event, fun e => ⟨eventRow e, instrEvent_eventRow e⟩, fun s cid cs ha hr => step_of_turn ha hr,
    fun s ha hr he => ?time, fun s ha hr he => ?edge⟩
  case event => rw [step_of_event ha, exec_of_instrEvent hi]
  case time => rw [step_of_idle ha hr, he]; rfl
  case edge => rw [step_of_idle ha hr, if_neg (by simpa using he)]

end Sys2Proof.Proofs
end

section
/-! PROOF. Fields of words, and the dwords of a frame that is written, part by part (O36). -/

namespace Sys2Proof.Proofs

open Sys2Proof.Machine
open Sys2Proof.Laws

/-! ## Bits and fields that lie side by side -/

/-- Fields of one width added at their places. -/
theorem foldl_fields (w : Nat) (f : Nat → Nat) (n : Nat) (hf : ∀ k, f k < 2 ^ w) :
    (List.range n).foldl (fun a k => a + at' (f k) (w * k)) 0 < 2 ^ (w * n) ∧
    ∀ k, k < n → (List.range n).foldl (fun a k => a + at' (f k) (w * k)) 0 / 2 ^ (w * k) % 2 ^ w = f k := by
  induction n with
  | zero => exact ⟨Nat.one_pos, fun k hk => absurd hk (Nat.not_lt_zero k)⟩
  | succ n ih =>
    obtain ⟨hlt, hfield⟩ := ih
    rw [List.range_succ, List.foldl_append, List.foldl_cons, List.foldl_nil]
    generalize (List.range n).foldl (fun a k => a + at' (f k) (w * k)) 0 = v at hlt hfield
    refine ⟨?_, fun k hk => ?_⟩
    · have hle : (f n + 1) * 2 ^ (w * n) ≤ 2 ^ w * 2 ^ (w * n) := Nat.mul_le_mul_right _ (hf n)
      rw [Nat.mul_succ, pow_add, Nat.mul_comm (2 ^ (w * n)), at']
      rw [Nat.add_mul, Nat.one_mul] at hle
      omega
    · rcases Nat.lt_succ_iff_lt_or_eq.mp hk with hkn | rfl
      · obtain ⟨j, rfl⟩ : ∃ j, n = k + 1 + j := ⟨n - (k + 1), by omega⟩
        have hsplit : v + at' (f (k + 1 + j)) (w * (k + 1 + j)) = v + 2 ^ (w * k) * (2 ^ w * (f (k + 1 + j) * 2 ^ (w * j))) := by
          simp only [at', mul_add, mul_one, pow_add]; ring
        rw [hsplit, Nat.add_mul_div_left _ _ (Nat.two_pow_pos _), Nat.add_mul_mod_self_left, hfield k hkn]
      · rw [at', Nat.add_mul_div_right _ _ (Nat.two_pow_pos _), Nat.div_eq_of_lt hlt, Nat.zero_add]
        exact Nat.mod_eq_of_lt (hf k)

/-- Bits added at their places. -/
theorem foldl_bits (p : Nat → Bool) (n : Nat) : (List.range n).foldl (fun a i => a + at' (b2n (p i)) i) 0 < 2 ^ n ∧
    ∀ i, i < n → (List.range n).foldl (fun a i => a + at' (b2n (p i)) i) 0 / 2 ^ i % 2 = b2n (p i) := by
  have hb : ∀ i, b2n (p i) < 2 ^ 1 := fun i => by cases p i <;> decide
  simpa only [Nat.one_mul, pow_one] using foldl_fields 1 (fun i => b2n (p i)) n hb

/-- R26: a shape register by its 128 bits. -/
theorem shape_ofNat_toNat (h : Shape) : Shape.ofNat h.toNat = h := by
  obtain ⟨b, p, r, c, o, co, f, t, e, a⟩ := h
  have := b.isLt; have := p.isLt; have := r.isLt; have := c.isLt; have := o.isLt
  have := co.isLt; have := f.isLt; have := e.isLt; have := a.isLt
  have ht : b2n t ≤ 1 := by cases t <;> decide
  have htb : (b2n t == 1) = t := by cases t <;> rfl
  simp only [Shape.ofNat, Shape.toNat, at', Shape.mk.injEq]
  refine ⟨?_, ?_, ?_, ?_, ?_, ?_, ?_, ?_, ?_, ?_⟩
  case refine_8 =>
    refine Eq.trans ?_ htb
    congr 1
    omega
  all_goals
    refine BitVec.eq_of_toNat_eq ?_
    rw [BitVec.toNat_ofNat]
    omega

/-- R196: a stride entry by its LSTRD value. -/
theorem stride_ofWord_toWord (x : Stride) : Stride.ofWord x.toWord = x := by
  obtain ⟨en, e, r, b⟩ := x
  have := e.isLt; have := r.isLt; have := b.isLt
  have hen : b2n en ≤ 1 := by cases en <;> decide
  have henb : (b2n en == 1) = en := by cases en <;> rfl
  have hv : (Stride.toWord ⟨en, e, r, b⟩).toNat = b2n en * 2 ^ 63 + e.val * 2 ^ 26 + r.val * 2 ^ 24 + b.toNat := by
    simp only [Stride.toWord, at', BitVec.toNat_ofNat]
    omega
  simp only [Stride.ofWord, hv, Stride.mk.injEq]
  refine ⟨?_, Fin.ext ?_, Fin.ext ?_, BitVec.eq_of_toNat_eq ?_⟩
  · refine Eq.trans ?_ henb
    congr 1
    omega
  · rw [Fin.val_ofNat]; omega
  · rw [Fin.val_ofNat]; omega
  · rw [BitVec.toNat_ofNat]; omega

/-! ## Places in lists of lists -/

/-- A place of the list number k among lists one behind another. -/
theorem getElem?_flatten_append {α : Type} {ls : List (List α)} (rest : List α) {k j : Nat} {l : List α} (hk : ls[k]? = some l)
    (hj : j < l.length) : (ls.flatten ++ rest)[((ls.take k).map List.length).sum + j]? = l[j]? := by
  induction ls generalizing k with
  | nil => cases hk
  | cons a ls ih =>
    cases k with
    | zero =>
      cases hk
      rw [List.take_zero, List.map_nil, List.sum_nil, Nat.zero_add, List.flatten_cons, List.append_assoc,
        List.getElem?_append_left hj]
    | succ k =>
      rw [List.take_succ_cons, List.map_cons, List.sum_cons, List.flatten_cons, List.append_assoc,
        List.getElem?_append_right (by omega), show a.length + ((ls.take k).map List.length).sum + j - a.length =
          ((ls.take k).map List.length).sum + j by omega]
      exact ih hk

/-- A place of one list's entries, each of which gives a list of one length. -/
theorem getElem?_flatMap_width {α β : Type} {f : α → List β} {w : Nat} (hf : ∀ a, (f a).length = w) {l : List α}
    {i k : Nat} {a : α}
    (hi : l[i]? = some a) (hk : k < w) : (l.flatMap f)[w * i + k]? = (f a)[k]? := by
  induction l generalizing i with
  | nil => cases hi
  | cons b l ih =>
    cases i with
    | zero =>
      cases hi
      rw [Nat.mul_zero, Nat.zero_add, List.flatMap_cons, List.getElem?_append_left (by rw [hf]; exact hk)]
    | succ i =>
      rw [List.flatMap_cons, List.getElem?_append_right (by rw [hf, Nat.mul_succ]; omega), hf,
        show w * (i + 1) + k - w = w * i + k by rw [Nat.mul_succ]; omega]
      exact ih hi

/-! ## The parts of a frame (R369, R370) -/

/-- R370: BRK, LBL and BRT of a pending branch. -/
def branchWords (c : Ctx) : Nat × Nat × Nat :=
  match c.pend with
  | .none => (0, 0, 0)
  | .branch x => (1, 0, x.toNat)
  | .lbrk l => (2, l.val, ((c.r.loops.toList.getD l.val Loop.zero).stop + 64).toNat)
  | .rte _ => (1, 0, 0)

/-- R370: the levels that are active, by bits. -/
def activeBits (c : Ctx) : Nat :=
  (List.range 6).foldl (fun a i => a + at' (b2n (c.r.loops.toList.getD i Loop.zero).active) i) 0

/-- R370: the levels that hold an LSTART or an LEND, by bits. -/
def heldBits (c : Ctx) : Nat :=
  (List.range 6).foldl (fun a i => a + at' (b2n ((c.r.loops.toList.getD i Loop.zero).hs.isSome ||
    (c.r.loops.toList.getD i Loop.zero).he.isSome)) i) 0

/-- R370: the status word of a frame. -/
def statusWord (c : Ctx) : Nat :=
  at' (waitWords c.wait).1 60 + at' (activeBits c) 54 + at' (heldBits c) 48 + at' c.dly 46 + at' (branchWords c).1 44 +
    at' (branchWords c).2.1 41 + at' (c.latches.take 32).length 35 + at' (b2n c.swt.isSome) 34

/-- R370: the word of a software trap not yet taken. -/
def swtWord (c : Ctx) : Nat := match c.swt with | none => 0 | some (imm, svc) => imm + at' (b2n svc) 16

/-- R369: the predicates by bits, p0 as 0. -/
def predBits (r : Regs) : Nat :=
  (List.range 8).foldl (fun a i => a + (if i = 0 then 0 else at' (b2n (r.p.toList.getD i false)) i)) 0

/-- R369, R370: the first dwords of a frame. -/
def frameHead (c : Ctx) (t : Trap) : List Nat :=
  [statusWord c, t.cause, t.i0.toNat, t.i1.toNat, t.i2.toNat, t.i3.toNat, (resumePc c).toNat, (branchWords c).2.2, c.tclk, 0,
    (waitWords c.wait).2, c.r.flg.toNat, c.r.fen.toNat, c.r.rmode.toNat, c.r.ftctl.toNat, c.r.grace.toNat,
    c.energy + at' (b2n c.energySat) 63, predBits c.r, 0, swtWord c]

/-- R369: the carried codes of the general registers. -/
def codeList (r : Regs) : List Nat := (List.range 32).map fun i => (wordCode (r.g.toList.getD i 0) ^^^ r.gsyn.toList.getD i 0).toNat

/-- R369: the parts of a frame before the records of its engines. -/
def frameParts (c : Ctx) (t : Trap) : List (List Nat) :=
  [frameHead c t, List.replicate 12 0, c.r.g.toList.map fun x => x.toNat, packWords 16 4 (codeList c.r) 8,
    c.r.pm.toList.map fun x => x.toNat, c.r.q.toList.map fun x => x.toNat, List.replicate 12 0, c.r.loops.toList.flatMap loopWords,
    c.r.loops.toList.flatMap (fun l => [(l.hs.getD 0).toNat, (l.he.getD 0).toNat]), List.replicate 4 0,
    c.r.sh.toList.flatMap shapeWords, c.r.sd.toList.flatMap shapeWords, packWords 32 2 (c.r.ft.toList.map fun x => x.toNat) 8,
    packWords 16 4 (c.r.st.toList.map fun x => x.toNat) 8, c.r.cht.toList.map fun x => x.toNat,
    c.r.dset.toList.map fun x => x.toNat, List.replicate 6 0, (c.latches.take 32).flatMap (latchWords c.tclk)]

/-- R369: the lengths of the parts before the latch records. -/
def partLengths : List Nat := [20, 12, 32, 8, 8, 4, 12, 48, 12, 4, 24, 24, 8, 8, 8, 18, 6]

theorem frameWords_parts (c : Ctx) (t : Trap) : ∃ rest, frameWords c t = (frameParts c t).flatten ++ rest := by
  have h : frameWords c t = frameHead c t ++ List.replicate 12 0 ++ (c.r.g.toList.map fun x => x.toNat) ++
      packWords 16 4 (codeList c.r) 8 ++ (c.r.pm.toList.map fun x => x.toNat) ++ (c.r.q.toList.map fun x => x.toNat) ++
      List.replicate 12 0 ++ c.r.loops.toList.flatMap loopWords ++
      c.r.loops.toList.flatMap (fun l => [(l.hs.getD 0).toNat, (l.he.getD 0).toNat]) ++ List.replicate 4 0 ++
      c.r.sh.toList.flatMap shapeWords ++ c.r.sd.toList.flatMap shapeWords ++ packWords 32 2 (c.r.ft.toList.map fun x => x.toNat) 8 ++
      packWords 16 4 (c.r.st.toList.map fun x => x.toNat) 8 ++ (c.r.cht.toList.map fun x => x.toNat) ++
      (c.r.dset.toList.map fun x => x.toNat) ++ List.replicate 6 0 ++ (c.latches.take 32).flatMap (latchWords c.tclk) ++
      List.replicate (64 - 2 * (c.latches.take 32).length) 0 ++ engineWords c.tclk c.uws c.vq ++ engineWords c.tclk c.uws c.xq ++
      engineWords c.tclk c.uws c.cq := rfl
  exact ⟨List.replicate (64 - 2 * (c.latches.take 32).length) 0 ++ (engineWords c.tclk c.uws c.vq ++
    (engineWords c.tclk c.uws c.xq ++ engineWords c.tclk c.uws c.cq)), by simp only [h, frameParts, List.flatten_cons,
      List.flatten_nil, List.append_nil, List.append_assoc]⟩

theorem length_flatMap_width {α β : Type} {f : α → List β} {w : Nat} (hf : ∀ a, (f a).length = w) (l : List α) :
    (l.flatMap f).length = w * l.length := by
  rw [List.length_flatMap, List.map_congr_left fun a _ => hf a]
  simp [Nat.mul_comm]

theorem packWords_length (w per : Nat) (l : List Nat) (n : Nat) : (packWords w per l n).length = n := by simp [packWords]

theorem frameParts_lengths (c : Ctx) (t : Trap) : ((frameParts c t).take 17).map List.length = partLengths := by
  have hl : ∀ l : Loop, (loopWords l).length = 8 := fun l => by simp [loopWords]
  simp [frameParts, frameHead, partLengths, packWords_length, length_flatMap_width hl,
    length_flatMap_width (f := shapeWords) (w := 2) fun _ => rfl]

/-- R369: the frame of a context stands in the Heel. -/
def HoldsFrame (u : State) (c : Ctx) (t : Trap) : Prop :=
  ∀ (i v : Nat), (frameWords c t)[i]? = some v → frameDword u i = BitVec.ofNat 64 v

theorem holdsFrame_of_writeFrame {s u : State} {t : Trap} (hm : u.mem = (writeFrame s t).mem)
    (ha : frameAddr u.ctx = frameAddr s.ctx) : HoldsFrame u s.ctx t := by
  intro i v hv
  obtain ⟨hi, rfl⟩ := List.getElem?_eq_some_iff.mp hv
  rw [frameDword, hm, ha, writeFrame, ← heelKey_add, memRead_memPut_value _ _ _ hi, leNat_leBytes]
  exact BitVec.eq_of_toNat_eq (by simp)

/-- R369: a dword of a part of a frame, counted from where the parts before it end. -/
theorem HoldsFrame.part {u : State} {c : Ctx} {t : Trap} (h : HoldsFrame u c t) {k : Nat} (hk : k ≤ 17) {l : List Nat}
    (hl : (frameParts c t)[k]? = some l) {j v : Nat} (hv : l[j]? = some v) :
    frameDword u ((partLengths.take k).sum + j) = BitVec.ofNat 64 v := by
  obtain ⟨rest, hw⟩ := frameWords_parts c t
  have hsum : (partLengths.take k).sum = (((frameParts c t).take k).map List.length).sum := by
    rw [← frameParts_lengths c t, ← List.map_take, List.take_take, min_eq_left hk]
  refine h _ v ?_
  rw [hsum, hw, getElem?_flatten_append rest hl (List.getElem?_eq_some_iff.mp hv).1, hv]

end Sys2Proof.Proofs
end

section
/-! PROOF. What a frame that stands gives back: the registers, the status word and the latches (O36). -/

namespace Sys2Proof.Proofs

open Sys2Proof.Machine
open Sys2Proof.Laws

/-! ## Vectors from lists -/

theorem vec_range {α : Type} {n : Nat} {d : α} {f : Nat → α} {v : Vector α n} (hv : ∀ i (hi : i < n), f i = v[i]) :
    vec n d ((List.range n).map f) = v := by
  refine Vector.ext fun i hi => ?_
  simp [vec, List.getD_eq_getElem?_getD, hv i hi]

theorem frameRange_getD (s : State) (i : Nat) {n k : Nat} (hk : k < n) :
    (frameRange s i n).getD k 0 = (frameDword s (i + k)).toNat := by
  simp [frameRange, List.getD_eq_getElem?_getD, hk]

theorem shape_toNat_lt (h : Shape) : h.toNat < 2 ^ 128 := by
  obtain ⟨b, p, r, c, o, co, f, t, e, a⟩ := h
  have := b.isLt; have := p.isLt; have := r.isLt; have := c.isLt; have := o.isLt
  have := co.isLt; have := f.isLt; have := e.isLt; have := a.isLt
  have ht : b2n t ≤ 1 := by cases t <;> decide
  simp only [Shape.toNat, at']
  omega

/-- R369: the predicates of a frame with p0 as 0. -/
theorem predBits_eq (r : Regs) :
    predBits r = (List.range 8).foldl (fun a i => a + at' (b2n (i != 0 && r.p.toList.getD i false)) i) 0 := by
  unfold predBits
  congr 1
  funext a i
  cases i with
  | zero => simp [at', b2n]
  | succ i => rfl

/-! ## The status word (R370) -/

theorem waitWords_lt (w : Wait) : (waitWords w).1 < 8 := by
  cases w <;> simp only [waitWords]
  case stall k => split <;> omega
  case hold k => split <;> omega
  all_goals omega

theorem branchWords_lt (c : Ctx) : (branchWords c).1 < 4 ∧ (branchWords c).2.1 < 8 := by
  unfold branchWords
  cases c.pend with
  | none => exact ⟨show 0 < 4 by decide, show 0 < 8 by decide⟩
  | branch x => exact ⟨show 1 < 4 by decide, show 0 < 8 by decide⟩
  | lbrk l => exact ⟨show 2 < 4 by decide, l.isLt⟩
  | rte pc => exact ⟨show 1 < 4 by decide, show 0 < 8 by decide⟩

/-- R370: the fields of the status word, BIT 63 clear. -/
theorem statusWord_fields {c : Ctx} (hd : c.dly < 4) :
    statusWord c < 2 ^ 63 ∧ statusWord c / 2 ^ 46 % 4 = c.dly ∧ statusWord c / 2 ^ 44 % 4 = (branchWords c).1 ∧
      statusWord c / 2 ^ 41 % 8 = (branchWords c).2.1 ∧ statusWord c / 2 ^ 34 % 2 = b2n c.swt.isSome ∧
      ∀ l, l < 6 → statusWord c / 2 ^ (54 + l) % 2 = b2n (c.r.loops.toList.getD l Loop.zero).active := by
  have hw := waitWords_lt c.wait
  obtain ⟨hb, hl⟩ := branchWords_lt c
  obtain ⟨hact, hbit⟩ := foldl_bits (fun i => (c.r.loops.toList.getD i Loop.zero).active) 6
  have hheld : heldBits c < 2 ^ 6 := (foldl_bits (fun i => ((c.r.loops.toList.getD i Loop.zero).hs.isSome ||
    (c.r.loops.toList.getD i Loop.zero).he.isSome)) 6).1
  have hn : (c.latches.take 32).length ≤ 32 := List.length_take_le 32 c.latches
  have hs : b2n c.swt.isSome ≤ 1 := by cases c.swt.isSome <;> decide
  change activeBits c < 2 ^ 6 at hact
  change ∀ l, l < 6 → activeBits c / 2 ^ l % 2 = _ at hbit
  simp only [statusWord, at']
  refine ⟨by omega, by omega, by omega, by omega, by omega, fun l hl => ?_⟩
  rw [← hbit l hl, pow_add, ← Nat.div_div_eq_div_mul]
  generalize (waitWords c.wait).1 = k at hw
  have hhigh : ∀ v, v < 2 ^ 54 → (k * 2 ^ 60 + activeBits c * 2 ^ 54 + v) / 2 ^ 54 = k * 2 ^ 6 + activeBits c :=
    fun v hv => by omega
  have hsum : ∀ a b d e f g x y : Nat, a + b + d + e + f + g + x + y = a + b + (d + e + f + g + x + y) := by intros; omega
  rw [hsum, hhigh _ (by omega)]
  interval_cases l <;> omega

section
variable {u : State} {c : Ctx} {t : Trap} (h : HoldsFrame u c t)
include h

/-! ## Dwords of each part (R369) -/

theorem HoldsFrame.head {j v : Nat} (hv : (frameHead c t)[j]? = some v) : frameDword u j = BitVec.ofNat 64 v := by
  have := h.part (k := 0) (by decide) rfl hv
  rwa [List.take_zero, List.sum_nil, Nat.zero_add] at this

theorem HoldsFrame.words {k n w : Nat} (hk : k ≤ 17) {v : Vector (BitVec w) n}
    (hl : (frameParts c t)[k]? = some (v.toList.map fun x => x.toNat)) {i : Nat} (hi : i < n) :
    frameDword u ((partLengths.take k).sum + i) = BitVec.ofNat 64 v[i].toNat :=
  h.part hk hl (by simp [hi])

theorem HoldsFrame.packed {k n w per : Nat} (hk : k ≤ 17) {l : List Nat} (hl : (frameParts c t)[k]? = some (packWords w per l n))
    (hw : w * per = 64) (hfit : ∀ v ∈ l, v < 2 ^ w) {i : Nat} (hi : i < n * per) :
    BitVec.ofNat w ((frameDword u ((partLengths.take k).sum + i / per)).toNat / 2 ^ (w * (i % per))) =
      BitVec.ofNat w (l.getD i 0) := by
  have hper : 0 < per := Nat.pos_of_ne_zero fun h0 => by simp [h0] at hw
  have hget : ∀ j, l.getD (i / per * per + j) 0 < 2 ^ w := fun j => by
    rw [List.getD_eq_getElem?_getD]
    cases hj : l[i / per * per + j]? with
    | none => exact Nat.two_pow_pos w
    | some v => exact hfit v (List.mem_of_getElem? hj)
  obtain ⟨hlt, hfield⟩ := foldl_fields w (fun j => l.getD (i / per * per + j) 0) per hget
  have hv : (packWords w per l n)[i / per]? =
      some ((List.range per).foldl (fun a j => a + at' (l.getD (i / per * per + j) 0) (w * j)) 0) := by
    rw [packWords, List.getElem?_map, List.getElem?_range (Nat.div_lt_of_lt_mul (by rwa [Nat.mul_comm])), Option.map_some]
  refine BitVec.eq_of_toNat_eq ?_
  rw [h.part hk hl hv, BitVec.toNat_ofNat, BitVec.toNat_ofNat, BitVec.toNat_ofNat,
    Nat.mod_eq_of_lt (a := List.foldl _ _ _) (by rwa [← hw]),
    hfield _ (Nat.mod_lt i hper), Nat.div_add_mod', Nat.mod_eq_of_lt]
  have := hget (i % per)
  rwa [Nat.div_add_mod'] at this

theorem HoldsFrame.shape {k : Nat} (hk : k ≤ 17) {v : Vector Shape 12}
    (hl : (frameParts c t)[k]? = some (v.toList.flatMap shapeWords))
    {i : Nat} (hi : i < 12) :
    Shape.ofNat ((frameRange u (partLengths.take k).sum 24).getD (2 * i) 0 +
      2 ^ 64 * (frameRange u (partLengths.take k).sum 24).getD (2 * i + 1) 0) = v[i] := by
  have hv : v.toList[i]? = some v[i] := by simp [hi]
  have hw : ∀ s, (shapeWords s).length = 2 := fun _ => rfl
  have hlo := h.part hk hl ((getElem?_flatMap_width hw hv (k := 0) (by decide)).trans rfl)
  have hhi := h.part hk hl ((getElem?_flatMap_width hw hv (k := 1) (by decide)).trans rfl)
  have hlt := shape_toNat_lt v[i]
  rw [frameRange_getD u _ (by omega), frameRange_getD u _ (by omega), ← Nat.add_zero (2 * i), hlo, Nat.add_zero, hhi,
    BitVec.toNat_ofNat, BitVec.toNat_ofNat]
  refine Eq.trans (congrArg Shape.ofNat ?_) (shape_ofNat_toNat v[i])
  omega

theorem HoldsFrame.loopWord {i k v : Nat} (hi : i < 6) (hk : k < 8) (hv : (loopWords c.r.loops[i])[k]? = some v) :
    frameDword u (96 + (8 * i + k)) = BitVec.ofNat 64 v := by
  have hl : ∀ l : Loop, (loopWords l).length = 8 := fun l => by simp [loopWords]
  have ha : c.r.loops.toList[i]? = some c.r.loops[i] := by simp [hi]
  exact h.part (k := 7) (by decide) rfl ((getElem?_flatMap_width hl ha hk).trans hv)

theorem HoldsFrame.heldWord {i : Nat} (hi : i < 6) :
    frameDword u (144 + 2 * i) = c.r.loops[i].hs.getD 0 ∧ frameDword u (145 + 2 * i) = c.r.loops[i].he.getD 0 := by
  have hw : ∀ l : Loop, [(l.hs.getD 0).toNat, (l.he.getD 0).toNat].length = 2 := fun _ => rfl
  have ha : c.r.loops.toList[i]? = some c.r.loops[i] := by simp [hi]
  have hlo := h.part (k := 8) (by decide) rfl ((getElem?_flatMap_width hw ha (k := 0) (by decide)).trans rfl)
  have hhi := h.part (k := 8) (by decide) rfl ((getElem?_flatMap_width hw ha (k := 1) (by decide)).trans rfl)
  rw [show 145 + 2 * i = 144 + (2 * i + 1) by omega]
  exact ⟨hlo.trans (BitVec.ofNat_toNat ..  |>.trans (BitVec.setWidth_eq _)),
    hhi.trans (BitVec.ofNat_toNat .. |>.trans (BitVec.setWidth_eq _))⟩

end

end Sys2Proof.Proofs
end

section
/-! PROOF. RTE: what the frame and the saved state give back to the context (O36). -/

namespace Sys2Proof.Proofs

open Sys2Proof.Machine
open Sys2Proof.Laws

/-- R370: which levels hold an LSTART and an LEND. -/
def heldOf (r : Regs) : List (Bool × Bool) := r.loops.toList.map fun l => (l.hs.isSome, l.he.isSome)

/-- R159, R375: the registers that a return gives back: g0 and p0 take nothing, and TVEC is the handler's. -/
def givenBack (r : Regs) (tvec : Word) : Regs :=
  { r with g := r.g.set 0 0, gsyn := r.gsyn.set 0 0, p := r.p.set 0 false, tvec := tvec }

theorem ofNat_toNat_of_le {n w : Nat} (h : w ≤ n) (x : BitVec w) : BitVec.ofNat w (BitVec.ofNat n x.toNat).toNat = x := by
  refine BitVec.eq_of_toNat_eq ?_
  have := x.isLt
  have hp : 2 ^ w ≤ 2 ^ n := Nat.pow_le_pow_right (by decide) h
  rw [BitVec.toNat_ofNat, BitVec.toNat_ofNat, Nat.mod_eq_of_lt (by omega : x.toNat < 2 ^ n), Nat.mod_eq_of_lt x.isLt]

theorem destCode_lt (d : Dest) : d.code < 64 := by
  cases d with
  | g n => have := n.isLt; simp only [Dest.code]; omega
  | p n => have := n.isLt; simp only [Dest.code]; omega
  | pm n => have := n.isLt; simp only [Dest.code]; omega
  | q n => have := n.isLt; simp only [Dest.code]; omega

/-- R371: the fields of the first dword of a latch record. -/
theorem latchHead_fields {t : Nat} {l : Latch} (hv : l.valid = true) (hhi : l.due < t + 2 ^ 20) :
    let n := (BitVec.ofNat 64 ((latchWords t l).headD 0)).toNat
    n / 2 ^ 63 = 1 ∧ n % 2 ^ 20 = l.due - t ∧ BitVec.ofNat 6 (n / 2 ^ 42) = l.flags ∧
      (l.ld = none → BitVec.ofNat 16 (n / 2 ^ 20) = wordCode l.val ^^^ l.syn) := by
  intro n
  have hdest := destCode_lt l.dest
  have hfl := l.flags.isLt
  have hcode := (wordCode l.val ^^^ l.syn).isLt
  have hrd : b2n l.ld.isSome ≤ 1 := by cases l.ld.isSome <;> decide
  obtain ⟨code, hc, hlt⟩ : ∃ code, (if l.ld.isSome = true then 0 else (wordCode l.val ^^^ l.syn).toNat) = code ∧
      code < 2 ^ 16 :=
    ⟨_, rfl, by split <;> omega⟩
  have hn : n = 2 ^ 63 + b2n l.ld.isSome * 2 ^ 62 + l.dest.code * 2 ^ 48 + l.flags.toNat * 2 ^ 42 + code * 2 ^ 20 + (l.due - t) := by
    have hone : b2n true = 1 := rfl
    simp only [n, latchWords, List.headD_cons, hc, hv, hone, at', BitVec.toNat_ofNat]
    omega
  refine ⟨by omega, by omega, BitVec.eq_of_toNat_eq ?_, fun hld => BitVec.eq_of_toNat_eq ?_⟩
  · rw [BitVec.toNat_ofNat]; omega
  · rw [hld, Option.isSome_none, if_neg Bool.false_ne_true] at hc
    rw [BitVec.toNat_ofNat]; omega

section
variable {u : State} {c : Ctx} {t : Trap} (h : HoldsFrame u c t)
include h

/-! ## Registers (R369, R375) -/

theorem HoldsFrame.g {i : Nat} (hi : i < 32) : frameDword u (32 + i) = c.r.g[i] :=
  (h.words (k := 2) (by decide) rfl hi).trans (by simp)

theorem HoldsFrame.code {i : Nat} (hi : i < 32) :
    BitVec.ofNat 16 ((frameDword u (64 + i / 4)).toNat / 2 ^ (16 * (i % 4))) = wordCode c.r.g[i] ^^^ c.r.gsyn[i] := by
  refine (h.packed (k := 3) (per := 4) (by decide) rfl rfl ?_ hi).trans ?_
  · intro v hv
    obtain ⟨j, -, rfl⟩ := List.mem_map.mp hv
    exact BitVec.isLt _
  · simp [codeList, List.getD_eq_getElem?_getD, hi]

theorem HoldsFrame.statusDword (hd : c.dly < 4) : (frameDword u 0).toNat = statusWord c := by
  have := (statusWord_fields hd).1
  rw [h.head (j := 0) rfl, BitVec.toNat_ofNat]
  exact Nat.mod_eq_of_lt (by omega)

theorem HoldsFrame.level (hd : c.dly < 4) {l : Nat} (hl : l < 6) :
    (⟨(frameDword u 0).toNat / 2 ^ (54 + l) % 2 == 1, BitVec.ofNat 48 (frameDword u (96 + 8 * l)).toNat,
      BitVec.ofNat 48 (frameDword u (96 + 8 * l + 1)).toNat, frameDword u (96 + 8 * l + 2), frameDword u (96 + 8 * l + 3),
      if c.r.loops[l].hs.isSome = true then some (frameDword u (144 + 2 * l)) else none,
      if c.r.loops[l].he.isSome = true then some (frameDword u (145 + 2 * l)) else none,
      vec 4 ⟨false, 0, 0, 0⟩ ((List.range 4).map fun k => Stride.ofWord (frameDword u (96 + 8 * l + 4 + k)))⟩ : Loop) =
        c.r.loops[l] := by
  obtain ⟨-, -, -, -, -, hact⟩ := statusWord_fields hd
  have hlevel : c.r.loops.toList.getD l Loop.zero = c.r.loops[l] := by simp [List.getD_eq_getElem?_getD, hl]
  have hbit := hact l hl
  rw [hlevel] at hbit
  obtain ⟨hhs, hhe⟩ := h.heldWord hl
  have hword := fun k v hk hv => Nat.add_assoc 96 (8 * l) k ▸ h.loopWord (k := k) (v := v) hl hk hv
  have hfst := h.statusDword hd
  generalize c.r.loops[l] = x at *
  obtain ⟨a, cnt, idx, start, stop, hs, he, strd⟩ := x
  have hself : ∀ y : Word, BitVec.ofNat 64 y.toNat = y := fun y => by simp
  simp only [Loop.mk.injEq]
  refine ⟨?_, ?_, ?_, ?_, ?_, ?_, ?_, vec_range fun k hk => ?_⟩
  · rw [hfst, hbit]
    cases a <;> rfl
  · rw [← Nat.add_zero (96 + 8 * l), hword 0 _ (by decide) rfl]
    exact ofNat_toNat_of_le (by decide) cnt
  · rw [hword 1 _ (by decide) rfl]
    exact ofNat_toNat_of_le (by decide) idx
  · exact (hword 2 _ (by decide) rfl).trans (hself start)
  · exact (hword 3 _ (by decide) rfl).trans (hself stop)
  · rw [hhs]
    cases hs <;> rfl
  · rw [hhe]
    cases he <;> rfl
  · rw [Nat.add_assoc (96 + 8 * l), hword (4 + k) strd[k].toWord.toNat (by omega) (by
      rw [loopWords, List.getElem?_append_right (by simp), List.getElem?_map]
      simp [hk]), hself, stride_ofWord_toWord]

theorem HoldsFrame.ftctl : (frameDword u 14).toNat = c.r.ftlevel.toNat * 16 + c.r.ftbase.toNat := by
  have := c.r.ftlevel.isLt
  have := c.r.ftbase.isLt
  rw [h.head (j := 14) rfl, Regs.ftctl, BitVec.toNat_ofNat, BitVec.toNat_ofNat]
  omega

/-- R369, R375: the registers that a frame gives back. -/
theorem HoldsFrame.reloadRegs_eq (hd : c.dly < 4) : reloadRegs u c.r.order (heldOf c.r) = givenBack c.r u.ctx.r.tvec := by
  have hgs : ∀ i, i < 32 → ((List.range 32).map fun i => if i = 0 then 0 else frameDword u (32 + i)).getD i 0 =
      if i = 0 then 0 else frameDword u (32 + i) := fun i hi => by simp [List.getD_eq_getElem?_getD, hi]
  simp only [reloadRegs, givenBack, Regs.mk.injEq, true_and, and_true]
  refine ⟨vec_range fun i hi => ?g, vec_range fun i hi => ?gsyn, vec_range fun i hi => ?p, vec_range fun i hi => ?pm,
    vec_range fun i hi => ?q, vec_range fun i hi => h.shape (k := 10) (by decide) rfl hi,
    vec_range fun i hi => h.shape (k := 11) (by decide) rfl hi, vec_range fun l hl => ?loops, vec_range fun i hi => ?ft,
    vec_range fun i hi => ?st, vec_range fun i hi => ?cht, vec_range fun i hi => ?dset, ?flg, ?fen, ?rmode, ?ftbase, ?ftlevel, ?grace⟩
  case g =>
    rw [Vector.getElem_set, h.g hi]
    simp only [eq_comm]
  case gsyn =>
    rw [Vector.getElem_set, hgs i hi, h.code hi, h.g hi]
    by_cases hi0 : i = 0
    · simp [hi0]
    · rw [if_neg hi0, if_neg hi0, if_neg (Ne.symm hi0), BitVec.xor_comm, ← BitVec.xor_assoc, BitVec.xor_self, BitVec.zero_xor]
  case p =>
    obtain ⟨hlt, hbit⟩ := foldl_bits (fun i => i != 0 && c.r.p.toList.getD i false) 8
    rw [← predBits_eq] at hlt hbit
    rw [h.head (j := 17) rfl, BitVec.toNat_ofNat, Nat.mod_eq_of_lt (a := predBits c.r) (by omega), hbit i hi, Vector.getElem_set]
    by_cases hi0 : i = 0
    · simp [hi0]
    · have : c.r.p.toList.getD i false = c.r.p[i] := by simp [List.getD_eq_getElem?_getD, hi]
      rw [this]
      cases c.r.p[i] <;> simp [hi0, Ne.symm hi0, b2n]
  case pm =>
    refine Eq.trans ?_ (ofNat_toNat_of_le (n := 64) (by decide) c.r.pm[i])
    rw [← BitVec.ofNat_toNat]
    exact congrArg (fun x : Word => BitVec.ofNat 48 x.toNat) (h.words (k := 4) (by decide) rfl hi)
  case q => exact (h.words (k := 5) (by decide) rfl hi).trans (by simp)
  case loops =>
    have hheld : (heldOf c.r).getD l (false, false) = (c.r.loops[l].hs.isSome, c.r.loops[l].he.isSome) := by
      simp [heldOf, List.getD_eq_getElem?_getD, hl]
    rw [hheld]
    exact h.level hd hl
  case ft =>
    refine (h.packed (k := 12) (per := 2) (by decide) rfl rfl ?_ hi).trans ?_
    · intro v hv
      obtain ⟨x, -, rfl⟩ := List.mem_map.mp hv
      exact x.isLt
    · simp [List.getD_eq_getElem?_getD, hi]
  case st =>
    refine (h.packed (k := 13) (per := 4) (by decide) rfl rfl ?_ hi).trans ?_
    · intro v hv
      obtain ⟨x, -, rfl⟩ := List.mem_map.mp hv
      exact x.isLt
    · simp [List.getD_eq_getElem?_getD, hi]
  case cht => exact (h.words (k := 14) (by decide) rfl hi).trans (by simp)
  case dset => exact (h.words (k := 15) (by decide) rfl hi).trans (by simp)
  case flg =>
    rw [h.head (j := 11) rfl]
    exact ofNat_toNat_of_le (by decide) c.r.flg
  case fen =>
    rw [h.head (j := 12) rfl]
    exact ofNat_toNat_of_le (by decide) c.r.fen
  case rmode =>
    rw [h.head (j := 13) rfl]
    exact ofNat_toNat_of_le (by decide) c.r.rmode
  case grace =>
    rw [h.head (j := 15) rfl]
    exact ofNat_toNat_of_le (by decide) c.r.grace
  case ftbase =>
    refine BitVec.eq_of_toNat_eq ?_
    have := c.r.ftbase.isLt
    rw [h.ftctl, BitVec.toNat_ofNat]
    omega
  case ftlevel =>
    refine BitVec.eq_of_toNat_eq ?_
    have := c.r.ftbase.isLt
    have := c.r.ftlevel.isLt
    rw [h.ftctl, BitVec.toNat_ofNat]
    omega

/-! ## Latches (R371, R375) -/

theorem HoldsFrame.latchWord (hn : c.latches.length ≤ 32) {i k v : Nat} {l : Latch} (hl : c.latches[i]? = some l) (hk : k < 2)
    (hv : (latchWords c.tclk l)[k]? = some v) : frameDword u (256 + (2 * i + k)) = BitVec.ofNat 64 v := by
  have hl' : (c.latches.take 32)[i]? = some l := by rwa [List.take_of_length_le hn]
  exact h.part (k := 17) (by decide) rfl ((getElem?_flatMap_width (w := 2) (fun _ => rfl) hl' hk).trans hv)

/-- R371, R375: a latch that was pending is due when it was, with the address of its record. -/
theorem HoldsFrame.reloadLatch_eq (ha : frameAddr u.ctx = frameAddr c) (hn : c.latches.length ≤ 32) {i : Nat} {l : Latch}
    (hl : c.latches[i]? = some l) (hv : l.valid = true) (hlo : c.tclk ≤ l.due) (hhi : l.due < c.tclk + 2 ^ 20) :
    reloadLatch u c.tclk i l = some { l with frm := some (frameAddr c + 0x808 + 16 * i) } := by
  have hw0 : frameDword u (256 + 2 * i) = BitVec.ofNat 64 ((latchWords c.tclk l).headD 0) :=
    h.latchWord hn hl (k := 0) (by decide) rfl
  have hw1 := h.latchWord hn hl (k := 1) (by decide) rfl
  rw [show 256 + (2 * i + 1) = 257 + 2 * i by omega] at hw1
  obtain ⟨hvalid, hdue, hflags, hcode⟩ := latchHead_fields hv hhi
  rw [← hw0] at hvalid hdue hflags hcode
  have hback : c.tclk + (frameDword u (256 + 2 * i)).toNat % 2 ^ 20 = l.due := by omega
  rw [reloadLatch, if_neg (by omega), hback, hflags, ha]
  obtain ⟨due, issue, pos, pc, dest, val, syn, flags, bad, ld, cmd, slot, fp, frm, valid⟩ := l
  cases ld with
  | some d => rw [hv]; rfl
  | none =>
    have hval : frameDword u (257 + 2 * i) = val := hw1.trans (by simp)
    rw [hcode rfl, hval, hv, BitVec.xor_comm, ← BitVec.xor_assoc, BitVec.xor_self, BitVec.zero_xor]
    rfl

/-- R371, R375: every latch that was pending, in its place. -/
theorem HoldsFrame.reloadLatches_eq (ha : frameAddr u.ctx = frameAddr c) (hn : c.latches.length ≤ 32)
    (hls : ∀ l ∈ c.latches, l.valid = true ∧ c.tclk ≤ l.due ∧ l.due < c.tclk + 2 ^ 20) :
    reloadLatches u c.tclk c.latches = ((List.range c.latches.length).zip c.latches).map fun x =>
      { x.2 with frm := some (frameAddr c + 0x808 + 16 * x.1) } := by
  rw [← List.filterMap_eq_map]
  refine List.filterMap_congr fun x hx => ?_
  obtain ⟨k, hk⟩ := List.getElem?_of_mem hx
  obtain ⟨hk1, hk2⟩ := List.getElem?_zip_eq_some.mp hk
  obtain rfl : k = x.1 := by
    obtain ⟨hlt, heq⟩ := List.getElem?_eq_some_iff.mp hk1
    rw [← heq, List.getElem_range]
  obtain ⟨hv, hlo, hhi⟩ := hls x.2 (List.mem_of_getElem? hk2)
  exact h.reloadLatch_eq ha hn hk2 hv hlo hhi

/-! ## The return (R339, R375) -/

/-- R375: the fields that RTE checks are as they were. -/
theorem HoldsFrame.rteCheck_none (hr : c.r.rmode.toNat < 6) (hf : c.r.ftlevel ≠ 6) : rteCheck u = none := by
  have hrm : (frameDword u 13).toNat = c.r.rmode.toNat := by
    rw [h.head (j := 13) rfl, BitVec.toNat_ofNat]
    omega
  have hft : c.r.ftlevel.toNat ≠ 6 := fun h6 => hf (BitVec.eq_of_toNat_eq h6)
  have := c.r.ftlevel.isLt
  have := c.r.ftbase.isLt
  rw [rteCheck, if_neg (by rw [hrm]; omega), if_neg (by rw [h.ftctl]; omega)]

end

/-- R339, R368, R375: what is put away of a context that takes a trap. -/
def putAway (c : Ctx) (x : Trap) : Saved :=
  { latches := c.latches, dws := c.dws, redo := c.redo, order := c.r.order, wait := c.wait, grant := c.grant, pc := c.pc
    next := resumePc c, fin := c.fin, held := heldOf c.r, after := c.after
    missed := c.cands.filter fun k => (k.2.1 == 9 || k.2.1 == 6) && k.2.2.1 != x
    t := c.tclk, cause := x }

/-- R369, R373: a trap that goes to the handler puts the context's state away. -/
theorem takeTrap_putsAway {s : State} {x : Trap} (h : goesToHandler s x) : ∃ (m : State) (i : Issue),
    m.ctx = { s.ctx with iss := i } ∧ (takeTrap s x).mem = (writeFrame m x).mem ∧
      (takeTrap s x).ctx.saved = some (putAway m.ctx x) := by
  obtain ⟨hh, hl, htv, hc⟩ := h
  obtain ⟨m, hm⟩ : ∃ m, m = ({ s with free := s.free + 1 } : State).up fun c =>
      { c with iss := { c.iss with trapped := true } } := ⟨_, rfl⟩
  have hlogit : ¬((logitSlot m.ctx).isSome = true ∧
      (!(x.cause == 0x30 || x.cause == 0x31 || x.cause == 0x33 || x.cause == 0x23)) = true) := by
    have hslot : logitSlot m.ctx = logitSlot s.ctx := by rw [hm]; rfl
    rw [hslot]
    rcases hl with hl | hl | hl | hl <;> simp [hl]
  have hstatus : ¬m.ctx.status = .handler := by rw [hm]; exact hh
  have hfatal : ¬(x.cause = 0x21 ∨ x.cause = 0x25) := by
    rintro (hx | hx) <;> simp [toCobbler, hx] at hc
  have htake : takeTrap s x = deliverTvec (saveFrame m x) x := by
    rw [takeTrap]
    dsimp only
    rw [← hm, if_neg hlogit, if_neg hstatus, if_neg hfatal, hc]
    rfl
  have htvec : tvecAt (saveFrame m x).ctx ≠ 0 := by rw [hm]; exact htv
  refine ⟨m, _, by rw [hm]; rfl, ?_⟩
  rw [htake, deliverTvec, if_neg htvec]
  exact ⟨rfl, rfl⟩

/-- R339, R375: a context whose frame stands resumes. -/
theorem returnFromTrap_resumes {u : State} {c : Ctx} {x : Trap} (h : HoldsFrame u c x) (hr : c.r.rmode.toNat < 6)
    (hf : c.r.ftlevel ≠ 6) (pc : Word) : returnFromTrap u pc = resume u := by
  rw [returnFromTrap, h.rteCheck_none hr hf]

/-- R370, R375: what a frame gives back of a pending branch. -/
def branchBack (c : Ctx) : Pend := match c.pend with | .rte _ => .branch 0 | p => p

section
variable {u : State} {c : Ctx} {x : Trap} (h : HoldsFrame u c x)
include h

theorem HoldsFrame.branchBack_eq (hd : c.dly < 4) : (match (frameDword u 0).toNat / 2 ^ 44 % 4 with
    | 1 => Pend.branch (frameDword u 7)
    | 2 => Pend.lbrk (Fin.ofNat 8 ((frameDword u 0).toNat / 2 ^ 41))
    | _ => Pend.none) = branchBack c := by
  obtain ⟨-, -, hbrk, hlbl, -, -⟩ := statusWord_fields hd
  rw [h.statusDword hd, hbrk, h.head (j := 7) rfl, branchBack]
  rw [branchWords] at hlbl ⊢
  cases hp : c.pend with
  | none => rfl
  | branch b => simp
  | lbrk l =>
    rw [hp] at hlbl
    have : Fin.ofNat 8 (statusWord c / 2 ^ 41) = l := Fin.ext hlbl
    exact congrArg Pend.lbrk this
  | rte b => rfl

theorem HoldsFrame.swt_eq (hd : c.dly < 4) (hs : ∀ y, c.swt = some y → y.1 < 2 ^ 16) :
    (if (frameDword u 0).toNat / 2 ^ 34 % 2 = 1 then
      some ((frameDword u 19).toNat % 2 ^ 16, (frameDword u 19).toNat / 2 ^ 16 % 2 == 1) else none) = c.swt := by
  obtain ⟨-, -, -, -, hswt, -⟩ := statusWord_fields hd
  rw [h.statusDword hd, hswt, h.head (j := 19) rfl, swtWord]
  cases hc : c.swt with
  | none => rfl
  | some y =>
    obtain ⟨imm, svc⟩ := y
    have hi : imm < 2 ^ 16 := hs _ hc
    have hb : b2n svc ≤ 1 := by cases svc <;> decide
    have hv : (BitVec.ofNat 64 (imm + at' (b2n svc) 16)).toNat = imm + b2n svc * 2 ^ 16 := by
      rw [BitVec.toNat_ofNat, at']
      omega
    have hlow : (imm + b2n svc * 2 ^ 16) % 2 ^ 16 = imm := by omega
    have hhigh : (imm + b2n svc * 2 ^ 16) / 2 ^ 16 % 2 = b2n svc := by omega
    show some _ = _
    simp only [hv, hlow, hhigh]
    cases svc <;> rfl

theorem HoldsFrame.energy_eq (he : c.energy < 2 ^ 48) : (frameDword u 16).toNat % 2 ^ 48 = c.energy ∧
    ((frameDword u 16).toNat / 2 ^ 63 == 1) = c.energySat := by
  have hb : b2n c.energySat ≤ 1 := by cases c.energySat <;> decide
  have hv : (frameDword u 16).toNat = c.energy + b2n c.energySat * 2 ^ 63 := by
    rw [h.head (j := 16) rfl, BitVec.toNat_ofNat, at']
    omega
  have hhigh : (frameDword u 16).toNat / 2 ^ 63 = b2n c.energySat := by rw [hv]; omega
  refine ⟨by rw [hv]; omega, ?_⟩
  rw [hhigh]
  cases c.energySat <;> rfl

/-- R339, R375: the context as it resumes from a frame that stands and from what was put away beside it. -/
theorem HoldsFrame.resume_ctx (hs : u.ctx.saved = some (putAway c x)) (hd : c.dly < 4) (he : c.energy < 2 ^ 48)
    (hswt : ∀ y, c.swt = some y → y.1 < 2 ^ 16) :
    resume u = u.up fun d => { d with
      status := .running, sv := d.cobbler, r := givenBack c.r u.ctx.r.tvec, pc := c.pc, tclk := c.tclk, fin := c.fin
      latches := reloadLatches u c.tclk c.latches ++ c.redo.map (redoLatch u c.tclk c.r.fen), dws := c.dws, grant := c.grant
      after := c.after, cands := resumeCands d (putAway c x), wait := resumeWait c.wait c.r.grace.toNat, pend := branchBack c
      dly := c.dly, swt := c.swt, detval := none, energy := c.energy, energySat := c.energySat, saved := none } := by
  obtain ⟨h63, hdly, -, -, -, -⟩ := statusWord_fields hd
  obtain ⟨hen, hsat⟩ := h.energy_eq he
  have hregs : reloadRegs u (putAway c x).order (putAway c x).held = givenBack c.r u.ctx.r.tvec := h.reloadRegs_eq hd
  have hpc : frameDword u 6 = resumePc c := (h.head (j := 6) rfl).trans (by simp)
  have hdet : ¬(frameDword u 0).toNat / 2 ^ 63 = 1 := by rw [h.statusDword hd]; omega
  have hdly' : (frameDword u 0).toNat / 2 ^ 46 % 4 = c.dly := by rw [h.statusDword hd, hdly]
  have hat : resumeAt (putAway c x) (resumePc c) = (c.pc, c.fin) := if_pos rfl
  have hbr := h.branchBack_eq hd
  have hsw := h.swt_eq hd hswt
  simp only [resume, hs, hregs, hpc, hat, hdly', hen, hsat, hsw, if_neg hdet]
  rw [← hbr]
  rfl

end

/-- Settles O36: the trap puts the frame and the state beside it away (takeTrap_putsAway), and the return takes each field
from them again (HoldsFrame.resume_ctx). -/
theorem trapReturn : Obligations.TrapReturn := by
  unfold Obligations.TrapReturn
  intro s u x pc hgo hrm hft hdly hen hswt hmem hsaved haddr hcob
  obtain ⟨m, i, hm, hframe, hput⟩ := takeTrap_putsAway hgo
  have ha : frameAddr u.ctx = frameAddr m.ctx := by rw [haddr, hm]; rfl
  have h : HoldsFrame u m.ctx x := holdsFrame_of_writeFrame (hmem.trans hframe) ha
  rw [hput] at hsaved
  rw [hm] at h hsaved ha
  have hreturn := (returnFromTrap_resumes h hrm hft pc).trans (h.resume_ctx hsaved hdly hen hswt)
  intro t c
  have ht : t = _ := hreturn
  rw [ht]
  refine ⟨rfl, hcob, rfl, rfl, rfl, rfl, rfl, rfl, rfl, rfl, rfl, rfl, rfl, rfl, rfl, fun b hb => ?branch, fun l hl => ?lbrk,
    fun hn => ?none, fun hr hn hls => ?latches, rfl, rfl, rfl, rfl, rfl, rfl⟩
  case branch => show branchBack c = _; rw [branchBack, hb]
  case lbrk => show branchBack c = _; rw [branchBack, hl]
  case none => show branchBack c = _; rw [branchBack, hn]
  case latches =>
    have hlats : reloadLatches u c.tclk c.latches ++ c.redo.map (redoLatch u c.tclk c.r.fen) =
        ((List.range c.latches.length).zip c.latches).map fun y => { y.2 with frm := some (frameAddr c + 0x808 + 16 * y.1) } := by
      rw [hr, List.map_nil, List.append_nil]
      exact h.reloadLatches_eq ha hn hls
    refine ⟨(congrArg List.length hlats).trans (by simp), fun k l hl => (congrArg (·[k]?) hlats).trans ?_⟩
    have hk := (List.getElem?_eq_some_iff.mp hl).1
    rw [List.getElem?_map, (List.getElem?_zip_eq_some (z := (k, l))).mpr ⟨List.getElem?_range hk, hl⟩]
    rfl

end Sys2Proof.Proofs
end

section
/-! PROOF. Sums of a group: integers that wrap, and the tree of roundings of floating elements (O44). -/

namespace Sys2Proof.Proofs

open Sys2Proof.Machine

/-! ## Integer sums (R75, R228) -/

theorem foldl_add_intDecode (f : Nat) (xs : List (Nat × Nat)) (a : Int) :
    xs.foldl (fun (a : Int) x => a + intDecode f x.1) a = a + (xs.map fun x => intDecode f x.1).sum := by
  induction xs generalizing a with
  | nil => simp
  | cons x xs ih => rw [List.foldl_cons, ih, List.map_cons, List.sum_cons, Int.add_assoc]

theorem sumGroup_int {f : Nat} (hf : fmtIsInt f = true) (mode : Nat → Mode) (fen : BitVec 6) (xs : List (Nat × Nat)) :
    sumGroup f mode fen xs = (wrapBits (fmtBits f) (xs.map fun x => intDecode f x.1).sum, 0, none) := by
  unfold sumGroup
  rw [if_pos hf, foldl_add_intDecode, Int.zero_add]

/-! ## The tree of a group whose nodes all add alike (R75) -/

section
variable (op : Nat → Nat → Res)

/-- R75: the bits of one level, pair by pair. -/
def levelBits : List Nat → List Nat
  | a :: b :: t => (op a b).bits :: levelBits t
  | l => l

/-- R75: the flags of one level. -/
def levelFlags : List Nat → Nat
  | a :: b :: t => levelFlags t ||| (op a b).fl
  | _ => 0

/-- R75: the root of a tree of a depth. -/
def treeBits : Nat → List Nat → Nat
  | 0, l => l.headD 0
  | d + 1, l => treeBits d (levelBits op l)

/-- R75: the flags of a tree of a depth. -/
def treeFlags : Nat → List Nat → Nat
  | 0, _ => 0
  | d + 1, l => levelFlags op l ||| treeFlags d (levelBits op l)

/-- What a level of the model's tree comes to, whatever the count of its nodes. -/
theorem treeLevel_eq (fen : BitVec 6) (l : List (Nat × Nat)) (k : Nat) :
    (treeLevel (fun _ => op) fen l k).1.map Prod.fst = levelBits op (l.map Prod.fst) ∧
      (treeLevel (fun _ => op) fen l k).2.1 = levelFlags op (l.map Prod.fst) := by
  induction l using List.twoStepInduction generalizing k with
  | nil => exact ⟨rfl, rfl⟩
  | singleton x => exact ⟨rfl, rfl⟩
  | cons_cons x y t ih _ =>
    obtain ⟨hbits, hflags⟩ := ih (k + 1)
    exact ⟨congrArg (_ :: ·) hbits, congrArg (· ||| _) hflags⟩

/-- What the model's tree comes to. -/
theorem treeGo_eq (fen : BitVec 6) (d : Nat) (l : List (Nat × Nat)) (k fl : Nat) (h : Option Hit) :
    (treeGo (fun _ => op) fen d l k fl h).1 = treeBits op d (l.map Prod.fst) ∧
      (treeGo (fun _ => op) fen d l k fl h).2.1 = fl ||| treeFlags op d (l.map Prod.fst) := by
  induction d generalizing l k fl h with
  | zero => exact ⟨by cases l <;> rfl, by simp [treeGo, treeFlags]⟩
  | succ d ih =>
    obtain ⟨hbits, hflags⟩ := treeLevel_eq op fen l k
    obtain ⟨hb, hfl⟩ := ih (treeLevel (fun _ => op) fen l k).1 (treeLevel (fun _ => op) fen l k).2.2.1
      (fl ||| (treeLevel (fun _ => op) fen l k).2.1) (h.or (treeLevel (fun _ => op) fen l k).2.2.2)
    rw [hbits] at hb hfl
    exact ⟨hb, hfl.trans (by rw [hflags, Nat.or_assoc]; rfl)⟩

/-- A level of an even number of elements beside more of them. -/
theorem level_append {n : Nat} {xs : List Nat} (hx : xs.length = 2 * n) (ys : List Nat) :
    levelBits op (xs ++ ys) = levelBits op xs ++ levelBits op ys ∧
      levelFlags op (xs ++ ys) = levelFlags op xs ||| levelFlags op ys ∧ (levelBits op xs).length = n := by
  induction n generalizing xs with
  | zero =>
    obtain rfl := List.length_eq_zero_iff.mp hx
    exact ⟨rfl, by simp [levelFlags], rfl⟩
  | succ n ih =>
    match xs, hx with
    | a :: b :: t, hx =>
      obtain ⟨hbits, hflags, hlen⟩ := ih (xs := t) (by simpa [Nat.mul_add] using hx)
      refine ⟨congrArg (_ :: ·) hbits, ?_, congrArg (· + 1) hlen⟩
      show levelFlags op (t ++ ys) ||| _ = levelFlags op t ||| _ ||| _
      rw [hflags, Nat.or_right_comm]

/-- R75: a tree over two halves of one power-of-two length is a node over the halves' trees. -/
theorem tree_append {k : Nat} {xs ys : List Nat} (hx : xs.length = 2 ^ k) (hy : ys.length = 2 ^ k) :
    treeBits op (k + 1) (xs ++ ys) = (op (treeBits op k xs) (treeBits op k ys)).bits ∧
      treeFlags op (k + 1) (xs ++ ys) =
        treeFlags op k xs ||| treeFlags op k ys ||| (op (treeBits op k xs) (treeBits op k ys)).fl := by
  induction k generalizing xs ys with
  | zero =>
    obtain ⟨x, rfl⟩ := List.length_eq_one_iff.mp hx
    obtain ⟨y, rfl⟩ := List.length_eq_one_iff.mp hy
    exact ⟨rfl, by simp [treeFlags, treeBits, levelFlags]⟩
  | succ k ih =>
    have hx' : xs.length = 2 * 2 ^ k := by rw [hx, Nat.pow_succ']
    have hy' : ys.length = 2 * 2 ^ k := by rw [hy, Nat.pow_succ']
    obtain ⟨hbits, hflags, hlx⟩ := level_append op hx' ys
    obtain ⟨-, -, hly⟩ := level_append op hy' []
    obtain ⟨hb, hf⟩ := ih hlx hly
    refine ⟨by rw [treeBits, hbits, hb]; rfl, ?_⟩
    rw [treeFlags, hbits, hflags, hf]
    simp only [treeFlags, treeBits]
    simp only [Nat.or_assoc, Nat.or_left_comm, Nat.or_comm]

end

/-! ## Floating sums (R75, R76, R228) -/

/-- R75: the depth of a tree over more than 2^k values and at most 2^(k + 1). -/
theorem depthOf_eq {n k : Nat} (hlo : 2 ^ k < n) (hhi : n ≤ 2 ^ (k + 1)) : depthOf n = k + 1 := by
  have hpos := Nat.two_pow_pos k
  have hlog : Nat.log2 (n - 1) = k := by
    rw [Nat.log2_eq_iff (by omega)]
    omega
  rw [depthOf, if_neg (by omega), hlog]

theorem depthOf_two_pow (k : Nat) : depthOf (2 ^ k) = k := by
  cases k with
  | zero => rfl
  | succ k => exact depthOf_eq (Nat.pow_lt_pow_right (by decide) (by omega)) le_rfl

theorem fmtF_cases {f : Nat} (hf : fmtF f = true) : f = 10 ∨ f = 11 ∨ f = 12 ∨ f = 13 := by
  simp only [fmtF, Bool.and_eq_true, decide_eq_true_eq] at hf
  omega

theorem fmtF_ne_nm8 {f : Nat} (hf : fmtF f = true) : f ≠ 17 ∧ f ≠ 16 := by
  have := fmtF_cases hf
  omega

/-- R48: the canonical NaN is one. -/
theorem isNan_canonNaN {f : Nat} (hf : fmtF f = true) : (fpDecode f (canonNaN f)).isNan := by
  rcases fmtF_cases hf with rfl | rfl | rfl | rfl <;> exact ⟨false, false, by decide⟩

/-- R48: an element as an operation delivers it: a NaN as the canonical one. -/
noncomputable def quieted (f x : Nat) : Nat := open Classical in if (fpDecode f x).isNan then canonNaN f else x

theorem quieted_of_nan {f x : Nat} (h : (fpDecode f x).isNan) : quieted f x = canonNaN f := if_pos h

theorem quieted_of_not_nan {f x : Nat} (h : ¬(fpDecode f x).isNan) : quieted f x = x := if_neg h

theorem isNan_quieted {f : Nat} (hf : fmtF f = true) (x : Nat) : (fpDecode f (quieted f x)).isNan ↔ (fpDecode f x).isNan := by
  by_cases h : (fpDecode f x).isNan
  · rw [quieted_of_nan h]
    exact iff_of_true (isNan_canonNaN hf) h
  · rw [quieted_of_not_nan h]

/-- R75: a node's sum of two elements. -/
def addBits (f : Nat) (m : Mode) (a b : Nat) : Res := fpAdd f m (fpDecode f a) (fpDecode f b)

/-- R48: what a sum delivers does not depend on which NaNs stand in it. -/
theorem addBits_quieted {f : Nat} (hf : fmtF f = true) (m : Mode) (a b : Nat) :
    (addBits f m (quieted f a) (quieted f b)).bits = (addBits f m a b).bits := by
  by_cases h : (fpDecode f a).isNan ∨ (fpDecode f b).isNan
  · have h' := h
    rw [← isNan_quieted hf a, ← isNan_quieted hf b] at h'
    rw [addBits, addBits, fpAdd_of_nan f m h, fpAdd_of_nan f m h']
    rfl
  · obtain ⟨ha, hb⟩ := not_or.mp h
    rw [quieted_of_not_nan ha, quieted_of_not_nan hb]

/-- R228: the flags of an element that is a NaN. -/
theorem sumGroup_single {f : Nat} (hf : fmtF f = true) (mode : Nat → Mode) (fen : BitVec 6) (x : Nat × Nat) :
    (sumGroup f mode fen [x]).1 = quieted f x.1 ∧
      (¬(fpDecode f x.1).isNan → (sumGroup f mode fen [x]).2.1 = 0) ∧
      ((fpDecode f x.1).isNan → ((fpDecode f x.1).isSig ↔ (sumGroup f mode fen [x]).2.1 = flNV)) := by
  obtain ⟨v, i⟩ := x
  simp only [sumGroup, if_neg (not_fmtIsInt_of_fmtF hf)]
  cases hv : fpDecode f v with
  | nan g n =>
    refine ⟨(quieted_of_nan ⟨g, n, hv⟩).symm, fun h => absurd (isNan_nan g n) h, fun _ => ?_⟩
    rw [isSig_nan_iff]
    cases g <;> simp [nanRes, fmtF_ne_nm8 hf, flNV]
  | inf n =>
    exact ⟨(quieted_of_not_nan (by rw [hv]; exact not_isNan_inf n)).symm, fun _ => rfl, fun h => absurd h (not_isNan_inf n)⟩
  | fin n m e =>
    exact ⟨(quieted_of_not_nan (by rw [hv]; exact not_isNan_fin n m e)).symm, fun _ => rfl,
      fun h => absurd h (not_isNan_fin n m e)⟩

/-- R75: a group of two elements or more as its tree adds it: padded with zeros. -/
def padded (xs : List (Nat × Nat)) : List Nat :=
  xs.map Prod.fst ++ List.replicate (2 ^ depthOf xs.length - xs.length) 0

/-- R75: the sum of two elements or more is the tree's, over the padded group. -/
theorem sumGroup_tree {f : Nat} (hf : fmtF f = true) (m : Mode) (fen : BitVec 6) {xs : List (Nat × Nat)} (hx : 2 ≤ xs.length) :
    (sumGroup f (fun _ => m) fen xs).1 = treeBits (addBits f m) (depthOf xs.length) (padded xs) ∧
      (sumGroup f (fun _ => m) fen xs).2.1 = treeFlags (addBits f m) (depthOf xs.length) (padded xs) := by
  have hpad : (xs ++ List.replicate (2 ^ depthOf xs.length - xs.length) (0, 2 ^ 64)).map Prod.fst = padded xs := by
    rw [List.map_append, List.map_replicate]
    rfl
  have hgo := treeGo_eq (addBits f m) fen (depthOf xs.length)
    (xs ++ List.replicate (2 ^ depthOf xs.length - xs.length) (0, 2 ^ 64)) 0 0 none
  rw [hpad, Nat.zero_or] at hgo
  unfold sumGroup
  rw [if_neg (not_fmtIsInt_of_fmtF hf)]
  match xs, hx with
  | x :: y :: t, _ => exact hgo

/-- R75: the sum of a group of a power-of-two length. -/
theorem sumGroup_two_pow {f : Nat} (hf : fmtF f = true) (m : Mode) (fen : BitVec 6) {k : Nat} {xs : List (Nat × Nat)}
    (hk : 0 < k) (hx : xs.length = 2 ^ k) :
    (sumGroup f (fun _ => m) fen xs).1 = treeBits (addBits f m) k (xs.map Prod.fst) ∧
      (sumGroup f (fun _ => m) fen xs).2.1 = treeFlags (addBits f m) k (xs.map Prod.fst) := by
  have hpow : 2 ^ 1 ≤ 2 ^ k := Nat.pow_le_pow_right (by decide) hk
  have htree := sumGroup_tree hf m fen (xs := xs) (by omega)
  simpa only [padded, hx, depthOf_two_pow, Nat.sub_self, List.replicate_zero, List.append_nil] using htree

/-- R75: the sum of two halves of one power-of-two length is the rounded sum of their sums. -/
theorem sumGroup_append {f : Nat} (hf : fmtF f = true) (m : Mode) (fen : BitVec 6) {k : Nat} {xs ys : List (Nat × Nat)}
    (hx : xs.length = 2 ^ k) (hy : ys.length = 2 ^ k) :
    let sum := fun l => sumGroup f (fun _ => m) fen l
    let node := addBits f m (sum xs).1 (sum ys).1
    (sum (xs ++ ys)).1 = node.bits ∧ (0 < k → (sum (xs ++ ys)).2.1 = (sum xs).2.1 ||| (sum ys).2.1 ||| node.fl) := by
  intro sum node
  obtain ⟨hbits, hflags⟩ := sumGroup_two_pow hf m fen (xs := xs ++ ys) (k := k + 1) k.succ_pos
    (by rw [List.length_append, hx, hy, Nat.pow_succ', Nat.two_mul])
  obtain ⟨hb, hfl⟩ := tree_append (addBits f m) (xs := xs.map Prod.fst) (ys := ys.map Prod.fst)
    (by rwa [List.length_map]) (by rwa [List.length_map])
  rw [List.map_append] at hbits hflags
  rcases Nat.eq_zero_or_pos k with rfl | hk
  · obtain ⟨x, rfl⟩ := List.length_eq_one_iff.mp hx
    obtain ⟨y, rfl⟩ := List.length_eq_one_iff.mp hy
    refine ⟨(hbits.trans hb).trans ?_, fun h => absurd h (lt_irrefl 0)⟩
    show _ = (addBits f m (sum [x]).1 (sum [y]).1).bits
    rw [(sumGroup_single hf _ fen x).1, (sumGroup_single hf _ fen y).1, addBits_quieted hf]
    rfl
  · obtain ⟨hbx, hfx⟩ := sumGroup_two_pow hf m fen hk hx
    obtain ⟨hby, hfy⟩ := sumGroup_two_pow hf m fen hk hy
    have hnode : node = addBits f m (treeBits (addBits f m) k (xs.map Prod.fst)) (treeBits (addBits f m) k (ys.map Prod.fst)) :=
      congrArg₂ (addBits f m) hbx hby
    refine ⟨(hbits.trans hb).trans (by rw [hnode]), fun _ => (hflags.trans hfl).trans ?_⟩
    rw [hnode]
    exact congrArg₂ (fun a b => a ||| b ||| _) hfx.symm hfy.symm

/-- R75: the padding of a group with zeros. -/
theorem sumGroup_pad {f : Nat} (hf : fmtF f = true) (m : Mode) (fen : BitVec 6) {k n : Nat} {xs : List (Nat × Nat)}
    (h2 : 2 ≤ xs.length) (hlo : 2 ^ k < xs.length) (hn : xs.length + n = 2 ^ (k + 1)) :
    (sumGroup f (fun _ => m) fen (xs ++ List.replicate n (0, 2 ^ 64))).1 = (sumGroup f (fun _ => m) fen xs).1 := by
  have hlen : (xs ++ List.replicate n (0, 2 ^ 64)).length = 2 ^ (k + 1) := by rw [List.length_append, List.length_replicate, hn]
  have hpad := (sumGroup_two_pow hf m fen k.succ_pos hlen).1
  have htree := (sumGroup_tree hf m fen h2).1
  rw [depthOf_eq hlo (by omega)] at htree
  rw [hpad, htree, padded, depthOf_eq hlo (by omega), List.map_append, List.map_replicate, ← hn, Nat.add_sub_cancel_left]

end Sys2Proof.Proofs
end

section
/-! PROOF. Extremes of a group, and the order in which VARGMAX ranks elements (O44). -/

namespace Sys2Proof.Proofs

open Sys2Proof.Machine

/-! ## Extremes (R50, R228) -/

/-- R228: the better of two elements of an integer format. -/
def extremeStep (hi : Bool) (f a y : Nat) : Nat :=
  if hi == decide (intDecode f a < intDecode f y) && intDecode f a != intDecode f y then y else a

/-- R228: an element is at most as extreme as another. -/
def AtMost (hi : Bool) (f a b : Nat) : Prop :=
  if hi = true then intDecode f a ≤ intDecode f b else intDecode f b ≤ intDecode f a

theorem AtMost.refl (hi : Bool) (f a : Nat) : AtMost hi f a a := by cases hi <;> exact le_refl (intDecode f a)

theorem AtMost.trans {hi : Bool} {f a b c : Nat} (h : AtMost hi f a b) (h' : AtMost hi f b c) : AtMost hi f a c := by
  cases hi
  · exact le_trans (b := intDecode f b) h' h
  · exact le_trans (b := intDecode f b) h h'

theorem extremeStep_spec (hi : Bool) (f a y : Nat) : (extremeStep hi f a y = a ∨ extremeStep hi f a y = y) ∧
    AtMost hi f a (extremeStep hi f a y) ∧ AtMost hi f y (extremeStep hi f a y) := by
  simp only [extremeStep, AtMost]
  rcases lt_trichotomy (intDecode f a) (intDecode f y) with h | h | h
  · cases hi <;> simp [h, h.le, h.ne]
  · cases hi <;> simp [h]
  · cases hi <;> simp [h.le, h.ne', h.not_gt]

theorem foldl_extremeStep (hi : Bool) (f : Nat) (xs : List (Nat × Nat)) (a : Nat) :
    let r := xs.foldl (fun a y => extremeStep hi f a y.1) a
    (r = a ∨ ∃ y ∈ xs, r = y.1) ∧ AtMost hi f a r ∧ ∀ y ∈ xs, AtMost hi f y.1 r := by
  induction xs generalizing a with
  | nil => exact ⟨.inl rfl, AtMost.refl hi f a, fun y hy => nomatch hy⟩
  | cons x xs ih =>
    obtain ⟨hmem, hle, hall⟩ := ih (extremeStep hi f a x.1)
    obtain ⟨hstep, ha, hx⟩ := extremeStep_spec hi f a x.1
    refine ⟨?_, ha.trans hle, List.forall_mem_cons.mpr ⟨hx.trans hle, hall⟩⟩
    rcases hmem with h | ⟨y, hy, h⟩
    · exact hstep.imp h.trans fun hs => ⟨x, List.mem_cons_self, h.trans hs⟩
    · exact .inr ⟨y, List.mem_cons_of_mem x hy, h⟩

theorem extremeGroup_int {f : Nat} (hf : fmtIsInt f = true) (hi : Bool) (fen : BitVec 6) (x : Nat × Nat) (xs : List (Nat × Nat)) :
    extremeGroup hi f fen (x :: xs) = (xs.foldl (fun a y => extremeStep hi f a y.1) x.1, 0, none) := if_pos hf

/-- R228: the extreme of integers. -/
theorem extremeGroup_int_spec {f : Nat} (hf : fmtIsInt f = true) (hi : Bool) (fen : BitVec 6) (x : Nat × Nat)
    (xs : List (Nat × Nat)) : (∃ y ∈ x :: xs, (extremeGroup hi f fen (x :: xs)).1 = y.1) ∧
      (extremeGroup hi f fen (x :: xs)).2.1 = 0 ∧ ∀ y ∈ x :: xs, AtMost hi f y.1 (extremeGroup hi f fen (x :: xs)).1 := by
  rw [extremeGroup_int hf]
  obtain ⟨hmem, hx, hall⟩ := foldl_extremeStep hi f xs x.1
  refine ⟨?_, rfl, List.forall_mem_cons.mpr ⟨hx, hall⟩⟩
  rcases hmem with h | ⟨y, hy, h⟩
  · exact ⟨x, List.mem_cons_self, h⟩
  · exact ⟨y, List.mem_cons_of_mem x hy, h⟩

/-- R50: the extreme of one floating element. -/
theorem extremeGroup_single {f : Nat} (hf : fmtF f = true) (hi : Bool) (fen : BitVec 6) (x : Nat × Nat) :
    (extremeGroup hi f fen [x]).1 = quieted f x.1 := by
  simp only [extremeGroup, if_neg (not_fmtIsInt_of_fmtF hf), List.foldl_nil]
  cases hv : fpDecode f x.1 with
  | nan g n => exact (quieted_of_nan ⟨g, n, hv⟩).symm
  | inf n => exact (quieted_of_not_nan (x := x.1) (by rw [hv]; exact not_isNan_inf n)).symm
  | fin n m e => exact (quieted_of_not_nan (x := x.1) (by rw [hv]; exact not_isNan_fin n m e)).symm

/-- R50: one more floating element. -/
theorem extremeGroup_append {f : Nat} (hf : fmtF f = true) (hi : Bool) (fen : BitVec 6) (x y : Nat × Nat)
    (xs : List (Nat × Nat)) :
    let before := extremeGroup hi f fen (x :: xs)
    (extremeGroup hi f fen (x :: xs ++ [y])).1 = (fpMinMax f hi before.1 y.1).bits ∧
      (extremeGroup hi f fen (x :: xs ++ [y])).2.1 = before.2.1 ||| (fpMinMax f hi before.1 y.1).fl := by
  simp only [extremeGroup, List.cons_append, if_neg (not_fmtIsInt_of_fmtF hf), List.foldl_append, List.foldl_cons,
    List.foldl_nil, and_self]

/-! ## The order of VARGMAX (R229) -/

/-- R229: the place of a floating value in the order: NaNs, −∞, numbers with −0 below +0, +∞. -/
noncomputable def rankKey : Val → ℤ ×ₗ ℚ ×ₗ ℤ
  | .nan _ _ => toLex (0, toLex (0, 0))
  | .inf n => toLex (if n then 1 else 3, toLex (0, 0))
  | .fin n m e => toLex (2, toLex ((Val.fin n m e).rat, if n then 0 else 1))

/-- R45: the order of two finite values is that of their numbers. -/
theorem fpCompare_fin (n n' : Bool) (m m' : Nat) (e e' : Int) :
    fpCompare (.fin n m e) (.fin n' m' e') = some (compare (Val.fin n m e).rat (Val.fin n' m' e').rat) := by
  have hd := addDy_rat (sInt n m) e (-(sInt n' m')) e'
  have hpow : (0 : Rat) < 2 ^ (addDy (sInt n m) e (-(sInt n' m')) e').2 := by positivity
  have hdiff : ((addDy (sInt n m) e (-(sInt n' m')) e').1 : Rat) * 2 ^ (addDy (sInt n m) e (-(sInt n' m')) e').2 =
      (Val.fin n m e).rat - (Val.fin n' m' e').rat := by
    rw [hd, Int.cast_neg, neg_mul, ← sub_eq_add_neg]
    rfl
  show some (compare (addDy (sInt n m) e (-(sInt n' m')) e').1 0) = _
  generalize (addDy (sInt n m) e (-(sInt n' m')) e').1 = d at hdiff ⊢
  rcases lt_trichotomy d 0 with h | rfl | h
  · have hneg := mul_neg_of_neg_of_pos (Int.cast_lt_zero.mpr h) hpow
    rw [hdiff, sub_neg] at hneg
    rw [compare_lt_iff_lt.mpr h, compare_lt_iff_lt.mpr hneg]
  · rw [Int.cast_zero, zero_mul, eq_comm, sub_eq_zero] at hdiff
    rw [compare_eq_iff_eq.mpr rfl, compare_eq_iff_eq.mpr hdiff]
  · have hpos := mul_pos (Int.cast_pos.mpr h) hpow
    rw [hdiff, sub_pos] at hpos
    rw [compare_gt_iff_gt.mpr h, compare_gt_iff_gt.mpr hpos]

/-- R229: floating elements rank by their places in the order. -/
theorem ranksAbove_eq_compare_key {f : Nat} (hf : ¬fmtIsInt f = true) (a b : Nat) :
    ranksAbove f a b = compare (rankKey (fpDecode f a)) (rankKey (fpDecode f b)) := by
  have below : ∀ {p q : ℤ} (x y : ℚ ×ₗ ℤ), p < q → compare (toLex (p, x)) (toLex (q, y)) = .lt := fun x y h =>
    compare_lt_iff_lt.mpr (Prod.Lex.toLex_lt_toLex.mpr (.inl h))
  have above : ∀ {p q : ℤ} (x y : ℚ ×ₗ ℤ), q < p → compare (toLex (p, x)) (toLex (q, y)) = .gt := fun x y h =>
    compare_gt_iff_gt.mpr (Prod.Lex.toLex_lt_toLex.mpr (.inl h))
  simp only [ranksAbove, if_neg hf]
  cases fpDecode f a with
  | nan g n =>
    cases fpDecode f b with
    | nan g' n' => exact (compare_eq_iff_eq.mpr rfl).symm
    | inf n' => exact (below _ _ (by cases n' <;> decide)).symm
    | fin n' m' e' => exact (below _ _ (by decide)).symm
  | inf n =>
    cases fpDecode f b with
    | nan g' n' => exact (above _ _ (by cases n <;> decide)).symm
    | inf n' =>
      cases n <;> cases n'
      · exact (compare_eq_iff_eq.mpr rfl).symm
      · exact (above _ _ (by decide)).symm
      · exact (below _ _ (by decide)).symm
      · exact (compare_eq_iff_eq.mpr rfl).symm
    | fin n' m' e' =>
      cases n
      · exact (above _ _ (by decide)).symm
      · exact (below _ _ (by decide)).symm
  | fin n m e =>
    cases fpDecode f b with
    | nan g' n' => exact (above _ _ (by decide)).symm
    | inf n' =>
      cases n'
      · exact (below _ _ (by decide)).symm
      · exact (above _ _ (by decide)).symm
    | fin n' m' e' =>
      simp only [fpCompare_fin, rankKey]
      rcases lt_trichotomy (Val.fin n m e).rat (Val.fin n' m' e').rat with h | h | h
      · rw [compare_lt_iff_lt.mpr h]
        exact (compare_lt_iff_lt.mpr (by simp [Prod.Lex.toLex_lt_toLex, h])).symm
      · rw [compare_eq_iff_eq.mpr h, h]
        cases n <;> cases n'
        · exact (compare_eq_iff_eq.mpr rfl).symm
        · exact (compare_gt_iff_gt.mpr (by simp [Prod.Lex.toLex_lt_toLex])).symm
        · exact (compare_lt_iff_lt.mpr (by simp [Prod.Lex.toLex_lt_toLex])).symm
        · exact (compare_eq_iff_eq.mpr rfl).symm
      · rw [compare_gt_iff_gt.mpr h]
        exact (compare_gt_iff_gt.mpr (by simp [Prod.Lex.toLex_lt_toLex, h])).symm

/-- R229: one more element of a group. -/
theorem argmaxGroup_append (f : Nat) (xs : List Nat) (x : Nat) : argmaxGroup f (xs ++ [x]) =
    if xs.length = 0 ∨ ranksAbove f x (argmaxGroup f xs).1 == .gt then (x, xs.length) else argmaxGroup f xs := by
  rw [argmaxGroup, List.length_append, List.length_singleton, List.range_succ, List.zip_append List.length_range,
    List.foldl_append]
  rfl

/-- R229: the winner is the first of the elements that rank highest. -/
theorem argmaxGroup_first {α : Type} [LinearOrder α] {f : Nat} (key : Nat → α)
    (hkey : ∀ x y, ranksAbove f x y = compare (key x) (key y)) {xs : List Nat} (hx : xs ≠ []) :
    xs[(argmaxGroup f xs).2]? = some (argmaxGroup f xs).1 ∧ ∀ i v, xs[i]? = some v →
      key v ≤ key (argmaxGroup f xs).1 ∧ (i < (argmaxGroup f xs).2 → key v < key (argmaxGroup f xs).1) := by
  induction xs using List.reverseRecOn with
  | nil => exact absurd rfl hx
  | append_singleton xs x ih =>
    rw [argmaxGroup_append]
    have hlast : (xs ++ [x])[xs.length]? = some x := List.getElem?_concat_length
    have hbefore : ∀ {i v}, (xs ++ [x])[i]? = some v → i < xs.length ∧ xs[i]? = some v ∨ i = xs.length ∧ v = x := by
      intro i v h
      rcases lt_trichotomy i xs.length with hi | rfl | hi
      · exact .inl ⟨hi, by rwa [List.getElem?_append_left hi] at h⟩
      · exact .inr ⟨rfl, (Option.some.inj (hlast.symm.trans h)).symm⟩
      · exact absurd (List.getElem?_eq_some_iff.mp h).1 (by rw [List.length_append, List.length_singleton]; omega)
    split
    case isTrue hwin =>
      refine ⟨hlast, fun i v h => ?_⟩
      rcases hbefore h with ⟨hi, hv⟩ | ⟨rfl, rfl⟩
      · have hne : xs ≠ [] := by rintro rfl; exact absurd hi (Nat.not_lt_zero i)
        have hgt : key (argmaxGroup f xs).1 < key x := by
          rcases hwin with h0 | hgt
          · exact absurd (List.length_eq_zero_iff.mp h0) hne
          · rwa [beq_iff_eq, hkey, compare_gt_iff_gt] at hgt
        have hlt := lt_of_le_of_lt ((ih hne).2 i v hv).1 hgt
        exact ⟨hlt.le, fun _ => hlt⟩
      · exact ⟨le_rfl, fun h => absurd h (lt_irrefl _)⟩
    case isFalse hlose =>
      rw [not_or, beq_iff_eq, hkey, compare_gt_iff_gt, not_lt] at hlose
      obtain ⟨h0, hle⟩ := hlose
      obtain ⟨hget, hall⟩ := ih fun h => h0 (by rw [h]; rfl)
      have hlt := (List.getElem?_eq_some_iff.mp hget).1
      refine ⟨by rwa [List.getElem?_append_left hlt], fun i v h => ?_⟩
      rcases hbefore h with ⟨-, hv⟩ | ⟨rfl, rfl⟩
      · exact hall i v hv
      · exact ⟨hle, fun h => absurd h hlt.not_gt⟩

/-- R229: the winner, told by the model's ranking. -/
theorem argmaxGroup_spec (f : Nat) {xs : List Nat} (hx : xs ≠ []) :
    xs[(argmaxGroup f xs).2]? = some (argmaxGroup f xs).1 ∧ ∀ i v, xs[i]? = some v →
      ranksAbove f v (argmaxGroup f xs).1 ≠ .gt ∧ (i < (argmaxGroup f xs).2 → ranksAbove f v (argmaxGroup f xs).1 = .lt) := by
  by_cases hf : fmtIsInt f = true
  · have hkey : ∀ x y, ranksAbove f x y = compare (intDecode f x) (intDecode f y) := fun x y => if_pos hf
    simpa only [hkey, ne_eq, compare_gt_iff_gt, not_lt, compare_lt_iff_lt] using argmaxGroup_first _ hkey hx
  · have hkey := ranksAbove_eq_compare_key hf
    simpa only [hkey, ne_eq, compare_gt_iff_gt, not_lt, compare_lt_iff_lt] using
      argmaxGroup_first (fun x => rankKey (fpDecode f x)) hkey hx

/-- R229: a NaN ranks below every number, and beside every NaN. -/
theorem ranksAbove_nan {f : Nat} (hf : ¬fmtIsInt f = true) {a b : Nat} (ha : (fpDecode f a).isNan) :
    (¬(fpDecode f b).isNan → ranksAbove f a b = .lt) ∧ ((fpDecode f b).isNan → ranksAbove f a b = .eq) := by
  obtain ⟨g, n, ha⟩ := ha
  simp only [ranksAbove, if_neg hf, ha]
  cases fpDecode f b with
  | nan g n => exact ⟨fun h => absurd (isNan_nan g n) h, fun _ => rfl⟩
  | inf n => exact ⟨fun _ => rfl, fun h => absurd h (not_isNan_inf n)⟩
  | fin n m e => exact ⟨fun _ => rfl, fun h => absurd h (not_isNan_fin n m e)⟩

/-- R229: numbers rank by their values. -/
theorem ranksAbove_finite {f : Nat} (hf : ¬fmtIsInt f = true) {a b : Nat} (ha : (fpDecode f a).finite)
    (hb : (fpDecode f b).finite) (h : (fpDecode f a).rat < (fpDecode f b).rat) : ranksAbove f a b = .lt := by
  obtain ⟨n, m, e, ha⟩ := ha
  obtain ⟨n', m', e', hb⟩ := hb
  rw [ha, hb] at h
  simp only [ranksAbove, if_neg hf, ha, hb, fpCompare_fin, compare_lt_iff_lt.mpr h]

end Sys2Proof.Proofs
end

section
/-! PROOF. The digits of VSPLIT, and the exponent of a row (O44). -/

namespace Sys2Proof.Proofs

open Sys2Proof.Machine

/-! ## Digits (R77) -/

/-- R77: the number that digits denote, the lowest first. -/
def digitSum : List Nat → Int
  | [] => 0
  | d :: l => intDecode 0 d + 128 * digitSum l

/-- R77: a digit as VSPLIT writes it. -/
def IsDigit (d : Nat) : Prop := d < 256 ∧ -64 ≤ intDecode 0 d ∧ intDecode 0 d ≤ 63

theorem intDecode_digit {v : Int} (hlo : -64 ≤ v) (hhi : v ≤ 63) : intDecode 0 (wrapBits 8 v) = v := by
  have hl : intLo 0 = -128 := by decide
  have hh : intHi 0 = 127 := by decide
  exact intDecode_wrapBits (f := 0) (by decide) (by omega) (by omega)

theorem splitGo_spec (k : Nat) (v : Int) : (splitGo k v).length = k ∧ (∀ d ∈ splitGo k v, IsDigit d) ∧
    (128 : Int) ^ k ∣ digitSum (splitGo k v) - v := by
  induction k generalizing v with
  | zero => exact ⟨rfl, List.forall_mem_nil _, one_dvd _⟩
  | succ k ih =>
    have hd : intDecode 0 (wrapBits 8 ((v + 64) % 128 - 64)) = (v + 64) % 128 - 64 := intDecode_digit (by omega) (by omega)
    obtain ⟨hlen, hall, q, hq⟩ := ih ((v - ((v + 64) % 128 - 64)) / 128)
    refine ⟨congrArg (· + 1) hlen, List.forall_mem_cons.mpr ⟨⟨wrapBits_lt 8 _, ?_⟩, hall⟩, q, ?_⟩
    · rw [hd]
      omega
    · have hv : (v - ((v + 64) % 128 - 64)) / 128 * 128 = v - ((v + 64) % 128 - 64) := by omega
      show intDecode 0 _ + 128 * digitSum _ - v = _
      rw [hd, pow_succ]
      linear_combination 128 * hq + hv

/-- R77: the bounds of what digits denote. -/
theorem digitSum_bounds {l : List Nat} (h : ∀ d ∈ l, IsDigit d) :
    -(64 * (128 ^ l.length - 1)) ≤ 127 * digitSum l ∧ 127 * digitSum l ≤ 63 * (128 ^ l.length - 1) := by
  induction l with
  | nil => exact ⟨le_rfl, le_rfl⟩
  | cons d l ih =>
    obtain ⟨⟨-, hlo, hhi⟩, hl⟩ := List.forall_mem_cons.mp h
    obtain ⟨h1, h2⟩ := ih hl
    rw [List.length_cons, pow_succ]
    simp only [digitSum]
    constructor <;> linarith

/-- R77: the digits from the highest down, each with its weight. -/
theorem sum_weights (l : List Nat) :
    ((List.range l.length).map fun k => intDecode 0 (l.reverse.getD k 0) * 128 ^ (l.length - 1 - k)).sum = digitSum l := by
  induction l with
  | nil => rfl
  | cons d l ih =>
    have hhigh : (List.range l.length).map (fun k => intDecode 0 ((d :: l).reverse.getD k 0) * 128 ^ ((d :: l).length - 1 - k)) =
        (List.range l.length).map fun k => 128 * (intDecode 0 (l.reverse.getD k 0) * 128 ^ (l.length - 1 - k)) := by
      refine List.map_congr_left fun k hk => ?_
      have hk : k < l.length := List.mem_range.mp hk
      have hw : (d :: l).length - 1 - k = l.length - 1 - k + 1 := by rw [List.length_cons]; omega
      rw [List.reverse_cons, List.getD_append _ _ _ _ (by rwa [List.length_reverse]), hw, pow_succ]
      ring
    have hlow : (d :: l).reverse.getD l.length 0 = d := by
      rw [List.reverse_cons, List.getD_append_right _ _ _ _ (by rw [List.length_reverse]), List.length_reverse, Nat.sub_self]
      rfl
    rw [List.length_cons, List.range_succ, List.map_append, List.sum_append, ← List.length_cons (a := d), hhigh,
      List.sum_map_mul_left, ih, List.map_singleton, List.sum_singleton, hlow]
    simp only [digitSum, List.length_cons, Nat.add_sub_cancel, Nat.sub_self, pow_zero, mul_one]
    ring

/-- R77: the digits of a finite element, and whether it is represented exactly. -/
theorem splitDigits_fin {a n : Nat} {ea e : Int} {neg : Bool} {m : Nat} (h : fpDecode 10 a = .fin neg m e) :
    splitDigits n ea a =
      ((splitGo n (rint ⟨0, 0⟩ neg m (e + 7 * n - ea)).1).reverse, (rint ⟨0, 0⟩ neg m (e + 7 * n - ea)).2) := by
  simp only [splitDigits, h]

theorem splitDigits_of_not_finite {a : Nat} (n : Nat) (ea : Int) (h : ¬(fpDecode 10 a).finite) :
    splitDigits n ea a = (List.replicate n 0, false) := by
  simp only [splitDigits]
  cases ha : fpDecode 10 a with
  | nan g r => rfl
  | inf s => rfl
  | fin s m e => exact absurd ⟨s, m, e, ha⟩ h

/-- R77: every element has as many digits as slices. -/
theorem splitDigits_digits (n : Nat) (ea : Int) (a : Nat) :
    (splitDigits n ea a).1.length = n ∧ ∀ d ∈ (splitDigits n ea a).1, IsDigit d := by
  by_cases h : (fpDecode 10 a).finite
  · obtain ⟨neg, m, e, ha⟩ := h
    obtain ⟨hlen, hall, -⟩ := splitGo_spec n (rint ⟨0, 0⟩ neg m (e + 7 * n - ea)).1
    rw [splitDigits_fin ha]
    exact ⟨(List.length_reverse).trans hlen, fun d hd => hall d (List.mem_reverse.mp hd)⟩
  · rw [splitDigits_of_not_finite n ea h]
    refine ⟨List.length_replicate, fun d hd => ?_⟩
    rw [List.eq_of_mem_replicate hd]
    exact ⟨by decide, by decide, by decide⟩

theorem rat_scaled (neg : Bool) (m : Nat) (e k : Int) : (Val.fin neg m (e + k)).rat = (Val.fin neg m e).rat * 2 ^ k := by
  simp only [Val.rat]
  rw [zpow_add₀ two_ne_zero, mul_assoc]

/-- R77: digits that denote a number up to a multiple of the weight beyond them denote a small number itself. -/
theorem digitSum_eq_of_small {l : List Nat} {N : Int} (hl : 0 < l.length) (h : ∀ d ∈ l, IsDigit d)
    (hdvd : (128 : Int) ^ l.length ∣ digitSum l - N) (hN : N.natAbs ≤ 2 ^ (7 * l.length - 2)) : digitSum l = N := by
  obtain ⟨h1, h2⟩ := digitSum_bounds h
  have hpow : (128 : Int) ^ l.length = 4 * 2 ^ (7 * l.length - 2) := by
    rw [show (128 : Int) = 2 ^ 7 by rfl, show (4 : Int) = 2 ^ 2 by rfl, ← pow_mul, ← pow_add]
    congr 1
    omega
  have hN' : |N| ≤ 2 ^ (7 * l.length - 2) := by rw [Int.abs_eq_natAbs]; exact_mod_cast hN
  obtain ⟨hlo, hhi⟩ := abs_le.mp hN'
  have hpos : (0 : Int) < 2 ^ (7 * l.length - 2) := by positivity
  rw [hpow] at h1 h2 hdvd
  refine Int.sub_eq_zero.mp (Int.eq_zero_of_abs_lt_dvd hdvd (abs_lt.mpr ⟨?_, ?_⟩)) <;> linarith

/-- R77: the number that the digits of a finite element denote. -/
theorem splitDigits_value {a n : Nat} (ea : Int) (hn : 0 < n) (h : (fpDecode 10 a).finite) :
    let x := (fpDecode 10 a).rat * 2 ^ (7 * n - ea)
    let total := digitSum (splitDigits n ea a).1.reverse
    ∃ N : Int, 2 * (N : Rat) ≤ 2 * x + 1 ∧ 2 * x ≤ 2 * (N : Rat) + 1 ∧ (total - N) % 128 ^ n = 0 ∧
      (N.natAbs ≤ 2 ^ (7 * n - 2) → total = N) ∧ ((splitDigits n ea a).2 = true ↔ (N : Rat) ≠ x) := by
  intro x total
  obtain ⟨neg, m, e, ha⟩ := h
  have hx : (Val.fin neg m (e + 7 * n - ea)).rat = x := by
    rw [add_sub_assoc, rat_scaled]
    simp only [x, ha]
  obtain ⟨hr, hex⟩ := rint_rat ⟨0, 0⟩ neg m (e + 7 * n - ea)
  rw [hx] at hr hex
  obtain ⟨hlo, hhi⟩ := hr.nearest (.inl rfl)
  obtain ⟨hlen, hall, hdvd⟩ := splitGo_spec n (rint ⟨0, 0⟩ neg m (e + 7 * n - ea)).1
  have htotal : total = digitSum (splitGo n (rint ⟨0, 0⟩ neg m (e + 7 * n - ea)).1) := by
    simp only [total, splitDigits_fin ha, List.reverse_reverse]
  rw [htotal]
  refine ⟨_, hlo, hhi, Int.emod_eq_zero_of_dvd hdvd, fun hN => ?_, ?_⟩
  · exact digitSum_eq_of_small (by omega) hall (by rwa [hlen]) (by rwa [hlen])
  · rw [splitDigits_fin ha, ← not_iff_not, ne_eq, not_not, Bool.not_eq_true, hex]

/-! ## The exponent of a row (R77) -/

/-- R77: the exponent of an element that has one: the least power of two beyond its magnitude. -/
theorem splitExp_spec {a : Nat} {k : Int} (h : splitExp a = some k) :
    (2 : Rat) ^ (k - 1) ≤ |(fpDecode 10 a).rat| ∧ |(fpDecode 10 a).rat| < 2 ^ k := by
  simp only [splitExp] at h
  cases ha : fpDecode 10 a with
  | nan g r => simp [ha] at h
  | inf s => simp [ha] at h
  | fin s m e =>
    simp only [ha, Option.ite_none_left_eq_some, Option.some.injEq] at h
    obtain ⟨hm, rfl⟩ := h
    have habs : |(Val.fin s m e).rat| = m * (2 : Rat) ^ e := by
      rw [Val.rat, abs_mul, abs_of_pos (by positivity : (0 : Rat) < 2 ^ e)]
      cases s <;> simp [sInt]
    have hlo : ((2 ^ Nat.log2 m : Nat) : Rat) ≤ m := by exact_mod_cast Nat.log2_self_le hm
    have hhi : (m : Rat) < (2 ^ (Nat.log2 m + 1) : Nat) := by exact_mod_cast Nat.lt_log2_self
    have hpow : (0 : Rat) < 2 ^ e := by positivity
    push_cast at hlo hhi
    rw [habs]
    constructor
    · calc (2 : Rat) ^ (e + Nat.log2 m + 1 - 1) = 2 ^ Nat.log2 m * 2 ^ e := by
            rw [add_sub_cancel_right, add_comm, zpow_add₀ two_ne_zero, zpow_natCast]
        _ ≤ m * 2 ^ e := mul_le_mul_of_nonneg_right hlo hpow.le
    · calc (m : Rat) * 2 ^ e < 2 ^ (Nat.log2 m + 1) * 2 ^ e := mul_lt_mul_of_pos_right hhi hpow
        _ = 2 ^ (e + Nat.log2 m + 1) := by
            rw [add_assoc, add_comm e, zpow_add₀ two_ne_zero, ← Nat.cast_add_one, zpow_natCast]

/-- R46: the significand of an FP64 number is zero when its bits without the sign are. -/
theorem fp64_significand {a m : Nat} {s : Bool} {e : Int} (h : fpDecode 10 a = .fin s m e) : m = 0 ↔ a % 2 ^ 63 = 0 := by
  have hsplit : a % 2 ^ 63 = a % 2 ^ 52 + 2 ^ 52 * (a / 2 ^ 52 % 2 ^ 11) := by omega
  simp only [fpDecode, fpParams, Nat.reduceEqDiff, if_false, false_and] at h
  split at h
  · split at h <;> exact nomatch h
  · split at h
    · obtain ⟨-, rfl, -⟩ := Val.fin.injEq .. ▸ h
      omega
    · obtain ⟨-, rfl, -⟩ := Val.fin.injEq .. ▸ h
      omega

/-- R77: the elements of a row that have an exponent. -/
theorem isSome_splitExp (a : Nat) : (splitExp a).isSome = (splitSpecial a == false && a % 2 ^ 63 != 0) := by
  rw [splitExp, splitSpecial]
  cases ha : fpDecode 10 a with
  | nan g r => rfl
  | inf s => rfl
  | fin s m e =>
    have hm := fp64_significand ha
    rw [Bool.eq_iff_iff]
    simpa using not_congr hm

/-- R77: the elements of a row that VSPLIT's exponent is taken over. -/
def splitLarge (row : List Nat) : List Nat := row.filter fun x => splitSpecial x == false && x % 2 ^ 63 != 0

theorem mem_splitLarge {row : List Nat} {x : Nat} : x ∈ splitLarge row ↔ x ∈ row ∧ ∃ k, splitExp x = some k := by
  rw [splitLarge, List.mem_filter, ← isSome_splitExp, Option.isSome_iff_exists]

theorem foldl_optionMax (l : List Int) : l.foldl
    (fun (b : Option Int) e => some (match b with | none => e | some x => max x e)) none = l.max? := by
  have hsome : ∀ (l : List Int) (a : Int), l.foldl
      (fun (b : Option Int) e => some (match b with | none => e | some x => max x e)) (some a) = some (l.foldl max a) := by
    intro l
    induction l with
    | nil => intro a; rfl
    | cons x l ih => intro a; exact ih (max a x)
  cases l with
  | nil => rfl
  | cons x l => exact hsome l x

theorem splitEa_eq (row : List Nat) : splitEa row = 2 + (row.filterMap splitExp).max?.getD (-1073) :=
  congrArg (fun top : Option Int => 2 + top.getD (-1073)) (foldl_optionMax (row.filterMap splitExp))

theorem splitEa_of_small {row : List Nat} (h : splitLarge row = []) : splitEa row = -1071 := by
  have hnone : row.filterMap splitExp = [] := List.filterMap_eq_nil_iff.mpr fun x hx => Option.eq_none_iff_forall_ne_some.mpr
    fun k hk => List.not_mem_nil (h ▸ mem_splitLarge.mpr ⟨hx, k, hk⟩)
  rw [splitEa_eq, hnone]
  rfl

/-- R77: the exponent of a row is the greatest of its elements' exponents, and two. -/
theorem splitEa_of_large {row : List Nat} (h : splitLarge row ≠ []) :
    (∀ x ∈ splitLarge row, |(fpDecode 10 x).rat| < 2 ^ (splitEa row - 2)) ∧
      ∃ x ∈ splitLarge row, (2 : Rat) ^ (splitEa row - 3) ≤ |(fpDecode 10 x).rat| := by
  obtain ⟨y, hy⟩ := List.exists_mem_of_ne_nil _ h
  obtain ⟨hyrow, k, hk⟩ := mem_splitLarge.mp hy
  have hmem : k ∈ row.filterMap splitExp := List.mem_filterMap.mpr ⟨y, hyrow, hk⟩
  obtain ⟨top, htop⟩ : ∃ top, (row.filterMap splitExp).max? = some top :=
    Option.ne_none_iff_exists'.mp fun hn => List.not_mem_nil (List.max?_eq_none_iff.mp hn ▸ hmem)
  have hea : splitEa row - 2 = top := by rw [splitEa_eq, htop, Option.getD_some, add_sub_cancel_left]
  obtain ⟨htopmem, hmax⟩ := List.max?_eq_some_iff.mp htop
  refine ⟨fun x hx => ?_, ?_⟩
  · obtain ⟨hxrow, j, hj⟩ := mem_splitLarge.mp hx
    have hle : j ≤ top := hmax j (List.mem_filterMap.mpr ⟨x, hxrow, hj⟩)
    rw [hea]
    exact lt_of_lt_of_le (splitExp_spec hj).2 (zpow_le_zpow_right₀ one_le_two hle)
  · obtain ⟨x, hxrow, hx⟩ := List.mem_filterMap.mp htopmem
    refine ⟨x, mem_splitLarge.mpr ⟨hxrow, top, hx⟩, ?_⟩
    rw [show splitEa row - 3 = top - 1 by omega]
    exact (splitExp_spec hx).1

end Sys2Proof.Proofs
end

section
/-! PROOF. The start of a command at the head of its queue (O44). -/

namespace Sys2Proof.Proofs

open Sys2Proof.Machine
open Sys2Proof.Laws

/-! ## The command that starts (R340, R345) -/

/-- R345: the queued head of a queue without a stopped command is the one that starts. -/
theorem starter_head {c : Ctx} {e : Fin 3} {k : Cmd} {q : List Cmd} {t : Nat} (hq : c.queue e = k :: q) (hk : k.state = .queued)
    (hf : k.freed = false) (hn : k.nominal ≤ t) (hrest : ∀ x ∈ q, x.state ≠ .trapped) : starter c e t = some k := by
  have hnone : (c.queue e).find? (fun k => k.state == .trapped) = none := by
    rw [hq, List.find?_eq_none]
    refine List.forall_mem_cons.mpr ⟨by simp [hk], fun x hx => ?_⟩
    simpa using hrest x hx
  have hhead : c.entries e = k :: q.filter fun x => !x.freed := by
    rw [Ctx.entries, hq, List.filter_cons_of_pos (by simp [hf])]
  simp only [starter, hnone, hhead, hk, hn, and_self, if_true]

/-- R345: a command of an engine other than the commands behind it, changed. -/
theorem queue_updCmd_head {c : Ctx} {e : Fin 3} {k : Cmd} {q : List Cmd} (f : Cmd → Cmd) (hq : c.queue e = k :: q)
    (hids : ∀ x ∈ q, x.id ≠ k.id) : (updCmd c e k.id f).queue e = f k :: q := by
  have hmap : q.map (fun x => if x.id == k.id then f x else x) = q :=
    (List.map_congr_left fun x hx => if_neg (by simpa using hids x hx)).trans q.map_id
  rw [updCmd, queue_setQueue, if_pos rfl, hq, List.map_cons, hmap, if_pos (beq_self_eq_true k.id)]

theorem queue_updCmd_ne (c : Ctx) {e e' : Fin 3} (id : Nat) (f : Cmd → Cmd) (h : e' ≠ e) :
    (updCmd c e id f).queue e' = c.queue e' := by rw [updCmd, queue_setQueue, if_neg h]

theorem updCmd_frame (c : Ctx) (e : Fin 3) (id : Nat) (f : Cmd → Cmd) : (updCmd c e id f).r = c.r ∧
    (updCmd c e id f).latches = c.latches ∧ (updCmd c e id f).uws = c.uws ∧ (updCmd c e id f).wins = c.wins := by
  rw [updCmd, setQueue_eq]
  exact ⟨rfl, rfl, rfl, rfl⟩

/-- R346, R347: TIMING_FAULT of a command that starts with byte a of an operand still to be written. -/
def startTrap (e : Fin 3) (k : Cmd) (a : Nat) : Trap :=
  ⟨0x14, BitVec.ofNat 64 (at' (slotOf e) 12 + at' k.pos 8 + 1), BitVec.ofNat 64 k.nominal, BitVec.ofNat 64 a, k.pc⟩

/-- R345, R346: what the start of a command comes to, by what it misses. -/
def startOutcome (s : State) (e : Fin 3) (k : Cmd) : Outcome State :=
  match missed s k with
  | none => .next (startCmd s e k s.ctx.now)
  | some a => if s.ctx.hdr.det then .next (s.up fun c => { c with wait := .hold 0 }) else .next (takeTrap s (startTrap e k a))

/-- R338, R345: the step at which a command starts. -/
theorem exec_commandStart_head {s : State} {e : Fin 3} {k : Cmd} (hs : s.ctx.status ≠ .handler)
    (hk : starter s.ctx e s.ctx.now = some k) : exec (.commandStart e.castSucc) s = startOutcome s e k := by
  show execCommandStart e.castSucc s = _
  have he : (⟨e.castSucc.val, e.isLt⟩ : Fin 3) = e := rfl
  simp only [execCommandStart, if_neg hs, Fin.val_castSucc, e.isLt, dite_true, hk]
  rfl

theorem startOutcome_of_none {s : State} {k : Cmd} (e : Fin 3) (hm : missed s k = none) :
    startOutcome s e k = .next (startCmd s e k s.ctx.now) := by
  simp only [startOutcome, hm]

/-- R346: a start that misses an operand holds the task cycle or faults. -/
theorem startOutcome_of_some {s : State} {k : Cmd} (e : Fin 3) {a : Nat} (hm : missed s k = some a) :
    startOutcome s e k = .next
      (if s.ctx.hdr.det = true then s.up fun c => { c with wait := .hold 0 } else takeTrap s (startTrap e k a)) := by
  simp only [startOutcome, hm]
  split <;> rfl

/-- R345: a command that starts. -/
def started (c : Ctx) (k : Cmd) : Cmd :=
  { k with
    state := .running, base := if k.began.isSome then restartBase c k c.now else c.now, began := k.began.or (some c.now) }

/-- R338, R345: the head of a queue that misses no operand starts. -/
theorem exec_commandStart_started {s : State} {e : Fin 3} {k : Cmd} {q : List Cmd} (hs : s.ctx.status ≠ .handler)
    (hk : starter s.ctx e s.ctx.now = some k) (hq : s.ctx.queue e = k :: q) (hids : ∀ x ∈ q, x.id ≠ k.id)
    (hm : missed s k = none) : ∃ t, exec (.commandStart e.castSucc) s = .next t ∧ t.ctx.queue e = started s.ctx k :: q ∧
      (∀ e', e' ≠ e → t.ctx.queue e' = s.ctx.queue e') ∧ t.ctx.r = s.ctx.r ∧ t.ctx.latches = s.ctx.latches ∧
      t.ctx.uws = s.ctx.uws ∧ sameStore s t := by
  refine ⟨startCmd s e k s.ctx.now, (exec_commandStart_head hs hk).trans (startOutcome_of_none e hm), ?_⟩
  obtain ⟨hr, hlat, huws, -⟩ := updCmd_frame s.ctx e k.id fun x => { x with
    state := .running, base := if x.began.isSome then restartBase s.ctx k s.ctx.now else s.ctx.now
    began := x.began.or (some s.ctx.now) }
  exact ⟨queue_updCmd_head _ hq hids, fun e' he => queue_updCmd_ne s.ctx k.id _ he, hr, hlat, huws, rfl, rfl, rfl, rfl⟩

theorem started_base_of_new {c : Ctx} {k : Cmd} (h : k.began = none) : (started c k).base = c.now := by
  simp [started, h]

theorem started_base_of_begun {c : Ctx} {k : Cmd} (h : k.began.isSome = true) : (started c k).base = restartBase c k c.now := by
  simp [started, h]

end Sys2Proof.Proofs
end

section
/-! PROOF. The rows of ACCZ, ACCN and ACCX, and the step at which one unit's write is made (O44). -/

namespace Sys2Proof.Proofs

open Sys2Proof.Machine
open Sys2Proof.Laws

/-! ## Rows of accumulator moves (R253, R254, R257) -/

/-- R35, R249: row i of an X command, performed at an offset, leaves one write. -/
def LeavesRow (s : State) (c : Cmd) (i off : Nat) (act : UAct) (fl : Nat) : Prop :=
  ∃ p w, xPerform s c off = some p ∧ p.uws = [w] ∧ w.eng = 1 ∧ w.cmd = c.id ∧ w.unit = i ∧ w.act = act ∧ w.flags = fl

theorem leavesRow_of_uw {s : State} {c : Cmd} {i off due opnd fl ch : Nat} {act : UAct} {p : Perf} (he : c.op.eng = 1)
    (hp : xPerform s c off = some p) (hw : p.uws = [c.uw i due opnd act fl ch]) : LeavesRow s c i off act fl :=
  ⟨p, _, hp, hw, he, rfl, rfl, rfl, rfl⟩

theorem leavesRow_accz {s : State} {c : Cmd} {i : Nat} (hop : c.op = .accz) (hi : i < (c.sh 0).rows.toNat) :
    LeavesRow s c i i (.cells (c.sh 0).acc.toNat ((c.sh 0).off.toNat + i) (c.sh 0).coff.toNat
      (List.replicate (c.sh 0).cols.toNat 0)) 0 := by
  have hperform : xPerform s c i = some (acczRow s c i) := by simp only [xPerform, hop, hi, if_true]
  exact leavesRow_of_uw (by rw [hop]; rfl) hperform rfl

/-- R64, R253: the results of a row, as its write holds them. -/
def rowElems (i : Nat) (rs : List (Nat × Res)) : List (Nat × Nat × Nat) := rs.map fun x => (i, x.1, x.2.bits)

/-- R64: the flags of a row. -/
def rowFlags (rs : List (Nat × Res)) : Nat := rs.foldl (fun x r => x ||| r.2.fl) 0

theorem leavesRow_accn {s : State} {c : Cmd} {i : Nat} (hop : c.op = .accn) (hi : i < (c.sh 1).lr) :
    let rs := (List.range (c.sh 1).lc).map fun j =>
      (j, accnElem s c i j (accGet s (c.sh 0).acc.toNat ((c.sh 0).off.toNat + i) ((c.sh 0).coff.toNat + j)))
    LeavesRow s c i i (.elems (c.sh 1) (rowElems i rs)) (rowFlags rs) := by
  have hperform : xPerform s c i = some (accnRow s c i) := by simp only [xPerform, hop, hi, if_true]
  exact leavesRow_of_uw (by rw [hop]; rfl) hperform rfl

/-- R257: with no position beyond the addend, a row of ACCX has a result at every column. -/
theorem leavesRow_accx {s : State} {c : Cmd} {i : Nat} (hop : c.op = .accx) (hi : i < (c.sh 1).lr) (hbuf : c.buf ≠ [])
    (hin : ∀ j, j < (c.sh 1).lc → (c.sh 2).beyond i j = false) :
    let rs := (List.range (c.sh 1).lc).map fun j =>
      (j, accxElem c (infoEntry s c.ga i) (c.buf.getD j []) (elemBits (spadByte s) (c.sh 2) i j)
        (accGet s (c.sh 0).acc.toNat ((c.sh 0).off.toNat + i) ((c.sh 0).coff.toNat + j)))
    LeavesRow s c i (i + 1) (.elems (c.sh 1) (rowElems i rs)) (rowFlags rs) := by
  intro rs
  have hresults : ((List.range (c.sh 1).lc).filterMap fun j =>
      if (c.sh 2).beyond i j ∧ (c.sh 2).edge = 0 then none
      else
        let x := if (c.sh 2).beyond i j then 0 else elemBits (spadByte s) (c.sh 2) i j
        some (j, accxElem c (infoEntry s c.ga i) (c.buf.getD j []) x
          (accGet s (c.sh 0).acc.toNat ((c.sh 0).off.toNat + i) ((c.sh 0).coff.toNat + j)))) = rs := by
    refine (List.filterMap_congr fun j hj => ?_).trans (congrFun List.filterMap_eq_map _)
    rw [hin j (List.mem_range.mp hj)]
    rfl
  have hperform : xPerform s c (i + 1) = some (accxRow s c i) := by
    simp [xPerform, hop, hbuf, hi]
  refine leavesRow_of_uw (by rw [hop]; rfl) hperform (due := 10 + i) (opnd := 1) (ch := weight s 14) ?_
  rw [← hresults]
  rfl

/-! ## One write of a unit (R64, R252, R338) -/

/-- R64, R424: what follows a unit's write: its flags and its charge. -/
def afterWrite (s : State) (w : UWrite) : State :=
  let s := if w.flags = 0 then s else orFlags s w.flags
  if w.charge = 0 then s else charge s w.charge

section
variable (s : State) (w : UWrite)

/-- R64, R424: flags and a charge change nothing but FLG and the account of energy. -/
theorem afterWrite_keeps {β : Type} (p : State → β) (hr : ∀ (s : State) f, p (s.upR f) = p s)
    (hc : ∀ (s : State) n, p (charge s n) = p s) : p (afterWrite s w) = p s := by
  unfold afterWrite
  split
  · split
    · rfl
    · exact hc s _
  · split
    · exact hr s _
    · exact (hc _ _).trans (hr s _)

theorem afterWrite_mem : (afterWrite s w).mem = s.mem :=
  afterWrite_keeps s w State.mem (fun _ _ => rfl) charge_mem

theorem afterWrite_acc : (afterWrite s w).acc = s.acc :=
  afterWrite_keeps s w State.acc (fun _ _ => rfl) charge_acc

theorem afterWrite_dirty : (afterWrite s w).dirty = s.dirty :=
  afterWrite_keeps s w State.dirty (fun _ _ => rfl) charge_dirty

theorem afterWrite_src : (afterWrite s w).ctx.src = s.ctx.src :=
  afterWrite_keeps s w (·.ctx.src) (fun _ _ => rfl) charge_ctx_src

theorem afterWrite_gunit : (afterWrite s w).ctx.gunit = s.ctx.gunit :=
  afterWrite_keeps s w (·.ctx.gunit) (fun _ _ => rfl) fun s n => by simp only [Ctx.gunit, charge_ctx_upper, charge_ctx_unit]

theorem afterWrite_uws : (afterWrite s w).ctx.uws = s.ctx.uws :=
  afterWrite_keeps s w (·.ctx.uws) (fun _ _ => rfl) charge_ctx_uws

theorem afterWrite_latches : (afterWrite s w).ctx.latches = s.ctx.latches :=
  afterWrite_keeps s w (·.ctx.latches) (fun _ _ => rfl) charge_ctx_latches

theorem afterWrite_wins : (afterWrite s w).ctx.wins = s.ctx.wins :=
  afterWrite_keeps s w (·.ctx.wins) (fun _ _ => rfl) charge_ctx_wins

/-- R64: the flags of a write join FLG. -/
theorem afterWrite_r : (afterWrite s w).ctx.r = { s.ctx.r with flg := s.ctx.r.flg ||| BitVec.ofNat 6 w.flags } := by
  have h0 : w.flags = 0 → s.ctx.r = { s.ctx.r with flg := s.ctx.r.flg ||| BitVec.ofNat 6 w.flags } := fun h => by rw [h]; simp
  unfold afterWrite
  split
  case isTrue h => split <;> simpa using h0 h
  case isFalse => split <;> simp [orFlags]

end

/-- R338: a write whose commit is a write in the cycle, with no trap before it, is made with its flags and its charge. -/
theorem exec_unitWriteCommit_single {s : State} {e : Fin 3} {w : UWrite} {k : Cmd} (hs : s.ctx.status ≠ .handler)
    (hu : s.ctx.uws = [w]) (hd : w.due ≤ s.ctx.now) (he : w.eng = e) (hq : s.ctx.queue e = [k]) (hk : k.id = w.cmd)
    (hin : w.act.inCycle = true) (hfl : writeFlags s k w = w.flags)
    (hstop : writeStop s k w ((workReqs s s.ctx.now (.write w)).zip (arbitrate s.ctx.upper [] (workReqs s s.ctx.now (.write w)))) =
      none) :
    exec (.unitWriteCommit e.castSucc) s =
      .next (afterWrite ((writeEffect s k w).2 (s.up fun x => { x with uws := [] })) w) := by
  have hfin : (⟨e.castSucc.val, e.isLt⟩ : Fin 3) = e := rfl
  have hgroup : commitGroup s w = s := by
    unfold commitGroup
    split
    case h_1 heq _ => rw [heq] at hin; exact nomatch hin
    case h_2 => rfl
  have hbound : unitBoundary s e s.ctx.now = s := by
    have hone : s.ctx.uws.filter (fun w => w.eng == e && w.due ≤ s.ctx.now) = [w] := by rw [hu]; simp [he, hd]
    rw [unitBoundary, hone]
    exact hgroup
  have hone : (s.ctx.uws.filter fun w => w.eng == e && w.due ≤ s.ctx.now && w.act.inCycle) = [w] := by
    rw [hu]; simp [he, hd, hin]
  have hfind : findCmd s.ctx w.eng w.cmd = some k := by rw [findCmd, he, hq]; simp [hk]
  have hmem : s.ctx.uws.contains w = true := by rw [hu]; simp
  have herase : s.ctx.uws.erase w = [] := by rw [hu]; simp
  have hdo : ∀ l, writeStop s k w l = none → doWrite s s.ctx.now w l =
      afterWrite ((writeEffect s k w).2 (s.up fun x => { x with uws := [] })) w := by
    intro l hl
    have hup : (s.up fun x => { x with uws := x.uws.erase w }) = s.up fun x => { x with uws := [] } := by
      show { s with ctx := { s.ctx with uws := s.ctx.uws.erase w } } = _
      rw [herase]
      rfl
    simp only [doWrite, hfind, hmem, hl, hfl, hup]
    rfl
  show execUnitWriteCommit e.castSucc s = _
  simp only [execUnitWriteCommit, if_neg hs, Fin.val_castSucc, e.isLt, dite_true, hbound, hone, List.map_cons, List.map_nil,
    List.flatMap_cons, List.flatMap_nil, List.append_nil, splitWork, List.foldl_cons, List.foldl_nil, doWork]
  rw [hdo _ hstop]

/-- R84: a write whose requesters meet no bank. -/
theorem arbitrate_single {u : Bool} {r : Req} (h : r.meet u [] = none) : [r].zip (arbitrate u [] [r]) = [(r, none)] := by
  rw [arbitrate, h]
  rfl

end Sys2Proof.Proofs
end

section
/-! PROOF. Writes of accumulator cells, of elements and of queue words by a unit (O44). -/

namespace Sys2Proof.Proofs

open Sys2Proof.Machine
open Sys2Proof.Laws

/-! ## Accumulator cells (R27, R93) -/

/-- R93: the cells of a row written one after the other. -/
theorem accGet_accPut (s : State) (tile row col : Nat) (vs : List Nat) (tile' row' col' : Nat) :
    accGet (accPut s tile row col vs) tile' row' col' =
      if tile' = tile ∧ row' = row ∧ col ≤ col' ∧ col' < col + vs.length then vs.getD (col' - col) 0 % 2 ^ 48
      else accGet s tile' row' col' := by
  have hcells : accGet (((List.range vs.length).zip vs).foldl (fun s (k, v) => accSet s tile row (col + k) v) s) tile' row' col' =
      if tile' = tile ∧ row' = row ∧ col ≤ col' ∧ col' < col + vs.length then vs.getD (col' - col) 0 % 2 ^ 48
      else accGet s tile' row' col' := by
    induction vs using List.reverseRecOn with
    | nil => rw [if_neg fun h => absurd h.2.2.2 (by simpa using h.2.2.1)]; rfl
    | append_singleton vs v ih =>
      rw [List.length_append, List.length_singleton, List.range_succ, List.zip_append List.length_range, List.foldl_append]
      show accGet (accSet _ tile row (col + vs.length) v) tile' row' col' = _
      by_cases h : (tile', row', col') = (tile, row, col + vs.length)
      · obtain ⟨rfl, rfl, rfl⟩ : tile' = tile ∧ row' = row ∧ col' = col + vs.length := by simpa using h
        rw [accGet_accSet_same, if_pos ⟨rfl, rfl, by omega, by omega⟩, Nat.add_sub_cancel_left,
          List.getD_append_right _ _ _ _ le_rfl, Nat.sub_self]
        rfl
      · rw [accGet_accSet_ne _ _ h, ih]
        have hrange : (tile' = tile ∧ row' = row ∧ col ≤ col' ∧ col' < col + (vs.length + 1)) ↔
            (tile' = tile ∧ row' = row ∧ col ≤ col' ∧ col' < col + vs.length) := by
          simp only [Prod.mk.injEq] at h
          omega
        simp only [hrange]
        split
        case isTrue hin => rw [List.getD_append _ _ _ _ (by omega)]
        case isFalse => rfl
  exact (accGet_congr (by rfl) (by rfl) ..).trans hcells

theorem accPut_ctx (s : State) (tile row col : Nat) (vs : List Nat) : (accPut s tile row col vs).ctx = s.ctx :=
  foldl_keeps State.ctx (g := fun t (x : Nat × Nat) => accSet t tile row (col + x.1) x.2) (fun _ _ => rfl)
    ((List.range vs.length).zip vs) s

/-- R356: a write that names no scratchpad byte leaves no declaration. -/
theorem escapes_nil (s : State) (e : Fin 3) (wr : Bool) (free : Nat → Bool) (slot pos opnd : Nat) :
    escapes s e wr free [⟨slot, pos, opnd, []⟩] = none := by
  have hdecl : declEscape s.ctx e.val wr [] = none := by
    unfold declEscape
    split <;> rfl
  unfold escapes
  split
  · rfl
  · simp [hdecl]

/-- R27, R338: the commit of a unit's accumulator cells. -/
theorem exec_unitWriteCommit_cells {s : State} {w : UWrite} {k : Cmd} {tile row col : Nat} {vs : List Nat}
    (hs : s.ctx.status ≠ .handler) (hu : s.ctx.uws = [w]) (hd : w.due ≤ s.ctx.now) (he : w.eng = 1) (hq : s.ctx.xq = [k])
    (hk : k.id = w.cmd) (hact : w.act = .cells tile row col vs) : exec (.unitWriteCommit 1) s =
      .next (afterWrite (accPut (s.up fun x => { x with uws := [] }) tile row col vs) w) := by
  have hfind : findCmd s.ctx w.eng w.cmd = some k := by
    have hqueue : s.ctx.queue 1 = [k] := hq
    rw [findCmd, he, hqueue]
    simp [hk]
  have hkept : keptRanges s k.issue [] = [] := if_pos (.inr rfl)
  have hreads : writeReads k w = [] := by rw [writeReads, hact]
  have hreqs : workReqs s s.ctx.now (.write w) = [⟨slotOf w.eng, k.pos, w.opnd, []⟩] := by
    have hranges : writeRanges s k w = [] := by rw [writeRanges, hact]
    simp only [workReqs, hfind, hranges, hreads, hkept, List.append_nil]
  have heffect : writeEffect s k w = ([], fun s => accPut s tile row col vs) := by rw [writeEffect, hact]
  have hstop : writeStop s k w ((workReqs s s.ctx.now (.write w)).zip
      (arbitrate s.ctx.upper [] (workReqs s s.ctx.now (.write w)))) = none := by
    rw [hreqs, arbitrate_single (by rfl)]
    simp [writeStop, accessCauses, carryEscape, escapes_nil, heffect, hreads, firstCause]
  have hstep := exec_unitWriteCommit_single (e := 1) hs hu hd he hq hk (by rw [hact]; rfl) (by rw [writeFlags, hact]) hstop
  rw [heffect] at hstep
  exact hstep

/-! ## Scratchpad bytes (R88, R90, R106) -/

/-- What bytes say that agree at an address. -/
theorem overlay_eq_of_forall {cells : List (Nat × Byte)} {rd : Nat → Byte} {a : Nat} {b : Byte} (hin : ∃ y ∈ cells, y.1 = a)
    (h : ∀ y ∈ cells, y.1 = a → y.2 = b) : overlay cells rd a = b := by
  obtain ⟨y, hy, hya⟩ := hin
  obtain ⟨z, hz⟩ := Option.isSome_iff_exists.mp
    ((List.find?_isSome (p := fun y : Nat × Byte => y.1 == a)).mpr ⟨y, hy, beq_iff_eq.mpr hya⟩)
  rw [overlay, hz]
  exact h z (List.mem_of_find?_eq_some hz) (eq_of_beq (List.find?_some hz :))

/-- Bytes that name no address leave what stands there. -/
theorem overlay_eq_of_not_mem {cells : List (Nat × Byte)} {rd : Nat → Byte} {a : Nat} (h : ∀ y ∈ cells, y.1 ≠ a) :
    overlay cells rd a = rd a := by
  have hnone : cells.find? (fun y => y.1 == a) = none := by
    rw [List.find?_eq_none]
    exact fun y hy => by simpa using h y hy
  rw [overlay, hnone]
  rfl

/-- R14, R106: a sector written in a bound window of the live context at hand is dirty. -/
theorem mem_dirty_putSector {cells : List (Nat × Byte)} {s : State} {a : Nat} {v : Win} (hl : s.ctx.live = true)
    (hv : v ∈ s.ctx.wins) (hlo : v.base ≤ a) (hhi : a < v.base + v.len) :
    spadKey s.ctx.gunit a / 32 ∈ (putSector cells s (a / 32)).dirty := by
  have hsectors : sectorsOf (32 * (a / 32)) 32 = [a / 32] := by
    have h1 : (32 * (a / 32) + 32 - 1) / 32 - 32 * (a / 32) / 32 + 1 = 1 := by omega
    have h2 : 32 * (a / 32) / 32 = a / 32 := by omega
    rw [sectorsOf, if_neg (by decide), h1, h2]
    rfl
  have hkey : spadKey s.ctx.gunit 0 / 32 + a / 32 = spadKey s.ctx.gunit a / 32 := by simp only [spadKey]; omega
  have hwin : inWindow s.ctx (32 * (a / 32)) 32 = true := by
    refine List.any_eq_true.mpr ⟨v, hv, ?_⟩
    have hshare : max (32 * (a / 32)) v.base < min (32 * (a / 32) + 32) (v.base + v.len) := by omega
    simp only [overlap, List.flatMap_cons, List.flatMap_nil, List.append_nil, List.filterMap_cons, List.filterMap_nil, hshare,
      if_true]
    rfl
  have hany : (allCtx s).any (fun c => c.live && c.gunit == s.ctx.gunit && inWindow c (32 * (a / 32)) 32) = true :=
    List.any_eq_true.mpr ⟨s.ctx, List.mem_cons_self, by simp [hl, hwin]⟩
  show _ ∈ (sectorsOf (32 * (a / 32)) 32).foldl (fun d x =>
      if (allCtx s).any (fun c => c.live && c.gunit == s.ctx.gunit && inWindow c (32 * x) 32) ∧
        !(d.contains (spadKey s.ctx.gunit 0 / 32 + x)) then d ++ [spadKey s.ctx.gunit 0 / 32 + x] else d) s.dirty
  rw [hsectors, List.foldl_cons, List.foldl_nil, hany, hkey]
  by_cases hin : spadKey s.ctx.gunit a / 32 ∈ s.dirty
  · simp [hin]
  · simp [hin]

/-- R106: dirty bits stay with a further write. -/
theorem dirty_putSector_subset (cells : List (Nat × Byte)) (s : State) (k : Nat) : s.dirty ⊆ (putSector cells s k).dirty := by
  have hfold : ∀ (p : Nat → Prop) [DecidablePred p] (key : Nat → Nat) (l d : List Nat), d ⊆ l.foldl (fun d x =>
      if p x ∧ !(d.contains (key x)) then d ++ [key x] else d) d := by
    intro p _ key l
    induction l with
    | nil => exact fun d => List.Subset.refl d
    | cons x l ih =>
      intro d
      refine List.Subset.trans ?_ (ih _)
      dsimp only
      split
      · exact List.subset_append_left d [key x]
      · exact List.Subset.refl d
  exact hfold (fun x => (allCtx s).any (fun c => c.live && c.gunit == s.ctx.gunit && inWindow c (32 * x) 32) = true)
    (spadKey s.ctx.gunit 0 / 32 + ·) (sectorsOf (32 * k) 32) s.dirty

theorem dirty_putSectors_subset (cells : List (Nat × Byte)) (ks : List Nat) (s : State) :
    s.dirty ⊆ (ks.foldl (putSector cells) s).dirty := by
  induction ks generalizing s with
  | nil => exact List.Subset.refl _
  | cons k ks ih => exact List.Subset.trans (dirty_putSector_subset cells s k) (ih _)

/-- R106: every sector that a write of single bytes touches in a bound window is dirty. -/
theorem mem_dirty_putCells {cells : List (Nat × Byte)} {s : State} {y : Nat × Byte} {v : Win} (hy : y ∈ cells)
    (hl : s.ctx.live = true) (hv : v ∈ s.ctx.wins) (hlo : v.base ≤ y.1) (hhi : y.1 < v.base + v.len) :
    spadKey s.ctx.gunit y.1 / 32 ∈ (putCells s cells).dirty := by
  have hk : y.1 / 32 ∈ cellSectors cells := mem_dedup.mpr (List.mem_map.mpr ⟨y, hy, rfl⟩)
  obtain ⟨before, after, hsplit⟩ := List.append_of_mem hk
  have hctx : ∀ (ks : List Nat) (s : State), (ks.foldl (putSector cells) s).ctx = s.ctx := fun ks s =>
    foldl_keeps State.ctx (putSector_ctx cells) ks s
  rw [putCells_eq, hsplit, List.foldl_append, List.foldl_cons]
  refine dirty_putSectors_subset cells after _ ?_
  rw [← hctx before s] at hl hv ⊢
  exact mem_dirty_putSector hl hv hlo hhi

/-- R27, R90: a unit's write of single bytes, with its flags, leaves everything else of its context alone. -/
structure WritesCells (s t : State) (w : UWrite) (cells : List (Nat × Byte)) : Prop where
  uws : t.ctx.uws = []
  acc : t.acc = s.acc
  latches : t.ctx.latches = s.ctx.latches
  wins : t.ctx.wins = s.ctx.wins
  flags : t.ctx.r = { s.ctx.r with flg := s.ctx.r.flg ||| BitVec.ofNat 6 w.flags }
  gunit : t.ctx.gunit = s.ctx.gunit
  byte : ∀ x, memGet t.mem (spadKey s.ctx.gunit x) = overlay cells (spadByte s) x
  below : ∀ b, b < spadKey s.ctx.gunit 0 → memGet t.mem b = memGet s.mem b
  dirty : ∀ y ∈ cells, s.ctx.live = true → ∀ v ∈ s.ctx.wins, v.base ≤ y.1 → y.1 < v.base + v.len →
    spadKey s.ctx.gunit y.1 / 32 ∈ t.dirty

theorem writesCells_putCells {s u : State} (w : UWrite) (cells : List (Nat × Byte)) (hm : u.mem = s.mem) (ha : u.acc = s.acc)
    (hc : u.ctx = { s.ctx with uws := [] }) : WritesCells s (afterWrite (putCells u cells) w) w cells := by
  have hctx : (putCells u cells).ctx = u.ctx := putCells_keeps State.ctx (fun _ _ _ _ => rfl) u cells
  have hacc : (putCells u cells).acc = u.acc := putCells_keeps State.acc (fun _ _ _ _ => rfl) u cells
  have hunit : u.ctx.gunit = s.ctx.gunit := by rw [hc]; rfl
  have hbyte : spadByte u = spadByte s := by funext x; rw [spadByte, hm, hunit]; rfl
  refine ⟨?_, ?_, ?_, ?_, ?_, ?_, fun x => ?_, fun b hb => ?_, fun y hy hl v hv hlo hhi => ?_⟩
  · rw [afterWrite_uws, hctx, hc]
  · rw [afterWrite_acc, hacc, ha]
  · rw [afterWrite_latches, hctx, hc]
  · rw [afterWrite_wins, hctx, hc]
  · rw [afterWrite_r, hctx, hc]
  · rw [afterWrite_gunit, hctx, hunit]
  · rw [afterWrite_mem, ← hunit, memGet_putCells, hbyte]
  · rw [afterWrite_mem, memGet_putCells_below u cells (by rwa [hunit]), hm]
  · rw [afterWrite_dirty, ← hunit]
    exact mem_dirty_putCells hy (by rw [hc]; exact hl) (by rw [hc]; exact hv) hlo hhi

/-- A write of single bytes leaves every key that none of them has. -/
theorem WritesCells.keeps {s t : State} {w : UWrite} {cells : List (Nat × Byte)} (h : WritesCells s t w cells) {b : Nat}
    (hb : ∀ y ∈ cells, b ≠ spadKey s.ctx.gunit y.1) : memGet t.mem b = memGet s.mem b := by
  rcases Nat.lt_or_ge b (spadKey s.ctx.gunit 0) with hlt | hge
  · exact h.below b hlt
  · obtain ⟨x, rfl⟩ : ∃ x, b = spadKey s.ctx.gunit x := ⟨b - spadKey s.ctx.gunit 0, by simp only [spadKey] at hge ⊢; omega⟩
    rw [h.byte]
    exact overlay_eq_of_not_mem fun y hy hx => hb y hy (congrArg _ hx.symm)

/-! ## A unit's scratchpad write that nothing withholds (R90, R338, R356) -/

section
variable {s : State} {e : Fin 3} {w : UWrite} {k : Cmd}

/-- R338: a write of the only command of its engine, due, on a Lower unit in throughput mode with good codes, which meets no
bank. -/
structure PlainWrite (s : State) (e : Fin 3) (w : UWrite) (k : Cmd) : Prop where
  user : s.ctx.status ≠ .handler
  only : s.ctx.uws = [w]
  due : w.due ≤ s.ctx.now
  eng : w.eng = e
  queue : s.ctx.queue e = [k]
  id : k.id = w.cmd
  lower : s.ctx.upper = false
  throughput : s.ctx.hdr.det = false
  codes : s.synd = []
  banks : ∀ r ∈ workReqs s s.ctx.now (.write w), r.meet false [] = none

theorem unitCells_plain (h : PlainWrite s e w k) (opnd : Nat) (cells : List (Nat × Byte)) :
    unitCells s k opnd cells = ([], fun r => putCells r cells) := by
  have hkeep : keepCells s k.issue cells = cells := if_neg (by simp [h.lower])
  have hbad : badMerge s cells = none := by
    rw [badMerge, List.find?_eq_none]
    intro x _
    simp [spadSyn, synGet, h.codes]
  simp only [unitCells, hkeep, hbad]

/-- R90, R338: the step that makes a unit's scratchpad write. -/
theorem exec_plainWrite (h : PlainWrite s e w k) (hin : w.act.inCycle = true) (hfl : writeFlags s k w = w.flags)
    {f : State → State} (heffect : writeEffect s k w = ([], f)) : exec (.unitWriteCommit e.castSucc) s =
      .next (afterWrite (f (s.up fun x => { x with uws := [] })) w) := by
  have hfind : findCmd s.ctx w.eng w.cmd = some k := by rw [findCmd, h.eng, h.queue]; simp [h.id]
  obtain ⟨r, hreqs⟩ : ∃ r, workReqs s s.ctx.now (.write w) = [r] := by
    simp only [workReqs, hfind]
    exact ⟨_, rfl⟩
  have hmeet : r.meet false [] = none := h.banks r (by rw [hreqs]; exact List.mem_singleton_self r)
  have hesc : ∀ wr free rs, escapes s w.eng wr free rs = none := fun wr free rs => if_pos (by simp [h.throughput])
  have hstop : writeStop s k w ((workReqs s s.ctx.now (.write w)).zip
      (arbitrate s.ctx.upper [] (workReqs s s.ctx.now (.write w)))) = none := by
    rw [hreqs, h.lower, arbitrate_single hmeet]
    simp [writeStop, accessCauses, carryEscape, hesc, heffect, firstCause]
  have hstep := exec_unitWriteCommit_single h.user h.only h.due h.eng h.queue h.id hin hfl hstop
  rwa [heffect] at hstep

/-- R27: the step that writes elements. -/
theorem exec_write_elems (h : PlainWrite s e w k) {d : Shape} {l : List (Nat × Nat × Nat)} (hact : w.act = .elems d l) :
    ∃ t, exec (.unitWriteCommit e.castSucc) s = .next t ∧ WritesCells s t w (elemCells s d l) := by
  refine ⟨_, exec_plainWrite h (by rw [hact]; rfl) (by rw [writeFlags, hact]) (f := fun r => putCells r (elemCells s d l)) ?_,
    writesCells_putCells w _ rfl rfl rfl⟩
  rw [writeEffect, hact]
  exact unitCells_plain h _ _

/-- R237: the bytes of a push's elements, and of the TAIL that follows them. -/
def pushCells (s : State) (a : Nat) (es : List Nat) : List (Nat × Byte) :=
  ((List.range es.length).flatMap fun i => runCells ((readQ s a).slot ((readQ s a).tail + i))
    (leBytes (2 ^ (readQ s a).esize) (es.getD i 0))).reverse ++ runCells (a + 12) (leBytes 4 ((readQ s a).tail + es.length))

/-- R237: the step that pushes elements that fit. -/
theorem exec_write_push (h : PlainWrite s e w k) {es : List Nat} (hact : w.act = .push es)
    (hfit : (readQ s k.ga.toNat).count + es.length ≤ (readQ s k.ga.toNat).depth) :
    ∃ t, exec (.unitWriteCommit e.castSucc) s = .next t ∧ WritesCells s t w (pushCells s k.ga.toNat es) := by
  refine ⟨_, exec_plainWrite h (by rw [hact]; rfl) (by rw [writeFlags, hact])
    (f := fun r => putCells (noteQ r k.ga.toNat) (pushCells s k.ga.toNat es)) ?_, writesCells_putCells w _ rfl rfl rfl⟩
  have hroom : pushFull s k es.length = false := decide_eq_false (Nat.not_lt.mpr hfit)
  rw [writeEffect, hact]
  simp only [hroom]
  exact congrArg (noted k) (unitCells_plain h 4 (pushCells s k.ga.toNat es))

/-- R238: the step that moves HEAD on. -/
theorem exec_write_head (h : PlainWrite s e w k) {n : Nat} (hact : w.act = .head n) :
    ∃ t, exec (.unitWriteCommit e.castSucc) s = .next t ∧
      WritesCells s t w (runCells (k.ga.toNat + 8) (leBytes 4 ((readQ s k.ga.toNat).head + n))) := by
  refine ⟨_, exec_plainWrite h (by rw [hact]; rfl) (by rw [writeFlags, hact])
    (f := fun r => putCells (noteQ r k.ga.toNat) (runCells (k.ga.toNat + 8) (leBytes 4 ((readQ s k.ga.toNat).head + n)))) ?_,
    writesCells_putCells w _ rfl rfl rfl⟩
  rw [writeEffect, hact]
  exact congrArg (noted k) (unitCells_plain h 4 _)

end

end Sys2Proof.Proofs
end

section
/-! PROOF. The bytes of elements, of queue slots and of queue words that a unit writes (O44). -/

namespace Sys2Proof.Proofs

open Sys2Proof.Machine
open Sys2Proof.Laws

/-! ## The bytes of elements (R27) -/

/-- R27: the bytes that hold an element, or the one that it shares. -/
def elemSpan (h : Shape) : Nat := max 1 (fmtBits h.f / 8)

theorem elemBytes_wide {h : Shape} (hw : 8 ≤ fmtBits h.f) (cur : Nat → Byte) (r c v : Nat) : elemBytes cur h r c v =
    (List.range (fmtBits h.f / 8)).map fun i => ((h.elemAt r c).1 + i, BitVec.ofNat 8 (v / 2 ^ (8 * i))) :=
  if_neg (Nat.not_lt.mpr hw)

/-- R27: a byte with the bits of an element replaced. -/
def withField (old b n v : Nat) : Nat := old - old / 2 ^ b % 2 ^ n * 2 ^ b + v % 2 ^ n * 2 ^ b

theorem elemBytes_narrow {h : Shape} (hw : fmtBits h.f < 8) (cur : Nat → Byte) (r c v : Nat) : elemBytes cur h r c v =
    [((h.elemAt r c).1, BitVec.ofNat 8 (withField (cur (h.elemAt r c).1).toNat (h.elemAt r c).2 (fmtBits h.f) v))] :=
  if_pos hw

/-- R27: two elements of whole bytes share none. -/
def ElemsApart (h : Shape) (x y : Nat × Nat × Nat) : Prop :=
  (h.elemAt x.1 x.2.1).1 + fmtBits h.f / 8 ≤ (h.elemAt y.1 y.2.1).1 ∨
    (h.elemAt y.1 y.2.1).1 + fmtBits h.f / 8 ≤ (h.elemAt x.1 x.2.1).1

/-- R27: the addresses of an element's bytes. -/
theorem elemBytes_addresses (cur : Nat → Byte) (h : Shape) (r c v : Nat) :
    (elemBytes cur h r c v).map Prod.fst = (List.range (elemSpan h)).map ((h.elemAt r c).1 + ·) := by
  rcases Nat.lt_or_ge (fmtBits h.f) 8 with hw | hw
  · have hspan : elemSpan h = 1 := by rw [elemSpan, Nat.div_eq_of_lt hw]; rfl
    rw [elemBytes_narrow hw, hspan]
    rfl
  · have hspan : elemSpan h = fmtBits h.f / 8 := max_eq_right (by omega)
    rw [elemBytes_wide hw, hspan, List.map_map]
    rfl

theorem mem_elemCells_foldl (s : State) (h : Shape) (l : List (Nat × Nat × Nat)) (cells : List (Nat × Byte)) (y : Nat × Byte) :
    y ∈ l.foldl (fun cells (r, c, v) => (elemBytes (overlay cells (spadByte s)) h r c v).reverse ++ cells) cells →
      y ∈ cells ∨ ∃ x ∈ l, ∃ cur, y ∈ elemBytes cur h x.1 x.2.1 x.2.2 := by
  induction l generalizing cells with
  | nil => exact .inl
  | cons x l ih =>
    intro hy
    rcases ih _ hy with hy | ⟨z, hz, cur, hy⟩
    · rcases List.mem_append.mp hy with hy | hy
      · exact .inr ⟨x, List.mem_cons_self, _, List.mem_reverse.mp hy⟩
      · exact .inl hy
    · exact .inr ⟨z, List.mem_cons_of_mem x hz, cur, hy⟩

/-- R27: each byte of a write of elements is one of an element's. -/
theorem mem_elemCells {s : State} {h : Shape} {l : List (Nat × Nat × Nat)} {y : Nat × Byte} (hy : y ∈ elemCells s h l) :
    ∃ x ∈ l, ∃ cur, y ∈ elemBytes cur h x.1 x.2.1 x.2.2 :=
  (mem_elemCells_foldl s h l [] y hy).resolve_left List.not_mem_nil

/-- R27: the addresses of a write of elements. -/
theorem elemCells_addresses (s : State) (h : Shape) (l : List (Nat × Nat × Nat)) (a : Nat) :
    (∃ y ∈ elemCells s h l, y.1 = a) ↔ ∃ x ∈ l, ∃ i, i < elemSpan h ∧ a = (h.elemAt x.1 x.2.1).1 + i := by
  have hone : ∀ cur (x : Nat × Nat × Nat), (∃ y ∈ elemBytes cur h x.1 x.2.1 x.2.2, y.1 = a) ↔
      ∃ i, i < elemSpan h ∧ a = (h.elemAt x.1 x.2.1).1 + i := by
    intro cur x
    rw [← List.mem_map, elemBytes_addresses, List.mem_map]
    exact exists_congr fun i => by rw [List.mem_range, eq_comm]
  have hfold : ∀ (l : List (Nat × Nat × Nat)) (cells : List (Nat × Byte)),
      (∃ y ∈ l.foldl (fun cells (r, c, v) => (elemBytes (overlay cells (spadByte s)) h r c v).reverse ++ cells) cells,
        y.1 = a) ↔
        (∃ y ∈ cells, y.1 = a) ∨ ∃ x ∈ l, ∃ i, i < elemSpan h ∧ a = (h.elemAt x.1 x.2.1).1 + i := by
    intro l
    induction l with
    | nil => simp
    | cons x l ih =>
      intro cells
      rw [List.foldl_cons, ih]
      simp only [List.mem_append, List.mem_reverse, or_and_right, exists_or, hone, List.mem_cons, exists_eq_left]
      exact or_assoc.trans or_left_comm
  exact (hfold l []).trans (by simp)

section
variable {s t : State} {w : UWrite} {h : Shape} {l : List (Nat × Nat × Nat)} (hw : WritesCells s t w (elemCells s h l))
include hw

/-- R27: a write of elements leaves every key outside their bytes. -/
theorem WritesCells.elems_keeps {b : Nat} (hb : ∀ x ∈ l, b < spadKey s.ctx.gunit (h.elemAt x.1 x.2.1).1 ∨
    spadKey s.ctx.gunit (h.elemAt x.1 x.2.1).1 + elemSpan h ≤ b) : memGet t.mem b = memGet s.mem b := by
  refine hw.keeps fun y hy hyb => ?_
  obtain ⟨x, hx, i, hi, hyx⟩ := (elemCells_addresses s h l y.1).mp ⟨y, hy, rfl⟩
  have hkey := spadKey_add s.ctx.gunit (h.elemAt x.1 x.2.1).1 i
  rw [← hyx, ← hyb] at hkey
  have := hb x hx
  omega

/-- R106: the sectors of elements in bound windows are dirty. -/
theorem WritesCells.elems_dirty (hl : s.ctx.live = true) {x : Nat × Nat × Nat} (hx : x ∈ l) {v : Win} (hv : v ∈ s.ctx.wins)
    (hlo : v.base ≤ (h.elemAt x.1 x.2.1).1) (hhi : (h.elemAt x.1 x.2.1).1 < v.base + v.len) :
    spadKey s.ctx.gunit (h.elemAt x.1 x.2.1).1 / 32 ∈ t.dirty := by
  obtain ⟨y, hy, hyx⟩ := (elemCells_addresses s h l (h.elemAt x.1 x.2.1).1).mpr
    ⟨x, hx, 0, lt_of_lt_of_le Nat.one_pos (le_max_left _ _), (Nat.add_zero _).symm⟩
  rw [← hyx] at hlo hhi ⊢
  exact hw.dirty y hy hl v hv hlo hhi

/-- R27: elements of whole bytes that do not share bytes are written byte by byte. -/
theorem WritesCells.elems_wide (hn : 8 ≤ fmtBits h.f) (hdis : l.Pairwise (ElemsApart h))
    {x : Nat × Nat × Nat} (hx : x ∈ l) {i : Nat} (hi : i < fmtBits h.f / 8) :
    memGet t.mem (spadKey s.ctx.gunit (h.elemAt x.1 x.2.1).1 + i) = BitVec.ofNat 8 (x.2.2 / 2 ^ (8 * i)) := by
  rw [spadKey_add, hw.byte]
  refine overlay_eq_of_forall ((elemCells_addresses s h l _).mpr ⟨x, hx, i, lt_of_lt_of_le hi (le_max_right _ _), rfl⟩)
    fun y hy hya => ?_
  obtain ⟨z, hz, cur, hyz⟩ := mem_elemCells hy
  rw [elemBytes_wide hn, List.mem_map] at hyz
  obtain ⟨j, hj, rfl⟩ := hyz
  have hj : j < fmtBits h.f / 8 := List.mem_range.mp hj
  have hya : (h.elemAt z.1 z.2.1).1 + j = (h.elemAt x.1 x.2.1).1 + i := hya
  have hxz : z = x := by
    by_contra hne
    have hsymm : Std.Symm (ElemsApart h) := ⟨fun _ _ => Or.symm⟩
    have hapart : ElemsApart h z x := hdis.forall hz hx hne
    rw [ElemsApart] at hapart
    omega
  subst hxz
  have hij : j = i := by omega
  rw [hij]

end

/-! ## An element within a byte (R27) -/

/-- R27: a byte whose field was replaced, by its parts. -/
theorem withField_eq (old b n v : Nat) :
    withField old b n v = 2 ^ b * (2 ^ n * (old / 2 ^ b / 2 ^ n) + v % 2 ^ n) + old % 2 ^ b := by
  have h1 := Nat.div_add_mod old (2 ^ b)
  have h2 := Nat.div_add_mod (old / 2 ^ b) (2 ^ n)
  have hold : old = 2 ^ b * (2 ^ n * (old / 2 ^ b / 2 ^ n)) + old / 2 ^ b % 2 ^ n * 2 ^ b + old % 2 ^ b := by
    calc old = 2 ^ b * (2 ^ n * (old / 2 ^ b / 2 ^ n) + old / 2 ^ b % 2 ^ n) + old % 2 ^ b := by rw [h2, h1]
      _ = _ := by ring
  have hcleared : old - old / 2 ^ b % 2 ^ n * 2 ^ b = 2 ^ b * (2 ^ n * (old / 2 ^ b / 2 ^ n)) + old % 2 ^ b := by
    generalize 2 ^ b * (2 ^ n * (old / 2 ^ b / 2 ^ n)) = hi at hold ⊢
    generalize old / 2 ^ b % 2 ^ n * 2 ^ b = mid at hold ⊢
    omega
  rw [withField, hcleared]
  ring

theorem testBit_withField (old b n v i : Nat) : (withField old b n v).testBit i =
    if i < b then old.testBit i else if i < b + n then v.testBit (i - b) else old.testBit i := by
  rw [withField_eq, Nat.testBit_two_pow_mul_add _ (Nat.mod_lt _ (Nat.two_pow_pos b))]
  split
  case isTrue h => rw [Nat.testBit_mod_two_pow, decide_eq_true h, Bool.true_and]
  case isFalse h =>
    rw [Nat.testBit_two_pow_mul_add _ (Nat.mod_lt _ (Nat.two_pow_pos n))]
    by_cases hn : i - b < n
    · rw [if_pos hn, if_pos (by omega), Nat.testBit_mod_two_pow, decide_eq_true hn, Bool.true_and]
    · rw [if_neg hn, if_neg (by omega), Nat.testBit_div_two_pow, Nat.testBit_div_two_pow]
      congr 1
      omega

theorem withField_field (old b n v : Nat) : withField old b n v / 2 ^ b % 2 ^ n = v % 2 ^ n := by
  rw [withField_eq, Nat.mul_add_div (Nat.two_pow_pos b), Nat.div_eq_of_lt (Nat.mod_lt _ (Nat.two_pow_pos b)), Nat.add_zero,
    Nat.mul_add_mod, Nat.mod_mod]

/-- R27: a byte's field lies within the byte. -/
theorem withField_lt {old b n : Nat} (ho : old < 2 ^ 8) (hb : b + n ≤ 8) (v : Nat) : withField old b n v < 2 ^ 8 := by
  refine Nat.lt_pow_two_of_testBit _ fun i hi => ?_
  rw [testBit_withField, if_neg (by omega), if_neg (by omega)]
  exact Nat.testBit_lt_two_pow (lt_of_lt_of_le ho (Nat.pow_le_pow_right (by decide) hi))

/-- R27, R42: an element of fewer than eight bits lies in one byte. -/
theorem elemAt_narrow {h : Shape} (hw : fmtBits h.f < 8) (r c : Nat) : (h.elemAt r c).2 + fmtBits h.f ≤ 8 := by
  have hwidth : fmtBits h.f = 0 ∨ fmtBits h.f = 1 ∨ fmtBits h.f = 4 := by
    unfold fmtBits at hw ⊢
    split <;> simp_all
  obtain ⟨k, hk⟩ : ∃ k, (h.elemAt r c).2 = k * fmtBits h.f % 8 := ⟨_, rfl⟩
  rw [hk]
  rcases hwidth with hn | hn | hn <;> rw [hn] <;> omega

/-- R27: one element of fewer than eight bits: it is written, and no other bit of its byte changes. -/
theorem WritesCells.elem_narrow {s t : State} {w : UWrite} {h : Shape} {x : Nat × Nat × Nat}
    (hw : WritesCells s t w (elemCells s h [x])) (hn : fmtBits h.f < 8) :
    elemBits (spadByte t) h x.1 x.2.1 = x.2.2 % 2 ^ fmtBits h.f ∧
      ∀ i, i < 8 → (i < (h.elemAt x.1 x.2.1).2 ∨ (h.elemAt x.1 x.2.1).2 + fmtBits h.f ≤ i) →
        (memGet t.mem (spadKey s.ctx.gunit (h.elemAt x.1 x.2.1).1)).getLsbD i =
          (memGet s.mem (spadKey s.ctx.gunit (h.elemAt x.1 x.2.1).1)).getLsbD i := by
  have hcells : elemCells s h [x] = [((h.elemAt x.1 x.2.1).1, BitVec.ofNat 8
      (withField (spadByte s (h.elemAt x.1 x.2.1).1).toNat (h.elemAt x.1 x.2.1).2 (fmtBits h.f) x.2.2))] := by
    show (elemBytes _ h x.1 x.2.1 x.2.2).reverse ++ [] = _
    rw [elemBytes_narrow hn]
    rfl
  have hbyte : memGet t.mem (spadKey s.ctx.gunit (h.elemAt x.1 x.2.1).1) = BitVec.ofNat 8
      (withField (spadByte s (h.elemAt x.1 x.2.1).1).toNat (h.elemAt x.1 x.2.1).2 (fmtBits h.f) x.2.2) := by
    rw [hw.byte, hcells]
    simp [overlay]
  have hlt := withField_lt (spadByte s (h.elemAt x.1 x.2.1).1).isLt (elemAt_narrow hn x.1 x.2.1) x.2.2
  constructor
  · have hread : elemBits (spadByte t) h x.1 x.2.1 =
        (spadByte t (h.elemAt x.1 x.2.1).1).toNat / 2 ^ (h.elemAt x.1 x.2.1).2 % 2 ^ fmtBits h.f := if_pos hn
    have hspad : spadByte t (h.elemAt x.1 x.2.1).1 = memGet t.mem (spadKey s.ctx.gunit (h.elemAt x.1 x.2.1).1) := by
      rw [spadByte, hw.gunit]
    rw [hread, hspad, hbyte, BitVec.toNat_ofNat, Nat.mod_eq_of_lt hlt, withField_field]
  · intro i hi hout
    rw [hbyte, BitVec.getLsbD_ofNat, decide_eq_true hi, Bool.true_and, testBit_withField]
    split
    case isTrue => rfl
    case isFalse h1 => rw [if_neg (by omega)]; rfl

/-! ## Queue words and slots (R96, R98, R237, R238) -/

section
variable {s t : State} {w : UWrite} {cells : List (Nat × Byte)} (hw : WritesCells s t w cells)
include hw

/-- R5: bytes of a write that lie one after the other are read back. -/
theorem WritesCells.read_run {a : Nat} {bs : List Byte} (hin : ∀ i, i < bs.length → (a + i, bs.getD i 0) ∈ cells)
    (hall : ∀ y ∈ cells, ∀ i, i < bs.length → y.1 = a + i → y.2 = bs.getD i 0) :
    (∀ i, i < bs.length → memGet t.mem (spadKey s.ctx.gunit a + i) = bs.getD i 0) ∧ spadRead t a bs.length = bs := by
  have hbyte : ∀ i, i < bs.length → memGet t.mem (spadKey s.ctx.gunit a + i) = bs.getD i 0 := fun i hi => by
    rw [spadKey_add, hw.byte]
    exact overlay_eq_of_forall ⟨_, hin i hi, rfl⟩ fun y hy hya => hall y hy i hi hya
  refine ⟨hbyte, List.ext_getElem (by simp [spadRead]) fun i h1 h2 => ?_⟩
  have hi := hbyte i h2
  rw [List.getD_eq_getElem _ _ h2] at hi
  simpa [spadRead, memRead, hw.gunit] using hi

end

/-- R96: a field of four bytes written as a value. -/
theorem leNat_four (v : Nat) : leNat (leBytes 4 v) = v % 2 ^ 32 := leNat_leBytes 4 v

/-- R238: HEAD as it is written, and what its write leaves. -/
theorem WritesCells.head {s t : State} {w : UWrite} {a v : Nat} (hw : WritesCells s t w (runCells (a + 8) (leBytes 4 v))) :
    leNat (spadRead t (a + 8) 4) = v % 2 ^ 32 ∧
      ∀ b, (b < spadKey s.ctx.gunit (a + 8) ∨ spadKey s.ctx.gunit (a + 8) + 4 ≤ b) → memGet t.mem b = memGet s.mem b := by
  constructor
  · obtain ⟨-, hread⟩ := hw.read_run (a := a + 8) (bs := leBytes 4 v) (fun i hi => mem_runCells.mpr ⟨i, hi, rfl⟩)
      fun y hy i hi hyi => by
        obtain ⟨j, hj, rfl⟩ := mem_runCells.mp hy
        have hyi : a + 8 + j = a + 8 + i := hyi
        obtain rfl : j = i := by omega
        rfl
    rw [leBytes_length] at hread
    rw [hread, leNat_four]
  · intro b hb
    refine hw.keeps fun y hy hyb => ?_
    obtain ⟨j, hj, rfl⟩ := mem_runCells.mp hy
    rw [leBytes_length] at hj
    rw [← spadKey_add] at hyb
    omega

section
variable {s t : State} {w : UWrite} {a : Nat} {es : List Nat} (hw : WritesCells s t w (pushCells s a es))

/-- R96: the slot that element i of a push takes. -/
def pushSlot (s : State) (a i : Nat) : Nat := (readQ s a).slot ((readQ s a).tail + i)

/-- R96: the bytes of a slot. -/
def slotSize (s : State) (a : Nat) : Nat := 2 ^ (readQ s a).esize

theorem mem_pushCells {y : Nat × Byte} : y ∈ pushCells s a es ↔
    (∃ i, i < es.length ∧ ∃ b, b < slotSize s a ∧ y = (pushSlot s a i + b, BitVec.ofNat 8 (es.getD i 0 / 2 ^ (8 * b)))) ∨
      ∃ b, b < 4 ∧ y = (a + 12 + b, (leBytes 4 ((readQ s a).tail + es.length)).getD b 0) := by
  rw [pushCells, List.mem_append, List.mem_reverse, List.mem_flatMap, mem_runCells, leBytes_length]
  refine or_congr_left (exists_congr fun i => ?_)
  rw [List.mem_range, mem_runCells, leBytes_length]
  refine and_congr_right fun _ => exists_congr fun b => and_congr_right fun hb => ?_
  rw [getD_leBytes _ hb]
  rfl

include hw

/-- R237: a push leaves every key outside its slots and TAIL. -/
theorem WritesCells.push_keeps {b : Nat} (htail : b < spadKey s.ctx.gunit (a + 12) ∨ spadKey s.ctx.gunit (a + 12) + 4 ≤ b)
    (hslots : ∀ i, i < es.length → b < spadKey s.ctx.gunit (pushSlot s a i) ∨
      spadKey s.ctx.gunit (pushSlot s a i) + slotSize s a ≤ b) : memGet t.mem b = memGet s.mem b := by
  refine hw.keeps fun y hy hyb => ?_
  rcases mem_pushCells.mp hy with ⟨i, hi, j, hj, rfl⟩ | ⟨j, hj, rfl⟩
  · have := hslots i hi
    rw [← spadKey_add] at hyb
    omega
  · rw [← spadKey_add] at hyb
    omega

/-- R98, R237: a push whose slots lie apart from each other and from the control word. -/
theorem WritesCells.push (hdis : ∀ i j, i < j → j < es.length → pushSlot s a i + slotSize s a ≤ pushSlot s a j ∨
      pushSlot s a j + slotSize s a ≤ pushSlot s a i)
    (hword : ∀ i, i < es.length → pushSlot s a i + slotSize s a ≤ a ∨ a + 32 ≤ pushSlot s a i) :
    leNat (spadRead t (a + 12) 4) = ((readQ s a).tail + es.length) % 2 ^ 32 ∧
      ∀ i b, i < es.length → b < slotSize s a →
        memGet t.mem (spadKey s.ctx.gunit (pushSlot s a i) + b) = BitVec.ofNat 8 (es.getD i 0 / 2 ^ (8 * b)) := by
  constructor
  · obtain ⟨-, hread⟩ := hw.read_run (a := a + 12) (bs := leBytes 4 ((readQ s a).tail + es.length))
      (fun i hi => mem_pushCells.mpr (.inr ⟨i, by simpa using hi, rfl⟩)) fun y hy i hi hyi => by
        rw [leBytes_length] at hi
        rcases mem_pushCells.mp hy with ⟨j, hj, b, hb, rfl⟩ | ⟨b, hb, rfl⟩
        · have := hword j hj
          have hyi : pushSlot s a j + b = a + 12 + i := hyi
          omega
        · have hyi : a + 12 + b = a + 12 + i := hyi
          obtain rfl : b = i := by omega
          rfl
    rw [leBytes_length] at hread
    rw [hread, leNat_four]
  · intro i b hi hb
    rw [spadKey_add, hw.byte]
    refine overlay_eq_of_forall ⟨_, mem_pushCells.mpr (.inl ⟨i, hi, b, hb, rfl⟩), rfl⟩ fun y hy hyi => ?_
    rcases mem_pushCells.mp hy with ⟨j, hj, b', hb', rfl⟩ | ⟨b', hb', rfl⟩
    · have hyi : pushSlot s a j + b' = pushSlot s a i + b := hyi
      obtain rfl : j = i := by
        rcases lt_trichotomy i j with h | h | h
        · have := hdis i j h hj
          omega
        · exact h.symm
        · have := hdis j i h hi
          omega
      obtain rfl : b' = b := by omega
      rfl
    · have := hword i hi
      have hyi : a + 12 + b' = pushSlot s a i + b := hyi
      omega

end

end Sys2Proof.Proofs
end

section
/-! PROOF. The chunks of element-wise V commands, and what each element comes to (O44). -/

namespace Sys2Proof.Proofs

open Sys2Proof.Machine
open Sys2Proof.Laws

/-! ## What a unit of V leaves (R37, R217, R424) -/

/-- R35, R217: a unit of V leaves one write. -/
def LeavesWrite (c : Cmd) (p : Perf) (off : Nat) (act : UAct) (fl : Nat) : Prop :=
  ∃ w, p.uws = [w] ∧ w.eng = 0 ∧ w.cmd = c.id ∧ w.due = c.base + off ∧ w.act = act ∧ w.flags = fl

theorem leavesWrite_of_uw {c : Cmd} {p : Perf} {unit off opnd fl ch : Nat} {act : UAct} (he : c.op.eng = 0)
    (hp : p.uws = [c.uw unit off opnd act fl ch]) : LeavesWrite c p off act fl :=
  ⟨_, hp, he, rfl, rfl, rfl, rfl⟩

/-- R424: a write that names a byte is left with its flags and its charge. -/
theorem leave_of_nonempty {c : Cmd} {act : UAct} (unit off opnd fl ch : Nat) (h : act.empty = false) :
    c.leave unit off opnd act fl ch = ([c.uw unit off opnd act fl ch], 0) := by
  rw [Cmd.leave, h]
  rfl

/-- R424: a write that names no byte and raises no flag is not left. -/
theorem leave_of_empty {c : Cmd} {act : UAct} (unit off opnd ch : Nat) (h : act.empty = true) :
    c.leave unit off opnd act 0 ch = ([], ch) := by
  rw [Cmd.leave, h]
  rfl

/-! ## Element-wise chunks (R33, R216, R217) -/

/-- R33, R216: a position that no source's TRAP meets: it is skipped beyond a source whose EDGE is MASK; otherwise a source
beyond which it lies supplies a zero. -/
theorem posVals_of_no_trap {rd : Nat → Byte} {c : Cmd} {ks : List (Fin 4)} {r col : Nat}
    (h : ∀ k ∈ ks, (c.src k).beyond r col = true → (c.src k).edge ≠ 2) : posVals rd c ks r col =
      if (ks.any fun k => (c.src k).beyond r col && (c.src k).edge == 0) = true then .skip
      else .vals (ks.map fun k => if (c.src k).beyond r col = true then 0 else elemBits rd (c.src k) r col) := by
  have hnone : (ks.filter fun k => (c.src k).beyond r col).find? (fun k => (c.src k).edge == 2) = none := by
    rw [List.find?_eq_none]
    intro k hk
    obtain ⟨hmem, hbeyond⟩ := List.mem_filter.mp hk
    simpa using h k hmem hbeyond
  rw [← List.any_filter]
  simp only [posVals, hnone]

/-- R64, R217: an entry of a position that has a result. -/
def laneEntry (idx col : Nat) (x : Res) (rank : Nat) : List Nat := [1, idx, col, x.bits, x.fl, rank]

/-- R36, R64: the run of entries that are all results. -/
theorem chunkRun_entries (r : Nat) (idx : Nat → Nat) (val : Nat → Res) (rank : Nat → Nat) (cols : List Nat) :
    (chunkRun r (cols.map fun col => laneEntry (idx col) col (val col) (rank col))).out =
        cols.map (fun col => (r, col, (val col).bits)) ∧
      (chunkRun r (cols.map fun col => laneEntry (idx col) col (val col) (rank col))).fl =
        (cols.map fun col => (val col).fl).foldl (· ||| ·) 0 := by
  induction cols using List.reverseRecOn with
  | nil => exact ⟨rfl, rfl⟩
  | append_singleton cols col ih =>
    obtain ⟨hout, hfl⟩ := ih
    have hstep : ∀ l, (chunkRun r (l ++ [laneEntry (idx col) col (val col) (rank col)])).out =
        (chunkRun r l).out ++ [(r, col, (val col).bits)] ∧
        (chunkRun r (l ++ [laneEntry (idx col) col (val col) (rank col)])).fl = (chunkRun r l).fl ||| (val col).fl := by
      intro l
      rw [chunkRun, List.foldl_append]
      exact ⟨rfl, rfl⟩
    rw [List.map_append, List.map_singleton, (hstep _).1, (hstep _).2, hout, hfl, List.map_append, List.map_append,
      List.foldl_append]
    exact ⟨rfl, rfl⟩

/-- R216: the columns of a span. -/
def spanCols (lo hi : Nat) : List Nat := (List.range (hi - lo)).map (lo + ·)

/-- R33, R216: the elements that a position of an element-wise command reads. -/
def sourceVals (rd : Nat → Byte) (c : Cmd) (r col : Nat) : List Nat :=
  c.reads.map fun j => if (c.src j).beyond r col = true then 0 else elemBits rd (c.src j) r col

/-- R33: a position that no source's MASK keeps from the result. -/
def keptCol (c : Cmd) (r col : Nat) : Bool := !(c.reads.any fun j => (c.src j).beyond r col && (c.src j).edge == 0)

/-- R216: the entries of a lane that no TRAP meets. -/
theorem elemLane_eq {s : State} {c : Cmd} {cols r lo hi : Nat}
    (h : ∀ j ∈ c.reads, ∀ col ∈ spanCols lo hi, (c.src j).beyond r col = true → (c.src j).edge ≠ 2) :
    elemLane s c c.reads cols r lo hi = ((spanCols lo hi).filter (keptCol c r)).map fun col =>
      let x := c.compute s.ctx (r * cols + col) (sourceVals (spadByte s) c r col)
      laneEntry (r * cols + col) col x (((resHit c.fen (r * cols + col) x).map (·.rank)).getD 0) := by
  rw [← List.filterMap_eq_map, ← List.filterMap_eq_filter, List.filterMap_filterMap, spanCols, List.filterMap_map, elemLane]
  refine List.filterMap_congr fun i hi => ?_
  have hpos := posVals_of_no_trap (rd := spadByte s) (c := c) (r := r) (col := lo + i) fun k hk => h k hk (lo + i)
    (List.mem_map.mpr ⟨i, hi, rfl⟩)
  simp only [hpos, Function.comp_apply, Option.guard]
  by_cases hskip : (c.reads.any fun k => (c.src k).beyond r (lo + i) && (c.src k).edge == 0) = true
  · have hkept : keptCol c r (lo + i) = false := by rw [keptCol, hskip]; rfl
    simp only [if_pos hskip, hkept]
    rfl
  · have hkept : keptCol c r (lo + i) = true := by rw [keptCol, Bool.eq_false_iff.mpr hskip]; rfl
    simp only [if_neg hskip, hkept]
    rfl

/-- R33, R217: the write of a chunk of an element-wise command. -/
theorem leavesWrite_elem {s : State} {c : Cmd} {i : Nat} {op : EOp} {sc : Bool} (hop : c.op = .elem op sc)
    (hq : c.op.quad = false) {r lo hi : Nat} (hspan : c.span i = (r, lo, hi))
    (h : ∀ j ∈ c.reads, ∀ col ∈ spanCols lo hi, (c.src j).beyond r col = true → (c.src j).edge ≠ 2)
    (hkept : (spanCols lo hi).filter (keptCol c r) ≠ []) :
    let val := fun col => c.compute s.ctx (r * c.chunkGeo.2.2 + col) (sourceVals (spadByte s) c r col)
    LeavesWrite c (vPerform s c i none) (6 + i)
      (.elems (c.sh 0) (((spanCols lo hi).filter (keptCol c r)).map fun col => (r, col, (val col).bits)))
      ((((spanCols lo hi).filter (keptCol c r)).map fun col => (val col).fl).foldl (· ||| ·) 0) := by
  intro val
  have hperform : vPerform s c i none = elemUnit s c i none := by simp only [vPerform, hop]
  have hoff : c.writeOff i = 6 + i := by
    rw [hop] at hq
    simp only [Cmd.writeOff, hop, hq]
    rfl
  obtain ⟨hout, hfl⟩ := chunkRun_entries r (fun col => r * c.chunkGeo.2.2 + col) val
    (fun col => ((resHit c.fen (r * c.chunkGeo.2.2 + col) (val col)).map (·.rank)).getD 0) ((spanCols lo hi).filter (keptCol c r))
  have hlane := elemLane_eq (s := s) (cols := c.chunkGeo.2.2) h
  have huws : (elemUnit s c i none).uws = (c.leave i (c.writeOff i) 0 (.elems (c.sh 0)
      (chunkRun r (elemLane s c c.reads c.chunkGeo.2.2 r lo hi)).out)
      (chunkRun r (elemLane s c c.reads c.chunkGeo.2.2 r lo hi)).fl (vCharge s c)).1 := by
    simp only [elemUnit, hspan]
    rfl
  refine leavesWrite_of_uw (by rw [hop]; rfl) (unit := i) (opnd := 0) (ch := vCharge s c) ?_
  rw [hperform, huws, hlane, hoff]
  rw [leave_of_nonempty]
  · rw [← hout, ← hfl]
  · show List.isEmpty _ = false
    rw [hout]
    simpa using hkept

/-! ## What an element comes to (R220, R225, R232) -/

section
variable {c : Cmd} {op : EOp} {sc : Bool} (hop : c.op = .elem op sc)
include hop

theorem compute_fill (hf : op = .fill) (x : Ctx) (idx : Nat) (vs : List Nat) :
    c.compute x idx vs = .plain (c.ga.toNat % 2 ^ fmtBits (c.sh 0).f) := by
  simp only [Cmd.compute, hop, hf, if_true]

/-- R220: an operation of three tiles. -/
def EOp.ternary (op : EOp) : Prop := op = .bfi ∨ op = .fshl ∨ op = .fshr ∨ op = .fma ∨ op = .fms ∨ op = .sel

theorem compute_tiles (hf : op ≠ .fill) (hs : sc = false) (x : Ctx) (idx a b d : Nat) :
    let el := elemOp op (c.sh 1).f (c.sh 0).f c.mode (modeOf x c.mode idx c.issue 2)
    c.compute x idx [a] = el a 0 0 ∧ c.compute x idx [a, b] = el a b 0 ∧
      (EOp.ternary op → c.compute x idx [a, b, d] = el a b d) := by
  refine ⟨?_, ?_, fun h3 => ?_⟩
  · simp only [Cmd.compute, hop, hf, hs, if_false, Bool.false_eq_true]
    split <;> rfl
  · simp only [Cmd.compute, hop, hf, hs, if_false, Bool.false_eq_true]
    split <;> rfl
  · rw [EOp.ternary] at h3
    simp only [Cmd.compute, hop, hf, hs, if_false, Bool.false_eq_true, h3, if_true]
    rfl

theorem compute_scalar (hf : op ≠ .fill) (hs : sc = true) (x : Ctx) (idx a d : Nat) :
    let k := c.ga.toNat % 2 ^ fmtBits (c.sh 1).f
    let el := elemOp op (c.sh 1).f (c.sh 0).f c.mode (modeOf x c.mode idx c.issue 2)
    c.compute x idx [a] = el a k 0 ∧ c.compute x idx [a, d] = el a k d := by
  simp only [Cmd.compute, hop, hf, hs, if_false, if_true]
  exact ⟨rfl, rfl⟩

/-- R216: an operation that reads three tiles is one of three operands. -/
theorem ternary_of_reads (hs : sc = false) (h : c.reads = [1, 2, 3]) : EOp.ternary op := by
  have hreads : eReads op false = [1, 2, 3] := by rwa [Cmd.reads, hop, hs] at h
  cases op <;> simp [eReads, EOp.ternary] at hreads ⊢

end

/-- R232: VTRAN reads its source transposed. -/
theorem elemBits_transposed (rd : Nat → Byte) (h : Shape) (r col : Nat) :
    elemBits rd { h with t := !h.t } r col = elemBits rd h col r := by
  have hat : Shape.elemAt { h with t := !h.t } r col = h.elemAt col r := by
    unfold Shape.elemAt
    cases h.t <;> rfl
  rw [elemBits, elemBits, hat]
  rfl

end Sys2Proof.Proofs
end

section
/-! PROOF. Gathers, scatters and queue commands of V: the elements that their units leave (O44). -/

namespace Sys2Proof.Proofs

open Sys2Proof.Machine
open Sys2Proof.Laws

/-! ## Gathers and scatters (R230, R231) -/

/-- R424: what is left to be written is the act that was told. -/
theorem act_of_leave {c : Cmd} {unit off opnd fl ch : Nat} {act act' : UAct}
    (h : (c.leave unit off opnd act fl ch).1.map (·.act) = [act']) : act' = act := by
  unfold Cmd.leave at h
  split at h
  · split at h
    · exact nomatch h
    · exact (List.singleton_inj.mp h).symm
  · exact (List.singleton_inj.mp h).symm

theorem mem_range_zip {xs : List Nat} {k x : Nat} (h : xs[k]? = some x) : (k, x) ∈ (List.range xs.length).zip xs :=
  List.mem_iff_getElem?.mpr ⟨k, (List.getElem?_zip_eq_some (z := (k, x))).mpr
    ⟨List.getElem?_range (List.getElem?_eq_some_iff.mp h).1, h⟩⟩

/-- R230: what one index of a lane gathers. -/
def gatherOne (s : State) (h : Shape) (r at_ : Nat) (kx : Nat × Nat) : Option (Nat × Nat × Nat) :=
  if kx.2 = 0 then none
  else if kx.2 > h.lr * h.lc then (if h.edge = 1 then some (r, at_ + kx.1, 0) else none)
  else some (r, at_ + kx.1, elemBits (spadByte s) h ((kx.2 - 1) / h.lc) ((kx.2 - 1) % h.lc))

/-- R230: an element that a chunk's earlier lanes have gathered, as they keep it. -/
def gatheredElem (e : List Nat) : Nat × Nat × Nat := (e.getD 1 0, e.getD 2 0, e.getD 3 0)

/-- R230: the elements that the last lane of a gathered chunk leaves. -/
theorem gatherData_elems {s : State} {c : Cmd} {i : Nat} {xs : List Nat} {es : List (Nat × Nat × Nat)}
    (h : (gatherData s c (i :: 3 :: xs)).uws.map (·.act) = [.elems (c.sh 0) es]) :
    es = (c.buf.filter fun e : List Nat => e.headD 9 == 1).map gatheredElem ++ ((List.range xs.length).zip xs).filterMap
      (gatherOne s (c.sh 1) (c.span i).1 (laneSpan c.chunkGeo.1 (c.span i).2.1 (c.span i).2.2 3).1) := by
  have hes : es = ((c.buf.filter fun e : List Nat => e.headD 9 == 1) ++ (((List.range xs.length).zip xs).filterMap
      (gatherOne s (c.sh 1) (c.span i).1 (laneSpan c.chunkGeo.1 (c.span i).2.1 (c.span i).2.2 3).1)).map
        fun (r, k, v) => [1, r, k, v]).map gatheredElem := (UAct.elems.inj (act_of_leave h)).2
  rw [hes, List.map_append, List.map_map]
  exact congrArg _ (List.map_id _)

/-- R231: the elements that the positions of a lane of VSCAT put, with their targets in order. -/
def scatPairs (s : State) (c : Cmd) (r n : Nat) (cols : List Nat) : List (Nat × Nat) := cols.filterMap fun col =>
  match posVals (spadByte s) c [1, 2] r col with
  | .vals [v, t] => if t < n then some (t, v) else none
  | _ => none

/-- R216: a position of two sources has two elements, where it has any. -/
theorem posVals_two {rd : Nat → Byte} {c : Cmd} {r col : Nat} {l : List Nat} (h : posVals rd c [1, 2] r col = .vals l) :
    ∃ v t, l = [v, t] := by
  unfold posVals at h
  dsimp only at h
  split at h
  · exact nomatch h
  · split at h
    · exact nomatch h
    · exact ⟨_, _, (Pos.vals.inj h).symm⟩

/-- R231: a target and an element as VSCAT keeps them. -/
def scatPair (e : List Nat) : Nat × Nat := (e.getD 0 0, e.getD 1 0)

/-- R231: what a lane adds to what VSCAT keeps. -/
theorem scatter_new (s : State) (c : Cmd) (r n l k : Nat) :
    ((((List.range k).map fun k => (l + k, posVals (spadByte s) c [1, 2] r (l + k))).filterMap fun (_, p) =>
      match p with
      | .vals v => if v.getD 1 0 < n then some [v.getD 1 0, v.getD 0 0] else none
      | _ => none).map scatPair) = scatPairs s c r n ((List.range k).map (l + ·)) := by
  rw [List.filterMap_map, List.map_filterMap, scatPairs, List.filterMap_map]
  refine List.filterMap_congr fun x _ => ?_
  simp only [Function.comp_apply]
  cases hp : posVals (spadByte s) c [1, 2] r (l + x) with
  | trap reg => rfl
  | skip => rfl
  | vals vs =>
    obtain ⟨v, t, rfl⟩ := posVals_two hp
    show Option.map scatPair (if t < n then some [t, v] else none) = if t < n then some (t, v) else none
    split <;> rfl

/-- R231: the elements of targets that the last of each target's pairs puts. -/
def scatElems (h : Shape) (pairs : List (List Nat)) : List (Nat × Nat × Nat) :=
  (dedup (pairs.reverse.map fun e => e.getD 0 0)).map fun k =>
    (k / h.lc, k % h.lc, ((pairs.reverse.find? fun e => e.getD 0 0 == k).getD []).getD 1 0)

/-- R231: the elements that the last lane of a scattered chunk leaves. -/
theorem scatterUnit_elems {s : State} {c : Cmd} {i : Nat} {es : List (Nat × Nat × Nat)}
    (h : (scatterUnit s c i 3).uws.map (·.act) = [.elems (c.sh 0) es]) :
    ∃ pairs : List (List Nat), es = scatElems (c.sh 0) pairs ∧ pairs.map scatPair = c.buf.map scatPair ++
      scatPairs s c (c.span i).1 ((c.sh 0).lr * (c.sh 0).lc)
        (spanCols (laneSpan c.chunkGeo.1 (c.span i).2.1 (c.span i).2.2 3).1
          (laneSpan c.chunkGeo.1 (c.span i).2.1 (c.span i).2.2 3).2) := by
  refine ⟨_, (UAct.elems.inj (act_of_leave h)).2, ?_⟩
  rw [List.map_append, if_neg (by decide)]
  exact congrArg _ (scatter_new ..)

/-- R231: each element is one of the pairs. -/
theorem mem_scatElems {h : Shape} {pairs : List (List Nat)} {x : Nat × Nat × Nat} (hx : x ∈ scatElems h pairs) :
    ∃ t v, (t, v) ∈ pairs.map scatPair ∧ x = (t / h.lc, t % h.lc, v) := by
  obtain ⟨k, hk, rfl⟩ := List.mem_map.mp hx
  obtain ⟨e, he, hek⟩ := List.mem_map.mp (mem_dedup.mp hk)
  obtain ⟨z, hz⟩ := Option.isSome_iff_exists.mp
    ((List.find?_isSome (p := fun e : List Nat => e.getD 0 0 == k)).mpr ⟨e, he, beq_iff_eq.mpr hek⟩)
  have hzk : z.getD 0 0 = k := eq_of_beq (List.find?_some hz :)
  refine ⟨k, z.getD 1 0, List.mem_map.mpr ⟨z, List.mem_reverse.mp (List.mem_of_find?_eq_some hz), ?_⟩, by rw [hz]; rfl⟩
  rw [scatPair, hzk]

/-- R231: of several pairs for one target the last stays. -/
theorem scatElems_last {h : Shape} {pairs : List (List Nat)} {pre post : List (Nat × Nat)} {t v : Nat}
    (hp : pairs.map scatPair = pre ++ (t, v) :: post) (hpost : ∀ y ∈ post, y.1 ≠ t) :
    (t / h.lc, t % h.lc, v) ∈ scatElems h pairs := by
  obtain ⟨before, rest, rfl, hpre, hrest⟩ := List.map_eq_append_iff.mp hp
  obtain ⟨e, after, rfl, he, hafter⟩ := List.map_eq_cons_iff.mp hrest
  obtain ⟨het, hev⟩ := Prod.mk.inj he
  refine List.mem_map.mpr ⟨t, mem_dedup.mpr (List.mem_map.mpr ⟨e, by simp, het⟩), ?_⟩
  have hnone : after.reverse.find? (fun e => e.getD 0 0 == t) = none := by
    rw [List.find?_eq_none]
    intro y hy
    have hyt : (scatPair y).1 ≠ t := hpost _ (hafter ▸ List.mem_map_of_mem (List.mem_reverse.mp hy))
    simpa [scatPair] using hyt
  have hfind : (before ++ e :: after).reverse.find? (fun e => e.getD 0 0 == t) = some e := by
    rw [List.reverse_append, List.reverse_cons, List.append_assoc, List.find?_append, hnone, Option.none_or]
    exact List.find?_cons_of_pos (beq_iff_eq.mpr het)
  rw [hfind]
  exact congrArg (fun v => (t / h.lc, t % h.lc, v)) hev

/-! ## Queue commands (R96, R237, R238) -/

/-- R237: the columns of a chunk whose mask bit is 1. -/
def pushedCols (s : State) (c : Cmd) (r lo hi : Nat) : List Nat :=
  (spanCols lo hi).filter fun col => !(c.sh 2).beyond r col && elemBits (spadByte s) (c.sh 2) r col == 1

/-- R237: what a chunk of VPUSH leaves. -/
theorem pushUnit_uws {s : State} {c : Cmd} {i r lo hi : Nat} (hspan : c.span i = (r, lo, hi)) :
    (pushUnit s c i).uws = (c.leave i (6 + i) 4 (.push ((pushedCols s c r lo hi).map fun col =>
      elemBits (spadByte s) (c.sh 1) r col)) 0 (vCharge s c)).1 := by
  have hcols : (spanCols lo hi).filter (fun col =>
      (if (c.sh 2).beyond r col = true then 0 else elemBits (spadByte s) (c.sh 2) r col) == 1) = pushedCols s c r lo hi := by
    refine List.filter_congr fun col _ => ?_
    cases (c.sh 2).beyond r col <;> rfl
  simp only [pushUnit, hspan]
  rw [← hcols]
  rfl

theorem leavesWrite_push {s : State} {c : Cmd} {i r lo hi : Nat} (hop : c.op = .push) (hspan : c.span i = (r, lo, hi)) :
    (pushedCols s c r lo hi ≠ [] → LeavesWrite c (vPerform s c i none) (6 + i)
      (.push ((pushedCols s c r lo hi).map fun col => elemBits (spadByte s) (c.sh 1) r col)) 0) ∧
    (pushedCols s c r lo hi = [] → (vPerform s c i none).uws = []) := by
  have huws := pushUnit_uws (s := s) hspan
  have hperform : vPerform s c i none = pushUnit s c i := by simp only [vPerform, hop]
  rw [hperform]
  constructor
  · intro hne
    refine leavesWrite_of_uw (by rw [hop]; rfl) (huws.trans (congrArg Prod.fst (leave_of_nonempty i (6 + i) 4 0 (vCharge s c) ?_)))
    show List.isEmpty _ = false
    simpa using hne
  · intro he
    rw [huws, he, leave_of_empty]
    rfl

theorem leavesWrite_qcnt {s : State} {c : Cmd} (i : Nat) (hop : c.op = .qcnt) :
    LeavesWrite c (vPerform s c i none) 2 (.gb c.dst (BitVec.ofNat 64 (readQ s c.ga.toNat).count)) 0 := by
  have hperform : vPerform s c i none = countUnit s c := by simp only [vPerform, hop]
  rw [hperform]
  exact leavesWrite_of_uw (by rw [hop]; rfl) rfl

/-- R238: how many elements a VPOP that starts takes. -/
def popTake (s : State) (c : Cmd) : Nat := min (readQ s c.ga.toNat).count ((c.sh 0).lr * (c.sh 0).lc)

/-- R96, R238: the element of the queue that a position takes. -/
def poppedElem (s : State) (c : Cmd) (e : Nat) : Nat :=
  leNat (spadRead s ((readQ s c.ga.toNat).slot ((readQ s c.ga.toNat).head + e)) (2 ^ (readQ s c.ga.toNat).esize))

/-- R238: the elements of chunk j of VPOP. -/
def popElems (s : State) (c : Cmd) (j : Nat) : List (Nat × Nat × Nat) :=
  (List.range ((c.span j).2.2 - (c.span j).2.1)).filterMap fun x =>
    if (c.span j).1 * c.chunkGeo.2.2 + (c.span j).2.1 + x < popTake s c then
      some ((c.span j).1, (c.span j).2.1 + x, poppedElem s c ((c.span j).1 * c.chunkGeo.2.2 + (c.span j).2.1 + x))
    else none

theorem mem_popElems {s : State} {c : Cmd} {j : Nat} {x : Nat × Nat × Nat} : x ∈ popElems s c j ↔
    x.1 = (c.span j).1 ∧ (c.span j).2.1 ≤ x.2.1 ∧ x.2.1 < (c.span j).2.2 ∧
      x.1 * c.chunkGeo.2.2 + x.2.1 < popTake s c ∧ x.2.2 = poppedElem s c (x.1 * c.chunkGeo.2.2 + x.2.1) := by
  obtain ⟨r, col, v⟩ := x
  simp only [popElems, List.mem_filterMap, List.mem_range, Option.ite_none_right_eq_some, Option.some.injEq, Prod.mk.injEq]
  constructor
  · rintro ⟨k, hk, hn, rfl, rfl, rfl⟩
    rw [← Nat.add_assoc]
    exact ⟨rfl, Nat.le_add_right _ _, by omega, hn, rfl⟩
  · rintro ⟨rfl, hlo, hhi, hn, rfl⟩
    have hcol : (c.span j).1 * c.chunkGeo.2.2 + (c.span j).2.1 + (col - (c.span j).2.1) =
        (c.span j).1 * c.chunkGeo.2.2 + col := by omega
    exact ⟨col - (c.span j).2.1, by omega, by rwa [hcol], rfl, by omega, by rw [hcol]⟩

/-- R238: the writes of the chunks of VPOP. -/
def popWrites (s : State) (c : Cmd) (j : Nat) : List UWrite :=
  (c.leave j (6 + j) 0 (.elems (c.sh 0) (popElems s c j)) 0 (if j + 1 = c.chunks then 0 else vCharge s c)).1

/-- R238: what a VPOP that starts leaves: its chunks' elements, HEAD and gb. -/
theorem vPerform_pop {s : State} {c : Cmd} (i : Nat) (hop : c.op = .pop) (hreqs : c.reqs = 0) (hrp : c.rp = 0) :
    (vPerform s c i none).uws = (List.range c.chunks).flatMap (popWrites s c) ++
      [c.uw (c.chunks - 1) (5 + c.chunks) 4 (.head (popTake s c)) 0 (vCharge s c),
        c.uw (c.chunks - 1) (5 + c.chunks) 4 (.gb c.dst (BitVec.ofNat 64 (popTake s c))) 0 0] := by
  have hperform : vPerform s c i none = popUnit s c := by simp only [vPerform, hop]
  have hcount : popCount s c = popTake s c := if_pos hreqs
  have hall : (List.range c.chunks).filter (fun i => decide (i ≥ c.rp)) = List.range c.chunks := by
    rw [hrp]
    exact List.filter_eq_self.mpr fun i _ => by simp
  rw [hperform]
  simp only [popUnit, hcount, hall, List.flatMap_map]
  rfl

/-- R424: the writes of a chunk are of its elements. -/
theorem mem_popWrites {s : State} {c : Cmd} {j : Nat} {w : UWrite} (hw : w ∈ popWrites s c j) :
    w.due = c.base + (6 + j) ∧ w.act = .elems (c.sh 0) (popElems s c j) := by
  unfold popWrites Cmd.leave at hw
  split at hw
  · split at hw
    · exact absurd hw List.not_mem_nil
    · obtain rfl := List.mem_singleton.mp hw
      exact ⟨rfl, rfl⟩
  · obtain rfl := List.mem_singleton.mp hw
    exact ⟨rfl, rfl⟩

/-- R424: a chunk that takes an element leaves a write. -/
theorem exists_mem_popWrites {s : State} {c : Cmd} {j : Nat} (h : popElems s c j ≠ []) :
    ∃ w ∈ popWrites s c j, w.act = .elems (c.sh 0) (popElems s c j) := by
  have hne : (UAct.elems (c.sh 0) (popElems s c j)).empty = false := by
    show List.isEmpty _ = false
    simpa using h
  rw [popWrites, leave_of_nonempty _ _ _ _ _ hne]
  exact ⟨_, List.mem_singleton_self _, rfl⟩

/-- R229, R238: the result of a group of VARGMAX: the winner over its place. -/
theorem groupResult_argmax {c : Cmd} {a : Axis} (hop : c.op = .argmax a) (s : State) (g : Nat) (xs : List (Nat × Nat)) :
    (groupResult s c g xs).1 = (argmaxGroup (c.sh 1).f (xs.map (·.1))).1 * 2 ^ 32 +
      (c.ga.toNat + (argmaxGroup (c.sh 1).f (xs.map (·.1))).2) % 2 ^ 32 := by
  simp only [groupResult, hop]

end Sys2Proof.Proofs
end

section
/-! PROOF. The running sums of VSCAN (O44). -/

namespace Sys2Proof.Proofs

open Sys2Proof.Machine
open Sys2Proof.Laws

/-! ## A chain of sums (R235) -/

/-- R235: what one element of VSCAN comes to, after the carry that stands before it, if there is one. -/
def scanAt (s : State) (c : Cmd) (r lo : Nat) (carry : Option Nat) (k v : Nat) : Res :=
  let f := (c.sh 0).f
  match carry with
  | none => if fmtIsFloat f then
      (match fpDecode f v with | .nan g _ => nanRes f (if g then flNV else 0) g | _ => .plain v) else .plain v
  | some y => elemOp .add f f 0 (modeOf s.ctx c.mode (r * c.chunkGeo.2.2 + lo + k) c.issue 2) y v 0

/-- R235: the carry before a chunk. -/
def scanStart (s : State) (c : Cmd) (r lo : Nat) : Option Nat :=
  if lo = 0 then none else some (elemBits (spadByte s) (c.sh 0) r (lo - 1))

/-- R235: one element of a chunk, with its place; 0 is a position that VSCAN skips. -/
def scanStep (s : State) (c : Cmd) (r lo : Nat) (a : Run × Option Nat) (kx : Nat × Nat) : Run × Option Nat :=
  if kx.2 = 0 then a
  else
    let res := scanAt s c r lo a.2 kx.1 (kx.2 - 1)
    ({ a.1 with
        out := a.1.out ++ [(r, lo + kx.1, res.bits)], fl := a.1.fl ||| res.fl
        hits := a.1.hits ++ (if fpTraps c.fen res then [⟨5, r * c.chunkGeo.2.2 + lo + kx.1, res.fl⟩] else []) }, some res.bits)

/-- R235: a chunk as it stands after some of its elements. -/
def scanRun (s : State) (c : Cmd) (r lo : Nat) (xs : List Nat) : Run × Option Nat :=
  ((List.range xs.length).zip xs).foldl (scanStep s c r lo) (⟨[], 0, none, []⟩, scanStart s c r lo)

theorem scanSums_eq (s : State) (c : Cmd) (r lo : Nat) (xs : List Nat) : scanSums s c r lo xs = (scanRun s c r lo xs).1 := by
  have hstep : ∀ a kx, scanStep s c r lo a kx = (fun (a : Run × Option Nat) (k, x) =>
      if x = 0 then a
      else
        let res := match a.2 with
          | none => if fmtIsFloat (c.sh 0).f then
              (match fpDecode (c.sh 0).f (x - 1) with
                | .nan g _ => nanRes (c.sh 0).f (if g then flNV else 0) g | _ => .plain (x - 1)) else .plain (x - 1)
          | some y => elemOp .add (c.sh 0).f (c.sh 0).f 0 (modeOf s.ctx c.mode (r * c.chunkGeo.2.2 + lo + k) c.issue 2) y
              (x - 1) 0
        ({ a.1 with
            out := a.1.out ++ [(r, lo + k, res.bits)], fl := a.1.fl ||| res.fl
            hits := a.1.hits ++ (if fpTraps c.fen res then [⟨5, r * c.chunkGeo.2.2 + lo + k, res.fl⟩] else []) },
          some res.bits)) a kx := fun _ _ => rfl
  exact congrArg (fun step => (((List.range xs.length).zip xs).foldl step
    ((⟨[], 0, none, []⟩ : Run), scanStart s c r lo)).1) (funext fun a => funext fun kx => (hstep a kx).symm)

/-- R235: the carry before element k of a chunk. -/
def carryAt (start : Option Nat) (out : List (Nat × Nat × Nat)) : Nat → Option Nat
  | 0 => start
  | k + 1 => out[k]?.map (·.2.2)

theorem carryAt_append (start : Option Nat) {out : List (Nat × Nat × Nat)} (z : List (Nat × Nat × Nat)) {k : Nat}
    (h : k ≤ out.length) : carryAt start (out ++ z) k = carryAt start out k := by
  cases k with
  | zero => rfl
  | succ k => rw [carryAt, carryAt, List.getElem?_append_left h]

/-- R235: each element of a chunk without skipped positions is summed with the carry that the one before it leaves. -/
theorem scanRun_spec (s : State) (c : Cmd) (r lo : Nat) {xs : List Nat} (h : ∀ x ∈ xs, x ≠ 0) :
    let out := (scanRun s c r lo xs).1.out
    out.length = xs.length ∧ (scanRun s c r lo xs).2 = carryAt (scanStart s c r lo) out xs.length ∧
      ∀ k x, xs[k]? = some x →
        out[k]? = some (r, lo + k, (scanAt s c r lo (carryAt (scanStart s c r lo) out k) k (x - 1)).bits) := by
  induction xs using List.reverseRecOn with
  | nil => exact ⟨rfl, rfl, fun k x hx => nomatch hx⟩
  | append_singleton xs x ih =>
    obtain ⟨hxs, hx⟩ := List.forall_mem_append.mp h
    have hx0 : x ≠ 0 := hx x (List.mem_singleton_self x)
    obtain ⟨hlen, hcarry, hall⟩ := ih hxs
    have hrun : scanRun s c r lo (xs ++ [x]) = scanStep s c r lo (scanRun s c r lo xs) (xs.length, x) := by
      rw [scanRun, List.length_append, List.length_singleton, List.range_succ, List.zip_append List.length_range,
        List.foldl_append]
      rfl
    have hout : (scanRun s c r lo (xs ++ [x])).1.out = (scanRun s c r lo xs).1.out ++ [(r, lo + xs.length,
        (scanAt s c r lo (carryAt (scanStart s c r lo) (scanRun s c r lo xs).1.out xs.length) xs.length (x - 1)).bits)] := by
      rw [hrun, scanStep, if_neg hx0, hcarry]
    have hlast : (scanRun s c r lo (xs ++ [x])).2 = some
        (scanAt s c r lo (carryAt (scanStart s c r lo) (scanRun s c r lo xs).1.out xs.length) xs.length (x - 1)).bits := by
      rw [hrun, scanStep, if_neg hx0, hcarry]
    rw [hout, hlast]
    refine ⟨by rw [List.length_append, List.length_append, hlen]; rfl, ?_, fun k y hy => ?_⟩
    · rw [List.length_append, List.length_singleton, carryAt, ← hlen, List.getElem?_concat_length]
      rfl
    · have hk : k < xs.length + 1 := by simpa using (List.getElem?_eq_some_iff.mp hy).1
      rw [carryAt_append _ _ (by omega)]
      rcases Nat.lt_succ_iff_lt_or_eq.mp hk with hlt | rfl
      · rw [List.getElem?_append_left hlt] at hy
        rw [List.getElem?_append_left (by rwa [hlen]), hall k y hy]
      · rw [List.getElem?_concat_length] at hy
        obtain rfl := Option.some.inj hy
        rw [← hlen, List.getElem?_concat_length]

/-! ## Integer and floating sums (R75, R235) -/

/-- R43: what the bits of an integer format denote, up to a multiple of the width's power. -/
theorem dvd_intDecode_sub (f b : Nat) : (2 ^ fmtBits f : Int) ∣ intDecode f b - b := by
  have hmod : (2 ^ fmtBits f : Int) ∣ ((b % 2 ^ fmtBits f : Nat) : Int) - b := by
    rw [Int.natCast_mod]
    push_cast
    exact (Int.mod_modEq (b : Int) (2 ^ fmtBits f)).symm.dvd
  simp only [intDecode]
  split
  · rw [sub_right_comm]
    exact dvd_sub_self_right.mpr hmod
  · exact hmod

theorem dvd_intDecode_wrapBits (f : Nat) (v : Int) : (2 ^ fmtBits f : Int) ∣ intDecode f (wrapBits (fmtBits f) v) - v := by
  have h := dvd_add (dvd_intDecode_sub f (wrapBits (fmtBits f) v)) (Int.dvd_of_emod_eq_zero (wrapBits_sub_emod (fmtBits f) v))
  rwa [sub_add_sub_cancel] at h

section
variable {s : State} {c : Cmd} {r lo : Nat}

theorem scanAt_some_int (hf : fmtIsInt (c.sh 0).f = true) (y k v : Nat) : (scanAt s c r lo (some y) k v).bits =
    wrapBits (fmtBits (c.sh 0).f) (intDecode (c.sh 0).f y + intDecode (c.sh 0).f v) := by
  simp only [scanAt, elemOp, hf, intRes]
  rfl

theorem scanAt_none_int (hf : fmtIsInt (c.sh 0).f = true) (k v : Nat) : (scanAt s c r lo none k v).bits = v := by
  have hfloat : ¬fmtIsFloat (c.sh 0).f = true := fun h => not_fmtIsInt_of_float h hf
  simp only [scanAt, if_neg hfloat]
  rfl

theorem scanAt_some_float (hf : fmtIsInt (c.sh 0).f = false) (y k v : Nat) : scanAt s c r lo (some y) k v =
    fpAdd (c.sh 0).f (modeOf s.ctx c.mode (r * c.chunkGeo.2.2 + lo + k) c.issue 2) (fpDecode (c.sh 0).f y)
      (fpDecode (c.sh 0).f v) := by
  simp only [scanAt, elemOp, hf]
  rfl

theorem scanAt_none_float (hf : fmtF (c.sh 0).f = true) (k v : Nat) :
    (scanAt s c r lo none k v).bits = quieted (c.sh 0).f v := by
  have hfloat : fmtIsFloat (c.sh 0).f = true := by
    have := fmtF_cases hf
    simp only [fmtIsFloat, Bool.and_eq_true, decide_eq_true_eq]
    omega
  simp only [scanAt, if_pos hfloat]
  cases hv : fpDecode (c.sh 0).f v with
  | nan g n => exact (quieted_of_nan ⟨g, n, hv⟩).symm
  | inf n => exact (quieted_of_not_nan (x := v) (by rw [hv]; exact not_isNan_inf n)).symm
  | fin n m e => exact (quieted_of_not_nan (x := v) (by rw [hv]; exact not_isNan_fin n m e)).symm

/-- R235: the integer that stands before a chunk. -/
def scanBase (s : State) (c : Cmd) (r lo : Nat) : Int :=
  if lo = 0 then 0 else intDecode (c.sh 0).f (elemBits (spadByte s) (c.sh 0) r (lo - 1))

/-- R75, R235: the integer sums of a chunk wrap. -/
theorem scanRun_int (hf : fmtIsInt (c.sh 0).f = true) {xs : List Nat}
    (h : ∀ x ∈ xs, 0 < x ∧ x ≤ 2 ^ fmtBits (c.sh 0).f) (k : Nat) {y : Nat × Nat × Nat}
    (hy : (scanRun s c r lo xs).1.out[k]? = some y) : y.2.2 < 2 ^ fmtBits (c.sh 0).f ∧
      (2 ^ fmtBits (c.sh 0).f : Int) ∣ intDecode (c.sh 0).f y.2.2 -
        (scanBase s c r lo + ((xs.take (k + 1)).map fun x => intDecode (c.sh 0).f (x - 1)).sum) := by
  obtain ⟨hlen, -, hall⟩ := scanRun_spec s c r lo fun x hx => (h x hx).1.ne'
  induction k generalizing y with
  | zero =>
    obtain ⟨x, hx⟩ : ∃ x, xs[0]? = some x :=
      ⟨_, List.getElem?_eq_getElem (hlen ▸ (List.getElem?_eq_some_iff.mp hy).1)⟩
    obtain rfl := Option.some.inj (hy.symm.trans (hall 0 x hx))
    obtain ⟨hpos, hle⟩ := h x (List.mem_of_getElem? hx)
    have htake : xs.take (0 + 1) = [x] := by rw [List.take_add_one, hx]; rfl
    rw [htake, List.map_singleton, List.sum_singleton, carryAt, scanStart, scanBase]
    by_cases hlo : lo = 0
    · rw [if_pos hlo, if_pos hlo, scanAt_none_int hf, zero_add, sub_self]
      exact ⟨Nat.sub_one_lt_of_le hpos hle, dvd_zero _⟩
    · rw [if_neg hlo, if_neg hlo, scanAt_some_int hf]
      exact ⟨wrapBits_lt _ _, dvd_intDecode_wrapBits _ _⟩
  | succ k ih =>
    have hk : k + 1 < xs.length := hlen ▸ (List.getElem?_eq_some_iff.mp hy).1
    obtain ⟨x, hx⟩ : ∃ x, xs[k + 1]? = some x := ⟨_, List.getElem?_eq_getElem hk⟩
    obtain ⟨z, hz⟩ : ∃ z, (scanRun s c r lo xs).1.out[k]? = some z := ⟨_, List.getElem?_eq_getElem (by omega)⟩
    obtain rfl := Option.some.inj (hy.symm.trans (hall (k + 1) x hx))
    obtain ⟨-, hprev⟩ := ih hz
    rw [carryAt, hz, Option.map_some, scanAt_some_int hf, List.take_add_one, hx, Option.toList_some, List.map_append,
      List.sum_append, List.map_singleton, List.sum_singleton]
    refine ⟨wrapBits_lt _ _, ?_⟩
    have hsum := dvd_add (dvd_intDecode_wrapBits (c.sh 0).f (intDecode (c.sh 0).f z.2.2 + intDecode (c.sh 0).f (x - 1))) hprev
    rw [show ∀ a b p q z : Int, a - (b + (p + q)) = a - (z + q) + (z - (b + p)) by intros; ring]
    exact hsum

end

end Sys2Proof.Proofs
end

section
/-! PROOF. Commands start, and their units write elements, queue slots and accumulator cells (O44). -/

namespace Sys2Proof.Proofs

open Sys2Proof.Machine
open Sys2Proof.Laws

/-- Settles O44: each clause is the lemma about the start, the unit or the group that it speaks of. -/
theorem engineSteps : Obligations.EngineSteps := by
  unfold Obligations.EngineSteps
  refine ⟨?starts, ?cells, ?writes, ?units, ?sums, ?extremes, ?digits, ?rows⟩
  case starts =>
    intro s e k q hs hq hstate hfreed hnom hrest run
    have hk : starter s.ctx e s.ctx.now = some k := starter_head hq hstate hfreed hnom fun x hx => (hrest x hx).1
    have hmiss : ∀ a, missed s k = some a → run = _ := fun a hm => (exec_commandStart_head hs hk).trans (startOutcome_of_some e hm)
    refine ⟨fun hm => ?_, fun a hm hdet => ?_, fun a hm hdet => ?_⟩
    · obtain ⟨t, ht, hhead, hkeep⟩ := exec_commandStart_started hs hk hq (fun x hx => (hrest x hx).2) hm
      exact ⟨t, started s.ctx k, ht, hhead, rfl, started_base_of_new, started_base_of_begun, hkeep⟩
    · rw [hmiss a hm, if_neg (by simp [hdet])]
      exact ⟨startTrap e k a, rfl, rfl, rfl, rfl⟩
    · rw [hmiss a hm, if_pos hdet]
      exact ⟨_, rfl, rfl, rfl, hq, rfl, rfl, rfl, rfl⟩
  case cells =>
    intro s w k tile row col vs hs hu hd he hq hk hact
    have hget : ∀ i r c, accGet (afterWrite (accPut (s.up fun x => { x with uws := [] }) tile row col vs) w) i r c =
        if i = tile ∧ r = row ∧ col ≤ c ∧ c < col + vs.length then vs.getD (c - col) 0 % 2 ^ 48 else accGet s i r c :=
      fun i r c => (accGet_congr (afterWrite_acc _ w) (afterWrite_src _ w) i r c).trans (accGet_accPut ..)
    refine ⟨_, exec_unitWriteCommit_cells hs hu hd he hq hk hact, ?_, ?_, ?_, ?_, fun j hj => ?_, fun i r c hout => ?_⟩
    · rw [afterWrite_uws, accPut_ctx]
      rfl
    · rw [afterWrite_mem, accPut_mem]
      rfl
    · rw [afterWrite_latches, accPut_ctx]
      rfl
    · rw [afterWrite_r, accPut_ctx]
      rfl
    · rw [hget, if_pos ⟨rfl, rfl, by omega, by omega⟩, Nat.add_sub_cancel_left]
    · rw [hget, if_neg (by omega)]
  case writes =>
    intro s e w k hs hu hd he hq hk hlow hdet hsynd hbanks key a q size slot made field keeps
    have hplain : PlainWrite s e w k := ⟨hs, hu, hd, he, hq, hk, hlow, hdet, hsynd, hbanks⟩
    have hmade : ∀ {cells t} {P : State → Prop}, exec (.unitWriteCommit e.castSucc) s = .next t → WritesCells s t w cells →
        P t → made P := fun ht hw hP => ⟨_, ht, hw.uws, hw.acc, hw.latches, hw.wins, hw.flags, hP⟩
    refine ⟨fun h l hact => ?_, fun es hact hfit hdis hword => ?_, fun n hact => ?_⟩
    · obtain ⟨t, ht, hw⟩ := exec_write_elems hplain hact
      refine hmade ht hw ⟨fun b hb => hw.elems_keeps fun x hx => hb _ (List.mem_map_of_mem hx),
        fun hn hapart x hx i hi => hw.elems_wide hn hapart hx hi, fun x hn hl => ?_,
        fun hl _ x hx v hv hlo hhi => hw.elems_dirty hl hx hv hlo hhi⟩
      subst hl
      exact hw.elem_narrow hn
    · obtain ⟨t, ht, hw⟩ := exec_write_push hplain hact hfit
      obtain ⟨htail, hslots⟩ := hw.push hdis hword
      exact hmade ht hw ⟨htail, fun b hb => hw.push_keeps (hb _ List.mem_cons_self)
        fun i hi => hb _ (List.mem_cons_of_mem _ (List.mem_map.mpr ⟨i, List.mem_range.mpr hi, rfl⟩)), hslots⟩
    · obtain ⟨t, ht, hw⟩ := exec_write_head hplain hact
      obtain ⟨hhead, hkeep⟩ := hw.head
      exact hmade ht hw ⟨hhead, fun b hb => hkeep b (hb _ (List.mem_singleton_self _))⟩
  case units =>
    intro s c i r lo hi cols row rd leaves
    refine ⟨?elem, ?compute, ?fill, ?tran, ?gath, ?scat, ?push, ?pop, fun hop => leavesWrite_qcnt i hop, ?scan,
      fun xs g a hop => groupResult_argmax hop s g xs⟩
    case elem =>
      intro op sc hop hq out val kept hedge hkept
      exact leavesWrite_elem hop hq rfl hedge hkept
    case compute =>
      intro op sc x idx a b d hop hf
      refine ⟨fun hs => ?_, fun hs => ?_⟩
      · obtain ⟨h1, h2, h3⟩ := compute_tiles hop hf hs x idx a b d
        exact ⟨fun _ => h1, fun _ => h2, fun h => h3 (ternary_of_reads hop hs h)⟩
      · obtain ⟨h1, h2⟩ := compute_scalar hop hf hs x idx a d
        exact ⟨fun _ => h1, fun _ => h2⟩
    case fill => exact fun sc x idx hop => compute_fill hop rfl x idx []
    case tran =>
      intro sc r col hop
      have hsrc : c.src 1 = { c.sh 1 with t := !(c.sh 1).t } := by simp only [Cmd.src, hop, if_true]
      rw [hsrc]
      exact elemBits_transposed rd (c.sh 1) r col
    case gath =>
      intro hop hedge xs es hxs hact h at_
      rw [gatherData_elems hact]
      have hgathered : ∀ k x z, xs[k]? = some x → gatherOne s h r at_ (k, x) = some z → z ∈
          (c.buf.filter fun e : List Nat => e.headD 9 == 1).map gatheredElem ++
            ((List.range xs.length).zip xs).filterMap (gatherOne s h r at_) := fun k x z hx hz =>
        List.mem_append_right _ (List.mem_filterMap.mpr ⟨(k, x), mem_range_zip hx, hz⟩)
      refine ⟨fun k x hx hlt => hgathered k _ _ hx ?_, fun hz k x hx hge => hgathered k _ _ hx ?_,
        fun e he htag => List.mem_append_left _
          (List.mem_map.mpr ⟨e, List.mem_filter.mpr ⟨he, beq_iff_eq.mpr htag⟩, rfl⟩)⟩
      · exact (if_neg (Nat.succ_ne_zero x)).trans (if_neg (by simpa using hlt))
      · exact (if_neg (Nat.succ_ne_zero x)).trans ((if_pos (Nat.lt_succ_of_le hge)).trans (if_pos hz))
    case scat =>
      intro hop es hact d lane here pairs
      obtain ⟨ps, rfl, hps⟩ := scatterUnit_elems hact
      have hps : ps.map scatPair = pairs := hps
      rw [← hps]
      exact ⟨fun x hx => mem_scatElems hx, fun pre t v post hp hpost => scatElems_last hp hpost⟩
    case push => exact fun hop _ => leavesWrite_push hop rfl
    case pop =>
      intro hop hreqs hrp q n ws put
      have hws : ws = _ := vPerform_pop i hop hreqs hrp
      rw [hws]
      refine ⟨fun w hw => ?_, ⟨_, List.mem_append_right _ List.mem_cons_self, rfl⟩,
        ⟨_, List.mem_append_right _ (List.mem_cons_of_mem _ (List.mem_singleton_self _)), rfl⟩, fun j col hj hlo hhi hn => ?_⟩
      · rcases List.mem_append.mp hw with hw | hw
        · obtain ⟨j, hj, hw⟩ := List.mem_flatMap.mp hw
          obtain ⟨hdue, hact⟩ := mem_popWrites hw
          exact .inr ⟨j, _, List.mem_range.mp hj, by rw [hdue, Nat.add_assoc], hact, fun x hx => mem_popElems.mp hx⟩
        · refine .inl ?_
          rcases List.mem_pair.mp hw with rfl | rfl
          · exact ⟨(Nat.add_assoc ..).symm, .inl rfl⟩
          · exact ⟨(Nat.add_assoc ..).symm, .inr rfl⟩
      · have hx : ((c.span j).1, col, poppedElem s c ((c.span j).1 * cols + col)) ∈ popElems s c j :=
          mem_popElems.mpr ⟨rfl, hlo, hhi, hn, rfl⟩
        obtain ⟨w, hw, hact⟩ := exists_mem_popWrites (List.ne_nil_of_mem hx)
        exact ⟨w, List.mem_append_left _ (List.mem_flatMap.mpr ⟨j, List.mem_range.mpr hj, hw⟩), _, hact, hx⟩
    case scan =>
      intro r lo xs d out md hxs
      have hout : out = (scanRun s c r lo xs).1.out := congrArg Run.out (scanSums_eq s c r lo xs)
      obtain ⟨hlen, -, hall⟩ := scanRun_spec s c r lo fun x hx => (hxs x hx).1.ne'
      rw [hout]
      refine ⟨hlen, fun k y hy => ?_, fun hf k y hy => ?_, fun hf => ⟨fun k y z x hy hz hx => ?_, fun y x hlo hy hx => ?_,
        fun y x hlo hy hx hF => ?_⟩⟩
      · obtain ⟨x, hx⟩ : ∃ x, xs[k]? = some x :=
          ⟨_, List.getElem?_eq_getElem (hlen ▸ (List.getElem?_eq_some_iff.mp hy).1)⟩
        obtain rfl := Option.some.inj (hy.symm.trans (hall k x hx))
        exact ⟨rfl, rfl⟩
      · obtain ⟨hlt, hdvd⟩ := scanRun_int hf hxs k hy
        exact ⟨hlt, Int.emod_eq_zero_of_dvd hdvd⟩
      · obtain rfl := Option.some.inj (hz.symm.trans (hall (k + 1) x hx))
        rw [carryAt, hy]
        exact congrArg Res.bits (scanAt_some_float hf ..)
      · obtain rfl := Option.some.inj (hy.symm.trans (hall 0 x hx))
        rw [carryAt, scanStart, if_neg hlo]
        exact congrArg Res.bits (scanAt_some_float hf ..)
      · obtain rfl := Option.some.inj (hy.symm.trans (hall 0 x hx))
        rw [carryAt, scanStart, if_pos hlo, scanAt_none_float hF]
        exact ⟨quieted_of_not_nan, quieted_of_nan⟩
  case sums =>
    intro f m fen xs ys sum w dec
    refine ⟨fun hf => ?_, fun hf => ⟨fun k hx hy => sumGroup_append hf m fen hx hy,
      fun k n h2 hlo hn => sumGroup_pad hf m fen h2 hlo hn, fun x => ?_⟩⟩
    · have hsum : sum xs = _ := sumGroup_int hf (fun _ => m) fen xs
      rw [hsum]
      exact ⟨wrapBits_lt _ _, Int.emod_eq_zero_of_dvd (dvd_intDecode_wrapBits f _), rfl⟩
    · obtain ⟨hbits, hzero, hsig⟩ := sumGroup_single hf (fun _ => m) fen x
      exact ⟨fun hn => ⟨hbits.trans (quieted_of_not_nan hn), hzero hn⟩,
        fun hn => ⟨hbits.trans (quieted_of_nan hn), hsig hn⟩⟩
  case extremes =>
    intro hi f fen x xs ext
    refine ⟨fun hf => extremeGroup_int_spec hf hi fen x xs, fun hf => ⟨fun hn => ?_, fun hn => ?_,
      fun y => extremeGroup_append hf hi fen x y xs⟩, fun _ vs hvs _ => argmaxGroup_spec f hvs,
      fun a b => ⟨fun hf => if_pos hf, ?_⟩⟩
    · exact (extremeGroup_single hf hi fen x).trans (quieted_of_not_nan hn)
    · exact (extremeGroup_single hf hi fen x).trans (quieted_of_nan hn)
    · rintro rfl A B
      have hf : ¬fmtIsInt 11 = true := by decide
      exact ⟨fun ha => (ranksAbove_nan hf ha).1, fun ha => (ranksAbove_nan hf ha).2, ranksAbove_finite hf, by decide⟩
  case digits =>
    intro n ea a row hn _ ds total
    obtain ⟨hlen, hdigits⟩ := splitDigits_digits n ea a
    have htotal : total = digitSum ds.reverse := by
      have hsum := sum_weights ds.reverse
      rwa [List.length_reverse, List.reverse_reverse, hlen] at hsum
    refine ⟨hlen, hdigits, fun ha => ?_, fun ha => ?_, fun hl => splitEa_of_small hl, fun hl => ?_⟩
    · simp only [mul_assoc (2 : Rat)]
      rw [htotal]
      exact splitDigits_value ea hn ha
    · have hd := splitDigits_of_not_finite n ea ha
      exact ⟨congrArg Prod.fst hd, congrArg Prod.snd hd⟩
    · obtain ⟨hall, x, hx, hmax⟩ := splitEa_of_large hl
      refine ⟨fun x hx => (abs_lt.mp (hall x hx)).symm, x, hx, ?_⟩
      exact (le_abs.mp hmax).imp_right le_neg.mp
  case rows =>
    intro s c i d acc cell leaves flags
    exact ⟨fun hop hi => leavesRow_accz hop hi, fun hop hi => leavesRow_accn hop hi,
      fun hop hi hbuf hin => leavesRow_accx hop hi hbuf hin⟩

end Sys2Proof.Proofs
end

section
/-! PROOF. The records of a frame: latches, commands, and zeros beyond them; and how far a frame reaches (O34). -/

namespace Sys2Proof.Proofs

open Sys2Proof.Machine
open Sys2Proof.Laws

/-! ## Records of one width, zeros beyond them -/

/-- The entries of a list, each a record of w dwords, and zeros up to n dwords. -/
def zeroPadded {α : Type} (f : α → List Nat) (w n : Nat) (l : List α) : List Nat :=
  l.flatMap f ++ List.replicate (n - w * l.length) 0

section
variable {α : Type} {f : α → List Nat} {w n : Nat} (hf : ∀ a, (f a).length = w) {l : List α}
include hf

theorem zeroPadded_length (hl : w * l.length ≤ n) : (zeroPadded f w n l).length = n := by
  rw [zeroPadded, List.length_append, length_flatMap_width hf, List.length_replicate]
  omega

theorem zeroPadded_record {i k : Nat} {a : α} (hi : l[i]? = some a) (hk : k < w) : (zeroPadded f w n l)[w * i + k]? = (f a)[k]? := by
  have hget := getElem?_flatMap_width hf hi hk
  rw [List.getElem?_eq_getElem (by rw [hf]; exact hk : k < (f a).length)] at hget ⊢
  rw [zeroPadded, List.getElem?_append_left (List.getElem?_eq_some_iff.mp hget).1, hget]

theorem zeroPadded_beyond {i k : Nat} (hi : l[i]? = none) (hn : w * i + k < n) : (zeroPadded f w n l)[w * i + k]? = some 0 := by
  have hle : w * l.length ≤ w * i := Nat.mul_le_mul_left w (List.getElem?_eq_none_iff.mp hi)
  have hlen := length_flatMap_width hf l
  rw [zeroPadded, List.getElem?_append_right (by omega), List.getElem?_replicate, if_pos (by omega)]

end

/-! ## The parts of a frame from its latch records on (R369, R371, R372) -/

theorem latchWords_length (t : Nat) (l : Latch) : (latchWords t l).length = 2 := rfl

theorem flatMap_shapeWords_length (l : List Shape) : (l.flatMap shapeWords).length = 2 * l.length :=
  length_flatMap_width (w := 2) (fun _ => rfl) l

/-- R372: the dwords of a command record after its shapes. -/
def cmdScalars (t : Nat) (us : List UWrite) (k : Cmd) : List Nat :=
  let mine := us.filter fun u => u.cmd == k.id
  let rem := mine.foldl (fun m u => min m (u.due - t)) (2 ^ 32 - 1)
  let st := match k.state with | .queued => if k.began.isSome then 2 else 1 | .running => 2 | .trapped => 3 | .done => 0
  [k.ga.toNat, k.gb.toNat, k.cmdw.toNat + at' st 10, k.issue, k.began.getD k.nominal, k.rp,
    (dedup (mine.map (·.unit))).length + at' (if mine.isEmpty then 0 else rem) 32, 0]

theorem cmdWords_eq (t : Nat) (us : List UWrite) (k : Cmd) :
    cmdWords t us k = k.sr.toList.flatMap shapeWords ++ cmdScalars t us k := rfl

theorem cmdShapes_length (k : Cmd) : (k.sr.toList.flatMap shapeWords).length = 8 := by
  rw [flatMap_shapeWords_length, Vector.length_toList]

theorem cmdWords_length (t : Nat) (us : List UWrite) (k : Cmd) : (cmdWords t us k).length = 16 := by
  rw [cmdWords_eq, List.length_append, cmdShapes_length]
  rfl

theorem cmdWords_shape (t : Nat) (us : List UWrite) (k : Cmd) (n : Fin 4) {j : Nat} (hj : j < 2) :
    (cmdWords t us k)[2 * n.val + j]? = (shapeWords (k.sh n))[j]? := by
  have hn : k.sr.toList[n.val]? = some (k.sh n) := by simp [Cmd.sh]
  rw [cmdWords_eq, List.getElem?_append_left (by rw [cmdShapes_length]; omega)]
  exact getElem?_flatMap_width (w := 2) (fun _ => rfl) hn hj

theorem cmdWords_scalar (t : Nat) (us : List UWrite) (k : Cmd) (j : Nat) :
    (cmdWords t us k)[8 + j]? = (cmdScalars t us k)[j]? := by
  rw [cmdWords_eq, List.getElem?_append_right (by rw [cmdShapes_length]; omega), cmdShapes_length, Nat.add_sub_cancel_left]

/-- R338, R372: an engine has at most four records. -/
theorem engineWords_padded (t : Nat) (us : List UWrite) (q : List Cmd) :
    ∃ live, live.length ≤ 4 ∧ engineWords t us q = zeroPadded (cmdWords t us) 16 64 live :=
  ⟨_, List.length_take_le 4 _, rfl⟩

theorem engineWords_length (t : Nat) (us : List UWrite) (q : List Cmd) : (engineWords t us q).length = 64 := by
  obtain ⟨live, hlive, h⟩ := engineWords_padded t us q
  rw [h, zeroPadded_length (cmdWords_length t us) (by omega)]

/-- R372: the records of an engine whose commands all hold their entries. -/
theorem engineWords_held (t : Nat) (us : List UWrite) {q : List Cmd} (hq : ∀ k ∈ q, k.freed = false) :
    engineWords t us q = zeroPadded (cmdWords t us) 16 64 (q.take 4) := by
  obtain ⟨keep, hkeep⟩ : ∃ keep : List Nat, engineWords t us q =
      zeroPadded (cmdWords t us) 16 64 ((q.filter fun k => !k.freed || keep.contains k.id).take 4) := ⟨_, rfl⟩
  rw [hkeep, List.filter_eq_self.mpr fun k hk => by rw [hq k hk]; rfl]

/-- R371, R372: the parts of a frame from its latch records on. -/
def recordParts (c : Ctx) : List (List Nat) :=
  [zeroPadded (latchWords c.tclk) 2 64 (c.latches.take 32), engineWords c.tclk c.uws c.vq, engineWords c.tclk c.uws c.xq,
    engineWords c.tclk c.uws c.cq]

theorem frameWords_records (c : Ctx) (t : Trap) : frameWords c t = ((frameParts c t).take 17 ++ recordParts c).flatten := by
  simp only [frameParts, recordParts, zeroPadded, List.take_succ_cons, List.take_zero, List.cons_append, List.nil_append,
    List.flatten_cons, List.flatten_nil, List.append_nil, ← List.append_assoc]
  rfl

theorem frameParts_records_lengths (c : Ctx) (t : Trap) :
    ((frameParts c t).take 17 ++ recordParts c).map List.length = partLengths ++ [64, 64, 64, 64] := by
  have hlen : 2 * (c.latches.take 32).length ≤ 64 := Nat.mul_le_mul_left 2 (List.length_take_le 32 c.latches)
  simp only [List.map_append, frameParts_lengths, recordParts, List.map_cons, List.map_nil, engineWords_length,
    zeroPadded_length (latchWords_length c.tclk) hlen]

/-- R369: a frame has 512 dwords. -/
theorem frameWords_length (c : Ctx) (t : Trap) : (frameWords c t).length = 512 := by
  rw [frameWords_records, List.length_flatten, frameParts_records_lengths]
  rfl

/-- R369: the write of a frame leaves every byte outside of it alone. -/
theorem memGet_writeFrame_out (s : State) (x : Trap) {k : Nat}
    (h : k < heelKey (frameAddr s.ctx) ∨ heelKey (frameAddr s.ctx) + 4096 ≤ k) :
    memGet (writeFrame s x).mem k = memGet s.mem k := by
  refine memGet_memPut_out s.mem ?_
  rw [length_flatMap_width (fun v => leBytes_length 8 v), frameWords_length]
  exact h

/-! ## What the records hold -/

/-- R26, R369: a shape register from the two dwords that a frame holds of it. -/
theorem shapeRecord_of_words {f : Nat → Word} {i : Nat} {h : Shape} (hlo : f i = BitVec.ofNat 64 (h.toNat % 2 ^ 64))
    (hhi : f (i + 1) = BitVec.ofNat 64 (h.toNat / 2 ^ 64)) : shapeRecord f i h := by
  have hlt := shape_toNat_lt h
  rw [shapeRecord, hlo, hhi, BitVec.toNat_ofNat, BitVec.toNat_ofNat]
  omega

section
variable {u : State} {c : Ctx} {t : Trap} (h : HoldsFrame u c t)
include h

/-- R371, R372: a dword of a part of a frame from its latch records on. -/
theorem HoldsFrame.record {k j v : Nat} {l : List Nat} (hl : (recordParts c)[k]? = some l) (hv : l[j]? = some v) :
    frameDword u (256 + 64 * k + j) = BitVec.ofNat 64 v := by
  have hk : k < 4 := (List.getElem?_eq_some_iff.mp hl).1
  have hlen : ((frameParts c t).take 17).length = 17 := rfl
  have hpart : ((frameParts c t).take 17 ++ recordParts c)[17 + k]? = some l := by
    rw [List.getElem?_append_right (by omega), hlen, Nat.add_sub_cancel_left, hl]
  have hsum : ((((frameParts c t).take 17 ++ recordParts c).take (17 + k)).map List.length).sum = 256 + 64 * k := by
    rw [List.map_take, frameParts_records_lengths]
    interval_cases k <;> rfl
  have hget := getElem?_flatten_append [] hpart (List.getElem?_eq_some_iff.mp hv).1
  rw [hsum, List.append_nil, ← frameWords_records, hv] at hget
  exact h _ v hget

/-- R371: a latch record of a frame that stands. -/
theorem HoldsFrame.latchAt {i : Nat} (hi : i < 32) {l : Latch} (hl : c.latches[i]? = some l) :
    latchRecord (frameDword u) c.tclk i l := by
  have hl' : (c.latches.take 32)[i]? = some l := by rw [List.getElem?_take_of_lt hi, hl]
  have hdword : ∀ k v, k < 2 → (latchWords c.tclk l)[k]? = some v → frameDword u (256 + 2 * i + k) = BitVec.ofNat 64 v :=
    fun k v hk hv => Nat.add_assoc 256 (2 * i) k ▸
      h.record (k := 0) rfl ((zeroPadded_record (latchWords_length c.tclk) hl' hk).trans hv)
  refine ⟨fun hdue => ?_, ?_⟩
  · have hdest := destCode_lt l.dest
    have hfl := l.flags.isLt
    have hv : b2n l.valid ≤ 1 := by cases l.valid <;> decide
    have hrd : b2n l.ld.isSome ≤ 1 := by cases l.ld.isSome <;> decide
    have hcode : (if l.ld.isSome = true then 0 else (wordCode l.val ^^^ l.syn).toNat) < 2 ^ 16 := by
      have := (wordCode l.val ^^^ l.syn).isLt
      split <;> omega
    have hw := hdword 0 _ (by decide) rfl
    rw [Nat.add_zero] at hw
    rw [hw, BitVec.toNat_ofNat]
    simp only [at'] at hcode ⊢
    omega
  · have hw := hdword 1 _ (by decide) rfl
    rw [show 257 + 2 * i = 256 + 2 * i + 1 by omega, hw]
    split <;> simp

/-- R371: no latch record beyond the pending latches. -/
theorem HoldsFrame.noLatch {i : Nat} (hi : i < 32) (hl : c.latches[i]? = none) :
    frameDword u (256 + 2 * i) = 0 ∧ frameDword u (257 + 2 * i) = 0 := by
  have hl' : (c.latches.take 32)[i]? = none := by rw [List.getElem?_take_of_lt hi, hl]
  have hzero : ∀ k, k < 2 → frameDword u (256 + (2 * i + k)) = 0 := fun k hk =>
    h.record (k := 0) rfl (zeroPadded_beyond (latchWords_length c.tclk) hl' (by omega))
  exact ⟨hzero 0 (by decide), by rw [show 257 + 2 * i = 256 + (2 * i + 1) by omega]; exact hzero 1 (by decide)⟩

omit h in
theorem recordParts_queue (c : Ctx) (e : Fin 3) : (recordParts c)[1 + e.val]? = some (engineWords c.tclk c.uws (c.queue e)) :=
  match e with
  | 0 | 1 | 2 => rfl

/-- R372: a dword of the records of an engine whose commands all hold their entries. -/
theorem HoldsFrame.engineDword {e : Fin 3} (hq : ∀ k ∈ c.queue e, k.freed = false) {j v : Nat}
    (hv : (zeroPadded (cmdWords c.tclk c.uws) 16 64 ((c.queue e).take 4))[j]? = some v) :
    frameDword u (320 + 64 * e.val + j) = BitVec.ofNat 64 v := by
  rw [← engineWords_held _ _ hq] at hv
  rw [show 320 + 64 * e.val + j = 256 + 64 * (1 + e.val) + j by omega]
  exact h.record (recordParts_queue c e) hv

/-- R372: a command record of a frame that stands. -/
theorem HoldsFrame.commandAt {e : Fin 3} (hq : ∀ k ∈ c.queue e, k.freed = false) {i : Nat} (hi : i < 4) {k : Cmd}
    (hk : (c.queue e)[i]? = some k) : commandRecord (frameDword u) (320 + 64 * e.val + 16 * i) c.uws k := by
  have hk' : ((c.queue e).take 4)[i]? = some k := by rw [List.getElem?_take_of_lt hi, hk]
  have hdword : ∀ n v, n < 16 → (cmdWords c.tclk c.uws k)[n]? = some v →
      frameDword u (320 + 64 * e.val + 16 * i + n) = BitVec.ofNat 64 v := fun n v hn hv =>
    Nat.add_assoc (320 + 64 * e.val) (16 * i) n ▸
      h.engineDword hq ((zeroPadded_record (cmdWords_length c.tclk c.uws) hk' hn).trans hv)
  have hshape : ∀ (n : Fin 4) (j v : Nat), j < 2 → (shapeWords (k.sh n))[j]? = some v →
      frameDword u (320 + 64 * e.val + 16 * i + (2 * n.val + j)) = BitVec.ofNat 64 v := fun n j v hj hv =>
    hdword _ v (by omega) ((cmdWords_shape c.tclk c.uws k n hj).trans hv)
  have hscalar : ∀ j v, j < 8 → (cmdScalars c.tclk c.uws k)[j]? = some v →
      frameDword u (320 + 64 * e.val + 16 * i + (8 + j)) = BitVec.ofNat 64 v := fun j v hj hv =>
    hdword _ v (by omega) ((cmdWords_scalar c.tclk c.uws k j).trans hv)
  refine ⟨fun n => shapeRecord_of_words (hshape n 0 _ (by decide) rfl) (hshape n 1 _ (by decide) rfl),
    ?ga, ?gb, ?word, ?issue, ?began, ?rp, fun hus => ?pend, ?last⟩
  case ga => exact (hscalar 0 _ (by decide) rfl).trans (by simp)
  case gb => exact (hscalar 1 _ (by decide) rfl).trans (by simp)
  case word =>
    refine (hscalar 2 _ (by decide) rfl).trans ?_
    rw [BitVec.ofNat_add, BitVec.ofNat_toNat, BitVec.setWidth_eq]
    rfl
  case issue => exact hscalar 3 _ (by decide) rfl
  case began => exact hscalar 4 _ (by decide) rfl
  case rp => exact hscalar 5 _ (by decide) rfl
  case pend =>
    have hmine : c.uws.filter (fun w => w.cmd == k.id) = [] :=
      List.filter_eq_nil_iff.mpr fun w hw => by simpa using hus w hw
    refine (hscalar 6 _ (by decide) rfl).trans ?_
    simp [hmine, dedup, at']
  case last => exact hscalar 7 _ (by decide) rfl

/-- R372: zeros beyond the commands of an engine. -/
theorem HoldsFrame.noCommand {e : Fin 3} (hq : ∀ k ∈ c.queue e, k.freed = false) {i : Nat} (hi : i < 4)
    (hk : (c.queue e)[i]? = none) {j : Nat} (hj : j < 16) : frameDword u (320 + 64 * e.val + 16 * i + j) = 0 := by
  have hk' : ((c.queue e).take 4)[i]? = none := by rw [List.getElem?_take_of_lt hi, hk]
  rw [Nat.add_assoc]
  exact h.engineDword hq (zeroPadded_beyond (cmdWords_length c.tclk c.uws) hk' (by omega))

/-- R369, R371, R372: the latch records and the command records of a frame that stands. -/
theorem HoldsFrame.recordsAt : frameRecords (frameDword u) c := by
  refine ⟨fun i hi => ?_, fun e hq i hi => ?_⟩
  · cases hl : c.latches[i]? with
    | some l => exact h.latchAt hi hl
    | none => exact h.noLatch hi hl
  · cases hk : (c.queue e)[i]? with
    | some k => exact h.commandAt hq hi hk
    | none => exact fun j hj => h.noCommand hq hi hk hj

end

end Sys2Proof.Proofs
end

section
/-! PROOF. Taking a trap: where control goes, and what the entry to the handler leaves (O34). -/

namespace Sys2Proof.Proofs

open Sys2Proof.Machine
open Sys2Proof.Laws

/-! ## The way of a trap (R365, R373, R377) -/

/-- R365: the state in which an event is being taken. -/
def trapBegun (s : State) : State :=
  ({ s with free := s.free + 1 } : State).up fun c => { c with iss := { c.iss with trapped := true } }

/-- R312, R377, R444: a mismatch that meets its context in a handler, or in a logit task, is tested all the same. -/
def mismatchTested (s : State) (x : Trap) : State := if x.cause = 0x16 then testMismatch s x else s

/-- R376: the interrupts, and PREEMPT_LATE, which end no logit task. -/
def spares (cause : Nat) : Bool := cause == 0x30 || cause == 0x31 || cause == 0x33 || cause == 0x23

/-- R365: a context is in the Cobbler's hands, its frame written. -/
def inHands (s : State) (x : Trap) : State := (saveFrame (trapBegun s) x).up fun c => { c with status := .trapped }

/-- R377, R381: PREEMPT_LATE is done with as its context parks. -/
def lateTaken (u : State) : State :=
  u.up fun c => { c with status := .running, preLate := false, preReq := false, preCnt := 0 }

/-- R365, R377: what the Cobbler does with a context in its hands. -/
def cobblerTakes (u : State) (x : Trap) : State :=
  match x.cause with
  | 0x16 => takeMismatch u x
  | 0x10 => if x.i0 = 0x0E01 ∨ x.i0 = 0x0E02 then u else deliverTvec u x
  | 0x22 => deliverTvec u x
  | 0x23 => leaveRole (lateTaken u) (lateTaken u).ctx.cid
  | _ => u

theorem takeTrap_logit {s : State} {x : Trap} (hl : (logitSlot s.ctx).isSome = true) (hx : spares x.cause = false) :
    takeTrap s x = takeLogitFault (mismatchTested (trapBegun s) x) x.i3 := by
  have h : (logitSlot (trapBegun s).ctx).isSome = true ∧ (!spares x.cause) = true := ⟨hl, by rw [hx]; rfl⟩
  exact if_pos h

section
variable {s : State} {x : Trap} (hl : logitSlot s.ctx = none ∨ spares x.cause = true)
include hl

theorem not_endsLogit : ¬((logitSlot (trapBegun s).ctx).isSome = true ∧ (!spares x.cause) = true) := by
  rintro ⟨hslot, hx⟩
  rcases hl with hl | hl
  · exact absurd (hl ▸ hslot : (none : Option Nat).isSome = true) (by decide)
  · simp [hl] at hx

theorem takeTrap_inHandler (hs : s.ctx.status = .handler) :
    takeTrap s x = fatalNow (mismatchTested (trapBegun s) x) { x with cause := 0x21 } := by
  have hs' : (trapBegun s).ctx.status = .handler := hs
  exact (if_neg (not_endsLogit hl)).trans (if_pos hs')

variable (hs : s.ctx.status ≠ .handler)
include hs

theorem takeTrap_fatalCause (hx : x.cause = 0x21 ∨ x.cause = 0x25) : takeTrap s x = fatalNow (trapBegun s) x := by
  have hs' : ¬(trapBegun s).ctx.status = .handler := hs
  exact (if_neg (not_endsLogit hl)).trans ((if_neg hs').trans (if_pos hx))

theorem takeTrap_framed (hx : ¬(x.cause = 0x21 ∨ x.cause = 0x25)) : takeTrap s x =
    if toCobbler x.cause (x.cause == 0x10 && x.i1 == 1) = true then cobblerTakes (inHands s x) x
    else deliverTvec (saveFrame (trapBegun s) x) x := by
  have hs' : ¬(trapBegun s).ctx.status = .handler := hs
  exact (if_neg (not_endsLogit hl)).trans ((if_neg hs').trans (if_neg hx))

/-- R365, R373: a trap whose first destination is TVEC. -/
theorem takeTrap_toTvec (hx : toCobbler x.cause (x.cause == 0x10 && x.i1 == 1) = false) :
    takeTrap s x = deliverTvec (saveFrame (trapBegun s) x) x := by
  have hfatal : ¬(x.cause = 0x21 ∨ x.cause = 0x25) := by
    rintro (h | h) <;> simp [toCobbler, h] at hx
  rw [takeTrap_framed hl hs hfatal, hx]
  rfl

/-- R365, R377: a trap whose first destination is the Cobbler, and no fatal cause. -/
theorem takeTrap_toCobbler (hfatal : ¬(x.cause = 0x21 ∨ x.cause = 0x25))
    (hx : toCobbler x.cause (x.cause == 0x10 && x.i1 == 1) = true) :
    takeTrap s x = cobblerTakes (inHands s x) x := by
  rw [takeTrap_framed hl hs hfatal, if_pos hx]

end

/-- R373: a trap that enters the handler. -/
theorem takeTrap_enters {s : State} {x : Trap} (h : goesToHandler s x) :
    takeTrap s x = enterHandler (saveFrame (trapBegun s) x) := by
  obtain ⟨hs, hl, htv, hx⟩ := h
  have hl' : logitSlot s.ctx = none ∨ spares x.cause = true := hl.imp_right fun h => by
    rcases h with h | h | h <;> rw [h] <;> rfl
  have htv' : tvecAt (saveFrame (trapBegun s) x).ctx ≠ 0 := htv
  rw [takeTrap_toTvec hl' hs hx, deliverTvec, if_neg htv']

/-- R368, R369, R373: a context in the handler of a trap. -/
def handlerCtx (c : Ctx) (x : Trap) : Ctx :=
  { c with
    saved := some (putAway c x), redo := [], cands := [], after := 0, tcause := x.cause, tinfo := #v[x.i0, x.i1, x.i2, x.i3]
    latches := [], dws := [], status := .handler, sv := true, hclk := 0, pc := tvecDue c.r.tvec c.dws c.tclk, fin := none
    grant := [false, false, false], wait := .none, pend := .none, dly := 0, swt := none }

theorem enterHandler_ctx (u : State) (x : Trap) : (enterHandler (saveFrame u x)).ctx = handlerCtx u.ctx x := rfl

/-! ## The frame of a context at its trap (R369) -/

/-- The pads that the sequencer passes over do not depend on the syllable at issue, nor on the flags. -/
theorem skipPads_flags (c : Ctx) (i : Issue) (fl : BitVec 6) (n : Nat) (a : Word) :
    skipPads { c with iss := i, r := { c.r with flg := fl } } n a = skipPads c n a := by
  induction n generalizing a with
  | zero => rfl
  | succ n ih => simp only [skipPads, ih]; rfl

theorem resumePc_flags (c : Ctx) (i : Issue) (fl : BitVec 6) :
    resumePc { c with iss := i, r := { c.r with flg := fl } } = resumePc c := skipPads_flags c i fl _ _

section
variable {u : State} {c : Ctx} {x : Trap} (h : HoldsFrame u c x)
include h

theorem HoldsFrame.headWord {j : Nat} {w : Word} (hv : (frameHead c x)[j]? = some w.toNat) : frameDword u j = w :=
  (h.head hv).trans (by simp)

/-- R196, R369: a level of the loop stack in a frame that stands. -/
theorem HoldsFrame.levelAt (l : Fin 6) : levelRecord (frameDword u) l.val c.r.loops[l] := by
  have hword : ∀ k v, k < 8 → (loopWords c.r.loops[l])[k]? = some v → frameDword u (96 + (8 * l.val + k)) = BitVec.ofNat 64 v :=
    fun k v hk hv => h.loopWord l.isLt hk hv
  have hself : ∀ k (w : Word), k < 8 → (loopWords c.r.loops[l])[k]? = some w.toNat → frameDword u (96 + (8 * l.val + k)) = w :=
    fun k w hk hw => (hword k _ hk hw).trans (by simp)
  obtain ⟨hhs, hhe⟩ := h.heldWord l.isLt
  refine ⟨?cnt, ?idx, ?start, ?stop, fun k => ?strd, hhs, hhe⟩
  case cnt => exact (hword 0 _ (by decide) rfl).trans (BitVec.ofNat_toNat ..)
  case idx =>
    rw [show 97 + 8 * l.val = 96 + (8 * l.val + 1) by omega]
    exact (hword 1 _ (by decide) rfl).trans (BitVec.ofNat_toNat ..)
  case start =>
    rw [show 98 + 8 * l.val = 96 + (8 * l.val + 2) by omega]
    exact hself 2 _ (by decide) rfl
  case stop =>
    rw [show 99 + 8 * l.val = 96 + (8 * l.val + 3) by omega]
    exact hself 3 _ (by decide) rfl
  case strd =>
    rw [show 100 + 8 * l.val + k.val = 96 + (8 * l.val + (4 + k.val)) by omega]
    refine hself (4 + k.val) _ (by omega) ?_
    rw [loopWords, List.getElem?_append_right (by simp), List.getElem?_map]
    simp

/-- R26, R369: one of a frame's two lists of shape registers. -/
theorem HoldsFrame.shapeAt {k : Nat} (hk : k ≤ 17) {v : Vector Shape 12}
    (hl : (frameParts c x)[k]? = some (v.toList.flatMap shapeWords)) (n : Fin 12) :
    shapeRecord (frameDword u) ((partLengths.take k).sum + 2 * n.val) v[n] := by
  have hv : v.toList[n.val]? = some v[n] := by simp
  have hdword : ∀ j w, j < 2 → (shapeWords v[n])[j]? = some w →
      frameDword u ((partLengths.take k).sum + 2 * n.val + j) = BitVec.ofNat 64 w := fun j w hj hw =>
    Nat.add_assoc _ (2 * n.val) j ▸ h.part hk hl ((getElem?_flatMap_width (w := 2) (fun _ => rfl) hv hj).trans hw)
  exact shapeRecord_of_words (hdword 0 _ (by decide) rfl) (hdword 1 _ (by decide) rfl)

/-- R369: the predicates in a frame that stands, p0 as 0. -/
theorem HoldsFrame.predAt : (∀ n : Fin 8, (frameDword u 17).getLsbD n.val = (n != 0 && c.r.p[n])) ∧
    (frameDword u 17).toNat < 2 ^ 8 := by
  obtain ⟨hlt, hbit⟩ := foldl_bits (fun i => i != 0 && c.r.p.toList.getD i false) 8
  rw [← predBits_eq] at hlt hbit
  have hword : (frameDword u 17).toNat = predBits c.r := by
    rw [h.head (j := 17) rfl, BitVec.toNat_ofNat, Nat.mod_eq_of_lt (by omega)]
  refine ⟨fun n => ?_, hword ▸ hlt⟩
  have hp : c.r.p.toList.getD n.val false = c.r.p[n] := by simp [List.getD_eq_getElem?_getD]
  rw [BitVec.getLsbD, hword, Nat.testBit_eq_decide_div_mod_eq, hbit n.val n.isLt, hp]
  have hn : (n.val != 0) = (n != 0) := by
    rw [Bool.eq_iff_iff, bne_iff_ne, bne_iff_ne, ne_eq, ne_eq, Fin.ext_iff]
    rfl
  rw [hn]
  cases n != 0 && c.r.p[n] <;> rfl

theorem HoldsFrame.energyAt : frameDword u 16 = energyWord c :=
  (h.head (j := 16) rfl).trans (by rw [energyWord, Nat.add_comm])

end

/-! ## The entry to the handler (R367 to R373) -/

/-- R368: the flags of a trap are in the registers before its frame is written. -/
theorem entersHandler_takeTrap {s : State} {x : Trap} (hgo : goesToHandler s x) (n : Nat) :
    entersHandler s x (BitVec.ofNat 6 n) (takeTrap (orFlags s n) x) := by
  have hgo' : goesToHandler (orFlags s n) x := hgo
  obtain ⟨u, hu⟩ : ∃ u, u = trapBegun (orFlags s n) := ⟨_, rfl⟩
  obtain ⟨t, ht⟩ : ∃ t, t = takeTrap (orFlags s n) x := ⟨_, rfl⟩
  have htake : t = enterHandler (saveFrame u x) := by rw [ht, hu, takeTrap_enters hgo']
  have hctx : u.ctx = { s.ctx with
      iss := { s.ctx.iss with trapped := true }, r := { s.ctx.r with flg := s.ctx.r.flg ||| BitVec.ofNat 6 n } } := by
    rw [hu]; rfl
  have hin : t.ctx = handlerCtx { s.ctx with
      iss := { s.ctx.iss with trapped := true }, r := { s.ctx.r with flg := s.ctx.r.flg ||| BitVec.ofNat 6 n } } x := by
    rw [← hctx, htake, enterHandler_ctx]
  have hmem : t.mem = (writeFrame u x).mem := by rw [htake]; rfl
  have haddr : frameAddr t.ctx = frameAddr u.ctx := by rw [htake]; rfl
  have h : HoldsFrame t u.ctx x := holdsFrame_of_writeFrame hmem haddr
  have hout : ∀ k, (k < heelKey (frameAddr u.ctx) ∨ heelKey (frameAddr u.ctx) + 4096 ≤ k) → memGet t.mem k = memGet u.mem k :=
    fun k hk => by rw [hmem, memGet_writeFrame_out u x hk]
  have humem : u.mem = s.mem := by rw [hu]; rfl
  have hlevel := h.levelAt
  have hpred := h.predAt
  rw [← ht]
  rw [hctx] at h hlevel hpred hout
  have hrec := h.recordsAt
  refine ⟨?pc, ?_, ?_, ?_, ?_, ?_, ?_, ?_, ?_, ?_, ?_, ?_, ?_, ?_, ?_, ?_, ?_, ?_, ?_, ?_, ?saved, h.head (j := 1) rfl,
    h.headWord rfl, h.headWord rfl, h.headWord rfl, h.headWord rfl, ?next, fun b hb => ?branch,
    h.head (j := 8) rfl, ?flg, ?fen, ?rmode, h.ftctl, ?grace, h.energyAt, hpred.1, hpred.2, fun i => h.g i.isLt,
    fun i => ?pm, fun i => ?q, hlevel, fun i => ⟨h.shapeAt (k := 10) (by decide) rfl i, h.shapeAt (k := 11) (by decide) rfl i⟩, hrec,
    fun k hk => humem ▸ hout k hk⟩
  case next => exact (h.headWord rfl).trans (resumePc_flags s.ctx _ _)
  case branch =>
    refine h.headWord ?_
    simp [frameHead, branchWords, hb]
  case flg => exact (h.head (j := 11) rfl).trans (BitVec.ofNat_toNat ..)
  case fen => exact (h.head (j := 12) rfl).trans (BitVec.ofNat_toNat ..)
  case rmode => exact (h.head (j := 13) rfl).trans (BitVec.ofNat_toNat ..)
  case grace => exact (h.head (j := 15) rfl).trans (BitVec.ofNat_toNat ..)
  case pm => exact (h.words (k := 4) (by decide) rfl i.isLt).trans (BitVec.ofNat_toNat ..)
  case q => exact (h.words (k := 5) (by decide) rfl i.isLt).trans (by simp)
  case saved =>
    rw [hin]
    exact ⟨_, rfl, rfl, rfl, rfl, rfl, rfl, rfl, rfl, rfl, rfl, rfl, rfl⟩
  all_goals
    rw [hin]
    rfl

theorem orFlags_zero (s : State) : orFlags s 0 = s := by
  have hfl : s.ctx.r.flg ||| BitVec.ofNat 6 0 = s.ctx.r.flg := BitVec.or_zero
  show ({ s with ctx := { s.ctx with r := { s.ctx.r with flg := s.ctx.r.flg ||| BitVec.ofNat 6 0 } } } : State) = s
  rw [hfl]

/-- R365: a trap of a unit, chosen at a boundary, that is no page fault. -/
theorem takeEvent_trap (s : State) (t : Nat) {x : Trap} (fl : Nat) (hx : x.cause ≠ 0x20) :
    takeEvent s t (.trap x fl) = takeTrap (orFlags s fl) x := if_neg hx

theorem exec_takingATrap_chosen {s : State} {e : Taken} (h : chosen s s.ctx.now = some e) :
    exec .takingATrap s = .next (takeEvent s s.ctx.now e) :=
  (exec_takingATrap s).trans (execTakingATrap_of_chosen h)

/-- Settles O34: the frame stands as it was written (HoldsFrame), and what the entry leaves is read off the state that it
gives (takeTrap_enters). -/
theorem trapEntry : Obligations.TrapEntry := by
  unfold Obligations.TrapEntry
  refine ⟨fun s x hgo => ?raised, fun s x fl hc hgo => ?chosen⟩
  case raised =>
    have h := entersHandler_takeTrap hgo 0
    rwa [orFlags_zero] at h
  case chosen =>
    have hx : x.cause ≠ 0x20 := fun hx => by
      obtain ⟨-, -, -, hcob⟩ := hgo
      simp [toCobbler, hx] at hcob
    refine ⟨_, exec_takingATrap_chosen hc, ?_⟩
    rw [takeEvent_trap s _ fl hx]
    exact entersHandler_takeTrap hgo fl

end Sys2Proof.Proofs
end

section
/-! PROOF. The cause in a frame, the end of a launch, and a context in the Cobbler's hands (O35). -/

namespace Sys2Proof.Proofs

open Sys2Proof.Machine
open Sys2Proof.Laws

/-! ## The cause in a frame (R365, R369, R373) -/

/-- R365, R369: the frame of the context at hand holds a cause and its info words. -/
def HoldsCause (t : State) (x : Trap) : Prop :=
  frameDword t 1 = BitVec.ofNat 64 x.cause ∧ frameDword t 2 = x.i0 ∧ frameDword t 3 = x.i1 ∧ frameDword t 4 = x.i2 ∧
    frameDword t 5 = x.i3

theorem ofNat_leNat_leBytes (w : Word) : BitVec.ofNat 64 (leNat (leBytes 8 w.toNat)) = w := by
  rw [leNat_leBytes, show 256 ^ 8 = 2 ^ 64 by decide, Nat.mod_eq_of_lt w.isLt]
  simp

theorem holdsCause_of_writeFrame {s t : State} {x : Trap} (hm : t.mem = (writeFrame s x).mem)
    (ha : frameAddr t.ctx = frameAddr s.ctx) : HoldsCause t x := by
  have h : HoldsFrame t s.ctx x := holdsFrame_of_writeFrame hm ha
  exact ⟨h.head rfl, h.headWord rfl, h.headWord rfl, h.headWord rfl, h.headWord rfl⟩

theorem holdsCause_of_writeCause {s t : State} {x : Trap} (hm : t.mem = (writeCause s x).mem)
    (ha : frameAddr t.ctx = frameAddr s.ctx) : HoldsCause t x := by
  obtain ⟨ws, hws⟩ : ∃ ws : List Word, ws = [BitVec.ofNat 64 x.cause, x.i0, x.i1, x.i2, x.i3] := ⟨_, rfl⟩
  have hput : t.mem = memPut s.mem (heelKey (frameAddr s.ctx + 8)) ((ws.map fun w => w.toNat).flatMap (leBytes 8)) := by
    rw [hm, writeCause, hws, List.flatMap_map]
  have hword : ∀ i w, ws[i]? = some w → frameDword t (1 + i) = w := fun i w hw => by
    obtain ⟨hi, rfl⟩ := List.getElem?_eq_some_iff.mp hw
    rw [frameDword, ha, show frameAddr s.ctx + 8 * (1 + i) = frameAddr s.ctx + 8 + 8 * i by omega, ← heelKey_add, hput,
      memRead_memPut_value _ _ _ (by rwa [List.length_map]), List.getElem_map, ofNat_leNat_leBytes]
  subst hws
  exact ⟨hword 0 _ rfl, hword 1 _ rfl, hword 2 _ rfl, hword 3 _ rfl, hword 4 _ rfl⟩

/-- R365: the context at hand has a cause and the info words of a trap, and so has its frame. -/
def RecordsTrap (t : State) (x : Trap) (cause : Nat) : Prop :=
  frameDword t 1 = BitVec.ofNat 64 cause ∧ frameDword t 2 = x.i0 ∧ frameDword t 3 = x.i1 ∧ frameDword t 4 = x.i2 ∧
    frameDword t 5 = x.i3 ∧ t.ctx.tcause = cause ∧ t.ctx.tinfo = #v[x.i0, x.i1, x.i2, x.i3]

theorem HoldsCause.records {t : State} {x : Trap} (h : HoldsCause t x) (hc : t.ctx.tcause = x.cause)
    (hi : t.ctx.tinfo = #v[x.i0, x.i1, x.i2, x.i3]) : RecordsTrap t x x.cause := by
  obtain ⟨h1, h2, h3, h4, h5⟩ := h
  exact ⟨h1, h2, h3, h4, h5, hc, hi⟩

/-! ## The end of a launch (R377, R378) -/

/-- R378: the task at hand, its launch and what is due, seen apart from the frame that is written. -/
def SameTask (s u : State) : Prop :=
  u.agenda = s.agenda ∧ u.host = s.host ∧ u.ctx.cid = s.ctx.cid ∧ u.ctx.lid = s.ctx.lid ∧ u.ctx.wid = s.ctx.wid

theorem SameTask.trans {s u v : State} (h : SameTask s u) (h' : SameTask u v) : SameTask s v := by
  obtain ⟨ha, hh, hc, hl, hw⟩ := h
  rwa [SameTask, ha, hh, hc, hl, hw] at h'

theorem trapBegun_same (s : State) : SameTask s (trapBegun s) := ⟨rfl, rfl, rfl, rfl, rfl⟩

theorem saveFrame_same (u : State) (x : Trap) : SameTask u (saveFrame u x) := ⟨rfl, rfl, rfl, rfl, rfl⟩

/-- R378: the launch of the context at hand ends with a cause: its record keeps the first task that failed. -/
def EndsLaunch (s t : State) (x : Trap) (cause : Nat) : Prop :=
  t.ctx.status = .trapped ∧ t.ctx.tcause = cause ∧ t.ctx.tinfo = #v[x.i0, x.i1, x.i2, x.i3] ∧
    t.agenda = s.agenda ++ [.taskRetirement s.ctx.cid] ∧
    t.host.launches = s.host.launches.map fun l => if l.lid = s.ctx.lid then
      { l with ending := true, failed := l.failed.or (some (cause, s.ctx.wid, #v[x.i0, x.i1, x.i2, x.i3])) } else l

theorem EndsLaunch.of_same {s u t : State} {x : Trap} {cause : Nat} (h : EndsLaunch u t x cause) (hu : SameTask s u) :
    EndsLaunch s t x cause := by
  obtain ⟨ha, hh, hc, hl, hw⟩ := hu
  rwa [EndsLaunch, ha, hh, hc, hl, hw] at h

theorem failLaunch_ends (u : State) (x : Trap) : EndsLaunch u (failLaunch u x) x x.cause := by
  refine ⟨rfl, rfl, rfl, rfl, List.map_congr_left fun l _ => ?_⟩
  simp only [beq_iff_eq]

theorem fatalNow_standing {u : State} (h : u.ctx.saved.isSome = true) (x : Trap) :
    fatalNow u x = failLaunch (writeCause (u.up fun c => { c with cands := [] }) x) x := by
  rw [fatalNow, if_pos h]

theorem fatalNow_unframed {u : State} (h : ¬u.ctx.saved.isSome = true) (x : Trap) :
    fatalNow u x = failLaunch (saveFrame u x) x := by
  rw [fatalNow, if_neg h]

theorem fatalNow_ends (u : State) (x : Trap) : EndsLaunch u (fatalNow u x) x x.cause := by
  by_cases h : u.ctx.saved.isSome = true
  · rw [fatalNow_standing h]
    exact (failLaunch_ends _ x).of_same ⟨rfl, rfl, rfl, rfl, rfl⟩
  · rw [fatalNow_unframed h]
    exact (failLaunch_ends _ x).of_same (saveFrame_same u x)

/-- R365, R377: the frame of a context that has failed holds the cause, written now or standing already. -/
theorem fatalNow_records (u : State) (x : Trap) : RecordsTrap (fatalNow u x) x x.cause := by
  by_cases h : u.ctx.saved.isSome = true
  · rw [fatalNow_standing h]
    have hcause : HoldsCause (failLaunch (writeCause (u.up fun c => { c with cands := [] }) x) x) x :=
      holdsCause_of_writeCause (s := u.up fun c => { c with cands := [] }) rfl rfl
    exact hcause.records rfl rfl
  · rw [fatalNow_unframed h]
    have hcause : HoldsCause (failLaunch (saveFrame u x) x) x := holdsCause_of_writeFrame (s := u) rfl rfl
    exact hcause.records rfl rfl

/-- R373: a cause put into a frame that stands leaves every byte beside it alone. -/
theorem fatalNow_mem_out {u : State} (h : u.ctx.saved.isSome = true) (x : Trap) {k : Nat}
    (hk : k < heelKey (frameAddr u.ctx + 8) ∨ heelKey (frameAddr u.ctx + 8) + 40 ≤ k) :
    memGet (fatalNow u x).mem k = memGet u.mem k := by
  rw [fatalNow_standing h]
  refine memGet_memPut_out u.mem ?_
  rw [length_flatMap_width fun w : Word => leBytes_length 8 w.toNat]
  exact hk

/-! ## Tests of a unit (R444, R445) -/

theorem startTest_frame (s : State) (k u i : Nat) (a : Word) (on : List Nat) : startTest s k u i a on =
    { s with fresh := (startTest s k u i a on).fresh, cob := (startTest s k u i a on).cob } := by
  simp only [startTest]
  split <;> rfl

theorem mismatchTested_frame (s : State) (x : Trap) : mismatchTested s x =
    { s with fresh := (mismatchTested s x).fresh, cob := (mismatchTested s x).cob } := by
  unfold mismatchTested
  split
  · exact startTest_frame ..
  · rfl

/-- R444, R445: an error on a unit is in the test of that unit, which runs already or begins now. -/
theorem startTest_joins (s : State) (k u i : Nat) (a : Word) (cid : Nat) : ∃ y ∈ (startTest s k u i a [cid]).cob.tests,
    y.ukind = k ∧ y.idx = i ∧ (cid, s.tick) ∈ y.cids ∧
      (s.cob.tests = [] → s.tick < y.ends ∧ y.ends ≤ s.tick + 5000) := by
  simp only [startTest]
  split
  · rename_i h
    obtain ⟨y, hy, hunit⟩ := List.any_eq_true.mp h
    have hunit' := hunit
    simp only [Bool.and_eq_true, beq_iff_eq] at hunit'
    obtain ⟨⟨hk, -⟩, hi⟩ := hunit'
    refine ⟨{ y with cids := y.cids ++ [(cid, s.tick)] }, List.mem_map.mpr ⟨y, hy, if_pos hunit⟩, hk, hi,
      List.mem_append_right _ (List.mem_singleton.mpr rfl), fun hnil => ?_⟩
    rw [hnil] at hy
    cases hy
  · refine ⟨_, List.mem_append_right _ (List.mem_singleton.mpr rfl), rfl, rfl, List.mem_singleton.mpr rfl, fun _ => ?_⟩
    have := Nat.mod_lt (Config.selfTestTicks s.fresh) (show 0 < 4999 by decide)
    constructor <;> dsimp only <;> omega

theorem takeMismatch_unclassified {u : State} (h : ∀ y ∈ u.cob.classified, y.cid ≠ u.ctx.cid) (x : Trap) :
    takeMismatch u x = testMismatch u x := by
  simp only [takeMismatch]
  split
  · rename_i y hy
    have hcid := List.find?_some hy
    simp only [Bool.and_eq_true, beq_iff_eq] at hcid
    exact absurd hcid.1.1.1 (h y (List.mem_of_find?_eq_some hy))
  · rfl

/-! ## In the Cobbler's hands (R365, R377) -/

theorem inHands_same (s : State) (x : Trap) : SameTask s (inHands s x) :=
  (trapBegun_same s).trans (saveFrame_same (trapBegun s) x)

theorem inHands_records (s : State) (x : Trap) : RecordsTrap (inHands s x) x x.cause := by
  have hcause : HoldsCause (inHands s x) x := holdsCause_of_writeFrame (s := trapBegun s) rfl rfl
  exact hcause.records rfl rfl

theorem RecordsTrap.congr {t u : State} {x : Trap} {cause : Nat} (h : RecordsTrap t x cause) (hm : u.mem = t.mem)
    (ha : frameAddr u.ctx = frameAddr t.ctx) (hc : u.ctx.tcause = t.ctx.tcause) (hi : u.ctx.tinfo = t.ctx.tinfo) :
    RecordsTrap u x cause := by
  have hd : ∀ i, frameDword u i = frameDword t i := fun i => by rw [frameDword, frameDword, hm, ha]
  simp only [RecordsTrap, hd, hc, hi]
  exact h

/-- R373, R377: a cause of the Cobbler goes on to TVEC, and is fatal when TVEC is 0. -/
def ReachesTvec (s t : State) (x : Trap) : Prop :=
  (tvecDue s.ctx.r.tvec s.ctx.dws s.ctx.tclk ≠ 0 → t.ctx.status = .handler ∧
    t.ctx.pc = tvecDue s.ctx.r.tvec s.ctx.dws s.ctx.tclk ∧ RecordsTrap t x x.cause) ∧
  (tvecDue s.ctx.r.tvec s.ctx.dws s.ctx.tclk = 0 → EndsLaunch s t x 0x21)

theorem deliverTvec_inHands (s : State) (x : Trap) : ReachesTvec s (deliverTvec (inHands s x) x) x := by
  refine ⟨fun htv => ?_, fun htv => ?_⟩
  · have htv' : ¬tvecAt (inHands s x).ctx = 0 := htv
    rw [deliverTvec, if_neg htv']
    exact ⟨rfl, rfl, (inHands_records s x).congr rfl rfl rfl rfl⟩
  · have htv' : tvecAt (inHands s x).ctx = 0 := htv
    rw [deliverTvec, if_pos htv']
    exact (failLaunch_ends (inHands s x) { x with cause := 0x21 }).of_same (inHands_same s x)

/-- R15: a context that leaves its role is parked. -/
theorem leaveRole_parks {v : State} (hl : v.ctx.live = true) : ∃ pa sl bl la, (leaveRole v v.ctx.cid).ctx =
    { v.ctx with role := .parked, parkedAt := pa, slice := sl, blocked := bl, lanes := la } := by
  by_cases hr : v.ctx.role = .parked
  · refine ⟨v.ctx.parkedAt, v.ctx.slice, v.ctx.blocked, v.ctx.lanes, ?_⟩
    rw [leaveRole_parked (findCtx_ctx hl) hr, ← hr]
  · exact ⟨_, _, _, _, (leaveRole_ctx (findCtx_ctx hl) hr).trans (leftRole_self _ _ hl)⟩

/-- R312, R377: a logit task whose trap ends it, its frame written or standing already. -/
theorem takeLogitFault_ends (u : State) (pc : Word) : let t := takeLogitFault u pc
    t.ctx.status = .trapped ∧ t.ctx.tcause = 0x24 ∧ frameDword t 1 = 0x24 ∧ t.agenda = u.agenda ++ [.logitFault u.ctx.cid] := by
  intro t
  obtain ⟨x, hx⟩ : ∃ x : Trap, x = ⟨0x24, fw u 0, fw u 1, fw u 2, pc⟩ := ⟨_, rfl⟩
  have hc : BitVec.ofNat 64 x.cause = 0x24 := by rw [hx]; rfl
  have hcause : HoldsCause t x ∧ t.ctx.status = .trapped ∧ t.ctx.tcause = 0x24 ∧
      t.agenda = u.agenda ++ [.logitFault u.ctx.cid] := by
    by_cases h : u.ctx.saved.isSome = true
    · have ht : t = post (((writeCause u x).up fun c =>
          { c with cands := [], tcause := x.cause, tinfo := #v[x.i0, x.i1, x.i2, x.i3] }).up fun c => { c with status := .trapped }) (.logitFault u.ctx.cid) := by
        simp only [t, takeLogitFault, if_pos h, hx]
        rfl
      rw [ht]
      exact ⟨holdsCause_of_writeCause (s := u) rfl rfl, rfl, by rw [hx]; rfl, rfl⟩
    · have ht : t = post ((saveFrame u x).up fun c => { c with status := .trapped }) (.logitFault u.ctx.cid) := by
        simp only [t, takeLogitFault, if_neg h, hx]
        rfl
      rw [ht]
      exact ⟨holdsCause_of_writeFrame (s := u) rfl rfl, rfl, by rw [hx]; rfl, rfl⟩
  obtain ⟨⟨h1, -⟩, hs, ht, ha⟩ := hcause
  exact ⟨hs, ht, h1.trans hc, ha⟩

end Sys2Proof.Proofs
end

section
/-! PROOF. Each cause at its first destination, the events of a boundary, and a launch that ends (O35). -/

namespace Sys2Proof.Proofs

open Sys2Proof.Machine
open Sys2Proof.Laws

/-! ## Events that enter the handler (R367, R373, R376) -/

theorem exec_takingATrap_none {s : State} (h : chosen s s.ctx.now = none) : exec .takingATrap s = .next s := by
  rw [exec_takingATrap]
  unfold execTakingATrap
  split
  · rename_i hc
    exact absurd (h.symm.trans hc) (by simp)
  · rfl

theorem takeTrap_enters_ctx {u : State} {x : Trap} (h : goesToHandler u x) :
    (takeTrap u x).ctx = handlerCtx (trapBegun u).ctx x := by
  rw [takeTrap_enters h, enterHandler_ctx]

/-- R367, R373: an event of a boundary, cleared from its context as it is taken, whose trap y has the cause of x. -/
theorem event_enters {s : State} {e : Taken} {x y : Trap} (hc : chosen s s.ctx.now = some e) (f : Ctx → Ctx)
    (he : takeEvent s s.ctx.now e = takeTrap (s.up f) y)
    (hf : ∀ c, (f c).status = c.status ∧ (f c).hdr = c.hdr ∧ (f c).wid = c.wid ∧ (f c).r = c.r ∧ (f c).dws = c.dws ∧
      (f c).tclk = c.tclk) (hgo : goesToHandler s x) (hcause : y.cause = x.cause) (hi : y.i1 = x.i1 ∨ x.cause ≠ 0x10)
    (P : Vector Word 4 → Prop) (hP : P #v[y.i0, y.i1, y.i2, y.i3]) :
    ∃ t, exec .takingATrap s = .next t ∧ t.ctx.status = .handler ∧ t.ctx.pc = tvecDue s.ctx.r.tvec s.ctx.dws s.ctx.tclk ∧
      t.ctx.r = s.ctx.r ∧ t.ctx.tcause = x.cause ∧ P t.ctx.tinfo := by
  obtain ⟨hstatus, hhdr, hwid, hr, hd, ht⟩ := hf s.ctx
  have hgo' : goesToHandler (s.up f) y := by
    obtain ⟨hs, hl, htv, hcob⟩ := hgo
    have hslot : logitSlot (f s.ctx) = logitSlot s.ctx := by rw [logitSlot, logitSlot, hhdr, hwid]
    have hsvc : (y.cause == 0x10 && y.i1 == 1) = (x.cause == 0x10 && x.i1 == 1) := by
      rcases hi with hi | hi
      · rw [hcause, hi]
      · rw [hcause, beq_eq_false_iff_ne.mpr hi, Bool.false_and, Bool.false_and]
    exact ⟨hstatus ▸ hs, by rw [hcause]; exact hslot ▸ hl, by rw [← hr, ← hd, ← ht] at htv; exact htv,
      by rw [hsvc, hcause]; exact hcob⟩
  refine ⟨takeTrap (s.up f) y, (exec_takingATrap_chosen hc).trans (by rw [he]), ?_⟩
  rw [takeTrap_enters_ctx hgo', ← hr, ← hd, ← ht, ← hcause]
  exact ⟨rfl, rfl, rfl, rfl, hP⟩

/-! ## Each cause at its first destination (R365, R377) -/

section
variable {s : State} {x : Trap}

/-- R373, R377: a trap in handler state. -/
theorem takeTrap_inHandler_ends (hl : logitSlot s.ctx = none) (hs : s.ctx.status = .handler) :
    EndsLaunch s (takeTrap s x) x 0x21 ∧ (s.ctx.saved.isSome = true → frameDword (takeTrap s x) 1 = 0x21 ∧
      frameDword (takeTrap s x) 2 = x.i0 ∧
        ∀ k, (k < heelKey (frameAddr s.ctx + 8) ∨ heelKey (frameAddr s.ctx + 8) + 40 ≤ k) →
          memGet (takeTrap s x).mem k = memGet s.mem k) := by
  obtain ⟨u, hu⟩ : ∃ u, u = mismatchTested (trapBegun s) x := ⟨_, rfl⟩
  have htake : takeTrap s x = fatalNow u { x with cause := 0x21 } := by rw [takeTrap_inHandler (.inl hl) hs, hu]
  have hsame : SameTask s u := by rw [hu, mismatchTested_frame]; exact ⟨rfl, rfl, rfl, rfl, rfl⟩
  have hctx : u.ctx = (trapBegun s).ctx := by rw [hu, mismatchTested_frame]
  have hmem : u.mem = s.mem := by rw [hu, mismatchTested_frame]; rfl
  rw [htake]
  obtain ⟨h1, h2, -⟩ := fatalNow_records u { x with cause := 0x21 }
  refine ⟨(fatalNow_ends u { x with cause := 0x21 }).of_same hsame, fun hsaved => ⟨h1, h2, fun k hk => ?_⟩⟩
  have hsaved' : u.ctx.saved.isSome = true := by rw [hctx]; exact hsaved
  have hk' : k < heelKey (frameAddr u.ctx + 8) ∨ heelKey (frameAddr u.ctx + 8) + 40 ≤ k := by rw [hctx]; exact hk
  rw [fatalNow_mem_out hsaved' _ hk', hmem]

/-- R377: a logit task that traps. -/
theorem takeTrap_endsLogit (hl : (logitSlot s.ctx).isSome = true) (hx : x.cause < 0x16 ∨ x.cause = 0x21 ∨ x.cause = 0x22) :
    (takeTrap s x).ctx.status = .trapped ∧ (takeTrap s x).ctx.tcause = 0x24 ∧ frameDword (takeTrap s x) 1 = 0x24 ∧
      (takeTrap s x).agenda = s.agenda ++ [.logitFault s.ctx.cid] := by
  have hspares : spares x.cause = false := by
    simp only [spares, Bool.or_eq_false_iff, beq_eq_false_iff_ne]
    omega
  have htested : mismatchTested (trapBegun s) x = trapBegun s := if_neg (by omega)
  rw [takeTrap_logit hl hspares, htested]
  exact takeLogitFault_ends (trapBegun s) x.i3

variable (hs : s.ctx.status ≠ .handler)
include hs

/-- R381: PREEMPT_LATE parks its context. -/
theorem takeTrap_late (hx : x.cause = 0x23) : (takeTrap s x).ctx.role = .parked ∧ (takeTrap s x).ctx.status = .running ∧
    (takeTrap s x).ctx.preReq = false ∧ (takeTrap s x).ctx.preLate = false ∧ (takeTrap s x).ctx.saved.isSome = true ∧
      RecordsTrap (takeTrap s x) x 0x23 ∧ (takeTrap s x).agenda = s.agenda := by
  have htake : takeTrap s x = leaveRole (lateTaken (inHands s x)) (lateTaken (inHands s x)).ctx.cid := by
    rw [takeTrap_toCobbler (.inr (by rw [hx]; rfl)) hs (by omega) (by rw [hx]; rfl)]
    simp only [cobblerTakes, hx]
  have hrec : RecordsTrap (inHands s x) x 0x23 := hx ▸ inHands_records s x
  have hsaved : (inHands s x).ctx.saved.isSome = true := rfl
  obtain ⟨hagenda, -⟩ := inHands_same s x
  rw [htake]
  generalize inHands s x = u at hrec hsaved hagenda
  obtain ⟨pa, sl, bl, la, hctx⟩ := leaveRole_parks (v := lateTaken u) rfl
  refine ⟨by rw [hctx], by rw [hctx]; rfl, by rw [hctx]; rfl, by rw [hctx]; rfl, by rw [hctx]; exact hsaved,
    hrec.congr (by rw [leaveRole_frame]; rfl) (by rw [hctx]; rfl) (by rw [hctx]; rfl) (by rw [hctx]; rfl), ?_⟩
  rw [leaveRole_frame]
  exact hagenda

variable (hl : logitSlot s.ctx = none)
include hl

/-- R377: a fatal cause. -/
theorem takeTrap_fatalCause_ends (hx : x.cause = 0x21 ∨ x.cause = 0x25) :
    EndsLaunch s (takeTrap s x) x x.cause ∧ RecordsTrap (takeTrap s x) x x.cause := by
  rw [takeTrap_fatalCause (.inl hl) hs hx]
  exact ⟨(fatalNow_ends (trapBegun s) x).of_same (trapBegun_same s), fatalNow_records (trapBegun s) x⟩

/-- R377: a cause without a TVEC to go to. -/
theorem takeTrap_noTvec_ends (hx : toCobbler x.cause (x.cause == 0x10 && x.i1 == 1) = false)
    (htv : tvecDue s.ctx.r.tvec s.ctx.dws s.ctx.tclk = 0) : EndsLaunch s (takeTrap s x) x 0x21 := by
  have htv' : tvecAt (saveFrame (trapBegun s) x).ctx = 0 := htv
  rw [takeTrap_toTvec (.inl hl) hs hx, deliverTvec, if_pos htv']
  exact (failLaunch_ends (saveFrame (trapBegun s) x) { x with cause := 0x21 }).of_same
    ((trapBegun_same s).trans (saveFrame_same _ x))

/-- R377, R444: a mismatch on a unit not yet classified. -/
theorem takeTrap_mismatch (hx : x.cause = 0x16) (hn : ∀ y ∈ s.cob.classified, y.cid ≠ s.ctx.cid) :
    takeTrap s x = testMismatch (inHands s x) x := by
  rw [takeTrap_toCobbler (.inl hl) hs (by omega) (by rw [hx]; rfl)]
  simp only [cobblerTakes, hx]
  exact takeMismatch_unclassified (u := inHands s x) hn x

/-- R377: POWER_OVER. -/
theorem takeTrap_powerOver (hx : x.cause = 0x22) : ReachesTvec s (takeTrap s x) x := by
  rw [takeTrap_toCobbler (.inl hl) hs (by omega) (by rw [hx]; rfl)]
  simp only [cobblerTakes, hx]
  exact deliverTvec_inHands s x

theorem takeTrap_svc (hx : x.cause = 0x10) (hi : x.i1 = 1) : takeTrap s x =
    if x.i0 = 0x0E01 ∨ x.i0 = 0x0E02 then inHands s x else deliverTvec (inHands s x) x := by
  rw [takeTrap_toCobbler (.inl hl) hs (by omega) (by rw [hx, hi]; rfl)]
  simp only [cobblerTakes, hx]

/-- R377, R418: an SVC of a reserved immediate. -/
theorem takeTrap_svc_reserved (hx : x.cause = 0x10) (hi : x.i1 = 1) (h1 : x.i0 ≠ 0xE01) (h2 : x.i0 ≠ 0xE02) :
    ReachesTvec s (takeTrap s x) x := by
  rw [takeTrap_svc hs hl hx hi, if_neg (not_or.mpr ⟨h1, h2⟩)]
  exact deliverTvec_inHands s x

/-- R377, R418: an SVC that waits for its service. -/
theorem takeTrap_svc_waits (hx : x.cause = 0x10) (hi : x.i1 = 1) (h : x.i0 = 0xE01 ∨ x.i0 = 0xE02) :
    (takeTrap s x).ctx.status = .trapped ∧ RecordsTrap (takeTrap s x) x 0x10 ∧ (takeTrap s x).agenda = s.agenda := by
  rw [takeTrap_svc hs hl hx hi, if_pos h]
  exact ⟨rfl, hx ▸ inHands_records s x, rfl⟩

/-- R377: a page fault and LOGIT_FAULT stay with the Cobbler. -/
theorem takeTrap_stays (hx : x.cause = 0x24 ∨ x.cause = 0x20) :
    (takeTrap s x).ctx.status = .trapped ∧ RecordsTrap (takeTrap s x) x x.cause := by
  have htake : takeTrap s x = inHands s x := by
    rw [takeTrap_toCobbler (.inl hl) hs (by omega) (by rcases hx with hx | hx <;> rw [hx] <;> rfl)]
    rcases hx with hx | hx <;> simp only [cobblerTakes, hx]
  rw [htake]
  exact ⟨rfl, inHands_records s x⟩

/-- R377, R444, R445: the unit that a mismatch implicates is tested. -/
theorem takeTrap_mismatch_tests (hx : x.cause = 0x16) (hn : ∀ y ∈ s.cob.classified, y.cid ≠ s.ctx.cid) :
    (takeTrap s x).ctx.status = .trapped ∧ RecordsTrap (takeTrap s x) x 0x16 ∧ (takeTrap s x).agenda = s.agenda ∧
      ∃ y ∈ (takeTrap s x).cob.tests, (y.ukind, y.idx) = implicated (takeTrap s x).ctx x ∧ (s.ctx.cid, s.tick) ∈ y.cids ∧
        (s.cob.tests = [] → s.tick < y.ends ∧ y.ends ≤ s.tick + 5000) := by
  obtain ⟨u, hu⟩ : ∃ u, u = inHands s x := ⟨_, rfl⟩
  obtain ⟨n, hn'⟩ : ∃ n, takeTrap s x =
      startTest u (implicated u.ctx x).1 n (implicated u.ctx x).2 x.i0 [s.ctx.cid] := by
    rw [takeTrap_mismatch hs hl hx hn, hu]
    exact ⟨_, rfl⟩
  obtain ⟨y, hy, hk, hi, hcid, hends⟩ := startTest_joins u (implicated u.ctx x).1 n (implicated u.ctx x).2 x.i0 s.ctx.cid
  have hframe := hn'.trans (startTest_frame ..)
  have hctx : (takeTrap s x).ctx = u.ctx := by rw [hframe]
  have hrec : RecordsTrap u x 0x16 := by rw [hu, ← hx]; exact inHands_records s x
  refine ⟨by rw [hctx, hu]; rfl, hrec.congr (by rw [hframe]) (by rw [hctx]) (by rw [hctx]) (by rw [hctx]),
    by rw [hframe, hu]; rfl, y, by rw [hn']; exact hy, by rw [hctx, hk, hi], ?_, ?_⟩
  · rw [hu] at hcid
    exact hcid
  · rw [hu] at hends
    exact hends

end

/-! ## A launch that ends (R366, R378) -/

theorem endClaim_net (s : State) (a : Nat) : (endClaim s a).net = s.net := by
  have hput : ∀ u cells, (putCells u cells).net = u.net := putCells_keeps State.net fun _ _ _ _ => rfl
  have htest : ∀ u k n i a on, (startTest u k n i a on).net = u.net := fun _ _ _ _ _ _ => by rw [startTest_frame]
  simp only [endClaim]
  split_ifs <;> simp only [htest, hput]

/-- R23: a task that retires leaves the fabric as it is. -/
theorem freeCtx_net (s : State) : (freeCtx s).net = s.net := by
  have hrole : (freeCtx s).net = (roleEnded s).net := rfl
  rw [hrole, roleEnded, leaveRole_frame]
  exact foldl_keeps State.net endClaim_net _ s

theorem exec_taskRetirement_ending {s : State} {cid : Nat} {c : Ctx} {l : Launch} (hc : findCtx s cid = some c)
    (hl : findLaunch s c.lid = some l) (he : l.ending = true) :
    exec (.taskRetirement cid) s = .next (freeCtx (dropOpenPhase (focus s cid))) := by
  have hf : findLaunch (focus s cid) c.lid = some l := by rw [focus_frame]; exact hl
  show execTaskRetirement cid s = _
  simp only [execTaskRetirement, hc, hf, Option.any_some, he, if_true]

/-- R378: the pieces of the open phase of a context are gone, and no others. -/
theorem mem_dropOpenPhase {s : State} {p : Piece} : p ∈ (dropOpenPhase s).net.pieces ↔
    p ∈ s.net.pieces ∧ ¬(p.src = s.ctx.src ∧ p.phase = s.ctx.openPh) := by
  have hdrop : (dropOpenPhase s).net.pieces = s.net.pieces.filter fun p => !(p.src == s.ctx.src && p.phase == s.ctx.openPh) := rfl
  rw [hdrop, List.mem_filter, Bool.not_eq_true', Bool.and_eq_false_iff, beq_eq_false_iff_ne, beq_eq_false_iff_ne, not_and_or]

/-- R378: a task of a launch that ends retires. -/
theorem taskRetirement_ending {s : State} {cid : Nat} {c : Ctx} {l : Launch} (hc : findCtx s cid = some c)
    (hl : findLaunch s c.lid = some l) (he : l.ending = true) :
    ∃ t d, exec (.taskRetirement cid) s = .next t ∧ t.ctx = Ctx.vacant ∧ d ∈ t.others ∧ d.cid = cid ∧
      d.status = .retired ∧ d.latches = [] ∧ d.dws = [] ∧ d.uws = [] ∧ d.vq = [] ∧ d.xq = [] ∧ d.cq = [] ∧
      d.closing = c.closing ∧ d.openPh = c.openPh ∧
      ∀ p, p ∈ t.net.pieces ↔ p ∈ s.net.pieces ∧ ¬(p.src = c.src ∧ p.phase = c.openPh) := by
  obtain ⟨u, hu⟩ : ∃ u, u = dropOpenPhase (focus s cid) := ⟨_, rfl⟩
  have hctx : u.ctx = c := by rw [hu]; exact focus_ctx hc
  obtain ⟨⟨ro, pa, sl, bl, la, hrole⟩, -, -⟩ := roleEnded_spec (s := u) (by rw [hctx]; exact live_of_findCtx hc)
  rw [hctx] at hrole
  refine ⟨freeCtx u, retiredCtx (roleEnded u).ctx, hu ▸ exec_taskRetirement_ending hc hl he, freeCtx_ctx u,
    by rw [freeCtx_others]; exact List.mem_append_right _ (List.mem_singleton.mpr rfl), ?_, rfl, rfl, rfl, rfl, rfl, rfl, rfl,
    by rw [hrole]; rfl, by rw [hrole]; rfl, fun p => ?_⟩
  · rw [hrole]
    exact (cid_of_findCtx hc :)
  · have hnet : (focus s cid).net = s.net := by rw [focus_frame]
    rw [freeCtx_net, hu, mem_dropOpenPhase, focus_ctx hc, hnet]

/-- R128, R393: the completion of a launch that has failed. -/
theorem exec_launchCompletion_failed {s : State} {lid cause : Nat} {wid : Word} {v : Vector Word 4} {l : Launch}
    (hl : findLaunch s lid = some l) (hd : launchDone s l = true) (hf : l.failed = some (cause, wid, v)) :
    exec (.launchCompletion lid) s = .next (completeLaunch { s with free := s.free + 1 } l
      (launchBody l cause wid v.toList (List.replicate 32 0))) := by
  have hdigest : launchDigest s l = List.replicate 32 0 := by simp [launchDigest, hf]
  show execLaunchCompletion lid s = _
  simp only [execLaunchCompletion, hl, hd, Bool.not_true, Bool.false_eq_true, if_false, hf, hdigest]

/-- R387: to a session that is open one packet goes out. -/
theorem sendPkt_append {s : State} {sid : Nat} (h : (findSession s sid).isSome = true) (type : Nat) (body : List Byte) :
    ∃ p, (sendPkt s sid type body).host.out = s.host.out ++ [p] ∧ p.sid = sid ∧ p.type = type ∧ p.body = body := by
  obtain ⟨x, hx⟩ := Option.isSome_iff_exists.mp h
  have hsid : x.sid = sid := by simpa using List.find?_some hx
  refine ⟨⟨x.sid, x.next, type, body, packetTag x x.next type body, s.tick + 10000, 1⟩, ?_, hsid, rfl, rfl⟩
  simp only [sendPkt, hx]
  rfl

/-- R393: of the completion of a launch the one packet to its queue's session goes out. -/
theorem completeLaunch_out {s : State} {l : Launch} {q : WorkQueue} (hq : findQueue s l.hdr.queue = some q) (body : List Byte) :
    (completeLaunch s l body).host.out = (sendPkt s q.sid 0x81 body).host.out := by
  obtain ⟨u, first, ht, hu⟩ : ∃ u first, completeLaunch s l body =
      post (queueAfter u first l.hdr.queue l.hdr.prio) .gangAdmission ∧ u.host.out = (sendPkt s q.sid 0x81 body).host.out := by
    simp only [completeLaunch, hq]
    exact ⟨_, _, rfl, rfl⟩
  rw [ht, ← hu]
  exact (queueAfter_host u first l.hdr.queue l.hdr.prio).2

/-! ## The statement -/

/-- Settles O35: each cause by the way that takeTrap goes with it, the events of a boundary by the entry to the handler, and
the end of a launch by its retirements and its completion. -/
theorem trapDestinations : Obligations.TrapDestinations := by
  unfold Obligations.TrapDestinations
  refine ⟨fun s => ?events, fun s x => ?causes, fun s cid c l hc hl he => taskRetirement_ending hc hl he,
    fun s lid cause wid v l q hl hd hf hq hs => ?completion⟩
  case events =>
    refine ⟨fun e he => exec_takingATrap_chosen he, fun hn => exec_takingATrap_none hn, fun im hc hgo => ?soft,
      fun w hc hgo => ?signal, fun n hc hgo => ?timer, fun k hc hgo => ?notice⟩
    case soft =>
      exact event_enters hc (fun c => { c with swt := none }) rfl (fun _ => ⟨rfl, rfl, rfl, rfl, rfl, rfl⟩) hgo rfl (.inl rfl)
        (fun v => v[0] = BitVec.ofNat 64 im ∧ v[1] = 0) ⟨rfl, rfl⟩
    case signal =>
      exact event_enters hc (fun c => { c with signals := c.signals.drop 1 }) rfl (fun _ => ⟨rfl, rfl, rfl, rfl, rfl, rfl⟩) hgo
        rfl (.inr (show 0x30 ≠ 0x10 by decide)) (fun v => v[0] = w) rfl
    case timer =>
      exact event_enters hc (fun c => { c with tmrPend := 0 }) rfl (fun _ => ⟨rfl, rfl, rfl, rfl, rfl, rfl⟩) hgo rfl
        (.inl rfl) (fun v => v[0] = 0 ∧ v[1] = BitVec.ofNat 64 n) ⟨rfl, rfl⟩
    case notice =>
      exact event_enters hc (fun c => { c with notices := c.notices.drop 1 }) rfl (fun _ => ⟨rfl, rfl, rfl, rfl, rfl, rfl⟩) hgo
        rfl (.inr (show 0x33 ≠ 0x10 by decide)) (fun v => v[0] = BitVec.ofNat 64 k) rfl
  case causes =>
    refine ⟨fun hl hs => takeTrap_inHandler_ends hl hs, fun hs hl => ⟨fun hx => takeTrap_fatalCause_ends hs hl hx,
      fun hx htv => takeTrap_noTvec_ends hs hl hx htv, fun hx hn => takeTrap_mismatch_tests hs hl hx hn,
      fun hx => takeTrap_powerOver hs hl hx,
      fun hx hi h1 h2 => takeTrap_svc_reserved hs hl hx hi h1 h2, fun hx hi h => takeTrap_svc_waits hs hl hx hi h,
      fun hx => takeTrap_stays hs hl hx⟩, fun hs hx => takeTrap_late hs hx, fun _ hl hx => takeTrap_endsLogit hl hx⟩
  case completion =>
    obtain ⟨p, hout, hsid, htype, hbody⟩ := sendPkt_append (s := { s with free := s.free + 1 }) hs 0x81
      (launchBody l cause wid v.toList (List.replicate 32 0))
    exact ⟨_, p, exec_launchCompletion_failed hl hd hf, (completeLaunch_out (s := { s with free := s.free + 1 }) hq _).trans hout,
      hsid, htype, hbody⟩

end Sys2Proof.Proofs
end
